-- ==== Sys2Proof/Word.lean ====
section
/-! DEFINITION. The word types of the GST-T9 module. Registers are 64 bits (R14), bytes are 8 bits, a tile row is
128 B and its hop side-band 16 B (R26), an FP32 element is 32 bits and the schedule engine's values are binary64. -/
namespace Sys2Proof

/-- A 64-bit register or doubleword. -/
abbrev Word := BitVec 64

/-- One byte. -/
abbrev Byte := BitVec 8

/-- The bits of an FP32 (binary32) value. -/
abbrev F32 := BitVec 32

/-- The bits of a binary64 value. -/
abbrev F64 := BitVec 64

/-- One 128 B row of a tile. -/
abbrev Row := BitVec 1024

/-- The 16 B of scale extension that go with one row of a tile. -/
abbrev Side := BitVec 128

end Sys2Proof
end

