-- ==== Sys2Proof/Syntax.lean ====
section
/-! DEFINITION. The commands of the module: one constructor per row of the spec's opcode table, in the table's order,
with the row's operands. A scheduled instruction names the physical pier that issues it and its issue slot; an event
that carries a reading from outside (a temperature, a voltage, a comparator) carries it as an operand. -/
namespace Sys2Proof

/-- A physical pier, 0 to 135 (R9). -/
abbrev PierIx := Fin 136
/-- An arch of a pier, 0 to 3 (R9). -/
abbrev ArchIx := Fin 4
/-- A region of a deck store, 0 to 63 (R159). -/
abbrev RegionIx := Fin 64
/-- A gate and its stack, 0 to 7 (R9). -/
abbrev GateIx := Fin 8
/-- A segment of the viaduct, 0 to 7 (R27). -/
abbrev SegIx := Fin 8
/-- A span, 0 to 16 (R9). -/
abbrev SpanIx := Fin 17
/-- A Paune port, 0 to 11 (R9). -/
abbrev PortIx := Fin 12
/-- A mailbox slot, 0 to 63 (R446). -/
abbrev MailIx := Fin 64

/-- The formats of a tile that holds data (R40). -/
inductive Fmt where
  | fp32 | bf16 | fp16 | e4m3 | e5m2 | mxE4m3 | mxE5m2 | mxE3m2 | mxE2m3 | mxE2m1 | mxInt8 | ssf4
deriving DecidableEq, Repr

/-- The two readings of the stationary grid (R80). -/
inductive Shape where
  | row
  | col
deriving DecidableEq, Repr

/-- The two carriageways (R9). -/
inductive Cwy where
  | cw
  | ccw
deriving DecidableEq, Repr

/-- Where a pass takes its streaming rows (R96). -/
inductive PassSrc where
  | feeder
  | carriageway (c : Cwy)
deriving DecidableEq, Repr

/-- A pass descriptor (R96). `pitch` is the code, the row pitch being 64 · 2^pitch. -/
structure PassDesc where
  shape : Shape
  src : PassSrc
  sel : Nat
  base : Nat
  pitch : Nat
  tiles : Nat
  sfmt : Fmt
  tstride : Nat
deriving DecidableEq, Repr

/-- A drain descriptor (R62). -/
structure DrainDesc where
  outFmt : Fmt
  stochastic : Bool
  sat : Bool
  orient : Bool
  wide : Bool
  stream : Fin 64
deriving DecidableEq, Repr

/-- An update descriptor (R340). -/
structure UpdDesc where
  momentum : Bool
  freezeEn : Bool
  shadowEn : Bool
  momBf16 : Bool
  gradBf16 : Bool
  shadowFp16 : Bool
  group : Fin 8
  stateChk : Bool
  gradChk : Bool
  wIn : RegionIx
  wOut : RegionIx
  gIn : RegionIx
  mIn : RegionIx
  mOut : RegionIx
  fIn : RegionIx
  sOut : RegionIx
  object : Nat
deriving DecidableEq, Repr

/-- A stall domain (R300): the bound piers of a segment, or one bound pier that lies in no segment. -/
inductive Dom where
  | seg (s : SegIx)
  | solo (p : PierIx)
deriving DecidableEq, Repr

/-- The functions of VARITH (R297). -/
inductive VArith where
  | add | sub | mul | fma | max | min
deriving DecidableEq, Repr

/-- The functions of VCMP (R297). -/
inductive VCmp where
  | eq | lt | le
deriving DecidableEq, Repr

/-- The functions of VSFU (R70, R297). -/
inductive VSfu where
  | rcp | exp2 | log2 | exp | ln
deriving DecidableEq, Repr

/-- The modes of VSTAT (R152). -/
inductive StatMode where
  | norm | softmax | normPart | softmaxPart
deriving DecidableEq, Repr

/-- A vector register, V0 to V63 (R146). -/
abbrev VReg := Fin 64
/-- A mask register, M0 to M7 (R146). -/
abbrev MReg := Fin 8

/-- A hop record of a probe (R394). -/
structure Hop where
  module : Nat
  arrival : Nat
  output : Nat
deriving DecidableEq, Repr

/-- The common part of a message header (R393). -/
structure MsgHead where
  poison : Bool
  writeCpl : Bool
  attempt : Nat
  dest : Nat
  src : Nat
  ttl : Nat
deriving DecidableEq, Repr

/-- What a message carries, by its type (R394); a LENGTH is that of the data. -/
inductive MsgBody where
  | remoteWrite (tag epoch step offset window : Nat) (data : List Byte)
  | remoteRead (tag epoch offset window length : Nat)
  | readReply (tag status : Nat) (data : List Byte)
  | ringTile (c : Cwy) (segment : Nat) (side data ext : List Byte)
  | mirrorWrite (mseq object offset : Nat) (data : List Byte)
  | keystone (mseq step : Nat) (ack : Bool)
  | sync (subtype tag : Nat) (param data : List Byte)
  | probe (reply trunc : Bool) (tag tSend tReply : Nat) (hops : List Hop)
deriving DecidableEq, Repr

/-- A message (R393). -/
structure Msg where
  head : MsgHead
  body : MsgBody
deriving DecidableEq, Repr

/-- A flit as it is sent, without its CRC (R382). -/
structure Flit where
  seq : Nat
  ack : Nat
  kind : Nat
  vc : Nat
  som : Bool
  eom : Bool
  ackValid : Bool
  len : Nat
  crVc : Nat
  crCount : Nat
  payload : List Byte
deriving DecidableEq, Repr

/-- The acknowledgement and the credit return in the header of a LINK flit (R382). -/
structure LinkSide where
  ack : Option Nat
  crVc : Fin 8
  crCount : Nat
deriving DecidableEq, Repr

/-- What a HELLO carries (R379). -/
structure Hello where
  module : Nat
  port : Nat
  role : Nat
  verMin : Nat
  verMax : Nat
  lanes : BitVec 8
  shares : List Nat
  nonce : BitVec 64
deriving DecidableEq, Repr

/-- A HELLO as it arrives: what it carries and its header (R379, R382). -/
structure HelloFlit where
  hello : Hello
  side : LinkSide
deriving DecidableEq, Repr

/-- A START or RECOVER as it arrives: its port and its header (R379, R381, R382). -/
structure PortSide where
  port : PortIx
  side : LinkSide
deriving DecidableEq, Repr

/-- Lanes of a port (R385). -/
structure PortLanes where
  port : PortIx
  lanes : BitVec 8
deriving DecidableEq, Repr

/-- A CPL of the host: its STATUS, and whether it is malformed (R439, R442). -/
structure HostCpl where
  status : Fin 4
  bad : Bool
deriving DecidableEq, Repr

/-- An SNP_INV: its TAG, the host physical address of its line, whether it is malformed (R439, R440), and the STATUS of the read of the
head line, where the line is that (R442, R466). -/
structure SnpLine where
  tag : Nat
  addr : Nat
  bad : Bool
  status : Fin 4
deriving DecidableEq, Repr

/-- The slot of a HELLO, and the STATUS of the read of the head line that it names (R442, R466). -/
structure HelloSlot where
  slot : MailIx
  head : Fin 4
deriving DecidableEq, Repr

/-- The reads of lines at the return of the link: the slots whose header read completes other than OK, with its STATUS, and the STATUS of
the read of the head line (R442, R444). -/
structure LineReads where
  headers : List (MailIx × Fin 4)
  head : Fin 4
deriving DecidableEq, Repr

/-- Where the Juwire link goes: to DETECT, to RECOVERY, or nowhere (R444). -/
inductive JwFall where
  | detect
  | recovery
  | stays
deriving DecidableEq, Repr

/-- The recoveries of the Juwire link that are not yet counted, and where it now goes (R444, R460). -/
structure JwRecoveries where
  count : Nat
  fall : JwFall
deriving DecidableEq, Repr

/-- What a forming pair meets: the STATUS of the read of its map, and what the mate's own checks find, as DETAIL less 1 numbers it
(R409; log 74). -/
structure PairCheck where
  status : Fin 4
  mate : Option (Fin 4)
deriving DecidableEq, Repr

/-- What the test of a pier finds (R532): its result code (R535), the dot units and the deck words that it has newly repaired
softly (R530), the latter by bank and word, and whether the ring loopback, where it ran, passed. -/
structure PierResult where
  code : Fin 6
  units : List (ArchIx × Fin 66)
  decks : List (Fin 40 × Fin 4096)
  loopback : Bool
deriving DecidableEq, Repr

/-- The burn of one soft repair of a pier (R531): a dot unit of an arch, or a deck word of a bank. -/
inductive Burn where
  | unit (p : PierIx) (a : ArchIx) (u : Fin 66)
  | deck (p : PierIx) (bank : Fin 40) (word : Fin 4096)
deriving DecidableEq, Repr

/-- A row that a stack march has repaired softly (R528): its gate, channel, bank and row, the spare and the entry, and whether,
where fuses are burnt, its fuse has verified. -/
structure RowResult where
  gate : GateIx
  channel : Fin 32
  bank : Fin 64
  row : Fin 65536
  spare : Fin 4
  entry : Fin 8
  burnt : Bool
deriving DecidableEq, Repr

/-- What a module or stack test finds (R525, R528, R531): whether the core supply left its range (result 4), the piers that do
not pass without a repair, the repaired rows, the stacks that fail, the 64 B blocks found uncorrectable, the burns that
have not verified, the duration in ms and the last core-supply sample in mV. -/
structure BistResult where
  supplyLost : Bool
  piers : List (PierIx × PierResult)
  rows : List RowResult
  badGates : List GateIx
  blocks : List Nat
  unburnt : List Burn
  ms : Nat
  vcore : Nat
deriving DecidableEq, Repr

/-- What a start of the tollhouse meets: for each slot of the NOR device whether the image that it was made with verifies (R548), and
the draws of 512 B from the entropy source, each with the verdict of the health tests, the last one the draw that passes, if one
does (R494). -/
structure TollBoot where
  made : List Bool
  draws : List (List Byte × Bool)
deriving DecidableEq, Repr

/-- What the boot of the module meets: the start of its tollhouse, the gates whose stacks fail training (R243), what the power-up
self-test finds and, where native mode has met result 4, what the T7-compatible test then finds (R516, R527), the first reading of the 17
junction sensors in 0.25 °C (R478), and the voltage of the hold-up bank at the release in 10 mV (R505, R516). -/
structure ModuleBoot where
  toll : TollBoot
  untrained : List GateIx
  first : BistResult
  again : BistResult
  temps : List Nat
  bank : Nat
deriving DecidableEq, Repr

/-- The end of an averaging window: the average power in watts (R329), and the voltage of the hold-up bank in 10 mV (R523). -/
structure WindowReading where
  watts : Nat
  bank : Nat
deriving DecidableEq, Repr

/-- The commands, one constructor per row of the opcode table. -/
inductive Instr where
  /-- LOADS: load the tile at a region's consuming end into the stationary grid (R77, R296). -/
  | loads (p : PierIx) (t : Nat) (a : ArchIx) (region : RegionIx) (d : Nat) (keep : Bool) (fmt : Fmt)
  /-- PASS: stream tiles against the grid into the spandrel (R96, R296). -/
  | pass (p : PierIx) (t : Nat) (a : ArchIx) (desc : PassDesc) (region : RegionIx) (d : Nat) (keep : Bool)
  /-- DRAIN: convert a block of the spandrel into one tile (R90, R296). -/
  | drain (p : PierIx) (t : Nat) (a : ArchIx) (desc : DrainDesc) (base pitch : Nat) (clear : Bool) (region : RegionIx)
  /-- ZERO: clear a range of spandrel entries (R89). -/
  | zero (p : PierIx) (t : Nat) (a : ArchIx) (base count : Nat)
  /-- INJECT: place a stream of tiles on a carriageway (R119, R120). -/
  | inject (p : PierIx) (t : Nat) (c : Cwy) (region : RegionIx) (tiles : Nat) (fmt : Fmt) (exit : Bool) (d : Nat)
      (keep : Bool)
  /-- FLIP: swap the halves of a region (R174). -/
  | flip (p : PierIx) (t : Nat) (region : RegionIx)
  /-- RELEASE: release COUNT tiles of a region, one per cycle (R171). -/
  | release (p : PierIx) (t : Nat) (region : RegionIx) (count : Nat)
  /-- ARM: start an approach gang from tile 0 (R190). -/
  | arm (p : PierIx) (t : Nat) (stream : Fin 16)
  /-- COPY: start a copy descriptor (R274). -/
  | copy (p : PierIx) (t : Nat) (desc : Fin 8)
  /-- CWAIT: wait for every write of a copy run and raise its first fault (R274). -/
  | cwait (p : PierIx) (t : Nat) (desc : Fin 8)
  /-- JOINT: hold the domain until earlier work has finished; `config` is the record it names, if any (R305). -/
  | joint (p : PierIx) (t : Nat) (config : Option Nat)
  /-- JOINT_COMPLETE: the joint completes in every bound pier (R305), in cycle `cycle` since LAUNCH. -/
  | jointComplete (cycle : Nat)
  /-- BARRIER: wait until every pier named by the mask has issued the same barrier (R306). -/
  | barrier (p : PierIx) (t : Nat) (mask : BitVec 8) (unseg : Bool)
  /-- BARRIER_COMPLETE: the barrier completes in every pier the mask names (R306), in cycle `cycle` since LAUNCH. -/
  | barrierComplete (mask : BitVec 8) (unseg : Bool) (cycle : Nat)
  /-- TACQ: acquire tokens within the span's granted budget (R324, R326). -/
  | tacq (p : PierIx) (t : Nat) (amount : Nat)
  /-- TREL: release tokens; with `all` every token that the pier holds (R324). -/
  | trel (p : PierIx) (t : Nat) (amount : Nat) (all : Bool)
  /-- LOOP: execute the BODY bundles that follow COUNT times; the body's first slot is `first` and one pass of it takes
  `len` slots (R298). -/
  | loop (p : PierIx) (t : Nat) (count body first len : Nat)
  /-- HALT: the pier issues nothing more (R299). -/
  | halt (p : PierIx) (t : Nat)
  /-- SCHEDULE_DONE: every bound pier has halted and all work has completed (R299). -/
  | scheduleDone
  /-- VLD: load a part of the tile at offset 0 of a region (R146). -/
  | vld (p : PierIx) (t : Nat) (vd : VReg) (region : RegionIx) (part : Nat) (keep : Bool) (fmt : Fmt)
      (mask : Option MReg)
  /-- VST: store a register into a part of the tile being built in a region (R147). -/
  | vst (p : PierIx) (t : Nat) (va : VReg) (region : RegionIx) (part : Nat) (last : Bool) (fmt : Fmt)
      (mask : Option MReg)
  /-- VARITH: lanewise arithmetic (R146, R297). -/
  | varith (p : PierIx) (t : Nat) (fn : VArith) (vd va vb vc : VReg) (mask : Option MReg)
  /-- VCMP: lanewise compare into a mask (R146). -/
  | vcmp (p : PierIx) (t : Nat) (fn : VCmp) (md : MReg) (va vb : VReg) (mask : Option MReg)
  /-- VSEL: select by mask (R146). -/
  | vsel (p : PierIx) (t : Nat) (vd va vb : VReg) (sel : MReg)
  /-- VSFU: a special function of every lane (R70). -/
  | vsfu (p : PierIx) (t : Nat) (fn : VSfu) (vd va : VReg) (mask : Option MReg)
  /-- VRED: ADD or MAX of the 128 lanes (R148). -/
  | vred (p : PierIx) (t : Nat) (isMax : Bool) (vd va : VReg) (mask : Option MReg)
  /-- VTRANS: transpose a 64 × 64 block (R149). -/
  | vtrans (p : PierIx) (t : Nat) (src dst : RegionIx) (d : Nat) (keep : Bool) (fmt : Fmt)
  /-- VSTAT: row statistics of 2L tiles (R152). -/
  | vstat (p : PierIx) (t : Nat) (mode : StatMode) (src stats : RegionIx) (d l : Nat) (eps : VReg)
  /-- VSTATC: combine record group `group` of P partial tiles (R155). -/
  | vstatc (p : PierIx) (t : Nat) (softmax : Bool) (src stats : RegionIx) (parts : Nat) (group : Fin 8) (eps np : VReg)
  /-- VSTATF: write the open statistics tile of a region (R155). -/
  | vstatf (p : PierIx) (t : Nat) (stats : RegionIx)
  /-- VRNG: uniform values; forms 0 and 1 are reproducible, 2 and 3 wide, 1 and 3 write a pair (R362). -/
  | vrng (p : PierIx) (t : Nat) (form : Fin 4) (vd : VReg) (stream : Fin 64)
  /-- VLDC: load 128 constants from byte 64 · OFFSET of the image object (R150). -/
  | vldc (p : PierIx) (t : Nat) (vd : VReg) (offset : Nat) (fmt : Fmt)
  /-- UPD: update TILES weight tiles by descriptor `n` (R342, R343). -/
  | upd (p : PierIx) (t : Nat) (n : Fin 1024) (desc : UpdDesc) (tiles : Nat)
  /-- USCAL: write a latched scalar into every lane (R353). -/
  | uscal (p : PierIx) (t : Nat) (vd : VReg) (group : Fin 8) (index : Nat)
  /-- RING_LOOPBACK_DONE: the loopback test of a segment ends; `failed` are the piers whose entry check failed in two runs
  (R132). -/
  | ringLoopbackDone (seg : SegIx) (failed : List PierIx)
  /-- RING_TILE_SEND: the next landed tile of a carriageway's exit region is sent on the extension port (R129). -/
  | ringTileSend (seg : SegIx) (c : Cwy)
  /-- STOP_TIMEOUT: a domain has not reached a joint within 2¹⁸ cycles of the failure (R311). -/
  | stopTimeout (d : Dom)
  /-- STEP_ABANDONED: every domain has stopped after a failure (R311). -/
  | stepAbandoned
  /-- PREEMPT_SAVE: at the joint after PREEMPT the tollhouse saves every bound pier (R307). -/
  | preemptSave
  /-- REGION_DEADLOCK: a domain's deadlock counter reaches its limit (R176, R177). -/
  | regionDeadlock (d : Dom)
  /-- QUOTA_WINDOW_END: a 256-cycle window of the arbiters ends (R164). -/
  | quotaWindowEnd
  /-- TAG_ALLOCATE: the approach engine of a pier allocates a tag (R195). -/
  | tagAllocate (p : PierIx)
  /-- TRANSFER_REPLY: request `req` of tag `num` is answered under an attempt number; `upset` names a 64 B block with its
  symbols in error (R197, R234). -/
  | transferReply (p : PierIx) (num req attempt : Nat) (upset : Option (Nat × Nat))
  /-- TAG_TIMEOUT: the requests of a tag stay unanswered past the timeout (R198); `copy` names a tag of the copy engine. -/
  | tagTimeout (p : PierIx) (copy : Bool) (num : Nat)
  /-- WATCH_WAIT_TIMEOUT: a tag's wait for a watch entry reaches its limit (R206). -/
  | watchWaitTimeout (p : PierIx) (copy : Bool) (num : Nat)
  /-- STALE_NOTICE: a pier accepts the oldest notice on its way to it (R203). -/
  | staleNotice (p : PierIx)
  /-- COPY_TILE: the copy engine moves one tile of a running descriptor (R274). -/
  | copyTile (p : PierIx) (desc : Fin 8) (upset : Option (Nat × Nat))
  /-- GATE_ACCESS: an access of class `cls` (0 read, 1 write, 2 remote) arrives at a gate (R224): `len` bytes are read, or
  `data` is written, with its poison flag. -/
  | gateAccess (cls : Fin 3) (addr len : Nat) (data : Option (List Byte)) (poison : Bool) (upset : Option (Nat × Nat))
  /-- STACK_REFRESH: the hardware timer of a gate issues refresh (R233). -/
  | stackRefresh (g : GateIx)
  /-- SCRUB_BURST: a gate reads and corrects the next codeword of its scrub walk, which has `symbols` in error (R237). -/
  | scrubBurst (g : GateIx) (symbols : Nat)
  /-- STACK_TEMP_READING: a gate reads its stack's temperature, in whole degrees (R231). -/
  | stackTempReading (g : GateIx) (celsius : Nat)
  /-- REPAIR_WINDOW: the refresh window of a pending repair; the gate takes spare `spare` and, for a soft repair, entry
  `entry` of the channel where they are free; `symbols` are those in error by column, and `burnt` says that the fuses of a
  hard repair have burnt (R240-R242). -/
  | repairWindow (g : GateIx) (spare : Fin 4) (entry : Fin 8) (symbols : List Nat) (burnt : Bool)
  /-- EXTENT_MOVE: the extent of home-table entry `entry` is moved; `remote` are the bytes of a source in another module,
  and `upset` names a 64 B block of a stack with its symbols in error (R266). -/
  | extentMove (entry : Nat) (remote : List Byte) (upset : Option (Nat × Nat))
  /-- POOL_EVICT: free pool frames are below the reserve (R270). -/
  | poolEvict
  /-- BRING_UP: the tollhouse takes pool frame `frame` for the pooled extent of home-table entry `entry` (R271). -/
  | bringUp (entry frame : Nat)
  /-- HELLO: the packet of slot `k` (R457). -/
  | hello (k : HelloSlot)
  /-- QUERY_SUMMARY: the packet of slot `k` is QUERY with WHAT 0 (R455). -/
  | querySummary (k : MailIx)
  /-- QUERY_PIER_MAP: QUERY with WHAT 1; `status` is that of the write to its buffer (R442, R455). -/
  | queryPierMap (k : MailIx) (status : Fin 4)
  /-- QUERY_PROBE: QUERY with WHAT 2 (R394, R455). -/
  | queryProbe (k : MailIx)
  /-- PROBE_TIMEOUT: the probe of slot `k` has had no reply for 10 ms (R455). -/
  | probeTimeout (k : MailIx)
  /-- LOAD_IMAGE: the packet of slot `k` names the image object (R287, R552). -/
  | loadImage (k : MailIx)
  /-- BIND: the packet of slot `k` names a pier count (R293). -/
  | bind (k : MailIx)
  /-- LAUNCH: the packet of slot `k` (R299, R455). The hold-up bank stands at `bank`, and a measurement that is due reads `v1`
  and `v2`, each in 10 mV (R506, R507). -/
  | launch (k : MailIx) (bank v1 v2 : Nat)
  /-- PREEMPT: the packet of slot `k` asks for pre-emption at the next joint (R307). -/
  | preempt (k : MailIx)
  /-- RESUME: the packet of slot `k` names the save object (R308); the bank as for LAUNCH. -/
  | resume (k : MailIx) (bank v1 v2 : Nat)
  /-- STEP_COMMIT: the packet of slot `k`, in its committing form (R421). -/
  | stepCommit (k : MailIx)
  /-- STEP_COMMIT_SET: the packet of slot `k`, in its setting form (R433). -/
  | stepCommitSet (k : MailIx)
  /-- MAP_OBJECT: the packet of slot `k`; `status` is the CPL STATUS of the read of its entries from host memory (R265, R442, R455). -/
  | mapObject (k : MailIx) (status : Fin 4)
  /-- MOVE_OBJECT: the packet of slot `k` (R266). -/
  | moveObject (k : MailIx)
  /-- OPEN_WINDOW: the packet of slot `k` (R277). -/
  | openWindow (k : MailIx)
  /-- CLOSE_WINDOW: the packet of slot `k`; given again while it runs, it completes once the writes under way have (R279). -/
  | closeWindow (k : MailIx)
  /-- SET_BUDGET: the packet of slot `k` (R34). -/
  | setBudget (k : MailIx)
  /-- PAIR_FORM: the packet of slot `k`; the STATUS of the read of its map from host memory, and what the mate's own checks find, as
  DETAIL less 1 numbers it (R409; log 74). -/
  | pairForm (k : MailIx) (check : PairCheck)
  /-- PAIR_FAILOVER: the packet of slot `k` (R429). -/
  | pairFailover (k : MailIx)
  /-- PAIR_REJOIN: the packet of slot `k`; `check` as for PAIR_FORM (R431). -/
  | pairRejoin (k : MailIx) (check : PairCheck)
  /-- FENCE_PIER: the packet of slot `k` (R534). -/
  | fencePier (k : MailIx)
  /-- ADMIT_PIER: the packet of slot `k` (R533). -/
  | admitPier (k : MailIx)
  /-- BIST_MODULE_NATIVE: the packet of slot `k` is BIST_RUN with SCOPE 0 (R525). -/
  | bistModuleNative (k : MailIx)
  /-- BIST_MODULE_T7: the packet of slot `k` is BIST_RUN with SCOPE 1 (R525). -/
  | bistModuleT7 (k : MailIx)
  /-- BIST_PIER: the packet of slot `k` is BIST_RUN with SCOPE 2 (R532). -/
  | bistPier (k : MailIx)
  /-- BIST_STACK: the packet of slot `k` is BIST_RUN with SCOPE 3 (R528). -/
  | bistStack (k : MailIx)
  /-- BIST_DONE: the module or stack test ends with what it found (R536). -/
  | bistDone (r : BistResult)
  /-- PIER_TEST_DONE: the test of a pier finishes after `ms` milliseconds with what it found (R532). -/
  | pierTestDone (p : PierIx) (r : PierResult) (ms : Nat)
  /-- UPDATE_FIRMWARE_TOLLHOUSE: the packet of slot `k` with TARGET 0 (R549). -/
  | updateFirmwareTollhouse (k : MailIx)
  /-- UPDATE_FIRMWARE_GATE: the same with TARGET 1 (R550). -/
  | updateFirmwareGate (k : MailIx)
  /-- UPDATE_FIRMWARE_PORT: the same with TARGET 2 (R550). -/
  | updateFirmwarePort (k : MailIx)
  /-- FW_SWITCH (R539). -/
  | fwSwitch
  /-- FW_SWITCH_TIMEOUT (R539). -/
  | fwSwitchTimeout
  /-- FW_TRIAL_END (R549). -/
  | fwTrialEnd
  /-- TOLLHOUSE_WDT: the watchdog expires at firmware address `addr` (R480). -/
  | tollhouseWdt (addr : Nat)
  /-- READ_LOG: the packet of slot `k`; `status` is that of the write to its buffer (R442, R455). -/
  | readLog (k : MailIx) (status : Fin 4)
  /-- CORRELATE_TIME: the packet of slot `k` (R495). -/
  | correlateTime (k : MailIx)
  /-- ATTEST of the packet in slot `k`; `status` is that of the write to the buffer (R442, R555). -/
  | attest (k : MailIx) (status : Fin 4)
  /-- UNLOCK_PASSWORD: UNLOCK_SERVICE with METHOD 1 (R557). -/
  | unlockPassword (k : MailIx)
  /-- UNLOCK_CHALLENGE: UNLOCK_SERVICE with METHOD 2 (R557). -/
  | unlockChallenge (k : MailIx)
  /-- UNLOCK_SIGNED_RESPONSE: UNLOCK_SERVICE with METHOD 3 (R557). -/
  | unlockSignedResponse (k : MailIx)
  /-- CHALLENGE_EXPIRY (R557). -/
  | challengeExpiry
  /-- RESET_WARM: RESET KIND 0 of the packet in slot `k` (R454, R515, R517). -/
  | resetWarm (k : MailIx) (b : TollBoot)
  /-- RESET_PIER: the packet of slot `k` is RESET with KIND 1 (R519). -/
  | resetPier (k : MailIx)
  /-- RESET_LINK: RESET KIND 2 of the packet in slot `k` (R520). -/
  | resetLink (k : MailIx)
  /-- PACKET_ACCEPT: the header of slot `k` is read again, and where its SEQ is new the packet is accepted; the STATUS of the two reads
  (R446). -/
  | packetAccept (k : MailIx) (header params : Fin 4)
  /-- JW_RD: a host read of `len` bytes at a device address; `bad` says that a reserved field is not zero, and `upset` names a 64 B block
  with its symbols in error (R439, R442). -/
  | jwRd (tag addr len : Nat) (bad : Bool) (upset : Option (Nat × Nat))
  /-- JW_WR: a host write of `data` at a device address; `bad` and `upset` as for JW_RD (R439, R442). -/
  | jwWr (tag addr : Nat) (data : List Byte) (bad : Bool) (upset : Option (Nat × Nat))
  /-- JW_CPL: the CPL of a device request, with its STATUS; `bad` says that a reserved field is not zero (R439, R442). -/
  | jwCpl (tag : Nat) (cpl : HostCpl)
  /-- SNP_INV: the host invalidates the line at a device address; `writes` are its writes to host memory since the last command, by device
  address; `bad` says that a reserved field is not zero or that LENGTH is not 64 (R439, R440). -/
  | snpInv (line : SnpLine) (writes : List (Nat × List Byte))
  /-- JW_LINK_DOWN: so many flits that failed their CRC, resends and recoveries have not yet been counted, and the Juwire link goes to
  DETECT, to RECOVERY, or nowhere (R437, R444, R460; log 116). -/
  | jwLinkDown (crcErrors retries : Nat) (recoveries : JwRecoveries)
  /-- JW_LINK_UP: the Juwire link comes up with the lanes that have locked at both ends and the host's version range; `reads` is how the
  lines then read (R437, R442, R444). -/
  | jwLinkUp (lanes : BitVec 32) (verMin verMax : Nat) (reads : LineReads)
  /-- EVT_PRESENT: firmware takes the presented notice (R471). -/
  | evtPresent
  /-- EVT_DONE: firmware completes a service level (R471). -/
  | evtDone (level : Fin 8)
  /-- EVT_FLUSH: firmware writes EVT_DONE with FLUSH (R472). -/
  | evtFlush
  /-- EVENT_RECORD_DONE: the write of the outstanding event record completes (R467). -/
  | eventRecordDone
  /-- MAILBOX_ENABLE: a write to MAILBOX_CFG that sets ENABLE; `faults` are the slots whose header read completes other than OK, with its
  STATUS (R442, R446). -/
  | mailboxEnable (value : Word) (faults : List (MailIx × Fin 4))
  /-- MAILBOX_DISABLE: a write to MAILBOX_CFG that clears ENABLE (R448). -/
  | mailboxDisable (value : Word)
  /-- REG_WRITE: a 64-bit write to a register without behaviour of its own (R15). -/
  | regWrite (addr : Nat) (value : Word)
  /-- UNIT_REPAIR_WRITE: a write to UNIT_REPAIR of an arch (R103). -/
  | unitRepairWrite (p : PierIx) (a : ArchIx) (value : Word)
  /-- WATCH_SEL: a write to WATCH_SEL of gate `g` latches entry `index` of its watch table (R245). -/
  | watchSel (g : GateIx) (index : Fin 256)
  /-- PARAPET_SEL: a write to PARAPET_SEL latches parapet `index` (R373). -/
  | parapetSel (index : Fin 1024)
  /-- PORT_ROLE_WRITE: a write to PORT_CFG of a port (R386). -/
  | portRoleWrite (n : PortIx) (value : Word)
  /-- SENSE_CFG_WRITE: a write to SENSE_CFG; `held` are the inputs that are part-way through filtering with the sense cycles that they have
  held, and `mv` is the supply input in millivolts (R476). -/
  | senseCfgWrite (value : Word) (held : List (Fin 6 × Nat)) (mv : Nat)
  /-- SOFT_REPAIR: a write to REPAIR_CTRL of gate `g` with OP 1: a soft row repair (R240). -/
  | softRepair (g : GateIx) (channel : Fin 32) (bank : Fin 64) (row : Fin 65536)
  /-- HARD_REPAIR: a write to REPAIR_CTRL of gate `g` with OP 2: a fused row repair (R241). -/
  | hardRepair (g : GateIx) (channel : Fin 32) (bank : Fin 64) (row : Fin 65536)
  /-- RELEASE_SOFT_REPAIR: a write to REPAIR_CTRL of gate `g` with OP 3: the release of a soft row repair (R242). -/
  | releaseSoftRepair (g : GateIx) (channel : Fin 32) (bank : Fin 64) (row : Fin 65536)
  /-- POWER_WAKE: POWER_CTRL.TARGET = 1 (R512). -/
  | powerWake
  /-- POWER_DOZE: POWER_CTRL.TARGET = 2 (R512). -/
  | powerDoze
  /-- POWER_PARK: POWER_CTRL.TARGET = 3 (R514). -/
  | powerPark
  /-- HOLDUP_MEASURE: POWER_CTRL.MEASURE = 1 (R506). -/
  | holdupMeasure
  /-- HOLDUP_MEASURE_DONE: the measurement reads V1 and V2, and the bank stands at `bank`, each in 10 mV (R506). -/
  | holdupMeasureDone (bank v1 v2 : Nat)
  /-- HOLDUP_AGE_EXPIRY: the last measurement is older than HOLDUP_AGE_S (R506). -/
  | holdupAgeExpiry
  /-- SERVICE_CLOSE: a write of SERVICE_CTRL.CLOSE (R557). -/
  | serviceClose
  /-- OWNER_ENROL_SLOT: OP 1 of OWNER_FUSE_CTRL; `verified` says that the fuses verify (R558). -/
  | ownerEnrolSlot (slot : Fin 2) (verified : Bool)
  /-- OWNER_REVOKE_SLOT: OP 2 (R558). -/
  | ownerRevokeSlot (slot : Fin 2) (verified : Bool)
  /-- OWNER_WRITE_PASSWORD: OP 3 (R558). -/
  | ownerWritePassword (verified : Bool)
  /-- OWNER_WRITE_DEBUG_KEY: OP 4 (R558). -/
  | ownerWriteDebugKey (verified : Bool)
  /-- SB_REG_READ: a 64-bit read over the sideband (R571). -/
  | sbRegRead (addr : Nat)
  /-- SB_REG_WRITE: a 64-bit write over the sideband (R571). -/
  | sbRegWrite (addr : Nat) (value : Word)
  /-- SB_IMAGE_WRITE: bytes for tollhouse image slot A (R571). -/
  | sbImageWrite (offset : Nat) (data : List Byte)
  /-- SB_SERVICE_OP: a sideband transfer with a command byte that is none of 0x01 to 0x03: a service operation where it is 0x10 to 0x1F
  (R556, R571). -/
  | sbServiceOp (op : Byte)
  /-- DATA_FLIT: the 256 bytes of a flit arrive on a port; `bad` says that a codeword of it was not corrected, and the FEC found `corrected`
  symbols to correct and `uncorr` codewords that it cannot (R376, R383). -/
  | dataFlit (n : PortIx) (bytes : List Byte) (bad : Bool) (corrected uncorr : Nat)
  /-- NULL_FLIT: the same for a NULL flit (R382). -/
  | nullFlit (n : PortIx) (bytes : List Byte) (bad : Bool) (corrected uncorr : Nat)
  /-- RETRY_REQ: the same for a LINK flit with a retry request (R383). -/
  | retryReq (n : PortIx) (bytes : List Byte) (bad : Bool) (corrected uncorr : Nat)
  /-- ACK_TIMEOUT: ACK has not advanced on a port for ACK_TO_US (R383). -/
  | ackTimeout (n : PortIx)
  /-- LINK_HELLO: a HELLO LINK flit arrives (R379). -/
  | linkHello (n : PortIx) (h : HelloFlit)
  /-- LINK_START: a START LINK flit arrives (R379). -/
  | linkStart (n : PortSide)
  /-- LINK_RECOVER: a RECOVER LINK flit arrives (R381). -/
  | linkRecover (n : PortSide)
  /-- LANE_SIGNAL_DETECT: the lanes of a port that have signal (R378). -/
  | laneSignalDetect (n : PortIx) (lanes : BitVec 8)
  /-- LINK_TRAIN_DONE: training completes on a port (R378). -/
  | linkTrainDone (n : PortIx)
  /-- LINK_TRAIN_FAIL: training has not completed in 500 ms (R378). -/
  | linkTrainFail (n : PortIx)
  /-- ALIGN_LOCK: the lanes that a port has locked (R380). -/
  | alignLock (n : PortIx) (lanes : BitVec 8)
  /-- ALIGN_TIMEOUT: ALIGN has not locked within 100 ms (R378). -/
  | alignTimeout (n : PortIx)
  /-- EXCHANGE_RETRY: the pause after a conflict ends (R379). -/
  | exchangeRetry (n : PortIx)
  /-- LANE_SIGNAL_LOSS: the lanes of a port lose signal for 1 ms (R378). -/
  | laneSignalLoss (n : PortIx)
  /-- LOCK_LOSS: a lane in use loses block or codeword lock (R385). -/
  | lockLoss (n : PortLanes)
  /-- RECOVERY_TIMEOUT: RECOVERY lasts longer than RECOVERY_MS (R378). -/
  | recoveryTimeout (n : PortIx)
  /-- ROUTE_MESSAGE: a message for another module arrives on port `n` with its DL (R389). -/
  | routeMessage (n : PortIx) (dl : Fin 2) (m : Msg)
  /-- REMOTE_WRITE: the message arrives on port `n` with its DL and header (R278). -/
  | remoteWrite (n : PortIx) (dl : Fin 2) (h : MsgHead) (tag epoch step offset window : Nat) (data : List Byte)
  /-- REMOTE_READ: the message arrives; `length` is in 128 B units (R280). -/
  | remoteRead (n : PortIx) (dl : Fin 2) (h : MsgHead) (tag epoch offset window length : Nat)
  /-- READ_REPLY: the message arrives (R396). -/
  | readReply (n : PortIx) (dl : Fin 2) (h : MsgHead) (tag status : Nat) (data : List Byte)
  /-- RING_TILE: the message arrives (R399). -/
  | ringTile (n : PortIx) (dl : Fin 2) (h : MsgHead) (c : Cwy) (seg : Nat) (side data ext : List Byte)
  /-- MIRROR_WRITE: the message arrives (R416). -/
  | mirrorWrite (n : PortIx) (dl : Fin 2) (h : MsgHead) (mseq object offset : Nat) (data : List Byte)
  /-- KEYSTONE: a keystone request arrives (R421). -/
  | keystone (n : PortIx) (dl : Fin 2) (h : MsgHead) (mseq step : Nat)
  /-- KEYSTONE_ACK: a keystone acknowledgement arrives (R421). -/
  | keystoneAck (n : PortIx) (dl : Fin 2) (h : MsgHead) (mseq step : Nat)
  /-- SYNC_FORM: the message arrives (R420). -/
  | syncForm (n : PortIx) (dl : Fin 2) (h : MsgHead) (tag step entries kind : Nat)
  /-- SYNC_MAP: the message arrives, with its objects and sizes (R420). -/
  | syncMap (n : PortIx) (dl : Fin 2) (h : MsgHead) (tag : Nat) (entries : List (Nat × Nat))
  /-- READY: the message arrives (R431). -/
  | ready (n : PortIx) (dl : Fin 2) (h : MsgHead) (tag mseq : Nat)
  /-- MIRROR_APPLIED: the message arrives (R417). -/
  | mirrorApplied (n : PortIx) (dl : Fin 2) (h : MsgHead) (tag mseq : Nat)
  /-- MIRROR_RESEND: the message arrives (R417). -/
  | mirrorResend (n : PortIx) (dl : Fin 2) (h : MsgHead) (tag mseq : Nat)
  /-- KEYSTONE_REFUSED: the message arrives (R424). -/
  | keystoneRefused (n : PortIx) (dl : Fin 2) (h : MsgHead) (tag mseq step reason : Nat)
  /-- HANDOVER: the message arrives (R432). -/
  | handover (n : PortIx) (dl : Fin 2) (h : MsgHead) (tag step : Nat)
  /-- PROBE: a request arrives (R394). -/
  | probe (n : PortIx) (dl : Fin 2) (h : MsgHead) (trunc : Bool) (tag tSend : Nat) (hops : List Hop)
  /-- PROBE_REPLY: a reply arrives; `status` is that of the write of its hop records to host memory (R394, R442, R455). -/
  | probeReply (n : PortIx) (dl : Fin 2) (h : MsgHead) (trunc : Bool) (tag tSend tReply : Nat) (hops : List Hop) (status : Fin 4)
  /-- MIRROR_APPLIED_TIMER (R417). -/
  | mirrorAppliedTimer
  /-- MIRROR_GAP_TIMEOUT: an expected MSEQ has been missing for 100 µs; with `lost` the sender has not answered because its log no longer
  holds it (R417). -/
  | mirrorGapTimeout (lost : Bool)
  /-- KEYSTONE_RESEND_TIMER (R421). -/
  | keystoneResendTimer
  /-- PAIR_COMMIT_TIMEOUT (R424). -/
  | pairCommitTimeout
  /-- PAIR_SILENCE_TIMEOUT (R427). -/
  | pairSilenceTimeout
  /-- BULK_EXTENT_COPY: the next extent of the bulk copy is sent under a hold; `upset` names a 64 B block with its symbols in error (R415). -/
  | bulkExtentCopy (upset : Option (Nat × Nat))
  /-- PAIR_ALIVE_LOW: the filtered PAIR_ALIVE line goes low (R427). -/
  | pairAliveLow
  /-- PAIR_ALIVE_HIGH: the filtered PAIR_ALIVE line goes high (R474). -/
  | pairAliveHigh
  /-- THERM_ALERT_ASSERT: the filtered THERM_ALERT_L line goes low (R329). -/
  | thermAlertAssert
  /-- THERM_ALERT_DEASSERT: the filtered THERM_ALERT_L line returns high (R329). -/
  | thermAlertDeassert
  /-- JUNCTION_READING: a reading of the 17 junction sensors in 0.25 °C, from span 0 (R478). -/
  | junctionReading (temps : List Nat)
  /-- THERM_TRIP_CLEAR: every sensor has read 95.0 °C or less for 1 s (R478). -/
  | thermTripClear
  /-- SUPPLY_WINDOW_END: an averaging window ends, with the input in 10 mV and 10 mA and what it reads (R329). -/
  | supplyWindowEnd (vin iin : Nat) (r : WindowReading)
  /-- FSTEP_UPDATE: firmware sets the step of stepped mode (R490). -/
  | fstepUpdate
  /-- REPLICA_MONITOR_FAIL: a replica monitor of a span fails in a cycle (R489). -/
  | replicaMonitorFail (sp : SpanIx)
  /-- REFCLK_LOST: REFCLK has had no edge for 1 µs (R486). -/
  | refclkLost
  /-- REFCLK_RESTORED: REFCLK has returned (R486). -/
  | refclkRestored
  /-- WIDE_RESEED: the wide generators are mixed with the entropy source (R363). -/
  | wideReseed
  /-- ROUTER_FAIL: a router of a pier fails: network 0 bulk, 1 control, 2 sync (R30). -/
  | routerFail (p : PierIx) (net : Fin 3)
  /-- BRACE_ENTER: the filtered warning level asserts at an input of `mv` millivolts (R501). -/
  | braceEnter (mv : Nat)
  /-- SUPPLY_RECOVERY_LEVEL: the filtered recovery level asserts (R500). -/
  | supplyRecoveryLevel
  /-- BRACE_EXIT: the recovery level has held for 10 ms (R502). -/
  | braceExit
  /-- SUPPLY_RESET (R504). -/
  | supplyReset
  /-- SUPPLY_RESET_RELEASE (R504). -/
  | supplyResetRelease (b : TollBoot)
  /-- HOLDUP_EXHAUSTED (R504). -/
  | holdupExhausted
  /-- JOURNAL_WRITE_DONE: the oldest journal write in progress is complete (R508), after the NAND blocks named were found failing. -/
  | journalWriteDone (retired : List Nat)
  /-- POWER_ON (R515). -/
  | powerOn
  /-- MODULE_RESET: the filtered RESET_L goes low (R474, R515). -/
  | moduleReset
  /-- RESET_RELEASE (R516). -/
  | resetRelease (m : ModuleBoot)
  /-- IDLE_ENTRY: nothing has run for IDLE_DELAY_US (R512). -/
  | idleEntry
  /-- GATE_SR_TIMEOUT: a gate has had no access for DOZE_SR_MS in doze (R513). -/
  | gateSrTimeout (g : GateIx)
  /-- PARK_LATCH_WAKE: a park latch catches input 0 RESET_L, 1 PAIR_ALIVE, 2 THERM_ALERT_L, 3 or 4 a supply comparator (R477). -/
  | parkLatchWake (input : Fin 5)
  /-- PARK_WAKE_TIMEOUT: the input has not reached its active filtered level within 1 ms (R477). -/
  | parkWakeTimeout (input : Fin 5)
  /-- HOST_REQUEST_ABORT: the host request with a tag has had no result within 1 ms; `done` says whether a write has been performed all the
  same (R442). -/
  | hostRequestAbort (tag : Nat) (done : Bool)
  /-- SENSE_GLITCH_REJECTED: a change of an input reverts too soon (R474). -/
  | senseGlitchRejected (input : Fin 6)
  /-- RECOVERY_LEVEL_BREAK: the filtered recovery level breaks (R502). -/
  | recoveryLevelBreak
  /-- PIER_CACHE_FILL: the fetch of a 128 B line of the image completes (R178, R302); `upset` gives a byte whose block
  has symbols in error, with their number (R234, R310). -/
  | pierCacheFill (p : PierIx) (line : Nat) (upset : Option (Nat × Nat))
  /-- STALL_RELEASE: the slot of a stalled domain passes its check after `cycles` cycles (R301). -/
  | stallRelease (d : Dom) (cycles : Nat)
  /-- PAUNE_ID_WRITE: a write to PAUNE_ID (R378). -/
  | pauneIdWrite (value : Word)
  /-- AUTH_LOCKOUT_EXPIRY (R557). -/
  | authLockoutExpiry
  /-- DYNAMIC_ADDRESS_ASSIGNMENT: the controller gives the sideband target its dynamic address (R570). -/
  | dynamicAddressAssignment (addr : Fin 128)
deriving DecidableEq, Repr

end Sys2Proof
end

