-- ==== Sys2Proof/Config.lean ====
section
/-! DEFINITION. What the spec leaves open. Every value here has no body: nothing in Lean can evaluate it. -/
namespace Sys2Proof.Config

/-- A value that the spec leaves open. A step that needs one applies it to the counter `State.freeCtr` and advances
that counter, so two draws never meet. -/
opaque freeValue : Nat → BitVec 64

/-- The bytes of the key hashes with which the firmware slots FW0 and FW1 are enrolled at manufacture (R544). -/
opaque firmwareKey : Nat → Fin 48 → BitVec 8

/-- SHA-384 of the boot ROM (R553), and of an image that the module was made with, by its NOR slot. -/
opaque romDigest : BitVec 384
opaque madeDigest : Nat → BitVec 384

/-- VERSION of an image that the module was made with, by its NOR slot (R545). -/
opaque madeVersion : Nat → BitVec 32

/-- The bytes over which the boot nonce is hashed where no draw passes the health tests: the last draw, the boot count and the time counter,
in a layout that the spec does not state (R494). -/
opaque nonceInput : List Byte → BitVec 32 → BitVec 64 → List Byte

/-- The certificates of a report (R554, R555). -/
opaque certHead : Byte
opaque certTail : List Byte

/-- The private half of the identity key, and the secret number of a signature over bytes, attempt by attempt (R543, R554). -/
opaque identityScalar : Nat
opaque signScalar : List Byte → Nat → Nat

/-- The bytes over which the fuses are hashed for MR5: the key slot states, their hashes, the minimum SVNs, and the password and
debug-key banks, in a layout that the spec does not state (R553). -/
opaque fuseImage : Nat → List (List Byte) → List Nat → List (List Byte) → List (List Byte) → List Byte

end Sys2Proof.Config
end

