-- ==== Sys2Proof/Machine/BootRecord.lean ====
section
/-! DEFINITION. The boot record of the NOR device (R547), and the CRC-32C that it, the journal (R508) and the flits (R383) carry. -/
namespace Sys2Proof.Machine

/-- One bit of CRC-32C, polynomial 0x1EDC_6F41, reflected (R382). -/
def crcBit (c : BitVec 32) : BitVec 32 := if c.getLsbD 0 then (c >>> 1) ^^^ 0x82F63B78#32 else c >>> 1

/-- One byte of CRC-32C. -/
def crcByte (c : BitVec 32) (b : Byte) : BitVec 32 := (List.range 8).foldl (fun c _ => crcBit c) (c ^^^ b.setWidth 32)

/-- CRC-32C of bytes (R382). -/
def crc32c (bs : List Byte) : BitVec 32 := ~~~(bs.foldl crcByte 0xFFFFFFFF#32)

/-- A boot record: its sequence number, the active image of the tollhouse, the gates and the ports (0 A, 1 B), the trial image of the
tollhouse, and the CRC-32C (R547). -/
structure BootRecord where
  seq : Nat
  active : List Nat
  trial : Option Nat
  crc : BitVec 32
deriving DecidableEq, Repr

/-- The bytes that the CRC of a boot record covers; the spec gives the record no layout (DESIGN CHOICE, log 178). -/
def bootImage (seq : Nat) (active : List Nat) (trial : Option Nat) : List Byte :=
  [BitVec.ofNat 8 seq, BitVec.ofNat 8 (seq / 2 ^ 8), BitVec.ofNat 8 (seq / 2 ^ 16), BitVec.ofNat 8 (seq / 2 ^ 24)] ++
    active.map (BitVec.ofNat 8) ++ [BitVec.ofNat 8 (trial.getD 255)]

/-- A boot record with its CRC. -/
def makeBootRecord (seq : Nat) (active : List Nat) (trial : Option Nat) : BootRecord :=
  ⟨seq, active, trial, crc32c (bootImage seq active trial)⟩

/-- Is a boot record valid: does its CRC fit (R547)? -/
def BootRecord.valid (r : BootRecord) : Bool := r.crc = crc32c (bootImage r.seq r.active r.trial)

/-- Is the first of the two copies in force: the valid one, or of two the one with the higher sequence number (R547)? -/
def firstInForce (c : BootRecord × BootRecord) : Bool := c.1.valid && (!c.2.valid || c.2.seq < c.1.seq)

/-- The boot record in force. -/
def bootInForce (c : BootRecord × BootRecord) : BootRecord := if firstInForce c then c.1 else c.2

/-- A record is rewritten in the copy that is not in force, with the next sequence number (R547). -/
def rewriteBoot (c : BootRecord × BootRecord) (active : List Nat) (trial : Option Nat) : BootRecord × BootRecord :=
  let r := makeBootRecord ((bootInForce c).seq + 1) active trial
  if firstInForce c then (c.1, r) else (r, c.2)

end Sys2Proof.Machine
end

