-- ==== Sys2Proof/Machine/Codes.lean ====
section
/-! DEFINITION. The event and fault codes with their encoding, class and level (R479, R480). A code that occurs in more
than one class is listed with the class it has when a scheduled instruction raises it. -/
namespace Sys2Proof.Machine

/-- The event and fault codes (R480). -/
inductive Code where
  | boot | cmdDone | evtQueueOverflow | evtStackFault | tollhouseWdt | journalFault | regAccessFault
  | unmappedAccess | formatMismatch | spandrelRange | gridBusy | drainBusy | gridParity | spandrelUe
  | spandrelCe | unitMapInvalid | ringMiss | injectBusy | ringRole | ringParity | ringExtDown | ringBreak
  | regionInvalid | regionRange | deckUe | deckCe | regionDeadlock | poisonedTile | staleTile | xlateFault
  | permFault | windowClosed | xferTimeout | watchStarved | streamBusy | memCe | memUe | memRowDegraded
  | stackThrottle | stackOvertemp | repairFail | stackFail | poolExhausted | movePoison | parapetWrite
  | bundleUe | barrierMismatch | stepSkew | tokenOverdraft | stepAbandoned | linkDown | linkDegraded
  | linkTrainFail | linkIdConflict | linkVersionMismatch | linkRoleMismatch | msgNoRoute | msgTtlExpired
  | msgMalformed | pairLost | pairMateChanged | pairMirrorFault | pairCommitTimeout | keystoneRefused
  | pairStepSkew | juwireDown | juwireDegraded | hostPoison | mailboxFault | braceEnter | braceExit
  | thermThrottle | supplyThrottle | thermAlert | thermTrip | routerFail | pierFenced | pierFailed
  | fwUpdated
deriving DecidableEq, Repr

/-- The 16-bit encoding of a code, its class (R479) and its level (R480). -/
def Code.row : Code → Nat × Nat × Nat
  | .boot => (0x0001, 0, 0)
  | .cmdDone => (0x0002, 0, 0)
  | .evtQueueOverflow => (0x0003, 0, 0)
  | .evtStackFault => (0x0004, 6, 7)
  | .tollhouseWdt => (0x0005, 6, 7)
  | .journalFault => (0x0006, 2, 2)
  | .regAccessFault => (0x0007, 1, 1)
  | .unmappedAccess => (0x0008, 1, 1)
  | .formatMismatch => (0x0101, 3, 3)
  | .spandrelRange => (0x0102, 3, 3)
  | .gridBusy => (0x0103, 3, 3)
  | .drainBusy => (0x0104, 3, 3)
  | .gridParity => (0x0105, 3, 3)
  | .spandrelUe => (0x0106, 3, 3)
  | .spandrelCe => (0x0107, 1, 1)
  | .unitMapInvalid => (0x0108, 1, 1)
  | .ringMiss => (0x0201, 3, 3)
  | .injectBusy => (0x0202, 3, 3)
  | .ringRole => (0x0203, 3, 3)
  | .ringParity => (0x0204, 4, 4)
  | .ringExtDown => (0x0205, 4, 4)
  | .ringBreak => (0x0206, 2, 2)
  | .regionInvalid => (0x0301, 3, 3)
  | .regionRange => (0x0302, 3, 3)
  | .deckUe => (0x0303, 3, 3)
  | .deckCe => (0x0304, 1, 1)
  | .regionDeadlock => (0x0305, 5, 4)
  | .poisonedTile => (0x0401, 3, 3)
  | .staleTile => (0x0402, 3, 3)
  | .xlateFault => (0x0403, 3, 3)
  | .permFault => (0x0404, 3, 3)
  | .windowClosed => (0x0405, 3, 3)
  | .xferTimeout => (0x0406, 3, 3)
  | .watchStarved => (0x0407, 3, 3)
  | .streamBusy => (0x0408, 3, 3)
  | .memCe => (0x0501, 1, 1)
  | .memUe => (0x0502, 3, 3)
  | .memRowDegraded => (0x0503, 2, 2)
  | .stackThrottle => (0x0504, 2, 2)
  | .stackOvertemp => (0x0505, 6, 6)
  | .repairFail => (0x0506, 2, 2)
  | .stackFail => (0x0507, 6, 6)
  | .poolExhausted => (0x0601, 2, 2)
  | .movePoison => (0x0602, 2, 2)
  | .parapetWrite => (0x0603, 3, 3)
  | .bundleUe => (0x0701, 4, 4)
  | .barrierMismatch => (0x0702, 3, 3)
  | .stepSkew => (0x0703, 3, 3)
  | .tokenOverdraft => (0x0704, 3, 3)
  | .stepAbandoned => (0x0705, 0, 4)
  | .linkDown => (0x0801, 2, 2)
  | .linkDegraded => (0x0802, 1, 1)
  | .linkTrainFail => (0x0803, 1, 1)
  | .linkIdConflict => (0x0804, 2, 2)
  | .linkVersionMismatch => (0x0805, 2, 2)
  | .linkRoleMismatch => (0x0806, 2, 2)
  | .msgNoRoute => (0x0807, 1, 1)
  | .msgTtlExpired => (0x0808, 1, 1)
  | .msgMalformed => (0x0809, 1, 1)
  | .pairLost => (0x0901, 2, 5)
  | .pairMateChanged => (0x0902, 2, 5)
  | .pairMirrorFault => (0x0903, 2, 5)
  | .pairCommitTimeout => (0x0904, 2, 5)
  | .keystoneRefused => (0x0905, 2, 5)
  | .pairStepSkew => (0x0906, 2, 5)
  | .juwireDown => (0x0A01, 2, 2)
  | .juwireDegraded => (0x0A02, 1, 1)
  | .hostPoison => (0x0A03, 2, 2)
  | .mailboxFault => (0x0A04, 2, 2)
  | .braceEnter => (0x0B01, 6, 7)
  | .braceExit => (0x0B02, 0, 6)
  | .thermThrottle => (0x0B03, 1, 1)
  | .supplyThrottle => (0x0B04, 1, 1)
  | .thermAlert => (0x0B05, 2, 2)
  | .thermTrip => (0x0B06, 6, 7)
  | .routerFail => (0x0C01, 2, 5)
  | .pierFenced => (0x0C02, 2, 2)
  | .pierFailed => (0x0C03, 2, 2)
  | .fwUpdated => (0x0C04, 0, 0)

/-- The encoding of a code (R480). -/
def Code.num (c : Code) : Nat := c.row.1

/-- The class of a code (R479). -/
def Code.cls (c : Code) : Nat := c.row.2.1

/-- The level of a code (R480). -/
def Code.level (c : Code) : Nat := c.row.2.2

/-- A notice of the event controller: the record of R462 before it is posted, and the cycle since LAUNCH in which a scheduled instruction
has raised it (R470). -/
structure Notice where
  code : Code
  cls : Nat
  level : Nat
  srcKind : Nat
  srcIndex : Nat
  logical : Nat
  time : Word
  step : Nat
  detail : Nat
  cycle : Option Nat
deriving DecidableEq, Repr

end Sys2Proof.Machine
end

