-- ==== Sys2Proof/Machine/Float.lean ====
section
/-! DEFINITION. Exact numbers and their rounding: the value an encoded number stands for (R41), rounding a magnitude to
a format's grid (R63, R66), and IEEE 754 arithmetic in binary32 (R57, R71) and binary64, each computed exactly first
and rounded once. -/
namespace Sys2Proof.Machine

/-- The value of an encoded number: NaN, a signed infinity, or the exact number (-1)^neg * m * 2^e. -/
inductive Val where
  | nan
  | inf (neg : Bool)
  | fin (neg : Bool) (m : Nat) (e : Int)
deriving DecidableEq, Repr

/-- The layout of a floating-point format (R41, R52): mantissa bits, bias, the code of the largest finite magnitude,
the bits below the sign, and whether the code above the largest finite one is an infinity. -/
structure FFmt where
  man : Nat
  bias : Int
  maxCode : Nat
  bits : Nat
  hasInf : Bool
deriving DecidableEq, Repr

/-- FP32 (R41). -/
def fmtF32 : FFmt := ⟨23, 127, 0x7F7FFFFF, 31, true⟩
/-- BF16 (R41). -/
def fmtBF16 : FFmt := ⟨7, 127, 0x7F7F, 15, true⟩
/-- FP16 (R41). -/
def fmtF16 : FFmt := ⟨10, 15, 0x7BFF, 15, true⟩
/-- E4M3 (R41): no infinity; the code above the largest finite one is NaN. -/
def fmtE4M3 : FFmt := ⟨3, 7, 0x7E, 7, false⟩
/-- E5M2 (R41). -/
def fmtE5M2 : FFmt := ⟨2, 15, 0x7B, 7, true⟩
/-- E3M2 (R41): every code is finite. -/
def fmtE3M2 : FFmt := ⟨2, 3, 0x1F, 5, false⟩
/-- E2M3 (R41): every code is finite. -/
def fmtE2M3 : FFmt := ⟨3, 1, 0x1F, 5, false⟩
/-- E2M1 (R41): every code is finite. -/
def fmtE2M1 : FFmt := ⟨1, 1, 0x7, 3, false⟩
/-- The unsigned UE5M3 sub-scale of SSF4 (R41); 0xFF is NaN. -/
def fmtUE5M3 : FFmt := ⟨3, 15, 0xFE, 8, false⟩
/-- IEEE 754 binary64, the schedule engine's arithmetic (R350). -/
def fmtF64 : FFmt := ⟨52, 1023, 0x7FEFFFFFFFFFFFFF, 63, true⟩

/-- The exponent of one unit in the last place of the format's subnormals. -/
def FFmt.qmin (f : FFmt) : Int := 1 - f.bias - f.man

/-- The mantissa and exponent of a finite magnitude code (R41). -/
def FFmt.magOf (f : FFmt) (c : Nat) : Nat × Int :=
  let ef := c / 2 ^ f.man
  let mf := c % 2 ^ f.man
  if ef = 0 then (mf, f.qmin) else (2 ^ f.man + mf, f.qmin + (ef : Int) - 1)

/-- The exact value of a code of the format (R41). A code above the largest finite one is an infinity where the format
has one and NaN otherwise. -/
def FFmt.decode (f : FFmt) (code : Nat) : Val :=
  let neg := code / 2 ^ f.bits % 2 = 1
  let c := code % 2 ^ f.bits
  if f.maxCode < c then
    if f.hasInf && c = f.maxCode + 1 then .inf neg else .nan
  else
    let (m, e) := f.magOf c
    .fin neg m e

/-- ⌊log₂ (num / den · 2^e)⌋ for a non-zero num and den. -/
def floorLog2 (num den : Nat) (e : Int) : Int :=
  let l : Int := (Nat.log2 num : Int) - Nat.log2 den
  let ok := if 0 ≤ l then den * 2 ^ l.toNat ≤ num else den ≤ num * 2 ^ (-l).toNat
  (if ok then l else l - 1) + e

/-- num / den · 2^e as a fraction of integers in units of 2^q. -/
def inUnits (num den : Nat) (e q : Int) : Nat × Nat :=
  if q ≤ e then (num * 2 ^ (e - q).toNat, den) else (num, den * 2 ^ (q - e).toNat)

/-- How a value that lies between two representable magnitudes is rounded: to nearest with ties to even, or
stochastically with the 16-bit random value `u` (R66). -/
inductive Rnd where
  | nearest
  | stochastic (u : Nat)
deriving DecidableEq, Repr

/-- Round the fraction a / b to an integer. Under the stochastic rule F = ⌊f · 65,536⌋ and the magnitude goes up when
u < F (R66). -/
def roundDiv (r : Rnd) (a b : Nat) : Nat :=
  let n := a / b
  let rem := a % b
  match r with
  | .nearest => if b < 2 * rem || (2 * rem = b && n % 2 = 1) then n + 1 else n
  | .stochastic u => if u < rem * 65536 / b then n + 1 else n

/-- The unit in the last place in force for a magnitude whose ⌊log₂⌋ is `l`: the format's own grid, continued above
the largest finite value with the spacing of its top binade (R63). -/
def FFmt.quantum (f : FFmt) (l : Int) : Int :=
  let top : Int := (f.maxCode / 2 ^ f.man : Nat) - f.bias
  let emin := 1 - f.bias
  max emin (min l top) - f.man

/-- The magnitude code that num / den · 2^e rounds to on the format's grid; it may exceed `maxCode`, which is an
overflow (R63). -/
def FFmt.roundCode (f : FFmt) (r : Rnd) (num den : Nat) (e : Int) : Nat :=
  if num = 0 then 0
  else
    let q := f.quantum (floorLog2 num den e)
    let (a, b) := inUnits num den e q
    (q - f.qmin).toNat * 2 ^ f.man + roundDiv r a b

/-- The sign bit's weight in a code of the format. -/
def FFmt.signed (f : FFmt) (neg : Bool) (c : Nat) : Nat :=
  if neg then 2 ^ f.bits + c else c

/-- Round an exact fraction to an IEEE format, to nearest with ties to even; beyond the range it becomes infinity of
the same sign (R56, R71). -/
def FFmt.ieee (f : FFmt) (neg : Bool) (num den : Nat) (e : Int) : Nat :=
  f.signed neg (min (f.roundCode .nearest num den e) (f.maxCode + 1))

/-- The canonical NaN of an IEEE format: the quiet bit only (R52). -/
def FFmt.cnan (f : FFmt) : Nat := f.maxCode + 1 + 2 ^ (f.man - 1)

/-- Round an exact value to an IEEE format, with the canonical NaN. -/
def FFmt.ofVal (f : FFmt) : Val → Nat
  | .nan => f.cnan
  | .inf neg => f.signed neg (f.maxCode + 1)
  | .fin neg m e => f.ieee neg m 1 e

/-- The exact value of FP32 bits. -/
def f32Val (b : F32) : Val := fmtF32.decode b.toNat

/-- RN₃₂: round an exact value to FP32 (R56). -/
def rn32 (v : Val) : F32 := BitVec.ofNat 32 (fmtF32.ofVal v)

/-- The canonical FP32 NaN, 0x7FC0_0000 (R52). -/
def f32Nan : F32 := 0x7FC00000#32

/-- FP32 1.0. -/
def f32One : F32 := 0x3F800000#32

/-- Is the value finite? -/
def Val.isFin : Val → Bool
  | .fin _ _ _ => true
  | _ => false

/-- Is the value a zero of either sign? -/
def Val.isZero : Val → Bool
  | .fin _ m _ => m = 0
  | _ => false

/-- Is the value negative, a signed zero included? NaN is not. -/
def Val.isNeg : Val → Bool
  | .fin n _ _ => n
  | .inf n => n
  | .nan => false

/-- The value with its sign turned. -/
def Val.neg : Val → Val
  | .nan => .nan
  | .inf n => .inf (!n)
  | .fin n m e => .fin (!n) m e

/-- The exact signed integer of a finite value in units of 2^q, for q not above its exponent. -/
def signedAt (neg : Bool) (m : Nat) (e q : Int) : Int :=
  let k : Int := (m * 2 ^ (e - q).toNat : Nat)
  if neg then -k else k

/-- The exact sum, with the IEEE rule for the sign of a zero sum (R57). -/
def Val.add : Val → Val → Val
  | .nan, _ => .nan
  | _, .nan => .nan
  | .inf a, .inf b => if a = b then .inf a else .nan
  | .inf a, _ => .inf a
  | _, .inf b => .inf b
  | .fin na ma ea, .fin nb mb eb =>
    let q := min ea eb
    let s := signedAt na ma ea q + signedAt nb mb eb q
    if s = 0 then .fin (na && nb) 0 q
    else .fin (s < 0) s.natAbs q

/-- The exact product; infinity times zero is NaN. -/
def Val.mul : Val → Val → Val
  | .nan, _ => .nan
  | _, .nan => .nan
  | .inf a, .inf b => .inf (a != b)
  | .inf a, .fin b m _ => if m = 0 then .nan else .inf (a != b)
  | .fin a m _, .inf b => if m = 0 then .nan else .inf (a != b)
  | .fin na ma ea, .fin nb mb eb => .fin (na != nb) (ma * mb) (ea + eb)

/-- x / y rounded once to the format, with the IEEE special cases. -/
def FFmt.divide (f : FFmt) : Val → Val → Nat
  | .nan, _ => f.cnan
  | _, .nan => f.cnan
  | .inf _, .inf _ => f.cnan
  | .inf a, .fin b _ _ => f.signed (a != b) (f.maxCode + 1)
  | .fin a _ _, .inf b => f.signed (a != b) 0
  | .fin a ma ea, .fin b mb eb =>
    if mb = 0 then
      if ma = 0 then f.cnan else f.signed (a != b) (f.maxCode + 1)
    else f.ieee (a != b) ma mb (ea - eb)

/-- Numerical order of two values that are not NaN: negative, zero or positive as the first is below, equal to or above
the second. -/
def Val.cmp : Val → Val → Int
  | .nan, _ => 0
  | _, .nan => 0
  | .inf a, .inf b => if a = b then 0 else if a then -1 else 1
  | .inf a, _ => if a then -1 else 1
  | _, .inf b => if b then 1 else -1
  | .fin na ma ea, .fin nb mb eb =>
    let q := min ea eb
    let d := signedAt na ma ea q - signedAt nb mb eb q
    if d < 0 then -1 else if d = 0 then 0 else 1

/-- FP32 addition (R57, R71). -/
def f32Add (a b : F32) : F32 := rn32 ((f32Val a).add (f32Val b))

/-- FP32 with the sign turned; NaN becomes the canonical NaN. -/
def f32Neg (a : F32) : F32 := rn32 (f32Val a).neg

/-- FP32 subtraction (R71). -/
def f32Sub (a b : F32) : F32 := rn32 ((f32Val a).add (f32Val b).neg)

/-- FP32 multiplication (R71). -/
def f32Mul (a b : F32) : F32 := rn32 ((f32Val a).mul (f32Val b))

/-- FP32 fused multiply-add a · b + c, rounded once (R71). -/
def f32Fma (a b c : F32) : F32 := rn32 (((f32Val a).mul (f32Val b)).add (f32Val c))

/-- FP32 division, rounded once. -/
def f32Div (a b : F32) : F32 := BitVec.ofNat 32 (fmtF32.divide (f32Val a) (f32Val b))

/-- Is the FP32 value NaN? -/
def f32IsNan (a : F32) : Bool := f32Val a = .nan

/-- Is the FP32 value finite? -/
def f32IsFin (a : F32) : Bool := (f32Val a).isFin

/-- Are both FP32 values numbers, and is the first below the second? -/
def f32Lt (a b : F32) : Bool := !f32IsNan a && !f32IsNan b && (f32Val a).cmp (f32Val b) < 0

/-- Are both FP32 values numbers, and are they equal? -/
def f32Eq (a b : F32) : Bool := !f32IsNan a && !f32IsNan b && (f32Val a).cmp (f32Val b) = 0

/-- The exact rounding error of an FP32 addition whose rounded sum is finite (R58, TwoSum), as a value. -/
def twoSumErr (a b t : F32) : Val := ((f32Val a).add (f32Val b)).add (f32Val t).neg

end Sys2Proof.Machine
end

