-- ==== Sys2Proof/Machine/Formats.lean ====
section
/-! DEFINITION. Tiles and number formats: the twelve formats (R40), tile geometry (R42), the side-band fields of a tile
(R44), the scale extension (R45), element decoding (R48-R51), and the encoders of the drain path (R63-R65). -/
namespace Sys2Proof.Machine

/-- The format of a tag; 0x00 is empty and 0x0D to 0xFF are reserved (R40). -/
def fmtOfTag : Nat → Option Fmt
  | 0x01 => some .fp32
  | 0x02 => some .bf16
  | 0x03 => some .fp16
  | 0x04 => some .e4m3
  | 0x05 => some .e5m2
  | 0x06 => some .mxE4m3
  | 0x07 => some .mxE5m2
  | 0x08 => some .mxE3m2
  | 0x09 => some .mxE2m3
  | 0x0A => some .mxE2m1
  | 0x0B => some .mxInt8
  | 0x0C => some .ssf4
  | _ => none

end Sys2Proof.Machine
namespace Sys2Proof
open Sys2Proof.Machine

/-- The tag of a format (R40). -/
def Fmt.tag : Fmt → Nat
  | .fp32 => 0x01
  | .bf16 => 0x02
  | .fp16 => 0x03
  | .e4m3 => 0x04
  | .e5m2 => 0x05
  | .mxE4m3 => 0x06
  | .mxE5m2 => 0x07
  | .mxE3m2 => 0x08
  | .mxE2m3 => 0x09
  | .mxE2m1 => 0x0A
  | .mxInt8 => 0x0B
  | .ssf4 => 0x0C

/-- Element width in bits (R40). -/
def Fmt.elemBits : Fmt → Nat
  | .fp32 => 32
  | .bf16 | .fp16 => 16
  | .e4m3 | .e5m2 | .mxE4m3 | .mxE5m2 | .mxInt8 => 8
  | .mxE3m2 | .mxE2m3 => 6
  | .mxE2m1 | .ssf4 => 4

/-- Columns of a tile (R42). -/
def Fmt.cols : Fmt → Nat
  | .fp32 => 32
  | .bf16 | .fp16 => 64
  | .e4m3 | .e5m2 | .mxE4m3 | .mxE5m2 | .mxInt8 | .mxE3m2 | .mxE2m3 => 128
  | .mxE2m1 | .ssf4 => 256

/-- Elements per scale block; 0 for an unscaled format (R40). -/
def Fmt.block : Fmt → Nat
  | .fp32 | .bf16 | .fp16 | .e4m3 | .e5m2 => 0
  | .mxE4m3 | .mxE5m2 | .mxE3m2 | .mxE2m3 | .mxE2m1 | .mxInt8 => 32
  | .ssf4 => 16

/-- Is the format block-scaled? (tags 0x06 to 0x0C, R45) -/
def Fmt.scaled (f : Fmt) : Bool := f.block != 0

/-- Elements per grid cell: 1, 2 or 4 for the operand classes 16, 8 and 4 (R77); 0 for FP32, which is never an arch
operand (R40). -/
def Fmt.perCell : Fmt → Nat
  | .fp32 => 0
  | .bf16 | .fp16 => 1
  | .e4m3 | .e5m2 | .mxE4m3 | .mxE5m2 | .mxInt8 | .mxE3m2 | .mxE2m3 => 2
  | .mxE2m1 | .ssf4 => 4

/-- The element's floating-point layout; MXINT8 has none and uses E2M1 as a placeholder that nothing reads. -/
def Fmt.elem : Fmt → FFmt
  | .fp32 => fmtF32
  | .bf16 => fmtBF16
  | .fp16 => fmtF16
  | .e4m3 | .mxE4m3 => fmtE4M3
  | .e5m2 | .mxE5m2 => fmtE5M2
  | .mxE3m2 => fmtE3M2
  | .mxE2m3 => fmtE2M3
  | .mxE2m1 | .ssf4 | .mxInt8 => fmtE2M1

end Sys2Proof
namespace Sys2Proof.Machine

/-- A tile: 64 rows of 128 B, the side-band fields of R44 and the 1 KiB scale extension as 64 hop side-bands (R45). -/
structure Tile where
  tag : Byte
  poison : Bool
  orient : Bool
  ext : Bool
  stepTag : BitVec 32
  scale : F32
  rows : List Row
  exts : List Side
deriving DecidableEq, Repr

/-- A tile with every byte zero (tag 0x00: empty, R40). -/
def Tile.empty : Tile :=
  ⟨0, false, false, false, 0, 0, List.replicate 64 0, List.replicate 64 0⟩

/-- Row r of a tile. -/
def Tile.row (t : Tile) (r : Nat) : Row := t.rows.getD r 0

/-- Byte i of the scale extension (R45). -/
def Tile.extByte (t : Tile) (i : Nat) : Nat :=
  ((t.exts.getD (i / 16) 0).extractLsb' (8 * (i % 16)) 8).toNat

/-- Element j of a row whose elements are w bits wide: bits [w(j+1)-1 : wj] of the row (R42). -/
def elemCode (row : Row) (w j : Nat) : Nat := (row.extractLsb' (w * j) w).toNat

/-- A row from its element codes; what no element covers is zero (R42, R43). -/
def packCodes (w : Nat) : List Nat → Nat
  | [] => 0
  | c :: cs => c % 2 ^ w + 2 ^ w * packCodes w cs

/-- The index of the scale byte of element (r, j) (R45). -/
def scaleIndex (f : Fmt) (orient : Bool) (r j : Nat) : Nat :=
  if orient then f.cols * (r / f.block) + j else 16 * r + j / f.block

end Sys2Proof.Machine
namespace Sys2Proof
open Sys2Proof.Machine

/-- The value of an element's own code, without any scale (R41, R49). -/
def Fmt.codeVal (f : Fmt) (code : Nat) : Val :=
  match f with
  | .mxInt8 => if code < 128 then .fin false code (-6) else .fin true (256 - code) (-6)
  | _ => f.elem.decode code

/-- An element with its block scale, without the tile scale (R48-R51, R55). `c` is the block's scale byte. -/
def Fmt.scaledVal (f : Fmt) (c code : Nat) : Val :=
  let v := f.codeVal code
  match f with
  | .ssf4 =>
    if c = 0xFF then .nan
    else if c = 0 then .fin false 0 0
    else v.mul (fmtUE5M3.decode c)
  | _ =>
    if f.scaled then
      if c = 0xFF then .nan
      else
        match v with
        | .fin n m e => .fin n m (e + (c : Int) - 127)
        | w => w
    else v

end Sys2Proof
namespace Sys2Proof.Machine

/-- What an SSF4 tile scale does to every element (R51): NaN for a NaN, infinite or negative scale, +0 for a zero one,
nothing otherwise. -/
def tileScaleRule (f : Fmt) (t : F32) : Option Val :=
  if f = .ssf4 then
    match f32Val t with
    | .nan => some .nan
    | .inf _ => some .nan
    | .fin n m _ => if m = 0 then some (.fin false 0 0) else if n then some .nan else none
  else none

/-- The factor a tile contributes to G of R56: its SSF4 tile scale, 1 for any other format. -/
def tileFactor (f : Fmt) (t : F32) : Val :=
  if f = .ssf4 then f32Val t else .fin false 1 0

/-- Element (r, j) of a tile as it enters a product: with its block scale, without the tile scale (R55), and with R51
applied. -/
def Tile.operand (t : Tile) (f : Fmt) (r j : Nat) : Val :=
  match tileScaleRule f t.scale with
  | some v => v
  | none =>
    f.scaledVal (if f.scaled then t.extByte (scaleIndex f t.orient r j) else 0) (elemCode (t.row r) f.elemBits j)

/-- Element (r, j) of a tile with every scale (R48-R51). -/
def Tile.value (t : Tile) (f : Fmt) (r j : Nat) : Val := (t.operand f r j).mul (tileFactor f t.scale)

/-- Does the side-band of a tile agree with the format named and with the rules of R44: the tag, EXT exactly for scaled
formats, ORIENT 0 for unscaled ones and for a streaming tile (check 3 of R59)? -/
def Tile.formatOk (t : Tile) (f : Fmt) (streaming : Bool) : Bool :=
  t.tag.toNat = f.tag && t.ext = f.scaled && (f.scaled || !t.orient) && !(streaming && t.orient)

/-- The encoded elements of an unscaled tile value: rounding on the format's grid and the overflow, infinity and NaN
rules of R52 and R63. -/
def encodeUnscaled (f : Fmt) (rnd : Rnd) (sat : Bool) (x : F32) : Nat :=
  if f = .fp32 then fmtF32.ofVal (f32Val x)
  else
    let g := f.elem
    let nan := if g.hasInf then g.cnan else g.maxCode + 1
    let beyond (neg : Bool) : Nat :=
      if sat then g.signed neg g.maxCode
      else if g.hasInf then g.signed neg (g.maxCode + 1) else nan
    match f32Val x with
    | .nan => nan
    | .inf neg => beyond neg
    | .fin neg m e =>
      let c := g.roundCode rnd m 1 e
      if g.maxCode < c then beyond neg else g.signed neg c

end Sys2Proof.Machine
namespace Sys2Proof
open Sys2Proof.Machine

/-- The exponent offset m of R64 for an MX format. -/
def Fmt.mxOffset : Fmt → Int
  | .mxE4m3 => 8
  | .mxE5m2 => 15
  | .mxE3m2 => 4
  | .mxE2m3 => 2
  | .mxE2m1 => 2
  | _ => 0

end Sys2Proof
namespace Sys2Proof.Machine

/-- The larger of two FP32 magnitudes, both finite. -/
def maxMag (a b : F32) : F32 := if (a &&& 0x7FFFFFFF#32).toNat < (b &&& 0x7FFFFFFF#32).toNat then b &&& 0x7FFFFFFF#32 else a &&& 0x7FFFFFFF#32

/-- The largest magnitude of a list of finite FP32 values; +0 for none. -/
def largestMag (xs : List F32) : F32 := xs.foldl maxMag 0

/-- The scale byte of an MX block (steps 1 to 3 of R64). -/
def mxScale (f : Fmt) (xs : List F32) : Nat :=
  if xs.all f32IsFin then
    match f32Val (largestMag xs) with
    | .fin _ m e =>
      if m = 0 then 0
      else (max (-127) (min 127 (floorLog2 m 1 e - f.mxOffset)) + 127).toNat
    | _ => 0xFF
  else 0xFF

/-- An element of an MX block whose scale byte is `c` and whose largest magnitude is zero when `zero` (R64). -/
def mxElem (f : Fmt) (rnd : Rnd) (c : Nat) (zero : Bool) (x : F32) : Nat :=
  if c = 0xFF || zero then 0
  else
    match f32Val x with
    | .fin neg m e =>
      let e' := e - ((c : Int) - 127)
      if f = .mxInt8 then
        let (a, b) := inUnits m 1 e' (-6)
        let n := min 127 (roundDiv rnd a b)
        if neg then (256 - n) % 256 else n
      else
        let g := f.elem
        g.signed neg (min g.maxCode (g.roundCode rnd m 1 e'))
    | _ => 0

/-- The SSF4 tile scale of a tile whose largest magnitude is A (steps 2 and 3 of R65). -/
def ssf4Scale (a : F32) : F32 :=
  match f32Val a with
  | .fin _ m e =>
    if m = 0 then f32One
    else BitVec.ofNat 32 (max 0x00800000 (fmtF32.ieee false m 196608 e))
  | _ => f32Nan

/-- The SSF4 sub-scale of a block with largest magnitude a under tile scale T: a ÷ (6 T), rounded up to the next UE5M3
value and clamped (step 4 of R65). -/
def ssf4Sub (t a : F32) : Nat :=
  match f32Val a, f32Val t with
  | .fin _ ma ea, .fin _ mt et =>
    if ma = 0 || mt = 0 then 0
    else
      let g := fmtUE5M3
      let q := g.quantum (floorLog2 ma (6 * mt) (ea - et))
      let (x, y) := inUnits ma (6 * mt) (ea - et) q
      min g.maxCode ((q - g.qmin).toNat * 2 ^ g.man + (x + y - 1) / y)
  | .inf _, _ => fmtUE5M3.maxCode
  | _, _ => 0

/-- An SSF4 element under tile scale T and sub-scale byte s (step 5 of R65). -/
def ssf4Elem (rnd : Rnd) (t : F32) (s : Nat) (x : F32) : Nat :=
  if s = 0 then 0
  else
    match f32Val x, (f32Val t).mul (fmtUE5M3.decode s) with
    | .fin neg m e, .fin _ md ed => fmtE2M1.signed neg (min fmtE2M1.maxCode (fmtE2M1.roundCode rnd m md (e - ed)))
    | .inf neg, _ => fmtE2M1.signed neg fmtE2M1.maxCode
    | _, _ => 0

/-- The values of the scale block that element (r, j) of a 64-row tile lies in. -/
def blockVals (f : Fmt) (orient : Bool) (x : Nat → Nat → F32) (r j : Nat) : List F32 :=
  let b := f.block
  if orient then (List.range b).map (fun i => x (b * (r / b) + i) j)
  else (List.range b).map (fun i => x r (b * (j / b) + i))

/-- The first element (r, j) of the block whose scale is byte i of the extension; none where no block uses the byte
(R45). -/
def blockOfByte (f : Fmt) (orient : Bool) (i : Nat) : Option (Nat × Nat) :=
  if orient then
    let q := i / f.cols
    if q * f.block < 64 then some (q * f.block, i % f.cols) else none
  else
    let b := i % 16
    if b * f.block < f.cols && i / 16 < 64 then some (i / 16, b * f.block) else none

/-- What a drain writes: the tile's rows, extension and tile scale for the values `x r c` (and, for SSF4, the values
`xa` of the read for A), under the descriptor's rounding, saturation and orientation (R63-R65). -/
structure Encoded where
  rows : List Row
  exts : List Side
  scale : F32
deriving DecidableEq, Repr

/-- The rows of a tile from its element codes. -/
def rowsOf (f : Fmt) (code : Nat → Nat → Nat) : List Row :=
  (List.range 64).map (fun r => BitVec.ofNat 1024 (packCodes f.elemBits ((List.range f.cols).map (code r))))

/-- The extension from its bytes. -/
def extsOf (byte : Nat → Nat) : List Side :=
  (List.range 64).map (fun r => BitVec.ofNat 128 (packCodes 8 ((List.range 16).map (fun b => byte (16 * r + b)))))

/-- The encoder of the drain path (R63-R65). `u r c` is the 16-bit random value of element (r, c) where the rounding is
stochastic (R67). -/
def encodeTile (f : Fmt) (stoch sat orient : Bool) (u : Nat → Nat → Nat) (xa x : Nat → Nat → F32) : Encoded :=
  let rnd (r c : Nat) : Rnd := if stoch then .stochastic (u r c) else .nearest
  if f = .ssf4 then
    let idx := (List.range 64).flatMap (fun r => (List.range f.cols).map (fun c => (r, c)))
    if idx.all (fun i => f32IsFin (xa i.1 i.2) && f32IsFin (x i.1 i.2)) then
      let a := largestMag (idx.map (fun i => xa i.1 i.2))
      if f32Eq a 0 then ⟨List.replicate 64 0, List.replicate 64 0, f32One⟩
      else
        let t := ssf4Scale a
        let sub (r c : Nat) : Nat := ssf4Sub t (largestMag (blockVals f orient x r c))
        let exts := extsOf (fun i => match blockOfByte f orient i with
          | some (r, c) => sub r c
          | none => 0)
        let ext (i : Nat) : Nat := ((exts.getD (i / 16) 0).extractLsb' (8 * (i % 16)) 8).toNat
        ⟨rowsOf f (fun r c => ssf4Elem (rnd r c) t (ext (scaleIndex f orient r c)) (x r c)), exts, t⟩
    else ⟨List.replicate 64 0, List.replicate 64 0, f32Nan⟩
  else if f.scaled then
    let exts := extsOf (fun i => match blockOfByte f orient i with
      | some (r, c) => mxScale f (blockVals f orient x r c)
      | none => 0)
    let ext (i : Nat) : Nat := ((exts.getD (i / 16) 0).extractLsb' (8 * (i % 16)) 8).toNat
    let zero (r c : Nat) : Bool := (blockVals f orient x r c).all (fun v => (f32Val v).isZero)
    ⟨rowsOf f (fun r c =>
      let s := ext (scaleIndex f orient r c)
      mxElem f (rnd r c) s (s = 0 && zero r c) (x r c)), exts, f32One⟩
  else ⟨rowsOf f (fun r c => encodeUnscaled f (rnd r c) sat (x r c)), List.replicate 64 0, f32One⟩

end Sys2Proof.Machine
end

