-- ==== Sys2Proof/Machine/Dot.lean ====
section
/-! DEFINITION. The dot unit: the 48-bit truncation window and the exact sum (R55), the result y (R56), the two readings
of the stationary grid (R80) and the spandrel's two additions (R57, R58). -/
namespace Sys2Proof.Machine

/-- ⌊log₂|p|⌋ of a non-zero finite value; none for any other value (R55). -/
def Val.log2? : Val → Option Int
  | .fin _ m e => if m = 0 then none else some (floorLog2 m 1 e)
  | _ => none

/-- The largest of the exponents (E_max of R55); none when every product is zero or not finite. -/
def maxExp : List Val → Option Int
  | [] => none
  | v :: t =>
    match v.log2?, maxExp t with
    | some a, some b => some (max a b)
    | some a, none => some a
    | none, r => r

/-- A product truncated towards zero to a multiple of 2^w, as a signed count of that unit (steps 2 and 3 of R55). -/
def truncTo (w : Int) : Val → Int
  | .fin neg m e =>
    let k : Int := if w ≤ e then (m * 2 ^ (e - w).toNat : Nat) else (m / 2 ^ (w - e).toNat : Nat)
    if neg then -k else k
  | _ => 0

/-- The exact sum S of the truncated products in units of 2^(E_max - 47) (R55). -/
def windowSum (emax : Int) (ps : List Val) : Int := (ps.map (truncTo (emax - 47))).foldl (· + ·) 0

/-- The dot unit's result y for the products `ps` and the tile-scale factor G, by the order of precedence of R56. -/
def dotResult (ps : List Val) (g : Val) : F32 :=
  if ps.any (· = .nan) then f32Nan
  else
    let pos := ps.any (· = .inf false)
    let neg := ps.any (· = .inf true)
    if pos && neg then f32Nan
    else if pos then rn32 (.inf false)
    else if neg then rn32 (.inf true)
    else
      match maxExp ps with
      | none => 0
      | some emax =>
        let s := windowSum emax ps
        if s = 0 then 0
        else rn32 ((Val.fin (s < 0) s.natAbs (emax - 47)).mul g)

end Sys2Proof.Machine
namespace Sys2Proof
open Sys2Proof.Machine

/-- The output width W of a pass (R82). -/
def Shape.width (sh : Shape) (perCell : Nat) : Nat :=
  match sh with
  | .row => 64
  | .col => 64 * perCell

end Sys2Proof
namespace Sys2Proof.Machine

/-- The products of result column n for one streaming row r (R80): `st` streams, `w` is the stationary tile, each with
its format; `sel` chooses the 64 elements of a COL reading. -/
def products (sh : Shape) (sel : Nat) (st : Tile) (sf : Fmt) (w : Tile) (wf : Fmt) (r n : Nat) : List Val :=
  match sh with
  | .row => (List.range (64 * sf.perCell)).map (fun c => (st.operand sf r c).mul (w.operand wf n c))
  | .col => (List.range 64).map (fun i => (st.operand sf r (64 * sel + i)).mul (w.operand wf i n))

/-- The dot unit's result for result column n of streaming row r (R56, R80). -/
def dotAt (sh : Shape) (sel : Nat) (st : Tile) (sf : Fmt) (w : Tile) (wf : Fmt) (r n : Nat) : F32 :=
  dotResult (products sh sel st sf w wf r n) ((tileFactor sf st.scale).mul (tileFactor wf w.scale))

/-- A spandrel entry: the sum, the error term of compensated mode and the poison flag (R58, R83,
R87), and the bits in error that ECC finds at the next read of each of its 32-bit words (R88). -/
structure Entry where
  s : F32
  c : F32
  poison : Bool
  flips : Nat
  flipsC : Nat
deriving DecidableEq, Repr

/-- An entry after admission and after ZERO (R89, R113). -/
def Entry.zero : Entry := ⟨0, 0, false, 0, 0⟩

/-- A pass update of an entry by y: RN₃₂(e + y) in normal mode (R57), the TwoSum rule in compensated mode (R58). The
poison flag stays (R87). -/
def Entry.update (comp : Bool) (e : Entry) (y : F32) : Entry :=
  let t := f32Add e.s y
  if comp then
    if f32IsFin t then ⟨t, rn32 ((f32Val e.c).add (f32Val (rn32 (twoSumErr e.s y t)))), e.poison, 0, 0⟩
    else ⟨t, 0, e.poison, 0, 0⟩
  else ⟨t, e.c, e.poison, 0, 0⟩

/-- The value a drain takes from an entry (R58). -/
def Entry.drainValue (comp : Bool) (e : Entry) : F32 := if comp then f32Add e.s e.c else e.s

end Sys2Proof.Machine
end

