-- ==== Sys2Proof/Machine/Map.lean ====
section
/-! DEFINITION. Sparse tables keyed by a number: one canonical list form for memory bytes, registers and every large
table of the module. Keys rise strictly and no entry equals what an unlisted key reads as. -/
namespace Sys2Proof.Machine

/-- A sparse table. -/
abbrev NMap (α : Type) := List (Nat × α)

variable {α : Type}

/-- What key `k` reads as; an unlisted key reads as `d k`. -/
def NMap.look (d : Nat → α) : NMap α → Nat → α
  | [], k => d k
  | (j, v) :: t, k => if j = k then v else NMap.look d t k

/-- Remove key `k`. -/
def NMap.del (m : NMap α) (k : Nat) : NMap α := m.filter (fun e => e.1 != k)

/-- Put an entry for `k` in its place, whatever its value. -/
def NMap.ins : NMap α → Nat → α → NMap α
  | [], k, v => [(k, v)]
  | (j, w) :: t, k, v =>
    if k < j then (k, v) :: (j, w) :: t
    else if j = k then (k, v) :: t
    else (j, w) :: NMap.ins t k v

/-- Write key `k`, keeping the canonical form: the value an unlisted key reads as is not listed. -/
def NMap.put [DecidableEq α] (d : Nat → α) (m : NMap α) (k : Nat) (v : α) : NMap α :=
  if v = d k then m.del k else m.ins k v

/-- The entries of a run of values that starts at `k`, without those that equal the default. -/
def NMap.run [DecidableEq α] (d : Nat → α) : Nat → List α → NMap α
  | _, [] => []
  | k, v :: t => if v = d k then NMap.run d (k + 1) t else (k, v) :: NMap.run d (k + 1) t

/-- Write the values `vs` at keys `k`, `k + 1`, … in one pass. -/
def NMap.putRun [DecidableEq α] (d : Nat → α) (m : NMap α) (k : Nat) (vs : List α) : NMap α :=
  m.filter (fun e => e.1 < k) ++ NMap.run d k vs ++ m.filter (fun e => k + vs.length ≤ e.1)

/-- Forget every key from `k` to `k + n - 1`: each then reads as its default. -/
def NMap.clearRun (m : NMap α) (k n : Nat) : NMap α :=
  m.filter (fun e => e.1 < k || k + n ≤ e.1)

/-- Change every listed value; one that becomes its default is no longer listed. -/
def NMap.change [DecidableEq α] (d : Nat → α) (m : NMap α) (f : Nat → α → α) : NMap α :=
  m.filterMap (fun e => if f e.1 e.2 = d e.1 then none else some (e.1, f e.1 e.2))

/-- Read `n` keys from `k` upwards in one pass; `m` holds no key below `k`. -/
def NMap.readRun (d : Nat → α) : Nat → Nat → NMap α → List α
  | 0, _, _ => []
  | n + 1, k, [] => d k :: NMap.readRun d n (k + 1) []
  | n + 1, k, (j, v) :: t =>
    if j = k then v :: NMap.readRun d n (k + 1) t
    else d k :: NMap.readRun d n (k + 1) ((j, v) :: t)

/-- Read `n` keys from `k` upwards. -/
def NMap.slice (d : Nat → α) (m : NMap α) (k n : Nat) : List α :=
  NMap.readRun d n k (m.filter (fun e => k ≤ e.1 && e.1 < k + n))

/-- The canonical form: keys rise strictly, no entry equals its default. -/
def NMap.wf [DecidableEq α] (d : Nat → α) : NMap α → Bool
  | [] => true
  | (k, v) :: t => t.all (fun e => k < e.1) && v != d k && NMap.wf d t

end Sys2Proof.Machine
end

