-- ==== Sys2Proof/Machine/Regs.lean ====
section
/-! DEFINITION. Every register of the module: its name, and for each field its place, access type (R15), default and
legal values, as the field maps of the spec give them. The registers are the one home of what their fields name. -/
namespace Sys2Proof.Machine

/-- The access types of R15; a reserved field is in no table. -/
inductive Acc where
  | ro | rw | w1c | wo
deriving DecidableEq, Repr

/-- The registers, in the order of the register blocks. -/
inductive RegName where
  | archCfg | archStatus | unitRepair | archErr | archErrCount | archBusyCycles | archPassCount | ringCfg
  | ringErr | ringErrCount | vecErr | vecCount | deckGeometry | deckArbCfg | deckErr | deckErrCount
  | deckArbCount | deadlockCfg | deadlockRegions | regionDesc | regionPtr | approachCfg | approachStatus
  | approachErr | approachFault | approachFaultSrc | approachCount | streamDesc0 | streamDesc1 | streamDesc2
  | streamDesc3 | streamDesc4 | streamDesc5 | streamDesc6 | streamDesc7 | streamCount0 | streamCount1
  | streamCount2 | streamCount3 | streamCount4 | copyDesc0 | copyDesc1 | copyDesc2 | copyDesc3 | copyDesc4
  | copyDesc5 | copyDesc6 | copyDesc7 | pctlStatus | pctlSlot | pctlStall | pctlStallCause | pctlFault
  | pctlErr | updStatus | updErr | updCount | updSkip | rngStatus | rngCount | rngUse | rngSeed | stageStatus
  | deckSpares | viaductLayout | viaductExt | viaductStatus | gateCfg | gateStatus | gateTemp | gateErr
  | gateErrCount | gateErrLoc | gateErrAddr | gateBursts | repairCtrl | repairStatus | watchSel | watchW0
  | watchW1 | watchCount | softRepair | interleaveMode | homeCfg | homeStatus | homeErr | homeCount
  | windowCount | windowStatus | schedStatus | schedFault | schedImage | tokenCost | tokenStatus | tokenErr
  | tokenCount | spanToken | spanTokenCount | pierHeld | stepCounter | schedEngStatus | schedVal0 | schedVal1
  | schedVal2 | schedVal3 | schedVal4 | parapetStatus | parapetErr | parapetCount | parapetSel | parapetW0
  | parapetW1 | parapetW2 | portCfg | portShare0 | portShare1 | portStatus | portErr | portCount | portFec
  | portTxFlits | portRxFlits | pauneId | routeDim | routePorts | pauneMsgErr | pauneMsgCount | routeOvr
  | pairCfg | pairStatus | pairMseqOut | pairMseqAcked | pairMseqIn | pairKeystone | pairErr | pairCount
  | pairLog | jwStatus | jwErr | jwCount | mailboxCfg | cmdStatus | cmdCount | evtStatus | evtTail | evtHead
  | evtCount | evtStack | evtPresent | evtDone | senseCfg | senseStatus | senseCount | thermStatus | clkCfg
  | clkStatus | timeNow | bootNonce0 | bootNonce1 | bootCount | clkSpan | clkSpanCount | powerCfg | powerCtrl
  | powerStatus | supplyStatus | holdupStatus | holdupTime | braceCount | bistCfg | bistStatus | bistCount
  | deviceId | fwStatus | keyStatus | serviceCtrl | ownerFuseCtrl | ownerFuseData | mr
deriving DecidableEq, Repr

/-- A field of a register: its register, its lowest bit, its width, its access type, its default, and the ranges of
values that are not reserved encodings (R17). -/
structure Fld where
  reg : RegName
  lo : Nat
  width : Nat
  acc : Acc
  dflt : Nat
  legal : List (Nat × Nat)
deriving DecidableEq, Repr

/-- ARCH_CFG.COMP (R107). -/
def Fld.ARCH_CFG_COMP : Fld := ⟨.archCfg, 0, 1, .rw, 0, [(0, 1)]⟩
/-- ARCH_STATUS.STATE (R108). -/
def Fld.ARCH_STATUS_STATE : Fld := ⟨.archStatus, 0, 2, .ro, 0, [(0, 3)]⟩
/-- ARCH_STATUS.STAT_VALID (R108). -/
def Fld.ARCH_STATUS_STAT_VALID : Fld := ⟨.archStatus, 2, 1, .ro, 0, [(0, 1)]⟩
/-- ARCH_STATUS.STAT_FMT (R108). -/
def Fld.ARCH_STATUS_STAT_FMT : Fld := ⟨.archStatus, 3, 8, .ro, 0, [(0, 255)]⟩
/-- ARCH_STATUS.STAT_ORIENT (R108). -/
def Fld.ARCH_STATUS_STAT_ORIENT : Fld := ⟨.archStatus, 11, 1, .ro, 0, [(0, 1)]⟩
/-- ARCH_STATUS.CAPACITY (R108). -/
def Fld.ARCH_STATUS_CAPACITY : Fld := ⟨.archStatus, 12, 17, .ro, 65536, [(0, 131071)]⟩
/-- ARCH_STATUS.SPARES_USED (R108). -/
def Fld.ARCH_STATUS_SPARES_USED : Fld := ⟨.archStatus, 29, 2, .ro, 0, [(0, 3)]⟩
/-- UNIT_REPAIR.SOFT_A (R109). -/
def Fld.UNIT_REPAIR_SOFT_A : Fld := ⟨.unitRepair, 0, 7, .rw, 127, [(0, 65), (127, 127)]⟩
/-- UNIT_REPAIR.SOFT_B (R109). -/
def Fld.UNIT_REPAIR_SOFT_B : Fld := ⟨.unitRepair, 8, 7, .rw, 127, [(0, 65), (127, 127)]⟩
/-- UNIT_REPAIR.FUSE_A (R109). -/
def Fld.UNIT_REPAIR_FUSE_A : Fld := ⟨.unitRepair, 16, 7, .ro, 127, [(0, 127)]⟩
/-- UNIT_REPAIR.FUSE_B (R109). -/
def Fld.UNIT_REPAIR_FUSE_B : Fld := ⟨.unitRepair, 24, 7, .ro, 127, [(0, 127)]⟩
/-- ARCH_ERR.GRID_PARITY (R110). -/
def Fld.ARCH_ERR_GRID_PARITY : Fld := ⟨.archErr, 0, 1, .w1c, 0, [(0, 1)]⟩
/-- ARCH_ERR.SPANDREL_CE (R110). -/
def Fld.ARCH_ERR_SPANDREL_CE : Fld := ⟨.archErr, 1, 1, .w1c, 0, [(0, 1)]⟩
/-- ARCH_ERR.SPANDREL_UE (R110). -/
def Fld.ARCH_ERR_SPANDREL_UE : Fld := ⟨.archErr, 2, 1, .w1c, 0, [(0, 1)]⟩
/-- ARCH_ERR.FORMAT_MISMATCH (R110). -/
def Fld.ARCH_ERR_FORMAT_MISMATCH : Fld := ⟨.archErr, 3, 1, .w1c, 0, [(0, 1)]⟩
/-- ARCH_ERR.SPANDREL_RANGE (R110). -/
def Fld.ARCH_ERR_SPANDREL_RANGE : Fld := ⟨.archErr, 4, 1, .w1c, 0, [(0, 1)]⟩
/-- ARCH_ERR.GRID_BUSY (R110). -/
def Fld.ARCH_ERR_GRID_BUSY : Fld := ⟨.archErr, 5, 1, .w1c, 0, [(0, 1)]⟩
/-- ARCH_ERR.UNIT_MAP_INVALID (R110). -/
def Fld.ARCH_ERR_UNIT_MAP_INVALID : Fld := ⟨.archErr, 6, 1, .w1c, 0, [(0, 1)]⟩
/-- ARCH_ERR.DRAIN_BUSY (R110). -/
def Fld.ARCH_ERR_DRAIN_BUSY : Fld := ⟨.archErr, 7, 1, .w1c, 0, [(0, 1)]⟩
/-- ARCH_ERR_COUNT.CE_COUNT (R111). -/
def Fld.ARCH_ERR_COUNT_CE_COUNT : Fld := ⟨.archErrCount, 0, 32, .rw, 0, [(0, 4294967295)]⟩
/-- ARCH_ERR_COUNT.UE_COUNT (R111). -/
def Fld.ARCH_ERR_COUNT_UE_COUNT : Fld := ⟨.archErrCount, 32, 16, .rw, 0, [(0, 65535)]⟩
/-- ARCH_ERR_COUNT.PARITY_COUNT (R111). -/
def Fld.ARCH_ERR_COUNT_PARITY_COUNT : Fld := ⟨.archErrCount, 48, 16, .rw, 0, [(0, 65535)]⟩
/-- ARCH_BUSY_CYCLES.BUSY (R112). -/
def Fld.ARCH_BUSY_CYCLES_BUSY : Fld := ⟨.archBusyCycles, 0, 48, .ro, 0, [(0, 281474976710655)]⟩
/-- ARCH_PASS_COUNT.DONE (R112). -/
def Fld.ARCH_PASS_COUNT_DONE : Fld := ⟨.archPassCount, 0, 32, .ro, 0, [(0, 4294967295)]⟩
/-- ARCH_PASS_COUNT.ABANDONED (R112). -/
def Fld.ARCH_PASS_COUNT_ABANDONED : Fld := ⟨.archPassCount, 32, 32, .ro, 0, [(0, 4294967295)]⟩
/-- RING_CFG.ROLE (R134). -/
def Fld.RING_CFG_ROLE : Fld := ⟨.ringCfg, 0, 3, .ro, 1, [(0, 7)]⟩
/-- RING_CFG.TRIM_CW (R134). -/
def Fld.RING_CFG_TRIM_CW : Fld := ⟨.ringCfg, 4, 6, .ro, 48, [(0, 63)]⟩
/-- RING_CFG.TRIM_CCW (R134). -/
def Fld.RING_CFG_TRIM_CCW : Fld := ⟨.ringCfg, 10, 6, .ro, 48, [(0, 63)]⟩
/-- RING_CFG.ENTRY_CW (R134). -/
def Fld.RING_CFG_ENTRY_CW : Fld := ⟨.ringCfg, 16, 6, .ro, 0, [(0, 63)]⟩
/-- RING_CFG.ENTRY_CCW (R134). -/
def Fld.RING_CFG_ENTRY_CCW : Fld := ⟨.ringCfg, 22, 6, .ro, 0, [(0, 63)]⟩
/-- RING_CFG.EXIT_CW (R134). -/
def Fld.RING_CFG_EXIT_CW : Fld := ⟨.ringCfg, 28, 6, .ro, 0, [(0, 63)]⟩
/-- RING_CFG.EXIT_CCW (R134). -/
def Fld.RING_CFG_EXIT_CCW : Fld := ⟨.ringCfg, 34, 6, .ro, 0, [(0, 63)]⟩
/-- RING_CFG.SEGMENT (R134). -/
def Fld.RING_CFG_SEGMENT : Fld := ⟨.ringCfg, 40, 3, .ro, 0, [(0, 7)]⟩
/-- RING_CFG.BROKEN (R134). -/
def Fld.RING_CFG_BROKEN : Fld := ⟨.ringCfg, 43, 1, .ro, 0, [(0, 1)]⟩
/-- RING_ERR.RING_PARITY (R135). -/
def Fld.RING_ERR_RING_PARITY : Fld := ⟨.ringErr, 0, 1, .w1c, 0, [(0, 1)]⟩
/-- RING_ERR.RING_MISS (R135). -/
def Fld.RING_ERR_RING_MISS : Fld := ⟨.ringErr, 1, 1, .w1c, 0, [(0, 1)]⟩
/-- RING_ERR.INJECT_BUSY (R135). -/
def Fld.RING_ERR_INJECT_BUSY : Fld := ⟨.ringErr, 2, 1, .w1c, 0, [(0, 1)]⟩
/-- RING_ERR.RING_ROLE (R135). -/
def Fld.RING_ERR_RING_ROLE : Fld := ⟨.ringErr, 3, 1, .w1c, 0, [(0, 1)]⟩
/-- RING_ERR.RING_EXT_DOWN (R135). -/
def Fld.RING_ERR_RING_EXT_DOWN : Fld := ⟨.ringErr, 4, 1, .w1c, 0, [(0, 1)]⟩
/-- RING_ERR.RING_BREAK (R135). -/
def Fld.RING_ERR_RING_BREAK : Fld := ⟨.ringErr, 5, 1, .w1c, 0, [(0, 1)]⟩
/-- RING_ERR_COUNT.PARITY_COUNT (R136). -/
def Fld.RING_ERR_COUNT_PARITY_COUNT : Fld := ⟨.ringErrCount, 0, 32, .rw, 0, [(0, 4294967295)]⟩
/-- RING_ERR_COUNT.MISS_COUNT (R136). -/
def Fld.RING_ERR_COUNT_MISS_COUNT : Fld := ⟨.ringErrCount, 32, 16, .rw, 0, [(0, 65535)]⟩
/-- RING_ERR_COUNT.JOINT_STALLS (R136). -/
def Fld.RING_ERR_COUNT_JOINT_STALLS : Fld := ⟨.ringErrCount, 48, 16, .rw, 0, [(0, 65535)]⟩
/-- VEC_ERR.LOAD_FAULT (R151). -/
def Fld.VEC_ERR_LOAD_FAULT : Fld := ⟨.vecErr, 0, 1, .w1c, 0, [(0, 1)]⟩
/-- VEC_ERR.FORMAT_MISMATCH (R151). -/
def Fld.VEC_ERR_FORMAT_MISMATCH : Fld := ⟨.vecErr, 1, 1, .w1c, 0, [(0, 1)]⟩
/-- VEC_ERR.STEP_SKEW (R151). -/
def Fld.VEC_ERR_STEP_SKEW : Fld := ⟨.vecErr, 2, 1, .w1c, 0, [(0, 1)]⟩
/-- VEC_COUNT.BUSY (R151). -/
def Fld.VEC_COUNT_BUSY : Fld := ⟨.vecCount, 0, 48, .ro, 0, [(0, 281474976710655)]⟩
/-- VEC_COUNT.SKEW_COUNT (R151). -/
def Fld.VEC_COUNT_SKEW_COUNT : Fld := ⟨.vecCount, 48, 16, .rw, 0, [(0, 65535)]⟩
/-- DECK_GEOMETRY.SLOTS (R181). -/
def Fld.DECK_GEOMETRY_SLOTS : Fld := ⟨.deckGeometry, 0, 16, .ro, 1024, [(0, 65535)]⟩
/-- DECK_GEOMETRY.BANKS (R181). -/
def Fld.DECK_GEOMETRY_BANKS : Fld := ⟨.deckGeometry, 16, 8, .ro, 32, [(0, 255)]⟩
/-- DECK_GEOMETRY.READ_LAT (R181). -/
def Fld.DECK_GEOMETRY_READ_LAT : Fld := ⟨.deckGeometry, 24, 4, .ro, 6, [(0, 15)]⟩
/-- DECK_GEOMETRY.REGIONS (R181). -/
def Fld.DECK_GEOMETRY_REGIONS : Fld := ⟨.deckGeometry, 32, 8, .ro, 64, [(0, 255)]⟩
/-- DECK_ARB_CFG.BURST (R181). -/
def Fld.DECK_ARB_CFG_BURST : Fld := ⟨.deckArbCfg, 0, 7, .rw, 16, [(1, 64)]⟩
/-- DECK_ARB_CFG.QUOTA5 (R181). -/
def Fld.DECK_ARB_CFG_QUOTA5 : Fld := ⟨.deckArbCfg, 16, 9, .rw, 192, [(1, 256)]⟩
/-- DECK_ARB_CFG.QUOTA6 (R181). -/
def Fld.DECK_ARB_CFG_QUOTA6 : Fld := ⟨.deckArbCfg, 32, 9, .rw, 160, [(1, 256)]⟩
/-- DECK_ARB_CFG.QUOTA7 (R181). -/
def Fld.DECK_ARB_CFG_QUOTA7 : Fld := ⟨.deckArbCfg, 48, 9, .rw, 128, [(1, 256)]⟩
/-- DECK_ERR.REGION_INVALID (R182). -/
def Fld.DECK_ERR_REGION_INVALID : Fld := ⟨.deckErr, 0, 1, .w1c, 0, [(0, 1)]⟩
/-- DECK_ERR.REGION_RANGE (R182). -/
def Fld.DECK_ERR_REGION_RANGE : Fld := ⟨.deckErr, 1, 1, .w1c, 0, [(0, 1)]⟩
/-- DECK_ERR.REGION_DEADLOCK (R182). -/
def Fld.DECK_ERR_REGION_DEADLOCK : Fld := ⟨.deckErr, 2, 1, .w1c, 0, [(0, 1)]⟩
/-- DECK_ERR.DECK_CE (R182). -/
def Fld.DECK_ERR_DECK_CE : Fld := ⟨.deckErr, 3, 1, .w1c, 0, [(0, 1)]⟩
/-- DECK_ERR.DECK_UE (R182). -/
def Fld.DECK_ERR_DECK_UE : Fld := ⟨.deckErr, 4, 1, .w1c, 0, [(0, 1)]⟩
/-- DECK_ERR_COUNT.CE_COUNT (R183). -/
def Fld.DECK_ERR_COUNT_CE_COUNT : Fld := ⟨.deckErrCount, 0, 32, .rw, 0, [(0, 4294967295)]⟩
/-- DECK_ERR_COUNT.UE_COUNT (R183). -/
def Fld.DECK_ERR_COUNT_UE_COUNT : Fld := ⟨.deckErrCount, 32, 16, .rw, 0, [(0, 65535)]⟩
/-- DECK_ERR_COUNT.DEADLOCK_COUNT (R183). -/
def Fld.DECK_ERR_COUNT_DEADLOCK_COUNT : Fld := ⟨.deckErrCount, 48, 16, .rw, 0, [(0, 65535)]⟩
/-- DECK_ARB_COUNT.PHANTOM (R183). -/
def Fld.DECK_ARB_COUNT_PHANTOM : Fld := ⟨.deckArbCount, 0, 16, .rw, 0, [(0, 65535)]⟩
/-- DECK_ARB_COUNT.REVOKE (R183). -/
def Fld.DECK_ARB_COUNT_REVOKE : Fld := ⟨.deckArbCount, 16, 16, .rw, 0, [(0, 65535)]⟩
/-- DECK_ARB_COUNT.MASKED (R183). -/
def Fld.DECK_ARB_COUNT_MASKED : Fld := ⟨.deckArbCount, 32, 16, .rw, 0, [(0, 65535)]⟩
/-- DECK_ARB_COUNT.SCHED_LATE (R183). -/
def Fld.DECK_ARB_COUNT_SCHED_LATE : Fld := ⟨.deckArbCount, 48, 16, .rw, 0, [(0, 65535)]⟩
/-- DEADLOCK_CFG.LIMIT_LOG2 (R184). -/
def Fld.DEADLOCK_CFG_LIMIT_LOG2 : Fld := ⟨.deadlockCfg, 0, 6, .rw, 20, [(0, 0), (10, 40)]⟩
/-- DEADLOCK_REGIONS.WAIT_MASK (R184). -/
def Fld.DEADLOCK_REGIONS_WAIT_MASK : Fld := ⟨.deadlockRegions, 0, 64, .ro, 0, [(0, 18446744073709551615)]⟩
/-- REGION_DESC.VALID (R185). -/
def Fld.REGION_DESC_VALID : Fld := ⟨.regionDesc, 0, 1, .rw, 0, [(0, 1)]⟩
/-- REGION_DESC.MODE (R185). -/
def Fld.REGION_DESC_MODE : Fld := ⟨.regionDesc, 1, 1, .rw, 0, [(0, 1)]⟩
/-- REGION_DESC.HALVES (R185). -/
def Fld.REGION_DESC_HALVES : Fld := ⟨.regionDesc, 2, 1, .rw, 0, [(0, 1)]⟩
/-- REGION_DESC.SCALE (R185). -/
def Fld.REGION_DESC_SCALE : Fld := ⟨.regionDesc, 3, 1, .rw, 0, [(0, 1)]⟩
/-- REGION_DESC.SCALE_EN (R185). -/
def Fld.REGION_DESC_SCALE_EN : Fld := ⟨.regionDesc, 4, 1, .rw, 0, [(0, 1)]⟩
/-- REGION_DESC.STEP_CHK (R185). -/
def Fld.REGION_DESC_STEP_CHK : Fld := ⟨.regionDesc, 5, 1, .rw, 0, [(0, 1)]⟩
/-- REGION_DESC.BASE (R185). -/
def Fld.REGION_DESC_BASE : Fld := ⟨.regionDesc, 8, 12, .rw, 0, [(0, 4095)]⟩
/-- REGION_DESC.SIZE (R185). -/
def Fld.REGION_DESC_SIZE : Fld := ⟨.regionDesc, 20, 12, .rw, 1, [(0, 4095)]⟩
/-- REGION_DESC.SCALE_REGION (R185). -/
def Fld.REGION_DESC_SCALE_REGION : Fld := ⟨.regionDesc, 32, 6, .rw, 0, [(0, 63)]⟩
/-- REGION_PTR.HEAD (R186). -/
def Fld.REGION_PTR_HEAD : Fld := ⟨.regionPtr, 0, 12, .ro, 0, [(0, 4095)]⟩
/-- REGION_PTR.TAIL (R186). -/
def Fld.REGION_PTR_TAIL : Fld := ⟨.regionPtr, 12, 12, .ro, 0, [(0, 4095)]⟩
/-- REGION_PTR.OCC (R186). -/
def Fld.REGION_PTR_OCC : Fld := ⟨.regionPtr, 24, 13, .ro, 0, [(0, 8191)]⟩
/-- REGION_PTR.PHALF (R186). -/
def Fld.REGION_PTR_PHALF : Fld := ⟨.regionPtr, 37, 1, .ro, 0, [(0, 1)]⟩
/-- REGION_PTR.FILL_C (R186). -/
def Fld.REGION_PTR_FILL_C : Fld := ⟨.regionPtr, 38, 12, .ro, 0, [(0, 4095)]⟩
/-- REGION_PTR.WAITING (R186). -/
def Fld.REGION_PTR_WAITING : Fld := ⟨.regionPtr, 50, 1, .ro, 0, [(0, 1)]⟩
/-- APPROACH_CFG.TO_LOG2 (R214). -/
def Fld.APPROACH_CFG_TO_LOG2 : Fld := ⟨.approachCfg, 0, 5, .rw, 16, [(12, 24)]⟩
/-- APPROACH_CFG.RETRY_LIMIT (R214). -/
def Fld.APPROACH_CFG_RETRY_LIMIT : Fld := ⟨.approachCfg, 5, 3, .rw, 3, [(0, 7)]⟩
/-- APPROACH_CFG.REFETCH_LIMIT (R214). -/
def Fld.APPROACH_CFG_REFETCH_LIMIT : Fld := ⟨.approachCfg, 8, 4, .rw, 4, [(1, 15)]⟩
/-- APPROACH_CFG.WATCH_WAIT_LOG2 (R214). -/
def Fld.APPROACH_CFG_WATCH_WAIT_LOG2 : Fld := ⟨.approachCfg, 12, 5, .rw, 20, [(10, 30)]⟩
/-- APPROACH_STATUS.TAGS_BUSY (R214). -/
def Fld.APPROACH_STATUS_TAGS_BUSY : Fld := ⟨.approachStatus, 0, 7, .ro, 0, [(0, 127)]⟩
/-- APPROACH_STATUS.ARMED (R214). -/
def Fld.APPROACH_STATUS_ARMED : Fld := ⟨.approachStatus, 8, 16, .ro, 0, [(0, 65535)]⟩
/-- APPROACH_STATUS.DONE (R214). -/
def Fld.APPROACH_STATUS_DONE : Fld := ⟨.approachStatus, 24, 16, .ro, 0, [(0, 65535)]⟩
/-- APPROACH_ERR.XLATE_FAULT (R215). -/
def Fld.APPROACH_ERR_XLATE_FAULT : Fld := ⟨.approachErr, 0, 1, .w1c, 0, [(0, 1)]⟩
/-- APPROACH_ERR.PERM_FAULT (R215). -/
def Fld.APPROACH_ERR_PERM_FAULT : Fld := ⟨.approachErr, 1, 1, .w1c, 0, [(0, 1)]⟩
/-- APPROACH_ERR.WINDOW_CLOSED (R215). -/
def Fld.APPROACH_ERR_WINDOW_CLOSED : Fld := ⟨.approachErr, 2, 1, .w1c, 0, [(0, 1)]⟩
/-- APPROACH_ERR.MEM_UE (R215). -/
def Fld.APPROACH_ERR_MEM_UE : Fld := ⟨.approachErr, 3, 1, .w1c, 0, [(0, 1)]⟩
/-- APPROACH_ERR.XFER_TIMEOUT (R215). -/
def Fld.APPROACH_ERR_XFER_TIMEOUT : Fld := ⟨.approachErr, 4, 1, .w1c, 0, [(0, 1)]⟩
/-- APPROACH_ERR.WATCH_STARVED (R215). -/
def Fld.APPROACH_ERR_WATCH_STARVED : Fld := ⟨.approachErr, 5, 1, .w1c, 0, [(0, 1)]⟩
/-- APPROACH_ERR.STALE_TILE (R215). -/
def Fld.APPROACH_ERR_STALE_TILE : Fld := ⟨.approachErr, 6, 1, .w1c, 0, [(0, 1)]⟩
/-- APPROACH_ERR.STREAM_BUSY (R215). -/
def Fld.APPROACH_ERR_STREAM_BUSY : Fld := ⟨.approachErr, 7, 1, .w1c, 0, [(0, 1)]⟩
/-- APPROACH_FAULT.OBJECT (R215). -/
def Fld.APPROACH_FAULT_OBJECT : Fld := ⟨.approachFault, 0, 22, .ro, 0, [(0, 4194303)]⟩
/-- APPROACH_FAULT.OFFSET (R215). -/
def Fld.APPROACH_FAULT_OFFSET : Fld := ⟨.approachFault, 24, 40, .ro, 0, [(0, 1099511627775)]⟩
/-- APPROACH_FAULT_SRC.STREAM (R215). -/
def Fld.APPROACH_FAULT_SRC_STREAM : Fld := ⟨.approachFaultSrc, 0, 4, .ro, 0, [(0, 15)]⟩
/-- APPROACH_FAULT_SRC.SLOT (R215). -/
def Fld.APPROACH_FAULT_SRC_SLOT : Fld := ⟨.approachFaultSrc, 4, 10, .ro, 0, [(0, 1023)]⟩
/-- APPROACH_FAULT_SRC.CODE (R215). -/
def Fld.APPROACH_FAULT_SRC_CODE : Fld := ⟨.approachFaultSrc, 16, 16, .ro, 0, [(0, 65535)]⟩
/-- APPROACH_COUNT.MERGES (R215). -/
def Fld.APPROACH_COUNT_MERGES : Fld := ⟨.approachCount, 0, 32, .rw, 0, [(0, 4294967295)]⟩
/-- APPROACH_COUNT.LATE_REPLIES (R215). -/
def Fld.APPROACH_COUNT_LATE_REPLIES : Fld := ⟨.approachCount, 32, 16, .rw, 0, [(0, 65535)]⟩
/-- APPROACH_COUNT.WATCH_WAITS (R215). -/
def Fld.APPROACH_COUNT_WATCH_WAITS : Fld := ⟨.approachCount, 48, 16, .rw, 0, [(0, 65535)]⟩
/-- STREAM_DESC0.VALID (R216). -/
def Fld.STREAM_DESC0_VALID : Fld := ⟨.streamDesc0, 0, 1, .rw, 0, [(0, 1)]⟩
/-- STREAM_DESC0.AUTO (R216). -/
def Fld.STREAM_DESC0_AUTO : Fld := ⟨.streamDesc0, 1, 1, .rw, 0, [(0, 1)]⟩
/-- STREAM_DESC0.WATCH (R216). -/
def Fld.STREAM_DESC0_WATCH : Fld := ⟨.streamDesc0, 2, 1, .rw, 1, [(0, 1)]⟩
/-- STREAM_DESC0.STALE_MODE (R216). -/
def Fld.STREAM_DESC0_STALE_MODE : Fld := ⟨.streamDesc0, 3, 1, .rw, 0, [(0, 1)]⟩
/-- STREAM_DESC0.SIDE_MODE (R216). -/
def Fld.STREAM_DESC0_SIDE_MODE : Fld := ⟨.streamDesc0, 4, 1, .rw, 1, [(0, 1)]⟩
/-- STREAM_DESC0.ORIENT (R216). -/
def Fld.STREAM_DESC0_ORIENT : Fld := ⟨.streamDesc0, 5, 1, .rw, 0, [(0, 1)]⟩
/-- STREAM_DESC0.REGION (R216). -/
def Fld.STREAM_DESC0_REGION : Fld := ⟨.streamDesc0, 8, 6, .rw, 0, [(0, 63)]⟩
/-- STREAM_DESC0.DEPTH (R216). -/
def Fld.STREAM_DESC0_DEPTH : Fld := ⟨.streamDesc0, 16, 4, .rw, 1, [(1, 8)]⟩
/-- STREAM_DESC0.GANG_POS (R216). -/
def Fld.STREAM_DESC0_GANG_POS : Fld := ⟨.streamDesc0, 20, 3, .rw, 0, [(0, 7)]⟩
/-- STREAM_DESC0.GANG (R216). -/
def Fld.STREAM_DESC0_GANG : Fld := ⟨.streamDesc0, 23, 4, .rw, 1, [(1, 8)]⟩
/-- STREAM_DESC0.FMT (R216). -/
def Fld.STREAM_DESC0_FMT : Fld := ⟨.streamDesc0, 28, 8, .rw, 2, [(1, 12)]⟩
/-- STREAM_DESC0.COUNT (R216). -/
def Fld.STREAM_DESC0_COUNT : Fld := ⟨.streamDesc0, 36, 20, .rw, 1, [(1, 1048575)]⟩
/-- STREAM_DESC1.OBJECT (R216). -/
def Fld.STREAM_DESC1_OBJECT : Fld := ⟨.streamDesc1, 0, 22, .rw, 0, [(0, 4194303)]⟩
/-- STREAM_DESC1.BASE (R216). -/
def Fld.STREAM_DESC1_BASE : Fld := ⟨.streamDesc1, 24, 40, .rw, 0, [(0, 1099511627648)]⟩
/-- STREAM_DESC2.ROW_STRIDE (R216). -/
def Fld.STREAM_DESC2_ROW_STRIDE : Fld := ⟨.streamDesc2, 0, 24, .rw, 1, [(1, 16777215)]⟩
/-- STREAM_DESC2.N0 (R216). -/
def Fld.STREAM_DESC2_N0 : Fld := ⟨.streamDesc2, 24, 10, .rw, 1, [(1, 1023)]⟩
/-- STREAM_DESC2.N1 (R216). -/
def Fld.STREAM_DESC2_N1 : Fld := ⟨.streamDesc2, 34, 10, .rw, 1, [(1, 1023)]⟩
/-- STREAM_DESC3.S0 (R216). -/
def Fld.STREAM_DESC3_S0 : Fld := ⟨.streamDesc3, 0, 24, .rw, 0, [(0, 16777215)]⟩
/-- STREAM_DESC3.S1 (R216). -/
def Fld.STREAM_DESC3_S1 : Fld := ⟨.streamDesc3, 24, 24, .rw, 0, [(0, 16777215)]⟩
/-- STREAM_DESC4.S2 (R216). -/
def Fld.STREAM_DESC4_S2 : Fld := ⟨.streamDesc4, 0, 24, .rw, 0, [(0, 16777215)]⟩
/-- STREAM_DESC4.EXT_BASE (R216). -/
def Fld.STREAM_DESC4_EXT_BASE : Fld := ⟨.streamDesc4, 24, 40, .rw, 0, [(0, 1099511626752)]⟩
/-- STREAM_DESC5.LO (R216). -/
def Fld.STREAM_DESC5_LO : Fld := ⟨.streamDesc5, 24, 40, .rw, 0, [(0, 1099511627648)]⟩
/-- STREAM_DESC6.HI (R216). -/
def Fld.STREAM_DESC6_HI : Fld := ⟨.streamDesc6, 24, 40, .rw, 1099511627648, [(128, 1099511627648)]⟩
/-- STREAM_DESC7.SIDE_BASE (R216). -/
def Fld.STREAM_DESC7_SIDE_BASE : Fld := ⟨.streamDesc7, 24, 40, .rw, 0, [(0, 1099511627520)]⟩
/-- STREAM_COUNT0.FETCHED (R217). -/
def Fld.STREAM_COUNT0_FETCHED : Fld := ⟨.streamCount0, 0, 32, .rw, 0, [(0, 4294967295)]⟩
/-- STREAM_COUNT0.USED (R217). -/
def Fld.STREAM_COUNT0_USED : Fld := ⟨.streamCount0, 32, 32, .rw, 0, [(0, 4294967295)]⟩
/-- STREAM_COUNT1.ON_TIME (R217). -/
def Fld.STREAM_COUNT1_ON_TIME : Fld := ⟨.streamCount1, 0, 32, .rw, 0, [(0, 4294967295)]⟩
/-- STREAM_COUNT1.LATE (R217). -/
def Fld.STREAM_COUNT1_LATE : Fld := ⟨.streamCount1, 32, 32, .rw, 0, [(0, 4294967295)]⟩
/-- STREAM_COUNT2.LATE_CYCLES (R217). -/
def Fld.STREAM_COUNT2_LATE_CYCLES : Fld := ⟨.streamCount2, 0, 48, .rw, 0, [(0, 281474976710655)]⟩
/-- STREAM_COUNT2.CLIP_ROWS (R217). -/
def Fld.STREAM_COUNT2_CLIP_ROWS : Fld := ⟨.streamCount2, 48, 16, .rw, 0, [(0, 65535)]⟩
/-- STREAM_COUNT3.STALE_MARKS (R217). -/
def Fld.STREAM_COUNT3_STALE_MARKS : Fld := ⟨.streamCount3, 0, 16, .rw, 0, [(0, 65535)]⟩
/-- STREAM_COUNT3.REFETCHES (R217). -/
def Fld.STREAM_COUNT3_REFETCHES : Fld := ⟨.streamCount3, 16, 16, .rw, 0, [(0, 65535)]⟩
/-- STREAM_COUNT3.POISONED (R217). -/
def Fld.STREAM_COUNT3_POISONED : Fld := ⟨.streamCount3, 32, 16, .rw, 0, [(0, 65535)]⟩
/-- STREAM_COUNT3.DROPPED (R217). -/
def Fld.STREAM_COUNT3_DROPPED : Fld := ⟨.streamCount3, 48, 16, .rw, 0, [(0, 65535)]⟩
/-- STREAM_COUNT4.POISON_DROPPED (R217). -/
def Fld.STREAM_COUNT4_POISON_DROPPED : Fld := ⟨.streamCount4, 0, 16, .rw, 0, [(0, 65535)]⟩
/-- COPY_DESC0.VALID (R273). -/
def Fld.COPY_DESC0_VALID : Fld := ⟨.copyDesc0, 0, 1, .rw, 0, [(0, 1)]⟩
/-- COPY_DESC0.AUTO (R273). -/
def Fld.COPY_DESC0_AUTO : Fld := ⟨.copyDesc0, 1, 1, .rw, 0, [(0, 1)]⟩
/-- COPY_DESC0.WATCH (R273). -/
def Fld.COPY_DESC0_WATCH : Fld := ⟨.copyDesc0, 2, 1, .rw, 1, [(0, 1)]⟩
/-- COPY_DESC0.STALE_MODE (R273). -/
def Fld.COPY_DESC0_STALE_MODE : Fld := ⟨.copyDesc0, 3, 1, .rw, 0, [(0, 1)]⟩
/-- COPY_DESC0.SIDE_MODE (R273). -/
def Fld.COPY_DESC0_SIDE_MODE : Fld := ⟨.copyDesc0, 4, 1, .rw, 1, [(0, 1)]⟩
/-- COPY_DESC0.ORIENT (R273). -/
def Fld.COPY_DESC0_ORIENT : Fld := ⟨.copyDesc0, 5, 1, .rw, 0, [(0, 1)]⟩
/-- COPY_DESC0.REGION (R273). -/
def Fld.COPY_DESC0_REGION : Fld := ⟨.copyDesc0, 8, 6, .rw, 0, [(0, 63)]⟩
/-- COPY_DESC0.DEPTH (R273). -/
def Fld.COPY_DESC0_DEPTH : Fld := ⟨.copyDesc0, 16, 4, .rw, 1, [(1, 8)]⟩
/-- COPY_DESC0.GANG_POS (R273). -/
def Fld.COPY_DESC0_GANG_POS : Fld := ⟨.copyDesc0, 20, 3, .rw, 0, [(0, 7)]⟩
/-- COPY_DESC0.GANG (R273). -/
def Fld.COPY_DESC0_GANG : Fld := ⟨.copyDesc0, 23, 4, .rw, 1, [(1, 8)]⟩
/-- COPY_DESC0.FMT (R273). -/
def Fld.COPY_DESC0_FMT : Fld := ⟨.copyDesc0, 28, 8, .rw, 2, [(1, 12)]⟩
/-- COPY_DESC0.COUNT (R273). -/
def Fld.COPY_DESC0_COUNT : Fld := ⟨.copyDesc0, 36, 20, .rw, 1, [(1, 1048575)]⟩
/-- COPY_DESC0.DIR (R273). -/
def Fld.COPY_DESC0_DIR : Fld := ⟨.copyDesc0, 6, 1, .rw, 0, [(0, 1)]⟩
/-- COPY_DESC1.OBJECT (R273). -/
def Fld.COPY_DESC1_OBJECT : Fld := ⟨.copyDesc1, 0, 22, .rw, 0, [(0, 4194303)]⟩
/-- COPY_DESC1.BASE (R273). -/
def Fld.COPY_DESC1_BASE : Fld := ⟨.copyDesc1, 24, 40, .rw, 0, [(0, 1099511627648)]⟩
/-- COPY_DESC2.ROW_STRIDE (R273). -/
def Fld.COPY_DESC2_ROW_STRIDE : Fld := ⟨.copyDesc2, 0, 24, .rw, 1, [(1, 16777215)]⟩
/-- COPY_DESC2.N0 (R273). -/
def Fld.COPY_DESC2_N0 : Fld := ⟨.copyDesc2, 24, 10, .rw, 1, [(1, 1023)]⟩
/-- COPY_DESC2.N1 (R273). -/
def Fld.COPY_DESC2_N1 : Fld := ⟨.copyDesc2, 34, 10, .rw, 1, [(1, 1023)]⟩
/-- COPY_DESC3.S0 (R273). -/
def Fld.COPY_DESC3_S0 : Fld := ⟨.copyDesc3, 0, 24, .rw, 0, [(0, 16777215)]⟩
/-- COPY_DESC3.S1 (R273). -/
def Fld.COPY_DESC3_S1 : Fld := ⟨.copyDesc3, 24, 24, .rw, 0, [(0, 16777215)]⟩
/-- COPY_DESC4.S2 (R273). -/
def Fld.COPY_DESC4_S2 : Fld := ⟨.copyDesc4, 0, 24, .rw, 0, [(0, 16777215)]⟩
/-- COPY_DESC4.EXT_BASE (R273). -/
def Fld.COPY_DESC4_EXT_BASE : Fld := ⟨.copyDesc4, 24, 40, .rw, 0, [(0, 1099511626752)]⟩
/-- COPY_DESC5.LO (R273). -/
def Fld.COPY_DESC5_LO : Fld := ⟨.copyDesc5, 24, 40, .rw, 0, [(0, 1099511627648)]⟩
/-- COPY_DESC6.HI (R273). -/
def Fld.COPY_DESC6_HI : Fld := ⟨.copyDesc6, 24, 40, .rw, 1099511627648, [(128, 1099511627648)]⟩
/-- COPY_DESC7.SIDE_BASE (R273). -/
def Fld.COPY_DESC7_SIDE_BASE : Fld := ⟨.copyDesc7, 24, 40, .rw, 0, [(0, 1099511627520)]⟩
/-- PCTL_STATUS.STATE (R314). -/
def Fld.PCTL_STATUS_STATE : Fld := ⟨.pctlStatus, 0, 3, .ro, 0, [(0, 7)]⟩
/-- PCTL_STATUS.LOGICAL (R314). -/
def Fld.PCTL_STATUS_LOGICAL : Fld := ⟨.pctlStatus, 3, 8, .ro, 255, [(0, 255)]⟩
/-- PCTL_STATUS.DOMAIN (R314). -/
def Fld.PCTL_STATUS_DOMAIN : Fld := ⟨.pctlStatus, 11, 4, .ro, 15, [(0, 15)]⟩
/-- PCTL_STATUS.LOOP_DEPTH (R314). -/
def Fld.PCTL_STATUS_LOOP_DEPTH : Fld := ⟨.pctlStatus, 15, 3, .ro, 0, [(0, 7)]⟩
/-- PCTL_STATUS.JOINT_INDEX (R314). -/
def Fld.PCTL_STATUS_JOINT_INDEX : Fld := ⟨.pctlStatus, 18, 16, .ro, 0, [(0, 65535)]⟩
/-- PCTL_SLOT.SLOT (R314). -/
def Fld.PCTL_SLOT_SLOT : Fld := ⟨.pctlSlot, 0, 48, .ro, 0, [(0, 281474976710655)]⟩
/-- PCTL_STALL.CYCLES (R314). -/
def Fld.PCTL_STALL_CYCLES : Fld := ⟨.pctlStall, 0, 48, .ro, 0, [(0, 281474976710655)]⟩
/-- PCTL_STALL_CAUSE.REGION (R315). -/
def Fld.PCTL_STALL_CAUSE_REGION : Fld := ⟨.pctlStallCause, 0, 16, .rw, 0, [(0, 65535)]⟩
/-- PCTL_STALL_CAUSE.BEAT (R315). -/
def Fld.PCTL_STALL_CAUSE_BEAT : Fld := ⟨.pctlStallCause, 16, 16, .rw, 0, [(0, 65535)]⟩
/-- PCTL_STALL_CAUSE.TOKEN (R315). -/
def Fld.PCTL_STALL_CAUSE_TOKEN : Fld := ⟨.pctlStallCause, 32, 16, .rw, 0, [(0, 65535)]⟩
/-- PCTL_STALL_CAUSE.OTHER (R315). -/
def Fld.PCTL_STALL_CAUSE_OTHER : Fld := ⟨.pctlStallCause, 48, 16, .rw, 0, [(0, 65535)]⟩
/-- PCTL_FAULT.CODE (R315). -/
def Fld.PCTL_FAULT_CODE : Fld := ⟨.pctlFault, 0, 16, .ro, 0, [(0, 65535)]⟩
/-- PCTL_FAULT.SLOT (R315). -/
def Fld.PCTL_FAULT_SLOT : Fld := ⟨.pctlFault, 16, 48, .ro, 0, [(0, 281474976710655)]⟩
/-- PCTL_ERR.BUNDLE_UE (R315). -/
def Fld.PCTL_ERR_BUNDLE_UE : Fld := ⟨.pctlErr, 0, 1, .w1c, 0, [(0, 1)]⟩
/-- PCTL_ERR.BARRIER_MISMATCH (R315). -/
def Fld.PCTL_ERR_BARRIER_MISMATCH : Fld := ⟨.pctlErr, 1, 1, .w1c, 0, [(0, 1)]⟩
/-- UPD_STATUS.BUSY (R355). -/
def Fld.UPD_STATUS_BUSY : Fld := ⟨.updStatus, 0, 1, .ro, 0, [(0, 1)]⟩
/-- UPD_STATUS.DESC (R355). -/
def Fld.UPD_STATUS_DESC : Fld := ⟨.updStatus, 1, 10, .ro, 0, [(0, 1023)]⟩
/-- UPD_STATUS.TILES_LEFT (R355). -/
def Fld.UPD_STATUS_TILES_LEFT : Fld := ⟨.updStatus, 11, 10, .ro, 0, [(0, 1023)]⟩
/-- UPD_ERR.STEP_SKEW (R355). -/
def Fld.UPD_ERR_STEP_SKEW : Fld := ⟨.updErr, 0, 1, .w1c, 0, [(0, 1)]⟩
/-- UPD_ERR.LOAD_FAULT (R355). -/
def Fld.UPD_ERR_LOAD_FAULT : Fld := ⟨.updErr, 1, 1, .w1c, 0, [(0, 1)]⟩
/-- UPD_ERR.FORMAT_MISMATCH (R355). -/
def Fld.UPD_ERR_FORMAT_MISMATCH : Fld := ⟨.updErr, 2, 1, .w1c, 0, [(0, 1)]⟩
/-- UPD_COUNT.ELEMENTS (R355). -/
def Fld.UPD_COUNT_ELEMENTS : Fld := ⟨.updCount, 0, 48, .ro, 0, [(0, 281474976710655)]⟩
/-- UPD_COUNT.SKEW_COUNT (R355). -/
def Fld.UPD_COUNT_SKEW_COUNT : Fld := ⟨.updCount, 48, 16, .rw, 0, [(0, 65535)]⟩
/-- UPD_SKIP.FROZEN (R355). -/
def Fld.UPD_SKIP_FROZEN : Fld := ⟨.updSkip, 0, 32, .rw, 0, [(0, 4294967295)]⟩
/-- UPD_SKIP.NAN_SKIPS (R355). -/
def Fld.UPD_SKIP_NAN_SKIPS : Fld := ⟨.updSkip, 32, 32, .rw, 0, [(0, 4294967295)]⟩
/-- RNG_STATUS.SHARD (R372). -/
def Fld.RNG_STATUS_SHARD : Fld := ⟨.rngStatus, 0, 16, .ro, 0, [(0, 65535)]⟩
/-- RNG_STATUS.EVAL (R372). -/
def Fld.RNG_STATUS_EVAL : Fld := ⟨.rngStatus, 16, 1, .ro, 0, [(0, 1)]⟩
/-- RNG_STATUS.STREAMS (R372). -/
def Fld.RNG_STATUS_STREAMS : Fld := ⟨.rngStatus, 17, 7, .ro, 0, [(0, 127)]⟩
/-- RNG_COUNT.DRAWS (R372). -/
def Fld.RNG_COUNT_DRAWS : Fld := ⟨.rngCount, 0, 48, .ro, 0, [(0, 281474976710655)]⟩
/-- RNG_USE.USE (R372). -/
def Fld.RNG_USE_USE : Fld := ⟨.rngUse, 0, 32, .ro, 0, [(0, 4294967295)]⟩
/-- RNG_USE.VALID (R372). -/
def Fld.RNG_USE_VALID : Fld := ⟨.rngUse, 32, 1, .ro, 0, [(0, 1)]⟩
/-- RNG_SEED.SEED (R372). -/
def Fld.RNG_SEED_SEED : Fld := ⟨.rngSeed, 0, 64, .ro, 0, [(0, 18446744073709551615)]⟩
/-- STAGE_STATUS.ACTIVE (R372). -/
def Fld.STAGE_STATUS_ACTIVE : Fld := ⟨.stageStatus, 0, 2, .ro, 0, [(0, 3)]⟩
/-- STAGE_STATUS.NSTAGES (R372). -/
def Fld.STAGE_STATUS_NSTAGES : Fld := ⟨.stageStatus, 2, 3, .ro, 1, [(0, 7)]⟩
/-- STAGE_STATUS.STAGE_ID (R372). -/
def Fld.STAGE_STATUS_STAGE_ID : Fld := ⟨.stageStatus, 16, 16, .ro, 0, [(0, 65535)]⟩
/-- STAGE_STATUS.SWITCHES (R372). -/
def Fld.STAGE_STATUS_SWITCHES : Fld := ⟨.stageStatus, 32, 32, .rw, 0, [(0, 4294967295)]⟩
/-- DECK_SPARES.SOFT_USED (R542). -/
def Fld.DECK_SPARES_SOFT_USED : Fld := ⟨.deckSpares, 0, 4, .ro, 0, [(0, 15)]⟩
/-- DECK_SPARES.FUSE_USED (R542). -/
def Fld.DECK_SPARES_FUSE_USED : Fld := ⟨.deckSpares, 4, 4, .ro, 0, [(0, 15)]⟩
/-- VIADUCT_LAYOUT.SEG_COUNT (R137). -/
def Fld.VIADUCT_LAYOUT_SEG_COUNT : Fld := ⟨.viaductLayout, 0, 4, .ro, 0, [(0, 15)]⟩
/-- VIADUCT_LAYOUT.ORIGIN (R137). -/
def Fld.VIADUCT_LAYOUT_ORIGIN : Fld := ⟨.viaductLayout, 4, 3, .ro, 0, [(0, 7)]⟩
/-- VIADUCT_LAYOUT.SIZE (R137). -/
def Fld.VIADUCT_LAYOUT_SIZE : Fld := ⟨.viaductLayout, 8, 16, .ro, 0, [(0, 65535)]⟩
/-- VIADUCT_LAYOUT.BOUND_PIERS (R137). -/
def Fld.VIADUCT_LAYOUT_BOUND_PIERS : Fld := ⟨.viaductLayout, 32, 8, .ro, 0, [(0, 255)]⟩
/-- VIADUCT_EXT.NEXT0 (R138). -/
def Fld.VIADUCT_EXT_NEXT0 : Fld := ⟨.viaductExt, 0, 4, .ro, 15, [(0, 15)]⟩
/-- VIADUCT_EXT.PREV0 (R138). -/
def Fld.VIADUCT_EXT_PREV0 : Fld := ⟨.viaductExt, 4, 4, .ro, 15, [(0, 15)]⟩
/-- VIADUCT_EXT.NEXT1 (R138). -/
def Fld.VIADUCT_EXT_NEXT1 : Fld := ⟨.viaductExt, 8, 4, .ro, 15, [(0, 15)]⟩
/-- VIADUCT_EXT.PREV1 (R138). -/
def Fld.VIADUCT_EXT_PREV1 : Fld := ⟨.viaductExt, 12, 4, .ro, 15, [(0, 15)]⟩
/-- VIADUCT_EXT.NEXT2 (R138). -/
def Fld.VIADUCT_EXT_NEXT2 : Fld := ⟨.viaductExt, 16, 4, .ro, 15, [(0, 15)]⟩
/-- VIADUCT_EXT.PREV2 (R138). -/
def Fld.VIADUCT_EXT_PREV2 : Fld := ⟨.viaductExt, 20, 4, .ro, 15, [(0, 15)]⟩
/-- VIADUCT_EXT.NEXT3 (R138). -/
def Fld.VIADUCT_EXT_NEXT3 : Fld := ⟨.viaductExt, 24, 4, .ro, 15, [(0, 15)]⟩
/-- VIADUCT_EXT.PREV3 (R138). -/
def Fld.VIADUCT_EXT_PREV3 : Fld := ⟨.viaductExt, 28, 4, .ro, 15, [(0, 15)]⟩
/-- VIADUCT_EXT.NEXT4 (R138). -/
def Fld.VIADUCT_EXT_NEXT4 : Fld := ⟨.viaductExt, 32, 4, .ro, 15, [(0, 15)]⟩
/-- VIADUCT_EXT.PREV4 (R138). -/
def Fld.VIADUCT_EXT_PREV4 : Fld := ⟨.viaductExt, 36, 4, .ro, 15, [(0, 15)]⟩
/-- VIADUCT_EXT.NEXT5 (R138). -/
def Fld.VIADUCT_EXT_NEXT5 : Fld := ⟨.viaductExt, 40, 4, .ro, 15, [(0, 15)]⟩
/-- VIADUCT_EXT.PREV5 (R138). -/
def Fld.VIADUCT_EXT_PREV5 : Fld := ⟨.viaductExt, 44, 4, .ro, 15, [(0, 15)]⟩
/-- VIADUCT_EXT.NEXT6 (R138). -/
def Fld.VIADUCT_EXT_NEXT6 : Fld := ⟨.viaductExt, 48, 4, .ro, 15, [(0, 15)]⟩
/-- VIADUCT_EXT.PREV6 (R138). -/
def Fld.VIADUCT_EXT_PREV6 : Fld := ⟨.viaductExt, 52, 4, .ro, 15, [(0, 15)]⟩
/-- VIADUCT_EXT.NEXT7 (R138). -/
def Fld.VIADUCT_EXT_NEXT7 : Fld := ⟨.viaductExt, 56, 4, .ro, 15, [(0, 15)]⟩
/-- VIADUCT_EXT.PREV7 (R138). -/
def Fld.VIADUCT_EXT_PREV7 : Fld := ⟨.viaductExt, 60, 4, .ro, 15, [(0, 15)]⟩
/-- VIADUCT_STATUS.BOUND (R139). -/
def Fld.VIADUCT_STATUS_BOUND : Fld := ⟨.viaductStatus, 0, 1, .ro, 0, [(0, 1)]⟩
/-- VIADUCT_STATUS.MAX_EXTRA (R139). -/
def Fld.VIADUCT_STATUS_MAX_EXTRA : Fld := ⟨.viaductStatus, 1, 6, .ro, 0, [(0, 63)]⟩
/-- VIADUCT_STATUS.BREAK (R139). -/
def Fld.VIADUCT_STATUS_BREAK : Fld := ⟨.viaductStatus, 7, 1, .ro, 0, [(0, 1)]⟩
/-- VIADUCT_STATUS.BREAK_PIER (R139). -/
def Fld.VIADUCT_STATUS_BREAK_PIER : Fld := ⟨.viaductStatus, 8, 8, .ro, 0, [(0, 255)]⟩
/-- VIADUCT_STATUS.BREAK_COUNT (R139). -/
def Fld.VIADUCT_STATUS_BREAK_COUNT : Fld := ⟨.viaductStatus, 16, 8, .ro, 0, [(0, 255)]⟩
/-- GATE_CFG.SPLIT (R247). -/
def Fld.GATE_CFG_SPLIT : Fld := ⟨.gateCfg, 0, 2, .rw, 0, [(0, 3)]⟩
/-- GATE_CFG.AGE_LOG2 (R247). -/
def Fld.GATE_CFG_AGE_LOG2 : Fld := ⟨.gateCfg, 2, 5, .rw, 12, [(8, 16)]⟩
/-- GATE_CFG.SCRUB_HOURS (R247). -/
def Fld.GATE_CFG_SCRUB_HOURS : Fld := ⟨.gateCfg, 8, 8, .rw, 24, [(0, 168)]⟩
/-- GATE_CFG.CE_ROW_LIMIT (R247). -/
def Fld.GATE_CFG_CE_ROW_LIMIT : Fld := ⟨.gateCfg, 16, 8, .rw, 4, [(1, 255)]⟩
/-- GATE_CFG.REFRESH_FLOOR (R247). -/
def Fld.GATE_CFG_REFRESH_FLOOR : Fld := ⟨.gateCfg, 24, 2, .rw, 0, [(0, 2)]⟩
/-- GATE_STATUS.STATE (R248). -/
def Fld.GATE_STATUS_STATE : Fld := ⟨.gateStatus, 0, 3, .ro, 0, [(0, 7)]⟩
/-- GATE_STATUS.REFRESH_RATE (R248). -/
def Fld.GATE_STATUS_REFRESH_RATE : Fld := ⟨.gateStatus, 3, 2, .ro, 0, [(0, 3)]⟩
/-- GATE_STATUS.FW_UPDATE (R248). -/
def Fld.GATE_STATUS_FW_UPDATE : Fld := ⟨.gateStatus, 5, 1, .ro, 0, [(0, 1)]⟩
/-- GATE_STATUS.SOFT_USED (R248). -/
def Fld.GATE_STATUS_SOFT_USED : Fld := ⟨.gateStatus, 8, 9, .ro, 0, [(0, 511)]⟩
/-- GATE_STATUS.HARD_USED (R248). -/
def Fld.GATE_STATUS_HARD_USED : Fld := ⟨.gateStatus, 17, 15, .ro, 0, [(0, 32767)]⟩
/-- GATE_TEMP.TEMP_NOW (R248). -/
def Fld.GATE_TEMP_TEMP_NOW : Fld := ⟨.gateTemp, 0, 8, .ro, 0, [(0, 255)]⟩
/-- GATE_TEMP.TEMP_MAX (R248). -/
def Fld.GATE_TEMP_TEMP_MAX : Fld := ⟨.gateTemp, 8, 8, .rw, 0, [(0, 150)]⟩
/-- GATE_ERR.MEM_CE (R249). -/
def Fld.GATE_ERR_MEM_CE : Fld := ⟨.gateErr, 0, 1, .w1c, 0, [(0, 1)]⟩
/-- GATE_ERR.MEM_UE (R249). -/
def Fld.GATE_ERR_MEM_UE : Fld := ⟨.gateErr, 1, 1, .w1c, 0, [(0, 1)]⟩
/-- GATE_ERR.MEM_ROW_DEGRADED (R249). -/
def Fld.GATE_ERR_MEM_ROW_DEGRADED : Fld := ⟨.gateErr, 2, 1, .w1c, 0, [(0, 1)]⟩
/-- GATE_ERR.STACK_THROTTLE (R249). -/
def Fld.GATE_ERR_STACK_THROTTLE : Fld := ⟨.gateErr, 3, 1, .w1c, 0, [(0, 1)]⟩
/-- GATE_ERR.STACK_OVERTEMP (R249). -/
def Fld.GATE_ERR_STACK_OVERTEMP : Fld := ⟨.gateErr, 4, 1, .w1c, 0, [(0, 1)]⟩
/-- GATE_ERR.REPAIR_FAIL (R249). -/
def Fld.GATE_ERR_REPAIR_FAIL : Fld := ⟨.gateErr, 5, 1, .w1c, 0, [(0, 1)]⟩
/-- GATE_ERR.STACK_FAIL (R249). -/
def Fld.GATE_ERR_STACK_FAIL : Fld := ⟨.gateErr, 6, 1, .w1c, 0, [(0, 1)]⟩
/-- GATE_ERR_COUNT.CE_COUNT (R250). -/
def Fld.GATE_ERR_COUNT_CE_COUNT : Fld := ⟨.gateErrCount, 0, 32, .rw, 0, [(0, 4294967295)]⟩
/-- GATE_ERR_COUNT.UE_COUNT (R250). -/
def Fld.GATE_ERR_COUNT_UE_COUNT : Fld := ⟨.gateErrCount, 32, 16, .rw, 0, [(0, 65535)]⟩
/-- GATE_ERR_COUNT.ROW_DEGRADED (R250). -/
def Fld.GATE_ERR_COUNT_ROW_DEGRADED : Fld := ⟨.gateErrCount, 48, 16, .rw, 0, [(0, 65535)]⟩
/-- GATE_ERR_LOC.CHANNEL (R251). -/
def Fld.GATE_ERR_LOC_CHANNEL : Fld := ⟨.gateErrLoc, 0, 5, .ro, 0, [(0, 31)]⟩
/-- GATE_ERR_LOC.BANK (R251). -/
def Fld.GATE_ERR_LOC_BANK : Fld := ⟨.gateErrLoc, 5, 6, .ro, 0, [(0, 63)]⟩
/-- GATE_ERR_LOC.ROW (R251). -/
def Fld.GATE_ERR_LOC_ROW : Fld := ⟨.gateErrLoc, 11, 16, .ro, 0, [(0, 65535)]⟩
/-- GATE_ERR_LOC.COLUMN (R251). -/
def Fld.GATE_ERR_LOC_COLUMN : Fld := ⟨.gateErrLoc, 27, 4, .ro, 0, [(0, 15)]⟩
/-- GATE_ERR_LOC.UE (R251). -/
def Fld.GATE_ERR_LOC_UE : Fld := ⟨.gateErrLoc, 31, 1, .ro, 0, [(0, 1)]⟩
/-- GATE_ERR_LOC.STORED (R251). -/
def Fld.GATE_ERR_LOC_STORED : Fld := ⟨.gateErrLoc, 32, 1, .ro, 0, [(0, 1)]⟩
/-- GATE_ERR_LOC.SCRUB (R251). -/
def Fld.GATE_ERR_LOC_SCRUB : Fld := ⟨.gateErrLoc, 33, 1, .ro, 0, [(0, 1)]⟩
/-- GATE_ERR_ADDR.ADDR (R251). -/
def Fld.GATE_ERR_ADDR_ADDR : Fld := ⟨.gateErrAddr, 0, 40, .ro, 0, [(0, 1099511627775)]⟩
/-- GATE_BURSTS.BURSTS (R252). -/
def Fld.GATE_BURSTS_BURSTS : Fld := ⟨.gateBursts, 0, 48, .ro, 0, [(0, 281474976710655)]⟩
/-- REPAIR_CTRL.OP (R253). -/
def Fld.REPAIR_CTRL_OP : Fld := ⟨.repairCtrl, 0, 2, .wo, 0, [(0, 3)]⟩
/-- REPAIR_CTRL.CHANNEL (R253). -/
def Fld.REPAIR_CTRL_CHANNEL : Fld := ⟨.repairCtrl, 2, 5, .wo, 0, [(0, 31)]⟩
/-- REPAIR_CTRL.BANK (R253). -/
def Fld.REPAIR_CTRL_BANK : Fld := ⟨.repairCtrl, 7, 6, .wo, 0, [(0, 63)]⟩
/-- REPAIR_CTRL.ROW (R253). -/
def Fld.REPAIR_CTRL_ROW : Fld := ⟨.repairCtrl, 13, 16, .wo, 0, [(0, 65535)]⟩
/-- REPAIR_STATUS.BUSY (R253). -/
def Fld.REPAIR_STATUS_BUSY : Fld := ⟨.repairStatus, 0, 1, .ro, 0, [(0, 1)]⟩
/-- REPAIR_STATUS.RESULT (R253). -/
def Fld.REPAIR_STATUS_RESULT : Fld := ⟨.repairStatus, 1, 3, .ro, 0, [(0, 7)]⟩
/-- REPAIR_STATUS.SPARES_LEFT (R253). -/
def Fld.REPAIR_STATUS_SPARES_LEFT : Fld := ⟨.repairStatus, 4, 3, .ro, 0, [(0, 7)]⟩
/-- WATCH_SEL.INDEX (R255). -/
def Fld.WATCH_SEL_INDEX : Fld := ⟨.watchSel, 0, 8, .rw, 0, [(0, 255)]⟩
/-- WATCH_W0.VALID (R201). -/
def Fld.WATCH_W0_VALID : Fld := ⟨.watchW0, 0, 1, .ro, 0, [(0, 1)]⟩
/-- WATCH_W0.PIER (R201). -/
def Fld.WATCH_W0_PIER : Fld := ⟨.watchW0, 1, 8, .ro, 0, [(0, 255)]⟩
/-- WATCH_W0.SLOT (R201). -/
def Fld.WATCH_W0_SLOT : Fld := ⟨.watchW0, 9, 10, .ro, 0, [(0, 1023)]⟩
/-- WATCH_W0.KIND (R201). -/
def Fld.WATCH_W0_KIND : Fld := ⟨.watchW0, 19, 2, .ro, 0, [(0, 3)]⟩
/-- WATCH_W0.GEN (R201). -/
def Fld.WATCH_W0_GEN : Fld := ⟨.watchW0, 21, 2, .ro, 0, [(0, 3)]⟩
/-- WATCH_W0.LO (R201). -/
def Fld.WATCH_W0_LO : Fld := ⟨.watchW0, 23, 33, .ro, 0, [(0, 8589934591)]⟩
/-- WATCH_W1.HI (R201). -/
def Fld.WATCH_W1_HI : Fld := ⟨.watchW1, 0, 34, .ro, 0, [(0, 17179869183)]⟩
/-- WATCH_COUNT.IN_USE (R255). -/
def Fld.WATCH_COUNT_IN_USE : Fld := ⟨.watchCount, 0, 9, .ro, 0, [(0, 511)]⟩
/-- WATCH_COUNT.HIGH_WATER (R255). -/
def Fld.WATCH_COUNT_HIGH_WATER : Fld := ⟨.watchCount, 9, 9, .rw, 0, [(0, 256)]⟩
/-- WATCH_COUNT.NOTICES (R255). -/
def Fld.WATCH_COUNT_NOTICES : Fld := ⟨.watchCount, 32, 32, .rw, 0, [(0, 4294967295)]⟩
/-- SOFT_REPAIR.VALID (R254). -/
def Fld.SOFT_REPAIR_VALID : Fld := ⟨.softRepair, 0, 1, .ro, 0, [(0, 1)]⟩
/-- SOFT_REPAIR.BANK (R254). -/
def Fld.SOFT_REPAIR_BANK : Fld := ⟨.softRepair, 1, 6, .ro, 0, [(0, 63)]⟩
/-- SOFT_REPAIR.ROW (R254). -/
def Fld.SOFT_REPAIR_ROW : Fld := ⟨.softRepair, 7, 16, .ro, 0, [(0, 65535)]⟩
/-- SOFT_REPAIR.SPARE (R254). -/
def Fld.SOFT_REPAIR_SPARE : Fld := ⟨.softRepair, 23, 2, .ro, 0, [(0, 3)]⟩
/-- INTERLEAVE_MODE.MODE (R256). -/
def Fld.INTERLEAVE_MODE_MODE : Fld := ⟨.interleaveMode, 0, 64, .ro, 0, [(0, 18446744073709551615)]⟩
/-- HOME_CFG.POOL_RESERVE (R284). -/
def Fld.HOME_CFG_POOL_RESERVE : Fld := ⟨.homeCfg, 0, 16, .rw, 64, [(0, 65535)]⟩
/-- HOME_CFG.AGE_GRAIN_LOG2 (R284). -/
def Fld.HOME_CFG_AGE_GRAIN_LOG2 : Fld := ⟨.homeCfg, 16, 6, .rw, 16, [(10, 32)]⟩
/-- HOME_STATUS.FREE_FRAMES (R284). -/
def Fld.HOME_STATUS_FREE_FRAMES : Fld := ⟨.homeStatus, 0, 19, .ro, 0, [(0, 524287)]⟩
/-- HOME_STATUS.POOLED_FRAMES (R284). -/
def Fld.HOME_STATUS_POOLED_FRAMES : Fld := ⟨.homeStatus, 19, 19, .ro, 0, [(0, 524287)]⟩
/-- HOME_STATUS.EXHAUSTED (R284). -/
def Fld.HOME_STATUS_EXHAUSTED : Fld := ⟨.homeStatus, 38, 1, .ro, 0, [(0, 1)]⟩
/-- HOME_ERR.POOL_EXHAUSTED (R285). -/
def Fld.HOME_ERR_POOL_EXHAUSTED : Fld := ⟨.homeErr, 0, 1, .w1c, 0, [(0, 1)]⟩
/-- HOME_ERR.MOVE_POISON (R285). -/
def Fld.HOME_ERR_MOVE_POISON : Fld := ⟨.homeErr, 1, 1, .w1c, 0, [(0, 1)]⟩
/-- HOME_COUNT.BRINGUPS (R285). -/
def Fld.HOME_COUNT_BRINGUPS : Fld := ⟨.homeCount, 0, 32, .rw, 0, [(0, 4294967295)]⟩
/-- HOME_COUNT.EVICTIONS (R285). -/
def Fld.HOME_COUNT_EVICTIONS : Fld := ⟨.homeCount, 32, 32, .rw, 0, [(0, 4294967295)]⟩
/-- WINDOW_COUNT.CLOSED_DROPS (R285). -/
def Fld.WINDOW_COUNT_CLOSED_DROPS : Fld := ⟨.windowCount, 0, 32, .rw, 0, [(0, 4294967295)]⟩
/-- WINDOW_COUNT.PERM_DROPS (R285). -/
def Fld.WINDOW_COUNT_PERM_DROPS : Fld := ⟨.windowCount, 32, 16, .rw, 0, [(0, 65535)]⟩
/-- WINDOW_COUNT.RANGE_DROPS (R285). -/
def Fld.WINDOW_COUNT_RANGE_DROPS : Fld := ⟨.windowCount, 48, 16, .rw, 0, [(0, 65535)]⟩
/-- WINDOW_STATUS.OPEN_COUNT (R284). -/
def Fld.WINDOW_STATUS_OPEN_COUNT : Fld := ⟨.windowStatus, 0, 21, .ro, 0, [(0, 2097151)]⟩
/-- SCHED_STATUS.STATE (R316). -/
def Fld.SCHED_STATUS_STATE : Fld := ⟨.schedStatus, 0, 3, .ro, 0, [(0, 7)]⟩
/-- SCHED_STATUS.PREEMPT_PENDING (R316). -/
def Fld.SCHED_STATUS_PREEMPT_PENDING : Fld := ⟨.schedStatus, 3, 1, .ro, 0, [(0, 1)]⟩
/-- SCHED_STATUS.BOUND_N (R316). -/
def Fld.SCHED_STATUS_BOUND_N : Fld := ⟨.schedStatus, 4, 8, .ro, 0, [(0, 255)]⟩
/-- SCHED_STATUS.BINDING (R316). -/
def Fld.SCHED_STATUS_BINDING : Fld := ⟨.schedStatus, 12, 4, .ro, 0, [(0, 15)]⟩
/-- SCHED_STATUS.JOINT_INDEX (R316). -/
def Fld.SCHED_STATUS_JOINT_INDEX : Fld := ⟨.schedStatus, 16, 16, .ro, 0, [(0, 65535)]⟩
/-- SCHED_FAULT.CODE (R316). -/
def Fld.SCHED_FAULT_CODE : Fld := ⟨.schedFault, 0, 16, .ro, 0, [(0, 65535)]⟩
/-- SCHED_FAULT.PIER (R316). -/
def Fld.SCHED_FAULT_PIER : Fld := ⟨.schedFault, 16, 7, .ro, 0, [(0, 127)]⟩
/-- SCHED_FAULT.SLOT (R316). -/
def Fld.SCHED_FAULT_SLOT : Fld := ⟨.schedFault, 24, 40, .ro, 0, [(0, 1099511627775)]⟩
/-- SCHED_IMAGE.ARCH_LEVEL (R316). -/
def Fld.SCHED_IMAGE_ARCH_LEVEL : Fld := ⟨.schedImage, 0, 16, .ro, 0, [(0, 65535)]⟩
/-- SCHED_IMAGE.FORMAT_MINOR (R316). -/
def Fld.SCHED_IMAGE_FORMAT_MINOR : Fld := ⟨.schedImage, 16, 16, .ro, 0, [(0, 65535)]⟩
/-- SCHED_IMAGE.FLAGS (R316). -/
def Fld.SCHED_IMAGE_FLAGS : Fld := ⟨.schedImage, 32, 3, .ro, 0, [(0, 7)]⟩
/-- TOKEN_COST.LOADING (R333). -/
def Fld.TOKEN_COST_LOADING : Fld := ⟨.tokenCost, 0, 8, .ro, 10, [(0, 255)]⟩
/-- TOKEN_COST.PASS16 (R333). -/
def Fld.TOKEN_COST_PASS16 : Fld := ⟨.tokenCost, 8, 8, .ro, 38, [(0, 255)]⟩
/-- TOKEN_COST.PASS8 (R333). -/
def Fld.TOKEN_COST_PASS8 : Fld := ⟨.tokenCost, 16, 8, .ro, 44, [(0, 255)]⟩
/-- TOKEN_COST.PASS4 (R333). -/
def Fld.TOKEN_COST_PASS4 : Fld := ⟨.tokenCost, 24, 8, .ro, 50, [(0, 255)]⟩
/-- TOKEN_COST.COMP_ADD (R333). -/
def Fld.TOKEN_COST_COMP_ADD : Fld := ⟨.tokenCost, 32, 8, .ro, 2, [(0, 255)]⟩
/-- TOKEN_STATUS.POOL (R333). -/
def Fld.TOKEN_STATUS_POOL : Fld := ⟨.tokenStatus, 0, 16, .ro, 0, [(0, 65535)]⟩
/-- TOKEN_STATUS.FACTOR (R333). -/
def Fld.TOKEN_STATUS_FACTOR : Fld := ⟨.tokenStatus, 16, 5, .ro, 16, [(0, 31)]⟩
/-- TOKEN_STATUS.THERMAL (R333). -/
def Fld.TOKEN_STATUS_THERMAL : Fld := ⟨.tokenStatus, 21, 1, .ro, 0, [(0, 1)]⟩
/-- TOKEN_STATUS.SUPPLY (R333). -/
def Fld.TOKEN_STATUS_SUPPLY : Fld := ⟨.tokenStatus, 22, 1, .ro, 0, [(0, 1)]⟩
/-- TOKEN_STATUS.ALERT (R333). -/
def Fld.TOKEN_STATUS_ALERT : Fld := ⟨.tokenStatus, 23, 1, .ro, 0, [(0, 1)]⟩
/-- TOKEN_STATUS.BRACE (R333). -/
def Fld.TOKEN_STATUS_BRACE : Fld := ⟨.tokenStatus, 24, 1, .ro, 0, [(0, 1)]⟩
/-- TOKEN_STATUS.BUDGET_W (R333). -/
def Fld.TOKEN_STATUS_BUDGET_W : Fld := ⟨.tokenStatus, 25, 12, .ro, 2400, [(0, 4095)]⟩
/-- TOKEN_STATUS.BASE_W (R333). -/
def Fld.TOKEN_STATUS_BASE_W : Fld := ⟨.tokenStatus, 37, 11, .ro, 826, [(0, 2047)]⟩
/-- TOKEN_ERR.OVERDRAFT (R333). -/
def Fld.TOKEN_ERR_OVERDRAFT : Fld := ⟨.tokenErr, 0, 1, .w1c, 0, [(0, 1)]⟩
/-- TOKEN_COUNT.OVERDRAFTS (R334). -/
def Fld.TOKEN_COUNT_OVERDRAFTS : Fld := ⟨.tokenCount, 0, 32, .rw, 0, [(0, 4294967295)]⟩
/-- TOKEN_COUNT.THROTTLE_STEPS (R334). -/
def Fld.TOKEN_COUNT_THROTTLE_STEPS : Fld := ⟨.tokenCount, 32, 32, .rw, 0, [(0, 4294967295)]⟩
/-- SPAN_TOKEN.COMPILED (R334). -/
def Fld.SPAN_TOKEN_COMPILED : Fld := ⟨.spanToken, 0, 16, .ro, 0, [(0, 65535)]⟩
/-- SPAN_TOKEN.GRANTED (R334). -/
def Fld.SPAN_TOKEN_GRANTED : Fld := ⟨.spanToken, 16, 16, .ro, 0, [(0, 65535)]⟩
/-- SPAN_TOKEN.HELD (R334). -/
def Fld.SPAN_TOKEN_HELD : Fld := ⟨.spanToken, 32, 16, .ro, 0, [(0, 65535)]⟩
/-- SPAN_TOKEN.STEP (R334). -/
def Fld.SPAN_TOKEN_STEP : Fld := ⟨.spanToken, 48, 5, .ro, 16, [(0, 31)]⟩
/-- SPAN_TOKEN_COUNT.WAIT_CYCLES (R334). -/
def Fld.SPAN_TOKEN_COUNT_WAIT_CYCLES : Fld := ⟨.spanTokenCount, 0, 48, .rw, 0, [(0, 281474976710655)]⟩
/-- SPAN_TOKEN_COUNT.RAMP_WAITS (R334). -/
def Fld.SPAN_TOKEN_COUNT_RAMP_WAITS : Fld := ⟨.spanTokenCount, 48, 16, .rw, 0, [(0, 65535)]⟩
/-- PIER_HELD.HELD (R335). -/
def Fld.PIER_HELD_HELD : Fld := ⟨.pierHeld, 0, 8, .ro, 0, [(0, 255)]⟩
/-- STEP_COUNTER.STEP (R356). -/
def Fld.STEP_COUNTER_STEP : Fld := ⟨.stepCounter, 0, 32, .ro, 0, [(0, 4294967295)]⟩
/-- SCHED_ENG_STATUS.VALID (R356). -/
def Fld.SCHED_ENG_STATUS_VALID : Fld := ⟨.schedEngStatus, 0, 8, .ro, 0, [(0, 255)]⟩
/-- SCHED_ENG_STATUS.STEP_EVAL (R356). -/
def Fld.SCHED_ENG_STATUS_STEP_EVAL : Fld := ⟨.schedEngStatus, 8, 32, .ro, 0, [(0, 4294967295)]⟩
/-- SCHED_VAL0.LR (R356). -/
def Fld.SCHED_VAL0_LR : Fld := ⟨.schedVal0, 0, 32, .ro, 0, [(0, 4294967295)]⟩
/-- SCHED_VAL0.DECAY (R356). -/
def Fld.SCHED_VAL0_DECAY : Fld := ⟨.schedVal0, 32, 32, .ro, 0, [(0, 4294967295)]⟩
/-- SCHED_VAL1.B1 (R356). -/
def Fld.SCHED_VAL1_B1 : Fld := ⟨.schedVal1, 0, 32, .ro, 0, [(0, 4294967295)]⟩
/-- SCHED_VAL1.OB1 (R356). -/
def Fld.SCHED_VAL1_OB1 : Fld := ⟨.schedVal1, 32, 32, .ro, 0, [(0, 4294967295)]⟩
/-- SCHED_VAL2.B2 (R356). -/
def Fld.SCHED_VAL2_B2 : Fld := ⟨.schedVal2, 0, 32, .ro, 0, [(0, 4294967295)]⟩
/-- SCHED_VAL2.OB2 (R356). -/
def Fld.SCHED_VAL2_OB2 : Fld := ⟨.schedVal2, 32, 32, .ro, 0, [(0, 4294967295)]⟩
/-- SCHED_VAL3.BC1 (R356). -/
def Fld.SCHED_VAL3_BC1 : Fld := ⟨.schedVal3, 0, 32, .ro, 0, [(0, 4294967295)]⟩
/-- SCHED_VAL3.BC2 (R356). -/
def Fld.SCHED_VAL3_BC2 : Fld := ⟨.schedVal3, 32, 32, .ro, 0, [(0, 4294967295)]⟩
/-- SCHED_VAL4.WD (R356). -/
def Fld.SCHED_VAL4_WD : Fld := ⟨.schedVal4, 0, 32, .ro, 0, [(0, 4294967295)]⟩
/-- SCHED_VAL4.T (R356). -/
def Fld.SCHED_VAL4_T : Fld := ⟨.schedVal4, 32, 32, .ro, 0, [(0, 4294967295)]⟩
/-- PARAPET_STATUS.IN_USE (R373). -/
def Fld.PARAPET_STATUS_IN_USE : Fld := ⟨.parapetStatus, 0, 11, .ro, 0, [(0, 2047)]⟩
/-- PARAPET_STATUS.EVAL_ACTIVE (R373). -/
def Fld.PARAPET_STATUS_EVAL_ACTIVE : Fld := ⟨.parapetStatus, 11, 1, .ro, 0, [(0, 1)]⟩
/-- PARAPET_ERR.PARAPET_WRITE (R373). -/
def Fld.PARAPET_ERR_PARAPET_WRITE : Fld := ⟨.parapetErr, 0, 1, .w1c, 0, [(0, 1)]⟩
/-- PARAPET_COUNT.LOCAL_REFUSED (R373). -/
def Fld.PARAPET_COUNT_LOCAL_REFUSED : Fld := ⟨.parapetCount, 0, 32, .rw, 0, [(0, 4294967295)]⟩
/-- PARAPET_COUNT.REMOTE_REFUSED (R373). -/
def Fld.PARAPET_COUNT_REMOTE_REFUSED : Fld := ⟨.parapetCount, 32, 32, .rw, 0, [(0, 4294967295)]⟩
/-- PARAPET_SEL.INDEX (R373). -/
def Fld.PARAPET_SEL_INDEX : Fld := ⟨.parapetSel, 0, 10, .rw, 0, [(0, 1023)]⟩
/-- PARAPET_W0.VALID (R373). -/
def Fld.PARAPET_W0_VALID : Fld := ⟨.parapetW0, 0, 1, .ro, 0, [(0, 1)]⟩
/-- PARAPET_W0.KIND (R373). -/
def Fld.PARAPET_W0_KIND : Fld := ⟨.parapetW0, 1, 2, .ro, 0, [(0, 3)]⟩
/-- PARAPET_W0.OBJECT (R373). -/
def Fld.PARAPET_W0_OBJECT : Fld := ⟨.parapetW0, 3, 22, .ro, 0, [(0, 4194303)]⟩
/-- PARAPET_W1.LO (R373). -/
def Fld.PARAPET_W1_LO : Fld := ⟨.parapetW1, 0, 33, .ro, 0, [(0, 8589934591)]⟩
/-- PARAPET_W2.HI (R373). -/
def Fld.PARAPET_W2_HI : Fld := ⟨.parapetW2, 0, 34, .ro, 0, [(0, 17179869183)]⟩
/-- PORT_CFG.ROLE (R404). -/
def Fld.PORT_CFG_ROLE : Fld := ⟨.portCfg, 0, 2, .rw, 1, [(0, 3)]⟩
/-- PORT_CFG.DEGRADE_EN (R404). -/
def Fld.PORT_CFG_DEGRADE_EN : Fld := ⟨.portCfg, 2, 1, .rw, 1, [(0, 1)]⟩
/-- PORT_CFG.RETRY_LIMIT (R404). -/
def Fld.PORT_CFG_RETRY_LIMIT : Fld := ⟨.portCfg, 4, 4, .rw, 8, [(1, 15)]⟩
/-- PORT_CFG.ACK_TO_US (R404). -/
def Fld.PORT_CFG_ACK_TO_US : Fld := ⟨.portCfg, 8, 8, .rw, 16, [(1, 255)]⟩
/-- PORT_CFG.RECOVERY_MS (R404). -/
def Fld.PORT_CFG_RECOVERY_MS : Fld := ⟨.portCfg, 16, 8, .rw, 2, [(1, 100)]⟩
/-- PORT_SHARE0.VC0 (R404). -/
def Fld.PORT_SHARE0_VC0 : Fld := ⟨.portShare0, 0, 12, .rw, 512, [(0, 4095)]⟩
/-- PORT_SHARE0.VC1 (R404). -/
def Fld.PORT_SHARE0_VC1 : Fld := ⟨.portShare0, 16, 12, .rw, 512, [(0, 4095)]⟩
/-- PORT_SHARE0.VC2 (R404). -/
def Fld.PORT_SHARE0_VC2 : Fld := ⟨.portShare0, 32, 12, .rw, 512, [(0, 4095)]⟩
/-- PORT_SHARE0.VC3 (R404). -/
def Fld.PORT_SHARE0_VC3 : Fld := ⟨.portShare0, 48, 12, .rw, 512, [(0, 4095)]⟩
/-- PORT_SHARE1.VC4 (R404). -/
def Fld.PORT_SHARE1_VC4 : Fld := ⟨.portShare1, 0, 12, .rw, 1536, [(0, 4095)]⟩
/-- PORT_SHARE1.VC5 (R404). -/
def Fld.PORT_SHARE1_VC5 : Fld := ⟨.portShare1, 16, 12, .rw, 0, [(0, 4095)]⟩
/-- PORT_SHARE1.VC6 (R404). -/
def Fld.PORT_SHARE1_VC6 : Fld := ⟨.portShare1, 32, 12, .rw, 256, [(0, 4095)]⟩
/-- PORT_SHARE1.VC7 (R404). -/
def Fld.PORT_SHARE1_VC7 : Fld := ⟨.portShare1, 48, 12, .rw, 256, [(0, 4095)]⟩
/-- PORT_STATUS.STATE (R404). -/
def Fld.PORT_STATUS_STATE : Fld := ⟨.portStatus, 0, 3, .ro, 0, [(0, 7)]⟩
/-- PORT_STATUS.WIDTH (R404). -/
def Fld.PORT_STATUS_WIDTH : Fld := ⟨.portStatus, 3, 1, .ro, 0, [(0, 1)]⟩
/-- PORT_STATUS.LEADER (R404). -/
def Fld.PORT_STATUS_LEADER : Fld := ⟨.portStatus, 4, 1, .ro, 0, [(0, 1)]⟩
/-- PORT_STATUS.BONDED (R404). -/
def Fld.PORT_STATUS_BONDED : Fld := ⟨.portStatus, 5, 1, .ro, 0, [(0, 1)]⟩
/-- PORT_STATUS.VERSION (R404). -/
def Fld.PORT_STATUS_VERSION : Fld := ⟨.portStatus, 8, 8, .ro, 0, [(0, 255)]⟩
/-- PORT_STATUS.NEIGHBOUR (R404). -/
def Fld.PORT_STATUS_NEIGHBOUR : Fld := ⟨.portStatus, 16, 16, .ro, 0, [(0, 65535)]⟩
/-- PORT_STATUS.NEIGHBOUR_PORT (R404). -/
def Fld.PORT_STATUS_NEIGHBOUR_PORT : Fld := ⟨.portStatus, 32, 4, .ro, 0, [(0, 15)]⟩
/-- PORT_STATUS.LANE_LOCK (R404). -/
def Fld.PORT_STATUS_LANE_LOCK : Fld := ⟨.portStatus, 36, 8, .ro, 0, [(0, 255)]⟩
/-- PORT_ERR.LINK_DOWN (R404). -/
def Fld.PORT_ERR_LINK_DOWN : Fld := ⟨.portErr, 0, 1, .w1c, 0, [(0, 1)]⟩
/-- PORT_ERR.LINK_DEGRADED (R404). -/
def Fld.PORT_ERR_LINK_DEGRADED : Fld := ⟨.portErr, 1, 1, .w1c, 0, [(0, 1)]⟩
/-- PORT_ERR.LINK_TRAIN_FAIL (R404). -/
def Fld.PORT_ERR_LINK_TRAIN_FAIL : Fld := ⟨.portErr, 2, 1, .w1c, 0, [(0, 1)]⟩
/-- PORT_ERR.LINK_ID_CONFLICT (R404). -/
def Fld.PORT_ERR_LINK_ID_CONFLICT : Fld := ⟨.portErr, 3, 1, .w1c, 0, [(0, 1)]⟩
/-- PORT_ERR.LINK_VERSION_MISMATCH (R404). -/
def Fld.PORT_ERR_LINK_VERSION_MISMATCH : Fld := ⟨.portErr, 4, 1, .w1c, 0, [(0, 1)]⟩
/-- PORT_ERR.LINK_ROLE_MISMATCH (R404). -/
def Fld.PORT_ERR_LINK_ROLE_MISMATCH : Fld := ⟨.portErr, 5, 1, .w1c, 0, [(0, 1)]⟩
/-- PORT_COUNT.CRC_ERRORS (R404). -/
def Fld.PORT_COUNT_CRC_ERRORS : Fld := ⟨.portCount, 0, 32, .rw, 0, [(0, 4294967295)]⟩
/-- PORT_COUNT.RETRIES (R404). -/
def Fld.PORT_COUNT_RETRIES : Fld := ⟨.portCount, 32, 16, .rw, 0, [(0, 65535)]⟩
/-- PORT_COUNT.RECOVERIES (R404). -/
def Fld.PORT_COUNT_RECOVERIES : Fld := ⟨.portCount, 48, 16, .rw, 0, [(0, 65535)]⟩
/-- PORT_FEC.FEC_CORRECTED (R404). -/
def Fld.PORT_FEC_FEC_CORRECTED : Fld := ⟨.portFec, 0, 48, .rw, 0, [(0, 281474976710655)]⟩
/-- PORT_FEC.FEC_UNCORR (R404). -/
def Fld.PORT_FEC_FEC_UNCORR : Fld := ⟨.portFec, 48, 16, .rw, 0, [(0, 65535)]⟩
/-- PORT_TX_FLITS.FLITS (R404). -/
def Fld.PORT_TX_FLITS_FLITS : Fld := ⟨.portTxFlits, 0, 48, .ro, 0, [(0, 281474976710655)]⟩
/-- PORT_RX_FLITS.FLITS (R404). -/
def Fld.PORT_RX_FLITS_FLITS : Fld := ⟨.portRxFlits, 0, 48, .ro, 0, [(0, 281474976710655)]⟩
/-- PAUNE_ID.ID (R405). -/
def Fld.PAUNE_ID_ID : Fld := ⟨.pauneId, 0, 16, .rw, 0, [(0, 65535)]⟩
/-- PAUNE_ID.ID_VALID (R405). -/
def Fld.PAUNE_ID_ID_VALID : Fld := ⟨.pauneId, 16, 1, .rw, 0, [(0, 1)]⟩
/-- ROUTE_DIM.SX_M1 (R405). -/
def Fld.ROUTE_DIM_SX_M1 : Fld := ⟨.routeDim, 0, 16, .rw, 0, [(0, 65535)]⟩
/-- ROUTE_DIM.SY_M1 (R405). -/
def Fld.ROUTE_DIM_SY_M1 : Fld := ⟨.routeDim, 16, 16, .rw, 0, [(0, 65535)]⟩
/-- ROUTE_DIM.SZ_M1 (R405). -/
def Fld.ROUTE_DIM_SZ_M1 : Fld := ⟨.routeDim, 32, 16, .rw, 0, [(0, 65535)]⟩
/-- ROUTE_DIM.TORUS (R405). -/
def Fld.ROUTE_DIM_TORUS : Fld := ⟨.routeDim, 48, 3, .rw, 0, [(0, 7)]⟩
/-- ROUTE_PORTS.XP (R405). -/
def Fld.ROUTE_PORTS_XP : Fld := ⟨.routePorts, 0, 4, .rw, 15, [(0, 11), (15, 15)]⟩
/-- ROUTE_PORTS.XM (R405). -/
def Fld.ROUTE_PORTS_XM : Fld := ⟨.routePorts, 4, 4, .rw, 15, [(0, 11), (15, 15)]⟩
/-- ROUTE_PORTS.YP (R405). -/
def Fld.ROUTE_PORTS_YP : Fld := ⟨.routePorts, 8, 4, .rw, 15, [(0, 11), (15, 15)]⟩
/-- ROUTE_PORTS.YM (R405). -/
def Fld.ROUTE_PORTS_YM : Fld := ⟨.routePorts, 12, 4, .rw, 15, [(0, 11), (15, 15)]⟩
/-- ROUTE_PORTS.ZP (R405). -/
def Fld.ROUTE_PORTS_ZP : Fld := ⟨.routePorts, 16, 4, .rw, 15, [(0, 11), (15, 15)]⟩
/-- ROUTE_PORTS.ZM (R405). -/
def Fld.ROUTE_PORTS_ZM : Fld := ⟨.routePorts, 20, 4, .rw, 15, [(0, 11), (15, 15)]⟩
/-- ROUTE_PORTS.TTL (R405). -/
def Fld.ROUTE_PORTS_TTL : Fld := ⟨.routePorts, 24, 8, .rw, 128, [(1, 255)]⟩
/-- PAUNE_MSG_ERR.NO_ROUTE (R405). -/
def Fld.PAUNE_MSG_ERR_NO_ROUTE : Fld := ⟨.pauneMsgErr, 0, 1, .w1c, 0, [(0, 1)]⟩
/-- PAUNE_MSG_ERR.TTL_EXPIRED (R405). -/
def Fld.PAUNE_MSG_ERR_TTL_EXPIRED : Fld := ⟨.pauneMsgErr, 1, 1, .w1c, 0, [(0, 1)]⟩
/-- PAUNE_MSG_ERR.MALFORMED (R405). -/
def Fld.PAUNE_MSG_ERR_MALFORMED : Fld := ⟨.pauneMsgErr, 2, 1, .w1c, 0, [(0, 1)]⟩
/-- PAUNE_MSG_ERR.STEP_SKEW (R405). -/
def Fld.PAUNE_MSG_ERR_STEP_SKEW : Fld := ⟨.pauneMsgErr, 3, 1, .w1c, 0, [(0, 1)]⟩
/-- PAUNE_MSG_COUNT.NO_ROUTE_DROPS (R405). -/
def Fld.PAUNE_MSG_COUNT_NO_ROUTE_DROPS : Fld := ⟨.pauneMsgCount, 0, 16, .rw, 0, [(0, 65535)]⟩
/-- PAUNE_MSG_COUNT.TTL_DROPS (R405). -/
def Fld.PAUNE_MSG_COUNT_TTL_DROPS : Fld := ⟨.pauneMsgCount, 16, 16, .rw, 0, [(0, 65535)]⟩
/-- PAUNE_MSG_COUNT.MALFORMED (R405). -/
def Fld.PAUNE_MSG_COUNT_MALFORMED : Fld := ⟨.pauneMsgCount, 32, 16, .rw, 0, [(0, 65535)]⟩
/-- PAUNE_MSG_COUNT.STEP_DROPS (R405). -/
def Fld.PAUNE_MSG_COUNT_STEP_DROPS : Fld := ⟨.pauneMsgCount, 48, 16, .rw, 0, [(0, 65535)]⟩
/-- ROUTE_OVR.VALID (R405). -/
def Fld.ROUTE_OVR_VALID : Fld := ⟨.routeOvr, 0, 1, .rw, 0, [(0, 1)]⟩
/-- ROUTE_OVR.PORT (R405). -/
def Fld.ROUTE_OVR_PORT : Fld := ⟨.routeOvr, 1, 4, .rw, 0, [(0, 12)]⟩
/-- ROUTE_OVR.MATCH (R405). -/
def Fld.ROUTE_OVR_MATCH : Fld := ⟨.routeOvr, 16, 16, .rw, 0, [(0, 65535)]⟩
/-- ROUTE_OVR.MASK (R405). -/
def Fld.ROUTE_OVR_MASK : Fld := ⟨.routeOvr, 32, 16, .rw, 0, [(0, 65535)]⟩
/-- PAIR_CFG.KEY_RESEND_US (R435). -/
def Fld.PAIR_CFG_KEY_RESEND_US : Fld := ⟨.pairCfg, 0, 10, .rw, 500, [(10, 1000)]⟩
/-- PAIR_CFG.COMMIT_TO_MS (R435). -/
def Fld.PAIR_CFG_COMMIT_TO_MS : Fld := ⟨.pairCfg, 10, 14, .rw, 100, [(1, 10000)]⟩
/-- PAIR_CFG.SILENT_MS (R435). -/
def Fld.PAIR_CFG_SILENT_MS : Fld := ⟨.pairCfg, 24, 8, .rw, 10, [(1, 255)]⟩
/-- PAIR_STATUS.STATE (R435). -/
def Fld.PAIR_STATUS_STATE : Fld := ⟨.pairStatus, 0, 3, .ro, 0, [(0, 7)]⟩
/-- PAIR_STATUS.PAIR_ALIVE (R435). -/
def Fld.PAIR_STATUS_PAIR_ALIVE : Fld := ⟨.pairStatus, 3, 1, .ro, 0, [(0, 1)]⟩
/-- PAIR_STATUS.BOND_UP (R435). -/
def Fld.PAIR_STATUS_BOND_UP : Fld := ⟨.pairStatus, 4, 1, .ro, 0, [(0, 1)]⟩
/-- PAIR_STATUS.MIRROR_VALID (R435). -/
def Fld.PAIR_STATUS_MIRROR_VALID : Fld := ⟨.pairStatus, 5, 1, .ro, 0, [(0, 1)]⟩
/-- PAIR_STATUS.MATE (R435). -/
def Fld.PAIR_STATUS_MATE : Fld := ⟨.pairStatus, 16, 16, .ro, 0, [(0, 65535)]⟩
/-- PAIR_MSEQ_OUT.MSEQ (R435). -/
def Fld.PAIR_MSEQ_OUT_MSEQ : Fld := ⟨.pairMseqOut, 0, 64, .ro, 0, [(0, 18446744073709551615)]⟩
/-- PAIR_MSEQ_ACKED.MSEQ (R435). -/
def Fld.PAIR_MSEQ_ACKED_MSEQ : Fld := ⟨.pairMseqAcked, 0, 64, .ro, 0, [(0, 18446744073709551615)]⟩
/-- PAIR_MSEQ_IN.MSEQ (R435). -/
def Fld.PAIR_MSEQ_IN_MSEQ : Fld := ⟨.pairMseqIn, 0, 64, .ro, 0, [(0, 18446744073709551615)]⟩
/-- PAIR_KEYSTONE.OWN_STEP (R435). -/
def Fld.PAIR_KEYSTONE_OWN_STEP : Fld := ⟨.pairKeystone, 0, 32, .ro, 0, [(0, 4294967295)]⟩
/-- PAIR_KEYSTONE.MATE_STEP (R435). -/
def Fld.PAIR_KEYSTONE_MATE_STEP : Fld := ⟨.pairKeystone, 32, 32, .ro, 0, [(0, 4294967295)]⟩
/-- PAIR_ERR.PAIR_LOST (R435). -/
def Fld.PAIR_ERR_PAIR_LOST : Fld := ⟨.pairErr, 0, 1, .w1c, 0, [(0, 1)]⟩
/-- PAIR_ERR.PAIR_MATE_CHANGED (R435). -/
def Fld.PAIR_ERR_PAIR_MATE_CHANGED : Fld := ⟨.pairErr, 1, 1, .w1c, 0, [(0, 1)]⟩
/-- PAIR_ERR.PAIR_MIRROR_FAULT (R435). -/
def Fld.PAIR_ERR_PAIR_MIRROR_FAULT : Fld := ⟨.pairErr, 2, 1, .w1c, 0, [(0, 1)]⟩
/-- PAIR_ERR.PAIR_COMMIT_TIMEOUT (R435). -/
def Fld.PAIR_ERR_PAIR_COMMIT_TIMEOUT : Fld := ⟨.pairErr, 3, 1, .w1c, 0, [(0, 1)]⟩
/-- PAIR_ERR.KEYSTONE_REFUSED (R435). -/
def Fld.PAIR_ERR_KEYSTONE_REFUSED : Fld := ⟨.pairErr, 4, 1, .w1c, 0, [(0, 1)]⟩
/-- PAIR_ERR.PAIR_STEP_SKEW (R435). -/
def Fld.PAIR_ERR_PAIR_STEP_SKEW : Fld := ⟨.pairErr, 5, 1, .w1c, 0, [(0, 1)]⟩
/-- PAIR_COUNT.DUPLICATES (R435). -/
def Fld.PAIR_COUNT_DUPLICATES : Fld := ⟨.pairCount, 0, 16, .rw, 0, [(0, 65535)]⟩
/-- PAIR_COUNT.DISCARDS (R435). -/
def Fld.PAIR_COUNT_DISCARDS : Fld := ⟨.pairCount, 16, 16, .rw, 0, [(0, 65535)]⟩
/-- PAIR_COUNT.KEY_RESENDS (R435). -/
def Fld.PAIR_COUNT_KEY_RESENDS : Fld := ⟨.pairCount, 32, 16, .rw, 0, [(0, 65535)]⟩
/-- PAIR_COUNT.LOG_WAITS (R435). -/
def Fld.PAIR_COUNT_LOG_WAITS : Fld := ⟨.pairCount, 48, 16, .rw, 0, [(0, 65535)]⟩
/-- PAIR_LOG.USED (R435). -/
def Fld.PAIR_LOG_USED : Fld := ⟨.pairLog, 0, 16, .ro, 0, [(0, 65535)]⟩
/-- PAIR_LOG.HIGH_WATER (R435). -/
def Fld.PAIR_LOG_HIGH_WATER : Fld := ⟨.pairLog, 16, 16, .rw, 0, [(0, 32768)]⟩
/-- JW_STATUS.STATE (R460). -/
def Fld.JW_STATUS_STATE : Fld := ⟨.jwStatus, 0, 3, .ro, 0, [(0, 7)]⟩
/-- JW_STATUS.WIDTH (R460). -/
def Fld.JW_STATUS_WIDTH : Fld := ⟨.jwStatus, 3, 1, .ro, 0, [(0, 1)]⟩
/-- JW_STATUS.VERSION (R460). -/
def Fld.JW_STATUS_VERSION : Fld := ⟨.jwStatus, 8, 8, .ro, 0, [(0, 255)]⟩
/-- JW_STATUS.LANE_LOCK (R460). -/
def Fld.JW_STATUS_LANE_LOCK : Fld := ⟨.jwStatus, 16, 32, .ro, 0, [(0, 4294967295)]⟩
/-- JW_ERR.JUWIRE_DOWN (R460). -/
def Fld.JW_ERR_JUWIRE_DOWN : Fld := ⟨.jwErr, 0, 1, .w1c, 0, [(0, 1)]⟩
/-- JW_ERR.JUWIRE_DEGRADED (R460). -/
def Fld.JW_ERR_JUWIRE_DEGRADED : Fld := ⟨.jwErr, 1, 1, .w1c, 0, [(0, 1)]⟩
/-- JW_ERR.HOST_POISON (R460). -/
def Fld.JW_ERR_HOST_POISON : Fld := ⟨.jwErr, 2, 1, .w1c, 0, [(0, 1)]⟩
/-- JW_ERR.MAILBOX_FAULT (R460). -/
def Fld.JW_ERR_MAILBOX_FAULT : Fld := ⟨.jwErr, 3, 1, .w1c, 0, [(0, 1)]⟩
/-- JW_COUNT.CRC_ERRORS (R460). -/
def Fld.JW_COUNT_CRC_ERRORS : Fld := ⟨.jwCount, 0, 32, .rw, 0, [(0, 4294967295)]⟩
/-- JW_COUNT.RETRIES (R460). -/
def Fld.JW_COUNT_RETRIES : Fld := ⟨.jwCount, 32, 16, .rw, 0, [(0, 65535)]⟩
/-- JW_COUNT.RECOVERIES (R460). -/
def Fld.JW_COUNT_RECOVERIES : Fld := ⟨.jwCount, 48, 16, .rw, 0, [(0, 65535)]⟩
/-- MAILBOX_CFG.ENABLE (R460). -/
def Fld.MAILBOX_CFG_ENABLE : Fld := ⟨.mailboxCfg, 0, 1, .rw, 0, [(0, 1)]⟩
/-- MAILBOX_CFG.BASE (R460). -/
def Fld.MAILBOX_CFG_BASE : Fld := ⟨.mailboxCfg, 19, 28, .rw, 0, [(0, 268435455)]⟩
/-- CMD_STATUS.SESSION (R460). -/
def Fld.CMD_STATUS_SESSION : Fld := ⟨.cmdStatus, 0, 1, .ro, 0, [(0, 1)]⟩
/-- CMD_STATUS.VERSION (R460). -/
def Fld.CMD_STATUS_VERSION : Fld := ⟨.cmdStatus, 8, 8, .ro, 0, [(0, 255)]⟩
/-- CMD_STATUS.IN_PROGRESS (R460). -/
def Fld.CMD_STATUS_IN_PROGRESS : Fld := ⟨.cmdStatus, 16, 7, .ro, 0, [(0, 127)]⟩
/-- CMD_COUNT.ACCEPTED (R460). -/
def Fld.CMD_COUNT_ACCEPTED : Fld := ⟨.cmdCount, 0, 32, .rw, 0, [(0, 4294967295)]⟩
/-- CMD_COUNT.REFUSED (R460). -/
def Fld.CMD_COUNT_REFUSED : Fld := ⟨.cmdCount, 32, 16, .rw, 0, [(0, 65535)]⟩
/-- CMD_COUNT.SUPERSEDED (R460). -/
def Fld.CMD_COUNT_SUPERSEDED : Fld := ⟨.cmdCount, 48, 16, .rw, 0, [(0, 65535)]⟩
/-- EVT_STATUS.QUEUE_VALID (R482). -/
def Fld.EVT_STATUS_QUEUE_VALID : Fld := ⟨.evtStatus, 0, 1, .ro, 0, [(0, 1)]⟩
/-- EVT_STATUS.ENTRIES_LOG2 (R482). -/
def Fld.EVT_STATUS_ENTRIES_LOG2 : Fld := ⟨.evtStatus, 1, 5, .ro, 0, [(0, 31)]⟩
/-- EVT_STATUS.OVF_PENDING (R482). -/
def Fld.EVT_STATUS_OVF_PENDING : Fld := ⟨.evtStatus, 6, 1, .ro, 0, [(0, 1)]⟩
/-- EVT_STATUS.HEAD_BAD (R482). -/
def Fld.EVT_STATUS_HEAD_BAD : Fld := ⟨.evtStatus, 7, 1, .w1c, 0, [(0, 1)]⟩
/-- EVT_STATUS.NEXT_SEQ (R482). -/
def Fld.EVT_STATUS_NEXT_SEQ : Fld := ⟨.evtStatus, 8, 32, .ro, 0, [(0, 4294967295)]⟩
/-- EVT_TAIL.INDEX (R482). -/
def Fld.EVT_TAIL_INDEX : Fld := ⟨.evtTail, 0, 64, .ro, 0, [(0, 18446744073709551615)]⟩
/-- EVT_HEAD.INDEX (R482). -/
def Fld.EVT_HEAD_INDEX : Fld := ⟨.evtHead, 0, 64, .ro, 0, [(0, 18446744073709551615)]⟩
/-- EVT_COUNT.LOST (R482). -/
def Fld.EVT_COUNT_LOST : Fld := ⟨.evtCount, 0, 32, .rw, 0, [(0, 4294967295)]⟩
/-- EVT_COUNT.MERGED (R482). -/
def Fld.EVT_COUNT_MERGED : Fld := ⟨.evtCount, 32, 16, .rw, 0, [(0, 65535)]⟩
/-- EVT_COUNT.STACK_FAULTS (R482). -/
def Fld.EVT_COUNT_STACK_FAULTS : Fld := ⟨.evtCount, 48, 16, .rw, 0, [(0, 65535)]⟩
/-- EVT_STACK.DEPTH (R482). -/
def Fld.EVT_STACK_DEPTH : Fld := ⟨.evtStack, 0, 4, .ro, 0, [(0, 15)]⟩
/-- EVT_STACK.LEVELS (R482). -/
def Fld.EVT_STACK_LEVELS : Fld := ⟨.evtStack, 4, 24, .ro, 0, [(0, 16777215)]⟩
/-- EVT_STACK.PENDING (R482). -/
def Fld.EVT_STACK_PENDING : Fld := ⟨.evtStack, 28, 8, .ro, 0, [(0, 255)]⟩
/-- EVT_PRESENT.CODE (R482). -/
def Fld.EVT_PRESENT_CODE : Fld := ⟨.evtPresent, 0, 16, .ro, 0, [(0, 65535)]⟩
/-- EVT_PRESENT.LEVEL (R482). -/
def Fld.EVT_PRESENT_LEVEL : Fld := ⟨.evtPresent, 16, 3, .ro, 0, [(0, 7)]⟩
/-- EVT_PRESENT.VALID (R482). -/
def Fld.EVT_PRESENT_VALID : Fld := ⟨.evtPresent, 19, 1, .ro, 0, [(0, 1)]⟩
/-- EVT_DONE.LEVEL (R482). -/
def Fld.EVT_DONE_LEVEL : Fld := ⟨.evtDone, 0, 3, .wo, 0, [(0, 7)]⟩
/-- EVT_DONE.FLUSH (R482). -/
def Fld.EVT_DONE_FLUSH : Fld := ⟨.evtDone, 3, 1, .wo, 0, [(0, 1)]⟩
/-- SENSE_CFG.N_RESET (R483). -/
def Fld.SENSE_CFG_N_RESET : Fld := ⟨.senseCfg, 0, 8, .rw, 8, [(2, 255)]⟩
/-- SENSE_CFG.N_ALIVE (R483). -/
def Fld.SENSE_CFG_N_ALIVE : Fld := ⟨.senseCfg, 8, 8, .rw, 8, [(2, 255)]⟩
/-- SENSE_CFG.N_THERM (R483). -/
def Fld.SENSE_CFG_N_THERM : Fld := ⟨.senseCfg, 16, 8, .rw, 8, [(2, 255)]⟩
/-- SENSE_CFG.N_SUPPLY (R483). -/
def Fld.SENSE_CFG_N_SUPPLY : Fld := ⟨.senseCfg, 24, 8, .rw, 8, [(2, 255)]⟩
/-- SENSE_STATUS.RAW (R483). -/
def Fld.SENSE_STATUS_RAW : Fld := ⟨.senseStatus, 0, 6, .ro, 7, [(0, 63)]⟩
/-- SENSE_STATUS.FILT (R483). -/
def Fld.SENSE_STATUS_FILT : Fld := ⟨.senseStatus, 8, 6, .ro, 7, [(0, 63)]⟩
/-- SENSE_STATUS.LATCH (R483). -/
def Fld.SENSE_STATUS_LATCH : Fld := ⟨.senseStatus, 16, 6, .w1c, 0, [(0, 63)]⟩
/-- SENSE_COUNT.RESET_L (R483). -/
def Fld.SENSE_COUNT_RESET_L : Fld := ⟨.senseCount, 0, 16, .rw, 0, [(0, 65535)]⟩
/-- SENSE_COUNT.PAIR_ALIVE (R483). -/
def Fld.SENSE_COUNT_PAIR_ALIVE : Fld := ⟨.senseCount, 16, 16, .rw, 0, [(0, 65535)]⟩
/-- SENSE_COUNT.THERM_ALERT_L (R483). -/
def Fld.SENSE_COUNT_THERM_ALERT_L : Fld := ⟨.senseCount, 32, 16, .rw, 0, [(0, 65535)]⟩
/-- SENSE_COUNT.SUPPLY (R483). -/
def Fld.SENSE_COUNT_SUPPLY : Fld := ⟨.senseCount, 48, 16, .rw, 0, [(0, 65535)]⟩
/-- THERM_STATUS.TJ_MAX (R483). -/
def Fld.THERM_STATUS_TJ_MAX : Fld := ⟨.thermStatus, 0, 10, .ro, 0, [(0, 1023)]⟩
/-- THERM_STATUS.TJ_PEAK (R483). -/
def Fld.THERM_STATUS_TJ_PEAK : Fld := ⟨.thermStatus, 10, 10, .rw, 0, [(0, 1020)]⟩
/-- THERM_STATUS.TRIPPED (R483). -/
def Fld.THERM_STATUS_TRIPPED : Fld := ⟨.thermStatus, 20, 1, .ro, 0, [(0, 1)]⟩
/-- THERM_STATUS.HOT_SPAN (R483). -/
def Fld.THERM_STATUS_HOT_SPAN : Fld := ⟨.thermStatus, 21, 5, .ro, 0, [(0, 31)]⟩
/-- CLK_CFG.MODE (R498). -/
def Fld.CLK_CFG_MODE : Fld := ⟨.clkCfg, 0, 1, .rw, 0, [(0, 1)]⟩
/-- CLK_CFG.STRETCH_STEPS (R498). -/
def Fld.CLK_CFG_STRETCH_STEPS : Fld := ⟨.clkCfg, 1, 3, .rw, 2, [(1, 4)]⟩
/-- CLK_CFG.MARGIN (R498). -/
def Fld.CLK_CFG_MARGIN : Fld := ⟨.clkCfg, 4, 4, .rw, 4, [(0, 15)]⟩
/-- CLK_CFG.FSTEP_CAP (R498). -/
def Fld.CLK_CFG_FSTEP_CAP : Fld := ⟨.clkCfg, 8, 5, .rw, 16, [(4, 16)]⟩
/-- CLK_STATUS.ROOT_LOCK (R498). -/
def Fld.CLK_STATUS_ROOT_LOCK : Fld := ⟨.clkStatus, 0, 1, .ro, 0, [(0, 1)]⟩
/-- CLK_STATUS.REF_LOST (R498). -/
def Fld.CLK_STATUS_REF_LOST : Fld := ⟨.clkStatus, 1, 1, .ro, 0, [(0, 1)]⟩
/-- CLK_STATUS.MODE (R498). -/
def Fld.CLK_STATUS_MODE : Fld := ⟨.clkStatus, 2, 1, .ro, 0, [(0, 1)]⟩
/-- CLK_STATUS.FSTEP (R498). -/
def Fld.CLK_STATUS_FSTEP : Fld := ⟨.clkStatus, 3, 5, .ro, 16, [(0, 31)]⟩
/-- CLK_STATUS.TEST_PERIOD (R498). -/
def Fld.CLK_STATUS_TEST_PERIOD : Fld := ⟨.clkStatus, 8, 1, .ro, 0, [(0, 1)]⟩
/-- CLK_STATUS.NONCE_WEAK (R498). -/
def Fld.CLK_STATUS_NONCE_WEAK : Fld := ⟨.clkStatus, 9, 1, .ro, 0, [(0, 1)]⟩
/-- CLK_STATUS.REF_LOSSES (R498). -/
def Fld.CLK_STATUS_REF_LOSSES : Fld := ⟨.clkStatus, 16, 16, .rw, 0, [(0, 65535)]⟩
/-- TIME_NOW.TICKS (R498). -/
def Fld.TIME_NOW_TICKS : Fld := ⟨.timeNow, 0, 64, .ro, 0, [(0, 18446744073709551615)]⟩
/-- BOOT_NONCE0.NONCE (R498). -/
def Fld.BOOT_NONCE0_NONCE : Fld := ⟨.bootNonce0, 0, 64, .ro, 0, [(0, 18446744073709551615)]⟩
/-- BOOT_NONCE1.NONCE (R498). -/
def Fld.BOOT_NONCE1_NONCE : Fld := ⟨.bootNonce1, 0, 64, .ro, 0, [(0, 18446744073709551615)]⟩
/-- BOOT_COUNT.COUNT (R498). -/
def Fld.BOOT_COUNT_COUNT : Fld := ⟨.bootCount, 0, 32, .ro, 0, [(0, 4294967295)]⟩
/-- CLK_SPAN.K_EFF (R498). -/
def Fld.CLK_SPAN_K_EFF : Fld := ⟨.clkSpan, 0, 5, .ro, 16, [(0, 31)]⟩
/-- CLK_SPAN.DELTA (R498). -/
def Fld.CLK_SPAN_DELTA : Fld := ⟨.clkSpan, 5, 5, .ro, 0, [(0, 31)]⟩
/-- CLK_SPAN.OUT (R498). -/
def Fld.CLK_SPAN_OUT : Fld := ⟨.clkSpan, 10, 1, .ro, 0, [(0, 1)]⟩
/-- CLK_SPAN_COUNT.STRETCHES (R498). -/
def Fld.CLK_SPAN_COUNT_STRETCHES : Fld := ⟨.clkSpanCount, 0, 32, .rw, 0, [(0, 4294967295)]⟩
/-- CLK_SPAN_COUNT.HOLDS (R498). -/
def Fld.CLK_SPAN_COUNT_HOLDS : Fld := ⟨.clkSpanCount, 32, 16, .rw, 0, [(0, 65535)]⟩
/-- CLK_SPAN_COUNT.MARGIN_EVENTS (R498). -/
def Fld.CLK_SPAN_COUNT_MARGIN_EVENTS : Fld := ⟨.clkSpanCount, 48, 16, .rw, 0, [(0, 65535)]⟩
/-- POWER_CFG.IDLE_DELAY_US (R523). -/
def Fld.POWER_CFG_IDLE_DELAY_US : Fld := ⟨.powerCfg, 0, 16, .rw, 100, [(0, 65535)]⟩
/-- POWER_CFG.HOLDUP_AGE_S (R523). -/
def Fld.POWER_CFG_HOLDUP_AGE_S : Fld := ⟨.powerCfg, 16, 16, .rw, 600, [(10, 65535)]⟩
/-- POWER_CFG.DOZE_SR_MS (R523). -/
def Fld.POWER_CFG_DOZE_SR_MS : Fld := ⟨.powerCfg, 32, 8, .rw, 1, [(1, 255)]⟩
/-- POWER_CTRL.TARGET (R523). -/
def Fld.POWER_CTRL_TARGET : Fld := ⟨.powerCtrl, 0, 2, .wo, 0, [(0, 3)]⟩
/-- POWER_CTRL.MEASURE (R523). -/
def Fld.POWER_CTRL_MEASURE : Fld := ⟨.powerCtrl, 2, 1, .wo, 0, [(0, 1)]⟩
/-- POWER_STATUS.STATE (R523). -/
def Fld.POWER_STATUS_STATE : Fld := ⟨.powerStatus, 0, 3, .ro, 0, [(0, 7)]⟩
/-- POWER_STATUS.BRACE (R523). -/
def Fld.POWER_STATUS_BRACE : Fld := ⟨.powerStatus, 3, 1, .ro, 0, [(0, 1)]⟩
/-- POWER_STATUS.REFUSE (R523). -/
def Fld.POWER_STATUS_REFUSE : Fld := ⟨.powerStatus, 4, 3, .ro, 0, [(0, 7)]⟩
/-- POWER_STATUS.CHARGING (R523). -/
def Fld.POWER_STATUS_CHARGING : Fld := ⟨.powerStatus, 7, 1, .ro, 0, [(0, 1)]⟩
/-- POWER_STATUS.WAKE_SRC (R523). -/
def Fld.POWER_STATUS_WAKE_SRC : Fld := ⟨.powerStatus, 8, 3, .ro, 0, [(0, 7)]⟩
/-- SUPPLY_STATUS.V_IN (R523). -/
def Fld.SUPPLY_STATUS_V_IN : Fld := ⟨.supplyStatus, 0, 16, .ro, 0, [(0, 65535)]⟩
/-- SUPPLY_STATUS.I_IN (R523). -/
def Fld.SUPPLY_STATUS_I_IN : Fld := ⟨.supplyStatus, 16, 16, .ro, 0, [(0, 65535)]⟩
/-- SUPPLY_STATUS.P_AVG (R523). -/
def Fld.SUPPLY_STATUS_P_AVG : Fld := ⟨.supplyStatus, 32, 16, .ro, 0, [(0, 65535)]⟩
/-- SUPPLY_STATUS.V_MIN (R523). -/
def Fld.SUPPLY_STATUS_V_MIN : Fld := ⟨.supplyStatus, 48, 16, .rw, 65535, [(0, 65535)]⟩
/-- HOLDUP_STATUS.ENERGY (R523). -/
def Fld.HOLDUP_STATUS_ENERGY : Fld := ⟨.holdupStatus, 0, 16, .ro, 0, [(0, 65535)]⟩
/-- HOLDUP_STATUS.CAP (R523). -/
def Fld.HOLDUP_STATUS_CAP : Fld := ⟨.holdupStatus, 16, 16, .ro, 0, [(0, 65535)]⟩
/-- HOLDUP_STATUS.V_BANK (R523). -/
def Fld.HOLDUP_STATUS_V_BANK : Fld := ⟨.holdupStatus, 32, 16, .ro, 0, [(0, 65535)]⟩
/-- HOLDUP_STATUS.VALID (R523). -/
def Fld.HOLDUP_STATUS_VALID : Fld := ⟨.holdupStatus, 48, 1, .ro, 0, [(0, 1)]⟩
/-- HOLDUP_STATUS.LOW (R523). -/
def Fld.HOLDUP_STATUS_LOW : Fld := ⟨.holdupStatus, 49, 1, .ro, 0, [(0, 1)]⟩
/-- HOLDUP_STATUS.MEASURING (R523). -/
def Fld.HOLDUP_STATUS_MEASURING : Fld := ⟨.holdupStatus, 50, 1, .ro, 0, [(0, 1)]⟩
/-- HOLDUP_TIME.TICKS (R523). -/
def Fld.HOLDUP_TIME_TICKS : Fld := ⟨.holdupTime, 0, 64, .ro, 0, [(0, 18446744073709551615)]⟩
/-- BRACE_COUNT.ENTRIES (R523). -/
def Fld.BRACE_COUNT_ENTRIES : Fld := ⟨.braceCount, 0, 16, .rw, 0, [(0, 65535)]⟩
/-- BRACE_COUNT.RECOVERED (R523). -/
def Fld.BRACE_COUNT_RECOVERED : Fld := ⟨.braceCount, 16, 16, .rw, 0, [(0, 65535)]⟩
/-- BRACE_COUNT.SUPPLY_RESETS (R523). -/
def Fld.BRACE_COUNT_SUPPLY_RESETS : Fld := ⟨.braceCount, 32, 16, .rw, 0, [(0, 65535)]⟩
/-- BIST_CFG.POWERUP_MODE (R542). -/
def Fld.BIST_CFG_POWERUP_MODE : Fld := ⟨.bistCfg, 0, 1, .rw, 0, [(0, 1)]⟩
/-- BIST_CFG.FUSE_POLICY (R542). -/
def Fld.BIST_CFG_FUSE_POLICY : Fld := ⟨.bistCfg, 1, 1, .rw, 0, [(0, 1)]⟩
/-- BIST_CFG.STACK_TEST (R542). -/
def Fld.BIST_CFG_STACK_TEST : Fld := ⟨.bistCfg, 2, 1, .rw, 1, [(0, 1)]⟩
/-- BIST_STATUS.RUNNING (R542). -/
def Fld.BIST_STATUS_RUNNING : Fld := ⟨.bistStatus, 0, 1, .ro, 0, [(0, 1)]⟩
/-- BIST_STATUS.SCOPE (R542). -/
def Fld.BIST_STATUS_SCOPE : Fld := ⟨.bistStatus, 1, 2, .ro, 0, [(0, 3)]⟩
/-- BIST_STATUS.WAVE (R542). -/
def Fld.BIST_STATUS_WAVE : Fld := ⟨.bistStatus, 3, 5, .ro, 0, [(0, 31)]⟩
/-- BIST_STATUS.LAST_RESULT (R542). -/
def Fld.BIST_STATUS_LAST_RESULT : Fld := ⟨.bistStatus, 8, 3, .ro, 0, [(0, 7)]⟩
/-- BIST_STATUS.MODE_USED (R542). -/
def Fld.BIST_STATUS_MODE_USED : Fld := ⟨.bistStatus, 11, 1, .ro, 0, [(0, 1)]⟩
/-- BIST_STATUS.VCORE_MV (R542). -/
def Fld.BIST_STATUS_VCORE_MV : Fld := ⟨.bistStatus, 16, 11, .ro, 0, [(0, 2047)]⟩
/-- BIST_STATUS.DURATION_MS (R542). -/
def Fld.BIST_STATUS_DURATION_MS : Fld := ⟨.bistStatus, 32, 32, .ro, 0, [(0, 4294967295)]⟩
/-- BIST_COUNT.RUNS (R542). -/
def Fld.BIST_COUNT_RUNS : Fld := ⟨.bistCount, 0, 16, .rw, 0, [(0, 65535)]⟩
/-- BIST_COUNT.PIERS_FAILED (R542). -/
def Fld.BIST_COUNT_PIERS_FAILED : Fld := ⟨.bistCount, 16, 16, .rw, 0, [(0, 65535)]⟩
/-- BIST_COUNT.REPAIRS (R542). -/
def Fld.BIST_COUNT_REPAIRS : Fld := ⟨.bistCount, 32, 16, .rw, 0, [(0, 65535)]⟩
/-- BIST_COUNT.FUSE_FAILS (R542). -/
def Fld.BIST_COUNT_FUSE_FAILS : Fld := ⟨.bistCount, 48, 16, .rw, 0, [(0, 65535)]⟩
/-- DEVICE_ID.GRADE (R561). -/
def Fld.DEVICE_ID_GRADE : Fld := ⟨.deviceId, 0, 8, .ro, 128, [(0, 255)]⟩
/-- DEVICE_ID.STEPPING (R561). -/
def Fld.DEVICE_ID_STEPPING : Fld := ⟨.deviceId, 8, 8, .ro, 0, [(0, 255)]⟩
/-- FW_STATUS.ACTIVE (R561). -/
def Fld.FW_STATUS_ACTIVE : Fld := ⟨.fwStatus, 0, 1, .ro, 0, [(0, 1)]⟩
/-- FW_STATUS.TRIAL (R561). -/
def Fld.FW_STATUS_TRIAL : Fld := ⟨.fwStatus, 1, 1, .ro, 0, [(0, 1)]⟩
/-- FW_STATUS.FALLBACK (R561). -/
def Fld.FW_STATUS_FALLBACK : Fld := ⟨.fwStatus, 2, 1, .ro, 0, [(0, 1)]⟩
/-- FW_STATUS.ROLLED_BACK (R561). -/
def Fld.FW_STATUS_ROLLED_BACK : Fld := ⟨.fwStatus, 3, 1, .w1c, 0, [(0, 1)]⟩
/-- FW_STATUS.NO_IMAGE (R561). -/
def Fld.FW_STATUS_NO_IMAGE : Fld := ⟨.fwStatus, 4, 1, .ro, 0, [(0, 1)]⟩
/-- FW_STATUS.VERSION (R561). -/
def Fld.FW_STATUS_VERSION : Fld := ⟨.fwStatus, 32, 32, .ro, 0, [(0, 4294967295)]⟩
/-- KEY_STATUS.SLOTS (R561): FW0 and FW1 are enrolled at manufacture (R544). -/
def Fld.KEY_STATUS_SLOTS : Fld := ⟨.keyStatus, 0, 8, .ro, 5, [(0, 255)]⟩
/-- KEY_STATUS.SVN_MIN0 (R561). -/
def Fld.KEY_STATUS_SVN_MIN0 : Fld := ⟨.keyStatus, 8, 7, .ro, 0, [(0, 127)]⟩
/-- KEY_STATUS.SVN_MIN1 (R561). -/
def Fld.KEY_STATUS_SVN_MIN1 : Fld := ⟨.keyStatus, 16, 7, .ro, 0, [(0, 127)]⟩
/-- KEY_STATUS.SVN_MIN2 (R561). -/
def Fld.KEY_STATUS_SVN_MIN2 : Fld := ⟨.keyStatus, 24, 7, .ro, 0, [(0, 127)]⟩
/-- SERVICE_CTRL.OPEN (R561). -/
def Fld.SERVICE_CTRL_OPEN : Fld := ⟨.serviceCtrl, 0, 1, .ro, 0, [(0, 1)]⟩
/-- SERVICE_CTRL.CLOSE (R561). -/
def Fld.SERVICE_CTRL_CLOSE : Fld := ⟨.serviceCtrl, 1, 1, .wo, 0, [(0, 1)]⟩
/-- SERVICE_CTRL.FAILS (R561). -/
def Fld.SERVICE_CTRL_FAILS : Fld := ⟨.serviceCtrl, 2, 3, .ro, 0, [(0, 7)]⟩
/-- OWNER_FUSE_CTRL.OP (R561). -/
def Fld.OWNER_FUSE_CTRL_OP : Fld := ⟨.ownerFuseCtrl, 0, 3, .wo, 0, [(0, 7)]⟩
/-- OWNER_FUSE_CTRL.SLOT (R561). -/
def Fld.OWNER_FUSE_CTRL_SLOT : Fld := ⟨.ownerFuseCtrl, 3, 1, .wo, 0, [(0, 1)]⟩
/-- OWNER_FUSE_CTRL.RESULT (R561). -/
def Fld.OWNER_FUSE_CTRL_RESULT : Fld := ⟨.ownerFuseCtrl, 4, 2, .ro, 0, [(0, 3)]⟩
/-- OWNER_FUSE_DATA.DATA (R561). -/
def Fld.OWNER_FUSE_DATA_DATA : Fld := ⟨.ownerFuseData, 0, 64, .rw, 0, [(0, 18446744073709551615)]⟩
/-- MR.VALUE (R561). -/
def Fld.MR_VALUE : Fld := ⟨.mr, 0, 64, .ro, 0, [(0, 18446744073709551615)]⟩

/-- The fields of a register. -/
def regFields : RegName → List Fld
  | .archCfg => [Fld.ARCH_CFG_COMP]
  | .archStatus => [Fld.ARCH_STATUS_STATE, Fld.ARCH_STATUS_STAT_VALID, Fld.ARCH_STATUS_STAT_FMT, Fld.ARCH_STATUS_STAT_ORIENT, Fld.ARCH_STATUS_CAPACITY, Fld.ARCH_STATUS_SPARES_USED]
  | .unitRepair => [Fld.UNIT_REPAIR_SOFT_A, Fld.UNIT_REPAIR_SOFT_B, Fld.UNIT_REPAIR_FUSE_A, Fld.UNIT_REPAIR_FUSE_B]
  | .archErr => [Fld.ARCH_ERR_GRID_PARITY, Fld.ARCH_ERR_SPANDREL_CE, Fld.ARCH_ERR_SPANDREL_UE, Fld.ARCH_ERR_FORMAT_MISMATCH, Fld.ARCH_ERR_SPANDREL_RANGE, Fld.ARCH_ERR_GRID_BUSY, Fld.ARCH_ERR_UNIT_MAP_INVALID, Fld.ARCH_ERR_DRAIN_BUSY]
  | .archErrCount => [Fld.ARCH_ERR_COUNT_CE_COUNT, Fld.ARCH_ERR_COUNT_UE_COUNT, Fld.ARCH_ERR_COUNT_PARITY_COUNT]
  | .archBusyCycles => [Fld.ARCH_BUSY_CYCLES_BUSY]
  | .archPassCount => [Fld.ARCH_PASS_COUNT_DONE, Fld.ARCH_PASS_COUNT_ABANDONED]
  | .ringCfg => [Fld.RING_CFG_ROLE, Fld.RING_CFG_TRIM_CW, Fld.RING_CFG_TRIM_CCW, Fld.RING_CFG_ENTRY_CW, Fld.RING_CFG_ENTRY_CCW, Fld.RING_CFG_EXIT_CW, Fld.RING_CFG_EXIT_CCW, Fld.RING_CFG_SEGMENT, Fld.RING_CFG_BROKEN]
  | .ringErr => [Fld.RING_ERR_RING_PARITY, Fld.RING_ERR_RING_MISS, Fld.RING_ERR_INJECT_BUSY, Fld.RING_ERR_RING_ROLE, Fld.RING_ERR_RING_EXT_DOWN, Fld.RING_ERR_RING_BREAK]
  | .ringErrCount => [Fld.RING_ERR_COUNT_PARITY_COUNT, Fld.RING_ERR_COUNT_MISS_COUNT, Fld.RING_ERR_COUNT_JOINT_STALLS]
  | .vecErr => [Fld.VEC_ERR_LOAD_FAULT, Fld.VEC_ERR_FORMAT_MISMATCH, Fld.VEC_ERR_STEP_SKEW]
  | .vecCount => [Fld.VEC_COUNT_BUSY, Fld.VEC_COUNT_SKEW_COUNT]
  | .deckGeometry => [Fld.DECK_GEOMETRY_SLOTS, Fld.DECK_GEOMETRY_BANKS, Fld.DECK_GEOMETRY_READ_LAT, Fld.DECK_GEOMETRY_REGIONS]
  | .deckArbCfg => [Fld.DECK_ARB_CFG_BURST, Fld.DECK_ARB_CFG_QUOTA5, Fld.DECK_ARB_CFG_QUOTA6, Fld.DECK_ARB_CFG_QUOTA7]
  | .deckErr => [Fld.DECK_ERR_REGION_INVALID, Fld.DECK_ERR_REGION_RANGE, Fld.DECK_ERR_REGION_DEADLOCK, Fld.DECK_ERR_DECK_CE, Fld.DECK_ERR_DECK_UE]
  | .deckErrCount => [Fld.DECK_ERR_COUNT_CE_COUNT, Fld.DECK_ERR_COUNT_UE_COUNT, Fld.DECK_ERR_COUNT_DEADLOCK_COUNT]
  | .deckArbCount => [Fld.DECK_ARB_COUNT_PHANTOM, Fld.DECK_ARB_COUNT_REVOKE, Fld.DECK_ARB_COUNT_MASKED, Fld.DECK_ARB_COUNT_SCHED_LATE]
  | .deadlockCfg => [Fld.DEADLOCK_CFG_LIMIT_LOG2]
  | .deadlockRegions => [Fld.DEADLOCK_REGIONS_WAIT_MASK]
  | .regionDesc => [Fld.REGION_DESC_VALID, Fld.REGION_DESC_MODE, Fld.REGION_DESC_HALVES, Fld.REGION_DESC_SCALE, Fld.REGION_DESC_SCALE_EN, Fld.REGION_DESC_STEP_CHK, Fld.REGION_DESC_BASE, Fld.REGION_DESC_SIZE, Fld.REGION_DESC_SCALE_REGION]
  | .regionPtr => [Fld.REGION_PTR_HEAD, Fld.REGION_PTR_TAIL, Fld.REGION_PTR_OCC, Fld.REGION_PTR_PHALF, Fld.REGION_PTR_FILL_C, Fld.REGION_PTR_WAITING]
  | .approachCfg => [Fld.APPROACH_CFG_TO_LOG2, Fld.APPROACH_CFG_RETRY_LIMIT, Fld.APPROACH_CFG_REFETCH_LIMIT, Fld.APPROACH_CFG_WATCH_WAIT_LOG2]
  | .approachStatus => [Fld.APPROACH_STATUS_TAGS_BUSY, Fld.APPROACH_STATUS_ARMED, Fld.APPROACH_STATUS_DONE]
  | .approachErr => [Fld.APPROACH_ERR_XLATE_FAULT, Fld.APPROACH_ERR_PERM_FAULT, Fld.APPROACH_ERR_WINDOW_CLOSED, Fld.APPROACH_ERR_MEM_UE, Fld.APPROACH_ERR_XFER_TIMEOUT, Fld.APPROACH_ERR_WATCH_STARVED, Fld.APPROACH_ERR_STALE_TILE, Fld.APPROACH_ERR_STREAM_BUSY]
  | .approachFault => [Fld.APPROACH_FAULT_OBJECT, Fld.APPROACH_FAULT_OFFSET]
  | .approachFaultSrc => [Fld.APPROACH_FAULT_SRC_STREAM, Fld.APPROACH_FAULT_SRC_SLOT, Fld.APPROACH_FAULT_SRC_CODE]
  | .approachCount => [Fld.APPROACH_COUNT_MERGES, Fld.APPROACH_COUNT_LATE_REPLIES, Fld.APPROACH_COUNT_WATCH_WAITS]
  | .streamDesc0 => [Fld.STREAM_DESC0_VALID, Fld.STREAM_DESC0_AUTO, Fld.STREAM_DESC0_WATCH, Fld.STREAM_DESC0_STALE_MODE, Fld.STREAM_DESC0_SIDE_MODE, Fld.STREAM_DESC0_ORIENT, Fld.STREAM_DESC0_REGION, Fld.STREAM_DESC0_DEPTH, Fld.STREAM_DESC0_GANG_POS, Fld.STREAM_DESC0_GANG, Fld.STREAM_DESC0_FMT, Fld.STREAM_DESC0_COUNT]
  | .streamDesc1 => [Fld.STREAM_DESC1_OBJECT, Fld.STREAM_DESC1_BASE]
  | .streamDesc2 => [Fld.STREAM_DESC2_ROW_STRIDE, Fld.STREAM_DESC2_N0, Fld.STREAM_DESC2_N1]
  | .streamDesc3 => [Fld.STREAM_DESC3_S0, Fld.STREAM_DESC3_S1]
  | .streamDesc4 => [Fld.STREAM_DESC4_S2, Fld.STREAM_DESC4_EXT_BASE]
  | .streamDesc5 => [Fld.STREAM_DESC5_LO]
  | .streamDesc6 => [Fld.STREAM_DESC6_HI]
  | .streamDesc7 => [Fld.STREAM_DESC7_SIDE_BASE]
  | .streamCount0 => [Fld.STREAM_COUNT0_FETCHED, Fld.STREAM_COUNT0_USED]
  | .streamCount1 => [Fld.STREAM_COUNT1_ON_TIME, Fld.STREAM_COUNT1_LATE]
  | .streamCount2 => [Fld.STREAM_COUNT2_LATE_CYCLES, Fld.STREAM_COUNT2_CLIP_ROWS]
  | .streamCount3 => [Fld.STREAM_COUNT3_STALE_MARKS, Fld.STREAM_COUNT3_REFETCHES, Fld.STREAM_COUNT3_POISONED, Fld.STREAM_COUNT3_DROPPED]
  | .streamCount4 => [Fld.STREAM_COUNT4_POISON_DROPPED]
  | .copyDesc0 => [Fld.COPY_DESC0_VALID, Fld.COPY_DESC0_AUTO, Fld.COPY_DESC0_WATCH, Fld.COPY_DESC0_STALE_MODE, Fld.COPY_DESC0_SIDE_MODE, Fld.COPY_DESC0_ORIENT, Fld.COPY_DESC0_REGION, Fld.COPY_DESC0_DEPTH, Fld.COPY_DESC0_GANG_POS, Fld.COPY_DESC0_GANG, Fld.COPY_DESC0_FMT, Fld.COPY_DESC0_COUNT, Fld.COPY_DESC0_DIR]
  | .copyDesc1 => [Fld.COPY_DESC1_OBJECT, Fld.COPY_DESC1_BASE]
  | .copyDesc2 => [Fld.COPY_DESC2_ROW_STRIDE, Fld.COPY_DESC2_N0, Fld.COPY_DESC2_N1]
  | .copyDesc3 => [Fld.COPY_DESC3_S0, Fld.COPY_DESC3_S1]
  | .copyDesc4 => [Fld.COPY_DESC4_S2, Fld.COPY_DESC4_EXT_BASE]
  | .copyDesc5 => [Fld.COPY_DESC5_LO]
  | .copyDesc6 => [Fld.COPY_DESC6_HI]
  | .copyDesc7 => [Fld.COPY_DESC7_SIDE_BASE]
  | .pctlStatus => [Fld.PCTL_STATUS_STATE, Fld.PCTL_STATUS_LOGICAL, Fld.PCTL_STATUS_DOMAIN, Fld.PCTL_STATUS_LOOP_DEPTH, Fld.PCTL_STATUS_JOINT_INDEX]
  | .pctlSlot => [Fld.PCTL_SLOT_SLOT]
  | .pctlStall => [Fld.PCTL_STALL_CYCLES]
  | .pctlStallCause => [Fld.PCTL_STALL_CAUSE_REGION, Fld.PCTL_STALL_CAUSE_BEAT, Fld.PCTL_STALL_CAUSE_TOKEN, Fld.PCTL_STALL_CAUSE_OTHER]
  | .pctlFault => [Fld.PCTL_FAULT_CODE, Fld.PCTL_FAULT_SLOT]
  | .pctlErr => [Fld.PCTL_ERR_BUNDLE_UE, Fld.PCTL_ERR_BARRIER_MISMATCH]
  | .updStatus => [Fld.UPD_STATUS_BUSY, Fld.UPD_STATUS_DESC, Fld.UPD_STATUS_TILES_LEFT]
  | .updErr => [Fld.UPD_ERR_STEP_SKEW, Fld.UPD_ERR_LOAD_FAULT, Fld.UPD_ERR_FORMAT_MISMATCH]
  | .updCount => [Fld.UPD_COUNT_ELEMENTS, Fld.UPD_COUNT_SKEW_COUNT]
  | .updSkip => [Fld.UPD_SKIP_FROZEN, Fld.UPD_SKIP_NAN_SKIPS]
  | .rngStatus => [Fld.RNG_STATUS_SHARD, Fld.RNG_STATUS_EVAL, Fld.RNG_STATUS_STREAMS]
  | .rngCount => [Fld.RNG_COUNT_DRAWS]
  | .rngUse => [Fld.RNG_USE_USE, Fld.RNG_USE_VALID]
  | .rngSeed => [Fld.RNG_SEED_SEED]
  | .stageStatus => [Fld.STAGE_STATUS_ACTIVE, Fld.STAGE_STATUS_NSTAGES, Fld.STAGE_STATUS_STAGE_ID, Fld.STAGE_STATUS_SWITCHES]
  | .deckSpares => [Fld.DECK_SPARES_SOFT_USED, Fld.DECK_SPARES_FUSE_USED]
  | .viaductLayout => [Fld.VIADUCT_LAYOUT_SEG_COUNT, Fld.VIADUCT_LAYOUT_ORIGIN, Fld.VIADUCT_LAYOUT_SIZE, Fld.VIADUCT_LAYOUT_BOUND_PIERS]
  | .viaductExt => [Fld.VIADUCT_EXT_NEXT0, Fld.VIADUCT_EXT_PREV0, Fld.VIADUCT_EXT_NEXT1, Fld.VIADUCT_EXT_PREV1, Fld.VIADUCT_EXT_NEXT2, Fld.VIADUCT_EXT_PREV2, Fld.VIADUCT_EXT_NEXT3, Fld.VIADUCT_EXT_PREV3, Fld.VIADUCT_EXT_NEXT4, Fld.VIADUCT_EXT_PREV4, Fld.VIADUCT_EXT_NEXT5, Fld.VIADUCT_EXT_PREV5, Fld.VIADUCT_EXT_NEXT6, Fld.VIADUCT_EXT_PREV6, Fld.VIADUCT_EXT_NEXT7, Fld.VIADUCT_EXT_PREV7]
  | .viaductStatus => [Fld.VIADUCT_STATUS_BOUND, Fld.VIADUCT_STATUS_MAX_EXTRA, Fld.VIADUCT_STATUS_BREAK, Fld.VIADUCT_STATUS_BREAK_PIER, Fld.VIADUCT_STATUS_BREAK_COUNT]
  | .gateCfg => [Fld.GATE_CFG_SPLIT, Fld.GATE_CFG_AGE_LOG2, Fld.GATE_CFG_SCRUB_HOURS, Fld.GATE_CFG_CE_ROW_LIMIT, Fld.GATE_CFG_REFRESH_FLOOR]
  | .gateStatus => [Fld.GATE_STATUS_STATE, Fld.GATE_STATUS_REFRESH_RATE, Fld.GATE_STATUS_FW_UPDATE, Fld.GATE_STATUS_SOFT_USED, Fld.GATE_STATUS_HARD_USED]
  | .gateTemp => [Fld.GATE_TEMP_TEMP_NOW, Fld.GATE_TEMP_TEMP_MAX]
  | .gateErr => [Fld.GATE_ERR_MEM_CE, Fld.GATE_ERR_MEM_UE, Fld.GATE_ERR_MEM_ROW_DEGRADED, Fld.GATE_ERR_STACK_THROTTLE, Fld.GATE_ERR_STACK_OVERTEMP, Fld.GATE_ERR_REPAIR_FAIL, Fld.GATE_ERR_STACK_FAIL]
  | .gateErrCount => [Fld.GATE_ERR_COUNT_CE_COUNT, Fld.GATE_ERR_COUNT_UE_COUNT, Fld.GATE_ERR_COUNT_ROW_DEGRADED]
  | .gateErrLoc => [Fld.GATE_ERR_LOC_CHANNEL, Fld.GATE_ERR_LOC_BANK, Fld.GATE_ERR_LOC_ROW, Fld.GATE_ERR_LOC_COLUMN, Fld.GATE_ERR_LOC_UE, Fld.GATE_ERR_LOC_STORED, Fld.GATE_ERR_LOC_SCRUB]
  | .gateErrAddr => [Fld.GATE_ERR_ADDR_ADDR]
  | .gateBursts => [Fld.GATE_BURSTS_BURSTS]
  | .repairCtrl => [Fld.REPAIR_CTRL_OP, Fld.REPAIR_CTRL_CHANNEL, Fld.REPAIR_CTRL_BANK, Fld.REPAIR_CTRL_ROW]
  | .repairStatus => [Fld.REPAIR_STATUS_BUSY, Fld.REPAIR_STATUS_RESULT, Fld.REPAIR_STATUS_SPARES_LEFT]
  | .watchSel => [Fld.WATCH_SEL_INDEX]
  | .watchW0 => [Fld.WATCH_W0_VALID, Fld.WATCH_W0_PIER, Fld.WATCH_W0_SLOT, Fld.WATCH_W0_KIND, Fld.WATCH_W0_GEN, Fld.WATCH_W0_LO]
  | .watchW1 => [Fld.WATCH_W1_HI]
  | .watchCount => [Fld.WATCH_COUNT_IN_USE, Fld.WATCH_COUNT_HIGH_WATER, Fld.WATCH_COUNT_NOTICES]
  | .softRepair => [Fld.SOFT_REPAIR_VALID, Fld.SOFT_REPAIR_BANK, Fld.SOFT_REPAIR_ROW, Fld.SOFT_REPAIR_SPARE]
  | .interleaveMode => [Fld.INTERLEAVE_MODE_MODE]
  | .homeCfg => [Fld.HOME_CFG_POOL_RESERVE, Fld.HOME_CFG_AGE_GRAIN_LOG2]
  | .homeStatus => [Fld.HOME_STATUS_FREE_FRAMES, Fld.HOME_STATUS_POOLED_FRAMES, Fld.HOME_STATUS_EXHAUSTED]
  | .homeErr => [Fld.HOME_ERR_POOL_EXHAUSTED, Fld.HOME_ERR_MOVE_POISON]
  | .homeCount => [Fld.HOME_COUNT_BRINGUPS, Fld.HOME_COUNT_EVICTIONS]
  | .windowCount => [Fld.WINDOW_COUNT_CLOSED_DROPS, Fld.WINDOW_COUNT_PERM_DROPS, Fld.WINDOW_COUNT_RANGE_DROPS]
  | .windowStatus => [Fld.WINDOW_STATUS_OPEN_COUNT]
  | .schedStatus => [Fld.SCHED_STATUS_STATE, Fld.SCHED_STATUS_PREEMPT_PENDING, Fld.SCHED_STATUS_BOUND_N, Fld.SCHED_STATUS_BINDING, Fld.SCHED_STATUS_JOINT_INDEX]
  | .schedFault => [Fld.SCHED_FAULT_CODE, Fld.SCHED_FAULT_PIER, Fld.SCHED_FAULT_SLOT]
  | .schedImage => [Fld.SCHED_IMAGE_ARCH_LEVEL, Fld.SCHED_IMAGE_FORMAT_MINOR, Fld.SCHED_IMAGE_FLAGS]
  | .tokenCost => [Fld.TOKEN_COST_LOADING, Fld.TOKEN_COST_PASS16, Fld.TOKEN_COST_PASS8, Fld.TOKEN_COST_PASS4, Fld.TOKEN_COST_COMP_ADD]
  | .tokenStatus => [Fld.TOKEN_STATUS_POOL, Fld.TOKEN_STATUS_FACTOR, Fld.TOKEN_STATUS_THERMAL, Fld.TOKEN_STATUS_SUPPLY, Fld.TOKEN_STATUS_ALERT, Fld.TOKEN_STATUS_BRACE, Fld.TOKEN_STATUS_BUDGET_W, Fld.TOKEN_STATUS_BASE_W]
  | .tokenErr => [Fld.TOKEN_ERR_OVERDRAFT]
  | .tokenCount => [Fld.TOKEN_COUNT_OVERDRAFTS, Fld.TOKEN_COUNT_THROTTLE_STEPS]
  | .spanToken => [Fld.SPAN_TOKEN_COMPILED, Fld.SPAN_TOKEN_GRANTED, Fld.SPAN_TOKEN_HELD, Fld.SPAN_TOKEN_STEP]
  | .spanTokenCount => [Fld.SPAN_TOKEN_COUNT_WAIT_CYCLES, Fld.SPAN_TOKEN_COUNT_RAMP_WAITS]
  | .pierHeld => [Fld.PIER_HELD_HELD]
  | .stepCounter => [Fld.STEP_COUNTER_STEP]
  | .schedEngStatus => [Fld.SCHED_ENG_STATUS_VALID, Fld.SCHED_ENG_STATUS_STEP_EVAL]
  | .schedVal0 => [Fld.SCHED_VAL0_LR, Fld.SCHED_VAL0_DECAY]
  | .schedVal1 => [Fld.SCHED_VAL1_B1, Fld.SCHED_VAL1_OB1]
  | .schedVal2 => [Fld.SCHED_VAL2_B2, Fld.SCHED_VAL2_OB2]
  | .schedVal3 => [Fld.SCHED_VAL3_BC1, Fld.SCHED_VAL3_BC2]
  | .schedVal4 => [Fld.SCHED_VAL4_WD, Fld.SCHED_VAL4_T]
  | .parapetStatus => [Fld.PARAPET_STATUS_IN_USE, Fld.PARAPET_STATUS_EVAL_ACTIVE]
  | .parapetErr => [Fld.PARAPET_ERR_PARAPET_WRITE]
  | .parapetCount => [Fld.PARAPET_COUNT_LOCAL_REFUSED, Fld.PARAPET_COUNT_REMOTE_REFUSED]
  | .parapetSel => [Fld.PARAPET_SEL_INDEX]
  | .parapetW0 => [Fld.PARAPET_W0_VALID, Fld.PARAPET_W0_KIND, Fld.PARAPET_W0_OBJECT]
  | .parapetW1 => [Fld.PARAPET_W1_LO]
  | .parapetW2 => [Fld.PARAPET_W2_HI]
  | .portCfg => [Fld.PORT_CFG_ROLE, Fld.PORT_CFG_DEGRADE_EN, Fld.PORT_CFG_RETRY_LIMIT, Fld.PORT_CFG_ACK_TO_US, Fld.PORT_CFG_RECOVERY_MS]
  | .portShare0 => [Fld.PORT_SHARE0_VC0, Fld.PORT_SHARE0_VC1, Fld.PORT_SHARE0_VC2, Fld.PORT_SHARE0_VC3]
  | .portShare1 => [Fld.PORT_SHARE1_VC4, Fld.PORT_SHARE1_VC5, Fld.PORT_SHARE1_VC6, Fld.PORT_SHARE1_VC7]
  | .portStatus => [Fld.PORT_STATUS_STATE, Fld.PORT_STATUS_WIDTH, Fld.PORT_STATUS_LEADER, Fld.PORT_STATUS_BONDED, Fld.PORT_STATUS_VERSION, Fld.PORT_STATUS_NEIGHBOUR, Fld.PORT_STATUS_NEIGHBOUR_PORT, Fld.PORT_STATUS_LANE_LOCK]
  | .portErr => [Fld.PORT_ERR_LINK_DOWN, Fld.PORT_ERR_LINK_DEGRADED, Fld.PORT_ERR_LINK_TRAIN_FAIL, Fld.PORT_ERR_LINK_ID_CONFLICT, Fld.PORT_ERR_LINK_VERSION_MISMATCH, Fld.PORT_ERR_LINK_ROLE_MISMATCH]
  | .portCount => [Fld.PORT_COUNT_CRC_ERRORS, Fld.PORT_COUNT_RETRIES, Fld.PORT_COUNT_RECOVERIES]
  | .portFec => [Fld.PORT_FEC_FEC_CORRECTED, Fld.PORT_FEC_FEC_UNCORR]
  | .portTxFlits => [Fld.PORT_TX_FLITS_FLITS]
  | .portRxFlits => [Fld.PORT_RX_FLITS_FLITS]
  | .pauneId => [Fld.PAUNE_ID_ID, Fld.PAUNE_ID_ID_VALID]
  | .routeDim => [Fld.ROUTE_DIM_SX_M1, Fld.ROUTE_DIM_SY_M1, Fld.ROUTE_DIM_SZ_M1, Fld.ROUTE_DIM_TORUS]
  | .routePorts => [Fld.ROUTE_PORTS_XP, Fld.ROUTE_PORTS_XM, Fld.ROUTE_PORTS_YP, Fld.ROUTE_PORTS_YM, Fld.ROUTE_PORTS_ZP, Fld.ROUTE_PORTS_ZM, Fld.ROUTE_PORTS_TTL]
  | .pauneMsgErr => [Fld.PAUNE_MSG_ERR_NO_ROUTE, Fld.PAUNE_MSG_ERR_TTL_EXPIRED, Fld.PAUNE_MSG_ERR_MALFORMED, Fld.PAUNE_MSG_ERR_STEP_SKEW]
  | .pauneMsgCount => [Fld.PAUNE_MSG_COUNT_NO_ROUTE_DROPS, Fld.PAUNE_MSG_COUNT_TTL_DROPS, Fld.PAUNE_MSG_COUNT_MALFORMED, Fld.PAUNE_MSG_COUNT_STEP_DROPS]
  | .routeOvr => [Fld.ROUTE_OVR_VALID, Fld.ROUTE_OVR_PORT, Fld.ROUTE_OVR_MATCH, Fld.ROUTE_OVR_MASK]
  | .pairCfg => [Fld.PAIR_CFG_KEY_RESEND_US, Fld.PAIR_CFG_COMMIT_TO_MS, Fld.PAIR_CFG_SILENT_MS]
  | .pairStatus => [Fld.PAIR_STATUS_STATE, Fld.PAIR_STATUS_PAIR_ALIVE, Fld.PAIR_STATUS_BOND_UP, Fld.PAIR_STATUS_MIRROR_VALID, Fld.PAIR_STATUS_MATE]
  | .pairMseqOut => [Fld.PAIR_MSEQ_OUT_MSEQ]
  | .pairMseqAcked => [Fld.PAIR_MSEQ_ACKED_MSEQ]
  | .pairMseqIn => [Fld.PAIR_MSEQ_IN_MSEQ]
  | .pairKeystone => [Fld.PAIR_KEYSTONE_OWN_STEP, Fld.PAIR_KEYSTONE_MATE_STEP]
  | .pairErr => [Fld.PAIR_ERR_PAIR_LOST, Fld.PAIR_ERR_PAIR_MATE_CHANGED, Fld.PAIR_ERR_PAIR_MIRROR_FAULT, Fld.PAIR_ERR_PAIR_COMMIT_TIMEOUT, Fld.PAIR_ERR_KEYSTONE_REFUSED, Fld.PAIR_ERR_PAIR_STEP_SKEW]
  | .pairCount => [Fld.PAIR_COUNT_DUPLICATES, Fld.PAIR_COUNT_DISCARDS, Fld.PAIR_COUNT_KEY_RESENDS, Fld.PAIR_COUNT_LOG_WAITS]
  | .pairLog => [Fld.PAIR_LOG_USED, Fld.PAIR_LOG_HIGH_WATER]
  | .jwStatus => [Fld.JW_STATUS_STATE, Fld.JW_STATUS_WIDTH, Fld.JW_STATUS_VERSION, Fld.JW_STATUS_LANE_LOCK]
  | .jwErr => [Fld.JW_ERR_JUWIRE_DOWN, Fld.JW_ERR_JUWIRE_DEGRADED, Fld.JW_ERR_HOST_POISON, Fld.JW_ERR_MAILBOX_FAULT]
  | .jwCount => [Fld.JW_COUNT_CRC_ERRORS, Fld.JW_COUNT_RETRIES, Fld.JW_COUNT_RECOVERIES]
  | .mailboxCfg => [Fld.MAILBOX_CFG_ENABLE, Fld.MAILBOX_CFG_BASE]
  | .cmdStatus => [Fld.CMD_STATUS_SESSION, Fld.CMD_STATUS_VERSION, Fld.CMD_STATUS_IN_PROGRESS]
  | .cmdCount => [Fld.CMD_COUNT_ACCEPTED, Fld.CMD_COUNT_REFUSED, Fld.CMD_COUNT_SUPERSEDED]
  | .evtStatus => [Fld.EVT_STATUS_QUEUE_VALID, Fld.EVT_STATUS_ENTRIES_LOG2, Fld.EVT_STATUS_OVF_PENDING, Fld.EVT_STATUS_HEAD_BAD, Fld.EVT_STATUS_NEXT_SEQ]
  | .evtTail => [Fld.EVT_TAIL_INDEX]
  | .evtHead => [Fld.EVT_HEAD_INDEX]
  | .evtCount => [Fld.EVT_COUNT_LOST, Fld.EVT_COUNT_MERGED, Fld.EVT_COUNT_STACK_FAULTS]
  | .evtStack => [Fld.EVT_STACK_DEPTH, Fld.EVT_STACK_LEVELS, Fld.EVT_STACK_PENDING]
  | .evtPresent => [Fld.EVT_PRESENT_CODE, Fld.EVT_PRESENT_LEVEL, Fld.EVT_PRESENT_VALID]
  | .evtDone => [Fld.EVT_DONE_LEVEL, Fld.EVT_DONE_FLUSH]
  | .senseCfg => [Fld.SENSE_CFG_N_RESET, Fld.SENSE_CFG_N_ALIVE, Fld.SENSE_CFG_N_THERM, Fld.SENSE_CFG_N_SUPPLY]
  | .senseStatus => [Fld.SENSE_STATUS_RAW, Fld.SENSE_STATUS_FILT, Fld.SENSE_STATUS_LATCH]
  | .senseCount => [Fld.SENSE_COUNT_RESET_L, Fld.SENSE_COUNT_PAIR_ALIVE, Fld.SENSE_COUNT_THERM_ALERT_L, Fld.SENSE_COUNT_SUPPLY]
  | .thermStatus => [Fld.THERM_STATUS_TJ_MAX, Fld.THERM_STATUS_TJ_PEAK, Fld.THERM_STATUS_TRIPPED, Fld.THERM_STATUS_HOT_SPAN]
  | .clkCfg => [Fld.CLK_CFG_MODE, Fld.CLK_CFG_STRETCH_STEPS, Fld.CLK_CFG_MARGIN, Fld.CLK_CFG_FSTEP_CAP]
  | .clkStatus => [Fld.CLK_STATUS_ROOT_LOCK, Fld.CLK_STATUS_REF_LOST, Fld.CLK_STATUS_MODE, Fld.CLK_STATUS_FSTEP, Fld.CLK_STATUS_TEST_PERIOD, Fld.CLK_STATUS_NONCE_WEAK, Fld.CLK_STATUS_REF_LOSSES]
  | .timeNow => [Fld.TIME_NOW_TICKS]
  | .bootNonce0 => [Fld.BOOT_NONCE0_NONCE]
  | .bootNonce1 => [Fld.BOOT_NONCE1_NONCE]
  | .bootCount => [Fld.BOOT_COUNT_COUNT]
  | .clkSpan => [Fld.CLK_SPAN_K_EFF, Fld.CLK_SPAN_DELTA, Fld.CLK_SPAN_OUT]
  | .clkSpanCount => [Fld.CLK_SPAN_COUNT_STRETCHES, Fld.CLK_SPAN_COUNT_HOLDS, Fld.CLK_SPAN_COUNT_MARGIN_EVENTS]
  | .powerCfg => [Fld.POWER_CFG_IDLE_DELAY_US, Fld.POWER_CFG_HOLDUP_AGE_S, Fld.POWER_CFG_DOZE_SR_MS]
  | .powerCtrl => [Fld.POWER_CTRL_TARGET, Fld.POWER_CTRL_MEASURE]
  | .powerStatus => [Fld.POWER_STATUS_STATE, Fld.POWER_STATUS_BRACE, Fld.POWER_STATUS_REFUSE, Fld.POWER_STATUS_CHARGING, Fld.POWER_STATUS_WAKE_SRC]
  | .supplyStatus => [Fld.SUPPLY_STATUS_V_IN, Fld.SUPPLY_STATUS_I_IN, Fld.SUPPLY_STATUS_P_AVG, Fld.SUPPLY_STATUS_V_MIN]
  | .holdupStatus => [Fld.HOLDUP_STATUS_ENERGY, Fld.HOLDUP_STATUS_CAP, Fld.HOLDUP_STATUS_V_BANK, Fld.HOLDUP_STATUS_VALID, Fld.HOLDUP_STATUS_LOW, Fld.HOLDUP_STATUS_MEASURING]
  | .holdupTime => [Fld.HOLDUP_TIME_TICKS]
  | .braceCount => [Fld.BRACE_COUNT_ENTRIES, Fld.BRACE_COUNT_RECOVERED, Fld.BRACE_COUNT_SUPPLY_RESETS]
  | .bistCfg => [Fld.BIST_CFG_POWERUP_MODE, Fld.BIST_CFG_FUSE_POLICY, Fld.BIST_CFG_STACK_TEST]
  | .bistStatus => [Fld.BIST_STATUS_RUNNING, Fld.BIST_STATUS_SCOPE, Fld.BIST_STATUS_WAVE, Fld.BIST_STATUS_LAST_RESULT, Fld.BIST_STATUS_MODE_USED, Fld.BIST_STATUS_VCORE_MV, Fld.BIST_STATUS_DURATION_MS]
  | .bistCount => [Fld.BIST_COUNT_RUNS, Fld.BIST_COUNT_PIERS_FAILED, Fld.BIST_COUNT_REPAIRS, Fld.BIST_COUNT_FUSE_FAILS]
  | .deviceId => [Fld.DEVICE_ID_GRADE, Fld.DEVICE_ID_STEPPING]
  | .fwStatus => [Fld.FW_STATUS_ACTIVE, Fld.FW_STATUS_TRIAL, Fld.FW_STATUS_FALLBACK, Fld.FW_STATUS_ROLLED_BACK, Fld.FW_STATUS_NO_IMAGE, Fld.FW_STATUS_VERSION]
  | .keyStatus => [Fld.KEY_STATUS_SLOTS, Fld.KEY_STATUS_SVN_MIN0, Fld.KEY_STATUS_SVN_MIN1, Fld.KEY_STATUS_SVN_MIN2]
  | .serviceCtrl => [Fld.SERVICE_CTRL_OPEN, Fld.SERVICE_CTRL_CLOSE, Fld.SERVICE_CTRL_FAILS]
  | .ownerFuseCtrl => [Fld.OWNER_FUSE_CTRL_OP, Fld.OWNER_FUSE_CTRL_SLOT, Fld.OWNER_FUSE_CTRL_RESULT]
  | .ownerFuseData => [Fld.OWNER_FUSE_DATA_DATA]
  | .mr => [Fld.MR_VALUE]

/-- A listed register of a block: its offset, how many of it there are and the distance between them. -/
structure RegRow where
  reg : RegName
  off : Nat
  count : Nat
  stride : Nat
deriving DecidableEq, Repr

/-- The block of one arch (R106). -/
def archBlock : List RegRow := [⟨.archCfg, 0x0, 1, 8⟩, ⟨.archStatus, 0x8, 1, 8⟩, ⟨.unitRepair, 0x10, 1, 8⟩, ⟨.archErr, 0x18, 1, 8⟩, ⟨.archErrCount, 0x20, 1, 8⟩, ⟨.archBusyCycles, 0x28, 1, 8⟩, ⟨.archPassCount, 0x30, 1, 8⟩]
/-- The ring registers of a pier (R133). -/
def ringBlock : List RegRow := [⟨.ringCfg, 0x0, 1, 8⟩, ⟨.ringErr, 0x8, 1, 8⟩, ⟨.ringErrCount, 0x10, 1, 8⟩]
/-- The vector registers block of a pier (R151). -/
def vecBlock : List RegRow := [⟨.vecErr, 0x0, 1, 8⟩, ⟨.vecCount, 0x8, 1, 8⟩]
/-- The deck-store registers of a pier (R180). -/
def deckBlock : List RegRow := [⟨.deckGeometry, 0x0, 1, 8⟩, ⟨.deckArbCfg, 0x8, 1, 8⟩, ⟨.deckErr, 0x10, 1, 8⟩, ⟨.deckErrCount, 0x18, 1, 8⟩, ⟨.deckArbCount, 0x20, 1, 8⟩, ⟨.deadlockCfg, 0x28, 1, 8⟩, ⟨.deadlockRegions, 0x30, 1, 8⟩, ⟨.regionDesc, 0x400, 64, 8⟩, ⟨.regionPtr, 0x800, 64, 8⟩]
/-- The approach-engine registers of a pier (R213). -/
def approachBlock : List RegRow := [⟨.approachCfg, 0x0, 1, 8⟩, ⟨.approachStatus, 0x8, 1, 8⟩, ⟨.approachErr, 0x10, 1, 8⟩, ⟨.approachFault, 0x18, 1, 8⟩, ⟨.approachFaultSrc, 0x20, 1, 8⟩, ⟨.approachCount, 0x28, 1, 8⟩, ⟨.streamDesc0, 0x400, 16, 64⟩, ⟨.streamDesc1, 0x408, 16, 64⟩, ⟨.streamDesc2, 0x410, 16, 64⟩, ⟨.streamDesc3, 0x418, 16, 64⟩, ⟨.streamDesc4, 0x420, 16, 64⟩, ⟨.streamDesc5, 0x428, 16, 64⟩, ⟨.streamDesc6, 0x430, 16, 64⟩, ⟨.streamDesc7, 0x438, 16, 64⟩, ⟨.streamCount0, 0x800, 16, 64⟩, ⟨.streamCount1, 0x808, 16, 64⟩, ⟨.streamCount2, 0x810, 16, 64⟩, ⟨.streamCount3, 0x818, 16, 64⟩, ⟨.streamCount4, 0x820, 16, 64⟩]
/-- The copy descriptors of a pier (R283). -/
def copyBlock : List RegRow := [⟨.copyDesc0, 0x0, 8, 64⟩, ⟨.copyDesc1, 0x8, 8, 64⟩, ⟨.copyDesc2, 0x10, 8, 64⟩, ⟨.copyDesc3, 0x18, 8, 64⟩, ⟨.copyDesc4, 0x20, 8, 64⟩, ⟨.copyDesc5, 0x28, 8, 64⟩, ⟨.copyDesc6, 0x30, 8, 64⟩, ⟨.copyDesc7, 0x38, 8, 64⟩]
/-- The pier-controller registers of a pier (R313). -/
def pctlBlock : List RegRow := [⟨.pctlStatus, 0x0, 1, 8⟩, ⟨.pctlSlot, 0x8, 1, 8⟩, ⟨.pctlStall, 0x10, 1, 8⟩, ⟨.pctlStallCause, 0x18, 1, 8⟩, ⟨.pctlFault, 0x20, 1, 8⟩, ⟨.pctlErr, 0x28, 1, 8⟩]
/-- The update-engine registers of a pier (R354). -/
def updBlock : List RegRow := [⟨.updStatus, 0x0, 1, 8⟩, ⟨.updErr, 0x8, 1, 8⟩, ⟨.updCount, 0x10, 1, 8⟩, ⟨.updSkip, 0x18, 1, 8⟩]
/-- The random-block registers of a pier (R371). -/
def rngBlock : List RegRow := [⟨.rngStatus, 0x0, 1, 8⟩, ⟨.rngCount, 0x8, 1, 8⟩, ⟨.rngUse, 0x100, 64, 8⟩, ⟨.rngSeed, 0x400, 64, 8⟩]
/-- The stage register of a pier (R371). -/
def stageBlock : List RegRow := [⟨.stageStatus, 0x0, 1, 8⟩]
/-- The deck spares of a pier (R541). -/
def sparesBlock : List RegRow := [⟨.deckSpares, 0x0, 40, 8⟩]
/-- The module viaduct registers (R133). -/
def viaductBlock : List RegRow := [⟨.viaductLayout, 0x0, 1, 8⟩, ⟨.viaductExt, 0x8, 1, 8⟩, ⟨.viaductStatus, 0x10, 1, 8⟩]
/-- The registers of a gate (R246). -/
def gateBlock : List RegRow := [⟨.gateCfg, 0x0, 1, 8⟩, ⟨.gateStatus, 0x8, 1, 8⟩, ⟨.gateTemp, 0x10, 1, 8⟩, ⟨.gateErr, 0x18, 1, 8⟩, ⟨.gateErrCount, 0x20, 1, 8⟩, ⟨.gateErrLoc, 0x28, 1, 8⟩, ⟨.gateErrAddr, 0x30, 1, 8⟩, ⟨.gateBursts, 0x38, 3, 8⟩, ⟨.repairCtrl, 0x50, 1, 8⟩, ⟨.repairStatus, 0x58, 1, 8⟩, ⟨.watchSel, 0x60, 1, 8⟩, ⟨.watchW0, 0x68, 1, 8⟩, ⟨.watchW1, 0x70, 1, 8⟩, ⟨.watchCount, 0x78, 1, 8⟩, ⟨.softRepair, 0x100, 256, 8⟩]
/-- INTERLEAVE_MODE (R246). -/
def interleaveBlock : List RegRow := [⟨.interleaveMode, 0x0, 16, 8⟩]
/-- The home and window registers (R283). -/
def homeBlock : List RegRow := [⟨.homeCfg, 0x0, 1, 8⟩, ⟨.homeStatus, 0x8, 1, 8⟩, ⟨.homeErr, 0x10, 1, 8⟩, ⟨.homeCount, 0x18, 1, 8⟩, ⟨.windowCount, 0x20, 1, 8⟩, ⟨.windowStatus, 0x28, 1, 8⟩]
/-- The module schedule registers (R313). -/
def schedBlock : List RegRow := [⟨.schedStatus, 0x0, 1, 8⟩, ⟨.schedFault, 0x8, 1, 8⟩, ⟨.schedImage, 0x10, 1, 8⟩]
/-- The token registers (R332). -/
def tokenBlock : List RegRow := [⟨.tokenCost, 0x0, 1, 8⟩, ⟨.tokenStatus, 0x8, 1, 8⟩, ⟨.tokenErr, 0x10, 1, 8⟩, ⟨.tokenCount, 0x18, 1, 8⟩, ⟨.spanToken, 0x100, 17, 8⟩, ⟨.spanTokenCount, 0x200, 17, 8⟩, ⟨.pierHeld, 0x400, 136, 8⟩]
/-- The schedule-engine registers (R354). -/
def schedEngBlock : List RegRow := [⟨.stepCounter, 0x0, 1, 8⟩, ⟨.schedEngStatus, 0x8, 1, 8⟩, ⟨.schedVal0, 0x100, 8, 64⟩, ⟨.schedVal1, 0x108, 8, 64⟩, ⟨.schedVal2, 0x110, 8, 64⟩, ⟨.schedVal3, 0x118, 8, 64⟩, ⟨.schedVal4, 0x120, 8, 64⟩]
/-- The parapet registers (R371). -/
def parapetBlock : List RegRow := [⟨.parapetStatus, 0x0, 1, 8⟩, ⟨.parapetErr, 0x8, 1, 8⟩, ⟨.parapetCount, 0x10, 1, 8⟩, ⟨.parapetSel, 0x18, 1, 8⟩, ⟨.parapetW0, 0x20, 1, 8⟩, ⟨.parapetW1, 0x28, 1, 8⟩, ⟨.parapetW2, 0x30, 1, 8⟩]
/-- The registers of a Paune port (R403). -/
def portBlock : List RegRow := [⟨.portCfg, 0x0, 1, 8⟩, ⟨.portShare0, 0x8, 1, 8⟩, ⟨.portShare1, 0x10, 1, 8⟩, ⟨.portStatus, 0x18, 1, 8⟩, ⟨.portErr, 0x20, 1, 8⟩, ⟨.portCount, 0x28, 1, 8⟩, ⟨.portFec, 0x30, 1, 8⟩, ⟨.portTxFlits, 0x38, 1, 8⟩, ⟨.portRxFlits, 0x40, 1, 8⟩]
/-- The module Paune registers (R403). -/
def pauneBlock : List RegRow := [⟨.pauneId, 0x0, 1, 8⟩, ⟨.routeDim, 0x8, 1, 8⟩, ⟨.routePorts, 0x10, 1, 8⟩, ⟨.pauneMsgErr, 0x18, 1, 8⟩, ⟨.pauneMsgCount, 0x20, 1, 8⟩, ⟨.routeOvr, 0x100, 64, 8⟩]
/-- The pair registers (R434). -/
def pairBlock : List RegRow := [⟨.pairCfg, 0x0, 1, 8⟩, ⟨.pairStatus, 0x8, 1, 8⟩, ⟨.pairMseqOut, 0x10, 1, 8⟩, ⟨.pairMseqAcked, 0x18, 1, 8⟩, ⟨.pairMseqIn, 0x20, 1, 8⟩, ⟨.pairKeystone, 0x28, 1, 8⟩, ⟨.pairErr, 0x30, 1, 8⟩, ⟨.pairCount, 0x38, 1, 8⟩, ⟨.pairLog, 0x40, 1, 8⟩]
/-- The Juwire and command registers (R459). -/
def juwireBlock : List RegRow := [⟨.jwStatus, 0x0, 1, 8⟩, ⟨.jwErr, 0x8, 1, 8⟩, ⟨.jwCount, 0x10, 1, 8⟩, ⟨.mailboxCfg, 0x18, 1, 8⟩, ⟨.cmdStatus, 0x20, 1, 8⟩, ⟨.cmdCount, 0x28, 1, 8⟩]
/-- The event and sense registers (R481). -/
def eventBlock : List RegRow := [⟨.evtStatus, 0x0, 1, 8⟩, ⟨.evtTail, 0x8, 1, 8⟩, ⟨.evtHead, 0x10, 1, 8⟩, ⟨.evtCount, 0x18, 1, 8⟩, ⟨.evtStack, 0x20, 1, 8⟩, ⟨.evtPresent, 0x28, 1, 8⟩, ⟨.evtDone, 0x30, 1, 8⟩, ⟨.senseCfg, 0x40, 1, 8⟩, ⟨.senseStatus, 0x48, 1, 8⟩, ⟨.senseCount, 0x50, 1, 8⟩, ⟨.thermStatus, 0x58, 1, 8⟩]
/-- The clock and time registers (R497). -/
def clockBlock : List RegRow := [⟨.clkCfg, 0x0, 1, 8⟩, ⟨.clkStatus, 0x8, 1, 8⟩, ⟨.timeNow, 0x10, 1, 8⟩, ⟨.bootNonce0, 0x18, 1, 8⟩, ⟨.bootNonce1, 0x20, 1, 8⟩, ⟨.bootCount, 0x28, 1, 8⟩, ⟨.clkSpan, 0x100, 17, 8⟩, ⟨.clkSpanCount, 0x200, 17, 8⟩]
/-- The power registers (R522). -/
def powerBlock : List RegRow := [⟨.powerCfg, 0x0, 1, 8⟩, ⟨.powerCtrl, 0x8, 1, 8⟩, ⟨.powerStatus, 0x10, 1, 8⟩, ⟨.supplyStatus, 0x18, 1, 8⟩, ⟨.holdupStatus, 0x20, 1, 8⟩, ⟨.holdupTime, 0x28, 1, 8⟩, ⟨.braceCount, 0x30, 1, 8⟩]
/-- The self-test registers (R541). -/
def bistBlock : List RegRow := [⟨.bistCfg, 0x0, 1, 8⟩, ⟨.bistStatus, 0x8, 1, 8⟩, ⟨.bistCount, 0x10, 1, 8⟩]
/-- The security registers (R560). -/
def securityBlock : List RegRow := [⟨.deviceId, 0x0, 1, 8⟩, ⟨.fwStatus, 0x8, 1, 8⟩, ⟨.keyStatus, 0x10, 1, 8⟩, ⟨.serviceCtrl, 0x18, 1, 8⟩, ⟨.ownerFuseCtrl, 0x20, 1, 8⟩, ⟨.ownerFuseData, 0x40, 8, 8⟩, ⟨.mr, 0x100, 48, 8⟩]

end Sys2Proof.Machine
end

