-- ==== Sys2Proof/Machine/RegFile.lean ====
section
/-! DEFINITION. The register file as a table of words: where a register is kept, what it holds by default, how a field
is read and placed, the effect of a software write by access type (R15-R17), and which register an address of the
register range names (R10, R575). -/
namespace Sys2Proof.Machine

/-- The key of instance `i` of a register. -/
def regKey (r : RegName) (i : Nat) : Nat := i * 256 + r.ctorIdx

/-- A field's bits of a word, as a number. -/
def Fld.ofWord (f : Fld) (w : Word) : Nat := w.toNat / 2 ^ f.lo % 2 ^ f.width

/-- A word with a field set; a value wider than the field is cut to it. -/
def Fld.place (f : Fld) (w : Word) (v : Nat) : Word :=
  (w &&& ~~~(BitVec.ofNat 64 ((2 ^ f.width - 1) * 2 ^ f.lo))) ||| BitVec.ofNat 64 (v % 2 ^ f.width * 2 ^ f.lo)

/-- The word of a register whose every field holds its default. PORT_CFG.ROLE of P10 and P11 is 3 (R404). -/
def regInit (r : RegName) (i : Nat) : Word :=
  let w := (regFields r).foldl (fun w f => f.place w f.dflt) 0
  if r = .portCfg && 10 ≤ i then Fld.PORT_CFG_ROLE.place w 3 else w

/-- Every register name, in the order of its constructors. -/
def regOfIdx (n : Nat) : List RegName → Option RegName
  | [] => none
  | r :: t => if r.ctorIdx = n then some r else regOfIdx n t

/-- The rows of every register block. -/
def allRows : List RegRow :=
  archBlock ++ ringBlock ++ vecBlock ++ deckBlock ++ approachBlock ++ copyBlock ++ pctlBlock ++ updBlock ++ rngBlock ++
  stageBlock ++ sparesBlock ++ viaductBlock ++ gateBlock ++ interleaveBlock ++ homeBlock ++ schedBlock ++ tokenBlock ++
  schedEngBlock ++ parapetBlock ++ portBlock ++ pauneBlock ++ pairBlock ++ juwireBlock ++ eventBlock ++ clockBlock ++
  powerBlock ++ bistBlock ++ securityBlock

/-- What an unlisted key of the register table reads as: the register's default word. -/
def regDflt (k : Nat) : Word :=
  match regOfIdx (k % 256) (allRows.map RegRow.reg) with
  | some r => regInit r (k / 256)
  | none => 0

/-- Is a value of a field one that the field map lists, and no reserved encoding (R17)? -/
def Fld.isLegal (f : Fld) (v : Nat) : Bool := f.legal.any (fun r => r.1 ≤ v && v ≤ r.2)

/-- One field's part of a software write (R15, R17): the new word, and whether REG_ACCESS_FAULT is recorded. -/
def Fld.write (f : Fld) (new : Word) (acc : Word × Bool) : Word × Bool :=
  let v := f.ofWord new
  match f.acc with
  | .ro => acc
  | .wo => acc
  | .rw => if f.isLegal v then (f.place acc.1 v, acc.2) else (acc.1, true)
  | .w1c => (f.place acc.1 (f.ofWord (acc.1 &&& ~~~new)), acc.2)

/-- A software write to a listed register, field by field (R15-R17). -/
def regWriteWord (r : RegName) (old new : Word) : Word × Bool :=
  (regFields r).foldl (fun acc f => f.write new acc) (old, false)

/-- What a 64-bit location of the register range is (R575). `pier` names the physical pier whose powered-down compute
makes the block a hole; none for a block that is always there. -/
inductive RegLoc where
  | listed (r : RegName) (i : Nat) (pier : Option Nat)
  | reserved (pier : Option Nat)
  | hole
deriving DecidableEq, Repr

/-- The listed register at an offset of a block, with its number within the block. -/
def findRow (off : Nat) : List RegRow → Option (RegName × Nat × Nat)
  | [] => none
  | r :: t =>
    if r.off ≤ off && (off - r.off) % r.stride = 0 && (off - r.off) / r.stride < r.count then
      some (r.reg, (off - r.off) / r.stride, r.count)
    else findRow off t

/-- A location of block number `b` (a pier, an arch, a gate, a port, or 0): instance numbers run block by block. -/
def inBlock (rows : List RegRow) (b off : Nat) (pier : Option Nat) : RegLoc :=
  match findRow off rows with
  | some (r, n, count) => .listed r (b * count + n) pier
  | none => .reserved pier

/-- The blocks of a physical pier with their offsets (R106, R133, R151, R180, R213, R283, R313, R354, R371, R541); the
ring block is in the always-on island. -/
def pierBlocks : List (Nat × List RegRow × Bool) :=
  [(0x90000, ringBlock, false), (0xA0000, vecBlock, true), (0xB0000, deckBlock, true), (0xC0000, approachBlock, true),
   (0xD0000, copyBlock, true), (0xE0000, pctlBlock, true), (0xF0000, updBlock, true), (0x100000, rngBlock, true),
   (0x110000, stageBlock, true), (0x120000, sparesBlock, true)]

/-- The blocks of the module with their addresses; gates and ports apart. -/
def moduleBlocks : List (Nat × List RegRow) :=
  [(0x020100100000, viaductBlock), (0x020100300000, interleaveBlock), (0x020100400000, homeBlock),
   (0x020100500000, schedBlock), (0x020100600000, tokenBlock), (0x020100700000, schedEngBlock),
   (0x020100800000, parapetBlock), (0x020100A00000, pauneBlock), (0x020100B00000, pairBlock),
   (0x020100C00000, juwireBlock), (0x020100D00000, eventBlock), (0x020100E00000, clockBlock),
   (0x020100F00000, powerBlock), (0x020101000000, bistBlock), (0x020101100000, securityBlock)]

/-- The location at an aligned address of the register range (R10, R575). -/
def regAt (a : Nat) : RegLoc :=
  let base := 0x020000000000
  let p := (a - base) / 0x1000000
  let off := (a - base) % 0x1000000
  if a < base then .hole
  else if p < 136 then
    if 0x80000 ≤ off && off < 0x84000 then
      inBlock archBlock (4 * p + (off - 0x80000) / 0x1000) (off % 0x1000) (some p)
    else
      match pierBlocks.find? (fun b => b.1 ≤ off && off < b.1 + 0x10000) with
      | some (o, rows, gated) => inBlock rows p (off - o) (if gated then some p else none)
      | none => .hole
  else if 0x020100200000 ≤ a && a < 0x020100280000 then
    inBlock gateBlock ((a - 0x020100200000) / 0x10000) (a % 0x10000) none
  else if 0x020100900000 ≤ a && a < 0x02010090C000 then
    inBlock portBlock ((a - 0x020100900000) / 0x1000) (a % 0x1000) none
  else
    match moduleBlocks.find? (fun b => b.1 ≤ a && a < b.1 + 0x10000) with
    | some (o, rows) => inBlock rows 0 (a - o) none
    | none => .hole

end Sys2Proof.Machine
end

