-- ==== Sys2Proof/Machine/State.lean ====
section
/-! DEFINITION. The state of the module as plain data. A register's fields live in `regs` alone; what the spec gives
the machine beside its registers is in the fields below. -/
namespace Sys2Proof.Machine

/-- A machine fault. No command of the module stops the machine, so there is none: every fault of the spec is one that
the module records and reports in its own state. -/
inductive Fault where
deriving DecidableEq, Repr

/-- Why a command has no meaning in the model. -/
inductive Refusal where
  /-- Raised by an arm of `exec` whose command is not modelled; safe: nothing is claimed of it. -/
  | notModelled (mnemonic : String)
  /-- Raised by SB_SERVICE_OP while service access is open: the spec names service operations and gives none of them
  an effect (R556, R571); safe: nothing is claimed of it. -/
  | serviceOperation
deriving DecidableEq, Repr

/-- The pointers of a region (R170, R173), and the slots of the releases that its domain has made last (R577). REGION_PTR is a
view of them (R186). -/
structure Region where
  head : Nat
  tail : Nat
  occ : Nat
  phalf : Bool
  fillP : Nat
  fillC : Nat
  freed : List Nat
deriving DecidableEq, Repr

/-- The pointers of a region that starts empty (R167). -/
def Region.init : Region := ⟨0, 0, 0, false, 0, 0, []⟩

/-- What a deck store keeps with a slot: the FULL bit (R170), the slot after the landing of a tile that its own domain has landed (R577),
the generation (R202), the stale mark, the stale marks in succession and whether its refetch is in flight (R207, R208), the step counter at
its reservation (R193), the deferred fault with its object and offset (R199, R200), the approach stream and the walk index of the tile,
whether it has been read (R211), the wait of a first read and its cycles (R211), and whether the vector unit has raised the tile's fault
(R147). -/
structure SlotRec where
  full : Bool
  landed : Nat
  gen : BitVec 2
  stale : Bool
  stales : Nat
  refetching : Bool
  step : Nat
  fault : Nat
  object : Nat
  offset : Nat
  stream : Option (Fin 16)
  tile : Nat
  wasRead : Bool
  waited : Bool
  waitCycles : Nat
  faulted : Bool
deriving DecidableEq, Repr

/-- An empty slot. -/
def SlotRec.init : SlotRec := ⟨false, 0, 0, false, 0, false, 0, 0, 0, 0, none, 0, false, false, 0, false⟩

/-- What a carriageway word carries of a row: DATA and SIDE (R114). -/
structure RingRow where
  data : Row
  side : Side
deriving DecidableEq, Repr

/-- What an arch holds beside its registers: the grid's elements, scales and tile scale (R77), a grid row whose parity
fails (R79), the slot of the last LOADS and the format of the tile that a LOADS in progress brings (R78, R100), by its issue
slot the capture cycle of the last row of a pass (R100), the slots in which its drain port is occupied (R93), the last slot in
which a ZERO or a CLEAR drain cleared entries, with the first entry and the end of each run (R89, R92), and the times of its
GRID_PARITY and SPANDREL_UE events (R480). -/
structure Arch where
  rows : List Row
  exts : List Side
  scale : F32
  badRow : Option Nat
  loadSlot : Option Nat
  next : Option Fmt
  captures : List (Nat × Nat)
  portFrom : Nat
  portTo : Nat
  cleared : Nat × List (Nat × Nat)
  upsets : List Word
deriving DecidableEq, Repr

/-- An arch as it starts at admission (R113). -/
def Arch.init : Arch := ⟨[], [], 0, none, none, none, [], 0, 0, (0, []), []⟩

/-- A tile that VSTs are building in a region's reserved slot `idx` (R147): the lanes that a mask left out keep what the tile
holds. -/
structure Build where
  region : RegionIx
  idx : Nat
  fmt : Fmt
  tile : Tile
deriving DecidableEq, Repr

/-- The open statistics tile of a region with its records, the first first (R153). -/
structure Stats where
  region : RegionIx
  records : List (F32 × F32)
deriving DecidableEq, Repr

/-- A 128 B line of the pier cache (R178). -/
structure CacheLine where
  line : Nat
  data : List Byte
deriving DecidableEq, Repr

/-- What the update engine keeps of a pair of weight tiles: whether the first half of a 16-bit momentum and shadow tile drew
on a failed check (R348), and the reserved slots of the weight, momentum and shadow tiles that it is writing, each with its region
and format (R343). -/
structure UpdPair where
  bad : Bool
  w : Option (RegionIx × Nat × Fmt)
  m : Option (RegionIx × Nat × Fmt)
  sh : Option (RegionIx × Nat × Fmt)
deriving DecidableEq, Repr

/-- An update engine with no pair open. -/
def UpdPair.init : UpdPair := ⟨false, none, none, none⟩

/-- An open loop: its COUNT and BODY, the first slot of its body and the slots of one pass of it (R298). -/
structure LoopRec where
  count : Nat
  body : Nat
  first : Nat
  len : Nat
deriving DecidableEq, Repr

/-- A claim of the checks: in slot `slot` a beat at each of `ports` (R166), with its place in the order of R163, the first first, 8
places for each requester from 7 down. `issued` says that its instruction has issued, so that its beats have been granted. Ports 0 to
31 are the data banks, 32 to 39 the side banks, 40 to 43 the feeders of the arches (R76, R163). -/
structure Claim where
  slot : Nat
  order : Nat
  ports : List Nat
  issued : Bool
deriving DecidableEq, Repr

/-- What a pier records of the stall of its domain: the slot that does not issue, the first failing row of R302 among the pier's
own items (0: none), whether a beat was late, the regions on which it waits (R176, R302), whether a TACQ or TREL of its own was late
(R334), whether the limit on steps made it so (R328), and whether the counter of the first failing row has counted it (R315). -/
structure Stall where
  slot : Nat
  row : Nat
  beat : Bool
  regions : List RegionIx
  token : Bool
  ramp : Bool
  counted : Bool
deriving DecidableEq, Repr

/-- The record of a stall of slot `c` of which nothing has been recorded. -/
def Stall.blank (c : Nat) : Stall := ⟨c, 0, false, [], false, false, false⟩

/-- Where a pier stands in its bundle stream: the number of the bundle that comes next, its slot, and the loops that it is in,
the innermost first, each with its first and last bundle and the passes left (R295, R298). -/
structure Cursor where
  bundle : Nat
  slot : Nat
  loops : List (Nat × Nat × Nat)
deriving DecidableEq, Repr

/-- What a pier holds beside its registers: the slots in which its drain path is occupied (R93), the vector and mask
registers (R146) with the slots from which results on their way may be read (register 0 to 63, mask 64 to 71), the tiles
that VSTs are building (R147), the open statistics tiles (R153), the lines of the pier cache (R178), the open pair of
the update engine and its latched scalars by group (R352, R353), its open loops, the innermost first (R298), the grants in the
quota window by 64 · requester + port (R164), the claims of the checks that have passed (R166), what it records of a stall
(R302), its place in the bundle stream (R289), the last slot in which its work went on, whether after its HALT a
failed check or a copy has kept its work waiting (R578), and the JOINT it waits at with
the record it names (R305) or the BARRIER with its mask (R306), whether its waiting TACQ has been counted as an overdraft
(R327), and the tokens that a RESUME has still to claim for it (R331). -/
structure Pier where
  pathFrom : Nat
  pathTo : Nat
  vregs : NMap F32
  masks : NMap (BitVec 128)
  vready : List (Nat × Nat)
  builds : List Build
  stats : List Stats
  cache : List CacheLine
  upd : UpdPair
  scalars : List (List F32)
  loops : List LoopRec
  grants : NMap Nat
  claims : List Claim
  stall : Option Stall
  cursor : Cursor
  lastPart : Nat
  haltHeld : Bool
  atJoint : Option (Option Nat)
  atBarrier : Option (BitVec 8 × Bool)
  overdrawn : Bool
  owing : Nat
deriving DecidableEq, Repr

/-- A pier as it starts. -/
def Pier.init : Pier :=
  ⟨0, 0, [], [], [], [], [], [], UpdPair.init, [], [], [], [], none, ⟨0, 0, []⟩, 0, false, none, none, false, 0⟩

/-- An error that the word of row `row` of a stream meets on a carriageway: the pier at whose entry it is there first, or with `arch`
the arch of that pier whose capture is the first to meet it, and the bits of the 19 that differ (R114, R131; log 12). -/
structure RingUpset where
  row : Nat
  pier : PierIx
  arch : Option ArchIx
  bits : BitVec 19
deriving DecidableEq, Repr

/-- A stream of tiles that an INJECT places on a carriageway (R120, R122): row `i` of the stream is captured at travel
position q in slot `start + 57 + q + i`, with ROW `i mod 64` and TSEQ `i / 64` (R114). `total` is the TILES of the INJECT, and
`heads` holds of each tile the TILE_SCALE and the STEP_TAG that its FRAG fields carry, and `upsets` are the errors that its words
meet on the way. -/
structure RingStream where
  seg : SegIx
  cwy : Cwy
  start : Nat
  exit : Bool
  fmt : Fmt
  total : Nat
  rows : List RingRow
  heads : List (F32 × BitVec 32)
  upsets : List RingUpset
deriving DecidableEq, Repr

/-- What an instruction computes over the rows of tiles that it keeps: VSTAT in a mode over L tiles for each half of its rows (R152), or
VSTATC in NORM or SOFTMAX on a record group (R154). -/
inductive StatOp where
  | stat (mode l : Nat)
  | combine (softmax : Bool) (group : Nat)
deriving DecidableEq, Repr

/-- A VSTAT or VSTATC in progress: its issue slot, what it computes, its tiles with their format, rows `lo` to `lo + span - 1` of each
at `per` rows a cycle, the region of its records, EPS and np, its first free value, its cycles (R152, R155), and the rows read so
far. -/
structure StatRun where
  start : Nat
  op : StatOp
  src : RegionIx
  fmt : Fmt
  ixs : List Nat
  lo : Nat
  span : Nat
  per : Nat
  stats : RegionIx
  eps : F32
  np : F32
  free : Nat
  cycles : Nat
  rows : List Row
deriving DecidableEq, Repr

/-- A drain in progress (R90): its issue slot, its descriptor, BASE, PITCH and CLEAR, the reserved slot `idx` of its region, its
use of the stream (R360) and the first free value it draws, the STEP_TAG of its tile, the rows read for A and the rows read so
far, and whether a poisoned entry was read (R69). -/
structure DrainRun where
  start : Nat
  d : DrainDesc
  base : Nat
  pitch : Nat
  clear : Bool
  region : RegionIx
  idx : Nat
  use : Nat
  free : Nat
  step : Nat
  xa : List (List F32)
  xe : List (List F32)
  bad : Bool
deriving DecidableEq, Repr

/-- A pass in progress (R84, R99, R122): its arch, its issue slot, its descriptor with the output width W (R82), where a feeder
pass reads, and of the tile that it is taking its data index, TILE_SCALE and TSEQ (R123). -/
structure PassRun where
  a : ArchIx
  start : Nat
  d : PassDesc
  width : Nat
  region : RegionIx
  off : Nat
  keep : Bool
  idx : Nat
  scale : F32
  tseq : Option Nat
deriving DecidableEq, Repr

/-- Work of a scheduled instruction that goes on after its issue slot. Each part of it belongs to one slot. -/
inductive WorkKind where
  /-- The row reads of a LOADS, the tile at data index `idx` (R77); `t` holds what is read. -/
  | load (a : ArchIx) (region : RegionIx) (idx : Nat) (keep : Bool) (t : Tile)
  /-- The last row of a LOADS is written: the grid holds the tile (R78). -/
  | loadEnd (a : ArchIx) (t : Tile)
  /-- The rows of a pass, read by the feeder or captured on a carriageway (R84, R99, R122). -/
  | pass (x : PassRun)
  /-- A1 of a row (R98): its data and side-band meet the grid; `base` is the first entry that it updates, and `last` says that
  the row is the pass's last. -/
  | rowDot (x : PassRun) (base : Nat) (last : Bool) (row : RingRow)
  /-- A6 of a row: its entries are read and their ECC is checked (R88). -/
  | rowRead (x : PassRun) (base : Nat) (last : Bool) (ys : List F32)
  /-- A8 of a row: its entries are written (R86). -/
  | rowWrite (x : PassRun) (base : Nat) (last : Bool) (ys : List F32)
  /-- The rows of an INJECT issued in slot `start`; `idx` is the data index of the tile that it is reading (R120). -/
  | inject (start : Nat) (seg : SegIx) (c : Cwy) (region : RegionIx) (fmt : Fmt) (exit : Bool) (off : Nat) (keep : Bool)
      (idx : Nat)
  /-- The last row of the stream injected in slot `start` has passed the tail (R122). -/
  | streamEnd (seg : SegIx) (c : Cwy) (start : Nat)
  /-- The words of the stream injected in slot `start` enter piers: their parity is checked there (R114, R131). -/
  | ringEntry (seg : SegIx) (c : Cwy) (start : Nat)
  /-- The arrival at the tail of the rows of tile `tile` of the stream injected in slot `start` (R129); `idx` is the slot reserved
  for the tile. -/
  | exitTile (seg : SegIx) (c : Cwy) (start tile : Nat) (idx : Nat)
  /-- The releases of a RELEASE (R171). -/
  | release (region : RegionIx)
  /-- The read of a tile of a region has ended; with `rel` the tile at HEAD is then released (R171). -/
  | readEnd (region : RegionIx) (rel : Bool)
  /-- A FLIP takes effect (R174). -/
  | flip (region : RegionIx)
  /-- The reads of a DRAIN, a part for each read cycle (R90). -/
  | drain (a : ArchIx) (x : DrainRun)
  /-- The clears of a ZERO, one group of entries a cycle from `base` (R89). -/
  | zero (a : ArchIx) (base count : Nat)
  /-- Rows of the tile in slot `k` are written by a requester: drain 5, vector unit 4 (R163); `ports` take a beat for it. -/
  | put (req k : Nat) (rows : List (Nat × Row)) (ports : List Nat)
  /-- The row reads of a VSTAT or VSTATC (R152, R155). -/
  | stat (x : StatRun)
  /-- The end of a VSTAT or VSTATC: its records are appended (R153). -/
  | statEnd (x : StatRun)
  /-- The row reads of a VTRANS over the tiles at data indices `ixs` of `src`; the results land in the reserved slots `outs`
  (R149). -/
  | transpose (src dst : RegionIx) (fmt : Fmt) (ixs outs : List Nat) (keep : Bool) (ts : List Tile)
  /-- The landing of a produced tile in the reserved slot `idx` of a region; with `whole` its data rows are written then, without
  it they have been written before. -/
  | land (region : RegionIx) (idx : Nat) (tile : Tile) (whole : Bool)
  /-- The reads of a UPD of `total` tiles issued in slot `start`, 64 elements a cycle, with the step stamped into its descriptor
  (R343, R346); `bad` says that the weight tile being read failed a check. -/
  | upd (start total stamp : Nat) (d : UpdDesc) (ixs : List Nat) (bad : Bool)
  /-- The writes of the elements of cycle `cycle` of weight tile `tile` of a UPD: weights, momentum and shadow (R343). -/
  | updWrite (total tile cycle : Nat) (d : UpdDesc) (bad : Bool) (w m sh : List Nat)
  /-- The end of a UPD run (R343). -/
  | updEnd
  /-- The tokens of a halted pier return to its span (R331). -/
  | tokensBack
deriving DecidableEq, Repr

/-- Why a check fails: the row of R302, and for region items the regions, each with, where a tile is missing, its data index and
whether it waits for a refetch (R208). -/
structure Late where
  row : Nat
  regions : List (RegionIx × Option (Nat × Bool))
deriving DecidableEq, Repr

/-- The verdict of a slot's check: ready, or the first item that is not (R301). -/
abbrev Verdict := Option Late

/-- One instruction's remaining work: its pier, the slot in which its next part is due, whether that part's slot has
been checked and with what verdict (R301, R577), whether the check found a stale tile (R207), whether it has stalled its domain,
the parts done and the parts left. A part comes one slot after the other. -/
structure Work where
  pier : PierIx
  due : Nat
  verdict : Option Verdict
  stale : Bool
  late : Bool
  done : Nat
  left : Nat
  kind : WorkKind
deriving DecidableEq, Repr

/-- What an approach engine keeps of a gang, by the number of its member 0: the next tile of the walk and the tiles
reserved and not yet released (R190, R210). -/
structure Gang where
  next : Nat
  reserved : Nat
deriving DecidableEq, Repr

/-- A gang that has not started. -/
def Gang.init : Gang := ⟨0, 0⟩

/-- A scheduled instruction that a stalled domain holds; `failed` says that its own slot failed its check (R301). -/
structure Held where
  failed : Bool
  instr : Instr
deriving DecidableEq, Repr

/-- An entry of a gate's watch table (R201), in 128 B units. -/
structure WatchEntry where
  pier : Nat
  slot : Nat
  kind : Nat
  gen : BitVec 2
  lo : Nat
  hi : Nat
deriving DecidableEq, Repr

/-- Who waits for the completion of a write at a gate (R225). -/
inductive Writer where
  /-- The run of a copy descriptor (R274). -/
  | copy (p : PierIx) (desc : Fin 8)
  /-- A gate access that names no further agent. -/
  | access (addr : Nat)
  /-- The move of the extent of a home-table entry (R266). -/
  | move (entry : Nat)
  /-- A REMOTE_WRITE, by its sender, tag and window (R278, R279). -/
  | remote (src tag window : Nat)
  /-- A host request on Juwire, by its tag (R442). -/
  | host (tag : Nat)
deriving DecidableEq, Repr

/-- A stale notice on its way to a pier (R203), the write that waits for its acceptance, and the address at which that write
overlaps the entry's range. -/
structure StaleNotice where
  pier : PierIx
  slot : Nat
  gen : BitVec 2
  writer : Writer
  addr : Nat
deriving DecidableEq, Repr

/-- The bursts that each class has used in a channel's frame (R228). -/
structure Frame where
  reads : Nat
  writes : Nat
  remotes : Nat
deriving DecidableEq, Repr

/-- A frame that begins. -/
def Frame.init : Frame := ⟨0, 0, 0⟩

/-- A repair that waits for its window: OP of REPAIR_CTRL with the row (R240-R242). -/
structure Repair where
  op : Nat
  channel : Nat
  bank : Nat
  row : Nat
deriving DecidableEq, Repr

/-- A spare row that a hard repair uses for good (R239). -/
structure HardRepair where
  channel : Nat
  bank : Nat
  row : Nat
  spare : Nat
deriving DecidableEq, Repr

/-- What a gate holds beside its registers: its frames by channel (R228), the bursts that wait, oldest first, by channel
and class (R229), the tracker of corrected errors, the row whose last error is oldest first: channel, bank, row and tally
(R238), the next codeword of the scrub walk (R237), the repair that waits (R240), the hard repairs (R239), and the last
temperature readings, newest first, with the row of the table of R231 in force (R232). -/
structure Gate where
  frames : NMap Frame
  waiting : List (Nat × Nat)
  tracker : List ((Nat × Nat × Nat) × Nat)
  scrub : Nat
  repair : Option Repair
  hard : List HardRepair
  readings : List Nat
  heat : Nat
deriving DecidableEq, Repr

/-- A gate as it starts. -/
def Gate.init : Gate := ⟨[], [], [], 0, none, [], [], 0⟩

/-- A directory record (R261). -/
structure ObjRec where
  valid : Bool
  pooled : Bool
  mirror : Bool
  perm : Nat
  extentLog2 : Nat
  first : Nat
  count : Nat
  size : Nat
deriving DecidableEq, Repr

/-- A record with every field at its default. -/
def ObjRec.init : ObjRec := ⟨false, false, false, 0, 21, 0, 1, 1⟩

/-- A home-table entry (R262). -/
structure HomeEntry where
  valid : Bool
  tier : Nat
  moving : Bool
  poison : Bool
  module : Nat
  loc : Nat
  backing : Nat
  age : Word
deriving DecidableEq, Repr

/-- An entry with every field at its default. -/
def HomeEntry.init : HomeEntry := ⟨false, 0, false, false, 0, 0, 0, 0⟩

/-- A window context (R276). -/
structure Window where
  isOpen : Bool
  rd : Bool
  wr : Bool
  retired : Bool
  object : Nat
  base : Nat
  length : Nat
  epoch : BitVec 32
  source : Nat
deriving DecidableEq, Repr

/-- A closed window at an epoch (R281). -/
def Window.closed (epoch : BitVec 32) : Window := ⟨false, false, false, false, 0, 0, 128, epoch, 0xFFFF⟩

/-- A parapet over the 128 B units `lo` to `hi - 1` of an object (R367, R373). -/
structure Parapet where
  kind : Nat
  object : Nat
  lo : Nat
  hi : Nat
deriving DecidableEq, Repr

/-- A part of a tile in memory: its kind (0 data row, 1 side-band, 2 extension; R201), its row, its offset in the object,
and where it lies (R196): a device address, or an offset in a remote window. -/
structure Piece where
  kind : Nat
  row : Nat
  offset : Nat
  addr : Nat
deriving DecidableEq, Repr

/-- A request of a tag (R196): its pieces lie one after another. `window` is the module, window and epoch of a remote
source (R282). -/
structure Request where
  pieces : List Piece
  window : Option (Nat × Nat × BitVec 32)
  answered : Bool
deriving DecidableEq, Repr

/-- Who a tag works for: a stream of the approach engine (R195) or a copy descriptor (R274). -/
inductive TagOwner where
  | stream (n : Fin 16)
  | copy (d : Fin 8)
deriving DecidableEq, Repr

/-- A transfer tag (R195): the tile it carries, the data index and slot it was reserved, the generation of its fetch, its
attempt number (R198), whether it waits for a translation (R263), the watch entries that it still waits for, by gate (R206),
the home entries it was translated through (R264), its requests, and the first fault with the faulting object's offset
(R199). -/
structure Tag where
  pier : PierIx
  num : Nat
  owner : TagOwner
  tile : Nat
  region : RegionIx
  idx : Nat
  slot : Nat
  gen : BitVec 2
  refetch : Bool
  attempt : Nat
  waits : Bool
  wants : List (Nat × WatchEntry)
  homes : List Nat
  requests : List Request
  fault : Option (Code × Nat)
deriving DecidableEq, Repr

/-- Why an extent moves (R266). -/
inductive MoveCause where
  /-- MOVE_OBJECT of the command in a mailbox slot. -/
  | command (slot : Nat)
  /-- Eviction (R270). -/
  | evict
  /-- Demand bring-up (R271). -/
  | bringUp
deriving DecidableEq, Repr

/-- How far a move is (R266): it waits for its turn, its extent is marked MOVING, its tiles are copied, or its extent has its new home
and the freeing of the old range is still to be accepted (R203). -/
inductive MoveStage where
  | queued
  | marked
  | copied
  | freed
deriving DecidableEq, Repr

/-- A move of one extent (R266), with whether a tile read with an uncorrectable error has been written to host memory (R268). -/
structure Move where
  object : Nat
  extent : Nat
  tier : Nat
  loc : Nat
  cause : MoveCause
  stage : MoveStage
  lost : Bool
deriving DecidableEq, Repr

/-- A run of a copy descriptor (R274): whether it runs, the next tile, the tile of the consuming half read next, and the
first fault recorded with its object offset. -/
structure CopyRun where
  running : Bool
  next : Nat
  fault : Option (Code × Nat)
deriving DecidableEq, Repr

/-- A descriptor that has not run. -/
def CopyRun.init : CopyRun := ⟨false, 0, none⟩

/-- The link layer of a port (R378-R385): the next SEQ to be sent, the flits kept for retry, oldest first, the SEQ expected,
whether a DATA flit has been accepted since START, whether DATA flits are discarded until the expected one arrives, the
credits of each VC, the flits waiting to be sent, each with the port and VC whose receive buffer it holds until then (R391), the
resends in succession without progress, the message bytes received on each VC with their flits, the receive buffers freed on each VC and
not yet returned, the last HELLO of the neighbour, whether an EXCHANGE conflict waits for its pause to end, the flits that wait behind
a forwarded message that owns their VC (R391), whether a 4-wide link runs on lanes 4 to 7 (R380), whether an acknowledgement is due, and
the flits sent since the last NULL (R382). -/
structure Link where
  next : Nat
  retry : List Flit
  expect : Nat
  accepted : Bool
  discarding : Bool
  credits : List Nat
  queue : List (Flit × Option (Nat × Nat))
  tries : Nat
  rx : List (List Byte × Nat)
  owed : List Nat
  partner : Option Hello
  clash : Bool
  behind : List (Flit × Option (Nat × Nat))
  upper : Bool
  ackDue : Bool
  sinceNull : Nat
deriving DecidableEq, Repr

/-- A link that is down. -/
def Link.init : Link :=
  ⟨0, [], 0, false, false, List.replicate 8 0, [], 0, List.replicate 8 ([], 0), List.replicate 8 0, none, false, [],
    false, false, 0⟩

/-- A message that is forwarded while it arrives (R391): its port and VC, the output port and VC that it owns, the hop record that its
PROBE still gets, and whether the output is lost, so that the rest of it is discarded. -/
structure Cut where
  port : Nat
  vc : Nat
  out : Nat
  outVc : Nat
  hop : Option Hop
  dead : Bool
deriving DecidableEq, Repr

/-- A MIRROR_WRITE as the log and the reorder buffer hold it (R413, R416). -/
structure MirrorWrite where
  mseq : Nat
  object : Nat
  offset : Nat
  data : List Byte
  poison : Bool
deriving DecidableEq, Repr

/-- Who waits for the READ_REPLY of a remote request (R396). -/
inductive RemoteOwner where
  /-- Request `req` of a tag. -/
  | fetch (p : PierIx) (num : Nat) (owner : TagOwner) (req : Nat)
  /-- A write of a copy run, from tag `num`, of the object offset (R275). -/
  | write (p : PierIx) (d : Fin 8) (num offset : Nat)
deriving DecidableEq, Repr

/-- A remote request that is not answered (R395). -/
structure Remote where
  owner : RemoteOwner
  msg : Msg
deriving DecidableEq, Repr

/-- A packet that a mailbox slot has accepted (R446, R449): its opcode, TAG, SEQ and NOTIFY, its parameters, and whether a
long command has begun its work. -/
structure Packet where
  opcode : Nat
  tag : Nat
  seq : Nat
  note : Bool
  params : List Byte
  begun : Bool
  time : BitVec 64
deriving DecidableEq, Repr

/-- A mailbox slot (R446, R447): the SEQ seen last, whether the header line is shared, notified, invalidated again while its packet runs,
the packet that runs, the last reply and whether its write is complete (R451), whether a SEQ has been seen since ENABLE was set, and
whether the read of the header that ENABLE asks for is still to come. -/
structure MailSlot where
  seen : Nat
  shared : Bool
  notified : Bool
  again : Bool
  running : Option Packet
  reply : List Byte
  written : Bool
  known : Bool
  due : Bool
deriving DecidableEq, Repr

/-- A slot that has seen nothing. -/
def MailSlot.init : MailSlot := ⟨0, false, false, false, none, [], true, false, false⟩

/-- What a device request on Juwire is for (R439). -/
inductive JwKind where
  /-- The status reply of a mailbox slot (R451). -/
  | reply (slot : Nat)
  /-- An event record (R465). -/
  | record
  /-- The message-signalled interrupt (R467). -/
  | msi
  /-- A write to host memory of an engine. -/
  | data
  /-- A read of so many bytes of host memory, shared or not; it is answered with the command that makes it (log 7). -/
  | read (n : Nat) (shared : Bool)
deriving DecidableEq, Repr

/-- A record of the journal, by area (R508). -/
inductive JRecord where
  /-- An entry of the fault log with the boot count (R463). -/
  | fault (n : Notice) (boot : Nat)
  /-- The fault-log entry of a supply reset, with the boot count (R504). -/
  | supplyReset (boot : Nat)
  /-- A soft repair of a gate's row: with `on` false it is released (R242). -/
  | softRepair (gate : Nat) (r : HardRepair) (on : Bool)
  /-- A keystone record, own or of the mate (R421). -/
  | keystone (own : Bool) (step mseq mate : Nat) (time : Word) (boot : Nat)
  /-- A brace snapshot: the words that R509 names, in its order. -/
  | brace (words : List Word)
  /-- A time correlation (R495). -/
  | time (host ticks : Word) (boot step : Nat)
  /-- A record of section 12 or 13 of a launched image with the step of its first use (R352, R357). -/
  | run (ty : Nat) (bytes : List Byte) (step : Nat)
  /-- A pier in the pier map: 0 spare, 1 admitted, 2 fenced, 3 failed (R455, R534). -/
  | pierMap (p : PierIx) (v : Nat)
  /-- A recorded ring break, or the clearing of one (R131, R532). -/
  | ringBreak (p : PierIx) (on : Bool)
  /-- The soft dot-unit repairs of an arch, by its UNIT_REPAIR (R530). -/
  | unitRepair (arch : Nat) (w : Word)
  /-- A soft deck-word repair: the pier, the bank and the word (R530). -/
  | deckRepair (p : PierIx) (bank word : Nat)
  /-- A test of a pier makes its soft deck-word repairs again: those of before are no more (R530). -/
  | deckClear (p : PierIx)
deriving DecidableEq, Repr

/-- The bytes of a record in the NAND that its CRC covers, of which the spec gives no layout (R508; log 175). -/
opaque recordImage : JRecord → List Byte

/-- A record of the journal with its CRC-32C (R508). -/
structure JEntry where
  record : JRecord
  crc : BitVec 32
deriving DecidableEq, Repr

/-- KEY_SLOT and SVN of an image that the module was made with (R545). -/
structure MadeImage where
  keySlot : Nat
  svn : Nat
deriving DecidableEq, Repr

/-- What a pier test is for (R524, R533, R534, R514). -/
inductive TestFor where
  | bist (slot : Nat)
  | admission (slot : Nat)
  | replace (slot : Option Nat) (fencedPier : PierIx)
  | park
deriving DecidableEq, Repr

/-- A pier test that runs (R532). -/
structure PierTest where
  pier : PierIx
  cause : TestFor
deriving DecidableEq, Repr

/-- A module or stack test that runs (R524): its scope, its target, the mailbox slot of its command, whether brace or a
trip has stopped it (R537), and for how many ticks it has run (R525). -/
structure ModTest where
  scope : Nat
  target : Nat
  slot : Nat
  paused : Bool
  ticks : Nat
deriving DecidableEq, Repr

/-- Where the module stands between power-on and release (R515, R516, R548). -/
inductive Phase where
  /-- No power. -/
  | off
  /-- In reset, with the BOOT cause (R480): no command is taken. With `held` the supply holds the reset (R504). -/
  | reset (cause : Nat) (held : Bool)
  /-- The tollhouse image has booted: it answers the mailbox and the sideband, and the module is not released (R515, R516). -/
  | booted (cause : Nat)
  /-- No firmware image verifies: only the sideband answers (R548). -/
  | noImage
  /-- Released. -/
  | released
deriving DecidableEq, Repr

/-- What the tollhouse keeps of the pair (R409-R432): the mate's boot nonce; the map from the object that a MIRROR_WRITE names to the local
copy, and from an own object to the one that its MIRROR_WRITEs name; the mate's objects with their sizes as MAP gave them; the mate's FORM
(step counter, entries, kind); whether the checks of R409 have passed; the extents that the bulk copy has still to send, by object and
offset; the MSEQ at its end, and that of the mate; the reorder buffer; the own STEP_COMMIT that waits (step, MSEQ, and whether by keystone);
a keystone of the mate that waits (MSEQ, step) and the MSEQ of the last one acknowledged; the step of an announced handover; the promoted
copies that a rejoin returns (mate object, local copy); whether PAIR_MATE_CHANGED has been raised; whether a MIRROR_WRITE of a rejoin has
been discarded (R418); and what the mate's own checks of R409 find (log 74). -/
structure Pairing where
  nonce : Word
  copies : List (Nat × Nat)
  names : List (Nat × Nat)
  sizes : List (Nat × Nat)
  form : Option (Nat × Nat × Nat)
  checked : Bool
  bulk : List (Nat × Nat)
  sent : Option Nat
  mateSent : Option Nat
  reorder : List MirrorWrite
  commit : Option (Nat × Nat × Bool)
  mateKey : Option (Nat × Nat)
  mateMseq : Nat
  handover : Option Nat
  returns : List (Nat × Nat)
  mateChanged : Bool
  faulted : Bool
  mateFinds : Option Nat
deriving DecidableEq, Repr

/-- No pair. -/
def Pairing.init : Pairing :=
  ⟨0, [], [], [], none, false, [], none, none, [], none, none, 0, none, [], false, false, none⟩

/-- The settings of the event queue that HELLO gives (R455, R465-R467). -/
structure EventQueue where
  base : Nat
  headLine : Nat
  msiAddr : Nat
  msiData : Nat
deriving DecidableEq, Repr

/-- What the module sends, newest first in `State.outbox`. -/
inductive OutMsg where
  /-- A WR of the module to host memory: its TAG, host physical address and data (R439, R441). -/
  | jwWrite (tag addr : Nat) (data : List Byte)
  /-- A RD, or with `shared` a RD_S, of the module: its TAG, host physical address and LENGTH (R439, R440). -/
  | jwRead (tag addr len : Nat) (shared : Bool)
  /-- The CPL to a host request: its TAG, STATUS and data (R442). -/
  | jwCpl (tag status : Nat) (data : List Byte)
  /-- SNP_ACK for a host line, with the TAG of its SNP_INV (R439, R440). -/
  | snpAck (tag addr : Nat)
  /-- What the controller of the sideband reads: STATUS and DATA (R571). -/
  | sbReply (status : Nat) (data : List Byte)
  /-- A sideband transfer is not acknowledged (R571). -/
  | sbNack
  /-- The low 16 bits of the provisional identifier of the sideband target (R570). -/
  | sbIdentity (low : BitVec 16)
  /-- A gate's answer to an access: the address, the data of a read, and the poison flag (R225, R235). -/
  | gate (addr : Nat) (data : List Byte) (poison : Bool)
  /-- What firmware reads of EVT_PRESENT (R471, R482). -/
  | firmware (value : Word)
  /-- A flit on a port (R382). -/
  | flit (port : Nat) (f : Flit)
  /-- A HELLO LINK flit on a port: its header, and what it carries, of which the spec gives no layout (R379, R382). -/
  | hello (port : Nat) (f : Flit) (h : Hello)
  /-- A message to be posted: the answer to a REMOTE_WRITE once it is complete (R396). -/
  | reply (m : Msg)
deriving DecidableEq, Repr

/-- What a save holds of a logical pier (R307): the bytes of its deck store and side store and its register words, each by
its place in the pier, its spandrel entries by arch and index, and the state of its arches, regions, slots, gangs and copy
runs. -/
structure SavedPier where
  bytes : NMap Byte
  regs : NMap Word
  entries : NMap Entry
  archs : NMap Arch
  regions : NMap Region
  slots : NMap SlotRec
  gangs : NMap Gang
  runs : NMap CopyRun
  pier : Pier
  held : Nat
deriving DecidableEq, Repr

/-- A remote access that has passed the checks of its window and waits: its message, the object and the BASE of the window as they stood
then (R278-R280), and the ranges of the stacks at whose gates it waits, none where it waits for a translation. -/
structure WindowWait where
  msg : Msg
  object : Nat
  base : Nat
  ranges : List (Nat × Nat)
deriving DecidableEq, Repr

/-- A warm reset to come (R454): how its boot will start, the slots whose last replies are being written, and the time of the reset, once
they are complete. -/
structure WarmReset where
  toll : TollBoot
  slots : List Nat
  due : Option Word
deriving DecidableEq, Repr

/-- An access that waits: a request of the host or of a gate, as its command, or a remote access. -/
inductive Waiting where
  | request (q : Instr)
  | remote (w : WindowWait)
deriving DecidableEq, Repr

/-- A save (R307): the object that holds it, the image, pier count and layout it requires (R308), the image by the bytes that its
signature covers, its piers in logical order, and the controller state of its header. -/
structure Save where
  object : Nat
  image : List Byte
  layout : Word
  ext : Word
  piers : List SavedPier
  joint : Nat
  step : Nat
  tokenBase : Nat
  ramp : Nat
deriving DecidableEq, Repr

/-- A TACQ or TREL whose slot has issued: its span, pier and slot, the cycle since LAUNCH, the tokens moved, whether they were released, and
whether the TREL releases all (R324, R328). -/
structure TokenMove where
  span : Nat
  pier : PierIx
  slot : Nat
  cycle : Nat
  amount : Nat
  released : Bool
  all : Bool
deriving DecidableEq, Repr

/-- The state of the module. -/
structure State where
  /-- The commands that are waiting, first in, first out (the model's own field). -/
  pending : List Instr
  /-- What the module has sent, newest first (the model's own field). -/
  outbox : List OutMsg
  /-- How many free values have been drawn (the model's own field). -/
  freeCtr : Nat
  /-- Every register (R14). -/
  regs : NMap Word
  /-- The stacks, the deck-store windows and host memory (R10). -/
  mem : NMap Byte
  /-- The scheduled instructions that a stalled domain holds, in issue order (R301). -/
  held : List Held
  /-- The work of scheduled instructions that is in progress. -/
  flight : List Work
  /-- Physical pier of each logical pier of the binding (R25). -/
  binding : List PierIx
  /-- The step number that the last LAUNCH carried, stamped into every UPD (R346). -/
  launchStep : Nat
  /-- The thermal and the supply throttle factor, F_t and F_p (R329). -/
  factorT : Nat
  factorP : Nat
  /-- RAMP of the token table in force (R323). -/
  ramp : Nat
  /-- BUDGET_W of the loaded image's header (R287). -/
  imageBudget : Nat
  /-- The object that holds the loaded image (R289). -/
  imageObject : Nat
  /-- The saves of pre-empted bindings (R307). -/
  saves : List Save
  /-- Is the launch that was pre-empted or that runs an evaluation (R369)? -/
  evaluating : Bool
  /-- Is STEP_COMMIT refused until a launch that is no evaluation completes (R369)? -/
  commitBarred : Bool
  /-- The segments under the loopback test (R132). -/
  loopbacks : List SegIx
  /-- The mailbox slots (R445). -/
  mail : NMap MailSlot
  /-- The device requests on Juwire that have no CPL yet: TAG and purpose (R442), and the next TAG. -/
  jwBusy : List (Nat × JwKind)
  jwTag : Nat
  /-- Device writes that wait because 4,096 requests are outstanding, with their address and data (R439). -/
  jwHeld : List (JwKind × Nat × List Byte)
  /-- The slots with a notification, in the order of their invalidations (R446). -/
  mailOrder : List Nat
  /-- The slots in the order in which their packets were accepted (R452). -/
  cmdOrder : List Nat
  /-- The TACQ and TREL of the last 32 cycles, newest first (R328). -/
  tokenMoves : List TokenMove
  /-- The piers that are admitted and not fenced (R2, R4). -/
  admitted : List PierIx
  /-- The fenced piers (R4). -/
  fenced : List PierIx
  /-- The piers that are fenced with REPLACE at the next step boundary (R480). -/
  fenceDue : List PierIx
  /-- Pier state beside the registers, by physical pier. -/
  piers : NMap Pier
  /-- Arch state beside the registers, by 4 * pier + arch. -/
  archs : NMap Arch
  /-- Spandrel entries, by (4 * pier + arch) * 65,536 + index (R83). -/
  spandrel : NMap Entry
  /-- Region pointers, by 64 * pier + region. -/
  regions : NMap Region
  /-- The bits in error that ECC finds at the next read, by the 64-bit word of the deck stores: device address / 8 (R162). -/
  deckFlips : NMap Nat
  /-- Slot records, by 1,024 * pier + slot. -/
  slots : NMap SlotRec
  /-- Approach gangs, by 16 * pier + stream of member 0. -/
  gangs : NMap Gang
  /-- Slots that wait for a refetch, oldest first: pier and slot (R195, R208). -/
  refetches : List (PierIx × Nat)
  /-- The valid entries of the watch tables, by 256 * gate + entry (R201). -/
  watch : List (Nat × WatchEntry)
  /-- The stale notices on their way, oldest first (R203). -/
  staleNotices : List StaleNotice
  /-- The writes that wait for their notices, with the answer that each then gives (R225). -/
  openWrites : List (Writer × OutMsg)
  /-- Gate state beside the registers. -/
  gates : NMap Gate
  /-- The 64 B blocks of the stacks that hold stored poison, by address / 64 (R236). -/
  stored : NMap Bool
  /-- Symbols in error that the next burst at a 64 B block of the stacks meets, in its cells or on its transfer, by address / 64
  (R234). -/
  flaws : NMap Nat
  /-- The transfer tags in use, in the order of their allocation (R195, R274). -/
  tags : List Tag
  /-- The member 0 of the gang that each approach engine served last (R195). -/
  lastGang : NMap Nat
  /-- The object directory (R261). -/
  objects : NMap ObjRec
  /-- The home table (R262). -/
  homes : NMap HomeEntry
  /-- The window contexts (R276); every other window is closed at `startEpoch`. -/
  windows : NMap Window
  /-- The epoch at which every window starts (R281). -/
  startEpoch : BitVec 32
  /-- HOME_CFG in force: the value at the last frame assignment (R284). -/
  poolCfg : Word
  /-- The moves in progress and to come, in order (R266). -/
  moves : List Move
  /-- The pooled extents in host memory that a translation has found, oldest first, by entry (R271). -/
  bringUps : List Nat
  /-- The runs of the copy engines, by 8 * pier + descriptor (R274). -/
  runs : NMap CopyRun
  /-- The parapets in force (R367). -/
  parapets : List Parapet
  /-- The link layer of each port. -/
  links : NMap Link
  /-- The messages that are forwarded while they arrive (R391). -/
  cuts : List Cut
  /-- RING_TILEs that wait in a port for their entry region (R400), oldest first: the port, the flits whose buffers they
  hold, and the message. -/
  ringTiles : List (Nat × Nat × Msg)
  /-- The messages that this module has sent to itself, oldest first (R389). -/
  selfMsgs : List Msg
  /-- The next tag of a remote request. -/
  nextRemote : Nat
  /-- The remote requests that are not answered (R395, R396). -/
  remotes : List Remote
  /-- Remote accesses that have passed the checks of their window and wait for a translation, oldest first (R267). -/
  windowWaits : List WindowWait
  /-- The mirror log, oldest first (R413). -/
  mirrorLog : List MirrorWrite
  /-- Is this module the sender of a rejoin (R431)? -/
  rejoinSender : Bool
  /-- The objects that a rejoin sends beside the mirrored ones: the promoted copies (R429, R431). -/
  promoted : List Nat
  /-- Forwarded writes that wait for room in the log (R413). -/
  mirrorWaits : List (Writer × MirrorWrite)
  /-- The streams on the carriageways. -/
  ring : List RingStream
  /-- The notices queued at the event controller, oldest first; a level's queue is those of its level (R470). -/
  notices : List Notice
  /-- The notices taken and not completed, from the bottom of the priority stack (R471). -/
  taken : List Notice
  /-- Journal records whose writes are in progress, oldest first (R508). -/
  journalWrites : List JRecord
  /-- The journal, newest first (R508). -/
  journal : List JEntry
  /-- Where the module stands between power-on and release (R515). -/
  phase : Phase
  /-- The piers recorded as failed (R531). -/
  failed : List PierIx
  /-- The words of the deck stores that a soft repair or a fuse redirects: the pier, the bank, the word, and whether by a fuse
  (R530). -/
  deckMap : List (PierIx × Nat × Nat × Bool)
  /-- What the tollhouse keeps of the pair. -/
  pairing : Pairing
  /-- Was the last LAUNCH made with JOURNAL_OFF (R510)? -/
  journalOff : Bool
  /-- Has a LAUNCH or RESUME run since the boot (R506)? -/
  launchedOnce : Bool
  /-- The event queue that HELLO named (R465). -/
  queue : EventQueue
  /-- The records that wait to be written, oldest first, each with its SEQ (R464, R469). -/
  posted : List (Nat × Notice)
  /-- Is the BOOT record of the last reset still to come? No other record is written before it (R469). -/
  bootWait : Bool
  /-- Is the write of a record outstanding (R467)? -/
  recordOut : Bool
  /-- The records lost since the last overflow record (R468). -/
  lostRecords : Nat
  /-- The last two readings of each junction sensor in 0.25 °C, the latest first (R478). -/
  junction : NMap (Nat × Nat)
  /-- The readings in succession at which the clock step may rise (R490). -/
  coolReads : Nat
  /-- The readings in succession at or above 100 °C, and those at or below 97 °C (R329). -/
  hotTemps : Nat
  coolTemps : Nat
  /-- The averaging windows in succession at or below 97 % of the budget (R329). -/
  coolWindows : Nat
  /-- Does a hold-up measurement wait for the end of brace (R501)? -/
  measureWanted : Bool
  /-- The pier tests that run (R532). -/
  tests : List PierTest
  /-- The module or stack test that runs (R524). -/
  bist : Option ModTest
  /-- The piers admitted before park that are held out of admission until their test (R514). -/
  parked : List PierIx
  /-- A wake that waits for the end of brace, with its WAKE_SRC (R501, R512). -/
  wakeWanted : Option Nat
  /-- The gates that are out of self-refresh in doze (R513). -/
  openGates : List Nat
  /-- The time counter at brace entry (R502). -/
  braceAt : Option Word
  /-- Has the recovery level stood without a break (R502)? -/
  recovering : Bool
  /-- The images written to the NOR device, by slot: tollhouse A and B, gate A and B, port A and B (R547); a slot that is
  not listed holds what it was made with. -/
  nor : NMap (List Byte)
  /-- What the images that the module was made with carry, by slot of the NOR device (R545). -/
  madeImages : List MadeImage
  /-- The two copies of the boot record (R547). -/
  bootRecords : BootRecord × BootRecord
  /-- The tollhouse image that runs: 0 A, 1 B. -/
  running : Nat
  /-- The ports for which no port image verified at the boot (R548). -/
  noPorts : List Nat
  /-- The key hashes of the firmware slots FW0 and FW1, enrolled at manufacture (R544). -/
  firmwareKeys : NMap (List Byte)
  /-- The key hashes of the program slots (R544, R558). -/
  programKeys : NMap (List Byte)
  /-- The password banks that are written, the oldest first: salt and hash (R558). -/
  passwords : List (List Byte)
  /-- The debug-key banks that are written, the oldest first (R558). -/
  debugKeys : List (List Byte)
  /-- The challenge that is valid (R557). -/
  challenge : Option (List Byte)
  /-- Consecutive failures to unlock (R557). -/
  authFails : Nat
  /-- Is METHOD 1 and 3 refused without a check (R557)? -/
  authBarred : Bool
  /-- Has service access been opened since the boot (R555)? -/
  opened : Bool
  /-- The probes that are not answered: TAG, mailbox slot and T_SEND (R394). -/
  probes : List (Nat × Nat × Word)
  /-- The accesses that wait to be performed, in the order in which they came: requests of the host or of a gate that a stopped stack, the
  link or park holds (R231, R442), and remote accesses that wait at the gates (R224, R231). -/
  hostWaits : List Waiting
  /-- Δ of each expansion joint in steps (R491). -/
  deltas : NMap Int
  /-- Has REFCLK no edges (R486)? -/
  refLost : Bool
  /-- The piers of the binding that a fence has taken out of it: admitted again, they have no logical number (R533, R540). -/
  unnumbered : List PierIx
  /-- The NAND blocks that are retired (R508). -/
  retired : List Nat
  /-- Is Juwire in its low-power substate (R514)? -/
  jwAsleep : Bool
  /-- The warm reset to come (R454). -/
  warmReset : Option WarmReset
  /-- The routers of the die that have failed: pier and network (R30). -/
  routerFails : List (PierIx × Nat)
  /-- The dynamic address of the sideband target, once it is assigned (R570). -/
  sbAddress : Option Nat
  /-- The straps SA1 and SA0: 2 × SA1 + SA0 (R570). -/
  straps : Fin 4
deriving DecidableEq, Repr

/-- The state right after power is applied and before any command (R515): every register at its default, no pier
admitted, memory with nothing listed. -/
def State.reset : State where
  pending := []
  outbox := []
  freeCtr := 0
  regs := []
  mem := []
  held := []
  flight := []
  binding := []
  launchStep := 0
  factorT := 16
  factorP := 16
  ramp := 256
  imageBudget := 0
  imageObject := 0
  saves := []
  evaluating := false
  commitBarred := false
  loopbacks := []
  mail := []
  jwBusy := []
  jwHeld := []
  mailOrder := []
  cmdOrder := []
  jwTag := 0
  tokenMoves := []
  admitted := []
  fenced := []
  fenceDue := []
  piers := []
  archs := []
  spandrel := []
  regions := []
  deckFlips := []
  slots := []
  gangs := []
  refetches := []
  watch := []
  staleNotices := []
  openWrites := []
  gates := []
  stored := []
  flaws := []
  tags := []
  lastGang := []
  objects := []
  homes := []
  windows := []
  startEpoch := 0
  poolCfg := regInit .homeCfg 0
  moves := []
  bringUps := []
  runs := []
  parapets := []
  links := []
  cuts := []
  ringTiles := []
  selfMsgs := []
  nextRemote := 0
  remotes := []
  windowWaits := []
  mirrorLog := []
  rejoinSender := false
  promoted := []
  mirrorWaits := []
  ring := []
  notices := []
  taken := []
  journalWrites := []
  journal := []
  phase := .off
  failed := []
  deckMap := []
  pairing := Pairing.init
  journalOff := false
  launchedOnce := false
  queue := ⟨0, 0, 0, 0⟩
  posted := []
  bootWait := false
  recordOut := false
  lostRecords := 0
  junction := []
  coolReads := 0
  hotTemps := 0
  coolTemps := 0
  coolWindows := 0
  measureWanted := false
  tests := []
  bist := none
  parked := []
  wakeWanted := none
  openGates := []
  braceAt := none
  recovering := false
  nor := []
  madeImages := List.replicate 6 ⟨0, 0⟩
  bootRecords := (makeBootRecord 1 [0, 0, 0] none, makeBootRecord 0 [0, 0, 0] none)
  running := 0
  noPorts := []
  firmwareKeys := [(0, (List.finRange 48).map (Config.firmwareKey 0)), (1, (List.finRange 48).map (Config.firmwareKey 1))]
  programKeys := []
  passwords := []
  debugKeys := []
  challenge := none
  authFails := 0
  authBarred := false
  opened := false
  probes := []
  hostWaits := []
  deltas := []
  refLost := false
  unnumbered := []
  retired := []
  jwAsleep := false
  warmReset := none
  routerFails := []
  sbAddress := none
  straps := 0

end Sys2Proof.Machine
end

