-- ==== Sys2Proof/Machine/Ops.lean ====
section
/-! DEFINITION. The named operations over registers, memory, pier and arch state and stall domains that the meanings share. -/
namespace Sys2Proof.Machine

/-- The word of instance `i` of a register. -/
def State.reg (s : State) (r : RegName) (i : Nat) : Word := s.regs.look regDflt (regKey r i)

/-- Set the word of instance `i` of a register. -/
def State.setReg (s : State) (r : RegName) (i : Nat) (w : Word) : State :=
  { s with regs := s.regs.put regDflt (regKey r i) w }

/-- A register field's value. -/
def State.fld (s : State) (f : Fld) (i : Nat) : Nat := f.ofWord (s.reg f.reg i)

/-- Set a register field; a wider value is cut to the field. -/
def State.setFld (s : State) (f : Fld) (i : Nat) (v : Nat) : State := s.setReg f.reg i (f.place (s.reg f.reg i) v)

/-- Is a one-bit field set? -/
def State.flag (s : State) (f : Fld) (i : Nat) : Bool := s.fld f i != 0

/-- Count `n` more in a counter that stops at its all-ones value. -/
def State.bump (s : State) (f : Fld) (i n : Nat) : State := s.setFld f i (min (s.fld f i + n) (2 ^ f.width - 1))

/-- Count `n` more in a counter that wraps to zero after its all-ones value. -/
def State.wrapAdd (s : State) (f : Fld) (i n : Nat) : State := s.setFld f i (s.fld f i + n)

/-- What an unlisted byte of memory reads as: the spec gives no contents after power-on (DESIGN CHOICE, log 2). -/
def memDflt : Nat → Byte := fun _ => 0

/-- The byte of memory at an address. -/
def State.byte (s : State) (a : Nat) : Byte := s.mem.look memDflt a

/-- The `n` bytes of memory from an address upwards. -/
def State.bytes (s : State) (a n : Nat) : List Byte := s.mem.slice memDflt a n

/-- Write bytes to memory from an address upwards. A 64-bit word of a deck store that is written whole has its ECC written anew
(R162). -/
def State.writeBytes (s : State) (a : Nat) (bs : List Byte) : State :=
  { s with
    mem := s.mem.putRun memDflt a bs
    deckFlips := s.deckFlips.filter (fun e => !(a ≤ 8 * e.1 && 8 * e.1 + 8 ≤ a + bs.length)) }

/-- Where host memory begins in device space (R10, R441). -/
def hostBase : Nat := 0x800000000000

/-- The number that bytes spell, the first the least significant. -/
def leNat : List Byte → Nat
  | [] => 0
  | b :: t => b.toNat + 256 * leNat t

/-- The `n` bytes of a number, the least significant first. -/
def leBytes : Nat → Nat → List Byte
  | 0, _ => []
  | n + 1, v => BitVec.ofNat 8 v :: leBytes n (v / 256)

/-- The little-endian number of `n` bytes of memory. -/
def State.leAt (s : State) (a n : Nat) : Nat := leNat (s.bytes a n)

/-- Draw a free value: nothing constrains it. -/
def State.fresh (s : State) : Word × State := (Config.freeValue s.freeCtr, { s with freeCtr := s.freeCtr + 1 })

/-- Send a message. -/
def State.send (s : State) (m : OutMsg) : State := { s with outbox := m :: s.outbox }

/-- The time counter (R492). -/
def State.now (s : State) : Word := s.reg .timeNow 0

/-- The step counter (R36). -/
def State.stepNo (s : State) : Nat := s.fld Fld.STEP_COUNTER_STEP 0

/-- Pier state beside the registers. -/
def State.pier (s : State) (p : PierIx) : Pier := s.piers.look (fun _ => Pier.init) p.val

/-- Set pier state. -/
def State.setPier (s : State) (p : PierIx) (x : Pier) : State :=
  { s with piers := s.piers.put (fun _ => Pier.init) p.val x }

/-- The number of an arch: 4 · pier + arch. -/
def archIx (p : PierIx) (a : ArchIx) : Nat := 4 * p.val + a.val

/-- Arch state beside the registers. -/
def State.arch (s : State) (p : PierIx) (a : ArchIx) : Arch := s.archs.look (fun _ => Arch.init) (archIx p a)

/-- Set arch state. -/
def State.setArch (s : State) (p : PierIx) (a : ArchIx) (x : Arch) : State :=
  { s with archs := s.archs.put (fun _ => Arch.init) (archIx p a) x }

/-- A spandrel entry (R83). -/
def State.entry (s : State) (p : PierIx) (a : ArchIx) (i : Nat) : Entry :=
  s.spandrel.look (fun _ => Entry.zero) (archIx p a * 65536 + i)

/-- Set a spandrel entry. -/
def State.setEntry (s : State) (p : PierIx) (a : ArchIx) (i : Nat) (e : Entry) : State :=
  { s with spandrel := s.spandrel.put (fun _ => Entry.zero) (archIx p a * 65536 + i) e }

/-- Is the step lenient: step mismatches are counted and not raised (R287)? -/
def State.lenient (s : State) : Bool := s.fld Fld.SCHED_IMAGE_FLAGS 0 / 4 % 2 = 1

/-- The stall domain of a physical pier (R300, R314). -/
def State.domOf (s : State) (p : PierIx) : Dom :=
  let d := s.fld Fld.PCTL_STATUS_DOMAIN p.val
  if h : d < 8 then .seg ⟨d, h⟩ else .solo p

/-- The physical piers of a stall domain, in logical order (R300). -/
def State.domPiers (s : State) (d : Dom) : List PierIx := s.binding.filter (fun p => s.domOf p = d)

/-- The records of the journal, newest first. -/
def State.records (s : State) : List JRecord := s.journal.map JEntry.record

/-- Is the pier controller issuing slots (R314)? -/
def State.issuing (s : State) (p : PierIx) : Bool := s.fld Fld.PCTL_STATUS_STATE p.val = 2

/-- Is the pier's domain stalled (R314)? -/
def State.stalled (s : State) (p : PierIx) : Bool := s.fld Fld.PCTL_STATUS_STATE p.val = 3

/-- Set the pier-controller state of a list of piers. -/
def State.setPctl (s : State) (ps : List PierIx) (v : Nat) : State :=
  ps.foldl (fun s p => s.setFld Fld.PCTL_STATUS_STATE p.val v) s

/-- A domain resumes issue (R301). -/
def State.unstall (s : State) (d : Dom) : State := s.setPctl ((s.domPiers d).filter (fun q => s.stalled q)) 2

/-- Hold an instruction in a stalled domain (R301). -/
def State.hold (s : State) (failed : Bool) (i : Instr) : State := { s with held := s.held ++ [⟨failed, i⟩] }

/-- Add work to what is in progress. -/
def State.addWork (s : State) (w : Work) : State := { s with flight := s.flight ++ [w] }

end Sys2Proof.Machine
end

