-- ==== Sys2Proof/Machine/Flags.lean ====
section
/-! DEFINITION. Flags, events and faults: a W1C flag with its event (R463), notices and the fault log (R463, R470), the first fault of a
pier and of the step (R310, R315, R316), and contained faults (R310). -/
namespace Sys2Proof.Machine

/-- The journal write of a record begins (R508). -/
def State.journalise (s : State) (r : JRecord) : State := { s with journalWrites := s.journalWrites ++ [r] }

/-- The logical number shown with an event of a source: that of a physical pier, 0xFF otherwise (R462). -/
def State.logicalOf (s : State) (srcKind srcIndex : Nat) : Nat :=
  if srcKind = 1 then s.fld Fld.PCTL_STATUS_LOGICAL srcIndex else 0xFF

/-- Raise an event: a notice joins its level's queue of at most 256, or is counted in MERGED when the queue is full
(R470); an event of class 2 or above is also appended to the fault log (R463). -/
def State.notify (s : State) (c : Code) (cls level srcKind srcIndex detail : Nat) : State :=
  let n : Notice := ⟨c, cls, level, srcKind, srcIndex, s.logicalOf srcKind srcIndex, s.now, s.stepNo, detail, none⟩
  let s1 := if (s.notices.filter (fun m => m.level = level)).length < 256 then { s with notices := s.notices ++ [n] }
    else s.bump Fld.EVT_COUNT_MERGED 0 1
  if 2 ≤ cls then s1.journalise (.fault n (s.fld Fld.BOOT_COUNT_COUNT 0)) else s1

/-- Raise an event with the class and level of its code (R480). -/
def State.event (s : State) (c : Code) (srcKind srcIndex detail : Nat) : State :=
  s.notify c c.cls c.level srcKind srcIndex detail

/-- Set a W1C flag; its event is posted when the flag changes from 0 to 1 (R463). -/
def State.flagEvent (s : State) (f : Fld) (i : Nat) (c : Code) (srcKind srcIndex detail : Nat) : State :=
  if s.flag f i then s else (s.setFld f i 1).event c srcKind srcIndex detail

/-- The first fault of the step, and the step is failing (R310, R316). -/
def State.failStep (s : State) (c : Code) (logical slot : Nat) : State :=
  if s.fld Fld.SCHED_FAULT_CODE 0 = 0 then
    (((s.setFld Fld.SCHED_FAULT_CODE 0 c.num).setFld Fld.SCHED_FAULT_PIER 0 logical).setFld Fld.SCHED_FAULT_SLOT 0
      slot).setFld Fld.SCHED_STATUS_STATE 0 4
  else s

/-- Record a fault of a scheduled instruction of pier `p` in slot `t`: the first fault of the pier in PCTL_FAULT, the
first of the step in SCHED_FAULT (R310, R315). -/
def State.recordFault (s : State) (p : PierIx) (t : Nat) (c : Code) : State :=
  let s1 := if s.fld Fld.PCTL_FAULT_CODE p.val = 0 then
      (s.setFld Fld.PCTL_FAULT_CODE p.val c.num).setFld Fld.PCTL_FAULT_SLOT p.val t
    else s
  s1.failStep c (s.fld Fld.PCTL_STATUS_LOGICAL p.val) t

/-- The cycle since LAUNCH in which a slot of a pier issues, if nothing more holds it: slots and stalled cycles. -/
def State.cycleOf (s : State) (p : PierIx) (t : Nat) : Nat := t + s.fld Fld.PCTL_STALL_CYCLES p.val

/-- A notice joins its queue: before those of its own level and cycle whose CODE is greater (R470). -/
def joinNotice (ns : List Notice) (n : Notice) : List Notice :=
  let i := ns.findIdx (fun m => m.level = n.level && m.cycle = n.cycle && n.code.num < m.code.num)
  ns.take i ++ n :: ns.drop i

/-- What `f` raises in slot `t` of pier `p` is a notice of that cycle (R470). -/
def State.atCycle (s : State) (p : PierIx) (t : Nat) (f : State → State) : State :=
  let u := f s
  match u.notices.getLast? with
  | some n =>
    if u.notices.length = s.notices.length + 1 then
      { u with notices := joinNotice s.notices { n with cycle := some (s.cycleOf p t) } }
    else u
  | none => u

/-- A contained fault with no flag: the event at each occurrence, and the step fails (R310). -/
def State.contain (s : State) (p : PierIx) (t : Nat) (c : Code) (detail : Nat) : State :=
  (s.atCycle p t (fun s => s.event c 1 p.val detail)).recordFault p t c

/-- A contained fault with a flag (R310, R463). -/
def State.containFlag (s : State) (f : Fld) (i : Nat) (p : PierIx) (t : Nat) (c : Code) (detail : Nat) : State :=
  (s.atCycle p t (fun s => s.flagEvent f i c 1 p.val detail)).recordFault p t c

/-- Set several flags that one fault raises; its event is posted where one of them changes from 0 to 1 (R463). -/
def State.flagsEvent (s : State) (fs : List (Fld × Nat)) (c : Code) (srcKind srcIndex detail : Nat) : State :=
  let s1 := fs.foldl (fun s f => s.setFld f.1 f.2 1) s
  if fs.any (fun f => !s.flag f.1 f.2) then s1.event c srcKind srcIndex detail else s1

/-- A contained fault with several flags (R310, R463). -/
def State.containFlags (s : State) (fs : List (Fld × Nat)) (p : PierIx) (t : Nat) (c : Code) (detail : Nat) : State :=
  (s.atCycle p t (fun s => s.flagsEvent fs c 1 p.val detail)).recordFault p t c

/-- The DETAIL of an arch fault: the slot and the arch (R480). -/
def archDetail (t : Nat) (a : ArchIx) : Nat := t % 2 ^ 48 + a.val * 2 ^ 48

/-- A contained fault of an arch with its bit of ARCH_ERR (R110). -/
def State.archFault (s : State) (f : Fld) (p : PierIx) (a : ArchIx) (t : Nat) (c : Code) : State :=
  s.containFlag f (archIx p a) p t c (archDetail t a)

end Sys2Proof.Machine
end

