-- ==== Sys2Proof/Machine/Watch.lean ====
section
/-! DEFINITION. The watch tables of the gates (R201-R206) and the notices that a write sends (R203, R225): entries made,
removed and waited for, and the completion of a write when its last notice has been accepted. -/
namespace Sys2Proof.Machine

/-- A watch table holds 256 entries (R201). -/
def watchSize : Nat := 256

/-- The free entry of a gate's table that the next one takes; which one is the model's choice (log 4). -/
def State.watchFree (s : State) (g : Nat) : Option Nat :=
  (List.range watchSize).find? (fun k => !s.watch.any (fun e => e.1 = watchSize * g + k))

/-- Valid entries of a gate. -/
def State.watchUsed (s : State) (g : Nat) : Nat := (s.watch.filter (fun e => e.1 / watchSize = g)).length

/-- Bring WATCH_COUNT of a gate up to date (R255). -/
def State.countWatch (s : State) (g : Nat) : State :=
  let n := s.watchUsed g
  (s.setFld Fld.WATCH_COUNT_IN_USE g n).setFld Fld.WATCH_COUNT_HIGH_WATER g (max n (s.fld Fld.WATCH_COUNT_HIGH_WATER g))

/-- Make an entry, where the gate has room (R202). -/
def State.addWatch (s : State) (g : Nat) (e : WatchEntry) : Option State :=
  (s.watchFree g).map (fun k => { s with watch := s.watch ++ [(watchSize * g + k, e)] }.countWatch g)

/-- Make the entries of a list that have room; the others are left (R206). -/
def State.addWatches (s : State) : List (Nat × WatchEntry) → State × List (Nat × WatchEntry)
  | [] => (s, [])
  | (g, e) :: es =>
    match s.addWatch g e with
    | some s1 => State.addWatches s1 es
    | none =>
      let x := State.addWatches s es
      (x.1, (g, e) :: x.2)

/-- Replace a tag by its pier and number. -/
def State.setTag (s : State) (x : Tag) : State :=
  { s with tags := s.tags.map (fun y => if y.pier = x.pier && y.num = x.num && (match y.owner, x.owner with
      | .stream _, .stream _ => true
      | .copy _, .copy _ => true
      | _, _ => false) then x else y) }

/-- Tags that wait for entries take those that have become free, the oldest tag first (R206). -/
def State.wakeWatches (s : State) : State :=
  s.tags.foldl (fun s x =>
    if x.wants.isEmpty then s
    else
      let y := s.addWatches x.wants
      y.1.setTag { x with wants := y.2 }) s

/-- Remove the entries that a test names (R204). -/
def State.dropWatches (s : State) (f : WatchEntry → Bool) : State :=
  if s.watch.any (fun e => f e.2) then
    let s1 := { s with watch := s.watch.filter (fun e => !f e.2) }
    ((List.range 8).foldl State.countWatch s1).wakeWatches
  else s

/-- Every watch entry of a slot is removed (R204). -/
def State.unwatch (s : State) (p : PierIx) (k : Nat) : State := s.dropWatches (fun e => e.pier = p.val && e.slot = k)

/-- The bytes of an entry's range overlap a write of `n` bytes at `a` (R203). -/
def WatchEntry.overlaps (e : WatchEntry) (a n : Nat) : Bool := a < e.hi * 128 && e.lo * 128 < a + n

/-- A write of `n` bytes at `a`, ordered at gate `g`, sends a notice for each entry that it overlaps (R203). -/
def State.noticeWrite (s : State) (w : Writer) (g a n : Nat) : State :=
  let es := s.watch.filter (fun e => e.1 / watchSize = g && e.2.overlaps a n)
  let ns := es.filterMap (fun e =>
    if h : e.2.pier < 136 then some (StaleNotice.mk ⟨e.2.pier, h⟩ e.2.slot e.2.gen w a) else none)
  { s with staleNotices := s.staleNotices ++ ns }.bump Fld.WATCH_COUNT_NOTICES g es.length

/-- Does a write still wait for the acceptance of a notice (R225), or for room in the mirror log (R412)? -/
def State.writeWaits (s : State) (w : Writer) : Bool :=
  s.staleNotices.any (fun n => n.writer = w) || s.mirrorWaits.any (fun e => e.1 = w)

/-- The oldest notice on its way to a pier, and the others. -/
def State.takeNotice (s : State) (p : PierIx) : Option (StaleNotice × State) :=
  match s.staleNotices.find? (fun n => n.pier = p) with
  | none => none
  | some n => some (n, { s with staleNotices := s.staleNotices.eraseP (fun n => n.pier = p) })

end Sys2Proof.Machine
end

