-- ==== Sys2Proof/Machine/Deck.lean ====
section
/-! DEFINITION. The deck store: tiles in slots and their scale companions (R11, R46, R175), circular regions and buffer
halves (R170, R173), the read of a tile by a scheduled instruction with its checks (R59, R200, R207, R208), and the
arbiter's quotas (R164). -/
namespace Sys2Proof.Machine

/-- The number of a region: 64 · pier + region. -/
def regionIx (p : PierIx) (r : RegionIx) : Nat := 64 * p.val + r.val

/-- The number of a slot: 1,024 · pier + slot. -/
def slotIx (p : PierIx) (k : Nat) : Nat := 1024 * p.val + k

/-- The pointers of a region. -/
def State.region (s : State) (p : PierIx) (r : RegionIx) : Region :=
  s.regions.look (fun _ => Region.init) (regionIx p r)

/-- Set the pointers of a region. -/
def State.setRegion (s : State) (p : PierIx) (r : RegionIx) (x : Region) : State :=
  { s with regions := s.regions.put (fun _ => Region.init) (regionIx p r) x }

/-- A slot's record. -/
def State.slot (s : State) (p : PierIx) (k : Nat) : SlotRec := s.slots.look (fun _ => SlotRec.init) (slotIx p k)

/-- Set a slot's record. -/
def State.setSlot (s : State) (p : PierIx) (k : Nat) (x : SlotRec) : State :=
  { s with slots := s.slots.put (fun _ => SlotRec.init) (slotIx p k) x }

/-- A field of a region's descriptor (R185). -/
def State.rdesc (s : State) (p : PierIx) (r : RegionIx) (f : Fld) : Nat := s.fld f (regionIx p r)

/-- Is the region in raw mode (R185)? -/
def State.rawMode (s : State) (p : PierIx) (r : RegionIx) : Bool := s.rdesc p r Fld.REGION_DESC_MODE = 1

/-- Is the region split into two halves (R185)? -/
def State.halves (s : State) (p : PierIx) (r : RegionIx) : Bool := s.rdesc p r Fld.REGION_DESC_HALVES = 1

/-- H, the tiles of a half (R173). -/
def State.halfSize (s : State) (p : PierIx) (r : RegionIx) : Nat := s.rdesc p r Fld.REGION_DESC_SIZE / 2

/-- The slot of index `i` of a region: from BASE on, in the 1,024 slots of the store (R160, R167); LOAD_IMAGE refuses a region that goes
beyond them (R169). -/
def State.slotOf (s : State) (p : PierIx) (r : RegionIx) (i : Nat) : Nat := (s.rdesc p r Fld.REGION_DESC_BASE + i) % 1024

/-- The device address of a slot's data (R11). -/
def deckData (p : PierIx) (k : Nat) : Nat := 0x010000000000 + p.val * 0x1000000 + k * 8192

/-- The device address of a slot's side-band (R11). -/
def deckSide (p : PierIx) (k : Nat) : Nat := 0x010000000000 + p.val * 0x1000000 + 0xC00000 + k * 256

/-- The data bank of granule `g` of slot `k` (R160). -/
def granuleBank (k g : Nat) : Nat := (g + 2 * k) % 32

/-- The data banks of row `r` of slot `k`: its bank pair (R160). -/
def rowBanks (k r : Nat) : List Nat := [granuleBank k (2 * r), granuleBank k (2 * r + 1)]

/-- The port of the side bank of slot `k` (R160). -/
def sidePort (k : Nat) : Nat := 32 + k % 8

/-- The port that stands for the feeder of an arch, which serves one row a cycle (R76). -/
def feederPort (a : ArchIx) : Nat := 40 + a.val

/-- The device address of the extension of data index `i` of a region, in its companion (R46, R175). -/
def State.extAddr (s : State) (p : PierIx) (r : RegionIx) (i : Nat) : Nat :=
  let c : RegionIx := ⟨s.rdesc p r Fld.REGION_DESC_SCALE_REGION % 64, Nat.mod_lt _ (by decide)⟩
  deckData p (s.slotOf p c (i / 8)) + 1024 * (i % 8)

/-- The data bank of the granule that holds the extension bytes of row `n` of data index `i`, in the companion (R46, R160). -/
def State.extBank (s : State) (p : PierIx) (r : RegionIx) (i n : Nat) : Nat :=
  let c : RegionIx := ⟨s.rdesc p r Fld.REGION_DESC_SCALE_REGION % 64, Nat.mod_lt _ (by decide)⟩
  granuleBank (s.slotOf p c (i / 8)) (16 * (i % 8) + n / 4)

/-- The ports of a companion at which rows of the tile at data index `i` are read or written: with every fourth row, the bank of the
extension granule of four rows (R160, R175; log 120). -/
def State.extPorts (s : State) (p : PierIx) (r : RegionIx) (i : Nat) (rows : List Nat) : List Nat :=
  if s.rdesc p r Fld.REGION_DESC_SCALE_EN = 1 then (rows.filter (fun n => n % 4 = 0)).map (s.extBank p r i) else []

/-- The ports at which row `n` of the tile at data index `i` is read or written: its bank pair, with row 0 the side bank, and in a
region with a companion, with every fourth row, the bank of the extension granule of four rows (R160, R175; log 120). -/
def State.rowPorts (s : State) (p : PierIx) (r : RegionIx) (i n : Nat) : List Nat :=
  let k := s.slotOf p r i
  rowBanks k n ++ (if n = 0 then [sidePort k] else []) ++ s.extPorts p r i [n]

/-- The ports at which rows of the tile in slot `k` are written: their bank pairs, and the side bank with the last row. -/
def putPorts (k : Nat) (rows : List Nat) : List Nat :=
  rows.flatMap (fun n => rowBanks k n ++ (if n = 63 then [sidePort k] else []))

/-- A list of bytes cut into `n` pieces of `k` bytes, each as a number. -/
def pieces (k : Nat) : Nat → List Byte → List Nat
  | 0, _ => []
  | n + 1, bs => leNat (bs.take k) :: pieces k n (bs.drop k)

/-- A tile from its data, side-band and extension bytes (R42, R44, R45). -/
def tileOf (data side ext : List Byte) : Tile :=
  let b1 := (side.getD 1 0).toNat
  { tag := side.getD 0 0
    poison := b1 % 2 = 1
    orient := b1 / 2 % 2 = 1
    ext := b1 / 4 % 2 = 1
    stepTag := BitVec.ofNat 32 (leNat ((side.drop 4).take 4))
    scale := BitVec.ofNat 32 (leNat ((side.drop 8).take 4))
    rows := (pieces 128 64 data).map (BitVec.ofNat 1024)
    exts := (pieces 16 64 ext).map (BitVec.ofNat 128) }

/-- The data bytes of a tile (R42). -/
def Tile.dataBytes (t : Tile) : List Byte := ((List.range 64).map (fun r => leBytes 128 (t.row r).toNat)).flatten

/-- The side-band bytes of a tile (R44). -/
def Tile.sideBytes (t : Tile) : List Byte :=
  [t.tag, BitVec.ofNat 8 (t.poison.toNat + 2 * t.orient.toNat + 4 * t.ext.toNat), 0, 0] ++ leBytes 4 t.stepTag.toNat ++
    leBytes 4 t.scale.toNat ++ List.replicate 244 0

/-- The extension bytes of a tile (R45). -/
def Tile.extBytes (t : Tile) : List Byte :=
  ((List.range 64).map (fun r => leBytes 16 (t.exts.getD r 0).toNat)).flatten

/-- The extension bytes of row `r` of the extension that a block of the tile uses, the others zero (R45). -/
def usedExt (f : Fmt) (orient : Bool) (r : Nat) (x : Side) : Side :=
  if orient then if 16 * r < f.cols * (64 / f.block) then x else 0
  else BitVec.ofNat 128 (x.toNat % 2 ^ (8 * (f.cols / f.block)))

/-- A row with its padding as zero (R43). -/
def padRow (f : Fmt) (x : Row) : Row :=
  if f.elemBits * f.cols < 1024 then BitVec.ofNat 1024 (x.toNat % 2 ^ (f.elemBits * f.cols)) else x

/-- A tile as an engine writes it: the padding of its rows and the extension bytes that no block uses are zero (R43, R45). -/
def Tile.padded (t : Tile) : Tile :=
  match fmtOfTag t.tag.toNat with
  | none => t
  | some f =>
    { t with
      rows := t.rows.map (padRow f)
      exts := if f.scaled then t.exts.zipIdx.map (fun e => usedExt f t.orient e.2 e.1) else t.exts }

/-- The tile at data index `i` of a region, with its extension where the region has a companion (R175). -/
def State.readTile (s : State) (p : PierIx) (r : RegionIx) (i : Nat) : Tile :=
  let k := s.slotOf p r i
  tileOf (s.bytes (deckData p k) 8192) (s.bytes (deckSide p k) 256)
    (if s.rdesc p r Fld.REGION_DESC_SCALE_EN = 1 then s.bytes (s.extAddr p r i) 1024 else [])

/-- Row `n` of the tile in slot `k` (R42). -/
def State.readRow (s : State) (p : PierIx) (k n : Nat) : Row := BitVec.ofNat 1024 (leNat (s.bytes (deckData p k + 128 * n) 128))

/-- The extension bytes of row `n` of data index `i`, zero where the region has no companion (R46, R60). -/
def State.readExt (s : State) (p : PierIx) (r : RegionIx) (i n : Nat) : Side :=
  if s.rdesc p r Fld.REGION_DESC_SCALE_EN = 1 then BitVec.ofNat 128 (leNat (s.bytes (s.extAddr p r i + 16 * n) 16)) else 0

/-- Write row `n` of the tile in slot `k`. -/
def State.writeRow (s : State) (p : PierIx) (k n : Nat) (x : Row) : State :=
  s.writeBytes (deckData p k + 128 * n) (leBytes 128 x.toNat)

/-- Write rows of the tile in slot `k`. -/
def State.writeRows (s : State) (p : PierIx) (k : Nat) (xs : List (Nat × Row)) : State :=
  xs.foldl (fun s x => s.writeRow p k x.1 x.2) s

/-- Write the side-band of the tile at data index `i` of a region, and where the tile is scaled its extension, in the companion
(R175), with the bytes that no block uses as zero (R45). -/
def State.writeSide (s : State) (p : PierIx) (r : RegionIx) (i : Nat) (t : Tile) : State :=
  let s1 := s.writeBytes (deckSide p (s.slotOf p r i)) t.sideBytes
  if t.ext && s.rdesc p r Fld.REGION_DESC_SCALE_EN = 1 then s1.writeBytes (s.extAddr p r i) t.padded.extBytes else s1

/-- Write a tile at data index `i` of a region, its padding as zero (R43, R45). -/
def State.writeTile (s : State) (p : PierIx) (r : RegionIx) (i : Nat) (t : Tile) : State :=
  (s.writeBytes (deckData p (s.slotOf p r i)) t.padded.dataBytes).writeSide p r i t

/-- Set POISON in the side-band of slot `k` (R162). -/
def State.poisonSlot (s : State) (p : PierIx) (k : Nat) : State :=
  s.writeBytes (deckSide p k + 1) [s.byte (deckSide p k + 1) ||| 1]

/-- Set POISON in the side-band of the tile at data index `i` of a region (R162). -/
def State.poisonSide (s : State) (p : PierIx) (r : RegionIx) (i : Nat) : State := s.poisonSlot p (s.slotOf p r i)

/-- What ECC finds in the 64-bit words of the `n` bytes of a deck store at `a`, as they are read: every single-bit error is
corrected and counted, with the event of slot `k`; whether a word holds a double-bit error (R162). The spec does not say whether a
word stays in error after the read: the words read are in error no more (DESIGN CHOICE, log 142). -/
def State.eccRead (s : State) (p : PierIx) (k a n : Nat) : State × Bool :=
  let hit := s.deckFlips.filter (fun e => a / 8 ≤ e.1 && 8 * e.1 < a + n)
  if hit.isEmpty then (s, false)
  else
    let ce := (hit.filter (fun e => e.2 = 1)).length
    let s1 := { s with deckFlips := s.deckFlips.filter (fun e => !(a / 8 ≤ e.1 && 8 * e.1 < a + n)) }
    (if ce = 0 then s1
      else (s1.bump Fld.DECK_ERR_COUNT_CE_COUNT p.val ce).flagEvent Fld.DECK_ERR_DECK_CE p.val .deckCe 1 p.val k,
      hit.any (fun e => 2 ≤ e.2))

/-- Is there a double-bit error in the words of `n` bytes of a deck store at `a` (R162)? -/
def State.eccBad (s : State) (a n : Nat) : Bool := s.deckFlips.any (fun e => a / 8 ≤ e.1 && 8 * e.1 < a + n && 2 ≤ e.2)

/-- ECC of the words that the read of row `n` of data index `i` takes: the row, and the extension bytes of the row (R162). -/
def State.eccRow (s : State) (p : PierIx) (r : RegionIx) (i n : Nat) : State × Bool :=
  let k := s.slotOf p r i
  let x := s.eccRead p k (deckData p k + 128 * n) 128
  if s.rdesc p r Fld.REGION_DESC_SCALE_EN = 1 then
    let y := x.1.eccRead p k (s.extAddr p r i + 16 * n) 16
    (y.1, x.2 || y.2)
  else x

/-- ECC of the words of a whole tile without its side-band (R162). -/
def State.eccTile (s : State) (p : PierIx) (r : RegionIx) (i : Nat) : State × Bool :=
  let k := s.slotOf p r i
  let x := s.eccRead p k (deckData p k) 8192
  if s.rdesc p r Fld.REGION_DESC_SCALE_EN = 1 then
    let y := x.1.eccRead p k (s.extAddr p r i) 1024
    (y.1, x.2 || y.2)
  else x

/-- May a producer reserve now (R170, R173)? -/
def State.canReserve (s : State) (p : PierIx) (r : RegionIx) : Bool :=
  s.rawMode p r ||
    if s.halves p r then (s.region p r).fillP < s.halfSize p r
    else (s.region p r).occ < s.rdesc p r Fld.REGION_DESC_SIZE

/-- Is there room for `n` more reservations as the check made in cycle `c` sees it, with `k` releases beside those made (R170, R173,
R577)? -/
def State.roomIn (s : State) (p : PierIx) (r : RegionIx) (n c k : Nat) : Bool :=
  let x := s.region p r
  s.rawMode p r ||
    if s.halves p r then x.fillP + n ≤ s.halfSize p r
    else x.occ + (x.freed.filter (fun u => c < u)).length + n ≤ s.rdesc p r Fld.REGION_DESC_SIZE + k

/-- The data index that the next reservation takes (R170, R173). -/
def State.reserveIx (s : State) (p : PierIx) (r : RegionIx) : Nat :=
  let x := s.region p r
  if s.halves p r then
    (if x.phalf then s.halfSize p r else 0) + (if s.rawMode p r then x.fillP % s.halfSize p r else x.fillP)
  else x.tail

/-- Reserve the next slot (R170, R173): the pointers advance and the slot is not FULL; its generation advances
(R202). -/
def State.reserve (s : State) (p : PierIx) (r : RegionIx) : State :=
  let x := s.region p r
  let k := s.slotOf p r (s.reserveIx p r)
  let old := s.slot p k
  let s1 := s.setSlot p k { SlotRec.init with
    gen := old.gen + 1, step := s.stepNo, waited := old.waited, waitCycles := old.waitCycles }
  if s.halves p r then s1.setRegion p r { x with fillP := x.fillP + 1 }
  else
    s1.setRegion p r { x with
      tail := (x.tail + 1) % s.rdesc p r Fld.REGION_DESC_SIZE
      occ := if s.rawMode p r then x.occ else x.occ + 1 }

/-- Land a slot: data, side-band and extension are all written (R170). -/
def State.land (s : State) (p : PierIx) (r : RegionIx) (i : Nat) : State :=
  let k := s.slotOf p r i
  s.setSlot p k { s.slot p k with full := true }

/-- A tile that scheduled work produces lands in slot `t`: the first check that sees it is that of slot `t + 3` (R172, R577). -/
def State.landIn (s : State) (p : PierIx) (r : RegionIx) (i t : Nat) : State :=
  let k := s.slotOf p r i
  let s1 := s.land p r i
  s1.setSlot p k { s1.slot p k with landed := t + 1 }

/-- An approach gang, by the number of its member 0. -/
def State.gang (s : State) (j : Nat) : Gang := s.gangs.look (fun _ => Gang.init) j

/-- Set an approach gang. -/
def State.setGang (s : State) (j : Nat) (g : Gang) : State := { s with gangs := s.gangs.put (fun _ => Gang.init) j g }

/-- The number of a stream: 16 · pier + stream. -/
def streamIx (p : PierIx) (n : Fin 16) : Nat := 16 * p.val + n.val

/-- The number of the member 0 of a stream's gang (R188). -/
def State.gangOf (s : State) (p : PierIx) (n : Fin 16) : Nat :=
  streamIx p n - s.fld Fld.STREAM_DESC0_GANG_POS (streamIx p n)

/-- The number of the member 0 of the gang that fills a region, where a stream in force does (R168, R188). -/
def State.regionGang (s : State) (p : PierIx) (r : RegionIx) : Option Nat :=
  ((List.finRange 16).find? (fun n => s.flag Fld.STREAM_DESC0_VALID (streamIx p n) &&
    s.fld Fld.STREAM_DESC0_REGION (streamIx p n) = r.val)).map (s.gangOf p)

/-- A release of a region lowers the count of its gang, while it is above zero (R210). -/
def State.lowerGang (s : State) (p : PierIx) (r : RegionIx) : State :=
  match s.regionGang p r with
  | none => s
  | some j => s.setGang j { s.gang j with reserved := (s.gang j).reserved - 1 }

/-- The tile at index `i` leaves its region by a release, a FLIP or a discard. An approach tile never read is counted in
DROPPED, landed or not, and a poisoned one also in POISON_DROPPED (R200, R211); the slot's watch entries are removed (R204) and
the slot is no longer FULL. -/
def State.leave (s : State) (p : PierIx) (r : RegionIx) (i : Nat) : State :=
  let k := s.slotOf p r i
  let x := s.slot p k
  let s1 := (s.unwatch p k).setSlot p k { x with full := false, stream := none, wasRead := false, waited := false, waitCycles := 0 }
  match x.stream with
  | none => s1
  | some n =>
    if x.wasRead then s1
    else
      let s2 := s1.bump Fld.STREAM_COUNT3_DROPPED (streamIx p n) 1
      if x.full && (s.readTile p r i).poison then s2.bump Fld.STREAM_COUNT4_POISON_DROPPED (streamIx p n) 1 else s2

/-- May the tile at HEAD be released now (R170)? In halves a release has no effect (R173). -/
def State.canRelease (s : State) (p : PierIx) (r : RegionIx) : Bool :=
  s.rawMode p r || s.halves p r ||
    (0 < (s.region p r).occ && (s.slot p (s.slotOf p r (s.region p r).head)).full)

/-- Release the tile at HEAD (R170); the gang that fills the region counts it (R210). -/
def State.release (s : State) (p : PierIx) (r : RegionIx) : State :=
  if s.halves p r then s
  else
    let x := s.region p r
    ((s.lowerGang p r).leave p r x.head).setRegion p r { x with
      head := (x.head + 1) % s.rdesc p r Fld.REGION_DESC_SIZE
      occ := x.occ - 1 }

/-- A release in slot `t` of the schedule (R171): the checks of the next two slots do not see it (R577). -/
def State.releaseIn (s : State) (p : PierIx) (r : RegionIx) (t : Nat) : State :=
  let s1 := s.release p r
  let x := s1.region p r
  if s.halves p r then s1 else s1.setRegion p r { x with freed := t :: x.freed.filter (fun u => t < u + 3) }

/-- Has every reserved slot of the producing half landed (R173)? -/
def State.canFlip (s : State) (p : PierIx) (r : RegionIx) : Bool :=
  s.rawMode p r ||
    (List.range (s.region p r).fillP).all (fun i =>
      (s.slot p (s.slotOf p r ((if (s.region p r).phalf then s.halfSize p r else 0) + i))).full)

/-- FLIP: the halves swap, the producing half's fill becomes the consuming half's, and the tiles of the half that was
consuming leave the region (R173, R174). The gang that fills the region then holds the tiles that it reserved in the half that
consumes now (R189, R210). -/
def State.flip (s : State) (p : PierIx) (r : RegionIx) : State :=
  let x := s.region p r
  let h := s.halfSize p r
  let old := if x.phalf then 0 else h
  let s1 := match s.regionGang p r with
    | none => s
    | some j => s.setGang j { s.gang j with reserved := min (s.gang j).reserved x.fillP }
  ((List.range h).foldl (fun s i => s.leave p r (old + i)) s1).setRegion p r { x with
    fillC := min x.fillP h, fillP := 0, phalf := !x.phalf }

/-- What a read of a region finds (R170, R173): the tile is not there yet, the offset is beyond the fill of a consuming
half, or the tile's data index. -/
inductive ReadAt where
  | wait (i : Nat)
  | range
  | at (i : Nat)
deriving DecidableEq, Repr

/-- Where a read of offset `d` goes (R170, R173). -/
def State.readAt (s : State) (p : PierIx) (r : RegionIx) (d : Nat) : ReadAt :=
  let x := s.region p r
  if s.halves p r then
    let i := (if x.phalf then 0 else s.halfSize p r) + d
    if !s.rawMode p r && x.fillC ≤ d then .range else .at i
  else
    let i := (x.head + d) % s.rdesc p r Fld.REGION_DESC_SIZE
    if s.rawMode p r then .at i
    else if x.occ ≤ d || !(s.slot p (s.slotOf p r i)).full then .wait i
    else .at i

/-- The fault code an encoding of R480 names, among those that a fetch defers (R199). -/
def deferredCode (n : Nat) : Code :=
  ([Code.xlateFault, .permFault, .windowClosed, .memUe, .xferTimeout, .watchStarved].find? (fun c => c.num = n)).getD
    .poisonedTile

/-- What the start of a read finds after the checks of R59: it waits (for a landing or for a refetch), it raises a
fault, or it takes the tile. `skew` says that the step check failed in a lenient step. -/
inductive Feed where
  | wait (i : Nat) (refetch : Bool)
  | fault (c : Code) (i : Option Nat)
  | tile (i : Nat) (t : Tile) (skew : Bool)
deriving DecidableEq, Repr

/-- Would a read of the tile at data index `i` find it stale with no refetch left: STALE_MODE = 0, or the refetch limit reached
(R208)? -/
def State.staleHere (s : State) (p : PierIx) (r : RegionIx) (i : Nat) : Bool :=
  let x := s.slot p (s.slotOf p r i)
  x.stale && !((match x.stream with
      | some n => s.fld Fld.STREAM_DESC0_STALE_MODE (streamIx p n) = 1
      | none => false) && x.stales < s.fld Fld.APPROACH_CFG_REFETCH_LIMIT p.val)

/-- Checks 1 and 2 of R59 on the tile at data index `i`: an uncorrectable ECC error of the side-band (R162), poison with the
deferred fault of the slot (R200), a refetch that is in flight or is due (R208), and staleness, where `stale` says that the
claiming check found the tile stale (R207). -/
def State.poisonOrStale (s : State) (p : PierIx) (r : RegionIx) (i : Nat) (stale : Bool) : Option Feed :=
  let k := s.slotOf p r i
  let x := s.slot p k
  let t := s.readTile p r i
  if s.eccBad (deckSide p k) 256 then some (.fault .deckUe (some i))
  else if x.refetching then some (.wait i false)
  else if t.poison then some (.fault (if x.fault = 0 then .poisonedTile else deferredCode x.fault) (some i))
  else if stale then some (.fault .staleTile (some i))
  else none

/-- Must the claiming check of a read of the tile at data index `i` wait for its refetch (R207, R208)? A poisoned tile is never
refetched. -/
def State.refetchDue (s : State) (p : PierIx) (r : RegionIx) (i : Nat) : Bool :=
  let k := s.slotOf p r i
  (s.slot p k).stale && !s.staleHere p r i && !(s.readTile p r i).poison && !s.eccBad (deckSide p k) 256

/-- Check 4 of R59: does the step tag of the tile differ from the step counter in a region with STEP_CHK = 1? -/
def State.stepSkew (s : State) (p : PierIx) (r : RegionIx) (t : Tile) : Bool :=
  s.rdesc p r Fld.REGION_DESC_STEP_CHK = 1 && t.stepTag.toNat != s.stepNo

/-- The start of a read of the tile at data index `i` on the feed path, with the checks of R59. -/
def State.feedAt (s : State) (p : PierIx) (r : RegionIx) (i : Nat) (f : Fmt) (streaming stale : Bool) : Feed :=
  match s.poisonOrStale p r i stale with
  | some x => x
  | none =>
    let t := s.readTile p r i
    if !t.formatOk f streaming then .fault .formatMismatch (some i)
    else if s.stepSkew p r t && !s.lenient then .fault .stepSkew (some i)
    else .tile i t (s.stepSkew p r t)

/-- The start of a read of offset `d` on the feed path, with the checks of R59. -/
def State.feed (s : State) (p : PierIx) (r : RegionIx) (d : Nat) (f : Fmt) (streaming stale : Bool) : Feed :=
  match s.readAt p r d with
  | .wait i => .wait i false
  | .range => .fault .regionRange none
  | .at i => s.feedAt p r i f streaming stale

/-- A scheduled engine waits on a region (R176, R302): where a tile is missing, its first read that waits is noted for LATE, and
a stale slot asks for its refetch (R208, R211). -/
def State.noteWait (s : State) (p : PierIx) (x : RegionIx × Option (Nat × Bool)) : State :=
  match x with
  | (_, none) => s
  | (r, some (i, refetch)) =>
    let k := s.slotOf p r i
    let y := s.slot p k
    let s1 := s.setSlot p k { y with waited := y.waited || !y.wasRead }
    if refetch && !s1.refetches.contains (p, k) then { s1 with refetches := s1.refetches ++ [(p, k)] } else s1

/-- A read of the tile at index `i` has started: the side-band's corrected ECC errors are counted (R162), a first read counts
USED and ON_TIME or LATE with its cycles (R211), and the stale marks in succession start anew (R208). -/
def State.noteRead (s : State) (p : PierIx) (r : RegionIx) (i : Nat) : State :=
  let k := s.slotOf p r i
  let s1 := (s.eccRead p k (deckSide p k) 256).1
  let x := s1.slot p k
  let s2 := s1.setSlot p k { x with wasRead := true, stales := 0, waited := false, waitCycles := 0 }
  match x.stream with
  | none => s2
  | some n =>
    if x.wasRead then s2
    else
      let j := streamIx p n
      let s3 := s2.bump Fld.STREAM_COUNT0_USED j 1
      if x.waited then (s3.bump Fld.STREAM_COUNT1_LATE j 1).bump Fld.STREAM_COUNT2_LATE_CYCLES j x.waitCycles
      else s3.bump Fld.STREAM_COUNT1_ON_TIME j 1

/-- A read that raises STALE_TILE has started: it is a read, on time for none (R208, R211). -/
def State.noteStale (s : State) (p : PierIx) (r : RegionIx) (i : Nat) : State :=
  let k := s.slotOf p r i
  let x := s.slot p k
  let s1 := s.setSlot p k { x with wasRead := true, waited := false, waitCycles := 0 }
  match x.stream with
  | some n => if x.wasRead then s1 else s1.bump Fld.STREAM_COUNT0_USED (streamIx p n) 1
  | none => s1

/-- A double-bit error in a word of slot `k`, found by a read: POISON is set in its side-band and DECK_UE is raised in slot `t` of
the program (R162). -/
def State.slotUe (s : State) (p : PierIx) (k region t : Nat) : State :=
  ((s.poisonSlot p k).bump Fld.DECK_ERR_COUNT_UE_COUNT p.val 1).containFlag Fld.DECK_ERR_DECK_UE p.val p t .deckUe
    (t % 2 ^ 48 + region * 2 ^ 48)

/-- DECK_UE for the tile at data index `i` of region `r`, in slot `t` of the program (R162). -/
def State.deckUe (s : State) (p : PierIx) (r : RegionIx) (t i : Nat) : State := s.slotUe p (s.slotOf p r i) r.val t

/-- A tile leaves the deck store whole: the words of its read are corrected and counted, a double-bit error poisons it and raises DECK_UE in
slot `t` (R162). The tile, with its padding as zero, and the state. -/
def State.readOut (s : State) (p : PierIx) (r : RegionIx) (t i : Nat) : Tile × State :=
  let side := s.eccBad (deckSide p (s.slotOf p r i)) 256
  let e := (s.noteRead p r i).eccTile p r i
  let s1 := if side || e.2 then e.1.deckUe p r t i else e.1
  ((s1.readTile p r i).padded, s1)

/-- The region that slot `k` lies in, 0 where it lies in none: its number is part of the event of DECK_UE (log 142). -/
def State.regionHolding (s : State) (p : PierIx) (k : Nat) : Nat :=
  (((List.finRange 64).find? (fun r => s.rdesc p r Fld.REGION_DESC_VALID = 1 && s.rdesc p r Fld.REGION_DESC_BASE ≤ k &&
    k < s.rdesc p r Fld.REGION_DESC_BASE + s.rdesc p r Fld.REGION_DESC_SIZE)).map Fin.val).getD 0

/-- ECC of the words that a read of `n` bytes of a deck-store window at `a` takes, slot by slot: a double-bit error raises DECK_UE
(R162, log 142). -/
def State.eccWindow (s : State) (p : PierIx) (a n : Nat) : State :=
  let o := a - deckData p 0
  let side := 0xC00000 ≤ o
  let size := if side then 256 else 8192
  let o' := if side then o - 0xC00000 else o
  (List.range ((o' + n - 1) / size + 1 - o' / size)).foldl (fun s j =>
    let k := o' / size + j
    let base := if side then deckSide p k else deckData p k
    let lo := max a base
    let x := s.eccRead p k lo (min (a + n) (base + size) - lo)
    if x.2 then x.1.slotUe p k (s.regionHolding p k) (s.fld Fld.PCTL_SLOT_SLOT p.val) else x.1) s

/-- The flag of APPROACH_ERR for a code raised on a read (R215). -/
def approachFlag : Code → Option Fld
  | .xlateFault => some Fld.APPROACH_ERR_XLATE_FAULT
  | .permFault => some Fld.APPROACH_ERR_PERM_FAULT
  | .windowClosed => some Fld.APPROACH_ERR_WINDOW_CLOSED
  | .memUe => some Fld.APPROACH_ERR_MEM_UE
  | .xferTimeout => some Fld.APPROACH_ERR_XFER_TIMEOUT
  | .watchStarved => some Fld.APPROACH_ERR_WATCH_STARVED
  | .staleTile => some Fld.APPROACH_ERR_STALE_TILE
  | _ => none

/-- The DETAIL of a fault raised on a read: object and offset where they are known, the slot otherwise (R480). -/
def readDetail (x : SlotRec) (t : Nat) : Nat :=
  if x.stream.isSome || x.fault != 0 then x.object % 2 ^ 22 + x.offset % 2 ^ 40 * 2 ^ 22 else t % 2 ^ 48

/-- A step mismatch in a lenient step is counted and not raised: the event alone, with the step found (R59, R310). -/
def State.countSkew (s : State) (p : PierIx) (tag : Nat) : State := s.notify .stepSkew 1 1 1 p.val tag

/-- A fault raised on a read in slot `t` (R59, R162, R173, R200): the read has started, and APPROACH_FAULT and
APPROACH_FAULT_SRC hold the last fault that a fetch deferred or staleness raised (R215). `fm` is the reader's own flag of
FORMAT_MISMATCH with its instance, `arch` the number that the reader's DETAIL shows with it (R480), and `load` the reader's own
flag of a failed check 1 or 2 (R151, R355). -/
def State.readFault (s : State) (p : PierIx) (r : RegionIx) (t : Nat) (c : Code) (i : Option Nat)
    (fm : Option (Fld × Nat)) (arch : Nat) (load : Option (Fld × Nat) := none) : State :=
  match i with
  | none => s.containFlag Fld.DECK_ERR_REGION_RANGE p.val p t c (t % 2 ^ 48 + r.val * 2 ^ 48)
  | some i =>
    let k := s.slotOf p r i
    let x := s.slot p k
    let s0 := if c = .staleTile then s.noteStale p r i else s.noteRead p r i
    match c with
    | .deckUe => s0.deckUe p r t i
    | .formatMismatch =>
      match fm with
      | some (f, j) => s0.containFlag f j p t c (t % 2 ^ 48 + arch * 2 ^ 48)
      | none => s0.contain p t c (t % 2 ^ 48 + arch * 2 ^ 48)
    | .stepSkew => s0.contain p t c (s.readTile p r i).stepTag.toNat
    | _ =>
      match approachFlag c with
      | some f =>
        let s1 := (s0.setFld Fld.APPROACH_FAULT_OBJECT p.val x.object).setFld Fld.APPROACH_FAULT_OFFSET p.val x.offset
        let s2 := ((s1.setFld Fld.APPROACH_FAULT_SRC_STREAM p.val ((x.stream.map Fin.val).getD 0)).setFld
          Fld.APPROACH_FAULT_SRC_SLOT p.val k).setFld Fld.APPROACH_FAULT_SRC_CODE p.val c.num
        s2.containFlags ((f, p.val) :: load.toList) p t c (readDetail x t)
      | none =>
        match load with
        | some f => s0.containFlag f.1 f.2 p t c (readDetail x t)
        | none => s0.contain p t c (readDetail x t)

/-- The quota of requester 5, 6 or 7 (R181). -/
def State.quota (s : State) (p : PierIx) (req : Nat) : Nat :=
  s.fld (match req with
    | 5 => Fld.DECK_ARB_CFG_QUOTA5
    | 6 => Fld.DECK_ARB_CFG_QUOTA6
    | _ => Fld.DECK_ARB_CFG_QUOTA7) p.val

/-- The grants of a requester on a port in the current window (R164). -/
def State.granted (s : State) (p : PierIx) (req port : Nat) : Nat := (s.pier p).grants.look (fun _ => 0) (64 * req + port)

/-- Is requester 5, 6 or 7 masked by quota on a port with `more` grants beside those made (R164)? A quota of 256 never masks, and the
feeders are no ports of the arbiters. -/
def State.quotaMasked (s : State) (p : PierIx) (req port more : Nat) : Bool :=
  5 ≤ req && port < 40 && s.quota p req < 256 && s.quota p req ≤ s.granted p req port + more

/-- A grant on a port counts against the quota of requester 5, 6 or 7; reaching it masks the requester there, which is counted
(R164). -/
def State.grantPort (s : State) (p : PierIx) (req port : Nat) : State :=
  if req < 5 || 40 ≤ port then s
  else
    let x := s.pier p
    let s1 := s.setPier p { x with grants := x.grants.put (fun _ => 0) (64 * req + port) (s.granted p req port + 1) }
    if s1.quotaMasked p req port 0 && !s.quotaMasked p req port 0 then s1.bump Fld.DECK_ARB_COUNT_MASKED p.val 1 else s1

/-- One beat at each of some ports is granted. -/
def State.grantPorts (s : State) (p : PierIx) (req : Nat) (ports : List Nat) : State :=
  ports.foldl (fun s n => s.grantPort p req n) s

/-- The requester of a place in the order of R163: 8 places for each, from 7 down. -/
def reqOf (order : Nat) : Nat := 7 - order / 8

/-- The claims of a pier in a slot that hold a port. -/
def State.claimsAt (s : State) (p : PierIx) (slot port : Nat) : List Claim :=
  (s.pier p).claims.filter (fun c => c.slot = slot && c.ports.contains port)

/-- The grants that the claims standing for the slot before give a requester on a port (R164, R166). -/
def State.standing (s : State) (p : PierIx) (slot req port : Nat) : Nat :=
  ((s.claimsAt p (slot - 1) port).filter (fun c => !c.issued && reqOf c.order = req)).length

/-- Can a beat not be claimed in a slot (R166): its requester is masked on a port, or, unless the beat has cost its domain a stall
already and is performed after it (`again`, R165), it needs a port twice, or a port is held by a claim of a higher requester, by one of
its own that is presented first (R163), or by an instruction that has issued? -/
def State.beatLate (s : State) (again : Bool) (p : PierIx) (slot order : Nat) (ports : List Nat) : Bool :=
  ports.any (fun n => s.quotaMasked p (reqOf order) n (s.standing p slot (reqOf order) n)) ||
    (!again && (ports.eraseDups.length != ports.length ||
      ports.any (fun n => (s.claimsAt p slot n).any (fun c => c.order ≤ order || c.issued))))

/-- Does a beat of place `order` come before a claim on one of its ports in a slot (R163)? -/
def State.outranks (s : State) (p : PierIx) (slot order : Nat) (ports : List Nat) : Bool :=
  ports.any (fun n => (s.claimsAt p slot n).any (fun c => order < c.order && !c.issued))

/-- A check claims beats for a slot; the claims of slots long past are dropped (R166). -/
def State.claim (s : State) (p : PierIx) (slot order : Nat) (ports : List Nat) (issued : Bool) : State :=
  if ports.isEmpty then s
  else
    let x := s.pier p
    s.setPier p { x with claims := x.claims.filter (fun c => slot ≤ c.slot + 3) ++ [⟨slot, order, ports, issued⟩] }

/-- The claims of a pier from a slot on are released; where its own check of that slot has passed (`phantom`), the grants already
decided for it are phantom: they count in PHANTOM and against the quotas (R164, R166). -/
def State.dropClaims (s : State) (p : PierIx) (slot : Nat) (phantom : Bool) : State :=
  let x := s.pier p
  let s1 := s.setPier p { x with claims := x.claims.filter (fun c => c.slot < slot) }
  if phantom then
    (x.claims.filter (fun c => c.slot = slot && !c.issued)).foldl (fun s c =>
      (s.grantPorts p (reqOf c.order) c.ports).bump Fld.DECK_ARB_COUNT_PHANTOM p.val (c.ports.filter (fun n => n < 40)).length) s1
  else s1

/-- Unscheduled traffic moves a tile or a run through the ports of a pier: how many of its bursts claims and higher requesters revoke
hangs on the cycles in which it comes, which the model does not see, so REVOKE grows by a free number (R164, R166; log 121). -/
def State.revokes (s : State) (p : PierIx) : State :=
  s.fresh.2.bump Fld.DECK_ARB_COUNT_REVOKE p.val s.fresh.1.toNat

end Sys2Proof.Machine
end

