-- ==== Sys2Proof/Machine/Mail.lean ====
section
/-! DEFINITION. The mailbox (R445-R451): its slots, the status replies, the completion of a command (R456) and the device's
writes to host memory (R440). -/
namespace Sys2Proof.Machine

/-- The completion codes (R456). -/
inductive Cc where
  | ok | noSession | badVersion | badOpcode | badLength | badParam | busy | wrongState | serviceLocked | hostFault
  | timeout | aborted | imageRefused | imageSignature | ringLayout | noBinding | piersShort | seqTooLong | objectAccess
  | holdupLow | stackFailed | stepMismatch | stepLimit | stepAbandoned | preempted | saveMismatch | parapetLimit
  | evalConflict | tableFull | placement | modeInUse | poolMapping | objectMoving | objectParapet | pairLocked
  | mirrorCopy | windowState | windowLimit | rangeExceeded | bondDown | pairCheck | pairCommitTimeout
  | keystoneRefused | pairFailedOver | failoverDenied | noSpare | bistFail | fwRefused | authFail
deriving DecidableEq, Repr

/-- STATUS of a completion code (R456). -/
def Cc.num : Cc → Nat
  | .ok => 0x0000 | .noSession => 0x0001 | .badVersion => 0x0002 | .badOpcode => 0x0003 | .badLength => 0x0004
  | .badParam => 0x0005 | .busy => 0x0006 | .wrongState => 0x0007 | .serviceLocked => 0x0008 | .hostFault => 0x0009
  | .timeout => 0x000A | .aborted => 0x000B | .imageRefused => 0x0010 | .imageSignature => 0x0011
  | .ringLayout => 0x0012 | .noBinding => 0x0013 | .piersShort => 0x0014 | .seqTooLong => 0x0015
  | .objectAccess => 0x0016 | .holdupLow => 0x0017 | .stackFailed => 0x0018 | .stepMismatch => 0x0019
  | .stepLimit => 0x001A | .stepAbandoned => 0x001B | .preempted => 0x001C | .saveMismatch => 0x001D
  | .parapetLimit => 0x001E | .evalConflict => 0x001F | .tableFull => 0x0020 | .placement => 0x0021
  | .modeInUse => 0x0022 | .poolMapping => 0x0023 | .objectMoving => 0x0024 | .objectParapet => 0x0025
  | .pairLocked => 0x0026 | .mirrorCopy => 0x0027 | .windowState => 0x0028 | .windowLimit => 0x0029
  | .rangeExceeded => 0x002A | .bondDown => 0x0040 | .pairCheck => 0x0041 | .pairCommitTimeout => 0x0042
  | .keystoneRefused => 0x0043 | .pairFailedOver => 0x0044 | .failoverDenied => 0x0045 | .noSpare => 0x0050
  | .bistFail => 0x0051 | .fwRefused => 0x0052 | .authFail => 0x0060

/-- A mailbox slot. -/
def State.mailSlot (s : State) (k : Nat) : MailSlot := s.mail.look (fun _ => MailSlot.init) k

/-- Set a mailbox slot. -/
def State.setMail (s : State) (k : Nat) (x : MailSlot) : State := { s with mail := s.mail.put (fun _ => MailSlot.init) k x }

/-- The device address of a mailbox slot (R445). -/
def State.slotBase (s : State) (k : Nat) : Nat :=
  hostBase + s.fld Fld.MAILBOX_CFG_BASE 0 * 2 ^ 19 + 8192 * k

/-- Is Juwire ACTIVE (R378, R437)? -/
def State.jwActive (s : State) : Bool := s.fld Fld.JW_STATUS_STATE 0 = 5

/-- A request of the module to host memory goes out (R439, R441): a write waits for its CPL, its data standing in host memory from here on;
a read has its answer with the command that makes it (log 7). -/
def State.jwSend (s : State) (k : JwKind) (a : Nat) (bs : List Byte) : State :=
  let tag := s.jwTag
  match k with
  | .read n shared => { s.send (.jwRead tag (a - hostBase) n shared) with jwTag := (tag + 1) % 65536 }
  | _ =>
    { (s.writeBytes a bs).send (.jwWrite tag (a - hostBase) bs) with
      jwBusy := s.jwBusy ++ [(tag, k)]
      jwTag := (tag + 1) % 65536 }

/-- A request of the module to host memory; it waits while 4,096 requests are outstanding (R439). -/
def State.jwWrite (s : State) (k : JwKind) (a : Nat) (bs : List Byte) : State :=
  if s.jwBusy.length < 4096 then s.jwSend k a bs else { s with jwHeld := s.jwHeld ++ [(k, a, bs)] }

/-- The device requests that wait go out, the oldest first, as long as fewer than 4,096 are outstanding (R439). -/
def State.pumpHeld (s : State) : State :=
  s.jwHeld.foldl (fun s e =>
    if s.jwBusy.length < 4096 then { s with jwHeld := s.jwHeld.drop 1 }.jwSend e.1 e.2.1 e.2.2 else s) s

/-- The module reads `n` bytes of host memory at `a`, at most 4,096 with a request (R439, R440). -/
def State.jwRead (s : State) (a n : Nat) (shared : Bool) : State :=
  (List.range ((n + 4095) / 4096)).foldl (fun s i => s.jwWrite (.read (min 4096 (n - 4096 * i)) shared) (a + 4096 * i) []) s

/-- HOST_POISON with the host address (R442, R480). -/
def State.jwPoison (s : State) (a : Nat) : State := s.flagEvent Fld.JW_ERR_HOST_POISON 0 .hostPoison 4 0 (a - hostBase)

/-- The write of a command's results to a host buffer, whose CPL was OK (R443, R455). -/
def State.bufferWrite (s : State) (a : Nat) (bs : List Byte) : State :=
  { (s.writeBytes a bs).send (.jwWrite s.jwTag (a - hostBase) bs) with jwTag := (s.jwTag + 1) % 65536 }

/-- Bytes padded with zeros to a length. -/
def zeroPad (n : Nat) (bs : List Byte) : List Byte := bs.take n ++ List.replicate (n - bs.length) 0

/-- The 64 bytes of a status reply (R451). -/
def State.replyBytes (s : State) (p : Packet) (state status detail : Nat) (result : List Byte) : List Byte :=
  let v := if s.flag Fld.CMD_STATUS_SESSION 0 then s.fld Fld.CMD_STATUS_VERSION 0 else 1
  leBytes 2 v ++ leBytes 2 p.opcode ++ leBytes 4 p.tag ++ leBytes 2 p.seq ++ [BitVec.ofNat 8 state, 0] ++
    leBytes 2 status ++ leBytes 2 detail ++ leBytes 8 s.now.toNat ++ zeroPad 40 result

/-- Is Juwire in RECOVERY: every flit is kept (R444)? -/
def State.jwRecovering (s : State) : Bool := s.fld Fld.JW_STATUS_STATE 0 = 6

/-- Write the kept reply of a slot, if Juwire is up; in RECOVERY its flit is kept (R444, R451). -/
def State.sendReply (s : State) (k : Nat) : State :=
  if s.jwActive || s.jwRecovering then s.jwWrite (.reply k) (s.slotBase k + 0x1FC0) (s.mailSlot k).reply else s

/-- Keep and write a reply of a slot (R451). -/
def State.mailReply (s : State) (k : Nat) (p : Packet) (state status detail : Nat) (result : List Byte) : State :=
  (s.setMail k { s.mailSlot k with
    reply := s.replyBytes p state status detail result
    written := false }).sendReply k

/-- The slots whose packet runs. -/
def State.runningSlots (s : State) : List (Nat × Packet) :=
  s.mail.filterMap (fun e => e.2.running.map (fun p => (e.1, p)))

/-- CMD_STATUS.IN_PROGRESS follows the slots (R460). -/
def State.countRunning (s : State) : State := s.setFld Fld.CMD_STATUS_IN_PROGRESS 0 s.runningSlots.length

/-- A command completes: its last reply, REFUSED for a code other than OK (R456), and CMD_DONE where NOTIFY asks for it
(R449). `result` are bytes 24 to 63 of the reply. -/
def State.finish (s : State) (k : Nat) (c : Cc) (detail : Nat) (result : List Byte) : State :=
  match (s.mailSlot k).running with
  | none => s
  | some p =>
    let s1 := ((s.setMail k { s.mailSlot k with running := none }).countRunning).mailReply k p 2 c.num detail result
    let s2 := if c = .ok then s1 else s1.bump Fld.CMD_COUNT_REFUSED 0 1
    if p.note then s2.event .cmdDone 5 k (k % 64 + p.tag % 2 ^ 32 * 2 ^ 32) else s2

/-- A command that ends with a code other than OK and no further result. -/
def State.refuse (s : State) (k : Nat) (c : Cc) : State := s.finish k c 0 []

/-- A read or write of host memory for a command has completed other than OK: HOST_POISON is set by a poisoned one, and the command ends with
HOST_FAULT (R442, R455). -/
def State.hostFaulted (s : State) (k : Nat) (status : Fin 4) (a : Nat) : State :=
  (if status = 1 then s.jwPoison a else s).refuse k .hostFault

/-- A command that writes its results to a host buffer completes, with the STATUS of the write (R442, R455). -/
def State.finishBuffer (s : State) (k : Nat) (status : Fin 4) (a : Nat) (bs result : List Byte) : State :=
  if status = 0 then (s.bufferWrite a bs).finish k .ok 0 result else s.hostFaulted k status a

/-- The commands (R455): opcode, and whether the command is long. QUERY is long for WHAT = 2. -/
def opcodes : List (Nat × Bool) :=
  [(0x0101, false), (0x0102, false), (0x0201, true), (0x0202, false), (0x0203, true), (0x0204, true), (0x0205, true),
   (0x0206, true), (0x0301, true), (0x0302, true), (0x0303, false), (0x0304, true), (0x0401, false), (0x0501, true),
   (0x0502, true), (0x0503, true), (0x0601, true), (0x0602, true), (0x0603, true), (0x0604, true), (0x0605, true),
   (0x0606, false), (0x0701, true), (0x0702, true), (0x0801, false)]

/-- The number at a place of a packet's parameters. -/
def Packet.le (p : Packet) (off n : Nat) : Nat := leNat ((p.params.drop off).take n)

/-- Is the packet that of a long command (R452, R455)? -/
def Packet.long (p : Packet) : Bool :=
  (p.opcode = 0x0102 && p.le 0 1 = 2) || opcodes.contains (p.opcode, true)

/-- Does an earlier accepted packet of an immediate command still run (R452)? -/
def State.immediateBefore (s : State) (k : Nat) : Bool :=
  (s.cmdOrder.takeWhile (fun j => j != k)).any (fun j => (s.mailSlot j).running.any (fun q => !q.long))

/-- Does the packet of slot `k` wait its turn: immediate commands run one at a time, in the order of their acceptance (R452)? -/
def State.cmdWaits (s : State) (k : Nat) (p : Packet) : Bool := !p.long && s.immediateBefore k

/-- The work of a command on the packet that its slot runs: nothing where the slot runs no packet of that opcode, or the packet waits its
turn. -/
def State.onPacket (s : State) (k : MailIx) (op : Nat) (f : Packet → State) : State :=
  match (s.mailSlot k.val).running with
  | some p => if p.opcode = op && !s.cmdWaits k.val p then f p else s
  | none => s

/-- A long command has begun its work. -/
def State.beginPacket (s : State) (k : Nat) : State :=
  s.setMail k { s.mailSlot k with running := (s.mailSlot k).running.map (fun p => { p with begun := true }) }

/-- The slot that runs a command of one of these opcodes whose work has begun. -/
def State.runningOp (s : State) (ops : List Nat) : Option (Nat × Packet) :=
  s.runningSlots.find? (fun e => ops.contains e.2.opcode && e.2.begun)

end Sys2Proof.Machine
end

