-- ==== Sys2Proof/Machine/Gate.lean ====
section
/-! DEFINITION. The gates and their stacks: from device address to channel, bank, row and column (R219-R222), frames and
the split (R227-R229), reads and writes with ECC and stored poison (R225, R234-R236), the tracker of corrected errors
(R238), and row repairs (R239-R242). -/
namespace Sys2Proof.Machine

/-- A place in the stacks: gate, channel of its stack and channel address (R219). -/
structure Place where
  gate : Nat
  channel : Nat
  addr : Nat
deriving DecidableEq, Repr

/-- The row of a channel address (R219). -/
def Place.row (x : Place) : Nat := x.addr / 65536
/-- The bank. -/
def Place.bank (x : Place) : Nat := x.addr / 1024 % 64
/-- The column. -/
def Place.column (x : Place) : Nat := x.addr / 64 % 16

/-- The place of a device address in a hashed block (R221). -/
def hashedPlace (a : Nat) : Place :=
  let g := a / 8192
  let c := (g % 256) ^^^ (g / 256 % 256) ^^^ (g / 65536 % 256) ^^^ (g / 16777216)
  ⟨c / 32, c % 32, 8192 * (g / 256) + a % 8192⟩

/-- The place of a device address in a stack-local block (R222). -/
def localPlace (a : Nat) : Place :=
  let g := a / 8192 % 131072
  let h := g % 16384
  ⟨g / 16384, (h % 32) ^^^ (h / 32 % 32) ^^^ (h / 1024), 8192 * (512 * (a / 2 ^ 30) + h / 32) + a % 8192⟩

/-- The device address of a place in a hashed block. -/
def hashedAddr (x : Place) : Nat :=
  let i := x.addr / 8192
  8192 * (256 * i + ((32 * x.gate + x.channel) ^^^ (i % 256) ^^^ (i / 256 % 256) ^^^ (i / 65536))) + x.addr % 8192

/-- The device address of a place in a stack-local block. -/
def localAddr (x : Place) : Nat :=
  let i := x.addr / 8192
  let m := i % 512
  2 ^ 30 * (i / 512) + 8192 * (16384 * x.gate + 32 * m + (x.channel ^^^ (m % 32) ^^^ (m / 32))) + x.addr % 8192

/-- The device addresses of the stacks (R10). -/
def stackEnd : Nat := 2 ^ 40

/-- Is an address in the stacks? -/
def inStacks (a : Nat) : Bool := a < stackEnd

/-- The block of an address (R220). -/
def blockOf (a : Nat) : Nat := a / 2 ^ 30

/-- Is a block in stack-local mode (R256)? -/
def State.stackLocal (s : State) (b : Nat) : Bool := (s.reg .interleaveMode (b / 64)).getLsbD (b % 64)

/-- The place of a device address under the modes in force (R220). -/
def State.place (s : State) (a : Nat) : Place := if s.stackLocal (blockOf a) then localPlace a else hashedPlace a

/-- A block changes its mode: its granules stay where they are, so each byte, and each mark of stored poison, is found at
the address that the new mode gives its place (R220, R223). -/
def State.setMode (s : State) (b : Nat) (loc : Bool) : State :=
  if s.stackLocal b = loc then s
  else
    let n := b / 64
    let w := s.reg .interleaveMode n
    let m := if loc then w ||| BitVec.ofNat 64 (2 ^ (b % 64)) else w &&& ~~~(BitVec.ofNat 64 (2 ^ (b % 64)))
    let moved (a : Nat) : Nat := if loc then localAddr (hashedPlace a) else hashedAddr (localPlace a)
    let bytes := s.mem.filter (fun e => blockOf e.1 = b)
    let marks := s.stored.filter (fun e => blockOf (64 * e.1) = b)
    let s1 := { s with
      mem := s.mem.filter (fun e => blockOf e.1 != b)
      stored := s.stored.filter (fun e => blockOf (64 * e.1) != b) }
    let s2 := { s1 with
      mem := bytes.foldl (fun (x : NMap Byte) (e : Nat × Byte) => x.put memDflt (moved e.1) e.2) s1.mem
      stored := marks.foldl (fun (x : NMap Bool) (e : Nat × Bool) => x.put (fun _ => false) (moved (64 * e.1) / 64) e.2) s1.stored }
    s2.setReg .interleaveMode n m

/-- Gate state beside the registers. -/
def State.gate (s : State) (g : Nat) : Gate := s.gates.look (fun _ => Gate.init) g

/-- Set gate state. -/
def State.setGate (s : State) (g : Nat) (x : Gate) : State := { s with gates := s.gates.put (fun _ => Gate.init) g x }

/-- The bursts of a frame for each class under a preset (R228). -/
def splitShare (split cls : Nat) : Nat :=
  ([[12, 5, 3], [10, 6, 4], [14, 4, 2], [8, 6, 6]].getD split []).getD cls 0

/-- The bursts that a class has used in a frame. -/
def Frame.used (f : Frame) : Nat → Nat
  | 0 => f.reads
  | 1 => f.writes
  | _ => f.remotes

/-- A class transfers a burst; a frame ends after 20 (R229). -/
def Frame.take (f : Frame) (cls : Nat) : Frame :=
  let g : Frame := match cls with
    | 0 => { f with reads := f.reads + 1 }
    | 1 => { f with writes := f.writes + 1 }
    | _ => { f with remotes := f.remotes + 1 }
  if 20 ≤ g.reads + g.writes + g.remotes then Frame.init else g

/-- The class that a channel serves next among those that wait, the oldest request's first: one that has bursts left in
the frame, else in the order read, write, remote (R229). -/
def nextClass (split : Nat) (f : Frame) (waiting : List Nat) : Option Nat :=
  match waiting.find? (fun c => f.used c < splitShare split c) with
  | some c => some c
  | none => [0, 1, 2].find? (fun c => waiting.contains c)

/-- Does a gate hold its data bursts: stopped by its temperature (R231), or for a firmware update (R244)? -/
def State.gateHeld (s : State) (g : Nat) : Bool :=
  s.fld Fld.GATE_STATUS_STATE g = 4 || s.flag Fld.GATE_STATUS_FW_UPDATE g

/-- Do two ranges of bytes share a 64 B block? -/
def shareBlock (a n b m : Nat) : Bool := a / 64 ≤ (b + m - 1) / 64 && b / 64 ≤ (a + n - 1) / 64

/-- The bytes of the stacks that a waiting request asks for: its address and its length. -/
def waitRange : Instr → Option (Nat × Nat)
  | .jwRd _ a n _ _ => some (a, n)
  | .jwWr _ a bs _ _ => some (a, bs.length)
  | .gateAccess _ a n none _ _ => some (a, n)
  | .gateAccess _ a _ (some bs) _ _ => some (a, bs.length)
  | _ => none

/-- The bytes of device space that a waiting access asks for. -/
def Waiting.ranges : Waiting → List (Nat × Nat)
  | .request q => (waitRange q).toList
  | .remote w => w.ranges

/-- Is what waits a message of the host over Juwire? -/
def Waiting.ofHost : Waiting → Bool
  | .request (.jwRd ..) => true
  | .request (.jwWr ..) => true
  | .request (.jwCpl ..) => true
  | .request (.snpInv ..) => true
  | _ => false

/-- Does an access to `n` bytes at `a` come after one that waits for the same block (R224, R443)? -/
def State.behindWaits (s : State) (a n : Nat) : Bool := s.hostWaits.any (fun q => q.ranges.any (fun e => shareBlock a n e.1 e.2))

/-- One waiting burst of a channel is served (R229, R252). -/
def State.serveOne (s : State) (g ch : Nat) : State :=
  let x := s.gate g
  let f := x.frames.look (fun _ => Frame.init) ch
  match nextClass (s.fld Fld.GATE_CFG_SPLIT g) f ((x.waiting.filter (fun e => e.1 = ch)).map Prod.snd) with
  | none => s
  | some c =>
    (s.setGate g { x with
      waiting := x.waiting.erase (ch, c)
      frames := x.frames.put (fun _ => Frame.init) ch (f.take c) }).wrapAdd Fld.GATE_BURSTS_BURSTS (3 * g + c) 1

/-- Every waiting burst is served, unless the gate holds its bursts. -/
def State.serveBursts (s : State) (g : Nat) : State :=
  if s.gateHeld g then s else (s.gate g).waiting.foldl (fun s e => s.serveOne g e.1) s

/-- In doze a gate leaves self-refresh for an access (R513). -/
def State.openGate (s : State) (g : Nat) : State :=
  if s.fld Fld.POWER_STATUS_STATE 0 = 2 && !s.openGates.contains g then { s with openGates := s.openGates ++ [g] } else s

/-- Bursts of a class arrive at the channel of a place (R227). -/
def State.burst (s : State) (x : Place) (cls n : Nat) : State :=
  let y := s.gate x.gate
  ((s.openGate x.gate).setGate x.gate { y with waiting := y.waiting ++ List.replicate n (x.channel, cls) }).serveBursts x.gate

/-- The location of an error in the 64 B block at `a` (R251). -/
def State.errorAt (s : State) (a ue stored scrub : Nat) : State :=
  let x := s.place a
  ([(Fld.GATE_ERR_LOC_CHANNEL, x.channel), (Fld.GATE_ERR_LOC_BANK, x.bank), (Fld.GATE_ERR_LOC_ROW, x.row),
    (Fld.GATE_ERR_LOC_COLUMN, x.column), (Fld.GATE_ERR_LOC_UE, ue), (Fld.GATE_ERR_LOC_STORED, stored),
    (Fld.GATE_ERR_LOC_SCRUB, scrub), (Fld.GATE_ERR_ADDR_ADDR, a)] : List (Fld × Nat)).foldl
    (fun s e => s.setFld e.1 x.gate e.2) s

/-- MEM_UE at a gate: an event of class Service at level 2 when the flag rises (R235, R480). -/
def State.memUe (s : State) (g a : Nat) : State :=
  if s.flag Fld.GATE_ERR_MEM_UE g then s else (s.setFld Fld.GATE_ERR_MEM_UE g 1).notify .memUe 2 2 2 g a

/-- A corrected error of a row is tracked among the 64 rows that had one last; at CE_ROW_LIMIT the row is degraded and its
tally starts anew (R238). -/
def State.trackRow (s : State) (x : Place) : State :=
  let y := s.gate x.gate
  let k := (x.channel, x.bank, x.row)
  let n := (((y.tracker.find? (fun e => e.1 = k)).map Prod.snd).getD 0) + 1
  let rest := y.tracker.filter (fun e => e.1 != k)
  let kept := if 64 ≤ rest.length then rest.drop 1 else rest
  if s.fld Fld.GATE_CFG_CE_ROW_LIMIT x.gate ≤ n then
    ((s.setGate x.gate { y with tracker := kept ++ [(k, 0)] }).bump Fld.GATE_ERR_COUNT_ROW_DEGRADED x.gate 1).flagEvent
      Fld.GATE_ERR_MEM_ROW_DEGRADED x.gate .memRowDegraded 2 x.gate (x.channel + 32 * x.bank + 2048 * x.row)
  else s.setGate x.gate { y with tracker := kept ++ [(k, n)] }

/-- A corrected error in the 64 B block at `a` (R235). -/
def State.memCe (s : State) (a scrub : Nat) : State :=
  let x := s.place a
  (((s.bump Fld.GATE_ERR_COUNT_CE_COUNT x.gate 1).errorAt a 0 0 scrub).flagEvent Fld.GATE_ERR_MEM_CE x.gate .memCe 2
    x.gate a).trackRow x

/-- Does the 64 B block at `a` hold stored poison (R236)? -/
def State.isStored (s : State) (a : Nat) : Bool := s.stored.look (fun _ => false) (a / 64)

/-- Mark the 64 B block at `a` as stored poison, or clear the mark (R236). -/
def State.setStored (s : State) (a : Nat) (v : Bool) : State :=
  { s with stored := s.stored.put (fun _ => false) (a / 64) v }

/-- Symbols in error that the next burst at the 64 B block at `a` meets beside those that its command brings (R234). -/
def State.flawAt (s : State) (a : Nat) : Nat := s.flaws.look (fun _ => 0) (a / 64)

/-- Set the symbols in error that the next burst at a block meets. -/
def State.setFlaw (s : State) (a n : Nat) : State :=
  if s.flawAt a = n then s else { s with flaws := s.flaws.put (fun _ => 0) (a / 64) n }

/-- The decode of the codeword of the 64 B block at `a` with `fresh` symbols in error beside those that stand: at most 3 are corrected, 4
or 5 are found, and whether more are found is a free choice that leaves the block's bytes free where they are not (R234-R236). Afterwards
the stored codeword is good again or stored poison, so no error stands. The answer says whether the data is poisoned. A read of stored
poison sets UE beside STORED (DESIGN CHOICE, log 161: R236 gives STORED alone). -/
def State.decodeBlock (s0 : State) (a fresh scrub : Nat) : Bool × State :=
  let symbols := fresh + s0.flawAt a
  let s := s0.setFlaw a 0
  let g := (s.place a).gate
  if s.isStored a then (true, (s.errorAt a 1 1 scrub).memUe g a)
  else if symbols = 0 then (false, s)
  else if symbols ≤ 3 then (false, s.memCe a scrub)
  else
    let found := symbols ≤ 5 || (Config.freeValue s.freeCtr).getLsbD 0
    if found then
      let s1 := if symbols ≤ 5 then s else { s with freeCtr := s.freeCtr + 1 }
      (true, (((s1.bump Fld.GATE_ERR_COUNT_UE_COUNT g 1).errorAt a 1 0 scrub).memUe g a).setStored a true)
    else
      let bytes := (List.range 64).map (fun i => (Config.freeValue (s.freeCtr + 1 + i)).extractLsb' 0 8)
      (false, { s with freeCtr := s.freeCtr + 65 }.writeBytes (a / 64 * 64) bytes)

/-- Symbols in error that an access meets: in the 64 B block at an address (R234). -/
abbrev Upset := Option (Nat × Nat)

/-- The symbols in error of the 64 B block at `a`. -/
def symbolsAt (u : Upset) (a : Nat) : Nat :=
  match u with
  | some (b, n) => if b / 64 = a / 64 then n else 0
  | none => 0

/-- The 64 B blocks that `n` bytes at `a` touch, by address. -/
def blocksOf (a n : Nat) : List Nat :=
  if n = 0 then [] else (List.range ((a + n - 1) / 64 + 1 - a / 64)).map (fun k => 64 * (a / 64 + k))

/-- Symbols in error that an access brings for a block of the stacks that it does not touch stand there until the next burst at it
(R234; log 162). -/
def State.leaveFlaw (s : State) (a n : Nat) (u : Upset) : State :=
  match u with
  | some (b, k) => if inStacks b && !(blocksOf a n).contains (64 * (b / 64)) then s.setFlaw b (s.flawAt b + k) else s
  | none => s

/-- The gate reads `n` bytes at `a` for a class (R227, R234-R236): whether the reply is poisoned. The data is what memory
holds afterwards. -/
def State.gateRead (s : State) (cls a n : Nat) (u : Upset) : Bool × State :=
  (blocksOf a n).foldl (fun acc b =>
    let x := (acc.2.burst (acc.2.place b) cls 1).decodeBlock b (symbolsAt u b) 0
    (acc.1 || x.1, x.2)) (false, s.leaveFlaw a n u)

/-- The write of part or all of the 64 B block at `b`: bytes `bs` at address `a` in it, as one burst or with `rmw` as a
read-modify-write (R225, R236). With `bad` the data is poisoned and the block becomes stored poison. Symbols in error meet the read of
a read-modify-write, or all transfers of a full write, of which at most 3 can be mended (R234). The answer says whether the write
completes with the poison flag. -/
def State.writeBlock (s : State) (cls b a : Nat) (bs : List Byte) (rmw bad : Bool) (u : Upset) : Bool × State :=
  let x := s.place b
  if rmw then
    let y := (s.burst x 1 2).decodeBlock b (symbolsAt u b) 0
    if bad || y.1 then (true, y.2.setStored b true) else (false, y.2.writeBytes a bs)
  else
    let s1 := s.burst x cls 1
    if bad then (true, (s1.setStored b true).setFlaw b 0)
    else
      let s2 := (s1.writeBytes a bs).setStored b false
      if symbolsAt u b + s.flawAt b ≤ 3 then (false, s2.setFlaw b 0) else s2.decodeBlock b (symbolsAt u b) 0

/-- The bytes of a write that fall into the 64 B block at `b`, with their address. -/
def cutBlock (a : Nat) (bs : List Byte) (b : Nat) : Nat × List Byte :=
  let lo := max a b
  (lo, (bs.drop (lo - a)).take (b + 64 - lo))

/-- The pieces of a range that one granule, and so one gate, holds (R220). -/
def granulesOf (a n : Nat) : List (Nat × Nat) :=
  if n = 0 then [] else
    (List.range ((a + n - 1) / 8192 + 1 - a / 8192)).map (fun k =>
      let lo := max a (8192 * (a / 8192 + k))
      (lo, min (a + n) (8192 * (a / 8192 + k + 1)) - lo))

/-- Every gate compares a write against its watch table and sends its notices (R203, R245). -/
def State.noticeRange (s : State) (w : Writer) (a n : Nat) : State :=
  (granulesOf a n).foldl (fun s g => s.noticeWrite w (s.place g.1).gate g.1 g.2) s

/-- Do the stacks keep an access to `n` bytes at `a` waiting: a gate that has a part of them transfers no data bursts (R231, R244), or
an access to the same block waits already (R224)? -/
def State.blocked (s : State) (a n : Nat) : Bool :=
  inStacks a && ((granulesOf a n).any (fun g => s.gateHeld (s.place g.1).gate) || s.behindWaits a n)

/-- A write of bytes at `a` is ordered at the gates (R224, R225): whether it completes with the poison flag. One that does not start
on a 64 B boundary is a read-modify-write of each block that it touches, and so is the last block of one that ends within it. -/
def State.gateWrite (s : State) (w : Writer) (cls a : Nat) (bs : List Byte) (bad : Bool) (u : Upset) : Bool × State :=
  let x := (blocksOf a bs.length).foldl (fun acc b =>
    let c := cutBlock a bs b
    let y := State.writeBlock acc.2 cls b c.1 c.2 (a % 64 != 0 || c.2.length < 64) bad u
    (acc.1 || y.1, y.2)) (false, s.leaveFlaw a bs.length u)
  (x.1, x.2.noticeRange w a bs.length)

/-- The instance of SOFT_REPAIR of entry `k` of a gate's channel (R246). -/
def softIx (g channel k : Nat) : Nat := 256 * g + 8 * channel + k

/-- The entry of a channel that redirects a row (R254). -/
def State.softOf (s : State) (g channel bank row : Nat) : Option Nat :=
  (List.range 8).find? (fun k =>
    let i := softIx g channel k
    s.flag Fld.SOFT_REPAIR_VALID i && s.fld Fld.SOFT_REPAIR_BANK i = bank && s.fld Fld.SOFT_REPAIR_ROW i = row)

/-- Is a spare of a bank free (R239)? -/
def State.spareFree (s : State) (g channel bank spare : Nat) : Bool :=
  !(s.gate g).hard.any (fun h => h.channel = channel && h.bank = bank && h.spare = spare) &&
  (List.range 8).all (fun k =>
    let i := softIx g channel k
    !(s.flag Fld.SOFT_REPAIR_VALID i && s.fld Fld.SOFT_REPAIR_BANK i = bank && s.fld Fld.SOFT_REPAIR_SPARE i = spare))

/-- The free spares of a bank (R253). -/
def State.sparesLeft (s : State) (g channel bank : Nat) : Nat := ((List.range 4).filter (s.spareFree g channel bank)).length

/-- Set or clear a SOFT_REPAIR entry (R254). -/
def State.setSoft (s : State) (g channel k : Nat) (h : Option HardRepair) : State :=
  let i := softIx g channel k
  let s1 := match h with
    | some h => (((s.setFld Fld.SOFT_REPAIR_VALID i 1).setFld Fld.SOFT_REPAIR_BANK i h.bank).setFld
        Fld.SOFT_REPAIR_ROW i h.row).setFld Fld.SOFT_REPAIR_SPARE i h.spare
    | none => s.setReg .softRepair i 0
  s1.setFld Fld.GATE_STATUS_SOFT_USED g
    ((List.range 256).filter (fun n => s1.flag Fld.SOFT_REPAIR_VALID (256 * g + n))).length

/-- REPAIR_FAIL of a repair, with its result (R249, R480). -/
def State.repairFail (s : State) (g : Nat) (r : Repair) (result : Nat) : State :=
  s.flagEvent Fld.GATE_ERR_REPAIR_FAIL g .repairFail 2 g (result + 8 * r.channel + 256 * r.bank + 16384 * r.row)

/-- A repair of a gate completes with a result (R240-R242, R249, R256). -/
def State.repairDone (s : State) (g : Nat) (r : Repair) (result : Nat) : State :=
  let s1 := (((s.setGate g { s.gate g with repair := none }).setFld Fld.REPAIR_STATUS_BUSY g 0).setFld
    Fld.REPAIR_STATUS_RESULT g result).setFld Fld.REPAIR_STATUS_SPARES_LEFT g (s.sparesLeft g r.channel r.bank)
  if 2 ≤ result then s1.repairFail g r result else s1

/-- The device address of column `c` of a row (R219, R251). -/
def State.rowAddr (s : State) (g channel bank row c : Nat) : Nat :=
  let x : Place := ⟨g, channel, 65536 * row + 1024 * bank + 64 * c⟩
  if s.stackLocal (x.addr / 8192 / 512) then localAddr x else hashedAddr x

/-- The copy of a row to or from a spare: its 16 bursts are read and corrected, and an uncorrectable one becomes stored
poison (R240). `symbols` gives the symbols in error by column. -/
def State.copyRow (s : State) (g channel bank row : Nat) (symbols : List Nat) : State :=
  (List.range 16).foldl (fun s c => (s.decodeBlock (s.rowAddr g channel bank row c) (symbols.getD c 0) 0).2) s

/-- Is a program launched on the module: launched, failing or done with its schedule (R316)? -/
def State.launched (s : State) : Bool := 3 ≤ s.fld Fld.SCHED_STATUS_STATE 0 && s.fld Fld.SCHED_STATUS_STATE 0 ≤ 4

end Sys2Proof.Machine
end

