-- ==== Sys2Proof/Machine/Msg.lean ====
section
/-! DEFINITION. Paune flits and messages as bytes: CRC-32C and the flit layout (R382), and the message headers (R393,
R394). -/
namespace Sys2Proof.Machine

/-- Byte `i` of a list. -/
def byteAt (bs : List Byte) (i : Nat) : Nat := (bs.getD i 0).toNat

/-- The little-endian number of `n` bytes at `i`. -/
def fieldAt (bs : List Byte) (i n : Nat) : Nat := leNat ((bs.drop i).take n)

/-- Bytes made up to `n` with zeros. -/
def padTo (n : Nat) (bs : List Byte) : List Byte := (bs ++ List.replicate (n - bs.length) 0).take n

end Sys2Proof.Machine
namespace Sys2Proof
open Sys2Proof.Machine

/-- The 256 bytes of a flit (R382). -/
def Flit.bytes (f : Flit) : List Byte :=
  let b4 := f.kind % 4 + 4 * (f.vc % 8) + 32 * f.som.toNat + 64 * f.eom.toNat + 128 * f.ackValid.toNat
  let head := leBytes 2 f.seq ++ leBytes 2 f.ack ++ [BitVec.ofNat 8 b4, BitVec.ofNat 8 f.len] ++
    leBytes 2 (f.crVc % 8 + 8 * f.crCount) ++ leBytes 4 0 ++ padTo 240 f.payload
  head ++ leBytes 4 (crc32c head).toNat

/-- Does the CRC of a flit's bytes pass (R382)? -/
def flitOk (bs : List Byte) : Bool := bs.length = 256 && (crc32c (bs.take 252)).toNat = fieldAt bs 252 4

/-- The flit that bytes spell; none: a reserved kind, a reserved byte or a LEN out of range (R379, R382). -/
def flitOf (bs : List Byte) : Option Flit :=
  let b4 := byteAt bs 4
  let kind := b4 % 4
  let eom := b4 / 64 % 2 = 1
  let len := byteAt bs 5
  let ok := kind != 3 && fieldAt bs 8 4 = 0 && fieldAt bs 6 2 / 8 ≤ 4096 && (match kind with
    | 0 => len = 0
    | 1 => if eom then 1 ≤ len && len ≤ 240 else len = 240
    | _ => 1 ≤ len && len ≤ 240)
  if ok then
    some ⟨fieldAt bs 0 2, fieldAt bs 2 2, kind, b4 / 4 % 8, b4 / 32 % 2 = 1, eom, b4 / 128 = 1, len,
      fieldAt bs 6 2 % 8, fieldAt bs 6 2 / 8, (bs.drop 12).take len⟩
  else none

/-- TYPE of a message (R394). -/
def MsgBody.kind : MsgBody → Nat
  | .remoteWrite .. => 1
  | .remoteRead .. => 2
  | .readReply .. => 3
  | .ringTile .. => 4
  | .mirrorWrite .. => 5
  | .keystone .. => 6
  | .sync .. => 7
  | .probe .. => 8

/-- The class of a message (R384, R394). -/
def MsgBody.cls : MsgBody → Nat
  | .remoteWrite .. => 0
  | .remoteRead .. => 0
  | .readReply .. => 1
  | .ringTile .. => 2
  | .mirrorWrite .. => 0
  | _ => 3

/-- Bytes 8 to 31 of a message's header with its payload (R394). -/
def MsgBody.bytes : MsgBody → List Byte × List Byte
  | .remoteWrite tag epoch step offset window data =>
    (leBytes 4 tag ++ leBytes 4 epoch ++ leBytes 4 step ++ leBytes 5 offset ++ leBytes 3 window ++
      leBytes 2 (data.length / 128), data)
  | .remoteRead tag epoch offset window length =>
    (leBytes 4 tag ++ leBytes 4 epoch ++ leBytes 4 0 ++ leBytes 5 offset ++ leBytes 3 window ++ leBytes 2 length, [])
  | .readReply tag status data =>
    (leBytes 4 tag ++ leBytes 1 status ++ leBytes 15 0 ++ leBytes 2 (data.length / 128), data)
  | .ringTile c segment side data ext =>
    let b := (match c with
      | .cw => 0
      | .ccw => 1) + 2 * (segment % 8) + 16 * (match ext.length with
      | 0 => 0
      | 256 => 1
      | 512 => 2
      | _ => 3)
    (leBytes 1 b ++ leBytes 7 0 ++ padTo 16 side, data ++ ext)
  | .mirrorWrite mseq object offset data =>
    (leBytes 8 mseq ++ leBytes 3 object ++ leBytes 5 offset ++ leBytes 2 data.length, data)
  | .keystone mseq step ack => (leBytes 8 mseq ++ leBytes 4 step ++ leBytes 1 ack.toNat, [])
  | .sync subtype tag param data =>
    (leBytes 2 subtype ++ leBytes 1 data.length ++ leBytes 1 0 ++ leBytes 4 tag ++ padTo 16 param, data)
  | .probe reply trunc tag tSend tReply hops =>
    (leBytes 1 reply.toNat ++ leBytes 1 hops.length ++ leBytes 1 trunc.toNat ++ leBytes 1 0 ++ leBytes 4 tag ++
      leBytes 8 tSend ++ leBytes 8 tReply,
      hops.flatMap (fun h => leBytes 2 h.module ++ leBytes 1 h.arrival ++ leBytes 1 h.output))

/-- The bytes of a message (R393). -/
def Msg.bytes (m : Msg) : List Byte :=
  let h := m.head
  let x := m.body.bytes
  [BitVec.ofNat 8 m.body.kind, BitVec.ofNat 8 (h.poison.toNat + 2 * h.writeCpl.toNat + 4 * (h.attempt % 8))] ++
    leBytes 2 h.dest ++ leBytes 2 h.src ++ [BitVec.ofNat 8 h.ttl, 0] ++ padTo 24 x.1 ++ x.2

/-- The hop records of a probe's payload. -/
def hopsOf : Nat → List Byte → List Hop
  | 0, _ => []
  | n + 1, bs => ⟨fieldAt bs 0 2, byteAt bs 2, byteAt bs 3⟩ :: hopsOf n (bs.drop 4)

/-- The body of a message of a type from its bytes. -/
def bodyOf (kind : Nat) (bs : List Byte) : Option MsgBody :=
  let data := bs.drop 32
  match kind with
  | 1 => some (.remoteWrite (fieldAt bs 8 4) (fieldAt bs 12 4) (fieldAt bs 16 4) (fieldAt bs 20 5) (fieldAt bs 25 3) data)
  | 2 => some (.remoteRead (fieldAt bs 8 4) (fieldAt bs 12 4) (fieldAt bs 20 5) (fieldAt bs 25 3) (fieldAt bs 28 2))
  | 3 => some (.readReply (fieldAt bs 8 4) (byteAt bs 12) data)
  | 4 =>
    let b := byteAt bs 8
    some (.ringTile (if b % 2 = 1 then .ccw else .cw) (b / 2 % 8) ((bs.drop 16).take 16) (data.take 8192) (data.drop 8192))
  | 5 => some (.mirrorWrite (fieldAt bs 8 8) (fieldAt bs 16 3) (fieldAt bs 19 5) data)
  | 6 => some (.keystone (fieldAt bs 8 8) (fieldAt bs 16 4) (byteAt bs 20 = 1))
  | 7 => some (.sync (fieldAt bs 8 2) (fieldAt bs 12 4) ((bs.drop 16).take 16) data)
  | 8 => some (.probe (byteAt bs 8 = 1) (byteAt bs 10 = 1) (fieldAt bs 12 4) (fieldAt bs 16 8) (fieldAt bs 24 8)
      (hopsOf (byteAt bs 9) data))
  | _ => none

/-- The ranges of a message's own fields (R393, R394). -/
def MsgBody.legal (writeCpl : Bool) : MsgBody → Bool
  | .remoteWrite _ _ _ offset window data =>
    offset % 128 = 0 && window < 2 ^ 20 && data.length % 128 = 0 && 1 ≤ data.length / 128 && data.length / 128 ≤ 64
  | .remoteRead _ _ offset window length => offset % 128 = 0 && window < 2 ^ 20 && 1 ≤ length && length ≤ 64
  | .readReply _ status data =>
    status ≤ 7 && data.length % 128 = 0 && data.length / 128 ≤ 64 &&
      (!(writeCpl || (status != 0 && status != 4)) || data.isEmpty)
  | .ringTile _ segment side data ext =>
    segment < 8 && side.length = 16 && data.length = 8192 && [0, 256, 512, 1024].contains ext.length
  | .mirrorWrite _ object _ data => object < 2 ^ 22 && 1 ≤ data.length && data.length ≤ 8192
  | .keystone .. => true
  | .sync subtype _ param data => 1 ≤ subtype && subtype ≤ 7 && param.length = 16 && data.length ≤ 208
  | .probe reply _ _ _ tReply hops => hops.length ≤ 64 && (reply || tReply = 0)

/-- The message that bytes spell; none: a reserved type, a reserved field that is not zero, or a payload that disagrees
with its length (R393). -/
def msgOf (bs : List Byte) : Option Msg :=
  match bodyOf (byteAt bs 0) bs with
  | none => none
  | some b =>
    let f := byteAt bs 1
    let m : Msg := ⟨⟨f % 2 = 1, f / 2 % 2 = 1, f / 4 % 8, fieldAt bs 2 2, fieldAt bs 4 2, byteAt bs 6⟩, b⟩
    if 32 ≤ bs.length && 1 ≤ m.head.ttl && b.legal m.head.writeCpl && m.bytes = bs then some m else none

end Sys2Proof
end

