-- ==== Sys2Proof/Machine/Link.lean ====
section
/-! DEFINITION. The link layer of the Paune ports: flits sent with credit and kept for retry (R382-R384), acknowledgement
and resend (R383), and the states of a port (R378-R381, R385). -/
namespace Sys2Proof.Machine

/-- The link layer of a port. -/
def State.link (s : State) (n : Nat) : Link := s.links.look (fun _ => Link.init) n

/-- Set the link layer of a port. -/
def State.setLink (s : State) (n : Nat) (x : Link) : State := { s with links := s.links.put (fun _ => Link.init) n x }

/-- The state of a port (R378). -/
def State.portState (s : State) (n : Nat) : Nat := s.fld Fld.PORT_STATUS_STATE n

/-- Set the state of a port. -/
def State.setPortState (s : State) (n v : Nat) : State := s.setFld Fld.PORT_STATUS_STATE n v

/-- The role of a port (R386). -/
def State.role (s : State) (n : Nat) : Nat := s.fld Fld.PORT_CFG_ROLE n

/-- This module's identifier (R388). -/
def State.moduleId (s : State) : Nat := s.fld Fld.PAUNE_ID_ID 0

/-- The kept flits of the retry buffer (R383). -/
def retrySize : Nat := 4096

/-- Element `i` of a list of numbers, changed by a function. -/
def bumpAt (xs : List Nat) (i : Nat) (f : Nat → Nat) : List Nat := xs.set i (f (xs.getD i 0))

/-- The credit return that the next flit carries (R382). -/
def Link.creditReturn (x : Link) : Nat × Nat :=
  match (List.range 8).find? (fun v => 0 < x.owed.getD v 0) with
  | some v => (v, min 4096 (x.owed.getD v 0))
  | none => (0, 0)

/-- A flit goes out with the acknowledgement and the credit return of the moment (R382); `g` makes the message of it. -/
def State.emitAs (s : State) (n : Nat) (f : Flit) (g : Flit → OutMsg) : State :=
  let x := s.link n
  let c := x.creditReturn
  (s.setLink n { x with
    owed := bumpAt x.owed c.1 (fun v => v - c.2)
    ackDue := false
    sinceNull := if f.kind = 0 then 0 else x.sinceNull + 1 }).send
    (g { f with
      ack := (x.expect + 65535) % 65536
      ackValid := x.accepted
      crVc := c.1
      crCount := c.2 })

/-- A NULL flit: what carries acknowledgement and credits when nothing else is to be sent (R382). -/
def State.emitNull (s : State) (n : Nat) : State :=
  s.emitAs n ⟨(s.link n).next, 0, 0, 0, false, false, false, 0, 0, 0, []⟩ (.flit n)

/-- A flit goes out, and after 2,047 without one a NULL (R382). -/
def State.emitFlit (s : State) (n : Nat) (f : Flit) : State :=
  let t := s.emitAs n f (.flit n)
  if 2047 ≤ (t.link n).sinceNull then t.emitNull n else t

/-- A LINK flit with an operation (R382). -/
def State.emitLink (s : State) (n : Nat) (payload : List Byte) : State :=
  s.emitFlit n ⟨(s.link n).next, 0, 2, 0, false, false, false, payload.length, 0, 0, payload⟩

/-- START (R379, R382). -/
def State.emitStart (s : State) (n : Nat) : State := s.emitLink n [3]

/-- RECOVER (R381, R382). -/
def State.emitRecover (s : State) (n : Nat) : State := s.emitLink n [4]

/-- HELLO (R379, R382). -/
def State.emitHello (s : State) (n : Nat) (h : Hello) : State :=
  s.emitAs n ⟨(s.link n).next, 0, 2, 0, false, false, false, 1, 0, 0, [2]⟩ (fun f => .hello n f h)

/-- Receive buffers of a VC are free again: their credits are owed (R382, R384). -/
def State.oweVc (s : State) (n vc flits : Nat) : State :=
  let x := s.link n
  s.setLink n { x with owed := bumpAt x.owed vc (fun v => v + flits) }

/-- RETRY_REQ with the expected SEQ (R382, R383). -/
def State.emitRetryReq (s : State) (n : Nat) : State := s.emitLink n (1 :: leBytes 2 (s.link n).expect)

/-- Flits that wait are sent while their VC has a credit and the retry buffer has room (R383, R384); one that is forwarded frees its
receive buffer (R391). `fuel` bounds them. -/
def State.pump (n : Nat) : Nat → State → State
  | 0, s => s
  | fuel + 1, s =>
    let x := s.link n
    if s.portState n != 5 || retrySize ≤ x.retry.length then s
    else
      match x.queue.findIdx? (fun e => 0 < x.credits.getD e.1.vc 0) with
      | none => s
      | some i =>
        match x.queue[i]? with
        | none => s
        | some (f, origin) =>
          let g := { f with seq := x.next }
          let s1 := ((s.setLink n { x with
            next := (x.next + 1) % 65536
            retry := x.retry ++ [g]
            credits := bumpAt x.credits f.vc (fun c => c - 1)
            queue := x.queue.eraseIdx i }).emitFlit n g).wrapAdd Fld.PORT_TX_FLITS_FLITS n 1
          State.pump n fuel (match origin with
            | some (p, v) => s1.oweVc p v 1
            | none => s1)

/-- Send what can be sent. -/
def State.pumpAll (s : State) (n : Nat) : State := State.pump n (s.link n).queue.length s

/-- Cut message bytes into payloads of at most 240 B. -/
def chunks : Nat → List Byte → List (List Byte)
  | 0, _ => []
  | k + 1, bs => if bs.length ≤ 240 then [bs] else bs.take 240 :: chunks k (bs.drop 240)

/-- The flits of a message on a virtual channel (R382, R384). -/
def flitsOf (m : Msg) (vc : Nat) : List Flit :=
  let cs := chunks 64 m.bytes
  cs.zipIdx.map (fun e =>
    ⟨0, 0, 1, vc, e.2 = 0, e.2 + 1 = cs.length, false, e.1.length, 0, 0, e.1⟩)

/-- Does a message that is forwarded while it arrives own a VC of a port (R391)? -/
def State.vcOwned (s : State) (n vc : Nat) : Bool := s.cuts.any (fun c => c.out = n && c.outVc = vc && !c.dead)

/-- Whole messages' flits are queued on a port, behind a message that owns their VC (R384, R391). -/
def State.putFlits (s : State) (n vc : Nat) (fs : List (Flit × Option (Nat × Nat))) : State :=
  let x := s.link n
  if s.vcOwned n vc then s.setLink n { x with behind := x.behind ++ fs }
  else (s.setLink n { x with queue := x.queue ++ fs }).pumpAll n

/-- A message is queued on a port (R384): VC = 2 × class + DL. -/
def State.enqueue (s : State) (n : Nat) (m : Msg) (dl : Nat) : State :=
  s.putFlits n (2 * m.body.cls + dl) ((flitsOf m (2 * m.body.cls + dl)).map (fun f => (f, none)))

/-- A message that has arrived whole, in `k` flits on a VC of a port, is queued to be forwarded: its flits hold their receive buffers
until they leave (R384, R391). -/
def State.enqueueOn (s : State) (n : Nat) (m : Msg) (dl p v k : Nat) : State :=
  s.putFlits n (2 * m.body.cls + dl)
    ((flitsOf m (2 * m.body.cls + dl)).zipIdx.map (fun e => (e.1, if e.2 < k then some (p, v) else none)))

/-- The acknowledgement and the credits that a flit carries (R382, R383). -/
def State.takeAck (s : State) (n : Nat) (f : Flit) : State :=
  let x := s.link n
  let rest := match x.retry.findIdx? (fun g => g.seq = f.ack) with
    | some i => if f.ackValid then x.retry.drop (i + 1) else x.retry
    | none => x.retry
  let y := { x with
    retry := rest
    tries := if rest.length < x.retry.length then 0 else x.tries
    credits := bumpAt x.credits f.crVc (fun c => c + f.crCount) }
  (s.setLink n y).pumpAll n

/-- The acknowledgement and the credits in the header of a HELLO, START or RECOVER (R382); before START they have no meaning. -/
def State.takeSide (s : State) (n : Nat) (a : LinkSide) : State :=
  if s.portState n = 5 || s.portState n = 6 then
    s.takeAck n ⟨0, a.ack.getD 0, 2, 0, false, false, a.ack.isSome, 0, a.crVc.val, a.crCount, []⟩
  else s

/-- The port enters RECOVERY: flits, sequence numbers and credits are kept (R378, R385). -/
def State.enterRecovery (s : State) (n : Nat) : State := (s.setPortState n 6).bump Fld.PORT_COUNT_RECOVERIES n 1

/-- The kept flits from place `i` on are sent again; where RETRY_LIMIT resends in succession have not advanced ACK, the
port enters RECOVERY instead (R383). -/
def State.resend (s : State) (n i : Nat) : State :=
  let x := s.link n
  if s.fld Fld.PORT_CFG_RETRY_LIMIT n ≤ x.tries then (s.setLink n { x with tries := 0 }).enterRecovery n
  else
    ((x.retry.drop i).foldl (fun s f => s.emitFlit n f) (s.setLink n { x with tries := x.tries + 1 })).bump
      Fld.PORT_COUNT_RETRIES n 1

/-- What a port tells its neighbour (R379). -/
def State.helloOf (s : State) (n : Nat) : Hello where
  module := s.moduleId
  port := n
  role := s.role n
  verMin := 1
  verMax := 1
  lanes := BitVec.ofNat 8 (s.fld Fld.PORT_STATUS_LANE_LOCK n)
  shares := [s.fld Fld.PORT_SHARE0_VC0 n, s.fld Fld.PORT_SHARE0_VC1 n, s.fld Fld.PORT_SHARE0_VC2 n,
    s.fld Fld.PORT_SHARE0_VC3 n, s.fld Fld.PORT_SHARE1_VC4 n, s.fld Fld.PORT_SHARE1_VC5 n,
    s.fld Fld.PORT_SHARE1_VC6 n, s.fld Fld.PORT_SHARE1_VC7 n]
  nonce := s.reg .bootNonce0 0

/-- The link of a port is cleared: retry buffer, receive buffers and queued messages are lost (R385). -/
def State.clearLink (s : State) (n : Nat) : State :=
  ((((s.setLink n Link.init).setFld Fld.PORT_STATUS_VERSION n 0).setFld Fld.PORT_STATUS_NEIGHBOUR n 0).setFld
    Fld.PORT_STATUS_NEIGHBOUR_PORT n 0).setFld Fld.PORT_STATUS_LANE_LOCK n 0

/-- Do lanes give a width of R380: all eight, or a half where degraded operation is permitted? -/
def widthOf (degrade : Bool) (lanes : BitVec 8) : Option Bool :=
  if lanes = 0xFF#8 then some false
  else if degrade && (lanes &&& 0x0F#8 = 0x0F#8 || lanes &&& 0xF0#8 = 0xF0#8) then some true
  else none

/-- The flits queued on a port (R387). -/
def Link.queued (x : Link) : Nat := x.queue.length + x.behind.length

/-- The bond: the ports of role 3 (R387). -/
def State.bondPorts (s : State) : List Nat := (List.range 12).filter (fun n => s.role n = 3)

/-- The members of the bond that are active. -/
def State.bondActive (s : State) : List Nat := s.bondPorts.filter (fun n => s.portState n = 5)

/-- The member of the bond that a message takes: that with fewer flits queued, the lower one on a tie (R387). -/
def State.bondPick (s : State) : Option Nat :=
  s.bondActive.foldl (fun b n =>
    match b with
    | none => some n
    | some k => if (s.link n).queued < (s.link k).queued then some n else some k) none

/-- A pair message goes out on the bond; with the bond down it is lost (R385, R390). -/
def State.bondSend (s : State) (m : Msg) : State :=
  match s.bondPick with
  | some n => s.enqueue n m 0
  | none => s

/-- The header of a message that this module originates (R393). -/
def State.headTo (s : State) (dest : Nat) : MsgHead := ⟨false, false, 0, dest, s.moduleId, s.fld Fld.ROUTE_PORTS_TTL 0⟩

/-- A dimension's coordinate of an identifier (R389). -/
def State.coord (s : State) (id d : Nat) : Nat :=
  let sx := s.fld Fld.ROUTE_DIM_SX_M1 0 + 1
  let sy := s.fld Fld.ROUTE_DIM_SY_M1 0 + 1
  match d with
  | 0 => id % sx
  | 1 => id / sx % sy
  | _ => id / (sx * sy)

/-- The size of a dimension. -/
def State.dimSize (s : State) : Nat → Nat
  | 0 => s.fld Fld.ROUTE_DIM_SX_M1 0 + 1
  | 1 => s.fld Fld.ROUTE_DIM_SY_M1 0 + 1
  | _ => s.fld Fld.ROUTE_DIM_SZ_M1 0 + 1

/-- The port of a direction (R405). -/
def State.dimPort (s : State) (d : Nat) (plus : Bool) : Nat :=
  s.fld (match d, plus with
    | 0, true => Fld.ROUTE_PORTS_XP
    | 0, false => Fld.ROUTE_PORTS_XM
    | 1, true => Fld.ROUTE_PORTS_YP
    | 1, false => Fld.ROUTE_PORTS_YM
    | _, true => Fld.ROUTE_PORTS_ZP
    | _, false => Fld.ROUTE_PORTS_ZM) 0

/-- The dimension of an arrival port: none for a message that the module originates (R389). -/
def State.portDim (s : State) (n : Option Nat) : Option Nat :=
  n.bind (fun n => (List.range 3).find? (fun d => s.dimPort d true = n || s.dimPort d false = n))

/-- Where a message goes (R389): a port with its DL, or no route. -/
inductive Route where
  | own
  | port (n dl : Nat)
  | none
deriving DecidableEq, Repr

/-- The override entry that matches a destination first (R389). -/
def State.override (s : State) (dest : Nat) : Option Nat :=
  ((List.range 64).find? (fun i => s.flag Fld.ROUTE_OVR_VALID i &&
    (dest ^^^ s.fld Fld.ROUTE_OVR_MATCH i) &&& s.fld Fld.ROUTE_OVR_MASK i = 0)).map (s.fld Fld.ROUTE_OVR_PORT)

/-- May a routed message leave by port `n`: a port of role 1 that is ACTIVE or in RECOVERY (R389)? -/
def State.usable (s : State) (n : Nat) : Bool := n < 12 && s.role n = 1 && (s.portState n = 5 || s.portState n = 6)

/-- The route of a message by its destination, DL and arrival port (R389). -/
def State.route (s : State) (dest dl : Nat) (from_ : Option Nat) : Route :=
  if dest = s.moduleId then .own
  else
    match s.override dest with
    | some 12 =>
      match s.bondPick with
      | some n => .port n dl
      | none =>
        match s.bondPorts.find? (fun n => s.portState n = 6) with
        | some n => .port n dl
        | none => .none
    | some n => if s.usable n then .port n dl else .none
    | none =>
      if s.dimSize 0 * s.dimSize 1 * s.dimSize 2 ≤ dest then .none
      else
        match (List.range 3).find? (fun d => s.coord s.moduleId d != s.coord dest d) with
        | none => .none
        | some d =>
          let a := s.coord s.moduleId d
          let b := s.coord dest d
          let sz := s.dimSize d
          let torus := (s.fld Fld.ROUTE_DIM_TORUS 0).testBit d
          let plus := if torus then (b + (sz - a % sz)) % sz ≤ sz / 2 else a < b
          let dl1 := if s.portDim from_ = some d then dl else 0
          let dl2 := if torus && ((plus && a + 1 = sz) || (!plus && a = 0)) then 1 else dl1
          let n := s.dimPort d plus
          if s.usable n then .port n dl2 else .none

/-- The DETAIL of a message event (R480). -/
def msgDetail (m : Msg) : Nat := m.head.dest + 65536 * m.head.src + 2 ^ 32 * m.body.kind

/-- The reply of status NO_ROUTE to a request that is discarded (R392); none for any other message. -/
def State.noRouteReply (s : State) (m : Msg) : Option Msg :=
  match m.body with
  | .remoteWrite tag .. => some ⟨{ s.headTo m.head.src with writeCpl := true, attempt := m.head.attempt }, .readReply tag 7 []⟩
  | .remoteRead tag .. => some ⟨{ s.headTo m.head.src with attempt := m.head.attempt }, .readReply tag 7 []⟩
  | _ => none

/-- Send a message by its route, without an answer where it has none; one to this module is kept for local delivery (R389). -/
def State.tryRoute (s : State) (m : Msg) (dl : Nat) (from_ : Option Nat) : Option State :=
  match s.route m.head.dest dl from_ with
  | .port n dl => some (s.enqueue n m dl)
  | .own => some { s with selfMsgs := s.selfMsgs ++ [m] }
  | .none => none

/-- A message that cannot go on is discarded and counted; a request is answered where the answer has a route, and an answer without one is
discarded and counted too (R392). -/
def State.dropMsg (s : State) (f : Fld) (count : Fld) (c : Code) (m : Msg) : State :=
  let s1 := (s.bump count 0 1).flagEvent f 0 c 0 0 (msgDetail m)
  match s1.noRouteReply m with
  | none => s1
  | some r =>
    if m.head.src = s.moduleId then s1
    else match s1.tryRoute r 0 none with
      | some t => t
      | none => (s1.bump Fld.PAUNE_MSG_COUNT_NO_ROUTE_DROPS 0 1).flagEvent Fld.PAUNE_MSG_ERR_NO_ROUTE 0 .msgNoRoute 0 0 (msgDetail r)

/-- Post a routed message that this module originates; an own message with no route is discarded (R389, R392). -/
def State.post (s : State) (m : Msg) : State :=
  (s.tryRoute m 0 none).getD (s.dropMsg Fld.PAUNE_MSG_ERR_NO_ROUTE Fld.PAUNE_MSG_COUNT_NO_ROUTE_DROPS .msgNoRoute m)

/-- A malformed message is discarded, counted and never answered (R393); `detail` tells of its DEST, SRC and TYPE. -/
def State.malformedAs (s : State) (detail : Nat) : State :=
  (s.bump Fld.PAUNE_MSG_COUNT_MALFORMED 0 1).flagEvent Fld.PAUNE_MSG_ERR_MALFORMED 0 .msgMalformed 0 0 detail

/-- A malformed message. -/
def State.malformed (s : State) (m : Msg) : State := s.malformedAs (msgDetail m)

/-- An answer is given: a READ_REPLY is posted, anything else is sent as it is. -/
def State.answer (s : State) : OutMsg → State
  | .reply m => s.post m
  | m => s.send m

/-- A write completes with `m` once every notice it caused has been accepted and the mirror log has its message (R225,
R412). -/
def State.finishWrite (s : State) (w : Writer) (m : OutMsg) : State :=
  if s.writeWaits w then { s with openWrites := s.openWrites ++ [(w, m)] } else s.answer m

/-- Give the answers of the writes that nothing holds any more. -/
def State.closeWrites (s : State) : State :=
  (s.openWrites.filter (fun e => !s.writeWaits e.1)).foldl (fun s e => s.answer e.2)
    { s with openWrites := s.openWrites.filter (fun e => s.writeWaits e.1) }

end Sys2Proof.Machine
end

