-- ==== Sys2Proof/Machine/Home.lean ====
section
/-! DEFINITION. Objects and their homes: the directory and the home table (R261, R262), translation (R263), the parapets
(R367, R368), pool frames (R269), and the forwarding of writes into mirrored objects (R411-R413). -/
namespace Sys2Proof.Machine

/-- The directory record of an object (R261). -/
def State.object (s : State) (n : Nat) : ObjRec := s.objects.look (fun _ => ObjRec.init) n

/-- Set a directory record. -/
def State.setObject (s : State) (n : Nat) (x : ObjRec) : State :=
  { s with objects := s.objects.put (fun _ => ObjRec.init) n x }

/-- A home-table entry (R262). -/
def State.home (s : State) (i : Nat) : HomeEntry := s.homes.look (fun _ => HomeEntry.init) i

/-- Set a home-table entry. -/
def State.setHome (s : State) (i : Nat) (x : HomeEntry) : State :=
  { s with homes := s.homes.put (fun _ => HomeEntry.init) i x }

/-- A window context (R276). -/
def State.window (s : State) (i : Nat) : Window := s.windows.look (fun _ => Window.closed s.startEpoch) i

/-- Set a window context. -/
def State.setWindow (s : State) (i : Nat) (x : Window) : State :=
  { s with windows := s.windows.put (fun _ => Window.closed s.startEpoch) i x }

/-- The access that a translation is for (R263): a program's read or write, or an access that PERM does not bind. -/
inductive Access where
  | read
  | write
  | other
deriving DecidableEq, Repr

/-- Does a record's PERM permit an access (R261, R263)? -/
def ObjRec.permits (d : ObjRec) : Access → Bool
  | .read => d.perm % 2 = 1
  | .write => d.perm / 2 = 1
  | .other => true

/-- Where a byte of an object lies: a device address, or an offset in a remote window. -/
inductive Where where
  | mem (addr : Nat)
  | remote (module window : Nat) (epoch : BitVec 32) (offset : Nat)
deriving DecidableEq, Repr

/-- The result of a translation (R263). -/
inductive Xlate where
  | fault (c : Code)
  | wait (entry : Nat)
  | bringUp (entry : Nat)
  | at (w : Where) (poison : Bool) (entry : Nat)
deriving DecidableEq, Repr

/-- The home-table entry of offset `o` of an object. -/
def ObjRec.entryOf (d : ObjRec) (o : Nat) : Nat := d.first + o / 2 ^ d.extentLog2

/-- Translate offset `o` of object `n` (R263). -/
def State.translate (s : State) (n o : Nat) (a : Access) : Xlate :=
  let d := s.object n
  if !d.valid || d.size ≤ o then .fault .xlateFault
  else
    let i := d.entryOf o
    let e := s.home i
    if !e.valid then .fault .xlateFault
    else if !d.permits a then .fault .permFault
    else if e.moving then .wait i
    else if e.tier = 1 && d.pooled then .bringUp i
    else
      let k := e.loc + o % 2 ^ d.extentLog2
      .at (if e.tier = 2 then .remote e.module (e.backing / 2 ^ 32) (BitVec.ofNat 32 e.backing) k else .mem k) e.poison i

/-- Translate `n` bytes at offset `o` of an object, all of which one extent holds (R263): a byte beyond the object's size faults. A
part of a tile never crosses an extent where a stream's descriptor is one that R194 allows (log 126). -/
def State.translateAll (s : State) (object o n : Nat) (a : Access) : Xlate :=
  if (s.object object).valid && (s.object object).size < o + n then .fault .xlateFault else s.translate object o a

/-- A translation through an entry brings its AGE up to date (R262, R263). -/
def State.touch (s : State) (i : Nat) : State :=
  let e := s.home i
  if 2 ^ Fld.HOME_CFG_AGE_GRAIN_LOG2.ofWord s.poolCfg ≤ (s.now - e.age).toNat then s.setHome i { e with age := s.now } else s

/-- A translation has found a pooled extent in host memory (R271). -/
def State.askBringUp (s : State) (i : Nat) : State :=
  if s.bringUps.contains i then s else { s with bringUps := s.bringUps ++ [i] }

/-- Does a parapet cover a byte of `n` bytes at offset `o` of an object (R367, R368)? -/
def State.parapetHit (s : State) (object o n : Nat) : Bool :=
  s.parapets.any (fun p => p.object = object && o < 128 * p.hi && 128 * p.lo < o + n)

/-- Does a parapet cover an object? -/
def State.underParapet (s : State) (object : Nat) : Bool := s.parapets.any (fun p => p.object = object)

/-- A local write is refused by a parapet: PARAPET_WRITE (R368, R373). -/
def State.parapetWrite (s : State) (p : PierIx) (object o : Nat) : State :=
  let t := s.fld Fld.PCTL_SLOT_SLOT p.val
  ((s.bump Fld.PARAPET_COUNT_LOCAL_REFUSED 0 1).flagEvent Fld.PARAPET_ERR_PARAPET_WRITE 0 .parapetWrite 1 p.val
    (object % 2 ^ 22 + o % 2 ^ 40 * 2 ^ 22)).recordFault p t .parapetWrite

/-- The pool frame of an address: 2 MiB (R269). -/
def frameOf (a : Nat) : Nat := a / 2 ^ 21

/-- The frames that an extent touches. -/
def framesOf (loc size : Nat) : List Nat :=
  if size = 0 then [] else (List.range (frameOf (loc + size - 1) + 1 - frameOf loc)).map (frameOf loc + ·)

/-- The entries of an object in order with their numbers. -/
def State.entriesOf (s : State) (n : Nat) : List (Nat × HomeEntry) :=
  (List.range (s.object n).count).map (fun k => ((s.object n).first + k, s.home ((s.object n).first + k)))

/-- The stack extents of the objects of a kind, with their sizes. -/
def State.stackExtents (s : State) (pooled : Bool) : List (Nat × Nat) :=
  (s.objects.filter (fun o => o.2.valid && o.2.pooled = pooled)).flatMap (fun o =>
    ((s.entriesOf o.1).filter (fun e => e.2.valid && e.2.tier = 0)).map (fun e => (e.2.loc, 2 ^ o.2.extentLog2)))

/-- The frames of moves in progress towards the stacks. -/
def State.movingFrames (s : State) : List Nat :=
  (s.moves.filter (fun m => m.tier = 0)).flatMap (fun m => framesOf m.loc (2 ^ (s.object m.object).extentLog2))

/-- Is a frame a free frame of the pool: of a hashed block of 0 to 1,022, covered by no pinned extent and holding no
pooled one (R269)? -/
def State.frameFree (s : State) (f : Nat) : Bool :=
  f < 523776 && !s.stackLocal (f / 512) &&
  !(s.stackExtents true ++ s.stackExtents false).any (fun e => (framesOf e.1 e.2).contains f) &&
  !s.movingFrames.contains f

/-- Pool frames that hold pooled extents (R284). -/
def State.pooledFrames (s : State) : Nat := ((s.stackExtents true).flatMap (fun e => framesOf e.1 e.2)).eraseDups.length

/-- The free frames of the pool (R269, R284). -/
def State.freeFrames (s : State) : Nat :=
  let total := 512 * ((List.range 1023).filter (fun b => !s.stackLocal b)).length
  let used := ((s.stackExtents true ++ s.stackExtents false).flatMap (fun e => framesOf e.1 e.2) ++ s.movingFrames).filter
    (fun f => f < 523776 && !s.stackLocal (f / 512))
  total - used.eraseDups.length

/-- Does this module forward writes into its mirrored objects: PAIRED, HELD, or FORMING and the sender of a REJOIN once their
checks have passed and the sequencer runs (R410, R411, R426, R431)? -/
def State.forwarding (s : State) : Bool :=
  let p := s.fld Fld.PAIR_STATUS_STATE 0
  p = 2 || p = 3 || ((p = 1 || (p = 5 && s.rejoinSender)) && s.pairing.checked)

/-- The object that a MIRROR_WRITE names for an own object: its own number, or in a pair that a rejoin has made the mate's
(R431; log 34). -/
def State.mirrorName (s : State) (n : Nat) : Nat := ((s.pairing.names.find? (fun e => e.1 = n)).map Prod.snd).getD n

/-- Is a write into an object forwarded: a mirrored object, and for the sender of a rejoin a promoted copy (R411, R431)? -/
def State.mirrored (s : State) (n : Nat) : Bool :=
  s.forwarding && ((s.object n).mirror || (s.rejoinSender && s.promoted.contains n))

/-- Is an object of this module a mirror copy that the mate's mirroring writes (R408)? -/
def State.isMirrorCopy (s : State) (n : Nat) : Bool := s.pairing.copies.any (fun e => e.2 = n)

/-- Entries of the mirror log (R413). -/
def mirrorLogSize : Nat := 32768

/-- PAIR_LOG follows the log (R435). -/
def State.countLog (s : State) : State :=
  let n := s.mirrorLog.length
  (s.setFld Fld.PAIR_LOG_USED 0 n).setFld Fld.PAIR_LOG_HIGH_WATER 0 (max n (s.fld Fld.PAIR_LOG_HIGH_WATER 0))

/-- The message of a logged write (R394). -/
def State.mirrorMsg (s : State) (x : MirrorWrite) : Msg :=
  ⟨{ s.headTo (s.fld Fld.PAIR_STATUS_MATE 0) with poison := x.poison }, .mirrorWrite x.mseq x.object x.offset x.data⟩

/-- The address of the log entry of an MSEQ, 9 KiB each, in the tollhouse's working area (R260, R413); where in it is the model's choice
(DESIGN CHOICE, log 138). -/
def logEntryAddr (mseq : Nat) : Nat := 0xFFCE000000 + 9216 * ((mseq - 1) % mirrorLogSize)

/-- A write gets the next MSEQ, is stored in the log, whose bursts are of the write class, and is sent (R412, R413). -/
def State.logMirror (s : State) (x : MirrorWrite) : State :=
  let n := s.fld Fld.PAIR_MSEQ_OUT_MSEQ 0 + 1
  let y := { x with mseq := n, object := s.mirrorName x.object }
  let s1 := { s.setFld Fld.PAIR_MSEQ_OUT_MSEQ 0 n with mirrorLog := s.mirrorLog ++ [y] }.countLog
  let s2 := (blocksOf (logEntryAddr n) (32 + x.data.length)).foldl (fun s b => s.burst (s.place b) 1 1) s1
  s2.bondSend (s2.mirrorMsg y)

/-- A write into a mirrored object is forwarded; with the log full it waits (R412, R413). -/
def State.forward (s : State) (w : Writer) (x : MirrorWrite) : State :=
  if s.mirrorLog.length < mirrorLogSize && s.mirrorWaits.isEmpty then s.logMirror x
  else { s with mirrorWaits := s.mirrorWaits ++ [(w, x)] }.bump Fld.PAIR_COUNT_LOG_WAITS 0 1

/-- Waiting writes enter the log while it has room. `fuel` bounds them. -/
def State.fillLog : Nat → State → State
  | 0, s => s
  | fuel + 1, s =>
    match s.mirrorWaits with
    | [] => s
    | (_, x) :: r =>
      if s.mirrorLog.length < mirrorLogSize then State.fillLog fuel ({ s with mirrorWaits := r }.logMirror x) else s

/-- Entries up to an MSEQ are freed, and waiting writes go on (R413, R417). -/
def State.freeLog (s : State) (n : Nat) : State :=
  let s1 := { s with mirrorLog := s.mirrorLog.filter (fun x => n < x.mseq) }.countLog
  (State.fillLog s1.mirrorWaits.length s1).closeWrites

end Sys2Proof.Machine
end

