-- ==== Sys2Proof/Machine/Window.lean ====
section
/-! DEFINITION. The window unit: the checks of a remote access (R277-R280), its effect (R225, R236, R368, R397), and its
answer (R396). -/
namespace Sys2Proof.Machine

/-- What a remote access names. -/
structure RemoteAccess where
  write : Bool
  tag : Nat
  epoch : Nat
  step : Nat
  offset : Nat
  window : Nat
  len : Nat
  data : List Byte
deriving DecidableEq, Repr

/-- The remote access of a message. -/
def accessOf (m : Msg) : Option RemoteAccess :=
  match m.body with
  | .remoteWrite tag epoch step offset window data => some ⟨true, tag, epoch, step, offset, window, data.length, data⟩
  | .remoteRead tag epoch offset window length => some ⟨false, tag, epoch, 0, offset, window, 128 * length, []⟩
  | _ => none

/-- A run of bytes of an object that one extent holds: its offset, its length and its translation. -/
structure Run where
  offset : Nat
  len : Nat
  xlate : Xlate
deriving DecidableEq, Repr

/-- The runs of `n` bytes at offset `o` of an object, extent by extent (R263): a run of which a byte lies beyond the object's size does
not translate. -/
def State.runsOf (s : State) (object o n : Nat) (a : Access) : List Run :=
  let z := 2 ^ (s.object object).extentLog2
  if n = 0 then [] else
    (List.range ((o + n - 1) / z + 1 - o / z)).map (fun k =>
      let lo := max o (z * (o / z + k))
      let len := min (o + n) (z * (o / z + k + 1)) - lo
      ⟨lo, len, s.translateAll object lo len a⟩)

/-- Does a translation fail for a remote access: a fault, or a home that is itself in a remote window (DESIGN CHOICE, log
5)? -/
def Run.bad (r : Run) : Bool :=
  match r.xlate with
  | .fault _ => true
  | .at (.remote ..) _ _ => true
  | _ => false

/-- Does a run wait for a move or a bring-up (R267, R271)? -/
def Run.waits (r : Run) : Bool :=
  match r.xlate with
  | .wait _ => true
  | .bringUp _ => true
  | _ => false

/-- Does a run lie in an extent that has lost data (R263)? -/
def Run.poisoned (r : Run) : Bool :=
  match r.xlate with
  | .at _ bad _ => bad
  | _ => false

/-- Do the stacks keep a run waiting (R231)? -/
def State.runBlocked (s : State) (r : Run) : Bool :=
  match r.xlate with
  | .at (.mem a) _ _ => s.blocked a r.len
  | _ => false

/-- Does an access that waits for a translation stand before one of `n` bytes at offset `o` of an object in the order of their blocks
(R224)? -/
def State.behindRemote (s : State) (object o n : Nat) : Bool :=
  s.windowWaits.any (fun w => match accessOf w.msg with
    | some x => w.object = object && shareBlock (w.base + x.offset) x.len o n
    | none => false)

/-- The bytes of the stacks that a run is translated to: the range at whose gates it arrives. -/
def Run.range (r : Run) : Option (Nat × Nat) :=
  match r.xlate with
  | .at (.mem a) _ _ => if inStacks a then some (a, r.len) else none
  | _ => none

/-- The bring-ups that runs ask for (R271). -/
def State.askRuns (s : State) (rs : List Run) : State :=
  rs.foldl (fun s r => match r.xlate with
    | .bringUp i => s.askBringUp i
    | _ => s) s

/-- The AGEs of the entries of runs (R263). -/
def State.touchRuns (s : State) (rs : List Run) : State :=
  rs.foldl (fun s r => match r.xlate with
    | .at _ _ i => s.touch i
    | _ => s) s

/-- Poisoned data has no place in host memory: zeros are written, and MOVE_POISON is raised with the destination (R275). -/
def State.hostPoison (s : State) (a n object o : Nat) : State :=
  (s.writeBytes a (List.replicate n 0)).flagEvent Fld.HOME_ERR_MOVE_POISON 0 .movePoison 0 0
    (object % 2 ^ 22 + o % 2 ^ 40 * 2 ^ 22)

/-- The pieces of 8 KiB of `n` bytes, by their offsets: the tiles of a move, the runs of a save. -/
def tileOffsets (n : Nat) : List Nat := (List.range ((n + 8191) / 8192)).map (8192 * ·)

/-- Write bytes to a local home: a stack through its gates, or host memory. Whether some block is stored poison. -/
def State.homeWrite (s : State) (w : Writer) (cls a : Nat) (bs : List Byte) (bad : Bool) (object o : Nat) : Bool × State :=
  if inStacks a then s.gateWrite w cls a bs bad none
  else if bad then (false, s.hostPoison a bs.length object o)
  else (false, s.writeBytes a bs)

/-- A write into a mirrored object is forwarded, one message for each granule of its home (R395, R411). -/
def State.forwardRun (s : State) (w : Writer) (object o a : Nat) (bs : List Byte) (bad : Bool) : State :=
  if s.mirrored object then
    (granulesOf a bs.length).foldl (fun s g =>
      s.forward w ⟨0, object, o + (g.1 - a), (bs.drop (g.1 - a)).take g.2, bad⟩) s
  else s

/-- The answer to a remote request (R396). -/
def State.replyTo (s : State) (m : Msg) (writeCpl bad : Bool) (tag status : Nat) (data : List Byte) : Msg :=
  ⟨{ s.headTo m.head.src with writeCpl := writeCpl, poison := bad, attempt := m.head.attempt }, .readReply tag status data⟩

/-- The first check of R278 that fails before translation: its status and counter. -/
def State.windowCheck (s : State) (src : Nat) (x : RemoteAccess) : Option (Nat × Fld) :=
  let w := s.window x.window
  if !w.isOpen || w.epoch.toNat != x.epoch then some (1, Fld.WINDOW_COUNT_CLOSED_DROPS)
  else if !(if x.write then w.wr else w.rd) || !(w.source = 0xFFFF || w.source = src) then
    some (2, Fld.WINDOW_COUNT_PERM_DROPS)
  else if w.length < x.offset + x.len then some (3, Fld.WINDOW_COUNT_RANGE_DROPS)
  else none

/-- Refuse a remote access (R278, R280). -/
def State.refuseRemote (s : State) (m : Msg) (x : RemoteAccess) (status : Nat) (count : Fld) : State :=
  (s.bump count 0 1).post (s.replyTo m x.write false x.tag status [])

/-- A REMOTE_WRITE whose every byte translates is applied whole, after the step (R279, R397); one into an extent that has lost data is
answered as an uncorrectable error with no request made (R263). -/
def State.applyRemote (s : State) (m : Msg) (x : RemoteAccess) (object o : Nat) (rs : List Run) : State :=
  let skew := x.step != s.stepNo
  let s1 := if skew then
      let s2 := s.bump Fld.PAUNE_MSG_COUNT_STEP_DROPS 0 1
      if s2.flag Fld.PAUNE_MSG_ERR_STEP_SKEW 0 then s2
      else (s2.setFld Fld.PAUNE_MSG_ERR_STEP_SKEW 0 1).notify .stepSkew 1 1 0 0 (x.step + 2 ^ 32 * m.head.src)
    else s
  if skew && !(s.launched && s.lenient) then s1.post (s.replyTo m true false x.tag 6 [])
  else if rs.any Run.poisoned then (s1.touchRuns rs).post (s.replyTo m true false x.tag 4 [])
  else
    let w : Writer := .remote m.head.src x.tag x.window
    let y := rs.foldl (fun acc r =>
      match r.xlate with
      | .at (.mem a) _ _ =>
        let bs := (x.data.drop (r.offset - o)).take r.len
        let z := State.homeWrite acc.2 w 2 a bs m.head.poison object r.offset
        (acc.1 || z.1, z.2.forwardRun w object r.offset a bs m.head.poison)
      | _ => acc) (false, s1.touchRuns rs)
    y.2.finishWrite w (.reply (s.replyTo m true false x.tag (if y.1 then 4 else 0) []))

/-- A REMOTE_READ whose every byte translates returns the data as ordered at the gates (R280); an extent that has lost data is answered
as an uncorrectable error with no request made (R263). -/
def State.answerRead (s : State) (m : Msg) (x : RemoteAccess) (rs : List Run) : State :=
  let y := rs.foldl (fun acc r =>
    match r.xlate with
    | .at (.mem a) bad _ =>
      let z := if inStacks a && !bad then State.gateRead acc.2.2 2 a r.len none else (bad, acc.2.2)
      (acc.1 || z.1, acc.2.1 ++ (if bad then List.replicate r.len 0 else z.2.bytes a r.len), z.2)
    | _ => acc) (false, ([], s.touchRuns rs))
  y.2.2.post (s.replyTo m false y.1 x.tag (if y.1 then 4 else 0) y.2.1)

/-- A remote access that has passed its window's checks, of the object and at the BASE that the window had then: refused where it does not
translate, or, when it is first looked at, where a parapet covers a byte that it writes (R368); kept waiting by a move or a bring-up
(R267), or at the gates by a stopped stack or an access before it (R224, R231); else performed. What waits has been checked (R279). -/
def State.passRemote (s : State) (w : WindowWait) (x : RemoteAccess) (first : Bool) : State :=
  let o := w.base + x.offset
  let rs := s.runsOf w.object o x.len .other
  if rs.any Run.bad then s.refuseRemote w.msg x 3 Fld.WINDOW_COUNT_RANGE_DROPS
  else if first && x.write && s.parapetHit w.object o x.len then
    (s.bump Fld.PARAPET_COUNT_REMOTE_REFUSED 0 1).post (s.replyTo w.msg true false x.tag 5 [])
  else if rs.any Run.waits || s.behindRemote w.object o x.len then
    { s.askRuns rs with windowWaits := s.windowWaits ++ [{ w with ranges := [] }] }
  else if rs.any s.runBlocked then { s with hostWaits := s.hostWaits ++ [.remote { w with ranges := rs.filterMap Run.range }] }
  else if x.write then s.applyRemote w.msg x w.object o rs
  else s.answerRead w.msg x rs

/-- A remote access arrives whole at the window unit (R278, R280). -/
def State.remoteArrives (s : State) (m : Msg) : State :=
  match accessOf m with
  | none => s
  | some x =>
    match s.windowCheck m.head.src x with
    | some (status, count) => s.refuseRemote m x status count
    | none => s.passRemote ⟨m, (s.window x.window).object, (s.window x.window).base, []⟩ x true

/-- A remote access that has waited is tried again: its window and the parapets have let it pass (R279). -/
def State.retryRemote (s : State) (w : WindowWait) : State :=
  match accessOf w.msg with
  | some x => s.passRemote w x false
  | none => s

/-- The remote accesses that waited for a translation try again, in order (R267). -/
def State.wakeWindows (s : State) : State := s.windowWaits.foldl State.retryRemote { s with windowWaits := [] }

/-- The remote writes that have passed their checks and wait. -/
def State.waitingWrites (s : State) : List (WindowWait × RemoteAccess) :=
  (s.windowWaits ++ s.hostWaits.filterMap (fun q => match q with
    | .remote w => some w
    | .request _ => none)).filterMap (fun w => ((accessOf w.msg).filter RemoteAccess.write).map (fun x => (w, x)))

/-- Is a write that passed the checks of a window not complete (R279)? -/
def State.windowBusy (s : State) (i : Nat) : Bool :=
  s.waitingWrites.any (fun e => e.2.window = i) ||
  s.openWrites.any (fun e => match e.1 with
    | .remote _ _ w => w = i
    | _ => false)

end Sys2Proof.Machine
end

