-- ==== Sys2Proof/Machine/Approach.lean ====
section
/-! DEFINITION. The approach and copy engines' fetches: the walk of a descriptor (R192-R194), the parts of a tile with their
requests and watch entries (R196, R202), tags (R195, R197, R198), deferred faults (R199), and the landing of a tile. -/
namespace Sys2Proof.Machine

/-- A stream or copy descriptor (R216, R273). -/
structure Walk where
  valid : Bool
  watch : Bool
  side : Bool
  orient : Bool
  region : RegionIx
  depth : Nat
  gang : Nat
  fmt : Fmt
  count : Nat
  object : Nat
  base : Nat
  rowStride : Nat
  n0 : Nat
  n1 : Nat
  s0 : Nat
  s1 : Nat
  s2 : Nat
  extBase : Nat
  lo : Nat
  hi : Nat
  sideBase : Nat
  dirOut : Bool
deriving DecidableEq, Repr

/-- A region number. -/
def regionOf (n : Nat) : RegionIx := ⟨n % 64, Nat.mod_lt _ (by decide)⟩

/-- The number of a copy descriptor: 8 · pier + descriptor. -/
def copyIx (p : PierIx) (d : Fin 8) : Nat := 8 * p.val + d.val

/-- The descriptor of stream `j` (R216). -/
def State.streamWalk (s : State) (j : Nat) : Walk where
  valid := s.flag Fld.STREAM_DESC0_VALID j
  watch := s.flag Fld.STREAM_DESC0_WATCH j
  side := s.flag Fld.STREAM_DESC0_SIDE_MODE j
  orient := s.flag Fld.STREAM_DESC0_ORIENT j
  region := regionOf (s.fld Fld.STREAM_DESC0_REGION j)
  depth := s.fld Fld.STREAM_DESC0_DEPTH j
  gang := s.fld Fld.STREAM_DESC0_GANG j
  fmt := (fmtOfTag (s.fld Fld.STREAM_DESC0_FMT j)).getD .bf16
  count := s.fld Fld.STREAM_DESC0_COUNT j
  object := s.fld Fld.STREAM_DESC1_OBJECT j
  base := s.fld Fld.STREAM_DESC1_BASE j
  rowStride := s.fld Fld.STREAM_DESC2_ROW_STRIDE j
  n0 := s.fld Fld.STREAM_DESC2_N0 j
  n1 := s.fld Fld.STREAM_DESC2_N1 j
  s0 := s.fld Fld.STREAM_DESC3_S0 j
  s1 := s.fld Fld.STREAM_DESC3_S1 j
  s2 := s.fld Fld.STREAM_DESC4_S2 j
  extBase := s.fld Fld.STREAM_DESC4_EXT_BASE j
  lo := s.fld Fld.STREAM_DESC5_LO j
  hi := s.fld Fld.STREAM_DESC6_HI j
  sideBase := s.fld Fld.STREAM_DESC7_SIDE_BASE j
  dirOut := false

/-- The descriptor of copy `j` (R273). -/
def State.copyWalk (s : State) (j : Nat) : Walk where
  valid := s.flag Fld.COPY_DESC0_VALID j
  watch := s.flag Fld.COPY_DESC0_WATCH j
  side := s.flag Fld.COPY_DESC0_SIDE_MODE j
  orient := s.flag Fld.COPY_DESC0_ORIENT j
  region := regionOf (s.fld Fld.COPY_DESC0_REGION j)
  depth := 1
  gang := 1
  fmt := (fmtOfTag (s.fld Fld.COPY_DESC0_FMT j)).getD .bf16
  count := s.fld Fld.COPY_DESC0_COUNT j
  object := s.fld Fld.COPY_DESC1_OBJECT j
  base := s.fld Fld.COPY_DESC1_BASE j
  rowStride := s.fld Fld.COPY_DESC2_ROW_STRIDE j
  n0 := s.fld Fld.COPY_DESC2_N0 j
  n1 := s.fld Fld.COPY_DESC2_N1 j
  s0 := s.fld Fld.COPY_DESC3_S0 j
  s1 := s.fld Fld.COPY_DESC3_S1 j
  s2 := s.fld Fld.COPY_DESC4_S2 j
  extBase := s.fld Fld.COPY_DESC4_EXT_BASE j
  lo := s.fld Fld.COPY_DESC5_LO j
  hi := s.fld Fld.COPY_DESC6_HI j
  sideBase := s.fld Fld.COPY_DESC7_SIDE_BASE j
  dirOut := s.flag Fld.COPY_DESC0_DIR j

/-- The descriptor that a tag works by. -/
def State.walkOf (s : State) (p : PierIx) : TagOwner → Walk
  | .stream n => s.streamWalk (streamIx p n)
  | .copy d => s.copyWalk (copyIx p d)

/-- A(i), the address of tile `i` of a walk (R192). -/
def Walk.addr (w : Walk) (i : Nat) : Nat :=
  w.base + 128 * (i % w.n0 * w.s0 + i / w.n0 % w.n1 * w.s1 + i / (w.n0 * w.n1) * w.s2)

/-- The offset of row `r` of tile `i` (R192). -/
def Walk.rowAt (w : Walk) (i r : Nat) : Nat := w.addr i + 128 * r * w.rowStride

/-- Does a row lie wholly within the bounds (R194)? -/
def Walk.inside (w : Walk) (o : Nat) : Bool := w.lo ≤ o && o + 128 ≤ w.hi

/-- The bytes of a part by its kind (R201). -/
def pieceLen : Nat → Nat
  | 0 => 128
  | 1 => 256
  | _ => 1024

/-- The parts of tile `i` as (kind, row, offset): the rows within the bounds, then the side-band where it is stored, then
the extension of a scaled format (R193, R194). -/
def Walk.parts (w : Walk) (i : Nat) : List (Nat × Nat × Nat) :=
  (((List.range 64).map (fun r => (0, r, w.rowAt i r))).filter (fun x => w.inside x.2.2)) ++
    (if w.side then [(1, 0, w.sideBase + 256 * i)] else []) ++
    (if w.fmt.scaled then [(2, 0, w.extBase + 1024 * i)] else [])

/-- The rows of tile `i` outside the bounds (R194). -/
def Walk.clipped (w : Walk) (i : Nat) : List Nat := (List.range 64).filter (fun r => !w.inside (w.rowAt i r))

/-- The order of the codes of R199: the highest in the table is recorded. -/
def faultRank : Code → Nat
  | .xlateFault => 0
  | .permFault => 1
  | .windowClosed => 2
  | .memUe => 3
  | .xferTimeout => 4
  | _ => 5

/-- A tag meets a fault: the code highest in the table stays, with the offset of the first faulting part (R199, R200). -/
def Tag.addFault (x : Tag) (c : Code) (o : Nat) : Tag :=
  match x.fault with
  | none => { x with fault := some (c, o) }
  | some (d, q) => { x with fault := some (if faultRank c < faultRank d then c else d, q) }

/-- A translated part: where it lies, whether its extent is poisoned, and its entry. -/
structure XPart where
  kind : Nat
  row : Nat
  offset : Nat
  xlate : Xlate
deriving DecidableEq, Repr

/-- Does a part of `n` bytes at `a` lie next to a run of bytes of a request in one granule and one source (R196): after its last
piece `l`, or with `before` also ahead of its first piece `f`? -/
def adjoins (q : Request) (win : Option (Nat × Nat × BitVec 32)) (f l : Piece) (a n : Nat) (before : Bool) : Bool :=
  q.window = win && f.addr / 8192 = a / 8192 && (a + n - 1) / 8192 = a / 8192 &&
    (l.addr + pieceLen l.kind = a || (before && a + n = f.addr))

/-- The data rows of a request, the first and the last of them: none for a side-band or an extension alone. -/
def Request.data (q : Request) : Option (Piece × Piece) :=
  match q.pieces.filter (fun x => x.kind = 0) with
  | [] => none
  | f :: ps => some (f, (f :: ps).getLastD f)

/-- A part joins the requests of its tag: a row joins the request of the row before it, the side-band and the extension a request whose data
rows they adjoin (R196), but in a remote window they are requests of their own (R395). The new requests, and whether the part was merged:
each part that joins counts once in MERGES (DESIGN CHOICE, log 144). -/
def joinRequests (qs : List Request) (pc : Piece) (win : Option (Nat × Nat × BitVec 32)) : List Request × Bool :=
  let n := pieceLen pc.kind
  let joins (before : Bool) (q : Request) : Bool :=
    match q.data with
    | some (f, l) => adjoins q win f l pc.addr n before
    | none => false
  let i := if pc.kind != 0 && win.isSome then none else if pc.kind = 0 then
      (match qs.getLast? with
        | some q => if joins false q then some (qs.length - 1) else none
        | none => none)
    else qs.findIdx? (joins true)
  match i with
  | some i =>
    match qs[i]? with
    | some q => (qs.set i { q with pieces := q.pieces ++ [pc] }, true)
    | none => (qs ++ [⟨[pc], win, false⟩], false)
  | none => (qs ++ [⟨[pc], win, false⟩], false)

/-- The requests of translated parts, with the merges made. -/
def requestsOf : List XPart → List Request × Nat → List Request × Nat
  | [], acc => acc
  | x :: xs, (qs, n) =>
    match x.xlate with
    | .at (.mem a) false _ =>
      let y := joinRequests qs ⟨x.kind, x.row, x.offset, a⟩ none
      requestsOf xs (y.1, n + y.2.toNat)
    | .at (.remote m w e a) false _ =>
      let y := joinRequests qs ⟨x.kind, x.row, x.offset, a⟩ (some (m, w, e))
      requestsOf xs (y.1, n + y.2.toNat)
    | _ => requestsOf xs (qs, n)

/-- The watch entries of the parts that the stacks hold: one for each gate and kind, over the span from the lowest to the
highest byte that the gate serves (R202). -/
def State.entriesFor (s : State) (p : PierIx) (slot : Nat) (gen : BitVec 2) (qs : List Request) : List (Nat × WatchEntry) :=
  let pcs := ((qs.filter (fun q => q.window = none)).flatMap Request.pieces).filter (fun x => inStacks x.addr)
  (List.range 3).flatMap (fun k => (List.range 8).filterMap (fun g =>
    let mine := pcs.filter (fun x => x.kind = k && (s.place x.addr).gate = g)
    match mine with
    | [] => none
    | x :: _ =>
      let lo := mine.foldl (fun m y => min m y.addr) x.addr
      let hi := mine.foldl (fun m y => max m (y.addr + pieceLen k)) 0
      some (g, ⟨p.val, slot, k, gen, lo / 128, hi / 128⟩)))

/-- A remote read request of a tag (R395). -/
def State.fetchMsg (s : State) (x : Tag) (n : Nat) (q : Request) (m w : Nat) (e : BitVec 32) : Msg :=
  let a := ((q.pieces.map Piece.addr).foldl min ((q.pieces.head?.map Piece.addr).getD 0))
  let len := (q.pieces.map (fun y => pieceLen y.kind)).foldl (· + ·) 0
  ⟨{ s.headTo m with attempt := x.attempt }, .remoteRead n e.toNat a w (len / 128)⟩

/-- Send the remote requests of a tag that are not answered, under new tags where they have none (R395); those that have been sent
before are sent once more only `again` (R198). -/
def State.sendRemotes (s : State) (x : Tag) (again : Bool) : State :=
  x.requests.zipIdx.foldl (fun s e =>
    match e.1.window with
    | some (m, w, ep) =>
      if e.1.answered then s
      else
        let o : RemoteOwner := .fetch x.pier x.num x.owner e.2
        match s.remotes.find? (fun r => r.owner = o) with
        | some r =>
          if !again then s else
          let msg := { r.msg with head := { r.msg.head with attempt := x.attempt } }
          { s with remotes := s.remotes.map (fun (y : Remote) => if y.owner = o then (⟨o, msg⟩ : Remote) else y) }.post msg
        | none =>
          let msg := s.fetchMsg x s.nextRemote e.1 m w ep
          { s with nextRemote := (s.nextRemote + 1) % 2 ^ 32, remotes := s.remotes ++ [(⟨o, msg⟩ : Remote)] }.post msg
    | none => s) s

/-- Remove a tag and its remote requests. -/
def State.freeTag (s : State) (x : Tag) : State :=
  { s with
    tags := s.tags.filter (fun y => !(y.pier = x.pier && y.num = x.num && y.owner = x.owner))
    remotes := s.remotes.filter (fun r => match r.owner with
      | .fetch p n o _ => !(p = x.pier && n = x.num && o = x.owner)
      | _ => true) }

/-- The tags that an engine of a pier has in use. -/
def State.busyTags (s : State) (p : PierIx) : Nat :=
  (s.tags.filter (fun x => x.pier = p && (match x.owner with
    | .stream _ => true
    | .copy _ => false))).length

/-- APPROACH_STATUS.TAGS_BUSY follows the tags (R214). -/
def State.countTags (s : State) (p : PierIx) : State := s.setFld Fld.APPROACH_STATUS_TAGS_BUSY p.val (s.busyTags p)

/-- The slot of a tag lands: poisoned with its deferred fault (R199), or as it is (R197), its padding and the extension bytes that no
block uses as zero (R43, R45; log 123). The tag is freed, and a refetch has ended (R208). A poisoned slot's other side-band fields
are those of a synthesised one (log 124). -/
def State.landTag (s : State) (x : Tag) : State :=
  let w := s.walkOf x.pier x.owner
  let s0 := s.revokes x.pier
  let s1 := match x.fault with
    | none => s0.writeTile x.pier x.region x.idx (s0.readTile x.pier x.region x.idx)
    | some (c, o) =>
      let s2 := s0.writeTile x.pier x.region x.idx (poisonedOf w.fmt s0.stepNo)
      s2.setSlot x.pier x.slot { s2.slot x.pier x.slot with fault := c.num, object := w.object, offset := o }
  let s2 := s1.land x.pier x.region x.idx
  let s3 := ((s2.setSlot x.pier x.slot { s2.slot x.pier x.slot with refetching := false }).freeTag x).countTags x.pier
  match x.owner with
  | .copy _ => s3
  | .stream n =>
    let j := streamIx x.pier n
    let s4 := if x.refetch then s3 else s3.bump Fld.STREAM_COUNT0_FETCHED j 1
    if x.fault.isSome then s4.bump Fld.STREAM_COUNT3_POISONED j 1 else s4
where
  /-- Zero data, zero extension and POISON = 1 (R199). -/
  poisonedOf (f : Fmt) (step : Nat) : Tile :=
    { Tile.empty with
      tag := BitVec.ofNat 8 f.tag
      poison := true
      ext := f.scaled
      stepTag := BitVec.ofNat 32 step
      scale := 0x3F800000#32 }

/-- A tag has all that it waits for and every request answered. -/
def Tag.finished (x : Tag) : Bool := !x.waits && x.wants.isEmpty && x.requests.all Request.answered

/-- Land a tag that has nothing more to wait for. -/
def State.checkTag (s : State) (x : Tag) : State := if x.finished then s.landTag x else s

/-- Write what an allocation puts into the slot by itself: the rows outside the bounds as zeros, and the side-band where it is not
stored, with the step counter at the slot's reservation (R193, R194). -/
def State.prepare (s : State) (x : Tag) (w : Walk) : State :=
  let s1 := (w.clipped x.tile).foldl (fun s r =>
    s.writeBytes (deckData x.pier x.slot + 128 * r) (List.replicate 128 0)) s
  if w.side then s1
  else
    s1.writeBytes (deckSide x.pier x.slot)
      { Tile.empty with
        tag := BitVec.ofNat 8 w.fmt.tag
        orient := w.orient
        ext := w.fmt.scaled
        stepTag := BitVec.ofNat 32 (s.slot x.pier x.slot).step
        scale := 0x3F800000#32 }.sideBytes

/-- Translate the parts of a tag and issue its requests (R191, R196, R202, R263): a part that waits holds the whole tag, a
fault is deferred, and a watch entry that has no room is waited for (R206). -/
def State.plan (s : State) (x : Tag) : State :=
  let w := s.walkOf x.pier x.owner
  let parts := (w.parts x.tile).map (fun e => XPart.mk e.1 e.2.1 e.2.2 (s.translateAll w.object e.2.2 (pieceLen e.1) .read))
  let asks := parts.filterMap (fun y => match y.xlate with
    | .bringUp i => some i
    | _ => none)
  let held := parts.any (fun y => match y.xlate with
    | .wait _ => true
    | .bringUp _ => true
    | _ => false)
  if held then (asks.foldl State.askBringUp s).setTag { x with waits := true }
  else
    let homes := (parts.filterMap (fun y => match y.xlate with
      | .at _ _ i => some i
      | _ => none)).eraseDups
    let s1 := homes.foldl State.touch s
    let y := parts.foldl (fun y z => match z.xlate with
      | .fault c => y.addFault c z.offset
      | .at _ true _ => y.addFault .memUe z.offset
      | _ => y) { x with waits := false, homes := homes }
    let qs := requestsOf parts ([], 0)
    let es := if w.watch then s1.entriesFor x.pier x.slot x.gen qs.1 else []
    let a := s1.addWatches es
    let s2 := if a.2.isEmpty then a.1 else a.1.bump Fld.APPROACH_COUNT_WATCH_WAITS x.pier.val 1
    let z := { y with requests := qs.1, wants := a.2 }
    let s3 := (s2.bump Fld.APPROACH_COUNT_MERGES x.pier.val qs.2).setTag z
    (if z.wants.isEmpty then s3.sendRemotes z false else s3).checkTag z

/-- The tags whose watch entries have all been made issue the requests that they have not sent (R206). -/
def State.wakeTags (s : State) : State :=
  s.tags.foldl (fun s x => if x.waits || !x.wants.isEmpty then s else s.sendRemotes x false) s

/-- The data of a piece is written to the slot of its tag (R193, R197). -/
def State.putPiece (s : State) (x : Tag) (pc : Piece) (bs : List Byte) : State :=
  match pc.kind with
  | 0 => s.writeBytes (deckData x.pier x.slot + 128 * pc.row) bs
  | 1 => s.writeBytes (deckSide x.pier x.slot) bs
  | _ =>
    if s.rdesc x.pier x.region Fld.REGION_DESC_SCALE_EN = 1 then s.writeBytes (s.extAddr x.pier x.region x.idx) bs else s

/-- Request `i` of a tag is answered with data by piece; a fault on it is deferred, with the offset of the part that it names or else
of the request's first part (R197, R199, R200). -/
def State.answerTag (s : State) (x : Tag) (i : Nat) (fault : Option Code) (off : Option Nat) (data : List (List Byte)) : State :=
  match x.requests[i]? with
  | none => s
  | some q =>
    let s1 := match fault with
      | some _ => s
      | none => (q.pieces.zip data).foldl (fun s (e : Piece × List Byte) => s.putPiece x e.1 e.2) s
    let y := { x with requests := x.requests.set i { q with answered := true } }
    let z := match fault, q.pieces.head? with
      | some c, some pc => y.addFault c (off.getD pc.offset)
      | _, _ => y
    (s1.setTag z).checkTag z

/-- The module reads `n` bytes of host memory at `a`: whether the reply is poisoned, which sets HOST_POISON (R442). -/
def State.hostReads (s : State) (a n : Nat) (u : Upset) : Bool × State :=
  let bad := match u with
    | some (b, k) => a ≤ b && b < a + n && 4 ≤ k
    | none => false
  let t := s.jwRead a n false
  (bad, if bad then t.jwPoison a else t)

/-- Do the stacks keep a request waiting (R224, R231)? -/
def State.requestBlocked (s : State) (q : Request) : Bool := q.pieces.any (fun pc => s.blocked pc.addr (pieceLen pc.kind))

/-- A request to memory of this module's stacks or of the host is read (R197): its data by piece, and the offset of the first part
that is poisoned (R200, R235). A poisoned read of host memory sets HOST_POISON (R442). -/
def State.readRequest (s : State) (q : Request) (u : Upset) : List (List Byte) × Option Nat × State :=
  q.pieces.foldl (fun acc pc =>
    let n := pieceLen pc.kind
    let x := if inStacks pc.addr then State.gateRead acc.2.2 0 pc.addr n u else State.hostReads acc.2.2 pc.addr n u
    (acc.1 ++ [x.2.bytes pc.addr n], if x.1 then acc.2.1.orElse (fun _ => some pc.offset) else acc.2.1, x.2)) ([], none, s)

/-- The tags that wait for a translation try again, the oldest first, and so do remote accesses (R263, R267). -/
def State.wake (s : State) : State :=
  (s.tags.foldl (fun s x =>
    match s.tags.find? (fun y => y.pier = x.pier && y.num = x.num && y.owner = x.owner) with
    | some y => if y.waits then s.plan y else s
    | none => s) s).wakeWindows

/-- The lowest tag number that is free among `n`; which one is taken is the model's choice (log 4). -/
def State.freeTagNum (s : State) (p : PierIx) (copy : Bool) (n : Nat) : Option Nat :=
  (List.range n).find? (fun k => !s.tags.any (fun x => x.pier = p && x.num = k && (match x.owner with
    | .stream _ => !copy
    | .copy _ => copy)))

/-- Allocate a tag for tile `i` of an owner into the slot of data index `idx` (R195); the slot keeps the object and the offset of the tile's
first row, which APPROACH_FAULT then shows for a fault that names no part, STALE_TILE (R215; DESIGN CHOICE, log 160). A refetch counts its
clipped rows as the fetch did (log 125). -/
def State.openTag (s : State) (p : PierIx) (num : Nat) (o : TagOwner) (i : Nat) (r : RegionIx) (idx : Nat)
    (refetch : Bool) : State :=
  let k := s.slotOf p r idx
  let w := s.walkOf p o
  let x : Tag := ⟨p, num, o, i, r, idx, k, (s.slot p k).gen, refetch, 0, false, [], [], [], none⟩
  let s0 := s.setSlot p k { s.slot p k with object := w.object, offset := w.rowAt i 0 }
  let s1 := ({ s0 with tags := s0.tags ++ [x] }.countTags p).prepare x w
  let s2 := match o with
    | .stream n => s1.bump Fld.STREAM_COUNT2_CLIP_ROWS (streamIx p n) (w.clipped i).length
    | .copy _ => s1
  s2.plan x

/-- A reservation in a region that is not valid, or is a companion: REGION_INVALID (R179, R182). -/
def State.regionInvalid (s : State) (p : PierIx) (r : RegionIx) : State :=
  let t := s.fld Fld.PCTL_SLOT_SLOT p.val
  s.containFlag Fld.DECK_ERR_REGION_INVALID p.val p t .regionInvalid (t % 2 ^ 48 + r.val * 2 ^ 48)

/-- May a producer reserve in a region at all? -/
def State.regionUsable (s : State) (p : PierIx) (r : RegionIx) : Bool :=
  s.rdesc p r Fld.REGION_DESC_VALID = 1 && s.rdesc p r Fld.REGION_DESC_SCALE = 0

/-- A bit of a field that holds one bit for each stream. -/
def State.streamBit (s : State) (f : Fld) (p : PierIx) (n : Nat) : Bool := (s.fld f p.val).testBit n

/-- Set the bits of the members of a gang of `g` streams from `n`. -/
def State.setGangBits (s : State) (f : Fld) (p : PierIx) (n g : Nat) (v : Bool) : State :=
  s.setFld f p.val ((List.range g).foldl (fun w k =>
    if v then (if w.testBit (n + k) then w else w + 2 ^ (n + k))
    else (if w.testBit (n + k) then w - 2 ^ (n + k) else w)) (s.fld f p.val))

/-- A gang starts: it is armed from tile 0 (R190). -/
def State.startGang (s : State) (p : PierIx) (n : Fin 16) : State :=
  let j := streamIx p n
  let g := s.fld Fld.STREAM_DESC0_GANG j
  ((s.setGang j { s.gang j with next := 0 }).setGangBits Fld.APPROACH_STATUS_ARMED p n.val g true).setGangBits
    Fld.APPROACH_STATUS_DONE p n.val g false

/-- The member 0 streams of a pier's armed gangs, starting after the one served last (R195). -/
def State.gangOrder (s : State) (p : PierIx) : List (Fin 16) :=
  let heads := (List.finRange 16).filter (fun n =>
    s.streamBit Fld.APPROACH_STATUS_ARMED p n.val && s.fld Fld.STREAM_DESC0_GANG_POS (streamIx p n) = 0)
  let last := s.lastGang.look (fun _ => 15) p.val
  heads.filter (fun n => last < n.val) ++ heads.filter (fun n => n.val ≤ last)

/-- May a gang reserve its next tile (R189)? -/
def State.gangMay (s : State) (p : PierIx) (n : Fin 16) : Bool :=
  let j := streamIx p n
  let w := s.streamWalk j
  (s.gang j).reserved < w.gang * w.depth && s.regionUsable p w.region && s.canReserve p w.region

/-- A gang that stands first among those that may go on reserves its next tile under a tag (R189, R190, R195). -/
def State.allocGang (s : State) (p : PierIx) (num : Nat) (n : Fin 16) : State :=
  let j := streamIx p n
  let w := s.streamWalk j
  let g := s.gang j
  let i := g.next
  let m : Fin 16 := ⟨(n.val + i % w.gang) % 16, Nat.mod_lt _ (by decide)⟩
  let idx := s.reserveIx p w.region
  let s1 := s.reserve p w.region
  let k := s1.slotOf p w.region idx
  let s2 := s1.setSlot p k { s1.slot p k with stream := some m, tile := i }
  let s3 := s2.setGang j ⟨i + 1, g.reserved + 1⟩
  let s4 := if w.count ≤ i + 1 then
      (s3.setGangBits Fld.APPROACH_STATUS_ARMED p n.val w.gang false).setGangBits Fld.APPROACH_STATUS_DONE p n.val w.gang true
    else s3
  { s4 with lastGang := s4.lastGang.put (fun _ => 15) p.val n.val }.openTag p num (.stream m) i w.region idx false

/-- A refetch of a stale slot under a tag (R208). -/
def State.allocRefetch (s : State) (p : PierIx) (num k : Nat) : State :=
  let x := s.slot p k
  match x.stream with
  | none => s
  | some n =>
    let w := s.streamWalk (streamIx p n)
    let s1 := (s.unwatch p k).setSlot p k { x with gen := x.gen + 1, stale := false, full := false, refetching := true }
    (s1.bump Fld.STREAM_COUNT3_REFETCHES (streamIx p n) 1).openTag p num (.stream n) x.tile w.region
      (k - s.rdesc p w.region Fld.REGION_DESC_BASE) true

/-- Does the approach engine of a pier allocate tags: its pier runs a program and has not stopped (R311)? -/
def State.fetching (s : State) (p : PierIx) : Bool :=
  let v := s.fld Fld.PCTL_STATUS_STATE p.val
  2 ≤ v && v ≤ 5

end Sys2Proof.Machine
end

