-- ==== Sys2Proof/Machine/Copy.lean ====
section
/-! DEFINITION. The copy engine: its runs (R274), a tile copied into a region (R275) and a tile copied to an object, locally
or to a remote home (R273, R275, R395). -/
namespace Sys2Proof.Machine

/-- The run of a copy descriptor. -/
def State.run (s : State) (p : PierIx) (d : Fin 8) : CopyRun := s.runs.look (fun _ => CopyRun.init) (copyIx p d)

/-- Set the run of a copy descriptor. -/
def State.setRun (s : State) (p : PierIx) (d : Fin 8) (x : CopyRun) : State :=
  { s with runs := s.runs.put (fun _ => CopyRun.init) (copyIx p d) x }

/-- Has a copy run of a pier a transfer outstanding: a tag, a remote write, or a write that waits for notices or for the mirror log
(R176, R274)? -/
def State.copyBusy (s : State) (p : PierIx) (d : Fin 8) : Bool :=
  s.tags.any (fun y => y.pier = p && y.owner = .copy d) || s.writeWaits (.copy p d) ||
    s.remotes.any (fun r => match r.owner with
      | .write q e _ _ => q = p && e = d
      | _ => false)

/-- Is every tile of a run moved and every write complete (R274)? -/
def State.runDone (s : State) (p : PierIx) (d : Fin 8) : Bool :=
  let x := s.run p d
  !x.running || ((s.copyWalk (copyIx p d)).count ≤ x.next && !s.copyBusy p d)

/-- The first fault of a run is kept for CWAIT (R274, R275). -/
def State.runFault (s : State) (p : PierIx) (d : Fin 8) (c : Code) (o : Nat) : State :=
  let x := s.run p d
  if x.fault.isSome then s else s.setRun p d { x with fault := some (c, o) }

/-- Copy tags: the numbers in use by fetches and by remote writes (R274). -/
def State.copyNums (s : State) (p : PierIx) : List Nat :=
  ((s.tags.filter (fun x => x.pier = p && (match x.owner with
    | .copy _ => true
    | .stream _ => false))).map Tag.num ++
  s.remotes.filterMap (fun r => match r.owner with
    | .write q _ n _ => if q = p then some n else none
    | _ => none)).eraseDups

/-- A copy engine has 32 tags (R274). -/
def copyTags : Nat := 32

/-- A free copy tag. -/
def State.freeCopyNum (s : State) (p : PierIx) : Option Nat :=
  (List.range copyTags).find? (fun k => !(s.copyNums p).contains k)

/-- The local requests of a copy's fetch are answered, each as its data is read (R274). -/
def State.answerLocal (s : State) (p : PierIx) (num : Nat) (o : TagOwner) (u : Upset) : State :=
  (List.range 66).foldl (fun s i =>
    match s.tags.find? (fun x => x.pier = p && x.num = num && x.owner = o) with
    | none => s
    | some x =>
      if x.waits || !x.wants.isEmpty then s
      else
        match x.requests[i]? with
        | none => s
        | some q =>
          if q.answered || q.window.isSome || s.requestBlocked q then s
          else
            let y := s.readRequest q u
            y.2.2.answerTag x i (y.2.1.map (fun _ => Code.memUe)) y.2.1 y.1) s

/-- The next tile of a copy into a region (R274). A fetch that waited goes on first. -/
def State.copyIn (s : State) (p : PierIx) (d : Fin 8) (u : Upset) : State :=
  let w := s.copyWalk (copyIx p d)
  let x := s.run p d
  match s.tags.find? (fun y => y.pier = p && y.owner = .copy d && !y.waits && y.wants.isEmpty &&
      y.requests.any (fun q => !q.answered && q.window.isNone)) with
  | some y => s.answerLocal p y.num (.copy d) u
  | none =>
    if w.count ≤ x.next then s
    else if !s.regionUsable p w.region then (s.setRun p d { x with next := w.count }).regionInvalid p w.region
    else if !s.canReserve p w.region then s
    else
      match s.freeCopyNum p with
      | none => s
      | some num =>
        let idx := s.reserveIx p w.region
        let s1 := (s.reserve p w.region).setRun p d { x with next := x.next + 1 }
        (s1.openTag p num (.copy d) x.next w.region idx false).answerLocal p num (.copy d) u

/-- What a copy to an object reads: nothing yet, an index beyond the fill of a consuming half, or a data index (R274). -/
def State.copySource (s : State) (p : PierIx) (r : RegionIx) (k : Nat) : ReadAt :=
  s.readAt p r (if s.halves p r then k else 0)

/-- The bytes of a piece of a tile. -/
def Tile.pieceBytes (t : Tile) (pc : Piece) : List Byte :=
  match pc.kind with
  | 0 => leBytes 128 (t.row pc.row).toNat
  | 1 => t.sideBytes
  | _ => t.extBytes

/-- Put a piece in its place by address. -/
def placePiece (x : Piece) : List Piece → List Piece
  | [] => [x]
  | y :: ys => if x.addr ≤ y.addr then x :: y :: ys else y :: placePiece x ys

/-- The pieces of a request in the order of their addresses. -/
def Request.sorted (q : Request) : List Piece := q.pieces.foldr placePiece []

/-- The parts that a copy to an object writes (R273). -/
def Walk.outParts (w : Walk) (i : Nat) : List (Nat × Nat × Nat) :=
  (w.parts i).filter (fun x => x.1 = 0 || w.side)

/-- One run of a tile's write goes to its home: locally, or as a REMOTE_WRITE (R275, R395). Into a mirrored object its rows, its side-band
and its extension are forwarded one by one, as R395 would send them (R411). -/
def State.writeRun (s : State) (p : PierIx) (d : Fin 8) (num object : Nat) (t : Tile) (q : Request) : State :=
  let ps := q.sorted
  let bs := ps.flatMap t.pieceBytes
  match ps with
  | [] => s
  | f :: _ =>
    match q.window with
    | none =>
      let x := s.homeWrite (.copy p d) 1 f.addr bs t.poison object f.offset
      [0, 1, 2].foldl (fun s k =>
        match ps.filter (fun pc => pc.kind = k) with
        | [] => s
        | g :: gs => s.forwardRun (.copy p d) object g.offset g.addr ((g :: gs).flatMap t.pieceBytes) t.poison) x.2
    | some (m, w, e) =>
      let msg : Msg := ⟨{ s.headTo m with poison := t.poison }, .remoteWrite s.nextRemote e.toNat s.stepNo f.addr w bs⟩
      { s with
        nextRemote := (s.nextRemote + 1) % 2 ^ 32
        remotes := s.remotes ++ [(⟨.write p d num f.offset, msg⟩ : Remote)] }.post msg

/-- The read of a tile that leaves the deck store by copy (R162, R207, R208): at its first request a stale tile raises STALE_TILE, and
ECC finds the words in error, which poison the tile. The tile, or none where it raised STALE_TILE, and the state with the tile
released (R274). -/
def State.copyRead (s : State) (p : PierIx) (r : RegionIx) (i : Nat) : Option Tile × State :=
  let t := s.fld Fld.PCTL_SLOT_SLOT p.val
  let s1 := s.revokes p
  if s1.staleHere p r i && !(s1.readTile p r i).poison then
    (none, (s1.readFault p r t .staleTile (some i) none 0).release p r)
  else
    let x := s1.readOut p r t i
    (some x.1, x.2.release p r)

/-- What keeps the next tile of a copy to an object from being read: it has not landed, or it waits for its refetch (R170, R208). -/
def State.copyWaits (s : State) (p : PierIx) (r : RegionIx) (i : Nat) : Bool :=
  (s.slot p (s.slotOf p r i)).refetching || s.refetchDue p r i

/-- A copy waits for the tile that it reads next: its first wait is noted with a free number of cycles, which the model does not see
(R211; log 158). -/
def State.noteCopyWait (s : State) (p : PierIx) (r : RegionIx) (i : Nat) : State :=
  let k := s.slotOf p r i
  let s1 := s.noteWait p (r, some (i, s.refetchDue p r i))
  if (s.slot p k).waited || !(s1.slot p k).waited then s1
  else s1.fresh.2.setSlot p k { s1.slot p k with waitCycles := s1.fresh.1.toNat % 2 ^ 48 }

/-- The parts of a tile are written to an object: a part that faults, or that a parapet covers, discards the write whole (R275,
R368). -/
def State.copyParts (s : State) (p : PierIx) (d : Fin 8) (num object : Nat) (t : Tile) (parts : List XPart) : State :=
  let bad := parts.find? (fun y => match y.xlate with
    | .fault _ => true
    | .at _ true _ => true
    | _ => false)
  match bad with
  | some y =>
    s.runFault p d (match y.xlate with
      | .fault c => c
      | _ => .memUe) y.offset
  | none =>
    match parts.find? (fun y => s.parapetHit object y.offset (pieceLen y.kind)) with
    | some y => s.parapetWrite p object y.offset
    | none =>
      let qs := requestsOf parts ([], 0)
      let homes := (parts.filterMap (fun y => match y.xlate with
        | .at _ _ i => some i
        | _ => none)).eraseDups
      let s1 := (homes.foldl State.touch s).bump Fld.APPROACH_COUNT_MERGES p.val qs.2
      qs.1.foldl (fun s q => s.writeRun p d num object t q) s1

/-- The next tile of a copy from a region to an object (R274, R275). -/
def State.copyOut (s : State) (p : PierIx) (d : Fin 8) : State :=
  let w := s.copyWalk (copyIx p d)
  let x := s.run p d
  if w.count ≤ x.next then s
  else if !s.regionUsable p w.region then (s.setRun p d { x with next := w.count }).regionInvalid p w.region
  else
    match s.copySource p w.region x.next, s.freeCopyNum p with
    | .range, _ =>
      (s.setRun p d { x with next := w.count }).readFault p w.region (s.fld Fld.PCTL_SLOT_SLOT p.val) .regionRange none none 0
    | .wait i, _ => s.noteCopyWait p w.region i
    | .at i, some num =>
      if s.copyWaits p w.region i then s.noteCopyWait p w.region i
      else
        let parts := (w.outParts x.next).map (fun e =>
          XPart.mk e.1 e.2.1 e.2.2 (s.translateAll w.object e.2.2 (pieceLen e.1) .write))
        let asks := parts.filterMap (fun y => match y.xlate with
          | .bringUp i => some i
          | _ => none)
        let held := parts.any (fun y => match y.xlate with
          | .wait _ => true
          | .bringUp _ => true
          | .at (.mem a) _ _ => s.blocked a (pieceLen y.kind)
          | _ => false)
        if held then asks.foldl State.askBringUp s
        else
          let y := s.copyRead p w.region i
          let s3 := y.2.setRun p d { x with next := x.next + 1 }
          match y.1 with
          | none => s3
          | some t => s3.copyParts p d num w.object t parts
    | _, _ => s

/-- A copy goes on after the HALT of its pier: the pier's work waits for it (R578). -/
def State.noteHalted (s : State) (p : PierIx) : State :=
  if s.fld Fld.PCTL_STATUS_STATE p.val = 5 then s.setPier p { s.pier p with haltHeld := true } else s

/-- The copy engine moves one tile of a running descriptor (R274). -/
def State.copyTile (s : State) (p : PierIx) (d : Fin 8) (u : Upset) : State :=
  if !(s.run p d).running || s.fld Fld.PCTL_STATUS_STATE p.val = 6 then s
  else if (s.copyWalk (copyIx p d)).dirOut then ((s.noteHalted p).copyOut p d).wakeTags
  else (s.noteHalted p).copyIn p d u

/-- The regions on which the approach engine of a pier waits: an armed gang's region has no room, or the gang holds as many tiles as it
may and waits for a release (R176, R189; log 128). -/
def State.gangWaits (s : State) (p : PierIx) : List RegionIx :=
  ((s.gangOrder p).filter (fun n => !s.gangMay p n && s.regionUsable p (s.streamWalk (streamIx p n)).region)).map (fun n => (s.streamWalk (streamIx p n)).region)

/-- What the next tile of a running copy waits for (R176): none where the run does not wait on its region. -/
def State.runWaits (s : State) (p : PierIx) (d : Fin 8) : Option RegionIx :=
  let w := s.copyWalk (copyIx p d)
  let x := s.run p d
  if !x.running || w.count ≤ x.next || !s.regionUsable p w.region then none
  else if w.dirOut then
    match s.copySource p w.region x.next with
    | .wait _ => some w.region
    | .at i => if s.copyWaits p w.region i then some w.region else none
    | .range => none
  else if s.canReserve p w.region then none
  else some w.region

/-- The regions on which the engines of a pier wait: those of the stalled schedule, of the approach engine and of the copies (R176,
R177, R186). -/
def State.waitingOn (s : State) (p : PierIx) : List RegionIx :=
  (match (s.pier p).stall with
    | some x => x.regions
    | none => []) ++ s.gangWaits p ++ (List.finRange 8).filterMap (fun d => s.runWaits p d)

end Sys2Proof.Machine
end

