-- ==== Sys2Proof/Machine/Tokens.lean ====
section
/-! DEFINITION. Power tokens: the pool and the span budgets (R321, R322), holdings (R324, R326), the limit on their steps
(R328) and the throttle factor (R329, R330). -/
namespace Sys2Proof.Machine

/-- The span of a physical pier (R9). -/
def spanOf (p : PierIx) : Nat := p.val / 8

/-- P, the token pool for a module budget of `b` watts (R321). -/
def tokenPool (b base : Nat) : Nat := (1620 * b - 2000 * base) / 100

/-- b_s, the bound piers of a span (R322). -/
def State.boundIn (s : State) (sp : Nat) : Nat := (s.binding.filter (fun p => spanOf p = sp)).length

/-- A span's share of a pool (R322). -/
def State.share (s : State) (pool sp : Nat) : Nat := pool * s.boundIn sp / s.binding.length

/-- C_s, the compiled budget of a span under the table in force (R322). -/
def State.compiled (s : State) (sp : Nat) : Nat :=
  s.share (tokenPool s.imageBudget (s.fld Fld.TOKEN_STATUS_BASE_W 0)) sp

/-- S_s, the supply budget of a span (R322). -/
def State.supply (s : State) (sp : Nat) : Nat :=
  s.share (tokenPool (s.fld Fld.TOKEN_STATUS_BUDGET_W 0) (s.fld Fld.TOKEN_STATUS_BASE_W 0)) sp

/-- The clock step of a span that holds `h` tokens of `g` granted, K of R330. Under brace the spans run at K = 4. -/
def spanStep (brace : Bool) (g h : Nat) : Nat :=
  if brace then 4 else if h ≤ g then 16 else max 4 (min 16 (16 * g / h))

/-- Bring a span's granted budget and clock step up to date (R322, R330); a pier test of the span withholds 280 tokens
(R532). -/
def State.regrant (s : State) (sp : Nat) : State :=
  let g := min (s.fld Fld.SPAN_TOKEN_COMPILED sp) (s.supply sp) * s.fld Fld.TOKEN_STATUS_FACTOR 0 / 16 -
    280 * (s.tests.filter (fun x => spanOf x.pier = sp)).length
  (s.setFld Fld.SPAN_TOKEN_GRANTED sp g).setFld Fld.SPAN_TOKEN_STEP sp
    (spanStep (s.flag Fld.TOKEN_STATUS_BRACE 0) g (s.fld Fld.SPAN_TOKEN_HELD sp))

/-- Bring every span up to date. -/
def State.regrantAll (s : State) : State := (List.range 17).foldl State.regrant s

/-- P, C_s and S_s are computed anew (R323, R331). -/
def State.rebudget (s : State) : State :=
  let s1 := s.setFld Fld.TOKEN_STATUS_POOL 0
    (tokenPool (s.fld Fld.TOKEN_STATUS_BUDGET_W 0) (s.fld Fld.TOKEN_STATUS_BASE_W 0))
  ((List.range 17).foldl (fun s sp => s.setFld Fld.SPAN_TOKEN_COMPILED sp (s.compiled sp)) s1).regrantAll

/-- F, the lowest of its four values (R329). -/
def State.throttle (s : State) : Nat :=
  min (min s.factorT s.factorP)
    (min (if s.flag Fld.TOKEN_STATUS_ALERT 0 then 8 else 16) (if s.flag Fld.TOKEN_STATUS_BRACE 0 then 0 else 16))

/-- One of the four values of R329 has changed: F, its causes and every granted budget follow; a change of F is counted, and
THERM_THROTTLE or SUPPLY_THROTTLE is posted where its cause bit rises (R333, R480). -/
def State.rethrottle (s : State) (hotSpan celsius watts : Nat) : State :=
  let f := s.throttle
  let s1 := if f = s.fld Fld.TOKEN_STATUS_FACTOR 0 then s
    else (s.setFld Fld.TOKEN_STATUS_FACTOR 0 f).bump Fld.TOKEN_COUNT_THROTTLE_STEPS 0 1
  let wasT := s.flag Fld.TOKEN_STATUS_THERMAL 0
  let wasP := s.flag Fld.TOKEN_STATUS_SUPPLY 0
  let s2 := (s1.setFld Fld.TOKEN_STATUS_THERMAL 0 (if s.factorT < 16 then 1 else 0)).setFld Fld.TOKEN_STATUS_SUPPLY 0
    (if s.factorP < 16 then 1 else 0)
  let s3 := if !wasT && s2.flag Fld.TOKEN_STATUS_THERMAL 0 then
      s2.event .thermThrottle 6 hotSpan (hotSpan % 32 + celsius % 256 * 256)
    else s2
  let s4 := if !wasP && s3.flag Fld.TOKEN_STATUS_SUPPLY 0 then s3.event .supplyThrottle 0 0 watts else s3
  s4.regrantAll

/-- Would moving `n` tokens in a cycle exceed RAMP in the 32 cycles that end with it (R328)? -/
def State.rampFull (s : State) (sp cycle n : Nat) : Bool :=
  s.ramp < n + ((s.tokenMoves.filter (fun m => m.span = sp && cycle < m.cycle + 32 && m.cycle ≤ cycle)).map
    TokenMove.amount).foldl (· + ·) 0

/-- Note a TACQ or TREL whose slot issues. -/
def State.noteMove (s : State) (m : TokenMove) : State :=
  { s with tokenMoves := m :: s.tokenMoves.filter (fun e => m.cycle < e.cycle + 64) }

/-- Tokens that TRELs of the domain of `p` released in slot `t - 1`: the first check of slot `t` does not see them (R577). -/
def State.unseenReleases (s : State) (p : PierIx) (t : Nat) : Nat :=
  ((s.tokenMoves.filter (fun m => m.released && m.span = spanOf p && s.domOf m.pier = s.domOf p && t ≤ m.slot + 1)).map
    TokenMove.amount).foldl (· + ·) 0

/-- A pier's holdings change by `n` up or down, and its span's with them (R324). -/
def State.acquire (s : State) (p : PierIx) (n : Nat) : State :=
  ((s.setFld Fld.PIER_HELD_HELD p.val (s.fld Fld.PIER_HELD_HELD p.val + n)).setFld Fld.SPAN_TOKEN_HELD (spanOf p)
    (s.fld Fld.SPAN_TOKEN_HELD (spanOf p) + n)).regrant (spanOf p)

/-- A pier gives back `n` of the tokens that it holds. -/
def State.giveBack (s : State) (p : PierIx) (n : Nat) : State :=
  let k := min n (s.fld Fld.PIER_HELD_HELD p.val)
  ((s.setFld Fld.PIER_HELD_HELD p.val (s.fld Fld.PIER_HELD_HELD p.val - k)).setFld Fld.SPAN_TOKEN_HELD (spanOf p)
    (s.fld Fld.SPAN_TOKEN_HELD (spanOf p) - k)).regrant (spanOf p)

/-- A pier gives back every token (R331). -/
def State.giveAll (s : State) (p : PierIx) : State := s.giveBack p (s.fld Fld.PIER_HELD_HELD p.val)

end Sys2Proof.Machine
end

