-- ==== Sys2Proof/Machine/Image.lean ====
section
/-! DEFINITION. The loaded program image as it lies in its object (R287-R292): its sections and their entries, and the
application of a configuration record to a pier (R290). -/
namespace Sys2Proof.Machine

/-- Where a byte of an object lies in memory of this module's stacks or of the host, whether its extent moves or not; an
object that lies in another module has no such place. -/
def State.objAddr (s : State) (n o : Nat) : Option Nat :=
  let d := s.object n
  let e := s.home (d.entryOf o)
  if d.valid && o < d.size && e.valid && e.tier != 2 then some (e.loc + o % 2 ^ d.extentLog2) else none

/-- `n` bytes of an object from an offset, extent by extent; bytes without a place read as zero. `fuel` bounds the
extents. -/
def State.objRun (s : State) (object : Nat) : Nat → Nat → Nat → List Byte
  | 0, _, _ => []
  | fuel + 1, o, n =>
    if n = 0 then []
    else
      let e := 2 ^ (s.object object).extentLog2
      let k := min n (e - o % e)
      (match s.objAddr object o with
        | some a => s.bytes a k
        | none => List.replicate k 0) ++ State.objRun s object fuel (o + k) (n - k)

/-- `n` bytes of an object from an offset. -/
def State.objBytes (s : State) (object o n : Nat) : List Byte :=
  s.objRun object (n / 2 ^ (s.object object).extentLog2 + 2) o n

/-- A number of `n` bytes at an offset of the image object. -/
def State.img (s : State) (o n : Nat) : Nat := leNat (s.objBytes s.imageObject o n)

/-- The 64 B blocks that hold `n` bytes of an object from offset `o`, by the offsets of their starts. -/
def blockOffsets (o n : Nat) : List Nat := (List.range ((o % 64 + n + 63) / 64)).map (fun k => o / 64 * 64 + 64 * k)

/-- The module reads `n` bytes of an object for its own use: a burst of the read class for each block in a stack (R227, R234-R236). The
answer says whether some block is poisoned. -/
def State.readObject (s : State) (object o n : Nat) : Bool × State :=
  (blockOffsets o n).foldl (fun acc b =>
    match acc.2.objAddr object b with
    | some a =>
      if inStacks a then
        let x := acc.2.gateRead 0 a 64 none
        (acc.1 || x.1, x.2)
      else (acc.1, acc.2.jwRead a 64 false)
    | none => acc) (false, s)

/-- Must the module wait with a read of `n` bytes of an object: an extent moves, or the stacks keep a block waiting (R224, R231, R263)? -/
def State.readWaits (s : State) (object o n : Nat) : Bool :=
  (blockOffsets o n).any (fun b => (s.home ((s.object object).entryOf b)).moving || (match s.objAddr object b with
    | some a => s.blocked a 64
    | none => false))

/-- An entry of the section table (R287). -/
structure Section where
  type : Nat
  rsv : Nat
  length : Nat
  offset : Nat
deriving DecidableEq, Repr

/-- Entry `k` of the section table. -/
def State.sectionAt (s : State) (k : Nat) : Section :=
  ⟨s.img (64 + 16 * k) 2, s.img (66 + 16 * k) 2, s.img (68 + 16 * k) 4, s.img (72 + 16 * k) 8⟩

/-- The section table. -/
def State.sections (s : State) : List Section := (List.range (s.img 14 2)).map s.sectionAt

/-- The section of a type, if the image holds it. -/
def State.section (s : State) (ty : Nat) : Option Section := s.sections.find? (fun x => x.type = ty)

/-- The section that holds the signature (R552). -/
def State.sigSection (s : State) : Section := (s.section 15).getD ⟨0, 0, 0, 0⟩

/-- The bytes of the image in force that its signature covers: every one before it (R288). -/
def State.imageCover (s : State) : List Byte := s.objBytes s.imageObject 0 s.sigSection.offset

/-- The bytes of an entry of a section of fixed-size entries (R288). -/
def entrySize : Nat → Nat
  | 2 => 64
  | 3 => 24
  | 4 => 8
  | 5 => 8
  | 6 => 512
  | 7 => 1024
  | 8 => 512
  | 9 => 8
  | 10 => 8
  | 11 => 16
  | 12 => 64
  | 13 => 16
  | 14 => 72
  | _ => 1

/-- May a section of this type be absent and stand for one default entry (R288)? -/
def defaultable (ty : Nat) : Bool := [3, 6, 7, 8, 10].contains ty

/-- The entries of a section; an absent one of type 3, 6, 7, 8 or 10 stands for one entry (R288). -/
def State.entries (s : State) (ty : Nat) : Nat :=
  match s.section ty with
  | some x => x.length / entrySize ty
  | none => if defaultable ty then 1 else 0

/-- The word that an absent section's entry holds at word `w` (R288): a region, stream or copy descriptor at its defaults, a
record of zeros with the default of DECK_ARB_CFG, a token table at its defaults. -/
def defaultWord (ty w : Nat) : Nat :=
  (match ty with
  | 3 => if w = 1 then regInit .deckArbCfg 0 else 0
  | 6 => regInit .regionDesc 0
  | 7 => regInit (streamReg (w % 8)) 0
  | 8 => regInit (copyReg (w % 8)) 0
  | 10 => BitVec.ofNat 64 (826 + 256 * 65536)
  | _ => 0).toNat
where
  /-- The registers of a stream descriptor by word. -/
  streamReg : Nat → RegName
    | 0 => .streamDesc0
    | 1 => .streamDesc1
    | 2 => .streamDesc2
    | 3 => .streamDesc3
    | 4 => .streamDesc4
    | 5 => .streamDesc5
    | 6 => .streamDesc6
    | _ => .streamDesc7
  /-- The registers of a copy descriptor by word. -/
  copyReg : Nat → RegName
    | 0 => .copyDesc0
    | 1 => .copyDesc1
    | 2 => .copyDesc2
    | 3 => .copyDesc3
    | 4 => .copyDesc4
    | 5 => .copyDesc5
    | 6 => .copyDesc6
    | _ => .copyDesc7

/-- `n` bytes at offset `o` of entry `i` of a section, as a number; `o` and `n` stay within one word for an absent
section. -/
def State.entryAt (s : State) (ty i o n : Nat) : Nat :=
  match s.section ty with
  | some x => s.img (x.offset + i * entrySize ty + o) n
  | none => defaultWord ty (o / 8) / 2 ^ (8 * (o % 8)) % 2 ^ (8 * n)

/-- Word `w` of entry `i` of a section. -/
def State.entryWord (s : State) (ty i w : Nat) : Word := BitVec.ofNat 64 (s.entryAt ty i (8 * w) 8)

/-- The bytes of binding entries before entry `b`: a head of 24 B and 16 B for each of its N pier entries (R292). -/
def State.bindingOffset (s : State) (base : Nat) : Nat → Nat
  | 0 => base
  | b + 1 =>
    let o := State.bindingOffset s base b
    o + 24 + 16 * (s.img o 8 / 2 ^ 32 % 256)

/-- Where binding entry `b` lies. -/
def State.bindingAt (s : State) (b : Nat) : Nat :=
  s.bindingOffset (((s.section 1).map Section.offset).getD 0) b

/-- N of the binding entry at an offset (R292, R137). -/
def State.bindingN (s : State) (o : Nat) : Nat := s.img o 8 / 2 ^ 32 % 256

/-- The binding entries: their offsets, as many as fit in the section (R292). `fuel` bounds them. -/
def State.bindingsFrom (s : State) (o stop : Nat) : Nat → List Nat
  | 0 => []
  | fuel + 1 =>
    if stop < o + 24 then []
    else o :: State.bindingsFrom s (o + 24 + 16 * s.bindingN o) stop fuel

/-- The offsets of the binding entries. -/
def State.bindings (s : State) : List Nat :=
  match s.section 1 with
  | some x => s.bindingsFrom x.offset (x.offset + x.length) (x.length / 24 + 1)
  | none => []

/-- A pier entry of a binding (R292). -/
structure PierEntry where
  program : Nat
  length : Nat
  config0 : Nat
  entryCw : Nat
  entryCcw : Nat
  exitCw : Nat
  exitCcw : Nat
  rsv : Nat
deriving DecidableEq, Repr

/-- Pier entry `l` of the binding entry at an offset (R292). -/
def State.pierEntry (s : State) (o l : Nat) : PierEntry :=
  let b := o + 24 + 16 * l
  let r := s.img (b + 10) 3
  ⟨s.img b 4, s.img (b + 4) 4, s.img (b + 8) 2, r % 64, r / 64 % 64, r / 4096 % 64, r / 262144 % 64, s.img (b + 13) 3⟩

/-- The pier entry of a bound physical pier. -/
def State.entryOfPier (s : State) (p : PierIx) : PierEntry :=
  s.pierEntry (s.bindingAt (s.fld Fld.SCHED_STATUS_BINDING 0)) (s.fld Fld.PCTL_STATUS_LOGICAL p.val)

/-- The slots of a region leave it, and it starts empty (R167). -/
def State.emptyRegion (s : State) (p : PierIx) (r : RegionIx) : State :=
  let n := s.rdesc p r Fld.REGION_DESC_SIZE
  let b := s.rdesc p r Fld.REGION_DESC_BASE
  let s1 := if s.rdesc p r Fld.REGION_DESC_VALID = 1 then (List.range n).foldl (fun s i => s.leave p r i) s else s
  { s1.setRegion p r Region.init with
    refetches := s1.refetches.filter (fun e => !(e.1 = p && b ≤ e.2 && e.2 < b + n)) }

/-- The FULL bits of a region's slots are cleared (R167). -/
def State.clearFull (s : State) (p : PierIx) (r : RegionIx) : State :=
  let b := s.rdesc p r Fld.REGION_DESC_BASE
  (List.range (s.rdesc p r Fld.REGION_DESC_SIZE)).foldl (fun s i =>
    s.setSlot p (b + i) { s.slot p (b + i) with full := false, stream := none }) s

/-- The region descriptors of a record are written; one that changes starts empty (R167). Where a joint changes the descriptor of a region and
none of its gang's, its slots leave without a wait for the gang's tags, and the gang keeps its count of reserved tiles (R210; DESIGN
CHOICE, log 159). -/
def State.applyRegions (s : State) (p : PierIx) (set : Nat) (launch : Bool) : State :=
  (List.finRange 64).foldl (fun (s : State) (r : RegionIx) =>
    let w := s.entryWord 6 set r.val
    if !launch && w = s.reg .regionDesc (regionIx p r) then s
    else
      let s1 := (s.emptyRegion p r).setReg .regionDesc (regionIx p r) w
      if s1.rdesc p r Fld.REGION_DESC_VALID = 1 then s1.clearFull p r else s1) s

/-- The eight registers of a stream descriptor. -/
def streamRegs : List RegName :=
  [.streamDesc0, .streamDesc1, .streamDesc2, .streamDesc3, .streamDesc4, .streamDesc5, .streamDesc6, .streamDesc7]

/-- The five registers of a stream's counters. -/
def streamCounts : List RegName := [.streamCount0, .streamCount1, .streamCount2, .streamCount3, .streamCount4]

/-- The eight registers of a copy descriptor. -/
def copyRegs : List RegName :=
  [.copyDesc0, .copyDesc1, .copyDesc2, .copyDesc3, .copyDesc4, .copyDesc5, .copyDesc6, .copyDesc7]

/-- Does descriptor `n` of 8 words in set `set` of a section differ from the registers in force? -/
def State.descChanged (s : State) (rs : List RegName) (ty set n j : Nat) : Bool :=
  rs.zipIdx.any (fun e => s.entryWord ty set (8 * n + e.2) != s.reg e.1 j)

/-- Write descriptor `n` of 8 words. -/
def State.writeDesc (s : State) (rs : List RegName) (ty set n j : Nat) : State :=
  rs.zipIdx.foldl (fun (t : State) e => t.setReg e.1 j (s.entryWord ty set (8 * n + e.2))) s

/-- A gang whose descriptor changes ends: its region is discarded and it starts afresh (R210). -/
def State.endGang (s : State) (p : PierIx) (n : Fin 16) : State :=
  let j := streamIx p n
  let g := s.fld Fld.STREAM_DESC0_GANG j
  let s1 := if s.flag Fld.STREAM_DESC0_VALID j && s.fld Fld.STREAM_DESC0_GANG_POS j = 0 then
      s.emptyRegion p (regionOf (s.fld Fld.STREAM_DESC0_REGION j))
    else s
  ((s1.setGang j Gang.init).setGangBits Fld.APPROACH_STATUS_ARMED p n.val g false).setGangBits Fld.APPROACH_STATUS_DONE p
    n.val g false

/-- The streams of a pier whose descriptors change by a record (R290). -/
def State.changedStreams (s : State) (p : PierIx) (set : Nat) (launch : Bool) : List (Fin 16) :=
  (List.finRange 16).filter (fun n => launch || s.descChanged streamRegs 7 set n.val (streamIx p n))

/-- The stream descriptors of a record are written. The gangs of changed ones end, and those that start by themselves begin
(R187, R190, R210, R217). -/
def State.applyStreams (s : State) (p : PierIx) (set : Nat) (launch : Bool) : State :=
  let ch := s.changedStreams p set launch
  let s1 := ch.foldl (fun s n => s.endGang p n) s
  let s2 := ch.foldl (fun s n =>
    streamCounts.foldl (fun t r => t.setReg r (streamIx p n) 0) (s.writeDesc streamRegs 7 set n.val (streamIx p n))) s1
  ch.foldl (fun s n =>
    let j := streamIx p n
    if s.flag Fld.STREAM_DESC0_VALID j && s.flag Fld.STREAM_DESC0_AUTO j && s.fld Fld.STREAM_DESC0_GANG_POS j = 0 then
      s.startGang p n
    else s) s2

/-- The copy descriptors of a record are written (R273). -/
def State.applyCopies (s : State) (p : PierIx) (set : Nat) (launch : Bool) : State :=
  (List.finRange 8).foldl (fun s d =>
    if launch || s.descChanged copyRegs 8 set d.val (copyIx p d) then
      (s.writeDesc copyRegs 8 set d.val (copyIx p d)).setRun p d CopyRun.init
    else s) s

/-- An arch takes its compensated mode: a change clears the whole spandrel with its poison flags (R94). -/
def State.applyComp (s : State) (p : PierIx) (a : ArchIx) (comp : Nat) : State :=
  let i := archIx p a
  let s1 := s.setFld Fld.ARCH_CFG_COMP i comp
  let cap := if comp = 1 then 32768 else 65536
  if s.fld Fld.ARCH_STATUS_CAPACITY i = cap then s1
  else { s1.setFld Fld.ARCH_STATUS_CAPACITY i cap with spandrel := s1.spandrel.clearRun (i * 65536) 65536 }

/-- The token table of a record comes into force (R323). -/
def State.applyTokens (s : State) (table : Nat) : State :=
  { s.setFld Fld.TOKEN_STATUS_BASE_W 0 (s.entryAt 10 table 0 2) with ramp := s.entryAt 10 table 2 2 }.rebudget

/-- The first logical pier of the domain of a pier: the CW head of its segment, or the pier itself (R118, R364). -/
def State.domFirst (s : State) (p : PierIx) : Nat :=
  match s.domOf p with
  | .solo q => s.fld Fld.PCTL_STATUS_LOGICAL q.val
  | .seg _ =>
    match (s.domPiers (s.domOf p)).find? (fun q => s.fld Fld.RING_CFG_ROLE q.val = 2) with
    | some q => s.fld Fld.PCTL_STATUS_LOGICAL q.val
    | none => s.fld Fld.PCTL_STATUS_LOGICAL p.val

/-- The stage entry of the domain of a pier (R364): its offset in the image. -/
def State.stageEntry (s : State) (p : PierIx) : Option Nat :=
  match s.section 14 with
  | none => none
  | some x =>
    ((List.range (s.entries 14)).map (fun k => x.offset + 72 * k)).find? (fun o =>
      s.img o 1 = s.fld Fld.SCHED_STATUS_BINDING 0 && s.img (o + 2) 2 = s.domFirst p)

/-- The stage of a record becomes the active one (R364-R366, R372); a change at a joint is counted. -/
def State.applyStage (s : State) (p : PierIx) (stage : Nat) (launch : Bool) : State :=
  let n := match s.stageEntry p with
    | some o => s.img (o + 1) 1
    | none => 1
  let id := match s.stageEntry p with
    | some o => s.img (o + 20 + 16 * stage) 2
    | none => 0
  let s1 := if !launch && s.fld Fld.STAGE_STATUS_ACTIVE p.val != stage then
      s.bump Fld.STAGE_STATUS_SWITCHES p.val 1
    else s
  ((s1.setFld Fld.STAGE_STATUS_ACTIVE p.val stage).setFld Fld.STAGE_STATUS_NSTAGES p.val n).setFld
    Fld.STAGE_STATUS_STAGE_ID p.val id

/-- The places in the image of configuration record `i` and of the sets and the token table that it names: offset and length (R288,
R290). -/
def State.recordPlaces (s : State) (i : Nat) : List (Nat × Nat) :=
  ([(3, i), (6, s.entryAt 3 i 0 2), (7, s.entryAt 3 i 2 2), (8, s.entryAt 3 i 4 2), (10, s.entryAt 3 i 16 2)] : List (Nat × Nat)).filterMap
    (fun e => (s.section e.1).map (fun x => (x.offset + e.2 * entrySize e.1, entrySize e.1)))

/-- Must the module wait with the read of a configuration record (R231)? -/
def State.recordWaits (s : State) (i : Nat) : Bool := (s.recordPlaces i).any (fun e => s.readWaits s.imageObject e.1 e.2)

/-- A configuration record is read from the image (R227, R290). One with poisoned bytes is applied as memory holds it (DESIGN CHOICE, log
164). -/
def State.readRecord (s : State) (i : Nat) : State :=
  (s.recordPlaces i).foldl (fun s e => (s.readObject s.imageObject e.1 e.2).2) s

/-- A section of the image is read whole (R227). -/
def State.readSection (s : State) (ty : Nat) : State :=
  match s.section ty with
  | some x => (s.readObject s.imageObject x.offset x.length).2
  | none => s

/-- Must the module wait with the read of a section? -/
def State.sectionWaits (s : State) (ty : Nat) : Bool := (s.section ty).any (fun x => s.readWaits s.imageObject x.offset x.length)

/-- Configuration record `i` is applied in a pier (R290); at LAUNCH every descriptor counts as changed (R299). -/
def State.applyRecord (s0 : State) (p : PierIx) (i : Nat) (launch : Bool) : State :=
  let s := s0.readRecord i
  let rs := s.entryAt 3 i 0 2
  let ss := s.entryAt 3 i 2 2
  let cs := s.entryAt 3 i 4 2
  let comp := s.entryAt 3 i 6 1
  let s1 := ((s.applyRegions p rs launch).applyStreams p ss launch).applyCopies p cs launch
  let s2 := (List.finRange 4).foldl (fun s a => s.applyComp p a (comp / 2 ^ a.val % 2)) s1
  ((s2.applyStage p (s.entryAt 3 i 7 1) launch).setReg .deckArbCfg p.val (s.entryWord 3 i 1)).applyTokens
    (s.entryAt 3 i 16 2)

/-- Does a record change COMP in a pier (R94)? -/
def State.compChanges (s : State) (p : PierIx) (i : Nat) : Bool :=
  (List.finRange 4).any (fun a =>
    s.fld Fld.ARCH_STATUS_CAPACITY (archIx p a) != (if s.entryAt 3 i 6 1 / 2 ^ a.val % 2 = 1 then 32768 else 65536))

end Sys2Proof.Machine
end

