-- ==== Sys2Proof/Machine/Rng.lean ====
section
/-! DEFINITION. The random-number block of a pier: the draw of the reproducible generator (R358, R359), the use counter
of a stream (R360), the bits of a drain's element and of a lane (R361, R362), and wide bits, which are free values
(R363). -/
namespace Sys2Proof.Machine

/-- The four words of a draw while it is computed, and its result. -/
structure Draw where
  x0 : BitVec 32
  x1 : BitVec 32
  x2 : BitVec 32
  x3 : BitVec 32
deriving DecidableEq, Repr

/-- One half of a round: both additions and the two rotations by `a` and `b` (R359). -/
def Draw.quarter (d : Draw) (a b : Nat) : Draw :=
  let x0 := d.x0 + d.x1
  let x3 := (d.x3 ^^^ x0).rotateLeft a
  let x2 := d.x2 + x3
  ⟨x0, (d.x1 ^^^ x2).rotateLeft b, x2, x3⟩

/-- Round `r` of a draw (R359). -/
def Draw.round (k0 k1 : BitVec 32) (d : Draw) (r : Nat) : Draw :=
  let e := (d.quarter 16 12).quarter 8 7
  { e with
    x0 := e.x0 ^^^ (k0 + BitVec.ofNat 32 (r + 1) * 0x9E3779B9#32)
    x2 := e.x2 ^^^ (k1 + BitVec.ofNat 32 (r + 1) * 0x7F4A7C15#32) }

/-- The result of a draw for a key and a counter (R359). -/
def draw (k0 k1 : BitVec 32) (c : Draw) : Draw :=
  let x := (List.range 10).foldl (Draw.round k0 k1) c
  ⟨x.x0 + c.x0, x.x1 + c.x1, x.x2 + c.x2, x.x3 + c.x3⟩

/-- Word `i` of a result. -/
def Draw.word (d : Draw) (i : Nat) : BitVec 32 :=
  match i % 4 with
  | 0 => d.x0
  | 1 => d.x1
  | 2 => d.x2
  | _ => d.x3

/-- The number of a stream's registers: 64 · pier + stream. -/
def rngIx (p : PierIx) (n : Nat) : Nat := 64 * p.val + n % 64

/-- The draw of stream `n` of a pier for a block of a use (R358). -/
def State.drawOf (s : State) (p : PierIx) (n use block : Nat) : Draw :=
  let seed := s.reg .rngSeed (rngIx p n)
  draw (seed.extractLsb' 0 32) (seed.extractLsb' 32 32)
    ⟨BitVec.ofNat 32 block, BitVec.ofNat 32 use, BitVec.ofNat 32 s.launchStep,
      BitVec.ofNat 32 (s.fld Fld.RNG_STATUS_SHARD p.val + s.fld Fld.PCTL_STATUS_LOGICAL p.val % 128 * 2 ^ 16 +
        n % 64 * 2 ^ 23 + s.fld Fld.RNG_STATUS_EVAL p.val * 2 ^ 29)⟩

/-- The stream's USE as the next use takes it (R360). -/
def State.useOf (s : State) (p : PierIx) (n : Nat) : Nat := s.fld Fld.RNG_USE_USE (rngIx p n)

/-- A use is taken in its issue slot: USE advances (R360). -/
def State.takeUse (s : State) (p : PierIx) (n : Nat) : State := s.wrapAdd Fld.RNG_USE_USE (rngIx p n) 1

/-- Count reproducible draws (R372). -/
def State.countDraws (s : State) (p : PierIx) (n : Nat) : State := s.wrapAdd Fld.RNG_COUNT_DRAWS p.val n

/-- The 16 random bits of element `k` of a drain that uses the reproducible generator (R361). -/
def State.drainBits (s : State) (p : PierIx) (n use k : Nat) : Nat :=
  let w := ((s.drawOf p n use (k / 8)).word (k % 8 / 2)).toNat
  if k % 2 = 0 then w % 65536 else w / 65536

/-- Free value `k` counted from the next one to be drawn. -/
def State.freeAt (s : State) (k : Nat) : Word := Config.freeValue (s.freeCtr + k)

/-- `n` free values have been drawn. -/
def State.skipFree (s : State) (n : Nat) : State := { s with freeCtr := s.freeCtr + n }

/-- The uniform value that a lane receives for a 32-bit word: ⌊r / 256⌋ · 2⁻²⁴ (R362). -/
def laneUniform (r : BitVec 32) : F32 := rn32 (.fin false (r.toNat / 256) (-24))

end Sys2Proof.Machine
end

