-- ==== Sys2Proof/Machine/Arch.lean ====
section
/-! DEFINITION. The arches: the stationary grid (R77-R79), spandrel updates in the order of their cycles (R86, R98), the
abandonment of a pass (R87), the tiles of a pass (R80, R84), the drain of a block (R90-R93) and ZERO (R89). -/
namespace Sys2Proof

/-- Does the drain use the reproducible generator (R360)? RND is ignored for FP32 (R62). -/
def DrainDesc.takesUse (d : DrainDesc) : Bool := d.stochastic && !d.wide && d.outFmt != .fp32

end Sys2Proof
namespace Sys2Proof.Machine

/-- Is the spandrel in compensated mode (R83, R108)? -/
def State.comp (s : State) (p : PierIx) (a : ArchIx) : Bool :=
  s.fld Fld.ARCH_STATUS_CAPACITY (archIx p a) = 32768

/-- The spandrel capacity in force (R83). -/
def State.capacity (s : State) (p : PierIx) (a : ArchIx) : Nat := s.fld Fld.ARCH_STATUS_CAPACITY (archIx p a)

/-- The format of the grid's tile, where the grid is valid (R78). -/
def State.gridFmt (s : State) (p : PierIx) (a : ArchIx) : Option Fmt :=
  if s.flag Fld.ARCH_STATUS_STAT_VALID (archIx p a) then fmtOfTag (s.fld Fld.ARCH_STATUS_STAT_FMT (archIx p a)) else none

/-- The tile in the stationary grid (R77). -/
def State.grid (s : State) (p : PierIx) (a : ArchIx) : Tile :=
  let x := s.arch p a
  { Tile.empty with
    tag := BitVec.ofNat 8 (s.fld Fld.ARCH_STATUS_STAT_FMT (archIx p a))
    orient := s.flag Fld.ARCH_STATUS_STAT_ORIENT (archIx p a)
    scale := x.scale
    rows := x.rows
    exts := x.exts }

/-- Twenty-four hours in ticks of 10 ns (R480, R492). -/
def dayTicks : Nat := 8640000000000

/-- A GRID_PARITY or SPANDREL_UE of an arch: at the fourth within 24 h the pier is to be fenced with REPLACE at the next
step boundary (R480). -/
def State.noteUpset (s : State) (p : PierIx) (a : ArchIx) : State :=
  let x := s.arch p a
  let us := s.now :: x.upsets.filter (fun u => s.now.toNat - u.toNat < dayTicks)
  let s1 := s.setArch p a { x with upsets := us }
  if 4 ≤ us.length && !s1.fenceDue.contains p then { s1 with fenceDue := s1.fenceDue ++ [p] } else s1

/-- What a read of a spandrel entry in slot `t` finds by the ECC of its words, two of them in compensated mode (R88): a single
error is corrected, counted and flagged; a double error poisons the entry and raises SPANDREL_UE. -/
def State.checkEntry (s : State) (p : PierIx) (a : ArchIx) (t i : Nat) : State :=
  let e := s.entry p a i
  let ws := e.flips :: (if s.comp p a then [e.flipsC] else [])
  let ce := (ws.filter (fun n => n = 1)).length
  let ue := (ws.filter (fun n => 2 ≤ n)).length
  if ce + ue = 0 then s
  else
    let s1 := s.setEntry p a i { e with flips := 0, flipsC := 0, poison := e.poison || 0 < ue }
    let s2 := if ce = 0 then s1
      else (s1.bump Fld.ARCH_ERR_COUNT_CE_COUNT (archIx p a) ce).flagEvent Fld.ARCH_ERR_SPANDREL_CE (archIx p a) .spandrelCe
        1 p.val (a.val * 2 ^ 48)
    if ue = 0 then s2
    else ((s2.bump Fld.ARCH_ERR_COUNT_UE_COUNT (archIx p a) ue).noteUpset p a).archFault Fld.ARCH_ERR_SPANDREL_UE p a t
      .spandrelUe

/-- Was the entry cleared in slot `c` by a ZERO or a CLEAR drain (R89, R92)? -/
def Arch.clearedIn (x : Arch) (c i : Nat) : Bool := x.cleared.1 = c && x.cleared.2.any (fun e => e.1 ≤ i && i < e.2)

/-- The entries from `lo` up to `hi` are cleared in slot `c`: +0, with no error term and no poison (R89, R92). -/
def State.clearEntries (s : State) (p : PierIx) (a : ArchIx) (c lo hi : Nat) : State :=
  let x := s.arch p a
  let s1 := { s with spandrel := s.spandrel.clearRun (archIx p a * 65536 + lo) (hi - lo) }
  s1.setArch p a { x with cleared := (c, (lo, hi) :: (if x.cleared.1 = c then x.cleared.2 else [])) }

/-- The updates of a row are written in slot `c` to the entries from `base` on (R86, R98). An entry that was cleared in the same
cycle is left holding y (R89, R92). -/
def State.writeUpdates (s : State) (p : PierIx) (a : ArchIx) (c base : Nat) (ys : List F32) : State :=
  ys.zipIdx.foldl (fun s y =>
    let i := base + y.2
    s.setEntry p a i (if (s.arch p a).clearedIn c i then { Entry.zero with s := y.1 }
      else (s.entry p a i).update (s.comp p a) y.1)) s

/-- The entries that a pass updates, in the order of its rows; `w` is its output width (R84). -/
def passEntries (d : PassDesc) (w : Nat) : List Nat :=
  (List.range d.tiles).flatMap (fun t => (List.range 64).flatMap (fun r =>
    (List.range w).map (fun n => d.base + t * d.tstride + 64 * 2 ^ d.pitch * r + n)))

/-- The last entry that a block of rows reaches (R85). -/
def lastEntry (base pitch width : Nat) : Nat := base + 63 * (64 * 2 ^ pitch) + width - 1

/-- Set the poison flag of an entry (R87). -/
def State.poisonEntry (s : State) (p : PierIx) (a : ArchIx) (i : Nat) : State :=
  s.setEntry p a i { s.entry p a i with poison := true }

/-- Is this work part of the pass of arch `a` that was issued in slot `start`? -/
def WorkKind.ofPass (k : WorkKind) (a : ArchIx) (start : Nat) : Bool :=
  match k with
  | .pass x => x.a = a && x.start = start
  | .rowDot x _ _ _ => x.a = a && x.start = start
  | .rowRead x _ _ _ => x.a = a && x.start = start
  | .rowWrite x _ _ _ => x.a = a && x.start = start
  | _ => false

/-- A pass is abandoned in slot `c`: its rows on their way and its updates that are not written are discarded, its whole
range is poisoned (R87, R101), and it is counted (R112). -/
def State.abandonPass (s : State) (p : PierIx) (x : PassRun) (c : Nat) : State :=
  let y := s.arch p x.a
  let s1 := { s with flight := s.flight.filter (fun w => !(w.pier = p && w.kind.ofPass x.a x.start)) }
  let s2 := s1.setArch p x.a { y with
    captures := y.captures.map (fun e => if e.1 = x.start then (x.start, min e.2 c) else e) }
  ((passEntries x.d x.width).foldl (fun s i => s.poisonEntry p x.a i) s2).wrapAdd Fld.ARCH_PASS_COUNT_ABANDONED
    (archIx p x.a) 1

/-- A grid row fails its parity when a pass reads it: GRID_PARITY, and the grid is no longer valid (R79). -/
def State.gridParity (s : State) (p : PierIx) (a : ArchIx) (t : Nat) : State :=
  (((s.setFld Fld.ARCH_STATUS_STAT_VALID (archIx p a) 0).bump Fld.ARCH_ERR_COUNT_PARITY_COUNT (archIx p a) 1).noteUpset
    p a).archFault Fld.ARCH_ERR_GRID_PARITY p a t .gridParity

/-- The first entry that row `i` of a pass updates (R84). -/
def PassRun.entryOf (x : PassRun) (i : Nat) : Nat := x.d.base + i / 64 * x.d.tstride + 64 * 2 ^ x.d.pitch * (i % 64)

/-- The results of a row that meets the grid (R75, R80). -/
def State.rowResults (s : State) (p : PierIx) (x : PassRun) (wf : Fmt) (row : RingRow) : List F32 :=
  let t := { Tile.empty with scale := x.scale, rows := [row.data], exts := [row.side] }
  (List.range x.width).map (fun n => dotAt x.d.shape x.d.sel t x.d.sfmt (s.grid p x.a) wf 0 n)

/-- Row `i` of a pass has been captured in slot `c`: its A1 comes in the next cycle (R98). -/
def State.captureRow (s : State) (p : PierIx) (x : PassRun) (c i : Nat) (row : RingRow) : State :=
  s.addWork ⟨p, c + 1, some none, false, false, 0, 1, .rowDot x (x.entryOf i) (i + 1 = 64 * x.d.tiles) row⟩

/-- A1 of a row in slot `c` (R98): the grid is read by row or by column, and every row of it is checked for parity. -/
def State.rowDot (s : State) (p : PierIx) (x : PassRun) (c base : Nat) (last : Bool) (row : RingRow) : State :=
  let s1 := s.wrapAdd Fld.ARCH_BUSY_CYCLES_BUSY (archIx p x.a) 1
  match (s.arch p x.a).badRow, s.gridFmt p x.a with
  | none, some wf =>
    s1.addWork ⟨p, c + 5, some none, false, false, 0, 1, .rowRead x base last (s.rowResults p x wf row)⟩
  | some _, _ => (s1.abandonPass p x c).gridParity p x.a c
  | none, none => s1.abandonPass p x c

/-- A6 of a row in slot `c`: the ECC of its entries is checked (R88, R98). -/
def State.rowRead (s : State) (p : PierIx) (x : PassRun) (c base : Nat) (last : Bool) (ys : List F32) : State :=
  let s1 := (List.range ys.length).foldl (fun s n => s.checkEntry p x.a c (base + n)) s
  s1.addWork ⟨p, c + 2, some none, false, false, 0, 1, .rowWrite x base last ys⟩

/-- A8 of a row in slot `c`: its entries are written, and with its last row the pass is done (R98, R112). -/
def State.rowWrite (s : State) (p : PierIx) (x : PassRun) (c base : Nat) (last : Bool) (ys : List F32) : State :=
  let s1 := s.writeUpdates p x.a c base ys
  if last then s1.wrapAdd Fld.ARCH_PASS_COUNT_DONE (archIx p x.a) 1 else s1

/-- Where the reads of a drain go: the read cycles of the element reads and, for SSF4, of the read for A (R68, R90,
R91). -/
structure DrainTime where
  elem : Nat
  first : Nat
deriving DecidableEq, Repr

/-- The read cycles of a drain (R68, R91). -/
def drainTime (comp : Bool) (d : DrainDesc) : DrainTime :=
  let n := 64 * d.outFmt.cols
  let byPort := if comp then n / 1024 else n / 2048
  let byRng := if d.stochastic && !d.wide && d.outFmt != .fp32 then n / 512 else 0
  ⟨max 8 (max byPort byRng), if d.outFmt = .ssf4 then 8 else 0⟩

/-- D, the read cycles that occupy the drain path (R93). -/
def DrainTime.total (x : DrainTime) : Nat := x.elem + x.first

/-- The element of a block of values. -/
def valAt (m : List (List F32)) (r c : Nat) : F32 := (m.getD r []).getD c 0

/-- Read row `r` of a block in slot `c`: each entry's ECC is checked, and CLEAR writes +0 and clears the poison flag (R90, R92).
The values and whether an entry is poisoned. -/
def State.drainRow (s : State) (p : PierIx) (a : ArchIx) (c at_ cols : Nat) (clear : Bool) : State × List F32 × Bool :=
  let ix := (List.range cols).map (at_ + ·)
  let s1 := ix.foldl (fun s i => s.checkEntry p a c i) s
  let vals := ix.map (fun i => (s1.entry p a i).drainValue (s1.comp p a))
  let bad := ix.any (fun i => (s1.entry p a i).poison)
  (if clear then s1.clearEntries p a c at_ (at_ + cols) else s1, vals, bad)

/-- Read rows of a block in slot `c`. -/
def State.drainRows (s : State) (p : PierIx) (a : ArchIx) (c base pitch cols : Nat) (clear : Bool) :
    List Nat → State × List (List F32) × Bool
  | [] => (s, [], false)
  | r :: rs =>
    let x := s.drainRow p a c (base + 64 * 2 ^ pitch * r) cols clear
    let y := State.drainRows x.1 p a c base pitch cols clear rs
    (y.1, x.2.1 :: y.2.1, x.2.2 || y.2.2)

/-- The rows that cycle `i` of a drain reads, and whether it is a cycle of the read for A, which clears nothing (R90, R92). -/
def DrainTime.rowsIn (x : DrainTime) (i : Nat) : List Nat × Bool :=
  if i < x.first then ((List.range 8).map (8 * i + ·), true)
  else ((List.range (64 / x.elem)).map ((i - x.first) * (64 / x.elem) + ·), false)

/-- Read cycle `i` of a drain, in slot `c` (R90). -/
def State.drainRead (s : State) (p : PierIx) (a : ArchIx) (c : Nat) (x : DrainRun) (i : Nat) : State × DrainRun :=
  let rs := (drainTime (s.comp p a) x.d).rowsIn i
  let y := s.drainRows p a c x.base x.pitch x.d.outFmt.cols (x.clear && !rs.2) rs.1
  (y.1, if rs.2 then { x with xa := x.xa ++ y.2.1, bad := x.bad || y.2.2 }
    else { x with xe := x.xe ++ y.2.1, bad := x.bad || y.2.2 })

/-- The tile that a drain writes, from the rows that it has read (R62-R69). -/
def State.drainTile (s : State) (p : PierIx) (x : DrainRun) : Tile :=
  let d := x.d
  let cols := d.outFmt.cols
  let u (r c : Nat) : Nat :=
    if d.wide then (Config.freeValue (x.free + (cols * r + c))).toNat % 65536
    else s.drainBits p d.stream.val x.use (cols * r + c)
  let e := encodeTile d.outFmt d.stochastic d.sat d.orient u (valAt x.xa) (valAt x.xe)
  { tag := BitVec.ofNat 8 d.outFmt.tag
    poison := x.bad
    orient := d.orient
    ext := d.outFmt.scaled
    stepTag := BitVec.ofNat 32 x.step
    scale := e.scale
    rows := if x.bad then List.replicate 64 0 else e.rows
    exts := if x.bad then List.replicate 64 0 else e.exts }

/-- The rows of the output that are known once `n` rows have been read and were not known after `m`: where blocks run down the
columns, a block's rows are known when its last row has been read (R63-R65). -/
def DrainRun.known (x : DrainRun) (m n : Nat) : List Nat :=
  let b := if x.d.orient && x.d.outFmt.scaled then x.d.outFmt.block else 1
  (List.range (n / b * b - m / b * b)).map (m / b * b + ·)

/-- The entries that a ZERO clears in one cycle (R89). -/
def zeroRate (comp : Bool) : Nat := if comp then 1024 else 2048

/-- One cycle of a ZERO, in slot `c`: the next group of entries is cleared (R89). -/
def State.zeroGroup (s : State) (p : PierIx) (a : ArchIx) (c base count done : Nat) : State :=
  let n := zeroRate (s.comp p a)
  let lo := base + n * done
  s.clearEntries p a c lo (min (base + count) (lo + n))

/-- The tile of a stopped instruction: zero data and POISON = 1 (R311). -/
def poisonTile (f : Fmt) (stepTag : Nat) : Tile :=
  { Tile.empty with
    tag := BitVec.ofNat 8 f.tag
    poison := true
    ext := f.scaled
    stepTag := BitVec.ofNat 32 stepTag
    scale := f32One }

end Sys2Proof.Machine
end

