-- ==== Sys2Proof/Machine/Ring.lean ====
section
/-! DEFINITION. The viaduct ring: the layout of a segment as its piers see it (R118), the streams on a carriageway and
what an arch captures of them (R122, R123), and the exit of a tile at the tail (R129). -/
namespace Sys2Proof.Machine

/-- The piers of a segment (R115). -/
def State.segPiers (s : State) (g : SegIx) : List PierIx := s.domPiers (.seg g)

/-- S, the arches of a segment (R118). -/
def State.segArches (s : State) (g : SegIx) : Nat := 4 * (s.segPiers g).length

/-- The place of a physical pier in the CW order of the viaduct: spans run up and down in turn (R25, R125). -/
def viaductPos (p : PierIx) : Nat := if p.val / 8 % 2 = 0 then p.val else 8 * (p.val / 8) + 7 - p.val % 8

/-- The physical pier at a place of the viaduct, modulo its 136 places. -/
def pierAt (i : Nat) : PierIx :=
  let k := i % 136
  ⟨(if k / 8 % 2 = 0 then k else 8 * (k / 8) + 7 - k % 8) % 136, Nat.mod_lt _ (by decide)⟩

/-- The pier of a segment with a given role (R134). -/
def State.pierWithRole (s : State) (g : SegIx) (role : Nat) : Option PierIx :=
  (s.segPiers g).find? (fun p => s.fld Fld.RING_CFG_ROLE p.val = role)

/-- The role of a carriageway's head: the first logical pier on CW, the last on CCW (R118). -/
def headRole : Cwy → Nat
  | .cw => 2
  | .ccw => 4

/-- The role of a carriageway's tail (R118). -/
def tailRole : Cwy → Nat
  | .cw => 4
  | .ccw => 2

/-- The tail pier of a carriageway (R118). -/
def State.tailPier (s : State) (g : SegIx) (c : Cwy) : Option PierIx := s.pierWithRole g (tailRole c)

/-- The exit region of a tail pier (R134). -/
def State.exitRegion (s : State) (p : PierIx) (c : Cwy) : RegionIx :=
  ⟨s.fld (match c with
    | .cw => Fld.RING_CFG_EXIT_CW
    | .ccw => Fld.RING_CFG_EXIT_CCW) p.val % 64, Nat.mod_lt _ (by decide)⟩

/-- k, the place of a pier in its segment counted from the first logical pier (R118). -/
def State.segPlace (s : State) (g : SegIx) (p : PierIx) : Nat :=
  let first := match s.pierWithRole g 2 with
    | some f => s.fld Fld.PCTL_STATUS_LOGICAL f.val
    | none => 0
  let n := s.fld Fld.SCHED_STATUS_BOUND_N 0
  (s.fld Fld.PCTL_STATUS_LOGICAL p.val + n - first) % n

/-- q, the travel position of an arch (R118). -/
def State.travelPos (s : State) (g : SegIx) (c : Cwy) (p : PierIx) (a : ArchIx) : Nat :=
  let k := s.segPlace g p
  match c with
  | .cw => 4 * k + a.val
  | .ccw => s.segArches g - 4 - 4 * k + (3 - a.val)

/-- The slot in which row 0 of the stream is captured at position `q` (R122). -/
def RingStream.rowAt (x : RingStream) (q : Nat) : Nat := x.start + 57 + q

/-- The stream whose words pass position `q` of a carriageway in slot `c`; none: VALID = 0 (R114). -/
def State.streamAt (s : State) (g : SegIx) (w : Cwy) (q c : Nat) : Option RingStream :=
  s.ring.find? (fun x => x.seg = g && x.cwy = w && x.rowAt q ≤ c && c < x.rowAt q + x.rows.length)

/-- Row `i` of a stream. -/
def RingStream.row (x : RingStream) (i : Nat) : RingRow := x.rows.getD i ⟨0, 0⟩

/-- The TILE_SCALE and STEP_TAG that the FRAG fields of tile `j` of a stream carry. -/
def RingStream.head (x : RingStream) (j : Nat) : F32 × BitVec 32 := x.heads.getD j (f32One, 0)

/-- The FRAG field of row `i` of a stream: byte r of its tile's TILE_SCALE for rows 0 to 3, byte r - 4 of its STEP_TAG for rows 4 to 7
(R60, R114). -/
def RingStream.frag (x : RingStream) (i : Nat) : Nat :=
  let r := i % 64
  let h := x.head (i / 64)
  if r < 4 then h.1.toNat / 2 ^ (8 * r) % 256
  else if r < 8 then h.2.toNat / 2 ^ (8 * (r - 4)) % 256
  else 0

/-- The 148 bytes of the word that carries row `i` of a stream (R114). -/
def RingStream.word (x : RingStream) (i : Nat) : List Byte :=
  leBytes 128 (x.row i).data.toNat ++ leBytes 16 (x.row i).side.toNat ++
    leBytes 4 (1 + i % 64 * 2 + x.fmt.tag % 16 * 2 ^ 7 + i / 64 % 1024 * 2 ^ 11 + x.frag i * 2 ^ 21 + x.exit.toNat * 2 ^ 29)

/-- The ones of a byte. -/
def onesOf (b : Byte) : Nat := ((List.range 8).filter (fun k => b.getLsbD k)).length

/-- The 19 parity bits of a word: bit k is the even parity of its bytes 8k to 8k + 7 (R114). -/
def parityOf (w : List Byte) : BitVec 19 :=
  BitVec.ofNat 19 ((List.range 19).foldl (fun n k => n + (((w.drop (8 * k)).take 8).map onesOf).sum % 2 * 2 ^ k) 0)

/-- The place of a pier on the path of a carriageway, counted in the direction of travel from the head's pier (R118, R125). -/
def State.pathIx (s : State) (g : SegIx) (c : Cwy) (p : PierIx) : Nat :=
  let h := match s.pierWithRole g (headRole c) with
    | some h => viaductPos h
    | none => 0
  match c with
  | .cw => (viaductPos p + 136 - h) % 136
  | .ccw => (h + 136 - viaductPos p) % 136

/-- Is an error met at the entry of a pier, or with an arch at that arch's capture, by then? -/
def State.metBy (s : State) (g : SegIx) (c : Cwy) (u : RingUpset) (p : PierIx) (a : Option ArchIx) : Bool :=
  let place (a : ArchIx) : Nat := match c with
    | .cw => a.val
    | .ccw => 3 - a.val
  s.pathIx g c u.pier < s.pathIx g c p || (u.pier = p && match u.arch, a with
    | none, _ => true
    | some _, none => false
    | some b, some a => place b ≤ place a)

/-- Does a parity bit of the word of row `i` fail where it enters a pier, or at the capture of an arch (R114, R131)? -/
def State.parityFails (s : State) (g : SegIx) (c : Cwy) (x : RingStream) (i : Nat) (p : PierIx) (a : Option ArchIx) : Bool :=
  let us := x.upsets.filter (fun u => u.row = i && s.metBy g c u p a)
  !us.isEmpty && us.foldl (fun b u => b ^^^ u.bits) (parityOf (x.word i)) != parityOf (x.word i)

/-- The physical piers on the path of a carriageway from its head to its tail, in the direction of travel: the segment's, and the
bypassed ones between them (R125). -/
def State.pathPiers (s : State) (g : SegIx) (c : Cwy) : List PierIx :=
  match s.pierWithRole g (headRole c), s.tailPier g c with
  | some h, some t => (List.range (s.pathIx g c t + 1)).map (fun n => pierAt (match c with
      | .cw => viaductPos h + n
      | .ccw => viaductPos h + 136 - n))
  | _, _ => []

/-- The first arch of a pier in the direction of travel (R118). -/
def firstArch : Cwy → ArchIx
  | .cw => 0
  | .ccw => 3

/-- The words of a stream that enter piers in slot `t` and fail their parity there: each with the pier at whose entry it fails and the
pier of the segment that it reaches first from there, itself or the next one (R131). A word is at a pier's entry with its first capture
position (R122), and at the entry of a bypassed pier with the next pier's (log 157). -/
def State.entryFailures (s : State) (g : SegIx) (c : Cwy) (x : RingStream) (t : Nat) : List (PierIx × PierIx) :=
  if x.upsets.isEmpty then []
  else
    let ps := s.pathPiers g c
    ps.filterMap (fun p =>
      match (ps.dropWhile (· != p)).find? (fun q => (s.segPiers g).contains q) with
      | some q =>
        let i := t - x.rowAt (s.travelPos g c q (firstArch c))
        if x.rowAt (s.travelPos g c q (firstArch c)) ≤ t && i < x.rows.length && s.parityFails g c x i p none then some (p, q)
        else none
      | none => none)

/-- What an arch captures for a row of a pass (R123): the row with its tile's TILE_SCALE and its TSEQ, or the check that fails. -/
inductive Capture where
  | row (x : RingRow) (scale : F32) (tseq : Nat)
  | miss
  | format
deriving DecidableEq, Repr

/-- The checks of R123 on the word that an arch captures in slot `c` for row `i` of a pass; `last` is the TSEQ of the tile before
it. -/
def State.capture (s : State) (g : SegIx) (w : Cwy) (p : PierIx) (a : ArchIx) (c i : Nat) (f : Fmt) (last : Option Nat) :
    Capture :=
  let q := s.travelPos g w p a
  match s.streamAt g w q c with
  | none => .miss
  | some x =>
    let o := c - x.rowAt q
    if x.fmt != f then .format
    else if o % 64 != i % 64 then .miss
    else if i % 64 = 0 && (match last with
        | some n => o / 64 != n + 1
        | none => false) then .miss
    else .row (x.row o) (x.head (o / 64)).1 (o / 64)

/-- Does the word that an arch captures in slot `c` fail its parity (R131)? -/
def State.captureFails (s : State) (g : SegIx) (w : Cwy) (p : PierIx) (a : ArchIx) (c : Nat) : Bool :=
  let q := s.travelPos g w p a
  match s.streamAt g w q c with
  | none => false
  | some x => s.parityFails g w x (c - x.rowAt q) p (some a)

/-- A row fails R123 at an arch: RING_MISS (R135, R136). -/
def State.ringMiss (s : State) (p : PierIx) (a : ArchIx) (t : Nat) : State :=
  (s.bump Fld.RING_ERR_COUNT_MISS_COUNT p.val 1).containFlag Fld.RING_ERR_RING_MISS p.val p t .ringMiss (archDetail t a)

/-- An instruction is refused for its role: RING_ROLE (R117, R120). -/
def State.ringRole (s : State) (p : PierIx) (a t : Nat) : State :=
  s.containFlag Fld.RING_ERR_RING_ROLE p.val p t .ringRole (t % 2 ^ 48 + a * 2 ^ 48)

/-- Does an earlier INJECT still occupy the head's injection port of a carriageway in slot `t` (R120)? -/
def State.injectBusy (s : State) (g : SegIx) (w : Cwy) (t : Nat) : Bool :=
  s.ring.any (fun x => x.seg = g && x.cwy = w && x.start ≤ t && t < x.start + 64 * x.total)

/-- The stream of an INJECT issued in slot `start`. -/
def RingStream.isOf (x : RingStream) (g : SegIx) (w : Cwy) (start : Nat) : Bool := x.seg = g && x.cwy = w && x.start = start

/-- Place a row of the stream injected in slot `start` on its carriageway (R120); with row 0 of a tile the TILE_SCALE, which is 1.0
for every format but SSF4, and the STEP_TAG that its FRAG fields carry (R60, R114). -/
def State.placeRow (s : State) (g : SegIx) (w : Cwy) (start : Nat) (row : RingRow) (head : Option (F32 × BitVec 32)) : State :=
  { s with ring := s.ring.map (fun x =>
      if x.isOf g w start then { x with rows := x.rows ++ [row], heads := x.heads ++ head.toList } else x) }

/-- The stream injected in slot `start`. -/
def State.stream? (s : State) (g : SegIx) (w : Cwy) (start : Nat) : Option RingStream := s.ring.find? (fun x => x.isOf g w start)

/-- Tile `j` of a stream as the tail rebuilds it (R129), its padding as zero (R43, R45). -/
def RingStream.rebuilt (x : RingStream) (j : Nat) : Tile :=
  { tag := BitVec.ofNat 8 x.fmt.tag
    poison := false
    orient := false
    ext := x.fmt.scaled
    stepTag := (x.head j).2
    scale := if x.fmt = .ssf4 then (x.head j).1 else f32One
    rows := (List.range 64).map (fun r => (x.row (64 * j + r)).data)
    exts := (List.range 64).map (fun r => if x.fmt.scaled then (x.row (64 * j + r)).side else 0) : Tile }.padded

end Sys2Proof.Machine
end

