-- ==== Sys2Proof/Machine/Sfu.lean ====
section
/-! DEFINITION. The special functions of R70 and the binary64 functions of the schedule engine (R350), correctly
rounded: each is computed in fixed point with an error bound, and the precision is raised until both bounds round to
one value. -/
namespace Sys2Proof.Machine

/-- The guard, in units of the last fixed-point place, that covers every truncation of a series below. -/
def seriesGuard : Nat := 2 ^ 12

/-- ln 2 in fixed point with p fraction bits: the sum of 1 / (k · 2^k). -/
def ln2Fix (p : Nat) : Nat := (List.range p).foldl (fun a k => a + 2 ^ p / ((k + 1) * 2 ^ (k + 1))) 0

/-- exp t for 0 ≤ t < 1 in fixed point: the sum of t^k / k!. -/
def expFix (p t : Nat) : Nat :=
  ((List.range (p / 2)).foldl (fun (a : Nat × Nat) k =>
    let term := a.2 * t / 2 ^ p / (k + 1)
    (a.1 + term, term)) (2 ^ p, 2 ^ p)).1

/-- ln (num / den) for 1 ≤ num / den < 2 in fixed point: 2 · artanh z with z = (num - den) / (num + den). -/
def lnFix (p num den : Nat) : Nat :=
  let z := (num - den) * 2 ^ p / (num + den)
  let z2 := z * z / 2 ^ p
  2 * ((List.range p).foldl (fun (a : Nat × Nat) k => (a.1 + a.2 / (2 * k + 1), a.2 * z2 / 2 ^ p)) (0, z)).1

/-- cos a for 0 ≤ a < 4 in fixed point: the sum of (-1)^k a^(2k) / (2k)!. -/
def cosFix (p a : Nat) : Int :=
  let a2 := a * a / 2 ^ p
  ((List.range (p / 2)).foldl (fun (s : Int × Nat) k =>
    let term := s.2 * a2 / 2 ^ p / ((2 * k + 1) * (2 * k + 2))
    (if k % 2 = 0 then s.1 - term else s.1 + term, term)) ((2 ^ p : Nat), 2 ^ p)).1

/-- The first precision at which both bounds of a fixed-point value y · 2^e round to one code; the last precision's
lower bound otherwise. -/
def roundSeries (f : FFmt) : List (Int × Int) → Nat
  | [] => 0
  | (y, e) :: t =>
    let code (v : Int) : Nat := f.ieee (v < 0) v.natAbs 1 e
    let lo := code (y - seriesGuard)
    let hi := code (y + seriesGuard)
    if lo = hi then lo
    else
      match t with
      | [] => lo
      | _ => roundSeries f t

/-- The fixed-point precisions tried in turn. -/
def precisions : List Nat := [256, 512]

/-- EXP2, correctly rounded to FP32 (R70). -/
def sfuExp2 (b : F32) : F32 :=
  match f32Val b with
  | .nan => f32Nan
  | .inf neg => if neg then 0 else rn32 (.inf false)
  | .fin neg m e =>
    let x := Val.fin neg m e
    if x.cmp (.fin false 128 0) ≥ 0 then rn32 (.inf false)
    else if x.cmp (.fin true 151 0) < 0 then 0
    else
      -- x as a signed count of 2^-160, exact for every FP32 value in this range
      let q := signedAt neg m e (-160)
      let n : Int := q / (2 ^ 160 : Nat)
      let fr : Nat := (q % (2 ^ 160 : Nat)).toNat
      if fr = 0 then rn32 (.fin false 1 n)
      else
        BitVec.ofNat 32 (roundSeries fmtF32 (precisions.map (fun (p : Nat) =>
          ((expFix p (fr * 2 ^ (p - 160) * ln2Fix p / 2 ^ p) : Int), n - p))))

/-- LOG2, correctly rounded to FP32 (R70). -/
def sfuLog2 (b : F32) : F32 :=
  match f32Val b with
  | .nan => f32Nan
  | .inf neg => if neg then f32Nan else rn32 (.inf false)
  | .fin neg m e =>
    if m = 0 then rn32 (.inf true)
    else if neg then f32Nan
    else
      let l := Nat.log2 m
      let n : Int := e + l
      if m = 2 ^ l then rn32 (.fin (n < 0) n.natAbs 0)
      else
        BitVec.ofNat 32 (roundSeries fmtF32 (precisions.map (fun (p : Nat) =>
          (n * (2 ^ p : Nat) + (lnFix p m (2 ^ l) * 2 ^ p / ln2Fix p : Nat), -(p : Int)))))

/-- RCP, correctly rounded to FP32 (R70). -/
def sfuRcp (b : F32) : F32 := BitVec.ofNat 32 (fmtF32.divide (.fin false 1 0) (f32Val b))

/-- EXP(x) = EXP2(RN₃₂(x × 0x3FB8_AA3B)) (R70). -/
def sfuExp (b : F32) : F32 := sfuExp2 (f32Mul b 0x3FB8AA3B#32)

/-- LN(x) = RN₃₂(LOG2(x) × 0x3F31_7218) (R70). -/
def sfuLn (b : F32) : F32 := f32Mul (sfuLog2 b) 0x3F317218#32

/-- The exact value of binary64 bits. -/
def f64Val (b : F64) : Val := fmtF64.decode b.toNat

/-- Round an exact value to binary64 (R350). -/
def rn64 (v : Val) : F64 := BitVec.ofNat 64 (fmtF64.ofVal v)

/-- Binary64 addition (R350). -/
def f64Add (a b : F64) : F64 := rn64 ((f64Val a).add (f64Val b))
/-- Binary64 subtraction (R350). -/
def f64Sub (a b : F64) : F64 := rn64 ((f64Val a).add (f64Val b).neg)
/-- Binary64 multiplication (R350). -/
def f64Mul (a b : F64) : F64 := rn64 ((f64Val a).mul (f64Val b))
/-- Binary64 division (R350). -/
def f64Div (a b : F64) : F64 := BitVec.ofNat 64 (fmtF64.divide (f64Val a) (f64Val b))

/-- The integer square root's next bit, from the highest of `k` bits downwards. -/
def sqrtBits (n : Nat) : Nat → Nat → Nat
  | 0, r => r
  | k + 1, r => if (r + 2 ^ k) * (r + 2 ^ k) ≤ n then sqrtBits n k (r + 2 ^ k) else sqrtBits n k r

/-- ⌊√n⌋. -/
def isqrt (n : Nat) : Nat := sqrtBits n (Nat.log2 n / 2 + 1) 0

/-- SQRT: the IEEE square root (R350), from the integer root of the magnitude scaled by an even power of two, with a
sticky bit below it. -/
def f64Sqrt (b : F64) : F64 :=
  match f64Val b with
  | .nan => rn64 .nan
  | .inf neg => rn64 (if neg then .nan else .inf false)
  | .fin neg m e =>
    if m = 0 then b
    else if neg then rn64 .nan
    else
      let m' := if e % 2 = 0 then m * 2 ^ 128 else m * 2 ^ 129
      let e' := if e % 2 = 0 then e - 128 else e - 129
      let r := isqrt m'
      rn64 (.fin false (2 * r + (if r * r = m' then 0 else 1)) (e' / 2 - 1))

/-- COS for an argument from 0 to PI, correctly rounded to binary64 (R350). -/
def f64Cos (b : F64) : F64 :=
  match f64Val b with
  | .fin _ m e =>
    if m = 0 then rn64 (.fin false 1 0)
    else
      BitVec.ofNat 64 (roundSeries fmtF64 (precisions.map (fun (p : Nat) =>
        let a : Nat := if 0 ≤ e + (p : Int) then m * 2 ^ (e + (p : Int)).toNat else m / 2 ^ (-(e + (p : Int))).toNat
        (cosFix p a, -(p : Int)))))
  | _ => rn64 .nan

/-- PI, the binary64 value nearest to π (R350). -/
def f64Pi : F64 := 0x400921FB54442D18#64

/-- The bits of n from the most significant downwards. -/
def bitsDown (n : Nat) : List Bool :=
  if n = 0 then [] else (List.range (Nat.log2 n + 1)).reverse.map (fun i => n / 2 ^ i % 2 = 1)

/-- POW(x, n): r = 1; for each bit of n from the most significant downwards r = r × r, then r = r × x where the bit
is 1 (R350). -/
def f64Pow (x : F64) (n : Nat) : F64 :=
  (bitsDown n).foldl (fun r bit => let r2 := f64Mul r r; if bit then f64Mul r2 x else r2) (rn64 (.fin false 1 0))

/-- The binary64 value of a natural number. -/
def f64OfNat (n : Nat) : F64 := rn64 (.fin false n 0)

/-- A binary64 value rounded once to FP32 (R350). -/
def f64ToF32 (b : F64) : F32 := rn32 (f64Val b)

/-- An FP32 value as binary64; the conversion is exact. -/
def f32ToF64 (b : F32) : F64 := rn64 (f32Val b)

/-- Are both binary64 values numbers, and is the first below the second? -/
def f64Lt (a b : F64) : Bool := f64Val a != .nan && f64Val b != .nan && (f64Val a).cmp (f64Val b) < 0

/-- The larger of two binary64 values. -/
def f64Max (a b : F64) : F64 := if f64Lt a b then b else a

/-- The smaller of two binary64 values. -/
def f64Min (a b : F64) : F64 := if f64Lt b a then b else a

end Sys2Proof.Machine
end

