-- ==== Sys2Proof/Machine/Vec.lean ====
section
/-! DEFINITION. The vector unit: lanes and masks (R146), reads of a tile with the checks of R147, tiles built by VST,
transposes (R149), the reduction tree (R148) and row statistics (R152-R155). -/
namespace Sys2Proof.Machine

/-- The 128 lanes of a vector register. -/
abbrev Lanes := List F32

/-- Is a result for register or mask `k` still on its way in slot `t` (R146)? Masks count from 64. -/
def State.notReady (s : State) (p : PierIx) (t k : Nat) : Bool :=
  (s.pier p).vready.any (fun e => e.1 = k && t < e.2)

/-- The lanes of vector register `v` as an instruction in slot `t` reads them. What a read finds before the latency of
the result has passed is left open (R146): free values. -/
def State.readV (s : State) (p : PierIx) (t : Nat) (v : Fin 64) : Lanes × State :=
  if s.notReady p t v.val then
    ((List.range 128).map (fun l => (s.freeAt l).extractLsb' 0 32), s.skipFree 128)
  else ((s.pier p).vregs.slice (fun _ => 0) (128 * v.val) 128, s)

/-- The bits of a mask register as an instruction in slot `t` reads them. -/
def State.readM (s : State) (p : PierIx) (t : Nat) (m : Fin 8) : BitVec 128 × State :=
  if s.notReady p t (64 + m.val) then
    (BitVec.ofNat 128 ((s.freeAt 0).toNat + 2 ^ 64 * (s.freeAt 1).toNat), s.skipFree 2)
  else ((s.pier p).masks.look (fun _ => 0) m.val, s)

/-- The lanes that an instruction acts on: those its mask enables, or all (R146). -/
def State.enable (s : State) (p : PierIx) (t : Nat) (m : Option (Fin 8)) : BitVec 128 × State :=
  match m with
  | none => (BitVec.allOnes 128, s)
  | some m => s.readM p t m

/-- A result for register or mask `k` is on its way and may be read from slot `ready` on (R146). -/
def Pier.await (x : Pier) (t k ready : Nat) : Pier :=
  { x with vready := (k, ready) :: x.vready.filter (fun e => e.1 != k && t < e.2) }

/-- Write a vector register in the lanes that are enabled; the result may be read from slot `t + lat` on (R146). -/
def State.writeV (s : State) (p : PierIx) (t lat : Nat) (v : Fin 64) (en : BitVec 128) (xs : Lanes) : State :=
  let x := s.pier p
  let old := x.vregs.slice (fun _ => 0) (128 * v.val) 128
  let new := (List.range 128).map (fun l => if en.getLsbD l then xs.getD l 0 else old.getD l 0)
  s.setPier p { x.await t v.val (t + lat) with vregs := x.vregs.putRun (fun _ => 0) (128 * v.val) new }

/-- Write a mask register in the lanes that are enabled (R146). -/
def State.writeM (s : State) (p : PierIx) (t lat : Nat) (m : Fin 8) (en bits : BitVec 128) : State :=
  let x := s.pier p
  let old := x.masks.look (fun _ => 0) m.val
  s.setPier p { x.await t (64 + m.val) (t + lat) with
    masks := x.masks.put (fun _ => 0) m.val ((old &&& ~~~en) ||| (bits &&& en)) }

/-- The larger of two FP32 values: NaN gives the canonical NaN (R152). Of +0 and -0 the spec names neither as the larger:
`z` says whether -0 is written. -/
def f32Max (z : Bool) (a b : F32) : F32 :=
  if f32IsNan a || f32IsNan b then f32Nan
  else if f32Lt a b then b
  else if f32Lt b a then a
  else if a = b then a
  else if z then 0x80000000#32 else 0

/-- The smaller of two FP32 values, with the cases of `f32Max`. -/
def f32Min (z : Bool) (a b : F32) : F32 :=
  if f32IsNan a || f32IsNan b then f32Nan
  else if f32Lt a b then a
  else if f32Lt b a then b
  else if a = b then a
  else if z then 0x80000000#32 else 0

/-- A free bit for each lane. -/
def State.freeBits (s : State) (n : Nat) : List Bool × State :=
  ((List.range n).map (fun l => (s.freeAt l).getLsbD 0), s.skipFree n)

/-- The reduction tree over adjacent pairs; `op i` is the combination with free bit `i` (R148). -/
def redTree (op : Nat → F32 → F32 → F32) : Nat → Nat → Lanes → F32
  | 0, _, xs => xs.getD 0 0
  | n + 1, k, xs =>
    redTree op n (k + xs.length / 2)
      ((List.range (xs.length / 2)).map (fun i => op (k + i) (xs.getD (2 * i) 0) (xs.getD (2 * i + 1) 0)))

/-- Is the tile of a format that the vector unit names: that tag, EXT = 0 and ORIENT = 0 (R147)? -/
def Tile.plain (t : Tile) (f : Fmt) : Bool := t.tag.toNat = f.tag && !t.ext && !t.orient

/-- Does the vector unit read this format (R146)? -/
def vectorFmt (f : Fmt) : Bool := f = .fp32 || f = .bf16 || f = .fp16

/-- What the vector unit's read of the tile at data index `i` finds (R147); `named` is the format it names. -/
def State.vecFeedAt (s : State) (p : PierIx) (r : RegionIx) (i : Nat) (named : Fmt) (stale : Bool) : Feed :=
  match s.poisonOrStale p r i stale with
  | some x => x
  | none =>
    let t := s.readTile p r i
    if !vectorFmt named || !t.plain named then .fault .formatMismatch (some i)
    else if s.stepSkew p r t && !s.lenient then .fault .stepSkew (some i)
    else .tile i t (s.stepSkew p r t)

/-- What the vector unit's read of the tile at offset `d` finds (R147). Its reads start in the slot whose check has claimed the
tile, so the check's staleness is that of the slot (R207). -/
def State.vecFeed (s : State) (p : PierIx) (r : RegionIx) (d : Nat) (named : Fmt) : Feed :=
  match s.readAt p r d with
  | .wait i => .wait i false
  | .range => .fault .regionRange none
  | .at i => s.vecFeedAt p r i named (s.staleHere p r i)

/-- A fault that the vector unit's read of a tile raises, once for each tile, with its flags of VEC_ERR (R147, R151). -/
def State.vecFault (s : State) (p : PierIx) (r : RegionIx) (t : Nat) (c : Code) (i : Option Nat) : State :=
  match i with
  | none => s.readFault p r t c none none 0
  | some i =>
    let k := s.slotOf p r i
    let x := s.slot p k
    if x.faulted then s
    else
      let s1 := s.setSlot p k { x with faulted := true }
      match c with
      | .stepSkew =>
        ((s1.noteRead p r i).bump Fld.VEC_COUNT_SKEW_COUNT p.val 1).containFlag Fld.VEC_ERR_STEP_SKEW p.val p t c
          (s.readTile p r i).stepTag.toNat
      | _ => s1.readFault p r t c (some i) (some (Fld.VEC_ERR_FORMAT_MISMATCH, p.val)) 0
          (some (Fld.VEC_ERR_LOAD_FAULT, p.val))

/-- A step mismatch that the vector unit counts in a lenient step (R151). -/
def State.vecSkew (s : State) (p : PierIx) (tag : Nat) : State :=
  let s1 := s.bump Fld.VEC_COUNT_SKEW_COUNT p.val 1
  if s1.flag Fld.VEC_ERR_STEP_SKEW p.val then s1
  else (s1.setFld Fld.VEC_ERR_STEP_SKEW p.val 1).countSkew p tag

/-- The vector unit reads `n` rows from row `r0` on of the tile at offset `d` in slot `t`: the tile, or none after a fault (R147,
R162). -/
def State.vecRead (s : State) (p : PierIx) (t : Nat) (r : RegionIx) (d : Nat) (named : Fmt) (r0 n : Nat) :
    Option Tile × State :=
  match s.vecFeed p r d named with
  | .wait _ _ => (none, s)
  | .fault c i => (none, s.vecFault p r t c i)
  | .tile i x skew =>
    let k := s.slotOf p r i
    let s1 := s.noteRead p r i
    let s2 := if skew then s1.vecSkew p x.stepTag.toNat else s1
    let e := s2.eccRead p k (deckData p k + 128 * r0) (128 * n)
    if e.2 then (none, e.1.deckUe p r t i) else (some x, e.1)

/-- Read `n` rows of several tiles; none if one of them faults. -/
def State.vecReads (s : State) (p : PierIx) (t : Nat) (r : RegionIx) (named : Fmt) (r0 n : Nat) :
    List Nat → Option (List Tile) × State
  | [] => (some [], s)
  | d :: ds =>
    let x := s.vecRead p t r d named r0 n
    let y := State.vecReads x.2 p t r named r0 n ds
    (match x.1, y.1 with
      | some a, some b => some (a :: b)
      | _, _ => none, y.2)

/-- An element of an unscaled tile widened to FP32: a NaN gives the canonical NaN, every other value is exact (R146). -/
def widen (f : Fmt) (row : Row) (j : Nat) : F32 := rn32 (f.elem.decode (elemCode row f.elemBits j))

/-- The part `q` of a tile, widened: lane ℓ takes element ℓ of the part's rows in row-major order (R146, R147). -/
def partLanes (f : Fmt) (t : Tile) (q : Nat) : Lanes :=
  let n := 128 / f.cols
  (List.range 128).map (fun l => widen f (t.row (n * q + l / f.cols)) (l % f.cols))

/-- An FP32 value narrowed by VST: ties to even, overflow to infinity, NaN to the canonical NaN of the format (R147). -/
def narrow (f : Fmt) (x : F32) : Nat := encodeUnscaled f .nearest false x

/-- Store lanes into part `q` of a tile (R147). -/
def storePart (f : Fmt) (t : Tile) (q : Nat) (xs : Lanes) : Tile :=
  let n := 128 / f.cols
  { t with rows := (List.range 64).map (fun r =>
      if n * q ≤ r && r < n * q + n then
        BitVec.ofNat 1024 (packCodes f.elemBits ((List.range f.cols).map (fun c =>
          narrow f (xs.getD (f.cols * (r - n * q) + c) 0))))
      else t.row r) }

/-- A tile with the side-band that VST writes and every element +0 (R147). -/
def vecTile (f : Fmt) (step : Nat) : Tile :=
  { Tile.empty with tag := BitVec.ofNat 8 f.tag, stepTag := BitVec.ofNat 32 step, scale := f32One }

/-- The tile that VSTs are building in a region. -/
def Pier.build (x : Pier) (r : RegionIx) : Option Build := x.builds.find? (fun b => b.region = r)

/-- The element bits of a 64 × 64 block, as the source tiles of a VTRANS hold them (R149). -/
def blockBits (f : Fmt) (ts : List Tile) (i j : Nat) : Nat :=
  elemCode ((ts.getD (j / f.cols) Tile.empty).row i) f.elemBits (j % f.cols)

/-- The tiles that a VTRANS writes (R149). -/
def transposed (f : Fmt) (ts : List Tile) : List Tile :=
  (List.range (64 / f.cols)).map (fun k =>
    { vecTile f (ts.getD 0 Tile.empty).stepTag.toNat with
      rows := (List.range 64).map (fun r =>
        BitVec.ofNat 1024 (packCodes f.elemBits ((List.range f.cols).map (fun c => blockBits f ts (f.cols * k + c) r)))) })

/-- The FP32 value of a count. -/
def f32OfNat (n : Nat) : F32 := rn32 (.fin false n 0)

/-- The final record of a normalisation from n, mu and q (R152). -/
def normFinish (n mu q eps : F32) : F32 × F32 :=
  let v := f32Mul q (sfuRcp n)
  (mu, sfuExp2 (f32Mul 0xBF000000#32 (sfuLog2 (f32Add v eps))))

/-- The mean and the sum of squares of one row (R152). -/
def normRow (xs : List F32) : F32 × F32 :=
  let s := xs.foldl f32Add 0
  let mu := f32Mul s (sfuRcp (f32OfNat xs.length))
  (mu, xs.foldl (fun q x => let d := f32Sub x mu; f32Fma d d q) 0)

/-- The maximum and the sum of exponentials of one row (R152). -/
def softmaxRow (z : Bool) (xs : List F32) : F32 × F32 :=
  let m := xs.foldl (f32Max z) 0xFF800000#32
  (m, xs.foldl (fun s x => f32Add s (sfuExp (f32Sub x m))) 0)

/-- The modes of VSTAT (R152). -/
def statRow (mode : Nat) (z : Bool) (eps : F32) (xs : List F32) : F32 × F32 :=
  match mode with
  | 0 => let r := normRow xs; normFinish (f32OfNat xs.length) r.1 r.2 eps
  | 2 => normRow xs
  | _ => softmaxRow z xs

/-- Row ℓ of the 128 rows that 2L tiles hold, in increasing column order (R152). -/
def statElems (f : Fmt) (ts : List Tile) (l : Nat) : List F32 :=
  let half := ts.length / 2
  (((List.range half).map (fun k =>
    let t := ts.getD (if l < 64 then k else half + k) Tile.empty
    (List.range f.cols).map (fun c => widen f (t.row (l % 64)) c)))).flatten

/-- Combine one record of P partial tiles in NORM mode (R154). -/
def normCombine (np eps : F32) : List (F32 × F32) → F32 × F32
  | [] => (0, 0)
  | (mu0, q0) :: rest =>
    let x := rest.foldl (fun (a : F32 × F32 × F32) r =>
      let n2 := f32Add a.1 np
      let d := f32Sub r.1 a.2.1
      let w := f32Mul np (sfuRcp n2)
      let mu := f32Fma d w a.2.1
      let q := f32Add a.2.2 r.2
      (n2, mu, f32Fma (f32Mul d d) (f32Mul a.1 w) q)) (np, mu0, q0)
    normFinish x.1 x.2.1 x.2.2 eps

/-- Combine one record of P partial tiles in SOFTMAX mode (R154). -/
def softmaxCombine (z : Bool) : List (F32 × F32) → F32 × F32
  | [] => (0, 0)
  | (m0, s0) :: rest => rest.foldl (fun (a : F32 × F32) r =>
      let m2 := f32Max z a.1 r.1
      (m2, f32Add (f32Mul a.2 (sfuExp (f32Sub a.1 m2))) (f32Mul r.2 (sfuExp (f32Sub r.1 m2))))) (m0, s0)

/-- Record `k` of a statistics tile: FP32 words 2k and 2k + 1 (R153). -/
def recordAt (t : Tile) (k : Nat) : F32 × F32 :=
  let w (i : Nat) : F32 := BitVec.ofNat 32 (elemCode (t.row (i / 32)) 32 (i % 32))
  (w (2 * k), w (2 * k + 1))

/-- The statistics tile of up to 1,024 records; its unfilled words hold +0 (R153). -/
def statTile (step : Nat) (rs : List (F32 × F32)) : Tile :=
  { vecTile .fp32 step with
    rows := (List.range 64).map (fun r => BitVec.ofNat 1024 (packCodes 32 ((List.range 32).map (fun c =>
      let x := rs.getD ((32 * r + c) / 2) (0, 0)
      (if c % 2 = 0 then x.1 else x.2).toNat)))) }

/-- The open records of a STATS region (R153). -/
def Pier.records (x : Pier) (r : RegionIx) : Option (List (F32 × F32)) :=
  (x.stats.find? (fun e => e.region = r)).map (fun e => e.records)

/-- Set or close the open statistics tile of a region. -/
def Pier.setRecords (x : Pier) (r : RegionIx) (rs : Option (List (F32 × F32))) : Pier :=
  let rest := x.stats.filter (fun e => e.region != r)
  { x with stats := match rs with
    | none => rest
    | some l => rest ++ [⟨r, l⟩] }

/-- A produced tile is written `n` rows a cycle in `cycles` cycles from slot `t` on, as requester 4 (R163, R165). -/
def State.putTile (s : State) (p : PierIx) (t cycles n k : Nat) (x : Tile) : State :=
  (List.range cycles).foldl (fun s q =>
    let rows := (List.range n).map (n * q + ·)
    s.addWork ⟨p, t + q, none, false, false, 0, 1, .put 4 k (rows.map (fun r => (r, x.row r))) (putPorts k rows)⟩) s

/-- Reserve a slot of a region in slot `t` and write a statistics tile there: 4 rows a cycle in the next 16 cycles, and it lands in the
17th (R155, R170; log 131). -/
def State.produce (s : State) (p : PierIx) (r : RegionIx) (t : Nat) (x : Tile) : State :=
  let i := s.reserveIx p r
  let s1 := s.reserve p r
  (s1.putTile p (t + 1) 16 4 (s1.slotOf p r i) x).addWork ⟨p, t + 17, some none, false, false, 0, 1, .land r i x false⟩

/-- Write the open statistics tile of a region in slot `t`, if there is one (R153, R155). -/
def State.flushStats (s : State) (p : PierIx) (r : RegionIx) (t : Nat) : State :=
  match (s.pier p).records r with
  | none => s
  | some rs => (s.setPier p ((s.pier p).setRecords r none)).produce p r t (statTile s.stepNo rs)

/-- Append records to the open statistics tile of a region in slot `t`; a tile that holds 1,024 records is written, and so is any tile of a
pier that waits at a JOINT (R153, R155). -/
def State.appendStats (s : State) (p : PierIx) (r : RegionIx) (t : Nat) (rs : List (F32 × F32)) : State :=
  let all := ((s.pier p).records r).getD [] ++ rs
  let s1 := s.setPier p ((s.pier p).setRecords r (some (all.take 1024)))
  if 1024 ≤ all.length || (s.pier p).atJoint.isSome then s1.flushStats p r t else s1

/-- Would appending 128 records fill the open tile of a region, so that a slot must be reserved (R153)? -/
def Pier.statsFill (x : Pier) (r : RegionIx) : Bool := 1024 ≤ ((x.records r).getD []).length + 128

/-- The rows that cycle `j` of a VSTAT or VSTATC reads: each the data index of its tile and its number there (R152, R155). -/
def StatRun.rowsIn (x : StatRun) (j : Nat) : List (Nat × Nat) :=
  (List.range x.per).map (fun n =>
    let i := x.per * j + n
    (x.ixs.getD (i / x.span) 0, x.lo + i % x.span))

/-- The tiles of a VSTAT or VSTATC with the rows that it has read. -/
def StatRun.tiles (x : StatRun) : List Tile :=
  (List.range x.ixs.length).map (fun k =>
    { Tile.empty with rows := List.replicate x.lo 0 ++ (x.rows.drop (x.span * k)).take x.span })

/-- The 128 records of a VSTAT or VSTATC (R152-R154). -/
def StatRun.records (x : StatRun) : List (F32 × F32) :=
  let z (i : Nat) : Bool := (Config.freeValue (x.free + i)).getLsbD 0
  let ts := x.tiles
  (List.range 128).map (fun i =>
    match x.op with
    | .stat mode _ => statRow mode (z i) x.eps (statElems x.fmt ts i)
    | .combine softmax group =>
      let part := ts.map (fun o => recordAt o (128 * group + i))
      if softmax then softmaxCombine (z i) part else normCombine x.np x.eps part)

/-- A VSTAT or VSTATC ends in slot `t`: its records are appended (R153). -/
def State.statDone (s : State) (p : PierIx) (t : Nat) (x : StatRun) : State := s.appendStats p x.stats t x.records

/-- A vector instruction has issued (R151). -/
def State.vecBusy (s : State) (p : PierIx) : State := s.wrapAdd Fld.VEC_COUNT_BUSY p.val 1

end Sys2Proof.Machine
end

