-- ==== Sys2Proof/Machine/Upd.lean ====
section
/-! DEFINITION. The update engine: the two rules (R337-R339), the checks of a weight tile (R347, R348), and the schedule
engine's scalars (R350, R351). -/
namespace Sys2Proof.Machine

/-- The scalars of a group as the update engine latches them, in the order of INDEX (R353): LR, DECAY, B1, OB1, B2, OB2,
BC1, BC2, WD, T. -/
structure Scalars where
  lr : F32
  decay : F32
  b1 : F32
  ob1 : F32
  b2 : F32
  ob2 : F32
  bc1 : F32
  bc2 : F32
  wd : F32
  t : F32
deriving DecidableEq, Repr

/-- A schedule group's record (R349). -/
structure SchedRec where
  peak : F32
  min : F32
  beta1 : F32
  beta2 : F32
  wd : F32
  gamma : F32
  step0 : Nat
  warmup : Nat
  decayLen : Nat
  stepEvery : Nat
  warmShape : Nat
  decayShape : Nat
  restart : Bool
  cycleMult : Nat
deriving DecidableEq, Repr

/-- The place in a restarting cycle: p and L of R351. `fuel` bounds the cycles walked. -/
def cycleAt : Nat → Nat → Nat → Nat → Nat × Nat
  | 0, _, l, u => (u, l)
  | fuel + 1, m, l, u => if u < l then (u, l) else cycleAt fuel m (l * m) (u - l)

/-- p and L of R351. -/
def SchedRec.place (r : SchedRec) (u : Nat) : Nat × Nat :=
  if r.restart then
    if r.cycleMult ≤ 1 then (u % r.decayLen, r.decayLen) else cycleAt 40 r.cycleMult r.decayLen u
  else (u, r.decayLen)

/-- 1 in binary64. -/
def f64One : F64 := f64OfNat 1
/-- 0.5 in binary64. -/
def f64Half : F64 := 0x3FE0000000000000#64

/-- lr and t of R351 at counter value `n`. -/
def SchedRec.rate (r : SchedRec) (n : Nat) : F64 × Nat :=
  let peak := f32ToF64 r.peak
  let low := f32ToF64 r.min
  if n < r.step0 then (0, 0)
  else
    let t := n - r.step0
    if t < r.warmup then
      let a := f64Div (f64OfNat (t + 1)) (f64OfNat r.warmup)
      (if r.warmShape = 0 then f64Mul peak a
        else f64Mul peak (f64Mul f64Half (f64Sub f64One (f64Cos (f64Mul f64Pi a)))), t)
    else
      let pl := r.place (t - r.warmup)
      let x := f64Min (f64Div (f64OfNat pl.1) (f64OfNat pl.2)) f64One
      (match r.decayShape with
        | 0 => peak
        | 1 => f64Add low (f64Mul (f64Sub peak low) (f64Mul f64Half (f64Add f64One (f64Cos (f64Mul f64Pi x)))))
        | 2 => f64Sub peak (f64Mul (f64Sub peak low) x)
        | 3 =>
          let w0 := max r.warmup 1
          f64Max low (f64Mul peak (f64Sqrt (f64Div (f64OfNat w0) (f64Add (f64OfNat pl.1) (f64OfNat w0)))))
        | _ => f64Max low (f64Mul peak (f64Pow (f32ToF64 r.gamma) (pl.1 / r.stepEvery))), t)

/-- The scalars of a group at counter value `n` (R351). -/
def SchedRec.scalars (r : SchedRec) (n : Nat) : Scalars :=
  let lt := r.rate n
  let bc (b : F32) : F32 := f64ToF32 (f64Div f64One (f64Sub f64One (f64Pow (f32ToF64 b) (lt.2 + 1))))
  { lr := f64ToF32 lt.1
    decay := f64ToF32 (f64Sub f64One (f64Mul lt.1 (f32ToF64 r.wd)))
    b1 := r.beta1
    ob1 := f64ToF32 (f64Sub f64One (f32ToF64 r.beta1))
    b2 := r.beta2
    ob2 := f64ToF32 (f64Sub f64One (f32ToF64 r.beta2))
    bc1 := bc r.beta1
    bc2 := bc r.beta2
    wd := r.wd
    t := f64ToF32 (f64OfNat (lt.2 + 1)) }

/-- The scalars as a list in the order of INDEX (R353). -/
def Scalars.list (x : Scalars) : List F32 := [x.lr, x.decay, x.b1, x.ob1, x.b2, x.ob2, x.bc1, x.bc2, x.wd, x.t]

/-- A latched scalar (R353). -/
def State.scalar (s : State) (p : PierIx) (g : Fin 8) (i : Nat) : F32 :=
  (((s.pier p).scalars.getD g.val []).getD i 0)

/-- sgn(x): +1, -1, or 0 for both zeros (R337). -/
def f32Sgn (x : F32) : F32 :=
  if (f32Val x).isZero then 0 else if x.getLsbD 31 then 0xBF800000#32 else f32One

/-- What a rule does to one element: the new weight and momentum, and whether it was frozen or skipped for a NaN. -/
structure Updated where
  w : F32
  m : F32
  frozen : Bool
  nan : Bool
deriving DecidableEq, Repr

/-- SIGN (R337). -/
def signRule (lr decay : F32) (frozen : Bool) (w g : F32) : Updated :=
  if frozen then ⟨w, 0, true, false⟩
  else if f32IsNan g then ⟨w, 0, false, true⟩
  else ⟨f32Fma w decay (f32Neg (f32Mul lr (f32Sgn g))), 0, false, false⟩

/-- SIGN_MOMENTUM (R337). -/
def momentumRule (lr decay b1 ob1 b2 ob2 : F32) (frozen : Bool) (w m g : F32) : Updated :=
  let c := f32Fma b1 m (f32Mul ob1 g)
  if frozen then ⟨w, m, true, false⟩
  else if f32IsNan c then ⟨w, m, false, true⟩
  else ⟨f32Fma w decay (f32Neg (f32Mul lr (f32Sgn c))), f32Fma b2 m (f32Mul ob2 g), false, false⟩


end Sys2Proof.Machine
namespace Sys2Proof
/-- The format of gradients (R340). -/
def UpdDesc.gFmt (d : UpdDesc) : Fmt := if d.gradBf16 then .bf16 else .fp32
/-- The format of momentum (R340). -/
def UpdDesc.mFmt (d : UpdDesc) : Fmt := if d.momBf16 then .bf16 else .fp32
/-- The format of the shadow (R340). -/
def UpdDesc.sFmt (d : UpdDesc) : Fmt := if d.shadowFp16 then .fp16 else .bf16

/-- The inputs of a weight tile with the formats they must hold: weights, gradients, momentum, bitmap (R347). -/
def UpdDesc.inputs (d : UpdDesc) : List (RegionIx × Fmt) :=
  [(d.wIn, .fp32), (d.gIn, d.gFmt)] ++ (if d.momentum then [(d.mIn, d.mFmt)] else []) ++
    (if d.freezeEn then [(d.fIn, .fp32)] else [])

/-- Is the tile of an input released after weight tile `j` of `total` (R343)? -/
def UpdDesc.lastUse (d : UpdDesc) (r : RegionIx) (f : Fmt) (j total : Nat) : Bool :=
  if d.freezeEn && r = d.fIn then j % 32 = 31 || j + 1 = total
  else if f = .fp32 then true
  else j % 2 = 1
end Sys2Proof
namespace Sys2Proof.Machine

/-- Element `k` of weight tile `j`'s share of an operand tile (R336). -/
def updElem (f : Fmt) (t : Tile) (j k : Nat) : Nat :=
  let i := if f = .fp32 then k else 2048 * (j % 2) + k
  elemCode (t.row (i / f.cols)) f.elemBits (i % f.cols)

/-- An element widened exactly to FP32 with its NaN payload: an FP32 element is taken as it is (R336, R338). -/
def updWide (f : Fmt) (code : Nat) : F32 :=
  match f with
  | .fp32 => BitVec.ofNat 32 code
  | .bf16 => BitVec.ofNat 32 (code * 65536)
  | _ => rn32 (f.elem.decode code)

/-- The freeze bit of element `k` of weight tile `j` (R336). -/
def freezeBit (t : Tile) (j k : Nat) : Bool :=
  let b := 2048 * (j % 32) + k
  (t.row (b / 1024)).getLsbD (b % 1024)

/-- A momentum or shadow element narrowed to 16 bits as VST narrows it (R339). -/
def updNarrow (f : Fmt) (x : F32) : Nat := narrow f x

/-- The results for the 64 elements of cycle `c` of weight tile `j` (R337, R343). -/
def updCycle (d : UpdDesc) (x : Scalars) (tw tg tm tf : Tile) (j c : Nat) : List Updated :=
  (List.range 64).map (fun n =>
    let k := 64 * c + n
    let fr := d.freezeEn && freezeBit tf j k
    let w := updWide .fp32 (updElem .fp32 tw j k)
    let g := updWide d.gFmt (updElem d.gFmt tg j k)
    if d.momentum then
      momentumRule x.lr x.decay x.b1 x.ob1 x.b2 x.ob2 fr w (updWide d.mFmt (updElem d.mFmt tm j k)) g
    else signRule x.lr x.decay fr w g)

/-- The latched scalars of a group (R352). -/
def State.latched (s : State) (p : PierIx) (g : Fin 8) : Scalars :=
  let v := s.scalar p g
  ⟨v 0, v 1, v 2, v 3, v 4, v 5, v 6, v 7, v 8, v 9⟩

/-- The momentum element written back: BF16 with its input bits where the element is unchanged (R338, R339). -/
def momCode (d : UpdDesc) (tm : Tile) (j k : Nat) (u : Updated) : Nat :=
  if u.frozen || u.nan then updElem d.mFmt tm j k
  else if d.momBf16 then updNarrow .bf16 u.m else u.m.toNat

/-- The rows that cycle `c` of weight tile `j` reads or writes of an operand tile of a format (R336, R343). -/
def updRows (f : Fmt) (j c : Nat) : List Nat := if f = .fp32 then [2 * c, 2 * c + 1] else [32 * (j % 2) + c]

/-- The rows of cycle `c` of weight tile `j` from the codes of its 64 elements. -/
def codeRows (f : Fmt) (j c : Nat) (codes : List Nat) : List (Nat × Row) :=
  (updRows f j c).zipIdx.map (fun e =>
    (e.1, BitVec.ofNat 1024 (packCodes f.elemBits ((codes.drop (f.cols * e.2)).take f.cols))))

/-- The granule of the bitmap tile that cycle `c` of weight tile `j` reads (R336). -/
def freezeGranule (j c : Nat) : Nat := 4 * (j % 32) + c / 8

/-- What the checks of R347 on one weight tile find. -/
inductive UpdCheck where
  | ok
  | read (r : RegionIx) (c : Code) (i : Option Nat)
  | format (r : RegionIx) (i : Nat)
  | skew (found : Nat)
deriving DecidableEq, Repr

/-- Check 1 of R347 on an input; `stale` says that the claiming check found a stale tile (R207). -/
def State.updRead (s : State) (p : PierIx) (r : RegionIx) (stale : Bool) : Option UpdCheck :=
  match s.readAt p r 0 with
  | .wait _ => none
  | .range => some (.read r .regionRange none)
  | .at i =>
    match s.poisonOrStale p r i (stale && s.staleHere p r i) with
    | some (.fault c i) => some (.read r c i)
    | _ => none

/-- The tile at the consuming end of a region. -/
def State.headTile (s : State) (p : PierIx) (r : RegionIx) : Nat × Tile :=
  match s.readAt p r 0 with
  | .at i => (i, s.readTile p r i)
  | _ => (0, Tile.empty)

/-- The first check of R347 that fails. -/
def State.updCheck (s : State) (p : PierIx) (d : UpdDesc) (stamp : Nat) (stale : Bool) : UpdCheck :=
  match d.inputs.findSome? (fun e => s.updRead p e.1 stale) with
  | some x => x
  | none =>
    match d.inputs.find? (fun e => !(s.headTile p e.1).2.plain e.2) with
    | some e => .format e.1 (s.headTile p e.1).1
    | none =>
      let tag (r : RegionIx) : Nat := (s.headTile p r).2.stepTag.toNat
      let prev := (s.stepNo + 2 ^ 32 - 1) % 2 ^ 32
      if stamp != s.stepNo then .skew stamp
      else if d.gradChk && tag d.gIn != s.stepNo then .skew (tag d.gIn)
      else if d.stateChk && tag d.wIn != prev then .skew (tag d.wIn)
      else if d.stateChk && d.momentum && tag d.mIn != prev then .skew (tag d.mIn)
      else .ok

/-- A failed check is raised, or counted where it is a step mismatch in a lenient step; whether the outputs are poisoned
(R348, R355). -/
def State.updFail (s : State) (p : PierIx) (t : Nat) (x : UpdCheck) : Bool × State :=
  match x with
  | .ok => (false, s)
  | .read r c i => (true, s.readFault p r t c i none 0 (some (Fld.UPD_ERR_LOAD_FAULT, p.val)))
  | .format r i => (true, s.readFault p r t .formatMismatch (some i) (some (Fld.UPD_ERR_FORMAT_MISMATCH, p.val)) 0)
  | .skew found =>
    let s1 := s.bump Fld.UPD_COUNT_SKEW_COUNT p.val 1
    if s.lenient then
      (false, if s1.flag Fld.UPD_ERR_STEP_SKEW p.val then s1
        else (s1.setFld Fld.UPD_ERR_STEP_SKEW p.val 1).countSkew p found)
    else (true, s1.containFlag Fld.UPD_ERR_STEP_SKEW p.val p t .stepSkew found)

/-- The counts of a cycle's elements (R355). -/
def State.updCounts (s : State) (p : PierIx) (us : List Updated) : State :=
  let fr := (us.filter (fun u => u.frozen)).length
  let nn := (us.filter (fun u => u.nan)).length
  ((s.wrapAdd Fld.UPD_COUNT_ELEMENTS p.val (us.length - fr - nn)).bump Fld.UPD_SKIP_FROZEN p.val fr).bump
    Fld.UPD_SKIP_NAN_SKIPS p.val nn

/-- A tile of an operand with the side-band that R343 gives an output, or the poisoned tile of zeros of R348. -/
def outTile (f : Fmt) (step : Nat) (bad : Bool) : Tile := if bad then poisonTile f step else vecTile f step

/-- ECC of the words that cycle `c` of weight tile `j` reads of its inputs (R162): a double-bit error raises DECK_UE, and the
weight tile's outputs are poisoned from there on (log 122). -/
def State.updEcc (s : State) (p : PierIx) (t : Nat) (d : UpdDesc) (ixs : List Nat) (j c : Nat) : State × Bool :=
  (d.inputs.zip ixs).foldl (fun (a : State × Bool) e =>
    let k := a.1.slotOf p e.1.1 e.2
    let at_ := if d.freezeEn && e.1.1 = d.fIn then (deckData p k + 64 * freezeGranule j c + 8 * (c % 8), 8)
      else (deckData p k + 128 * (updRows e.1.2 j c).headD 0, 128 * (updRows e.1.2 j c).length)
    let y := a.1.eccRead p k at_.1 at_.2
    if y.2 then (y.1.deckUe p e.1.1 t e.2, true) else (y.1, a.2)) (s, false)

/-- Part `n` of a run of `total` weight tiles: cycle `n mod 32` of weight tile `n / 32` (R343, R348). Its first cycle makes the
checks; each cycle reads 64 elements, whose results are written 14 cycles later; after the last the inputs are released. The
state, the data indices of the inputs and whether the tile's outputs are poisoned. -/
def State.updPart (s : State) (p : PierIx) (start total stamp : Nat) (d : UpdDesc) (ixs : List Nat) (bad stale : Bool)
    (n : Nat) : State × List Nat × Bool :=
  let j := n / 32
  let c := n % 32
  let t := start + n
  let hs := if c = 0 then d.inputs.map (fun e => (s.headTile p e.1).1) else ixs
  let chk := if c = 0 then s.updFail p t (s.updCheck p d stamp stale) else (bad, s)
  let s1 := if c = 0 then
      ((d.inputs.zip hs).foldl (fun s e => s.noteRead p e.1.1 e.2) chk.2).setFld Fld.UPD_STATUS_TILES_LEFT p.val
        (total - j - 1)
    else chk.2
  let ecc := s1.updEcc p t d hs j c
  let bad1 := chk.1 || ecc.2
  let tile (r : RegionIx) (m : Nat) : Tile := s.readTile p r (hs.getD m 0)
  let tm := if d.momentum then tile d.mIn 2 else Tile.empty
  let us := if bad1 then []
    else updCycle d (s.latched p d.group) (tile d.wIn 0) (tile d.gIn 1) tm (tile d.fIn (d.inputs.length - 1)) j c
  let code (k : Nat) (u : Updated) : Nat := momCode d tm j (64 * c + k) u
  let s2 := (ecc.1.updCounts p us).addWork ⟨p, t + 14, none, false, false, 0, 1,
    .updWrite total j c d bad1 (us.map (fun u => u.w.toNat)) (us.zipIdx.map (fun e => code e.2 e.1))
      (us.map (fun u => updNarrow d.sFmt u.w))⟩
  (if c = 31 then
      (d.inputs.filter (fun e => d.lastUse e.1 e.2 j total)).foldl (fun s e =>
        s.addWork ⟨p, t + 1, none, false, false, 0, 1, .readEnd e.1 true⟩) s2
    else s2, hs, bad1)

/-- The regions in which cycle `c` of weight tile `j` reserves a slot (R343). -/
def updReserves (d : UpdDesc) (j c : Nat) : List RegionIx :=
  if c != 0 then []
  else [d.wOut] ++ (if d.momentum && (!d.momBf16 || j % 2 = 0) then [d.mOut] else []) ++
    (if d.shadowEn && j % 2 = 0 then [d.sOut] else [])

/-- Open an output tile: its slot is reserved at its first write (R343). -/
def State.openOut (s : State) (p : PierIx) (r : RegionIx) (f : Fmt) : State × Option (RegionIx × Nat × Fmt) :=
  (s.reserve p r, some (r, s.reserveIx p r, f))

/-- Write a cycle's elements into an output tile. -/
def State.putOut (s : State) (p : PierIx) (o : Option (RegionIx × Nat × Fmt)) (j c : Nat) (codes : List Nat) : State :=
  match o with
  | some (r, i, f) => s.writeRows p (s.slotOf p r i) (codeRows f j c codes)
  | none => s

/-- An output tile lands after its last write (R343). -/
def State.closeOut (s : State) (p : PierIx) (t : Nat) (o : Option (RegionIx × Nat × Fmt)) (bad : Bool) : State :=
  match o with
  | some (r, i, f) => s.addWork ⟨p, t, some none, false, false, 0, 1, .land r i (outTile f s.stepNo bad) bad⟩
  | none => s

/-- The writes of cycle `c` of weight tile `j`, in slot `t` (R343, R348): each output tile is reserved at its first write and lands
after its last. -/
def State.updWrite (s : State) (p : PierIx) (t j c : Nat) (d : UpdDesc) (bad : Bool) (w m sh : List Nat) : State :=
  let x := (s.pier p).upd
  let pair := if j % 2 = 0 && c = 0 then bad else x.bad || bad
  let rs := updReserves d j c
  let a := if rs.contains d.wOut then s.openOut p d.wOut .fp32 else (s, x.w)
  let b := if d.momentum && rs.contains d.mOut then a.1.openOut p d.mOut d.mFmt else (a.1, x.m)
  let e := if d.shadowEn && rs.contains d.sOut then b.1.openOut p d.sOut d.sFmt else (b.1, x.sh)
  let s1 := if bad then e.1
    else
      let s0 := e.1.putOut p a.2 j c w
      let s0 := if d.momentum then s0.putOut p b.2 j c m else s0
      if d.shadowEn then s0.putOut p e.2 j c sh else s0
  if c != 31 then s1.setPier p { s1.pier p with upd := ⟨pair, a.2, b.2, e.2⟩ }
  else
    let mEnd := !d.momBf16 || j % 2 = 1
    let sEnd := j % 2 = 1
    let s2 := s1.closeOut p t a.2 bad
    let s3 := if mEnd then s2.closeOut p t b.2 (if d.momBf16 then pair else bad) else s2
    let s4 := if sEnd then s3.closeOut p t e.2 pair else s3
    s4.setPier p { s4.pier p with upd := ⟨pair, none, if mEnd then none else b.2, if sEnd then none else e.2⟩ }

end Sys2Proof.Machine
end

