-- ==== Sys2Proof/Machine/Flow.lean ====
section
/-! DEFINITION. How scheduled work goes on: the items that a slot's check needs and the beats that it claims (R301, R302, R577), one
part of work (R84, R89-R92, R120, R129, R171, R174, R343), the advance of a domain to a slot, the issue of an instruction in its
slot, and the stop of a domain (R311). -/
namespace Sys2Proof.Machine

/-- A region item that is not ready (row 6 of R302): the region, with the data index of a tile that is missing and whether it waits
for its refetch. -/
def lateRegion (r : RegionIx) (note : Option (Nat × Bool)) : Late := ⟨6, [(r, note)]⟩

/-- A deck beat that cannot be claimed (row 8 of R302). -/
def lateBeat : Late := ⟨8, []⟩

/-- A bundle or a line of constants that is not in the pier cache (row 1 of R302). -/
def lateBundle : Late := ⟨1, []⟩

/-- A hold by brace (row 2 of R302). -/
def lateHold : Late := ⟨2, []⟩

/-- An expansion joint out of bounds (row 3 of R302). -/
def lateJoint : Late := ⟨3, []⟩

/-- A copy that is not complete (row 7 of R302). -/
def lateCopy : Late := ⟨7, []⟩

/-- A token item (row 5 of R302). -/
def lateToken : Late := ⟨5, []⟩

/-- The first item that is not ready; of several regions that are not, all are named (R177, R186, R302). -/
def firstLate (ls : List (Option Late)) : Option Late :=
  match ls.filterMap id with
  | [] => none
  | l :: rest =>
    some (if l.row = 6 then { l with regions := l.regions ++ (rest.filter (fun x => x.row = 6)).flatMap Late.regions } else l)

/-- How many releases of a region a piece of work makes by slot `t` (R171). -/
def Work.releases (w : Work) (r : RegionIx) (t : Nat) : Nat :=
  if t < w.due then 0
  else if w.kind = .readEnd r true then 1
  else if w.kind = .release r then min w.left (t - w.due + 1)
  else 0

/-- The releases of a region that are due by slot `t` and not yet made (R171, R172). -/
def State.pendingRel (s : State) (p : PierIx) (r : RegionIx) (t : Nat) : Nat :=
  if s.halves p r then 0
  else (s.flight.filter (fun w => w.pier = p)).foldl (fun n w => n + w.releases r t) 0

/-- Where the read of offset `d` in slot `t` goes, after the releases that come before it. -/
def State.readAtIn (s : State) (p : PierIx) (r : RegionIx) (d t : Nat) : ReadAt := s.readAt p r (d + s.pendingRel p r t)

/-- The data index that the read of offset `d` in slot `t` goes to. -/
def State.readIx (s : State) (p : PierIx) (r : RegionIx) (d t : Nat) : Nat :=
  match s.readAtIn p r d t with
  | .at i => i
  | .wait i => i
  | .range => 0

/-- Is the tile that slot `t` reads at offset `d` ready, as its check sees it (row 6 of R302)? -/
def State.readLate (s : State) (p : PierIx) (r : RegionIx) (d t : Nat) : Option Late :=
  match s.readAtIn p r d t with
  | .wait i => some (lateRegion r (some (i, false)))
  | .range => none
  | .at i =>
    let x := s.slot p (s.slotOf p r i)
    if x.refetching then some (lateRegion r (some (i, false)))
    else if s.refetchDue p r i then some (lateRegion r (some (i, true)))
    else if !s.rawMode p r && t - 2 < x.landed then some (lateRegion r (some (i, false)))
    else none

/-- Does the claiming check of a read find a stale tile that it cannot have refetched (R207, R208)? -/
def State.readStale (s : State) (p : PierIx) (r : RegionIx) (d t : Nat) : Bool :=
  match s.readAtIn p r d t with
  | .at i => s.staleHere p r i
  | _ => false

/-- Is there room in slot `t` to reserve `n` slots of a region, as its check sees it (row 6 of R302)? A check made again counts the
releases of its own slot, which come before its reservations (R172). -/
def State.roomLate (s : State) (again : Bool) (p : PierIx) (r : RegionIx) (n t : Nat) : Option Late :=
  if s.roomIn p r n (t - 2) (if again then s.pendingRel p r t else 0) then none else some (lateRegion r none)

/-- May the tile at HEAD be released in slot `t` when `k` releases have gone before (R170)? The wait is no wait of a read (R211). -/
def State.relLate (s : State) (p : PierIx) (r : RegionIx) (k t : Nat) : Option Late :=
  let x := s.region p r
  let i := (x.head + k) % s.rdesc p r Fld.REGION_DESC_SIZE
  let y := s.slot p (s.slotOf p r i)
  if s.rawMode p r || s.halves p r || (k < x.occ && y.full && y.landed ≤ t - 2) then none
  else some (lateRegion r none)

/-- The step of a cursor over a bundle with its GAP and, where it holds a LOOP, COUNT and BODY (R295, R298). -/
def Cursor.step (x : Cursor) (gap : Nat) (loop : Option (Nat × Nat)) : Cursor :=
  let ls := match loop with
    | some (count, body) => (x.bundle + 1, x.bundle + body, count) :: x.loops
    | none => x.loops
  let rec leave (b : Nat) : List (Nat × Nat × Nat) → Nat × List (Nat × Nat × Nat)
    | [] => (b + 1, [])
    | (first, last, n) :: rest =>
      if b != last then (b + 1, (first, last, n) :: rest)
      else if 1 < n then (first, (first, last, n - 1) :: rest)
      else leave b rest
  let y := leave x.bundle ls
  ⟨y.1, x.slot + 1 + gap, y.2⟩

/-- Where bundle `b` lies in the image (R288). -/
def State.bundleOff (s : State) (b : Nat) : Option Nat := (s.section 2).map (fun x => x.offset + 64 * b)

/-- A cursor moved on over its bundle, which lies at `o` in the image (R295, R297, R298). -/
def State.cursorNext (s : State) (o : Nat) (x : Cursor) : Cursor :=
  let c := s.img (o + 56) 6
  x.step (s.img o 2) (if c % 256 = 0x44 then some (c / 256 % 65536 + 1, c / 2 ^ 24) else none)

/-- The lines that hold the bundle at `o` in the image. -/
def bundleSpan (o : Nat) : List Nat := if o % 128 ≤ 64 then [o / 128] else [o / 128, o / 128 + 1]

/-- A cursor moved on to the first bundle whose slot is not before `t`; `fuel` bounds the bundles. -/
def State.cursorTo (s : State) (t : Nat) : Nat → Cursor → Cursor
  | 0, x => x
  | fuel + 1, x =>
    if t ≤ x.slot then x
    else
      match s.bundleOff x.bundle with
      | none => x
      | some o => s.cursorTo t fuel (s.cursorNext o x)

/-- The cursor of a pier at slot `t`. -/
def State.cursorAt (s : State) (p : PierIx) (t : Nat) : Cursor :=
  let x := (s.pier p).cursor
  s.cursorTo t (t - x.slot) x

/-- The lines of the pier cache that hold the bundle of slot `t`, where a bundle has that slot (R178, R289). -/
def State.bundleLines (s : State) (p : PierIx) (t : Nat) : List Nat :=
  let x := s.cursorAt p t
  match s.bundleOff x.bundle with
  | some o => if x.slot = t then bundleSpan o else []
  | none => []

/-- A line in the pier cache. -/
def Pier.cacheLine (x : Pier) (l : Nat) : Option (List Byte) := (x.cache.find? (fun e => e.line = l)).map CacheLine.data

/-- The bytes that a VLDC reads (R150). -/
def vldcBytes (f : Fmt) : Nat := if f = .fp32 then 512 else 256

/-- The pier-cache lines that a VLDC reads (R150, R178). -/
def vldcLines (offset : Nat) (f : Fmt) : List Nat :=
  (List.range 5).map (fun k => offset / 2 + k) |>.filter (fun l => l * 128 < 64 * offset + vldcBytes f)

/-- The bundles of a stream before slot `t` from a cursor on, by slot and by place in the image; `fuel` bounds them. -/
def State.bundlesTo (s : State) (t : Nat) : Nat → Cursor → List (Nat × Nat)
  | 0, _ => []
  | fuel + 1, x =>
    if t ≤ x.slot then []
    else
      match s.bundleOff x.bundle with
      | none => []
      | some o => (x.slot, o) :: s.bundlesTo t fuel (s.cursorNext o x)

/-- The first slot before `t` that a pier has not issued and whose bundle is not in its cache: a slot without instructions of its own
(R295, row 1 of R302). -/
def State.gapOf (s : State) (p : PierIx) (t : Nat) : Option Nat :=
  let x := (s.pier p).cursor
  ((s.bundlesTo t (t - x.slot) x).find? (fun e => s.fld Fld.PCTL_SLOT_SLOT p.val ≤ e.1 &&
    !(bundleSpan e.2).all (fun l => ((s.pier p).cacheLine l).isSome))).map Prod.fst

/-- The first slot of a domain before `t` that some pier's bundle keeps from issuing, with the items that are not ready. -/
def State.gapLate (s : State) (d : Dom) (t : Nat) : Option (Nat × List (PierIx × Late × Bool)) :=
  match ((s.domPiers d).filter (fun q => s.issuing q)).filterMap (fun q => (s.gapOf q t).map (fun u => (q, u))) with
  | [] => none
  | g :: gs =>
    let u := gs.foldl (fun m e => min m e.2) g.2
    some (u, ((g :: gs).filter (fun e => e.2 = u)).map (fun e => (e.1, lateBundle, true)))

/-- Is the bundle of slot `t` in the pier cache (row 1 of R302)? -/
def State.bundleLate (s : State) (p : PierIx) (t : Nat) : Option Late :=
  if (s.bundleLines p t).all (fun l => ((s.pier p).cacheLine l).isSome) then none else some lateBundle

/-- The place of work's beats in the order of R163, the first first: 8 places for each requester from 7 down. -/
def WorkKind.order : WorkKind → Nat
  | .exitTile _ .cw .. => 0
  | .exitTile _ .ccw .. => 1
  | .inject _ _ .cw .. => 8
  | .inject _ _ .ccw .. => 9
  | .pass x => 13 - x.a.val
  | .load a .. => 13 - a.val
  | .put 5 .. => 16
  | .put .. => 24
  | .stat _ => 24
  | .transpose .. => 24
  | .upd .. => 25
  | .updWrite .. => 25
  | _ => 56

/-- The data indices of the inputs of a UPD in slot `t`. -/
def State.updIxs (s : State) (p : PierIx) (d : UpdDesc) (t : Nat) : List Nat := d.inputs.map (fun e => s.readIx p e.1 0 t)

/-- The ports of the reads of cycle `c` of weight tile `j` (R336, R343). -/
def State.updReadPorts (s : State) (p : PierIx) (d : UpdDesc) (ixs : List Nat) (j c : Nat) : List Nat :=
  (d.inputs.zip ixs).flatMap (fun e =>
    let k := s.slotOf p e.1.1 e.2
    (if d.freezeEn && e.1.1 = d.fIn then [granuleBank k (freezeGranule j c)] else (updRows e.1.2 j c).flatMap (rowBanks k)) ++
      (if c = 0 then [sidePort k] else []))

/-- The ports of the writes of cycle `c` of weight tile `j` into an output tile of region `r` (R343). -/
def State.updOutPorts (s : State) (p : PierIx) (o : Option (RegionIx × Nat × Fmt)) (r : RegionIx) (f : Fmt) (j c : Nat) :
    List Nat :=
  let k := match o with
    | some (r, i, _) => s.slotOf p r i
    | none => s.slotOf p r (s.reserveIx p r)
  (updRows f j c).flatMap (rowBanks k) ++ (if c = 31 then [sidePort k] else [])

/-- The ports at which work needs a beat in the slot of its next part, besides any port twice (R160, R165). -/
def State.workPorts (s : State) (w : Work) : List Nat :=
  let p := w.pier
  let n := w.done % 64
  match w.kind with
  | .pass x =>
    if x.d.src != .feeder then []
    else
      let i := if n = 0 then s.readIx p x.region (if x.keep then x.off + w.done / 64 else 0) w.due else x.idx
      s.rowPorts p x.region i n ++ [feederPort x.a]
  | .load a r i _ _ => s.rowPorts p r i n ++ [feederPort a]
  | .inject _ _ _ r _ _ off keep i =>
    s.rowPorts p r (if n = 0 then s.readIx p r (if keep then off + w.done / 64 else 0) w.due else i) n
  | .exitTile _ c _ _ i =>
    let r := s.exitRegion p c
    s.rowPorts p r (if n = 0 then s.reserveIx p r else i) n
  | .put _ _ _ ports => ports
  | .stat x =>
    (x.rowsIn w.done).flatMap (fun e =>
      let k := s.slotOf p x.src e.1
      rowBanks k e.2 ++ (if e.2 = x.lo then [sidePort k] else []))
  | .transpose src _ _ ixs _ _ _ => 
    ixs.flatMap (fun i => rowBanks (s.slotOf p src i) n ++ (if n = 0 then [sidePort (s.slotOf p src i)] else []))
  | .upd _ _ _ d ixs _ =>
    s.updReadPorts p d (if w.done % 32 = 0 then s.updIxs p d w.due else ixs) (w.done / 32) (w.done % 32)
  | .updWrite _ j c d _ _ _ _ =>
    let x := (s.pier p).upd
    s.updOutPorts p x.w d.wOut .fp32 j c ++ (if d.momentum then s.updOutPorts p x.m d.mOut d.mFmt j c else []) ++
      (if d.shadowEn then s.updOutPorts p x.sh d.sOut d.sFmt j c else [])
  | _ => []

/-- The region items of a part of work that are not ready (row 6 of R302). -/
def State.regionItems (s : State) (w : Work) : Option Late :=
  let p := w.pier
  let read (r : RegionIx) (d : Nat) : Option Late := s.readLate p r d w.due
  match w.kind with
  | .pass x => if w.done % 64 = 0 then read x.region (if x.keep then x.off + w.done / 64 else 0) else none
  | .inject _ _ _ r _ _ off keep _ => if w.done % 64 = 0 then read r (if keep then off + w.done / 64 else 0) else none
  | .exitTile _ c _ _ _ => if w.done = 0 then s.roomLate w.late p (s.exitRegion p c) 1 w.due else none
  | .release r => s.relLate p r (s.pendingRel p r w.due - 1) w.due
  | .readEnd r true => s.relLate p r (s.pendingRel p r w.due - 1) w.due
  | .statEnd x => if (s.pier p).statsFill x.stats || (s.pier p).atJoint.isSome then s.roomLate w.late p x.stats 1 w.due else none
  | .upd _ _ _ d _ _ => if w.done % 32 = 0 then firstLate (d.inputs.map (fun e => read e.1 0)) else none
  | .updWrite _ j c d _ _ _ _ => firstLate ((updReserves d j c).map (fun r => s.roomLate w.late p r 1 w.due))
  | _ => none

/-- The first item of a part of work that is not ready (R301, R302). -/
def State.workLate (s : State) (w : Work) : Option Late :=
  match s.regionItems w with
  | some l => some l
  | none => if s.beatLate w.late w.pier w.due w.kind.order (s.workPorts w) then some lateBeat else none

/-- Does the check of a part of work find a stale tile that it cannot have refetched (R207)? -/
def State.workStale (s : State) (w : Work) : Bool :=
  let p := w.pier
  match w.kind with
  | .pass x => w.done % 64 = 0 && s.readStale p x.region (if x.keep then x.off + w.done / 64 else 0) w.due
  | .inject _ _ _ r _ _ off keep _ => w.done % 64 = 0 && s.readStale p r (if keep then off + w.done / 64 else 0) w.due
  | .upd _ _ _ d _ _ => w.done % 32 = 0 && d.inputs.any (fun e => s.readStale p e.1 0 w.due)
  | _ => false

/-- Do the parts of this work need items? -/
def WorkKind.checked : WorkKind → Bool
  | .pass x => x.d.src = .feeder
  | .load .. => true
  | .inject .. => true
  | .exitTile .. => true
  | .release _ => true
  | .readEnd _ rel => rel
  | .put .. => true
  | .stat _ => true
  | .statEnd _ => true
  | .transpose .. => true
  | .upd .. => true
  | .updWrite .. => true
  | _ => false

/-- The order of work within one slot: releases and the end of a UPD, reads and other parts, writes, landings, and FLIP at the end of
the slot (R90, R92, R161, R172, R174, R343). -/
def WorkKind.rank : WorkKind → Nat
  | .readEnd .. => 0
  | .release _ => 0
  | .updEnd => 0
  | .rowWrite .. => 2
  | .loadEnd .. => 2
  | .put .. => 2
  | .exitTile .. => 2
  | .updWrite .. => 2
  | .land .. => 28
  | .flip _ => 30
  | _ => 1

/-- New work of a pier whose first part is due in a slot. -/
def newWork (p : PierIx) (due left : Nat) (k : WorkKind) : Work :=
  ⟨p, due, if k.checked then none else some none, false, false, 0, left, k⟩

/-- The work after one of its parts. -/
def Work.next (w : Work) (k : WorkKind) : Option Work :=
  if w.left ≤ 1 then none
  else some { w with
    due := w.due + 1
    verdict := if k.checked then none else some none
    stale := false
    late := false
    done := w.done + 1
    left := w.left - 1
    kind := k }

/-- Put back what is left of work. -/
def State.putWork (s : State) : Option Work → State
  | none => s
  | some w => s.addWork w

/-- The read of a tile of a region ends with slot `t`: it is released in the next one where the instruction does not keep it
(R171). -/
def State.readEnds (s : State) (p : PierIx) (r : RegionIx) (t : Nat) (rel : Bool) : State :=
  if rel then s.addWork (newWork p (t + 1) 1 (.readEnd r true)) else s

/-- A word fails its parity at pier `b`, from which it reaches pier `p` of the segment first: RING_PARITY with its fault, and the loopback
test is run (R131); while the flag stands, a further failure at the pier counts in PARITY_COUNT only (R135). The stop of the domain
follows. -/
def State.ringParity (s : State) (b p : PierIx) (g : SegIx) (t : Nat) : State :=
  let s1 := s.bump Fld.RING_ERR_COUNT_PARITY_COUNT b.val 1
  if s.flag Fld.RING_ERR_RING_PARITY b.val then s1
  else
    let s2 := (s1.flagEvent Fld.RING_ERR_RING_PARITY b.val .ringParity 1 b.val g.val).recordFault p t .ringParity
    { s2 with loopbacks := if s2.loopbacks.contains g then s2.loopbacks else s2.loopbacks ++ [g] }

/-- One part of work: the state, what is left of the work, and whether the segment's domain must stop (R131). -/
structure Done where
  s : State
  left : Option Work
  halt : Bool

/-- Work that ends with this part. -/
def ended (s : State) : Done := ⟨s, none, false⟩

/-- A read of row `n` of the tile at data index `i` on the feed path: the row, or none where ECC finds a double-bit error, which
raises DECK_UE (R162). -/
def State.feedRow (s : State) (p : PierIx) (r : RegionIx) (t i n : Nat) : State × Option RingRow :=
  let e := s.eccRow p r i n
  if e.2 then (e.1.deckUe p r t i, none) else (e.1, some ⟨s.readRow p (s.slotOf p r i) n, s.readExt p r i n⟩)

/-- Row `w.done mod 64` of the tile that a pass or an INJECT takes next: at row 0 the checks of R59; the row and
the tile's data index, TILE_SCALE and STEP_TAG with row 0, or none after a fault, whose tile is released where the instruction does
not keep it. -/
def State.streamRow (s : State) (w : Work) (r : RegionIx) (off i : Nat) (keep : Bool) (f : Fmt) (fm : Option (Fld × Nat))
    (arch : Nat) : State × Option (RingRow × Nat × Option (F32 × BitVec 32)) :=
  let p := w.pier
  let n := w.done % 64
  let row (s : State) (i : Nat) (head : Option (F32 × BitVec 32)) :
      State × Option (RingRow × Nat × Option (F32 × BitVec 32)) :=
    let x := s.feedRow p r w.due i n
    (if n = 63 || x.2.isNone then x.1.readEnds p r w.due (!keep) else x.1, x.2.map (fun y => (y, i, head)))
  if n != 0 then row s i none
  else
    match s.feed p r (if keep then off + w.done / 64 else 0) f true w.stale with
    | .wait _ _ => (s, none)
    | .fault c j =>
      let s1 := s.readFault p r w.due c j fm arch
      (if j.isSome then s1.readEnds p r w.due (!keep) else s1, none)
    | .tile j t skew =>
      let s1 := s.noteRead p r j
      row (if skew then s1.countSkew p t.stepTag.toNat else s1) j (some (t.scale, t.stepTag))

/-- The next row of a feeder pass (R59, R84, R99); it reaches the input 9 slots after its read. -/
def State.feederRow (s : State) (w : Work) (x : PassRun) : Done :=
  let p := w.pier
  let y := s.streamRow w x.region x.off x.idx x.keep x.d.sfmt (some (Fld.ARCH_ERR_FORMAT_MISMATCH, archIx p x.a)) x.a.val
  match y.2 with
  | none => ended (y.1.abandonPass p x w.due)
  | some (row, i, head) =>
    let x1 := { x with idx := i, scale := (head.map Prod.fst).getD x.scale }
    ⟨y.1.captureRow p x1 (w.due + 9) w.done row, w.next (.pass x1), false⟩

/-- The next row of a carriageway pass, captured in the slot of its part (R122, R123); a word that fails its parity stops the segment
(R131), but for one that fails while RING_PARITY stands, which is counted only (R135). -/
def State.ringRow (s : State) (w : Work) (x : PassRun) (c : Cwy) : Done :=
  let p := w.pier
  match s.domOf p with
  | .solo _ => ended s
  | .seg g =>
    let bad := s.captureFails g c p x.a w.due
    let s1 := if bad then s.ringParity p p g w.due else s
    if bad && !s.flag Fld.RING_ERR_RING_PARITY p.val then ⟨s1, none, true⟩
    else
      match s1.capture g c p x.a w.due w.done x.d.sfmt x.tseq with
      | .miss => ended ((s1.ringMiss p x.a w.due).abandonPass p x w.due)
      | .format => ended ((s1.archFault Fld.ARCH_ERR_FORMAT_MISMATCH p x.a w.due .formatMismatch).abandonPass p x w.due)
      | .row row scale n =>
        let x1 := { x with scale := scale, tseq := some n }
        ⟨s1.captureRow p x1 w.due w.done row, w.next (.pass x1), false⟩

/-- The words of a stream enter piers in slot `w.due`, and their parity is checked (R114, R131, R135). -/
def State.ringEnter (s : State) (w : Work) (g : SegIx) (c : Cwy) (start : Nat) : Done :=
  match s.stream? g c start with
  | none => ended s
  | some x =>
    let bad := s.entryFailures g c x w.due
    let s1 := bad.foldl (fun s e => s.ringParity e.1 e.2 g w.due) s
    if bad.any (fun e => !s.flag Fld.RING_ERR_RING_PARITY e.1.val) then ⟨s1, none, true⟩ else ⟨s1, w.next w.kind, false⟩

/-- The next row of an INJECT (R59, R120); with row 0 of a tile that is to leave at the tail, its arrival there 56 + S slots later is
foreseen (R129). -/
def State.injectRow (s : State) (w : Work) (start : Nat) (g : SegIx) (c : Cwy) (r : RegionIx) (f : Fmt) (exit : Bool)
    (off : Nat) (keep : Bool) (i : Nat) : Done :=
  let y := s.streamRow w r off i keep f none 0
  match y.2 with
  | none => ended y.1
  | some (row, j, head) =>
    let s1 := y.1.placeRow g c start row head
    let s2 := match exit && w.done % 64 = 0, s.tailPier g c with
      | true, some q => s1.addWork (newWork q (w.due + 56 + s.segArches g) 64 (.exitTile g c start (w.done / 64) 0))
      | _, _ => s1
    ⟨s2, w.next (.inject start g c r f exit off keep j), false⟩

/-- The next row of a tile at its tail: its slot is reserved with row 0, and the tile lands with row 63 (R129). Where the stream holds
no such row, because its INJECT has ended on a fault of the feed path, nothing more arrives: the slot stays reserved and never becomes
FULL, until LAUNCH empties the region (DESIGN CHOICE, log 54). -/
def State.exitRow (s : State) (w : Work) (g : SegIx) (c : Cwy) (start j idx : Nat) : Done :=
  let p := w.pier
  let r := s.exitRegion p c
  match s.stream? g c start with
  | none => ended s
  | some x =>
    if x.rows.length ≤ 64 * j + w.done then ended s
    else
      let i := if w.done = 0 then s.reserveIx p r else idx
      let s1 := if w.done = 0 then s.reserve p r else s
      let s2 := s1.writeRow p (s.slotOf p r i) w.done (padRow x.fmt (x.row (64 * j + w.done)).data)
      if w.done = 63 then ended (s2.addWork (newWork p w.due 1 (.land r i (x.rebuilt j) false)))
      else ⟨s2, w.next (.exitTile g c start j i), false⟩

/-- The next row read of a LOADS (R77); after the first row is written, 9 slots after its read, the grid holds no valid tile until the
last one is (R78). A double-bit error ends the LOADS there. -/
def State.loadRow (s : State) (w : Work) (a : ArchIx) (r : RegionIx) (i : Nat) (keep : Bool) (t : Tile) : Done :=
  let p := w.pier
  let x := s.feedRow p r w.due i w.done
  let s1 := if w.done = 9 then x.1.setFld Fld.ARCH_STATUS_STAT_VALID (archIx p a) 0 else x.1
  match x.2 with
  | none =>
    ended (((s1.setFld Fld.ARCH_STATUS_STAT_VALID (archIx p a) 0).setArch p a { s1.arch p a with next := none }).readEnds p r w.due
      (!keep))
  | some y =>
    let t1 := { t with rows := t.rows ++ [y.data], exts := t.exts ++ [y.side] }
    if w.done = 63 then ended ((s1.readEnds p r w.due (!keep)).addWork (newWork p (w.due + 9) 1 (.loadEnd a t1)))
    else ⟨s1, w.next (.load a r i keep t1), false⟩

/-- A tile stands in the grid (R77, R78). -/
def State.gridHolds (s : State) (p : PierIx) (a : ArchIx) (x : Tile) : State :=
  let y := s.arch p a
  let j := archIx p a
  (((s.setArch p a { y with rows := x.rows, exts := x.exts, scale := x.scale, badRow := none, next := none }).setFld
      Fld.ARCH_STATUS_STAT_VALID j 1).setFld Fld.ARCH_STATUS_STAT_FMT j x.tag.toNat).setFld Fld.ARCH_STATUS_STAT_ORIENT j
        x.orient.toNat

/-- The next read cycle of a DRAIN (R90): its random bits are counted (R372), the beats of the rows that it reads and of their extension
come 5 slots later (R68, R175), with the writes of the rows that have become known, and after the last the tile lands. A tile that is
poisoned, or whose scale is NaN, is written as a whole. -/
def State.drainCycle (s : State) (w : Work) (a : ArchIx) (x : DrainRun) : Done :=
  let p := w.pier
  let y := s.drainRead p a w.due x w.done
  let t := y.1.drainTile p y.2
  let k := y.1.slotOf p x.region x.idx
  let rows := (x.known x.xe.length y.2.xe.length).map (fun n => (n, t.row n))
  let read := (List.range (y.2.xe.length - x.xe.length)).map (x.xe.length + ·)
  let ports := putPorts k read ++ (if t.ext then y.1.extPorts p x.region x.idx read else [])
  let s0 := if x.d.takesUse then y.1.countDraws p (read.length * x.d.outFmt.cols / 8) else y.1
  let s1 := if ports.isEmpty then s0 else s0.addWork (newWork p (w.due + 5) 1 (.put 5 k rows ports))
  if w.left ≤ 1 then ended (s1.addWork (newWork p (w.due + 5) 1 (.land x.region x.idx t (y.2.bad || f32IsNan t.scale))))
  else ⟨s1, w.next (.drain a y.2), false⟩

/-- The next row of the tiles that a VTRANS reads (R149); after the last the transpose is written in 8 cycles. A double-bit error ends
the VTRANS, and its reserved slots land poisoned. -/
def State.transposeRow (s : State) (w : Work) (src dst : RegionIx) (f : Fmt) (ixs outs : List Nat) (keep : Bool) (ts : List Tile) :
    Done :=
  let p := w.pier
  let x := ixs.foldl (fun (a : State × List (Option RingRow)) i =>
    let y := a.1.feedRow p src w.due i w.done
    (y.1, a.2 ++ [y.2])) (s, [])
  let free (s : State) : State := if keep then s else ixs.foldl (fun s _ => s.readEnds p src w.due true) s
  if x.2.any Option.isNone then
    ended (outs.foldl (fun s o => s.addWork (newWork p w.due 1 (.land dst o (poisonTile f s.stepNo) true))) (free x.1))
  else
    let t1 := (ts.zip x.2).map (fun e => { e.1 with rows := e.1.rows ++ [((e.2.map RingRow.data).getD 0)] })
    if w.done != 63 then ⟨x.1, w.next (.transpose src dst f ixs outs keep t1), false⟩
    else
      ended (((outs.zip (transposed f t1)).foldl (fun s e =>
        (s.putTile p (w.due + 1) 8 8 (s.slotOf p dst e.1) e.2).addWork (newWork p (w.due + 8) 1 (.land dst e.1 e.2 false)))
          (free x.1)))

/-- The next row reads of a VSTAT or VSTATC (R152, R155); after the last its end is foreseen. A double-bit error ends it, and no records
are appended (R147, R162; log 66). -/
def State.statCycle (s : State) (w : Work) (x : StatRun) : Done :=
  let p := w.pier
  let y := (x.rowsIn w.done).foldl (fun (a : State × List Row × Bool) e =>
    let z := a.1.feedRow p x.src w.due e.1 e.2
    (z.1, a.2.1 ++ (z.2.map RingRow.data).toList, a.2.2 || z.2.isNone)) (s, [], false)
  let x1 := { x with rows := x.rows ++ y.2.1 }
  if y.2.2 then ended y.1
  else if w.left ≤ 1 then ended (y.1.addWork (newWork p (x.start + x.cycles) 1 (.statEnd x1)))
  else ⟨y.1, w.next (.stat x1), false⟩

/-- One part of work (R301): `s` no longer holds `w`. -/
def State.part (s : State) (w : Work) : Done :=
  let p := w.pier
  match w.kind with
  | .load a r i keep t => s.loadRow w a r i keep t
  | .loadEnd a t => ended (s.gridHolds p a t)
  | .pass x =>
    match x.d.src with
    | .feeder => s.feederRow w x
    | .carriageway c => s.ringRow w x c
  | .rowDot x base last row => ended (s.rowDot p x w.due base last row)
  | .rowRead x base last ys => ended (s.rowRead p x w.due base last ys)
  | .rowWrite x base last ys => ended (s.rowWrite p x w.due base last ys)
  | .inject start g c r f exit off keep i => s.injectRow w start g c r f exit off keep i
  | .streamEnd g c start => ended { s with ring := s.ring.filter (fun x => !x.isOf g c start) }
  | .ringEntry g c start => s.ringEnter w g c start
  | .exitTile g c start j i => s.exitRow w g c start j i
  | .release r => ⟨s.releaseIn p r w.due, w.next w.kind, false⟩
  | .readEnd r rel => ended (if rel then s.releaseIn p r w.due else s)
  | .flip r => ended (s.flip p r)
  | .drain a x => s.drainCycle w a x
  | .zero a base count => ⟨s.zeroGroup p a w.due base count w.done, w.next w.kind, false⟩
  | .put _ k rows _ => ended (s.writeRows p k rows)
  | .stat x => s.statCycle w x
  | .statEnd x => ended (s.statDone p w.due x)
  | .transpose src dst f ixs outs keep ts => s.transposeRow w src dst f ixs outs keep ts
  | .land r i t whole => ended ((if whole then s.writeTile p r i t else s.writeSide p r i t).landIn p r i w.due)
  | .upd start total stamp d ixs bad =>
    let x := s.updPart p start total stamp d ixs bad w.stale w.done
    ⟨x.1, w.next (.upd start total stamp d x.2.1 x.2.2), false⟩
  | .updWrite _ j c d bad a m sh => ended (s.updWrite p w.due j c d bad a m sh)
  | .updEnd => ended (s.setFld Fld.UPD_STATUS_BUSY p.val 0)
  | .tokensBack => ended (s.giveAll p)

/-- Land a reserved slot with zero data and POISON = 1 (R311). -/
def State.landPoison (s : State) (p : PierIx) (r : RegionIx) (i : Nat) (f : Fmt) : State :=
  (s.writeTile p r i (poisonTile f s.stepNo)).land p r i

/-- Land the slot that an operand of the update engine has reserved. -/
def State.landOut (s : State) (p : PierIx) (o : Option (RegionIx × Nat × Fmt)) : State :=
  match o with
  | some (r, i, f) => s.landPoison p r i f
  | none => s

/-- A pass of which a piece of work is still in progress ends in slot `c`; one that has ended before is not counted again. -/
def State.stopPass (s : State) (p : PierIx) (x : PassRun) (c : Nat) : State :=
  if s.flight.any (fun w => w.pier = p && w.kind.ofPass x.a x.start) then s.abandonPass p x c else s

/-- What becomes of work in progress when its pier controller stops in slot `c` (R311). The landing of a tile at an exit is dropped, and
the slot that the tail has reserved for it stays reserved (R129; DESIGN CHOICE, log 54). -/
def State.stopWork (s : State) (c : Nat) (w : Work) : State :=
  let p := w.pier
  let noGrid (a : ArchIx) : State :=
    (s.setFld Fld.ARCH_STATUS_STAT_VALID (archIx p a) 0).setArch p a { s.arch p a with next := none }
  match w.kind with
  | .load a .. => noGrid a
  | .loadEnd a _ => noGrid a
  | .pass x => s.stopPass p x c
  | .rowDot x .. => s.stopPass p x c
  | .rowRead x .. => s.stopPass p x c
  | .rowWrite x .. => s.stopPass p x c
  | .drain _ x => s.landPoison p x.region x.idx x.d.outFmt
  | .transpose _ dst f _ outs _ _ => outs.foldl (fun s o => s.landPoison p dst o f) s
  | .land r i t _ => s.landPoison p r i ((fmtOfTag t.tag.toNat).getD .fp32)
  | _ => s

/-- What a pier builds when its controller stops lands poisoned (R311): the tiles of its VSTs and those that its update engine has
reserved; its tokens return (R331), and the pier waits at no joint or barrier. -/
def State.stopPier (s : State) (p : PierIx) : State :=
  let x := s.pier p
  let s1 := x.builds.foldl (fun s b => s.landPoison p b.region b.idx b.fmt) s
  let s2 := ((s1.landOut p x.upd.w).landOut p x.upd.m).landOut p x.upd.sh
  (((s2.setPier p { x with
    builds := [], upd := UpdPair.init, claims := [], stall := none, atJoint := none, atBarrier := none }).giveAll p).setFld
      Fld.UPD_STATUS_BUSY p.val 0).setFld Fld.PCTL_STATUS_STATE p.val 6

/-- The pier and the slot of a scheduled instruction. -/
def placeOf : Instr → Option (PierIx × Nat)
  | .loads p t .. => some (p, t)
  | .pass p t .. => some (p, t)
  | .drain p t .. => some (p, t)
  | .zero p t .. => some (p, t)
  | .inject p t .. => some (p, t)
  | .flip p t .. => some (p, t)
  | .release p t .. => some (p, t)
  | .arm p t .. => some (p, t)
  | .copy p t .. => some (p, t)
  | .cwait p t .. => some (p, t)
  | .joint p t .. => some (p, t)
  | .barrier p t .. => some (p, t)
  | .tacq p t .. => some (p, t)
  | .trel p t .. => some (p, t)
  | .loop p t .. => some (p, t)
  | .halt p t .. => some (p, t)
  | .vld p t .. => some (p, t)
  | .vst p t .. => some (p, t)
  | .varith p t .. => some (p, t)
  | .vcmp p t .. => some (p, t)
  | .vsel p t .. => some (p, t)
  | .vsfu p t .. => some (p, t)
  | .vred p t .. => some (p, t)
  | .vtrans p t .. => some (p, t)
  | .vstat p t .. => some (p, t)
  | .vstatc p t .. => some (p, t)
  | .vstatf p t .. => some (p, t)
  | .vrng p t .. => some (p, t)
  | .vldc p t .. => some (p, t)
  | .upd p t .. => some (p, t)
  | .uscal p t .. => some (p, t)
  | _ => none

/-- The pier of a scheduled instruction. -/
def pierOf (i : Instr) : Option PierIx := (placeOf i).map Prod.fst

/-- Does a held instruction belong to a domain? -/
def State.heldIn (s : State) (d : Dom) (h : Held) : Bool :=
  match pierOf h.instr with
  | some p => s.domOf p = d
  | none => false

/-- The slot that a domain has reached: the next one to issue (R314). -/
def State.domSlot (s : State) (d : Dom) : Nat := (s.domPiers d).foldl (fun m p => max m (s.fld Fld.PCTL_SLOT_SLOT p.val)) 0

/-- The pier controllers of a domain stop: its work ends as R311 sets, its streams end, and what it held is dropped. -/
def State.stopDomain (s : State) (d : Dom) : State :=
  let ps := s.domPiers d
  let c := s.domSlot d
  let ws := s.flight.filter (fun w => ps.contains w.pier)
  let s1 := ws.foldl (fun s w => s.stopWork c w) s
  let s2 := ps.foldl (fun s p => s.stopPier p) s1
  { s2 with
    flight := s2.flight.filter (fun w => !ps.contains w.pier)
    held := s2.held.filter (fun h => !s.heldIn d h)
    ring := s2.ring.filter (fun x => d != .seg x.seg) }

/-- The counter of PCTL_STALL_CAUSE for a row of R302 (R315). -/
def causeFld (row : Nat) : Fld :=
  if row = 6 then Fld.PCTL_STALL_CAUSE_REGION
  else if row = 8 then Fld.PCTL_STALL_CAUSE_BEAT
  else if row = 5 then Fld.PCTL_STALL_CAUSE_TOKEN
  else Fld.PCTL_STALL_CAUSE_OTHER

/-- What a pier has recorded of the stall of slot `c`. -/
def Pier.stallOf (x : Pier) (c : Nat) : Stall := (x.stall.filter (fun y => y.slot = c)).getD (Stall.blank c)

/-- An item of pier `p` fails the check of slot `c`. The pier's stall is counted once by its cause, the first failing row among its
items, and once in SCHED_LATE where a beat is late (R165, R302, R315); a check made again counts nothing more. A stall that turns out to
have an earlier first row moves to that row's counter, from one that it has raised. -/
def State.recordLate (s : State) (p : PierIx) (c : Nat) (l : Late) (again : Bool) : State :=
  let s1 := l.regions.foldl (fun s x => s.noteWait p x) s
  let y := (s1.pier p).stallOf c
  let first := y.row = 0 || l.row < y.row
  let rs := l.regions.foldl (fun rs x => if rs.contains x.1 then rs else rs ++ [x.1]) y.regions
  let moves := !(again && y.row != 0) && first && (y.row = 0 || causeFld y.row != causeFld l.row)
  let s2 := s1.setPier p { s1.pier p with
    stall := some { y with
      row := if first then l.row else y.row
      beat := y.beat || l.row = 8
      regions := rs
      token := y.token || l.row = 5
      counted := if moves then s1.fld (causeFld l.row) p.val != 65535 else y.counted } }
  let s3 := if moves then
      (if y.row != 0 && y.counted then s2.setFld (causeFld y.row) p.val (s2.fld (causeFld y.row) p.val - 1) else s2).bump
        (causeFld l.row) p.val 1
    else s2
  if l.row = 8 && !y.beat && !(again && y.row != 0) then s3.bump Fld.DECK_ARB_COUNT_SCHED_LATE p.val 1 else s3

/-- A stall of slot `c` under the limit on steps is counted once (R328). -/
def State.countRamp (s : State) (p : PierIx) (c : Nat) : State :=
  let y := (s.pier p).stallOf c
  if y.ramp then s
  else (s.setPier p { s.pier p with stall := some { y with ramp := true } }).bump Fld.SPAN_TOKEN_COUNT_RAMP_WAITS (spanOf p) 1

/-- The checks of slot `c` and of later slots of a domain are discarded: what their TACQs and TRELs have claimed is returned, and they are
checked again (R326). -/
def State.returnTokens (s : State) (d : Dom) (c : Nat) : State :=
  let hit (m : TokenMove) : Bool := s.domOf m.pier = d && c ≤ m.slot
  (s.tokenMoves.reverse.filter hit).foldl (fun s m =>
    if m.released then (s.acquire m.pier m.amount).hold true (.trel m.pier m.slot m.amount m.all)
    else (s.giveBack m.pier m.amount).hold true (.tacq m.pier m.slot m.amount))
    { s with tokenMoves := s.tokenMoves.filter (fun m => !hit m) }

/-- Every later check of a pier sees what has landed and what has been released (R577). -/
def State.seeAll (s : State) (p : PierIx) : State :=
  { s with
    slots := s.slots.change (fun _ => SlotRec.init) (fun k x => if k / 1024 = p.val then { x with landed := 0 } else x)
    regions := s.regions.change (fun _ => Region.init) (fun k x => if k / 64 = p.val then { x with freed := [] } else x) }

/-- A pier's slots stop before slot `c`: the claims of the discarded checks are released (R166), PCTL_SLOT holds the slots issued
(R314), and the checks that are made again see what has landed and been released. The work of a halted pier waits (R578). -/
def State.stopIssue (s : State) (c : Nat) (phantom : Bool) (p : PierIx) : State :=
  let s1 := (s.dropClaims p c phantom).seeAll p
  if s1.issuing p || s1.stalled p then (s1.setFld Fld.PCTL_SLOT_SLOT p.val c).setFld Fld.PCTL_STATUS_STATE p.val 3
  else if s1.fld Fld.PCTL_STATUS_STATE p.val = 5 then s1.setPier p { s1.pier p with haltHeld := true }
  else s1

/-- The check of slot `c` has failed: its domain stalls before the slot, and the checks from it on are made again (R301). `ls` holds
the items that are not ready, each with its pier and whether its check was made again. -/
def State.stallSlot (s : State) (d : Dom) (c : Nat) (ls : List (PierIx × Late × Bool)) : State :=
  let ps := s.domPiers d
  let first := !ps.any (fun p => ((s.pier p).stallOf c).row != 0)
  let s1 := ls.foldl (fun s l => s.recordLate l.1 c l.2.1 l.2.2) (s.returnTokens d c)
  let s2 := ps.foldl (fun s p => s.stopIssue c (first && !ls.any (fun l => l.1 = p)) p) s1
  { s2 with flight := s2.flight.map (fun w =>
      if ps.contains w.pier && c ≤ w.due && w.kind.checked then
        { w with
          verdict := none
          stale := false
          late := w.late || (w.due = c && w.verdict != none && w.verdict != some none) }
      else w) }

/-- Has the requester of a part of work that has claimed its beats reached its quota on a port of them since, by the grants of the slot
before (R164, R166)? -/
def State.overQuota (s : State) (w : Work) : Bool :=
  let req := reqOf w.kind.order
  !w.late && w.verdict = some none && w.kind.checked && 5 ≤ req && s.quota w.pier req < 256 &&
    (s.workPorts w).any (fun n => s.quotaMasked w.pier req n 0)

/-- The items of the work of a domain that have failed the check of slot `c`. -/
def State.lateItems (s : State) (d : Dom) (c : Nat) : List (PierIx × Late × Bool) :=
  s.flight.filterMap (fun w =>
    if s.domOf w.pier = d && w.due = c then
      match w.verdict with
      | some (some l) => some (w.pier, l, w.late)
      | _ => if s.overQuota w then some (w.pier, lateBeat, false) else none
    else none)

/-- When the next event of work comes, 32 for each slot: the check of its part in the slot two before it, after what that slot does
and before what lands in it (R577), or the part itself. A read whose beat has been late comes after the writes of its slot, which have
been performed by then (R161). -/
def Work.key (w : Work) : Nat :=
  match w.verdict with
  | none => 32 * (w.due - 2) + 4
  | some _ => 32 * w.due + (if w.late && w.kind.rank = 1 then 3 else w.kind.rank)

/-- The place in the list and the work whose event comes first, among the work of a domain. -/
def State.firstWork (s : State) (d : Dom) : Option (Nat × Work) :=
  (s.flight.zipIdx.filter (fun e => s.domOf e.1.pier = d)).foldl (fun b e =>
    match b with
    | none => some (e.2, e.1)
    | some (i, w) => if e.1.key < w.key then some (e.2, e.1) else some (i, w)) none

/-- A beat of place `order` takes its ports from the claims of lower places in a slot: the parts of work that made them are late (R163,
R166). -/
def State.displace (s : State) (p : PierIx) (slot order : Nat) (ports : List Nat) : State :=
  if s.outranks p slot order ports then
    let hit (o : Nat) (ps : List Nat) : Bool := order < o && ps.any (fun n => ports.contains n)
    let x := s.pier p
    { s.setPier p { x with claims := x.claims.filter (fun c => !(c.slot = slot && !c.issued && hit c.order c.ports)) } with
      flight := s.flight.map (fun w =>
        if w.pier = p && w.due = slot && w.verdict = some none && !w.late && hit w.kind.order (s.workPorts w) then
          { w with verdict := some (some lateBeat) }
        else w) }
  else s

/-- The check of a part of work: its verdict, and where it is ready the claim of its beats (R301, R166); a beat that has been late
once is performed when its domain resumes and claims nothing (R165). -/
def State.checkWork (s : State) (i : Nat) (w : Work) : State :=
  let l := s.workLate w
  let s1 := { s with flight := s.flight.set i { w with verdict := some l, stale := s.workStale w } }
  if l.isSome || w.late then s1
  else (s1.displace w.pier w.due w.kind.order (s.workPorts w)).claim w.pier w.due w.kind.order (s.workPorts w) false

/-- The claim of a part of work has been granted: it stands for the slot and is no more a grant to come (R164, R166). -/
def State.claimGranted (s : State) (w : Work) : State :=
  let x := s.pier w.pier
  if x.claims.isEmpty then s
  else
    s.setPier w.pier { x with claims := x.claims.map (fun c =>
      if c.slot = w.due && c.order = w.kind.order then { c with issued := true } else c) }

/-- A part of work is performed in its slot: its beats are granted (R164), a stall of that slot is over, what is left of the work goes
on, and tags that waited for the watch entries of a slot that it released issue their requests (R206). -/
def State.perform (s : State) (w : Work) : Done :=
  let p := w.pier
  let s1 := (s.grantPorts p (reqOf w.kind.order) (s.workPorts w)).claimGranted w
  let x := s1.pier p
  let y := (s1.setPier p { x with
    lastPart := max x.lastPart w.due
    stall := x.stall.filter (fun y => y.slot != w.due) }).part w
  { y with s := y.s.wakeTags }

/-- Work goes on until its next event comes after key `k`, or until a slot has failed its check and the domain stalls. `fuel` bounds
the events. -/
def State.advance (d : Dom) (k : Nat) : Nat → State → State
  | 0, s => s
  | fuel + 1, s =>
    match s.firstWork d with
    | none => s
    | some (i, w) =>
      if k < w.key then s
      else if w.verdict.isNone then State.advance d k fuel (s.checkWork i w)
      else if (s.lateItems d w.due).isEmpty then
        let x := ({ s with flight := s.flight.eraseIdx i }).perform w
        if x.halt then x.s.stopDomain d else State.advance d k fuel (x.s.putWork x.left)
      else s.stallSlot d w.due (s.lateItems d w.due)

/-- Enough events for all the work in progress: each part is checked and performed, and brings at most 16 events more with it. -/
def State.fuel (s : State) : Nat := s.flight.foldl (fun n w => n + 64 * (w.left + 1)) 64

/-- The work of a domain goes on up to key `k`. -/
def State.settle (s : State) (d : Dom) (k : Nat) : State := State.advance d k s.fuel s

/-- Slot `t` has been issued by a pier: PCTL_SLOT counts it and the empty slots before it, the loops whose last pass has ended are
closed (R298, R314), its stall is over, and its bundle stream stands at that slot (R289). -/
def State.pierSlot (s : State) (t : Nat) (p : PierIx) : State :=
  let x := s.pier p
  let open_ := x.loops.filter (fun l => t < l.first + l.len * l.count)
  ((s.setPier p { x with loops := open_, stall := none, cursor := s.cursorAt p t }).setFld Fld.PCTL_STATUS_LOOP_DEPTH p.val
    open_.length).setFld Fld.PCTL_SLOT_SLOT p.val (t + 1)

/-- A slot has been issued by the piers of a domain that issue slots. -/
def State.slotIssued (s : State) (d : Dom) (t : Nat) : State :=
  ((s.domPiers d).filter (fun p => s.issuing p)).foldl (fun s p => s.pierSlot t p) s

/-- What the issue of an instruction needs beside its bundle: the item of its own that is not ready, and the place (R163) and the ports
of its beats in the issue slot. -/
structure Needs where
  late : Option Late
  order : Nat
  ports : List Nat

/-- An instruction that needs nothing. -/
def Needs.nothing : Needs := ⟨none, 56, []⟩

/-- An instruction that needs one item and no beat. -/
def Needs.item (l : Option Late) : Needs := ⟨l, 56, []⟩

/-- The first item of an instruction in slot `t` that is not ready; `failed` says that its slot has failed its check before. -/
def State.needLate (s : State) (failed : Bool) (p : PierIx) (t : Nat) (x : Needs) : Option Late :=
  firstLate [s.bundleLate p t, x.late, if s.beatLate failed p t x.order x.ports then some lateBeat else none]

/-- The issue of instruction `i` of pier `p` in slot `t`. A pier that issues nothing issues this instruction neither. A stalled domain
holds it; where its own slot is the stalled one, its items count with those that have failed. Otherwise its slot is checked two
slots ahead (R577), or, where it has failed its check before (`failed`), at once, and its beats are weighed with the claims of that slot
(R163, R166); items that are not ready stall the domain before the slot (R301); else the slot issues and the instruction has its effect.
A beat that was late behind another's comes after it (R161, R165). Before all that, the slots up to it that hold no instruction have
issued, unless a bundle of one is not in its cache (R302). `ramp` says whether the limit on steps fails the check (R328). -/
def State.issue (s : State) (failed : Bool) (i : Instr) (p : PierIx) (t : Nat) (needs : State → Needs)
    (effect : State → State) (ramp : State → Bool := fun _ => false) : State :=
  let d := s.domOf p
  if !s.issuing p && !s.stalled p then s
  else match (if s.stalled p then none else s.gapLate d t) with
  | some (u, ls) =>
    let s1 := s.settle d (32 * (u - 1) + 31)
    if s1.stalled p then s1.hold failed i else if !s1.issuing p then s1 else (s1.stallSlot d u ls).hold failed i
  | none =>
    let s1 := if s.stalled p then s else s.settle d (32 * (t - 2) + 27)
    let l := s1.needLate failed p t (needs s1)
    let fail (s : State) (l : Option Late) (ls : List (PierIx × Late × Bool)) : State :=
      match l with
      | some l =>
        let s1 := s.stallSlot d t (ls ++ [(p, l, failed)])
        (if ramp s then s1.countRamp p t else s1).hold true i
      | none => if ls.isEmpty then s.hold failed i else (s.stallSlot d t ls).hold failed i
    if s1.stalled p then
      if (s1.domPiers d).any (fun q => (s1.pier q).stall.any (fun x => x.slot = t)) then fail s1 l [] else s1.hold failed i
    else
      let s2 := s1.settle d (32 * (t - 1) + 31)
      if s2.stalled p then s2.hold failed i
      else if !s2.issuing p then s2
      else
        let y := needs s2
        let behind := failed && s2.beatLate false p t y.order y.ports
        let l := if l.isNone && s2.beatLate failed p t y.order y.ports then some lateBeat else l
        let s3 := if l.isNone && !failed then s2.displace p t y.order y.ports else s2
        if l.isSome || !(s3.lateItems d t).isEmpty then fail s3 l (s3.lateItems d t)
        else
          let s4 := s3.settle d (32 * t + (if behind then 2 else 0))
          let x := needs s4
          effect (((s4.claim p t x.order x.ports true).grantPorts p (reqOf x.order) x.ports).slotIssued d t)

/-- Work whose first part belongs to the slot that has just issued: the part is done, and the rest goes on. -/
def State.begin (s : State) (w : Work) : State :=
  let x := s.part { w with stale := s.workStale w }
  if x.halt then x.s.stopDomain (s.domOf w.pier) else x.s.putWork x.left

/-- Work whose first part belongs to the slot that issues it. -/
def nowWork (p : PierIx) (t left : Nat) (k : WorkKind) : Work := ⟨p, t, some none, false, false, 0, left, k⟩

/-- What an instruction needs whose first part of work belongs to its own slot: its region items, and the beats of that part. -/
def State.workNeeds (s : State) (failed : Bool) (w : Work) : Needs :=
  ⟨s.regionItems { w with late := failed }, w.kind.order, s.workPorts w⟩

end Sys2Proof.Machine
end

