-- ==== Sys2Proof/Machine/Move.lean ====
section
/-! DEFINITION. Moves of extents (R264, R266-R268), eviction from the pool and bring-up into it (R269-R272). -/
namespace Sys2Proof.Machine

/-- The number of the home-table entry of a move. -/
def State.moveEntry (s : State) (m : Move) : Nat := (s.object m.object).first + m.extent

/-- The object and the extent that a home-table entry belongs to. -/
def State.ownerOf (s : State) (i : Nat) : Option (Nat × Nat) :=
  (s.objects.find? (fun o => o.2.valid && o.2.first ≤ i && i < o.2.first + o.2.count)).map (fun o => (o.1, i - o.2.first))

/-- Is a write one that was translated through the home table? -/
def Writer.translated : Writer → Bool
  | .copy .. => true
  | .remote .. => true
  | _ => false

/-- Has a write into the extent of an entry still to be accepted by a pier that watches it, or to enter the mirror log (R225,
R412)? -/
def State.entryWritten (s : State) (i : Nat) : Bool :=
  match s.ownerOf i with
  | none => false
  | some (n, k) =>
    let e := s.home i
    let size := 2 ^ (s.object n).extentLog2
    (e.tier = 0 && s.staleNotices.any (fun x => x.writer.translated && e.loc ≤ x.addr && x.addr < e.loc + size)) ||
      s.mirrorWaits.any (fun w => w.2.object = n && w.2.offset / size = k)

/-- Is a copy's write to the remote home of an entry not answered (R275)? -/
def State.entrySent (s : State) (i : Nat) : Bool :=
  s.remotes.any (fun r => match r.owner with
    | .write p d _ offset => (s.object (s.copyWalk (copyIx p d)).object).entryOf offset = i
    | _ => false)

/-- Does a remote access that has been translated through an entry wait at the gates (R264)? -/
def State.entryHeld (s : State) (i : Nat) : Bool :=
  match s.ownerOf i with
  | none => false
  | some (n, _) =>
    let e := s.home i
    e.tier = 0 && s.hostWaits.any (fun q => match q with
      | .remote w => w.ranges.any (fun r => e.loc ≤ r.1 && r.1 < e.loc + 2 ^ (s.object n).extentLog2)
      | .request _ => false)

/-- Is a transfer translated through an entry not complete: a tag has it, or an access through it is not complete (R225, R264)? -/
def State.entryBusy (s : State) (i : Nat) : Bool :=
  s.tags.any (fun x => x.homes.contains i) || s.entryWritten i || s.entrySent i || s.entryHeld i

/-- An extent is marked MOVING: new translations to it wait (R266). -/
def State.markMoving (s : State) (i : Nat) : State := s.setHome i { s.home i with moving := true }

/-- The tollhouse assigns a frame of the pool: the value that HOME_CFG holds comes into force (R284). -/
def State.assignFrame (s : State) : State := { s with poolCfg := s.reg .homeCfg 0 }

/-- Free frames below which eviction starts, in force (R270, R284). -/
def State.reserveFrames (s : State) : Nat := Fld.HOME_CFG_POOL_RESERVE.ofWord s.poolCfg

/-- A move of an extent begins (R266); one of a pooled extent into the stacks takes frames (R269). -/
def State.startMove (s : State) (m : Move) : State :=
  let s1 := if m.tier = 0 && (s.object m.object).pooled then s.assignFrame else s
  { s1.markMoving (s1.moveEntry m) with moves := s1.moves ++ [{ m with stage := .marked }] }

/-- EXHAUSTED is taken back when a frame is free (R272, R284). -/
def State.refreshPool (s : State) : State :=
  if s.flag Fld.HOME_STATUS_EXHAUSTED 0 && 0 < s.freeFrames then s.setFld Fld.HOME_STATUS_EXHAUSTED 0 0 else s

/-- The read of an 8 KiB tile at offset `o` of a moving extent: its bytes and whether they are lost to an uncorrectable error, of a
stack, of host memory (R442), or of a remote home, whose answers `remote` holds (R268). In a remote home an upset is placed by its offset
in the extent. -/
def State.moveRead (s : State) (e : HomeEntry) (remote : List Byte) (u : Upset) (o : Nat) : List Byte × Bool × State :=
  match e.tier with
  | 0 =>
    let r := s.gateRead 0 (e.loc + o) 8192 u
    (r.2.bytes (e.loc + o) 8192, r.1, r.2)
  | 1 =>
    let r := s.hostReads (e.loc + o) 8192 u
    (r.2.bytes (e.loc + o) 8192, r.1, r.2)
  | _ => (padTo 8192 (remote.drop o), (match u with
    | some (b, k) => o ≤ b && b < o + 8192 && 4 ≤ k
    | none => false), s)

/-- One 8 KiB tile of a move: read at the old home and written at the new one; a tile read with an uncorrectable error goes
to a stack as stored poison and to the host as zeros (R266, R268). `acc` says whether an extent that moves to host memory has
lost data. -/
def State.moveTile (m : Move) (i : Nat) (e : HomeEntry) (remote : List Byte) (u : Upset) (acc : Bool × State) (o : Nat) :
    Bool × State :=
  let object := m.object
  let off := m.extent * 2 ^ (acc.2.object object).extentLog2 + o
  let r := acc.2.moveRead e remote u o
  let w := r.2.2.homeWrite (.move i) 1 (m.loc + o) r.1 r.2.1 object off
  let s2 := if r.2.1 && m.tier = 0 then
      w.2.flagEvent Fld.HOME_ERR_MOVE_POISON 0 .movePoison 0 0 (object % 2 ^ 22 + off % 2 ^ 40 * 2 ^ 22)
    else w.2
  (acc.1 || (r.2.1 && m.tier = 1), s2)

/-- Is this a move of the command in mailbox slot `k`? -/
def Move.ofCommand (m : Move) (k : Nat) : Bool := m.cause = .command k

/-- The first move of each command takes its turn, unless its extent moves already (R266). -/
def State.nextTurns (s : State) : State :=
  s.moves.foldl (fun s m =>
    match m.cause with
    | .command k =>
      if s.moves.find? (fun x => x.ofCommand k) = some m && m.stage = .queued && !(s.home (s.moveEntry m)).moving then
        let s1 := if m.tier = 0 && (s.object m.object).pooled then s.assignFrame else s
        { s1.markMoving (s1.moveEntry m) with
          moves := s1.moves.map (fun x => if x = m then { m with stage := .marked } else x) }
      else s
    | _ => s) s

/-- The end of a move: its command goes on with its next extent or is done, an eviction or a bring-up is counted (R266, R270,
R271). -/
def State.endMove (s : State) (m : Move) : State :=
  let s1 := { s with moves := s.moves.erase m }
  let s2 := match m.cause with
    | .command k =>
      if s1.moves.any (fun x => x.ofCommand k) then s1
      else match (s1.mailSlot k).running with
        | some p => s1.finish k .ok 0 (leBytes 4 (p.le 8 4))
        | none => s1
    | .evict => s1.bump Fld.HOME_COUNT_EVICTIONS 0 1
    | .bringUp => s1.bump Fld.HOME_COUNT_BRINGUPS 0 1
  s2.nextTurns.refreshPool

/-- The tiles of a move are copied and every notice of their writes is accepted: the extent has its new home, what waited for it goes
on, and the freeing of an old range in the stacks counts as a write (R203, R266). The move ends once that is accepted too. -/
def State.rehome (s : State) (m : Move) : State :=
  let i := s.moveEntry m
  let e := s.home i
  let s1 := s.setHome i { e with
    tier := m.tier
    loc := m.loc
    moving := false
    poison := e.poison || m.lost
    module := 0
    backing := if e.tier = 2 then 0 else e.backing }
  let x := { m with stage := .freed }
  let s2 := { s1 with
    moves := s1.moves.map (fun y => if y = m then x else y)
    bringUps := if m.cause = MoveCause.bringUp then s1.bringUps.filter (fun j => j != i) else s1.bringUps }
  let s3 := (if e.tier = 0 then s2.noticeRange (.move i) e.loc (2 ^ (s.object m.object).extentLog2) else s2).wake
  if s3.writeWaits (.move i) then s3 else s3.endMove x

/-- A move whose writes are all complete goes on (R225, R266). -/
def State.moveOn (s : State) (m : Move) : State :=
  if !s.moves.contains m || s.writeWaits (.move (s.moveEntry m)) then s
  else
    match m.stage with
    | .copied => s.rehome m
    | .freed => s.endMove m
    | _ => s

/-- Every move whose writes are all complete goes on; a pier has accepted a notice, or its notices are dropped (R225). -/
def State.movesOn (s : State) : State := s.moves.foldl State.moveOn s

/-- The extent is copied, tile by tile (R266). -/
def State.moveExtent (s : State) (m : Move) (remote : List Byte) (u : Upset) : State :=
  let i := s.moveEntry m
  let n := 2 ^ (s.object m.object).extentLog2
  let x := (tileOffsets n).foldl (State.moveTile m i (s.home i) remote u) (false, s)
  let m1 := { m with stage := .copied, lost := x.1 }
  { x.2 with moves := x.2.moves.map (fun y => if y = m then m1 else y) }.moveOn m1

/-- Do the stacks keep the copying of a move waiting (R231)? -/
def State.moveBlocked (s : State) (m : Move) : Bool :=
  let n := 2 ^ (s.object m.object).extentLog2
  let e := s.home (s.moveEntry m)
  (e.tier = 0 && s.blocked e.loc n) || s.blocked m.loc n

/-- The move of the extent of a home-table entry: it is marked MOVING and waits while a transfer translated through the old
entry is in flight (R264), then it is carried out. -/
def State.extentMove (s : State) (i : Nat) (remote : List Byte) (u : Upset) : State :=
  match s.moves.find? (fun m => s.moveEntry m = i && m.stage != .queued) with
  | none => s
  | some m =>
    if m.stage = .marked then (if s.entryBusy i || s.moveBlocked m then s else s.moveExtent m remote u)
    else s.moveOn m

/-- EXTENT_MOVE. -/
def execExtentMove (entry : Nat) (remote : List Byte) (upset : Option (Nat × Nat)) (s : State) :
    Host.Outcome State Fault Refusal := .next (s.extentMove entry remote upset)

/-- The pooled extents in the stacks that eviction may take: not moving, and no transfer in flight through them (R270). -/
def State.evictable (s : State) : List Nat :=
  (s.objects.filter (fun o => o.2.valid && o.2.pooled)).flatMap (fun o =>
    ((s.entriesOf o.1).filter (fun e => e.2.valid && e.2.tier = 0 && !e.2.moving && !s.entryBusy e.1)).map Prod.fst)

/-- The evictable extent of the smallest AGE, the lower entry on a tie (R270). -/
def State.oldest (s : State) : Option Nat :=
  s.evictable.foldl (fun b i =>
    match b with
    | none => some i
    | some j =>
      let a := (s.home i).age.toNat
      let c := (s.home j).age.toNat
      if a < c || (a = c && i < j) then some i else some j) none

/-- The eviction of an extent to its BACKING address begins (R270). -/
def State.startEvict (s : State) (i : Nat) : State :=
  match s.ownerOf i with
  | some (n, k) => s.startMove ⟨n, k, 1, (s.home i).backing % 2 ^ 48, .evict, .marked, false⟩
  | none => s

/-- Extents that are on their way out of the pool. -/
def State.leaving (s : State) : Nat := (s.moves.filter (fun m => m.cause = .evict && m.stage != .freed)).length

/-- Evictions begin until the free frames and those on their way out reach a number. `fuel` bounds them. -/
def State.evictTo (target : Nat) : Nat → State → State
  | 0, s => s
  | fuel + 1, s =>
    if target ≤ s.freeFrames + s.leaving then s
    else
      match s.oldest with
      | none => s
      | some i => State.evictTo target fuel (s.startEvict i)

/-- Free frames fall below the reserve: the oldest pooled extents are evicted up to twice the reserve (R270). -/
def State.poolEvict (s : State) : State :=
  let r := s.reserveFrames
  if s.freeFrames < r then State.evictTo (2 * r) s.evictable.length s else s

/-- POOL_EVICT. -/
def execPoolEvict (s : State) : Host.Outcome State Fault Refusal := .next s.poolEvict

/-- A bring-up into a free frame begins; with no free frame, and none that can be evicted, it waits and POOL_EXHAUSTED is
raised once (R271, R272). -/
def State.bringUp (s : State) (i frame : Nat) : State :=
  if !s.bringUps.contains i || (s.home i).moving || (s.home i).tier != 1 then s
  else
    match s.ownerOf i with
    | none => s
    | some (n, k) =>
      if s.frameFree frame then s.startMove ⟨n, k, 0, 2 ^ 21 * frame, .bringUp, .marked, false⟩
      else if s.freeFrames = 0 && s.leaving = 0 && (s.evictable.isEmpty || s.reserveFrames = 0) &&
          !s.flag Fld.HOME_STATUS_EXHAUSTED 0 then
        (s.setFld Fld.HOME_STATUS_EXHAUSTED 0 1).flagEvent Fld.HOME_ERR_POOL_EXHAUSTED 0 .poolExhausted 0 0
          (n % 2 ^ 22 + k * 2 ^ 21 % 2 ^ 40 * 2 ^ 22)
      else s

/-- BRING_UP: the tollhouse takes frame `frame` for the extent of a home-table entry. -/
def execBringUp (entry frame : Nat) (s : State) : Host.Outcome State Fault Refusal := .next (s.bringUp entry frame)

end Sys2Proof.Machine
end

