-- ==== Sys2Proof/Machine/ApproachInstr.lean ====
section
/-! DEFINITION. The meanings of ARM, COPY and CWAIT, and of the events of the approach and copy engines: tags, replies,
timeouts and stale notices. -/
namespace Sys2Proof.Machine

/-- The effect of ARM: a gang that is still armed raises STREAM_BUSY, any other starts (R190). STREAM_BUSY is no fault of a tile, so
APPROACH_FAULT and APPROACH_FAULT_SRC do not change (log 127). -/
def State.armEffect (s : State) (p : PierIx) (t : Nat) (n : Fin 16) : State :=
  if s.streamBit Fld.APPROACH_STATUS_ARMED p n.val then
    s.containFlag Fld.APPROACH_ERR_STREAM_BUSY p.val p t .streamBusy (t % 2 ^ 48)
  else s.startGang p n

/-- ARM with its check. -/
def runArm (failed : Bool) (p : PierIx) (t : Nat) (n : Fin 16) (s : State) : State :=
  s.issue failed (.arm p t n) p t (fun _ => Needs.nothing) (fun s => s.armEffect p t n)

/-- ARM. -/
def execArm (p : PierIx) (t : Nat) (n : Fin 16) (s : State) : Host.Outcome State Fault Refusal := .next (runArm false p t n s)

/-- The effect of COPY: a descriptor that is still running raises STREAM_BUSY, any other starts (R274). -/
def State.copyEffect (s : State) (p : PierIx) (t : Nat) (d : Fin 8) : State :=
  if s.runDone p d then s.setRun p d ⟨true, 0, none⟩ else s.contain p t .streamBusy (t % 2 ^ 48)

/-- COPY with its check. -/
def runCopy (failed : Bool) (p : PierIx) (t : Nat) (d : Fin 8) (s : State) : State :=
  s.issue failed (.copy p t d) p t (fun _ => Needs.nothing) (fun s => s.copyEffect p t d)

/-- COPY. -/
def execCopy (p : PierIx) (t : Nat) (d : Fin 8) (s : State) : Host.Outcome State Fault Refusal := .next (runCopy false p t d s)

/-- The effect of CWAIT: the first fault that the run recorded is raised (R274, R396). -/
def State.cwaitEffect (s : State) (p : PierIx) (t : Nat) (d : Fin 8) : State :=
  match (s.run p d).fault with
  | none => s
  | some (c, o) =>
    s.contain p t c (if c = .stepSkew then s.stepNo
      else (s.copyWalk (copyIx p d)).object % 2 ^ 22 + o % 2 ^ 40 * 2 ^ 22)

/-- CWAIT with its check: every write of the run is complete (row 7 of R302). -/
def runCwait (failed : Bool) (p : PierIx) (t : Nat) (d : Fin 8) (s : State) : State :=
  s.issue failed (.cwait p t d) p t (fun s => Needs.item (if s.runDone p d then none else some lateCopy))
    (fun s => s.cwaitEffect p t d)

/-- CWAIT. -/
def execCwait (p : PierIx) (t : Nat) (d : Fin 8) (s : State) : Host.Outcome State Fault Refusal :=
  .next (runCwait false p t d s)

/-- The gangs that stand before the first one that may go on and name a region that is not valid (R179). -/
def State.invalidGangs (s : State) (p : PierIx) : List (Fin 16) :=
  (s.gangOrder p).filter (fun n =>
    let j := streamIx p n
    let w := s.streamWalk j
    (s.gang j).reserved < w.gang * w.depth && !s.regionUsable p w.region)

/-- A tag is allocated: for the oldest refetch, else for the next tile of the first gang that may go on (R195). -/
def State.tagAllocate (s : State) (p : PierIx) : State :=
  if !s.fetching p then s
  else
    match s.freeTagNum p false 64 with
    | none => s
    | some num =>
      match s.refetches.find? (fun e => e.1 = p) with
      | some (_, k) => ({ s with refetches := s.refetches.eraseP (fun e => e.1 = p) }.allocRefetch p num k).wakeTags
      | none =>
        let s1 := (s.invalidGangs p).foldl (fun s n => s.regionInvalid p (s.streamWalk (streamIx p n)).region) s
        match (s1.gangOrder p).find? (fun n => s1.gangMay p n) with
        | none => s1
        | some n => s1.allocGang p num n

/-- TAG_ALLOCATE. -/
def execTagAllocate (p : PierIx) (s : State) : Host.Outcome State Fault Refusal := .next (s.tagAllocate p)

/-- An approach tag by its number. -/
def State.tagOf (s : State) (p : PierIx) (copy : Bool) (num : Nat) : Option Tag :=
  s.tags.find? (fun x => x.pier = p && x.num = num && (match x.owner with
    | .stream _ => !copy
    | .copy _ => copy))

/-- A reply that carries an older attempt number is discarded and counted (R198). -/
def State.lateReply (s : State) (p : PierIx) : State := s.bump Fld.APPROACH_COUNT_LATE_REPLIES p.val 1

/-- A reply from a stack or from host memory (R197, R198). -/
def State.transferReply (s : State) (p : PierIx) (num req attempt : Nat) (u : Upset) : State :=
  match s.tagOf p false num with
  | none => s
  | some x =>
    if x.waits || !x.wants.isEmpty then s
    else if attempt < x.attempt then s.lateReply p
    else
      match x.requests[req]? with
      | none => s
      | some q =>
        if attempt != x.attempt || q.answered || q.window.isSome || s.requestBlocked q then s
        else
          let y := s.readRequest q u
          y.2.2.answerTag x req (y.2.1.map (fun _ => Code.memUe)) y.2.1 y.1

/-- TRANSFER_REPLY. -/
def execTransferReply (p : PierIx) (num req attempt : Nat) (upset : Option (Nat × Nat)) (s : State) :
    Host.Outcome State Fault Refusal := .next (s.transferReply p num req attempt upset)

/-- The offset of the first part of a tag that is not there: one whose watch entry it still waits for (R206), or the first of a
request that is not answered (R200). -/
def State.missingPart (s : State) (x : Tag) : Nat :=
  let wanted (pc : Piece) : Bool := x.wants.any (fun e => e.2.kind = pc.kind && inStacks pc.addr && e.1 = (s.place pc.addr).gate)
  let late := if x.wants.isEmpty then (x.requests.filter (fun q => !q.answered)).filterMap (fun q => q.pieces.head?)
    else (x.requests.flatMap Request.pieces).filter wanted
  (late.head?.map Piece.offset).getD 0

/-- A tag gives up with a code: what is not answered counts as answered, and the slot lands poisoned (R198, R206). -/
def State.abandonTag (s : State) (x : Tag) (c : Code) : State := s.landTag (x.addFault c (s.missingPart x))

/-- The remote writes of a copy tag. -/
def State.writesOf (s : State) (p : PierIx) (num : Nat) : List Remote :=
  s.remotes.filter (fun r => match r.owner with
    | .write q _ n _ => q = p && n = num
    | _ => false)

/-- The remote writes of a copy tag have not been answered in time (R198, R395). -/
def State.writeTimeout (s : State) (p : PierIx) (num : Nat) : State :=
  (s.writesOf p num).foldl (fun s r =>
    if r.msg.head.attempt < s.fld Fld.APPROACH_CFG_RETRY_LIMIT p.val then
      let msg := { r.msg with head := { r.msg.head with attempt := r.msg.head.attempt + 1 } }
      { s with remotes := s.remotes.map (fun (y : Remote) => if y = r then { y with msg := msg } else y) }.post msg
    else
      let s1 := { s with remotes := s.remotes.filter (fun y => y != r) }
      match r.owner with
      | .write q d _ o => s1.runFault q d .xferTimeout o
      | _ => s1) s

/-- The requests of a tag are issued again, or its slot is poisoned at the limit (R198). -/
def State.tagTimeout (s : State) (p : PierIx) (copy : Bool) (num : Nat) : State :=
  match s.tagOf p copy num with
  | none => if copy then s.writeTimeout p num else s
  | some x =>
    if x.waits || !x.wants.isEmpty then s
    else if x.attempt < s.fld Fld.APPROACH_CFG_RETRY_LIMIT p.val then
      let y := { x with attempt := x.attempt + 1 }
      (s.setTag y).sendRemotes y true
    else s.abandonTag x .xferTimeout

/-- TAG_TIMEOUT. -/
def execTagTimeout (p : PierIx) (copy : Bool) (num : Nat) (s : State) : Host.Outcome State Fault Refusal :=
  .next (s.tagTimeout p copy num)

/-- A tag that still waits for a watch entry stops waiting (R206). -/
def State.watchTimeout (s : State) (p : PierIx) (copy : Bool) (num : Nat) : State :=
  match s.tagOf p copy num with
  | none => s
  | some x => if x.wants.isEmpty then s else s.abandonTag x .watchStarved

/-- WATCH_WAIT_TIMEOUT. -/
def execWatchWaitTimeout (p : PierIx) (copy : Bool) (num : Nat) (s : State) : Host.Outcome State Fault Refusal :=
  .next (s.watchTimeout p copy num)

/-- The oldest notice is accepted: the slot is stale if the notice's generation is the slot's (R203), and the write goes on
(R225). -/
def State.acceptNotice (s : State) (p : PierIx) : State :=
  match s.takeNotice p with
  | none => s
  | some (n, s1) =>
    let x := s1.slot p n.slot
    let s2 := if x.gen = n.gen then
        let s3 := s1.setSlot p n.slot { x with stale := true, stales := if x.stale then x.stales else x.stales + 1 }
        match x.stream with
        | some k => s3.bump Fld.STREAM_COUNT3_STALE_MARKS (streamIx p k) 1
        | none => s3
      else s1
    s2.closeWrites.movesOn

/-- STALE_NOTICE. -/
def execStaleNotice (p : PierIx) (s : State) : Host.Outcome State Fault Refusal := .next (s.acceptNotice p)

/-- COPY_TILE. -/
def execCopyTile (p : PierIx) (d : Fin 8) (upset : Option (Nat × Nat)) (s : State) : Host.Outcome State Fault Refusal :=
  .next (s.copyTile p d upset)

end Sys2Proof.Machine
end

