-- ==== Sys2Proof/Machine/ArchInstr.lean ====
section
/-! DEFINITION. The arch, ring and region instructions of the schedule: LOADS, PASS, DRAIN, ZERO, INJECT, FLIP and
RELEASE. Each `run…` takes whether its slot has failed its check before; each `exec…` is the command. -/
namespace Sys2Proof

/-- Does the stream come from a carriageway? -/
def PassSrc.onRing : PassSrc → Bool
  | .feeder => false
  | .carriageway _ => true

end Sys2Proof
namespace Sys2Proof.Machine

/-- The offset that the first read of an instruction names (R171, R296). -/
def firstOff (d : Nat) (keep : Bool) : Nat := if keep then d else 0

/-- Does a LOADS in slot `t` break rule 2 or 3 of R100? -/
def State.loadsBusy (s : State) (p : PierIx) (a : ArchIx) (t : Nat) : Bool :=
  let x := s.arch p a
  x.captures.any (fun e => t + 7 < e.2) || (match x.loadSlot with
    | some l => t ≤ l + 72
    | none => false)

/-- The work of a LOADS issued in slot `t`, before it has read a row. -/
def loadWork (p : PierIx) (t : Nat) (a : ArchIx) (r : RegionIx) (i : Nat) (keep : Bool) (x : Tile) : Work :=
  nowWork p t 64 (.load a r i keep { x with rows := [], exts := [] })

/-- The effect of LOADS in its slot (R77, R78, R100): after its checks it reads a row in each slot from its own on. -/
def State.loadsEffect (s : State) (p : PierIx) (t : Nat) (a : ArchIx) (r : RegionIx) (d : Nat) (keep : Bool) (f : Fmt) :
    State :=
  if s.loadsBusy p a t then s.archFault Fld.ARCH_ERR_GRID_BUSY p a t .gridBusy
  else
    match s.feed p r (firstOff d keep) f false (s.readStale p r (firstOff d keep) t) with
    | .wait _ _ => s
    | .fault c i =>
      let s1 := s.readFault p r t c i (some (Fld.ARCH_ERR_FORMAT_MISMATCH, archIx p a)) a.val
      if i.isSome then s1.readEnds p r t (!keep) else s1
    | .tile i x skew =>
      let s1 := s.noteRead p r i
      let s2 := if skew then s1.countSkew p x.stepTag.toNat else s1
      (s2.setArch p a { s2.arch p a with loadSlot := some t, next := some f, captures := [] }).begin
        (loadWork p t a r i keep x)

/-- What a LOADS needs: its tile, and the beats of its first row (R302). -/
def State.loadsNeeds (s : State) (p : PierIx) (t : Nat) (a : ArchIx) (r : RegionIx) (d : Nat) (keep : Bool) : Needs :=
  ⟨s.readLate p r (firstOff d keep) t, 13 - a.val,
    s.workPorts (loadWork p t a r (s.readIx p r (firstOff d keep) t) keep Tile.empty)⟩

/-- LOADS with its check (R302). -/
def runLoads (failed : Bool) (p : PierIx) (t : Nat) (a : ArchIx) (r : RegionIx) (d : Nat) (keep : Bool) (f : Fmt)
    (s : State) : State :=
  s.issue failed (.loads p t a r d keep f) p t (fun s => s.loadsNeeds p t a r d keep)
    (fun s => s.loadsEffect p t a r d keep f)

/-- LOADS. -/
def execLoads (p : PierIx) (t : Nat) (a : ArchIx) (r : RegionIx) (d : Nat) (keep : Bool) (f : Fmt) (s : State) :
    Host.Outcome State Fault Refusal := .next (runLoads false p t a r d keep f s)

/-- Would row 0 of a pass in slot `t` read the grid before a LOADS has written it (rule 1 of R100)? -/
def State.gridTooEarly (s : State) (p : PierIx) (a : ArchIx) (t : Nat) : Bool :=
  match (s.arch p a).loadSlot with
  | some l => t + 10 < l + 73
  | none => false

/-- Is the pier in no segment (R117)? -/
def State.noSegment (s : State) (p : PierIx) : Bool :=
  match s.domOf p with
  | .seg _ => false
  | .solo _ => true

/-- The work of a pass issued in slot `t` over a grid of output width `w`: a feeder pass reads its first row in its own slot, a
carriageway pass captures its first row 9 slots later (R99, R122). -/
def passWork (p : PierIx) (t : Nat) (a : ArchIx) (d : PassDesc) (w : Nat) (r : RegionIx) (off : Nat) (keep : Bool) : Work :=
  let x : PassRun := ⟨a, t, d, w, r, off, keep, 0, f32One, none⟩
  if d.src.onRing then newWork p (t + 9) (64 * d.tiles) (.pass x) else nowWork p t (64 * d.tiles) (.pass x)

/-- The start of a pass (R99, R122): the capture of its last row is foreseen (R100). -/
def State.startPass (s : State) (p : PierIx) (t : Nat) (a : ArchIx) (d : PassDesc) (w : Nat) (r : RegionIx) (off : Nat)
    (keep : Bool) : State :=
  let x := s.arch p a
  let s1 := s.setArch p a { x with captures := x.captures.filter (fun e => t ≤ e.2 + 64) ++ [(t, t + 8 + 64 * d.tiles)] }
  let y := passWork p t a d w r off keep
  if d.src.onRing then s1.addWork y else s1.begin y

/-- The format of the tile that the rows of a pass issued now will meet: that of a LOADS in progress, or else of the grid (R100,
R105). -/
def State.passGrid (s : State) (p : PierIx) (a : ArchIx) : Option Fmt :=
  match (s.arch p a).next with
  | some f => some f
  | none => s.gridFmt p a

/-- The effect of PASS in its slot (R85, R105, R117). -/
def State.passEffect (s : State) (p : PierIx) (t : Nat) (a : ArchIx) (d : PassDesc) (r : RegionIx) (off : Nat)
    (keep : Bool) : State :=
  if d.src.onRing && s.noSegment p then s.ringRole p a.val t
  else if s.gridTooEarly p a t then s.archFault Fld.ARCH_ERR_GRID_BUSY p a t .gridBusy
  else
    match s.passGrid p a with
    | none => s.archFault Fld.ARCH_ERR_FORMAT_MISMATCH p a t .formatMismatch
    | some wf =>
      let w := d.shape.width wf.perCell
      if wf.perCell != d.sfmt.perCell then s.archFault Fld.ARCH_ERR_FORMAT_MISMATCH p a t .formatMismatch
      else if s.capacity p a ≤ lastEntry (d.base + (d.tiles - 1) * d.tstride) d.pitch w then
        s.archFault Fld.ARCH_ERR_SPANDREL_RANGE p a t .spandrelRange
      else s.startPass p t a d w r off keep

/-- What a PASS needs: a feeder pass its first tile and the beats of its first row. -/
def State.passNeeds (s : State) (failed : Bool) (p : PierIx) (t : Nat) (a : ArchIx) (d : PassDesc) (r : RegionIx) (off : Nat)
    (keep : Bool) : Needs :=
  if d.src.onRing then Needs.nothing else s.workNeeds failed (passWork p t a d 0 r off keep)

/-- PASS with its check. -/
def runPass (failed : Bool) (p : PierIx) (t : Nat) (a : ArchIx) (d : PassDesc) (r : RegionIx) (off : Nat) (keep : Bool)
    (s : State) : State :=
  s.issue failed (.pass p t a d r off keep) p t (fun s => s.passNeeds failed p t a d r off keep)
    (fun s => s.passEffect p t a d r off keep)

/-- PASS. -/
def execPass (p : PierIx) (t : Nat) (a : ArchIx) (d : PassDesc) (r : RegionIx) (off : Nat) (keep : Bool) (s : State) :
    Host.Outcome State Fault Refusal := .next (runPass false p t a d r off keep s)

/-- Is the drain port of the arch occupied in slot `t` (R93)? -/
def Arch.portBusy (x : Arch) (t : Nat) : Bool := x.portFrom ≤ t && t < x.portTo

/-- The effect of DRAIN in its slot (R90, R93, R105, R360). -/
def State.drainEffect (s : State) (p : PierIx) (t : Nat) (a : ArchIx) (d : DrainDesc) (base pitch : Nat) (clear : Bool)
    (r : RegionIx) : State :=
  let use := s.useOf p d.stream.val
  let s1 := if d.takesUse then s.takeUse p d.stream.val else s
  let x := s1.arch p a
  let y := s1.pier p
  if (y.pathFrom ≤ t && t < y.pathTo) || x.portBusy t then s1.archFault Fld.ARCH_ERR_DRAIN_BUSY p a t .drainBusy
  else if s1.capacity p a ≤ lastEntry base pitch d.outFmt.cols then
    s1.archFault Fld.ARCH_ERR_SPANDREL_RANGE p a t .spandrelRange
  else
    let n := (drainTime (s1.comp p a) d).total
    let s2 := (s1.setArch p a { x with portFrom := t, portTo := t + n }).setPier p { y with pathFrom := t, pathTo := t + n }
    let run : DrainRun := ⟨t, d, base, pitch, clear, r, s2.reserveIx p r, use, s2.freeCtr, s2.stepNo, [], [], false⟩
    ((if d.wide then s2.skipFree (64 * d.outFmt.cols) else s2).reserve p r).addWork (newWork p (t + 8) n (.drain a run))

/-- DRAIN with its check. -/
def runDrain (failed : Bool) (p : PierIx) (t : Nat) (a : ArchIx) (d : DrainDesc) (base pitch : Nat) (clear : Bool)
    (r : RegionIx) (s : State) : State :=
  s.issue failed (.drain p t a d base pitch clear r) p t (fun s => Needs.item (s.roomLate failed p r 1 t))
    (fun s => s.drainEffect p t a d base pitch clear r)

/-- DRAIN. -/
def execDrain (p : PierIx) (t : Nat) (a : ArchIx) (d : DrainDesc) (base pitch : Nat) (clear : Bool) (r : RegionIx)
    (s : State) : Host.Outcome State Fault Refusal := .next (runDrain false p t a d base pitch clear r s)

/-- The cycles of a ZERO (R89). -/
def zeroCycles (comp : Bool) (count : Nat) : Nat := (count + zeroRate comp - 1) / zeroRate comp

/-- The effect of ZERO in its slot (R89, R93, R105). -/
def State.zeroEffect (s : State) (p : PierIx) (t : Nat) (a : ArchIx) (base count : Nat) : State :=
  let x := s.arch p a
  if x.portBusy t then s.archFault Fld.ARCH_ERR_DRAIN_BUSY p a t .drainBusy
  else if s.capacity p a < base + count then s.archFault Fld.ARCH_ERR_SPANDREL_RANGE p a t .spandrelRange
  else
    let n := zeroCycles (s.comp p a) count
    (s.setArch p a { x with portFrom := t, portTo := t + n }).addWork (newWork p (t + 8) n (.zero a base count))

/-- ZERO with its check. -/
def runZero (failed : Bool) (p : PierIx) (t : Nat) (a : ArchIx) (base count : Nat) (s : State) : State :=
  s.issue failed (.zero p t a base count) p t (fun _ => Needs.nothing) (fun s => s.zeroEffect p t a base count)

/-- ZERO. -/
def execZero (p : PierIx) (t : Nat) (a : ArchIx) (base count : Nat) (s : State) : Host.Outcome State Fault Refusal :=
  .next (runZero false p t a base count s)

/-- The work of an INJECT issued in slot `t`, before it has placed a row. -/
def injectWork (p : PierIx) (t : Nat) (g : SegIx) (c : Cwy) (r : RegionIx) (tiles : Nat) (f : Fmt) (exit : Bool) (off : Nat)
    (keep : Bool) : Work := nowWork p t (64 * tiles) (.inject t g c r f exit off keep 0)

/-- The effect of INJECT in its slot (R117, R119, R120). -/
def State.injectEffect (s : State) (p : PierIx) (t : Nat) (c : Cwy) (r : RegionIx) (tiles : Nat) (f : Fmt) (exit : Bool)
    (off : Nat) (keep : Bool) : State :=
  match s.domOf p with
  | .solo _ => s.ringRole p 0 t
  | .seg g =>
    if s.fld Fld.RING_CFG_ROLE p.val != headRole c then s.ringRole p 0 t
    else if s.injectBusy g c t then s.containFlag Fld.RING_ERR_INJECT_BUSY p.val p t .injectBusy (t % 2 ^ 48)
    else
      let s1 := { s with ring := s.ring ++ [RingStream.mk g c t exit f tiles [] [] []] }
      ((s1.addWork (newWork p (t + 57) (s.segArches g + 64 * tiles - 1) (.ringEntry g c t))).addWork
        (newWork p (t + 56 + s.segArches g + 64 * tiles) 1 (.streamEnd g c t))).begin (injectWork p t g c r tiles f exit off keep)

/-- INJECT with its check: its first tile and the beats of its first row. -/
def runInject (failed : Bool) (p : PierIx) (t : Nat) (c : Cwy) (r : RegionIx) (tiles : Nat) (f : Fmt) (exit : Bool)
    (off : Nat) (keep : Bool) (s : State) : State :=
  s.issue failed (.inject p t c r tiles f exit off keep) p t
    (fun s => s.workNeeds failed (injectWork p t 0 c r tiles f exit off keep))
    (fun s => s.injectEffect p t c r tiles f exit off keep)

/-- INJECT. -/
def execInject (p : PierIx) (t : Nat) (c : Cwy) (r : RegionIx) (tiles : Nat) (f : Fmt) (exit : Bool) (off : Nat)
    (keep : Bool) (s : State) : Host.Outcome State Fault Refusal := .next (runInject false p t c r tiles f exit off keep s)

/-- Is this work, in flight as the check of slot `t` sees it, in the middle of a read of a tile of a region that began before that slot
(R173, R302)? A read of a single slot is over for the check of the second slot after it (R577). -/
def Work.midRead (w : Work) (failed : Bool) (r : RegionIx) (t : Nat) : Bool :=
  match w.kind with
  | .readEnd q _ => q = r && !failed && w.due = t
  | .load _ q .. => q = r && w.due - w.done < t
  | .pass x => x.d.src = .feeder && x.region = r && w.done % 64 != 0 && w.due - w.done % 64 < t
  | .inject _ _ _ q .. => q = r && w.done % 64 != 0 && w.due - w.done % 64 < t
  | .transpose q .. => q = r && w.due - w.done < t
  | .stat x => x.src = r && x.start < t
  | .statEnd x => x.src = r && x.start < t
  | .upd _ _ _ d _ _ => d.inputs.any (fun e => e.1 = r) && w.done % 32 != 0 && w.due - w.done % 32 < t
  | _ => false

/-- Does a FLIP in slot `t` wait: for a reserved slot of the producing half that has not landed, or for a read of the consuming half
that has not ended (R173, R174)? -/
def State.flipLate (s : State) (failed : Bool) (p : PierIx) (r : RegionIx) (t : Nat) : Option Late :=
  if s.rawMode p r then none
  else if !s.canFlip p r || s.flight.any (fun w => w.pier = p && w.midRead failed r t) then some (lateRegion r none)
  else none

/-- FLIP with its check; a region without halves, whose FLIP LOAD_IMAGE refuses (R169), stands (log 182). -/
def runFlip (failed : Bool) (p : PierIx) (t : Nat) (r : RegionIx) (s : State) : State :=
  s.issue failed (.flip p t r) p t (fun s => Needs.item (s.flipLate failed p r t))
    (fun s => if s.halves p r then s.addWork (newWork p t 1 (.flip r)) else s)

/-- FLIP. -/
def execFlip (p : PierIx) (t : Nat) (r : RegionIx) (s : State) : Host.Outcome State Fault Refusal :=
  .next (runFlip false p t r s)

/-- RELEASE with its check. -/
def runRelease (failed : Bool) (p : PierIx) (t : Nat) (r : RegionIx) (count : Nat) (s : State) : State :=
  s.issue failed (.release p t r count) p t (fun s => Needs.item (s.relLate p r (s.pendingRel p r t) t))
    (fun s => s.addWork (nowWork p t count (.release r)))

/-- RELEASE. -/
def execRelease (p : PierIx) (t : Nat) (r : RegionIx) (count : Nat) (s : State) : Host.Outcome State Fault Refusal :=
  .next (runRelease false p t r count s)

end Sys2Proof.Machine
end

