-- ==== Sys2Proof/Machine/Crypto.lean ====
section
/-! DEFINITION. SHA-384 and the signatures of the device: ECDSA on brainpoolP384r1 with SHA-384 (R543). -/
namespace Sys2Proof.Machine

/-- The first 80 primes. -/
def primes : List Nat := ((List.range 410).drop 2).filter (fun n => ((List.range 21).drop 2).all (fun d => n % d != 0 || n = d))

/-- The largest number whose `e`-th power does not exceed `m`, of `fuel` bits below those of `r`. -/
def rootBits (e m : Nat) : Nat → Nat → Nat
  | 0, r => r
  | fuel + 1, r => rootBits e m fuel (if (r + 2 ^ fuel) ^ e ≤ m then r + 2 ^ fuel else r)

/-- The first 64 bits of the fraction of the `e`-th root of a prime. -/
def rootWord (e n : Nat) : Word := BitVec.ofNat 64 (rootBits e (n * 2 ^ (64 * e)) 70 0)

/-- The round constants of SHA-384: the cube roots of the first 80 primes. -/
def shaK : List Word := primes.map (rootWord 3)

/-- The initial hash value of SHA-384: the square roots of the ninth to the sixteenth prime. -/
def shaInit : List Word := ((primes.drop 8).take 8).map (rootWord 2)

/-- The number that bytes spell, the first the most significant. -/
def beNat (bs : List Byte) : Nat := bs.foldl (fun n b => 256 * n + b.toNat) 0

/-- The `n` bytes of a number, the most significant first. -/
def beBytes (n v : Nat) : List Byte := (leBytes n v).reverse

/-- The exclusive or of a word rotated right by each of some amounts. -/
def rotations (w : Word) (ns : List Nat) : Word := ns.foldl (fun v n => v ^^^ w.rotateRight n) 0

/-- One round on the eight working values, `kw` its constant and its word of the message together. -/
def shaRound (v : List Word) (kw : Word) : List Word :=
  match v with
  | [a, b, c, d, e, f, g, h] =>
    let grow := h + kw + rotations e [14, 18, 41] + (g ^^^ (e &&& (f ^^^ g)))
    let turn := rotations a [28, 34, 39] + ((a ||| b) &&& c ||| (a &&& b))
    [grow + turn, a, b, c, d + grow, e, f, g]
  | _ => v

/-- The word of the message schedule that follows sixteen others, the latest of them first. -/
def shaNext (ws : List Word) : Word :=
  let w (back : Nat) : Word := ws.getD (back - 1) 0
  w 16 + w 7 + (rotations (w 15) [1, 8] ^^^ (w 15 >>> 7)) + (rotations (w 2) [19, 61] ^^^ (w 2 >>> 6))

/-- The message schedule, the latest word first: `n` words more. -/
def shaExpand : Nat → List Word → List Word
  | 0, ws => ws
  | n + 1, ws => shaExpand n (shaNext ws :: ws)

/-- The 64-bit words of a block. -/
def shaWords : Nat → List Byte → List Word
  | 0, _ => []
  | n + 1, bs => BitVec.ofNat 64 (beNat (bs.take 8)) :: shaWords n (bs.drop 8)

/-- One block of 128 bytes. -/
def shaBlock (h : List Word) (bs : List Byte) : List Word :=
  let ws := (shaExpand 64 (shaWords 16 bs).reverse).reverse
  (h.zip ((shaK.zip ws).foldl (fun v e => shaRound v (e.1 + e.2)) h)).map (fun e => e.1 + e.2)

/-- `n` blocks of a padded message. -/
def shaBlocks : Nat → List Word → List Byte → List Word
  | 0, h, _ => h
  | n + 1, h, bs => shaBlocks n (shaBlock h (bs.take 128)) (bs.drop 128)

/-- A message with the padding of SHA-384. -/
def shaPad (bs : List Byte) : List Byte :=
  bs ++ [0x80#8] ++ List.replicate ((239 - bs.length % 128) % 128) 0 ++ beBytes 16 (8 * bs.length)

/-- SHA-384 of bytes: 48 bytes. -/
def sha384 (bs : List Byte) : List Byte :=
  let m := shaPad bs
  ((shaBlocks (m.length / 128) shaInit m).take 6).flatMap (fun w => beBytes 8 w.toNat)

/-- The prime of brainpoolP384r1. -/
def curveP : Nat := 0x8CB91E82A3386D280F5D6F7E50E641DF152F7109ED5456B412B1DA197FB71123ACD3A729901D1A71874700133107EC53
/-- The coefficients of the curve y² = x³ + Ax + B. -/
def curveA : Nat := 0x7BC382C63D8C150C3C72080ACE05AFA0C2BEA28E4FB22787139165EFBA91F90F8AA5814A503AD4EB04A8C7DD22CE2826
def curveB : Nat := 0x04A8C7DD22CE28268B39B55416F0447C2FB77DE107DCD2A62E880EA53EEB62D57CB4390295DBC9943AB78696FA504C11
/-- The order of the base point. -/
def curveQ : Nat := 0x8CB91E82A3386D280F5D6F7E50E641DF152F7109ED5456B31F166E6CAC0425A7CF3AB6AF6B7FC3103B883202E9046565
/-- The base point. -/
def curveG : Option (Nat × Nat) :=
  some (0x1D1C64F068CF45FFA2A63A81B7C13F6B8847A3E77EF14FE3DB7FCAFE0CBD10E8E826E03436D646AAEF87B2E247D4AF1E,
    0x8ABE1D7520F9C2A45CB1EB8E95CFD55262B70B29FEEC5864E19C054FF99129280E4646217791811142820341263C5315)

/-- Powers modulo `m`, by the digits of the exponent to the base 64; `fuel` bounds the digits. -/
def powMod (m : Nat) : Nat → Nat → Nat → Nat
  | 0, _, _ => 1 % m
  | fuel + 1, b, e => powMod m fuel (b ^ 64 % m) (e / 64) * b ^ (e % 64) % m

/-- The inverse modulo a prime of 384 bits. -/
def invMod (m a : Nat) : Nat := powMod m 64 (a % m) (m - 2)

/-- The sum of two points; `none` is the point at infinity. -/
def ecAdd : Option (Nat × Nat) → Option (Nat × Nat) → Option (Nat × Nat)
  | none, b => b
  | a, none => a
  | some (x1, y1), some (x2, y2) =>
    if x1 = x2 && (y1 + y2) % curveP = 0 then none
    else
      let l :=
        if x1 = x2 then (3 * x1 * x1 + curveA) * invMod curveP (2 * y1) % curveP
        else (y2 + curveP - y1) * invMod curveP (x2 + curveP - x1) % curveP
      let x3 := (l * l + 2 * curveP - x1 - x2) % curveP
      some (x3, (l * (x1 + curveP - x3) + curveP - y1) % curveP)

/-- A multiple of a point; `fuel` bounds the bits of the factor. -/
def ecMul : Nat → Nat → Option (Nat × Nat) → Option (Nat × Nat)
  | 0, _, _ => none
  | fuel + 1, k, g =>
    let r := ecMul fuel (k / 2) (ecAdd g g)
    if k % 2 = 1 then ecAdd r g else r

/-- Does a point lie on the curve? -/
def onCurve (x y : Nat) : Bool :=
  x < curveP && y < curveP && y * y % curveP = (x * x * x + curveA * x + curveB) % curveP

/-- The number z of ECDSA for a message. -/
def ecHash (msg : List Byte) : Nat := beNat (sha384 msg)

/-- Does a signature of 96 bytes over a message verify under a public key of 96 bytes (R543)? -/
def ecdsaVerify (key msg sig : List Byte) : Bool :=
  let x := beNat (key.take 48)
  let y := beNat (key.drop 48)
  let r := beNat (sig.take 48)
  let s := beNat (sig.drop 48)
  if key.length != 96 || sig.length != 96 || !onCurve x y || r = 0 || curveQ ≤ r || s = 0 || curveQ ≤ s then false
  else
    let w := invMod curveQ s
    match ecAdd (ecMul 384 (ecHash msg * w % curveQ) curveG) (ecMul 384 (r * w % curveQ) (some (x, y))) with
    | none => false
    | some p => p.1 % curveQ = r

/-- The private number of a key: from 1 to q − 1. -/
def scalarOf (n : Nat) : Nat := n % (curveQ - 1) + 1

/-- The bytes of a public key (R543). -/
def keyBytes (p : Nat × Nat) : List Byte := beBytes 48 p.1 ++ beBytes 48 p.2

/-- The public key of a private number. -/
def publicKey (d : Nat) : List Byte := ((ecMul 384 d curveG).map keyBytes).getD []

/-- The signature over a message by a private number with the secret number `k`; none where r or s is 0 (R543). -/
def signWith (d k : Nat) (msg : List Byte) : Option (List Byte) :=
  match ecMul 384 k curveG with
  | none => none
  | some (x, _) =>
    let r := x % curveQ
    let s := (ecHash msg + r * d) * invMod curveQ k % curveQ
    if r = 0 || s = 0 then none else some (beBytes 48 r ++ beBytes 48 s)

/-- The signature over a message by a private number, of 96 bytes: that of the first of some secret numbers that gives one (R543). -/
def ecdsaSign (d : Nat) (ks : List Nat) (msg : List Byte) : List Byte := (ks.findSome? (fun k => signWith d k msg)).getD []

/-- The points with an abscissa. -/
def pointsAt (x : Nat) : List (Nat × Nat) :=
  let y := powMod curveP 64 ((x * x * x + curveA * x + curveB) % curveP) ((curveP + 1) / 4)
  if onCurve x y then [(x, y), (x, (curveP - y) % curveP)] else []

/-- The public keys under which a signature over a message verifies: those that each point of abscissa r gives. -/
def keysOf (msg sig : List Byte) : List (List Byte) :=
  let r := beNat (sig.take 48)
  let s := beNat (sig.drop 48)
  if sig.length != 96 || r = 0 || curveQ ≤ r || s = 0 || curveQ ≤ s then []
  else
    let w := invMod curveQ r
    let z := ecHash msg % curveQ
    ([r, r + curveQ].flatMap pointsAt).filterMap (fun p =>
      (ecAdd (ecMul 384 (s * w % curveQ) (some p)) (ecMul 384 ((curveQ - z) * w % curveQ) curveG)).map keyBytes)

/-- Does a signature over a message verify under the key whose SHA-384 is `hash` (R552: the image carries no key of its own;
log 20)? -/
def verifiesFor (hash msg sig : List Byte) : Bool := (keysOf msg sig).any (fun k => sha384 k = hash && ecdsaVerify k msg sig)

end Sys2Proof.Machine
end

