-- ==== Sys2Proof/Machine/Layout.lean ====
section
/-! DEFINITION. The segment layout of a binding (R115, R116, R118) and the fields of image words: which values a descriptor
may hold (R287, R576). -/
namespace Sys2Proof.Machine

/-- Bits `[lo + n - 1 : lo]` of a number. -/
def bits (w lo n : Nat) : Nat := w / 2 ^ lo % 2 ^ n

/-- SEG_COUNT of a VIADUCT_LAYOUT value (R137). -/
def segCount (lw : Nat) : Nat := bits lw 0 4

/-- The arches of segment `k` (R137). -/
def segSize (lw k : Nat) : Nat := 64 * 2 ^ bits lw (8 + 2 * k) 2

/-- The arches of the segments before segment `k`: its offset from the start of segment 0. -/
def segOffset (lw k : Nat) : Nat := ((List.range k).map (segSize lw)).foldl (· + ·) 0

/-- The first logical pier of segment `k` of a binding of `n` piers (R115). -/
def segFirst (lw n k : Nat) : Nat := (16 * bits lw 4 3 + segOffset lw k / 4) % n

/-- The segment in which logical pier `l` of a binding of `n` piers lies, if any. -/
def segOfPier (lw n l : Nat) : Option Nat :=
  (List.range (segCount lw)).find? (fun k => (l + n - segFirst lw n k) % n < segSize lw k / 4)

/-- The place of a logical pier in its segment, from the first logical pier on. -/
def segPlaceOf (lw n k l : Nat) : Nat := (l + n - segFirst lw n k) % n

/-- TILES of an INJECT: its limit by the size of the segment in arches (R122). -/
def tilesLimit (size : Nat) : Nat := (65472 - size) / 64

/-- NEXT and PREV of segment `k` in a VIADUCT_EXT value; 15 names no port (R138). -/
def extNext (ew k : Nat) : Nat := bits ew (8 * k) 4
def extPrev (ew k : Nat) : Nat := bits ew (8 * k + 4) 4

/-- A field of an image word with its range: bits `[lo + width - 1 : lo]`, from `min` to `max`, a multiple of `step`. -/
structure Span where
  lo : Nat
  width : Nat
  min : Nat
  max : Nat
  step : Nat
deriving DecidableEq, Repr

/-- Does a word hold a value of the field's range? -/
def Span.ok (f : Span) (w : Nat) : Bool :=
  let v := bits w f.lo f.width
  f.min ≤ v && v ≤ f.max && v % f.step = 0

/-- The byte of the first field out of range, or of the first reserved bit that is not zero, among bits `from_` to
`stop - 1` of a word. -/
def firstBad (fs : List Span) (from_ stop w : Nat) : Option Nat :=
  ((List.range stop).find? (fun b => from_ ≤ b && (match fs.find? (fun f => f.lo = b) with
    | some f => !f.ok w
    | none => !fs.any (fun f => f.lo < b && b < f.lo + f.width) && w.testBit b))).map (· / 8)

/-- The same for a register's word, by its field map; the fields of `skip` may hold anything. -/
def firstBadReg (r : RegName) (skip : List Fld) (w : Nat) : Option Nat :=
  let fs := (regFields r).map (fun f =>
    match f.legal with
    | [(a, b)] => if skip.contains f then Span.mk f.lo f.width 0 (2 ^ f.width - 1) 1 else Span.mk f.lo f.width a b 1
    | _ => Span.mk f.lo f.width 0 (2 ^ f.width - 1) 1)
  firstBad fs 0 64 w

/-- A pass descriptor word (R96). -/
def passSpans : List Span :=
  [⟨0, 2, 0, 1, 1⟩, ⟨2, 2, 0, 2, 1⟩, ⟨4, 2, 0, 3, 1⟩, ⟨8, 16, 0, 65472, 64⟩, ⟨24, 3, 0, 4, 1⟩, ⟨28, 10, 1, 1023, 1⟩,
   ⟨38, 8, 2, 12, 1⟩, ⟨46, 16, 0, 65472, 64⟩]

/-- A drain descriptor word (R62). -/
def drainSpans : List Span :=
  [⟨0, 8, 1, 12, 1⟩, ⟨8, 2, 0, 1, 1⟩, ⟨10, 1, 0, 1, 1⟩, ⟨11, 1, 0, 1, 1⟩, ⟨12, 1, 0, 1, 1⟩, ⟨13, 6, 0, 63, 1⟩]

/-- A configuration record (R290), but for ARB. -/
def recordSpans : List Span :=
  [⟨0, 16, 0, 4095, 1⟩, ⟨16, 16, 0, 4095, 1⟩, ⟨32, 16, 0, 4095, 1⟩, ⟨48, 4, 0, 15, 1⟩, ⟨56, 8, 0, 3, 1⟩,
   ⟨64, 64, 0, 2 ^ 64, 1⟩, ⟨128, 16, 0, 255, 1⟩]

/-- An entry of the object table (R291). -/
def objectSpans : List Span :=
  [⟨0, 22, 0, 4194303, 1⟩, ⟨22, 1, 0, 1, 1⟩, ⟨23, 1, 0, 1, 1⟩, ⟨24, 1, 0, 1, 1⟩, ⟨25, 1, 0, 1, 1⟩]

/-- A token table (R323). -/
def tokenSpans : List Span := [⟨0, 16, 200, 1600, 1⟩, ⟨16, 16, 16, 4096, 1⟩]

/-- An update descriptor (R340). -/
def updSpans : List Span :=
  [⟨0, 1, 0, 1, 1⟩, ⟨1, 1, 0, 1, 1⟩, ⟨2, 1, 0, 1, 1⟩, ⟨3, 1, 0, 1, 1⟩, ⟨4, 1, 0, 1, 1⟩, ⟨5, 1, 0, 1, 1⟩, ⟨6, 1, 0, 1, 1⟩,
   ⟨8, 3, 0, 7, 1⟩, ⟨11, 1, 0, 1, 1⟩, ⟨12, 1, 0, 1, 1⟩, ⟨16, 6, 0, 63, 1⟩, ⟨22, 6, 0, 63, 1⟩, ⟨28, 6, 0, 63, 1⟩,
   ⟨34, 6, 0, 63, 1⟩, ⟨40, 6, 0, 63, 1⟩, ⟨46, 6, 0, 63, 1⟩, ⟨52, 6, 0, 63, 1⟩, ⟨64, 22, 0, 4194303, 1⟩]

/-- A schedule record (R349); its FP32 fields are non-negative and finite, and none is −0. -/
def schedSpans : List Span :=
  [⟨0, 32, 0, 0x7F7FFFFF, 1⟩, ⟨32, 32, 0, 0x7F7FFFFF, 1⟩, ⟨64, 32, 0, 0x3F7FFFFF, 1⟩, ⟨96, 32, 0, 0x3F7FFFFF, 1⟩,
   ⟨128, 32, 0, 0x3F800000, 1⟩, ⟨160, 32, 1, 0x3F800000, 1⟩, ⟨192, 32, 0, 2 ^ 32, 1⟩, ⟨224, 32, 0, 2 ^ 31, 1⟩,
   ⟨256, 32, 1, 2 ^ 31, 1⟩, ⟨288, 32, 1, 2 ^ 31, 1⟩, ⟨320, 8, 0, 1, 1⟩, ⟨328, 8, 0, 4, 1⟩, ⟨336, 8, 0, 1, 1⟩,
   ⟨344, 8, 1, 8, 1⟩]

/-- A stream record of the generator (R357). -/
def rngSpans : List Span := [⟨0, 64, 0, 2 ^ 64, 1⟩, ⟨64, 8, 0, 63, 1⟩]

/-- A stage entry (R364). -/
def stageSpans : List Span :=
  [⟨0, 8, 0, 15, 1⟩, ⟨8, 8, 1, 4, 1⟩, ⟨16, 16, 0, 127, 1⟩] ++
  (List.range 4).flatMap (fun s => [⟨64 + 128 * s, 64, 0, 2 ^ 64, 1⟩, ⟨128 + 128 * s, 16, 0, 65535, 1⟩,
    ⟨144 + 128 * s, 8, 0, 255, 1⟩, ⟨160 + 128 * s, 16, 0, 65535, 1⟩])

/-- The header (R287); DECK_SLOTS is also at most the deck store's slots (R159). -/
def headerSpans : List Span :=
  [⟨0, 32, 0x39495447, 0x39495447, 1⟩, ⟨32, 16, 1, 1, 1⟩, ⟨48, 16, 0, 0, 1⟩, ⟨64, 3, 0, 7, 1⟩, ⟨96, 16, 1, 1024, 1⟩,
   ⟨112, 16, 2, 64, 1⟩, ⟨128, 32, 0, 4194304, 1⟩, ⟨160, 16, 1, 1024, 1⟩, ⟨192, 32, 1000, 2600, 1⟩]

/-- The head of a binding entry (R292, R137): VIADUCT_LAYOUT, VIADUCT_EXT and the reserved bytes. -/
def bindingSpans : List Span :=
  [⟨0, 4, 0, 8, 1⟩, ⟨4, 3, 0, 7, 1⟩, ⟨8, 16, 0, 65535, 1⟩, ⟨32, 8, 1, 128, 1⟩, ⟨64, 64, 0, 2 ^ 64, 1⟩]

/-- The operand fields of an instruction by sub-slot (0 arch, 1 vector, 2 memory, 3 control) and opcode (R150, R155, R296,
R297, R324, R342, R362); none for an opcode that the sub-slot does not hold. VTRANS may name any format, and one that the vector unit does
not read faults at the read (R149, R158); the KEEP bit of VSTAT, which always keeps (R171), is free (DESIGN CHOICE, log 50). -/
def opSpans : Nat → Nat → Option (List Span)
  | 0, 0x01 => some [⟨8, 6, 0, 63, 1⟩, ⟨14, 7, 0, 127, 1⟩, ⟨21, 1, 0, 1, 1⟩, ⟨22, 8, 2, 12, 1⟩]
  | 0, 0x02 => some [⟨8, 16, 0, 65535, 1⟩, ⟨24, 6, 0, 63, 1⟩, ⟨30, 7, 0, 127, 1⟩, ⟨37, 1, 0, 1, 1⟩]
  | 0, 0x03 => some [⟨8, 8, 0, 255, 1⟩, ⟨16, 16, 0, 65535, 1⟩, ⟨32, 3, 0, 4, 1⟩, ⟨35, 1, 0, 1, 1⟩, ⟨36, 6, 0, 63, 1⟩]
  | 0, 0x04 => some [⟨8, 16, 0, 65535, 64⟩, ⟨24, 17, 64, 65536, 64⟩]
  | 1, 0x10 => some (vd ++ mask ++ region ++ part ++ keep ++ fmt)
  | 1, 0x11 => some ([⟨14, 6, 0, 63, 1⟩] ++ mask ++ region ++ part ++ keep ++ fmt)
  | 1, 0x12 => some (vd ++ vab ++ [⟨26, 6, 0, 63, 1⟩] ++ mask ++ [⟨50, 6, 0, 5, 1⟩])
  | 1, 0x13 => some ([⟨8, 6, 0, 7, 1⟩] ++ vab ++ mask ++ [⟨50, 6, 0, 2, 1⟩])
  | 1, 0x14 => some (vd ++ vab ++ [⟨32, 3, 0, 7, 1⟩])
  | 1, 0x15 => some (vd ++ [⟨14, 6, 0, 63, 1⟩] ++ mask ++ [⟨50, 6, 0, 4, 1⟩])
  | 1, 0x16 => some (vd ++ [⟨14, 6, 0, 63, 1⟩] ++ mask ++ [⟨50, 6, 0, 1, 1⟩])
  | 1, 0x17 => some (vd ++ region ++ [⟨42, 7, 0, 127, 1⟩] ++ keep ++ [⟨56, 8, 1, 12, 1⟩])
  | 1, 0x18 => some (vd ++ [⟨14, 6, 0, 63, 1⟩] ++ region ++ keep ++ [⟨42, 7, 0, 127, 1⟩, ⟨50, 6, 0, 3, 1⟩, ⟨56, 8, 0, 63, 1⟩])
  | 1, 0x19 => some (vd ++ vab ++ region ++ [⟨42, 7, 0, 7, 1⟩, ⟨50, 6, 0, 1, 1⟩, ⟨56, 8, 1, 127, 1⟩])
  | 1, 0x1A => some vd
  | 1, 0x1B => some (vd ++ [⟨50, 6, 0, 3, 1⟩, ⟨56, 8, 0, 63, 1⟩])
  | 1, 0x1C => some (vd ++ [⟨14, 34, 0, 2 ^ 34, 1⟩] ++ fmt)
  | 1, 0x20 => some [⟨8, 10, 0, 1023, 1⟩, ⟨18, 10, 1, 1023, 1⟩]
  | 1, 0x21 => some (vd ++ [⟨14, 3, 0, 7, 1⟩, ⟨17, 4, 0, 9, 1⟩])
  | 2, 0x30 => some [⟨8, 1, 0, 1, 1⟩, ⟨9, 6, 0, 63, 1⟩, ⟨15, 10, 1, 1023, 1⟩, ⟨25, 8, 2, 12, 1⟩, ⟨33, 1, 0, 1, 1⟩,
      ⟨34, 7, 0, 127, 1⟩, ⟨41, 1, 0, 1, 1⟩]
  | 2, 0x31 => some [⟨8, 6, 0, 63, 1⟩]
  | 2, 0x32 => some [⟨8, 6, 0, 63, 1⟩, ⟨14, 11, 1, 1024, 1⟩]
  | 2, 0x33 => some [⟨8, 4, 0, 15, 1⟩]
  | 2, 0x34 => some [⟨8, 3, 0, 7, 1⟩]
  | 2, 0x35 => some [⟨8, 3, 0, 7, 1⟩]
  | 3, 0x40 => some [⟨8, 16, 0, 65535, 1⟩]
  | 3, 0x41 => some [⟨8, 8, 0, 255, 1⟩, ⟨16, 1, 0, 1, 1⟩]
  | 3, 0x42 => some [⟨8, 8, 1, 208, 1⟩]
  | 3, 0x43 => some [⟨8, 8, 0, 208, 1⟩, ⟨16, 1, 0, 1, 1⟩]
  | 3, 0x44 => some [⟨8, 16, 0, 65535, 1⟩, ⟨24, 24, 0, 2 ^ 24, 1⟩]
  | 3, 0x45 => some []
  | _, _ => none
where
  /-- VD. -/
  vd : List Span := [⟨8, 6, 0, 63, 1⟩]
  /-- VA and VB. -/
  vab : List Span := [⟨14, 6, 0, 63, 1⟩, ⟨20, 6, 0, 63, 1⟩]
  /-- MSK and MEN. -/
  mask : List Span := [⟨32, 3, 0, 7, 1⟩, ⟨35, 1, 0, 1, 1⟩]
  /-- REGION. -/
  region : List Span := [⟨36, 6, 0, 63, 1⟩]
  /-- The part of a VLD or VST. -/
  part : List Span := [⟨42, 7, 0, 31, 1⟩]
  /-- KEEP. -/
  keep : List Span := [⟨49, 1, 0, 1, 1⟩]
  /-- The format tag of a vector instruction: FP32, BF16 or FP16. -/
  fmt : List Span := [⟨56, 8, 1, 3, 1⟩]

end Sys2Proof.Machine
end

