-- ==== Sys2Proof/Machine/LoadCheck.lean ====
section
/-! DEFINITION. What LOAD_IMAGE checks in an image without running it (R287-R298 and the rules they name): its header and
tables, its descriptors, and every bundle. A refusal names the section type (0 for the header) and the byte offset of the
first refused field; which of several is the first is the model's choice (log 21). -/
namespace Sys2Proof.Machine

/-- A refusal: section type and byte offset. -/
abbrev Refused := Option (Nat × Nat)

/-- The first refusal of a list of places. -/
def firstRefused {α : Type} (f : α → Refused) (xs : List α) : Refused := xs.findSome? f

/-- Does the image's signature verify against its program slot (R552)? KEY_STATUS holds two bits a slot, PG0 from bit 4
(R561); 1 is enrolled. -/
def State.imageSigned (s : State) : Bool :=
  let o := s.sigSection.offset
  let k := s.img o 1
  (s.section 15).isSome && o + 112 ≤ (s.object s.imageObject).size && k ≤ 1 &&
    bits (s.fld Fld.KEY_STATUS_SLOTS 0) (4 + 2 * k) 2 = 1 &&
    verifiesFor (s.programKeys.look (fun _ => []) k) (s.objBytes s.imageObject 0 (o + 16))
      (s.objBytes s.imageObject (o + 16) 96)

/-- The header (R287). -/
def State.headerBad (s : State) : Refused := (firstBad headerSpans 0 512 (s.img 0 64)).map (fun b => (0, b))

/-- The most entries that a section may hold (R288, R323, R340, R349, R357, R364), and the fewest. -/
def sectionLimits : Nat → Nat × Nat
  | 2 => (0, 2 ^ 24 - 1)
  | 3 => (0, 65535)
  | 4 => (0, 65536)
  | 5 => (0, 256)
  | 9 => (0, 65536)
  | 10 => (0, 256)
  | 11 => (1, 1024)
  | 12 => (1, 8)
  | 13 => (1, 64)
  | 14 => (0, 128)
  | _ => (0, 4096)

/-- The section table (R287, R288, R552). -/
def State.tableBad (s : State) : Refused :=
  let n := s.img 14 2
  let sig := s.sigSection
  firstRefused (fun k =>
    let x := s.sectionAt k
    let at_ := 64 + 16 * k
    if x.type = 0 || 16 ≤ x.type || (x.type = 15) != (k + 1 = n) ||
        (List.range k).any (fun j => (s.sectionAt j).type = x.type) then some (0, at_)
    else if x.rsv != 0 then some (0, at_ + 2)
    else if x.type != 15 && sig.offset < x.offset + x.length then some (0, at_ + 8)
    else if x.type = 15 then (if x.length != 112 then some (0, at_ + 4) else none)
    else if x.type != 1 && (x.length % entrySize x.type != 0 || x.length / entrySize x.type < (sectionLimits x.type).1 ||
        (sectionLimits x.type).2 < x.length / entrySize x.type) then some (x.type, x.offset)
    else none) (List.range n) <|>
  ((List.range 15).find? (fun i => s.img (sig.offset + 1 + i) 1 != 0)).map (fun i => (15, sig.offset + 1 + i))

/-- Where the entries of a section lie: their offsets. -/
def State.places (s : State) (ty : Nat) : List Nat :=
  match s.section ty with
  | some x => (List.range (x.length / entrySize ty)).map (fun i => x.offset + entrySize ty * i)
  | none => []

/-- The fields of every entry of a section of fixed fields. -/
def State.spansBad (s : State) (ty : Nat) (fs : List Span) : Refused :=
  firstRefused (fun o => (firstBad fs 0 (8 * entrySize ty) (s.img o (entrySize ty))).map (fun b => (ty, o + b))) (s.places ty)

/-- Does section 13 hold a record of a stream (R357)? -/
def State.hasStream (s : State) (n : Nat) : Bool := (s.places 13).any (fun o => s.img (o + 8) 1 = n)

/-- Two records of section 13 that name the same stream (R357). -/
def State.streamsBad (s : State) : Refused :=
  firstRefused (fun i => if (List.range i).any (fun j => s.entryAt 13 j 8 1 = s.entryAt 13 i 8 1) then
    some (13, (s.places 13).getD i 0 + 8) else none) (List.range (s.places 13).length)

/-- LR_MIN ≤ LR_PEAK in every schedule record (R349). -/
def State.schedBad (s : State) : Refused :=
  firstRefused (fun o => if s.img o 4 < s.img (o + 4) 4 then some (12, o + 4) else none) (s.places 12)

/-- The regions that an update descriptor uses (R340, R341), with whether the engine writes them. -/
def updRegions (w : Nat) : List (Nat × Bool) :=
  [(bits w 16 6, false), (bits w 22 6, true), (bits w 28 6, false)] ++
  (if w.testBit 1 then [(bits w 34 6, false), (bits w 40 6, true)] else []) ++
  (if w.testBit 2 then [(bits w 46 6, false)] else []) ++
  (if w.testBit 3 then [(bits w 52 6, true)] else [])

/-- Is a list without repetitions? -/
def distinct : List Nat → Bool
  | [] => true
  | x :: t => !t.contains x && distinct t

/-- Update descriptors with VALID = 1 (R341, R145). -/
def State.updsBad (s : State) : Refused :=
  firstRefused (fun o =>
    let w := s.img o 8
    let object := bits (s.img (o + 8) 8) 0 22
    let es := ((s.places 9).map (fun p => s.img p 8)).filter (fun e => bits e 0 22 = object)
    if !w.testBit 0 then none
    else if !distinct ((updRegions w).map Prod.fst) then some (11, o + 2)
    else if s.entries 12 ≤ bits w 8 3 then some (11, o + 1)
    else if es.any (fun e => e.testBit 24) || !es.any (fun e => e.testBit 22 && e.testBit 23) then some (11, o + 8)
    else none) (s.places 11)

/-- Elements per grid cell of a streaming format by its tag (R77). -/
def perCellOf (tag : Nat) : Nat := ((fmtOfTag tag).map Fmt.perCell).getD 1

/-- Pass descriptors: SEL within the shape and class (R81), PITCH not below W (R82, R85). -/
def State.passesBad (s : State) : Refused :=
  firstRefused (fun o =>
    let w := s.img o 8
    let k := perCellOf (bits w 38 8)
    let col := w.testBit 0
    if (if col then k else 1) ≤ bits w 4 2 then some (4, o)
    else if 64 * 2 ^ bits w 24 3 < (if col then 64 * k else 64) then some (4, o + 3)
    else none) (s.places 4)

/-- Drain descriptors: ORIENT 0 for unscaled output (R62), and a stream that has a record (R357). -/
def State.drainsBad (s : State) : Refused :=
  firstRefused (fun o =>
    let w := s.img o 8
    if w.testBit 11 && !((fmtOfTag (bits w 0 8)).map Fmt.scaled).getD false then some (5, o + 1)
    else if w.testBit 8 && !w.testBit 12 && !s.hasStream (bits w 13 6) then some (5, o + 1)
    else none) (s.places 5)

/-- The fields of a region descriptor word that the checks read. -/
structure RegionWord where
  valid : Bool
  halves : Bool
  scale : Bool
  scaleEn : Bool
  base : Nat
  size : Nat
  companion : Nat
deriving DecidableEq, Repr

/-- A region descriptor (R185). -/
def regionWord (w : Nat) : RegionWord :=
  ⟨w.testBit 0, w.testBit 2, w.testBit 3, w.testBit 4, bits w 8 12, bits w 20 12, bits w 32 6⟩

/-- A region set: ranges (R185), and the rules of R169 on valid regions. `d` reads descriptor `r`. -/
def regionSetBad (d : Nat → Nat) (slots at_ : Nat) : Refused :=
  firstRefused (fun r =>
    let w := d r
    let x := regionWord w
    let o := at_ + 8 * r
    match firstBadReg .regionDesc [] w with
    | some b => some (6, o + b)
    | none =>
      if slots ≤ x.base then some (6, o + 1)
      else if x.size = 0 || slots < x.size then some (6, o + 2)
      else if !x.valid then none
      else if slots < x.base + x.size then some (6, o + 2)
      else if x.halves && x.size % 2 = 1 then some (6, o)
      else if (List.range r).any (fun q =>
          let y := regionWord (d q)
          y.valid && y.base < x.base + x.size && x.base < y.base + y.size) then some (6, o + 1)
      else if x.scaleEn then
        let c := regionWord (d x.companion)
        if !c.valid || !c.scale || c.size < (x.size + 7) / 8 || (List.range 64).any (fun q =>
            q != r && (regionWord (d q)).valid && (regionWord (d q)).scaleEn && (regionWord (d q)).companion = x.companion)
          then some (6, o + 4)
        else none
      else none) (List.range 64)

/-- The slots of a deck store (R159). -/
def State.deckSlots (s : State) : Nat := s.fld Fld.DECK_GEOMETRY_SLOTS 0

/-- Word `w` of entry `i` of a section, as a number. -/
def State.entryNat (s : State) (ty i w : Nat) : Nat := s.entryAt ty i (8 * w) 8

/-- Every region set. -/
def State.regionSetsBad (s : State) : Refused :=
  firstRefused (fun i => regionSetBad (fun r => s.entryNat 6 i r) s.deckSlots ((s.places 6).getD i 0))
    (List.range (s.places 6).length)

/-- Offsets and bounds of a valid stream or copy descriptor (R193, R194, R273); `w` reads its words. -/
def boundsBad (w : Nat → Nat) (at_ : Nat) : Option Nat :=
  let hi40 (k : Nat) : Nat := bits (w k) 24 40
  if hi40 1 % 128 != 0 then some (at_ + 11)
  else if hi40 5 % 128 != 0 then some (at_ + 43)
  else if hi40 6 % 128 != 0 || hi40 6 ≤ hi40 5 then some (at_ + 51)
  else if hi40 7 % 256 != 0 then some (at_ + 59)
  else if hi40 4 % 1024 != 0 then some (at_ + 35)
  else none

/-- Is a descriptor that names SIDE_MODE = 0 one of SSF4 (R193)? -/
def sideBad (w0 : Nat) : Bool := !w0.testBit 4 && bits w0 28 8 = 12

/-- The members of a gang must hold its descriptor apart from GANG_POS (R188): is stream `n` a member of a complete gang?
`w n k` is word k of stream n. -/
def gangOk (w : Nat → Nat → Nat) (n : Nat) : Bool :=
  let pos := bits (w n 0) 20 3
  let g := bits (w n 0) 23 4
  let f := n - pos
  pos < g && pos ≤ n && f + g ≤ 16 &&
    (List.range g).all (fun j =>
      w (f + j) 0 = w n 0 - pos * 2 ^ 20 + j * 2 ^ 20 && (List.range 7).all (fun k => w (f + j) (k + 1) = w n (k + 1)))

/-- A stream set (R188, R193, R194, R216). -/
def streamSetBad (w : Nat → Nat → Nat) (at_ : Nat) : Refused :=
  firstRefused (fun n =>
    let o := at_ + 64 * n
    match (streamRegs.zipIdx.findSome? (fun e => (firstBadReg e.1 [] (w n e.2)).map (fun b => o + 8 * e.2 + b))) with
    | some b => some (7, b)
    | none =>
      if !(w n 0).testBit 0 then none
      else
        match boundsBad (w n) o with
        | some b => some (7, b)
        | none =>
          if sideBad (w n 0) || !gangOk w n then some (7, o)
          else if bits (w n 0) 20 3 = 0 && (List.range n).any (fun m => (w m 0).testBit 0 && bits (w m 0) 20 3 = 0 &&
              bits (w m 0) 8 6 = bits (w n 0) 8 6) then some (7, o + 1)
          else none) (List.range 16)

/-- Every stream set. -/
def State.streamSetsBad (s : State) : Refused :=
  firstRefused (fun i => streamSetBad (fun n k => s.entryNat 7 i (8 * n + k)) ((s.places 7).getD i 0))
    (List.range (s.places 7).length)

/-- The fields that a copy descriptor ignores (R273). -/
def copyIgnored : List Fld :=
  [Fld.COPY_DESC0_DEPTH, Fld.COPY_DESC0_GANG, Fld.COPY_DESC0_GANG_POS, Fld.COPY_DESC0_AUTO, Fld.COPY_DESC0_STALE_MODE]

/-- A copy set (R273, R194). -/
def copySetBad (w : Nat → Nat → Nat) (at_ : Nat) : Refused :=
  firstRefused (fun n =>
    let o := at_ + 64 * n
    match (copyRegs.zipIdx.findSome? (fun e => (firstBadReg e.1 copyIgnored (w n e.2)).map (fun b => o + 8 * e.2 + b))) with
    | some b => some (8, b)
    | none =>
      if !(w n 0).testBit 0 then none
      else
        match boundsBad (w n) o with
        | some b => some (8, b)
        | none => if !(w n 0).testBit 6 && sideBad (w n 0) then some (8, o) else none) (List.range 8)

/-- Every copy set. -/
def State.copySetsBad (s : State) : Refused :=
  firstRefused (fun i => copySetBad (fun n k => s.entryNat 8 i (8 * n + k)) ((s.places 8).getD i 0))
    (List.range (s.places 8).length)

/-- Configuration records (R290): ARB's fields, and sets and tables that the image holds. -/
def State.recordsBad (s : State) : Refused :=
  firstRefused (fun o =>
    match firstBadReg .deckArbCfg [] (s.img (o + 8) 8) with
    | some b => some (3, o + 8 + b)
    | none =>
      if s.entries 6 ≤ s.img o 2 then some (3, o)
      else if s.entries 7 ≤ s.img (o + 2) 2 then some (3, o + 2)
      else if s.entries 8 ≤ s.img (o + 4) 2 then some (3, o + 4)
      else if s.entries 10 ≤ s.img (o + 16) 2 then some (3, o + 16)
      else none) (s.places 3)

/-- The masks of stage `k` of a stage entry: regions, streams, copy descriptors (R364). -/
def State.stageMasks (s : State) (o k : Nat) : Nat × Nat × Nat :=
  (s.img (o + 8 + 16 * k) 8, s.img (o + 16 + 16 * k) 2, s.img (o + 18 + 16 * k) 1)

/-- Stage entries (R364, R365): stages at or above NSTAGES are zero, and no two stages own the same thing. -/
def State.stagesBad (s : State) : Refused :=
  firstRefused (fun o =>
    let n := s.img (o + 1) 1
    firstRefused (fun k =>
      let m := s.stageMasks o k
      if n ≤ k then (if s.img (o + 8 + 16 * k) 16 != 0 then some (14, o + 8 + 16 * k) else none)
      else if (List.range k).any (fun j =>
          let q := s.stageMasks o j
          m.1 &&& q.1 != 0 || m.2.1 &&& q.2.1 != 0 || m.2.2 &&& q.2.2 != 0) then some (14, o + 8 + 16 * k)
      else none) (List.range 4)) (s.places 14)

/-- The binding section (R288, R292): heads, pier entries, and at most 16 of them that fill it. -/
def State.bindingsBad (s : State) : Refused :=
  match s.section 1 with
  | none => none
  | some x =>
    let os := s.bindings
    let stop := x.offset + x.length
    firstRefused (fun o =>
      let lw := s.img o 8
      let ew := s.img (o + 8) 8
      let n := bits lw 32 8
      match firstBad bindingSpans 0 192 (s.img o 24) with
      | some b => some (1, o + b)
      | none =>
        if bits lw 8 16 / 2 ^ (2 * segCount lw) != 0 then some (1, o + 1)
        else
          match (List.range 16).find? (fun k => 12 ≤ bits ew (4 * k) 4 && bits ew (4 * k) 4 ≤ 14) with
          | some k => some (1, o + 8 + k / 2)
          | none =>
            if stop < o + 24 + 16 * n then some (1, o)
            else firstRefused (fun l =>
              let e := s.pierEntry o l
              let a := o + 24 + 16 * l
              if e.length = 0 || s.entries 2 < e.program + e.length then some (1, a)
              else if s.entries 3 ≤ e.config0 then some (1, a + 8)
              else if e.rsv != 0 then some (1, a + 13)
              else none) (List.range n)) os <|>
    (if 16 < os.length then some (1, os.getD 16 x.offset)
      else
        match os.getLast? with
        | some o => if o + 24 + 16 * s.bindingN o = stop then none else some (1, o)
        | none => if x.length = 0 then none else some (1, x.offset))

/-- The sub-slot of a word of a bundle: 0 arch, 1 vector, 2 memory, 3 control (R295). -/
def subSlot (w : Nat) : Nat := if w ≤ 4 then 0 else w - 4

/-- Where bundle `i` lies. -/
def State.bundleAt (s : State) (i : Nat) : Nat := ((s.section 2).map Section.offset).getD 0 + 64 * i

/-- The operand rules of one instruction that do not depend on a configuration record. -/
def State.opBad (s : State) (sub w : Nat) : Bool :=
  let keepBad := !w.testBit 21 && bits w 14 7 != 0
  match sub, bits w 0 8 with
  | 0, 0x01 => keepBad
  | 0, 0x02 =>
    let d := bits w 8 16
    s.entries 4 ≤ d || (if bits (s.entryNat 4 d 0) 2 2 = 0 then !w.testBit 37 && bits w 30 7 != 0
      else bits w 24 6 != 0 || bits w 30 7 != 0 || w.testBit 37)
  | 0, 0x03 =>
    let d := bits w 8 8
    s.entries 5 ≤ d || 64 * 2 ^ bits w 32 3 < ((fmtOfTag (bits (s.entryNat 5 d 0) 0 8)).map Fmt.cols).getD 0
  | 1, 0x10 => bits w 56 8 = 1 && 16 ≤ bits w 42 7
  | 1, 0x11 => bits w 56 8 = 1 && 16 ≤ bits w 42 7
  | 1, 0x12 => bits w 50 6 != 3 && bits w 26 6 != 0
  | 1, 0x17 => !w.testBit 49 && bits w 42 7 != 0
  | 1, 0x18 => bits w 50 6 % 2 = 1 && bits w 14 6 != 0
  | 1, 0x19 => bits w 50 6 = 1 && (bits w 14 6 != 0 || bits w 20 6 != 0)
  | 1, 0x1B => (bits w 50 6 % 2 = 1 && bits w 8 6 = 63) || (bits w 50 6 < 2 && !s.hasStream (bits w 56 8))
  | 1, 0x1C => s.sigSection.offset < 64 * bits w 14 34 + (if bits w 56 8 = 1 then 512 else 256)
  | 1, 0x20 =>
    let d := bits w 8 10
    let u := s.entryNat 11 d 0
    s.entries 11 ≤ d || !u.testBit 0 ||
      (bits w 18 10 % 2 = 1 && (u.testBit 5 || (u.testBit 1 && u.testBit 4) || u.testBit 3))
  | 1, 0x21 => s.entries 12 ≤ bits w 14 3
  | 2, 0x30 => !w.testBit 41 && bits w 34 7 != 0
  | 3, 0x40 => bits w 8 16 != 0xFFFF && s.entries 3 ≤ bits w 8 16
  | 3, 0x43 => (w.testBit 16 = (bits w 8 8 != 0))
  | _, _ => false

/-- One word of a bundle (R295, R296, R297). -/
def State.wordBad (s : State) (o w : Nat) : Refused :=
  let v := s.img (o + 8 * w) 8
  let sub := subSlot w
  if w = 0 then (firstBad [⟨0, 16, 0, 65535, 1⟩] 0 64 v).map (fun b => (2, o + b))
  else if bits v 0 8 = 0 then (if v = 0 then none else some (2, o + 8 * w))
  else
    match opSpans sub (bits v 0 8) with
    | none => some (2, o + 8 * w)
    | some fs =>
      match firstBad fs 8 64 v with
      | some b => some (2, o + 8 * w + b)
      | none => if s.opBad sub v then some (2, o + 8 * w + 1) else none

/-- Every bundle. -/
def State.bundlesBad (s : State) : Refused :=
  firstRefused (fun o => firstRefused (fun w => s.wordBad o w) (List.range 8)) (s.places 2)

/-- The checks of the image's tables, in the model's order (log 21). -/
def State.tablesBad (s : State) : Refused :=
  s.headerBad <|> s.tableBad <|> s.spansBad 13 rngSpans <|> s.streamsBad <|> s.spansBad 12 schedSpans <|> s.schedBad <|>
  s.spansBad 9 objectSpans <|> s.spansBad 10 tokenSpans <|> s.spansBad 11 updSpans <|> s.updsBad <|>
  s.spansBad 4 passSpans <|> s.passesBad <|> s.spansBad 5 drainSpans <|> s.drainsBad <|> s.regionSetsBad <|>
  s.streamSetsBad <|> s.copySetsBad <|> s.spansBad 3 recordSpans <|> s.recordsBad <|> s.spansBad 14 stageSpans <|>
  s.stagesBad <|> s.bindingsBad <|> s.bundlesBad

end Sys2Proof.Machine
end

