-- ==== Sys2Proof/Machine/LoadWalk.lean ====
section
/-! DEFINITION. What LOAD_IMAGE checks by following the pier programs of every binding slot by slot, with loops unrolled
(R294, R298, R325), and the rules that relate a program to the configuration records in force. -/
namespace Sys2Proof.Machine

/-- An arch state of a pier program: its arch, last slot and cost in tokens (R320). -/
structure Busy where
  arch : Nat
  stop : Nat
  cost : Nat
deriving DecidableEq, Repr

/-- What has been found of a pier program up to a slot. -/
structure Scan where
  slot : Nat
  pc : Nat
  loops : List (Nat × Nat × Nat)
  record : Nat
  stage : Nat
  mark : Nat
  joints : List Nat
  barriers : List (Nat × Nat × Nat)
  records : List (Nat × Nat)
  held : Nat
  busy : List Busy
  caps : List (Nat × Nat)
  lastSfu : Option Nat
  lastTrans : Option Nat
  statcEnd : Nat
  building : List (Nat × Nat)
  stats : List (Nat × Nat)
  updEnd : Nat
  uses : NMap Nat
  reads : List (Nat × Nat)
  produced : List (Nat × Nat)
  injects : List (Nat × Nat × Bool)
  bad : Refused
  halted : Bool
deriving DecidableEq, Repr

/-- The tokens that the active arch states of a slot cost: each arch its largest (R320). -/
def Scan.cost (x : Scan) (t : Nat) : Nat :=
  ((List.range 4).map (fun a =>
    ((x.busy.filter (fun b => b.arch = a && t ≤ b.stop)).map Busy.cost).foldl max 0)).foldl (· + ·) 0

/-- Refuse at a byte offset of the bundles, unless something is refused already. -/
def Scan.refuse (x : Scan) (b : Bool) (o : Nat) : Scan :=
  if b && x.bad.isNone then { x with bad := some (2, o) } else x

/-- The stage entry of the domain of logical pier `l` of binding entry `b` at offset `o` (R364). -/
def State.stageOf (s : State) (b o l : Nat) : Option Nat :=
  let lw := s.img o 8
  let n := s.bindingN o
  let first := match segOfPier lw n l with
    | some k => segFirst lw n k
    | none => l
  (s.places 14).find? (fun e => s.img e 1 = b && s.img (e + 2) 2 = first)

/-- The masks of the stages other than `k` of a stage entry: what an instruction must not name while stage `k` is active
(R365). -/
def State.foreign (s : State) (e : Option Nat) (k : Nat) : Nat × Nat × Nat :=
  match e with
  | none => (0, 0, 0)
  | some o => ((List.range 4).filter (fun j => j != k)).foldl (fun m j =>
      let q := s.stageMasks o j
      (m.1 ||| q.1, m.2.1 ||| q.2.1, m.2.2 ||| q.2.2)) (0, 0, 0)

/-- Region `r` of a record's set. -/
def State.regionOfRecord (s : State) (rec r : Nat) : RegionWord := regionWord (s.entryNat 6 (s.entryAt 3 rec 0 2) r)

/-- Is a region one that an instruction may name under the record and stage in force (R169, R365)? -/
def State.nameable (s : State) (e : Option Nat) (x : Scan) (r : Nat) : Bool :=
  let w := s.regionOfRecord x.record r
  w.valid && !w.scale && !(s.foreign e x.stage).1.testBit r

/-- Word 0 of stream `n` of a record's set. -/
def State.streamWord (s : State) (rec n : Nat) : Nat := s.entryNat 7 (s.entryAt 3 rec 2 2) (8 * n)

/-- Word 0 of copy descriptor `n` of a record's set. -/
def State.copyWord (s : State) (rec n : Nat) : Nat := s.entryNat 8 (s.entryAt 3 rec 4 2) (8 * n)

/-- COMP of an arch in a record. -/
def State.compIn (s : State) (rec a : Nat) : Bool := (s.entryAt 3 rec 6 1).testBit a

/-- The cost of a pass by its streaming class (R320). -/
def passCost (tag : Nat) : Nat :=
  match perCellOf tag with
  | 2 => 44
  | 4 => 50
  | _ => 38

/-- An arch instruction of arch `a` in slot `x.slot`, at offset `o`. -/
def State.scanArch (s : State) (e : Option Nat) (a o w : Nat) (x : Scan) : Scan :=
  let t := x.slot
  match bits w 0 8 with
  | 0x01 =>
    { x.refuse (!s.nameable e x (bits w 8 6)) o with busy := ⟨a, t + 72, 10⟩ :: x.busy }
  | 0x02 =>
    let d := s.entryNat 4 (bits w 8 16) 0
    let n := bits d 28 10
    let clash := x.caps.any (fun c => c.1 = a && t + 9 ≤ c.2)
    let y := x.refuse (clash || (bits d 2 2 = 0 && !s.nameable e x (bits w 24 6))) o
    { y with
      caps := (a, t + 8 + 64 * n) :: y.caps
      busy := ⟨a, t + 16 + 64 * n, passCost (bits d 38 8) + if s.compIn x.record a then 2 else 0⟩ :: y.busy }
  | 0x03 =>
    let d := s.entryNat 5 (bits w 8 8) 0
    let r := bits w 36 6
    let y := { x.refuse (!s.nameable e x r) o with produced := (x.record, r) :: x.produced }
    match fmtOfTag (bits d 0 8) with
    | none => y
    | some f =>
      if d.testBit 8 && !d.testBit 12 && f != .fp32 then
        let c := (drainTime (s.compIn x.record a) ⟨f, true, true, false, false, 0⟩).total
        let k := bits d 13 6
        { y with
          uses := y.uses.put (fun _ => 0) k (y.uses.look (fun _ => 0) k + 1)
          reads := (t + 8, t + 7 + c) :: y.reads }
      else y
  | _ => x

/-- One region receives `128` records of statistics (R153, R155). -/
def Scan.openStats (x : Scan) (r o : Nat) : Scan :=
  let y := x.refuse (!x.stats.any (fun e => e.1 = r) && 4 ≤ x.stats.length) o
  let n := ((x.stats.find? (fun e => e.1 = r)).map Prod.snd).getD 0 + 128
  let rest := y.stats.filter (fun e => e.1 != r)
  { y with stats := if 1024 ≤ n then rest else (r, n) :: rest }

/-- A vector or update instruction. -/
def State.scanVec (s : State) (e : Option Nat) (o w : Nat) (x : Scan) : Scan :=
  let t := x.slot
  let r := bits w 36 6
  let vd := bits w 8 6
  match bits w 0 8 with
  | 0x10 => x.refuse (!s.nameable e x r) o
  | 0x11 =>
    let f := bits w 56 8
    let y := x.refuse (!s.nameable e x r || x.building.any (fun b => b.1 = r && b.2 != f)) o
    let rest := y.building.filter (fun b => b.1 != r)
    { y with
      building := if w.testBit 49 then rest else (r, f) :: rest
      produced := (x.record, r) :: y.produced }
  | 0x15 =>
    { x.refuse (match x.lastSfu with
        | some u => t < u + 4
        | none => false) o with lastSfu := some t }
  | 0x17 =>
    let y := x.refuse ((match x.lastTrans with
        | some u => t < u + 64
        | none => false) || !s.nameable e x r || !s.nameable e x vd) o
    { y with
      lastTrans := some t
      produced := (x.record, vd) :: y.produced }
  | 0x18 =>
    let y := (x.refuse (!s.nameable e x r || !s.nameable e x vd) o).openStats vd o
    { y with produced := (x.record, vd) :: y.produced }
  | 0x19 =>
    let p := bits w 56 8 + 1
    let y := (x.refuse (t < x.statcEnd || !s.nameable e x r || !s.nameable e x vd) o).openStats vd o
    { y with
      statcEnd := t + (if bits w 50 6 = 0 then 8 * p + 60 else 12 * p + 40)
      produced := (x.record, vd) :: y.produced }
  | 0x1A =>
    { x.refuse (!s.nameable e x vd) o with stats := x.stats.filter (fun b => b.1 != vd) }
  | 0x1B =>
    if bits w 50 6 < 2 then
      let k := bits w 56 8
      { x.refuse (x.reads.any (fun d => d.1 ≤ t && t ≤ d.2)) o with
        uses := x.uses.put (fun _ => 0) k (x.uses.look (fun _ => 0) k + 1) }
    else x
  | 0x20 =>
    let rs := updRegions (s.entryNat 11 (bits w 8 10) 0)
    { x.refuse (t < x.updEnd || rs.any (fun q => !s.nameable e x q.1)) o with
      updEnd := t + 32 * bits w 18 10 + 14
      produced := (rs.filter (fun q => q.2)).map (fun q => (x.record, q.1)) ++ x.produced }
  | _ => x

/-- A memory or ring instruction. -/
def State.scanMem (s : State) (e : Option Nat) (o w : Nat) (x : Scan) : Scan :=
  let own := s.foreign e x.stage
  match bits w 0 8 with
  | 0x30 =>
    { x.refuse (!s.nameable e x (bits w 9 6)) o with
      injects := (bits w 8 1, bits w 15 10, w.testBit 33) :: x.injects }
  | 0x31 => x.refuse (!s.nameable e x (bits w 8 6) || !(s.regionOfRecord x.record (bits w 8 6)).halves) o
  | 0x32 => x.refuse (!s.nameable e x (bits w 8 6)) o
  | 0x33 =>
    let n := bits w 8 4
    let d := s.streamWord x.record n
    x.refuse (!d.testBit 0 || bits d 20 3 != 0 || own.2.1.testBit n) o
  | 0x34 => x.refuse (own.2.2.testBit (bits w 8 3)) o
  | 0x35 => x.refuse (own.2.2.testBit (bits w 8 3)) o
  | _ => x

/-- A JOINT or HALT ends what came before it: its states count in its own slot (R325), and everything has ended when slots go
on (R305). More than 65,536 slots between joints are refused (R294). -/
def Scan.endSpan (x : Scan) (o : Nat) : Scan :=
  let y := x.refuse (65536 < x.slot + 1 - x.mark || x.held < x.cost x.slot) o
  { y with
    mark := x.slot + 1
    busy := []
    caps := []
    reads := []
    stats := []
    lastSfu := none
    lastTrans := none
    statcEnd := min y.statcEnd (x.slot + 1)
    updEnd := min y.updEnd (x.slot + 1) }

/-- A control instruction; `l` is the loop body's first bundle. -/
def State.scanCtl (s : State) (o w last : Nat) (x : Scan) : Scan :=
  match bits w 0 8 with
  | 0x40 =>
    let y := x.endSpan o
    let z := { y with joints := x.slot :: y.joints }
    let c := bits w 8 16
    if c = 0xFFFF then z
    else { z with
      record := c
      stage := s.entryAt 3 c 7 1
      records := (z.joints.length, c) :: z.records }
  | 0x41 => { x with barriers := (x.joints.length, x.slot, bits w 8 8 + 256 * bits w 16 1) :: x.barriers }
  | 0x42 =>
    let h := x.held + bits w 8 8
    { x.refuse (208 < h) o with held := h }
  | 0x43 =>
    let n := if w.testBit 16 then x.held else bits w 8 8
    { x.refuse (x.held < n) o with held := x.held - n }
  | 0x44 => { x with loops := (x.pc + 1, x.pc + 1 + bits w 24 24, bits w 8 16 + 1) :: x.loops }
  | 0x45 =>
    { (x.endSpan o).refuse (x.pc != last || x.loops.any (fun l => l.2.2 != 1)) o with halted := true }
  | _ => x

/-- Leave the loop bodies that end at the next bundle, or go on with their next pass (R298). -/
def Scan.next : Nat → Scan → Scan
  | 0, x => x
  | fuel + 1, x =>
    match x.loops with
    | (first, stop, left) :: rest =>
      if x.pc < stop then x
      else if left ≤ 1 || stop ≤ first then Scan.next fuel { x with loops := rest }
      else { x with pc := first, loops := (first, stop, left - 1) :: rest }
    | [] => x

/-- One bundle of a pier program issues in its slot; the arch states must lie within the tokens held (R325). -/
def State.scanBundle (s : State) (e : Option Nat) (last : Nat) (x : Scan) : Scan :=
  let o := s.bundleAt x.pc
  let w (k : Nat) : Nat := s.img (o + 8 * k) 8
  let c := bits (w 7) 0 8
  let ends := c = 0x40 || c = 0x45
  let x1 := if ends then x else s.scanCtl (o + 56) (w 7) last x
  let x2 := (List.range 4).foldl (fun x a => s.scanArch e a (o + 8 + 8 * a) (w (a + 1)) x) x1
  let x3 := s.scanMem e (o + 48) (w 6) (s.scanVec e (o + 40) (w 5) x2)
  let x4 := x3.refuse (x3.held < x3.cost x3.slot) (o + 8)
  let x5 := if ends then s.scanCtl (o + 56) (w 7) last x4 else x4
  let x6 := { x5 with
    pc := x5.pc + 1
    slot := x5.slot + 1 + bits (w 0) 0 16
    busy := x5.busy.filter (fun b => x5.slot ≤ b.stop)
    reads := x5.reads.filter (fun r => x5.slot ≤ r.2) }
  x6.next 5

/-- Follow a pier program to its HALT, the end of its stream, or the first refusal. `fuel` bounds the bundles issued: 2²⁴ in
loops of 65,536 nested 4 deep. -/
def State.scanFrom (s : State) (e : Option Nat) (last : Nat) : Nat → Scan → Scan
  | 0, x => x
  | fuel + 1, x =>
    if x.bad.isSome || x.halted then x
    else if last < x.pc then x.refuse true (s.bundleAt last + 56)
    else State.scanFrom s e last fuel (s.scanBundle e last x)

/-- Loops nest at most 4 deep, and a body lies within every body that encloses it (R298). -/
def State.nestBad (s : State) (first n : Nat) : Refused :=
  ((List.range n).foldl (fun (acc : List Nat × Refused) i =>
    let pc := first + i
    let o := s.bundleAt pc + 56
    let w := s.img o 8
    let open_ := acc.1.filter (fun e => pc < e)
    if bits w 0 8 = 0x44 then
      let e := pc + 1 + bits w 24 24
      let lim := open_.foldl min (first + n)
      (e :: open_, acc.2 <|> (if 4 ≤ open_.length || lim < e then some (2, o + 3) else none))
    else (open_, acc.2)) ([], none)).2

/-- The program of logical pier `l` of binding entry `b` at offset `o`. -/
def State.scanPier (s : State) (b o l : Nat) : Scan :=
  let p := s.pierEntry o l
  let last := p.program + p.length - 1
  let x : Scan := ⟨0, p.program, [], p.config0, s.entryAt 3 p.config0 7 1, 0, [], [], [(0, p.config0)], 0, [], [], none, none,
    0, [], [], 0, [], [], [], [], s.nestBad p.program p.length, false⟩
  s.scanFrom (s.stageOf b o l) last (2 ^ 88 + 1) x

/-- The regions into which the viaduct lands tiles in a pier of a binding: its exit regions where its segment injects with EXIT
= 1, and its entry regions where its segment names a port (R128, R129, R168). -/
def State.arrivals (s : State) (o : Nat) (xs : List Scan) (l : Nat) : List Nat :=
  let lw := s.img o 8
  let ew := s.img (o + 8) 8
  let n := s.bindingN o
  let p := s.pierEntry o l
  match segOfPier lw n l with
  | none => []
  | some k =>
    let place := segPlaceOf lw n k l
    let m := segSize lw k / 4
    let exits (c : Nat) : Bool :=
      (List.range n).any (fun j => segOfPier lw n j = some k &&
        ((xs[j]?).map (fun x => x.injects.any (fun i => i.1 = c && i.2.2))).getD false)
    (if place + 1 = m && exits 0 then [p.exitCw] else []) ++ (if place = 0 && exits 1 then [p.exitCcw] else []) ++
    (if place = 0 && extPrev ew k < 12 then [p.entryCw] else []) ++
    (if place + 1 = m && extNext ew k < 12 then [p.entryCcw] else [])

/-- The records that a pier program applies. -/
def Scan.applied (x : Scan) : List Nat := x.records.map Prod.snd

/-- Does a region have more than one producing class under a record in a pier (R168, R169)? -/
def State.classesBad (s : State) (x : Scan) (arr : List Nat) (rec : Nat) : Option Nat :=
  (List.range 64).find? (fun r =>
    let w := s.regionOfRecord rec r
    let a := x.produced.contains (rec, r)
    let b := (List.range 16).any (fun n =>
      let d := s.streamWord rec n
      d.testBit 0 && bits d 20 3 = 0 && bits d 8 6 = r)
    let c := (List.range 8).any (fun n =>
      let d := s.copyWord rec n
      d.testBit 0 && !d.testBit 6 && bits d 8 6 = r)
    w.valid && !w.scale && 1 < a.toNat + b.toNat + c.toNat + (arr.contains r).toNat)

/-- Do the records that a domain applies keep the descriptors that its stages own (R365)? `recs` are all of them. -/
def State.ownedBad (s : State) (e : Nat) (recs : List Nat) : Bool :=
  match recs with
  | [] => false
  | r0 :: rest =>
    let all := (List.range 4).foldl (fun (m : Nat × Nat × Nat) k =>
      let q := s.stageMasks e k
      (m.1 ||| q.1, m.2.1 ||| q.2.1, m.2.2 ||| q.2.2)) (0, 0, 0)
    rest.any (fun r =>
      (List.range 64).any (fun n => all.1.testBit n &&
        s.entryNat 6 (s.entryAt 3 r 0 2) n != s.entryNat 6 (s.entryAt 3 r0 0 2) n) ||
      (List.range 16).any (fun n => all.2.1.testBit n && (List.range 8).any (fun k =>
        s.entryNat 7 (s.entryAt 3 r 2 2) (8 * n + k) != s.entryNat 7 (s.entryAt 3 r0 2 2) (8 * n + k))) ||
      (List.range 8).any (fun n => all.2.2.testBit n && (List.range 8).any (fun k =>
        s.entryNat 8 (s.entryAt 3 r 4 2) (8 * n + k) != s.entryNat 8 (s.entryAt 3 r0 4 2) (8 * n + k))))

/-- Is a region or stream that stage `k` owns the companion or the source of something that it does not own (R365)? -/
def State.splitBad (s : State) (e k rec : Nat) : Bool :=
  let m := s.stageMasks e k
  (List.range 64).any (fun r =>
    let w := s.regionOfRecord rec r
    w.valid && w.scaleEn && m.1.testBit w.companion && !m.1.testBit r) ||
  (List.range 16).any (fun n =>
    let d := s.streamWord rec n
    d.testBit 0 && m.2.1.testBit n && !m.1.testBit (bits d 8 6)) ||
  (List.range 8).any (fun n =>
    let d := s.copyWord rec n
    d.testBit 0 && d.testBit 6 && m.1.testBit (bits d 8 6) && !m.2.2.testBit n)

/-- The stage rules of a domain, from its stage entry and the records that it applies (R365). -/
def State.stageRules (s : State) (e : Option Nat) (recs : List Nat) : Refused :=
  let n := match e with
    | some o => s.img (o + 1) 1
    | none => 1
  match recs.find? (fun r => n ≤ s.entryAt 3 r 7 1) with
  | some r => some (3, ((s.places 3).getD r 0) + 7)
  | none =>
    match e with
    | none => none
    | some o =>
      if s.ownedBad o recs || (List.range n).any (fun k => recs.any (fun r => s.splitBad o k r)) then some (14, o) else none

/-- The rules that relate the pier programs of one binding (R294, R323, R360, R365, R169). -/
def State.bindingBad (s : State) (b o : Nat) : Refused :=
  let lw := s.img o 8
  let n := s.bindingN o
  let xs := (List.range n).map (fun l => s.scanPier b o l)
  let x0 := xs.head?
  let dom (l : Nat) : Nat := (segOfPier lw n l).getD (16 + l)
  let names (m l : Nat) : Bool :=
    match segOfPier lw n l with
    | some k => m.testBit k
    | none => m.testBit 8
  let masks (x : Scan) (j : Nat) : List Nat := (x.barriers.filter (fun q => q.1 = j)).map (fun q => q.2.2)
  firstRefused (fun x => x.bad) xs <|>
  (if xs.any (fun x => some x.joints.length != x0.map (fun y => y.joints.length)) then some (1, o) else none) <|>
  (if xs.zipIdx.any (fun e => xs.zipIdx.any (fun f => dom e.2 = dom f.2 &&
      (e.1.joints != f.1.joints || e.1.barriers.map (fun q => q.2.1) != f.1.barriers.map (fun q => q.2.1)))) then some (1, o)
    else none) <|>
  (if xs.any (fun x => x.barriers.any (fun q => xs.zipIdx.any (fun f =>
      names q.2.2 f.2 && masks f.1 q.1 != masks x q.1))) then some (1, o) else none) <|>
  (if xs.any (fun x => x.records.any (fun r => xs.any (fun y => y.records.any (fun q =>
      q.1 = r.1 && s.entryAt 3 q.2 16 2 != s.entryAt 3 r.2 16 2)))) then some (3, o) else none) <|>
  (if xs.any (fun x => x.uses.any (fun u => 2 ^ 32 < u.2)) then some (13, 0) else none) <|>
  firstRefused (fun (e : Scan × Nat) =>
    let recs := (xs.zipIdx.filter (fun f => dom f.2 = dom e.2)).flatMap (fun f => f.1.applied)
    s.stageRules (s.stageOf b o e.2) recs.eraseDups <|>
    firstRefused (fun r => (s.classesBad e.1 (s.arrivals o xs e.2) r).map (fun q =>
      (6, ((s.places 6).getD (s.entryAt 3 r 0 2) 0) + 8 * q))) e.1.applied.eraseDups) xs.zipIdx

/-- Everything that LOAD_IMAGE checks after the signature. -/
def State.imageBad (s : State) : Refused :=
  s.tablesBad <|> firstRefused (fun (e : Nat × Nat) => s.bindingBad e.2 e.1) s.bindings.zipIdx

end Sys2Proof.Machine
end

