-- ==== Sys2Proof/Machine/Measure.lean ====
section
/-! DEFINITION. The measurement registers (R553). -/
namespace Sys2Proof.Machine

/-- The 48 bytes of a measurement register (R560). -/
def State.mrBytes (s : State) (m : Nat) : List Byte :=
  (List.range 6).flatMap (fun w => leBytes 8 (s.reg .mr (6 * m + w)).toNat)

/-- Set the 48 bytes of a measurement register. -/
def State.setMr (s : State) (m : Nat) (bs : List Byte) : State :=
  (List.range 6).foldl (fun s w => s.setReg .mr (6 * m + w) (BitVec.ofNat 64 (leNat ((bs.drop (8 * w)).take 8)))) s

/-- Extend a measurement register with a 48 B digest (R553). -/
def State.extendMr (s : State) (m : Nat) (d : List Byte) : State := s.setMr m (sha384 (s.mrBytes m ++ d))

end Sys2Proof.Machine
end

