-- ==== Sys2Proof/Machine/Operands.lean ====
section
/-! DEFINITION. The packets of the command set: their opcodes, kinds and lengths (R455), the ranges of their parameters
(R450, check 5) and the commands that exclude one another (R453). -/
namespace Sys2Proof.Machine

/-- A device address of host memory as a parameter names it: 64 B aligned (R455). -/
def hostAddr (a : Nat) : Bool := hostBase ≤ a && a < 2 ^ 48 && a % 64 = 0

/-- Are the bytes from `a` up to `b - 1` of the parameters zero? -/
def Packet.zeros (p : Packet) (a b : Nat) : Bool := ((p.params.drop a).take (b - a)).all (fun x => x = 0)

/-- An object number in bits [21:0] of a 4-byte field. -/
def Packet.object? (p : Packet) (off : Nat) : Bool := p.le off 4 < 2 ^ 22

/-- The directory record that MAP_OBJECT carries at byte 8 (R261). -/
def Packet.record (p : Packet) : ObjRec :=
  let w := p.le 8 8
  ⟨w % 2 = 1, w / 2 % 2 = 1, w / 4 % 2 = 1, w / 8 % 4, w / 2 ^ 5 % 64, w / 2 ^ 11 % 2 ^ 22, w / 2 ^ 33 % 2 ^ 23,
    p.le 16 8 % 2 ^ 41⟩

/-- A home-table entry as 32 bytes spell it (R262). -/
def homeOf (bs : List Byte) : HomeEntry :=
  let w (i : Nat) : Nat := leNat ((bs.drop (8 * i)).take 8)
  ⟨w 0 % 2 = 1, w 0 / 2 % 4, w 0 / 8 % 2 = 1, w 0 / 16 % 2 = 1, w 0 / 32 % 65536, w 1 % 2 ^ 48, w 2 % 2 ^ 52, 0⟩

/-- Is a supplied entry of an object within the ranges of R262, with MOVING and POISON 0 (R265)? -/
def homeOk (pooled : Bool) (bs : List Byte) : Bool :=
  let w (i : Nat) : Nat := leNat ((bs.drop (8 * i)).take 8)
  let e := homeOf bs
  w 0 / 2 ^ 21 = 0 && w 1 / 2 ^ 48 = 0 && w 2 / 2 ^ 52 = 0 && !e.moving && !e.poison &&
  (match e.tier with
    | 0 => e.loc % 8192 = 0 && e.loc < 2 ^ 40
    | 1 => e.loc % 8192 = 0 && hostBase ≤ e.loc
    | 2 => e.loc / 2 ^ 40 = 0 && e.loc % 128 = 0
    | _ => false) &&
  (!pooled || e.tier = 2 || (e.backing / 2 ^ 48 = 0 && e.backing % 8192 = 0))

/-- Is a record within the ranges of R261, with COUNT = ⌈SIZE ÷ 2^EXTENT_LOG2⌉ where it is valid (R265)? Its reserved bits are zero either
way (R450). -/
def Packet.recordOk (p : Packet) : Bool :=
  let d := p.record
  p.le 8 8 / 2 ^ 56 = 0 && p.le 16 8 / 2 ^ 41 = 0 &&
    (!d.valid || (13 ≤ d.extentLog2 && d.extentLog2 ≤ 30 && 1 ≤ d.size && d.size ≤ 2 ^ 40 && 1 ≤ d.count && d.count ≤ 4194304 &&
      d.count = (d.size + 2 ^ d.extentLog2 - 1) / 2 ^ d.extentLog2))

/-- `n` pieces of `size` bytes. -/
def cutBytes (size : Nat) : Nat → List Byte → List (List Byte)
  | 0, _ => []
  | n + 1, bs => bs.take size :: cutBytes size n (bs.drop size)

/-- Is `n` a power of two from 4,096 to 1,048,576 (R465)? -/
def queueSize (n : Nat) : Bool := (List.range 9).any (fun k => n = 4096 * 2 ^ k)

/-- Is PARAM_LEN as the command requires (check 4 of R450; R455, R265)? -/
def Packet.lengthOk (p : Packet) : Bool :=
  let n := p.params.length
  match p.opcode with
  | 0x0101 => n = 48
  | 0x0102 => n = 24
  | 0x0203 => 16 ≤ n && n = 16 + 24 * p.le 8 2
  | 0x0206 => n = 12
  | 0x0301 =>
    32 ≤ n && (if p.record.valid && p.le 24 8 = 0 then n = 32 + 32 * p.record.count else n = 32)
  | 0x0302 => n = 24
  | 0x0303 => n = 32
  | 0x0501 => 16 ≤ n && (if p.le 8 8 = 0 then n = 16 + 8 * p.le 2 2 else n = 16)
  | 0x0503 => 16 ≤ n && (if p.le 8 8 = 0 then n = 16 + 8 * (p.le 4 2 + p.le 6 2) else n = 16)
  | 0x0604 => n = 8
  | 0x0605 => n = 24
  | 0x0606 => n = 16
  | 0x0701 => n = 48
  | 0x0702 => 8 ≤ n && n = 8 + p.le 4 4
  | _ => n = 4

/-- The parapets that LAUNCH carries: object, LO and HI in bytes (R455). -/
def Packet.parapets (p : Packet) : List (Nat × Nat × Nat) :=
  (List.range (p.le 8 2)).map (fun k => (p.le (16 + 24 * k) 4, p.le (24 + 24 * k) 8, p.le (32 + 24 * k) 8))

/-- Are the pairs of object numbers from byte 16 on within their range (R455)? -/
def Packet.pairsOk (p : Packet) : Bool :=
  (cutBytes 4 ((p.params.length - 16) / 4) (p.params.drop 16)).all (fun x => leNat x < 2 ^ 22)

/-- Are the reserved fields zero and the values within their ranges (check 5 of R450; R455)? -/
def Packet.rangeOk (p : Packet) : Bool :=
  match p.opcode with
  | 0x0101 =>
    p.zeros 4 8 && p.zeros 20 24 && p.zeros 44 48 && hostAddr (p.le 8 8) && queueSize (p.le 16 4) &&
      p.le 8 8 % (32 * p.le 16 4) = 0 && hostAddr (p.le 24 8) && hostAddr (p.le 32 8)
  | 0x0102 =>
    p.le 0 1 ≤ 2 && p.zeros 1 4 && p.zeros 6 8 && p.zeros 20 24 && (p.le 0 1 = 0 || hostAddr (p.le 8 8))
  | 0x0201 => p.object? 0
  | 0x0202 => 1 ≤ p.le 0 1 && p.le 0 1 ≤ 128 && p.zeros 1 4
  | 0x0203 =>
    p.le 6 1 < 4 && p.le 7 1 ≤ 3 && p.le 8 2 ≤ 170 && p.zeros 10 16 &&
      (List.range (p.le 8 2)).all (fun k => p.zeros (20 + 24 * k) (24 + 24 * k)) &&
      p.parapets.all (fun x => x.1 < 2 ^ 22 && x.2.1 % 128 = 0 && x.2.2 % 128 = 0 && x.2.1 < x.2.2)
  | 0x0204 => p.object? 0
  | 0x0205 => p.object? 0
  | 0x0206 => p.le 4 1 ≤ 1 && p.zeros 5 8
  | 0x0301 =>
    p.object? 0 && p.le 4 1 ≤ 1 && p.zeros 5 8 && (p.le 24 8 = 0 || hostAddr (p.le 24 8)) && p.recordOk &&
      (!p.record.valid || p.le 24 8 != 0 ||
        (cutBytes 32 p.record.count (p.params.drop 32)).all (homeOk p.record.pooled))
  | 0x0302 =>
    p.object? 0 && p.le 12 1 ≤ 1 && p.zeros 13 16 && p.le 16 8 % 8192 = 0 &&
      (if p.le 12 1 = 0 then p.le 16 8 < 2 ^ 40 else hostBase ≤ p.le 16 8 && p.le 16 8 < 2 ^ 48)
  | 0x0303 =>
    p.le 0 4 < 2 ^ 20 && p.le 4 1 < 4 && p.zeros 5 6 && p.object? 8 && p.zeros 12 16 && p.le 16 8 < 2 ^ 40 &&
      p.le 16 8 % 128 = 0 && 128 ≤ p.le 24 8 && p.le 24 8 ≤ 2 ^ 40 && p.le 24 8 % 128 = 0
  | 0x0304 => p.le 0 4 < 2 ^ 20
  | 0x0401 => 1000 ≤ p.le 0 2 && p.le 0 2 ≤ 2600 && p.zeros 2 4
  | 0x0501 =>
    p.le 2 2 ≤ 4096 && p.zeros 4 8 && (p.le 8 8 = 0 || hostAddr (p.le 8 8)) && p.pairsOk
  | 0x0502 => p.le 0 1 < 2 && p.zeros 1 4
  | 0x0503 =>
    1 ≤ p.le 2 1 && p.le 2 1 ≤ 2 && p.zeros 3 4 && (p.le 8 8 = 0 || hostAddr (p.le 8 8)) &&
      (p.le 2 1 = 1 || (p.le 4 2 = 0 && p.le 6 2 = 0)) && p.pairsOk
  | 0x0601 => p.le 0 1 ≤ 135 && p.le 1 1 < 2 && p.zeros 2 4
  | 0x0602 => p.le 0 1 ≤ 135 && p.zeros 1 4
  | 0x0603 =>
    p.le 0 1 ≤ 3 && p.zeros 2 4 &&
      (match p.le 0 1 with
        | 2 => p.le 1 1 ≤ 135
        | 3 => p.le 1 1 ≤ 7
        | _ => true)
  | 0x0604 =>
    p.zeros 2 4 && p.object? 4 &&
      (match p.le 0 1 with
        | 0 => true
        | 1 => p.le 1 1 ≤ 7
        | 2 => p.le 1 1 ≤ 11
        | _ => false)
  | 0x0605 => p.le 0 1 ≤ 3 && p.zeros 1 4 && hostAddr (p.le 8 8) && p.le 16 4 % 64 = 0 && p.zeros 20 24
  | 0x0606 => p.zeros 8 16
  | 0x0701 => hostAddr (p.le 32 8) && p.zeros 44 48
  | 0x0702 => 1 ≤ p.le 0 1 && p.le 0 1 ≤ 3 && p.zeros 1 4 && p.le 4 4 ≤ 4088
  | 0x0801 =>
    p.zeros 2 4 &&
      (match p.le 0 1 with
        | 0 => true
        | 1 => p.le 1 1 ≤ 135
        | 2 => p.le 1 1 ≤ 11
        | _ => false)
  | _ => true

/-- The rows of R453 in which any two commands exclude one another. -/
def exclusive : List (List Nat) :=
  [[0x0201, 0x0202, 0x0203, 0x0205, 0x0206], [0x0204], [0x0501, 0x0502, 0x0503], [0x0601, 0x0602, 0x0603, 0x0604],
   [0x0605], [0x0701, 0x0702]]

/-- Does a packet conflict with a long command that runs (R453)? -/
def Packet.conflicts (p q : Packet) : Bool :=
  exclusive.any (fun r => r.contains p.opcode && r.contains q.opcode) ||
  ([0x0301, 0x0302].contains p.opcode && [0x0301, 0x0302].contains q.opcode && p.le 0 4 = q.le 0 4) ||
  ([0x0303, 0x0304].contains p.opcode && q.opcode = 0x0304 && p.le 0 4 = q.le 0 4)

/-- Is a packet a FENCE_PIER of the pier that is under test for the command of a slot: the test then ends, and the pier is fenced (R537)? -/
def State.fencesTest (s : State) (p : Packet) (slot : Nat) : Bool :=
  p.opcode = 0x0601 && s.tests.any (fun t => t.pier.val = p.le 0 1 && (match t.cause with
    | .bist k => k = slot
    | .admission k => k = slot
    | .replace k _ => k = some slot
    | .park => false))

/-- The first of the checks 1 to 6 of R450 that a packet fails (R453, R457). `version` is that of the header, `paramLen` its
PARAM_LEN and `rsv` says that its reserved bytes are zero; `params` says that the parameters were read without fault. -/
def State.packetCheck (s : State) (k version paramLen : Nat) (rsv params : Bool) (p : Packet) : Option Cc :=
  let running := s.runningSlots.filter (fun e => e.1 != k && e.2.long)
  if !s.flag Fld.CMD_STATUS_SESSION 0 && !([0x0101, 0x0102, 0x0801].contains p.opcode) then some .noSession
  else if p.opcode != 0x0101 &&
      version != (if s.flag Fld.CMD_STATUS_SESSION 0 then s.fld Fld.CMD_STATUS_VERSION 0 else 1) then some .badVersion
  else if !opcodes.any (fun e => e.1 = p.opcode) then some .badOpcode
  else if 4096 < paramLen then some .badLength
  else if !params then some .hostFault
  else if !p.lengthOk then some .badLength
  else if !rsv || !p.rangeOk then some .badParam
  else if p.opcode = 0x0101 then (if running.isEmpty then none else some .wrongState)
  else if running.any (fun e => p.conflicts e.2 && !s.fencesTest p e.1) then some .busy
  else none

end Sys2Proof.Machine
end

