-- ==== Sys2Proof/Machine/RingExt.lean ====
section
/-! DEFINITION. The extension ports of the viaduct (R128-R130, R399, R400) and the end of a loopback test (R131, R132). -/
namespace Sys2Proof.Machine

/-- The field of VIADUCT_EXT that names NEXT or PREV of a segment (R138). -/
def extFld (next : Bool) : Nat → Fld
  | 0 => if next then Fld.VIADUCT_EXT_NEXT0 else Fld.VIADUCT_EXT_PREV0
  | 1 => if next then Fld.VIADUCT_EXT_NEXT1 else Fld.VIADUCT_EXT_PREV1
  | 2 => if next then Fld.VIADUCT_EXT_NEXT2 else Fld.VIADUCT_EXT_PREV2
  | 3 => if next then Fld.VIADUCT_EXT_NEXT3 else Fld.VIADUCT_EXT_PREV3
  | 4 => if next then Fld.VIADUCT_EXT_NEXT4 else Fld.VIADUCT_EXT_PREV4
  | 5 => if next then Fld.VIADUCT_EXT_NEXT5 else Fld.VIADUCT_EXT_PREV5
  | 6 => if next then Fld.VIADUCT_EXT_NEXT6 else Fld.VIADUCT_EXT_PREV6
  | _ => if next then Fld.VIADUCT_EXT_NEXT7 else Fld.VIADUCT_EXT_PREV7

/-- The port of NEXT or PREV of a segment in force, if one is named (R128). -/
def State.extPort (s : State) (g : SegIx) (next : Bool) : Option Nat :=
  let n := s.fld (extFld next g.val) 0
  if g.val < s.fld Fld.VIADUCT_LAYOUT_SEG_COUNT 0 && n < 12 then some n else none

/-- The segment that names a port, and whether as NEXT (R128). -/
def State.extOf (s : State) (n : Nat) : Option (SegIx × Bool) :=
  (List.finRange 8).findSome? (fun g =>
    if s.extPort g true = some n then some (g, true)
    else if s.extPort g false = some n then some (g, false)
    else none)

/-- Does the binding in force name a port (R128)? -/
def State.isExt (s : State) (n : Nat) : Bool := (s.extOf n).isSome

/-- The pier at whose exit and entry an extension port stands: the last logical pier for NEXT, the first for PREV (R128). -/
def State.extPier (s : State) (g : SegIx) (next : Bool) : Option PierIx := s.pierWithRole g (if next then 4 else 2)

/-- The entry region of a segment's end: of CW tiles at the first logical pier, of CCW tiles at the last (R128, R134). -/
def State.entryRegion (s : State) (p : PierIx) (next : Bool) : RegionIx :=
  regionOf (s.fld (if next then Fld.RING_CFG_ENTRY_CCW else Fld.RING_CFG_ENTRY_CW) p.val)

/-- The extension of a segment is lost: RING_EXT_DOWN, and as for RING_PARITY the pier controllers of the segment stop, its
passes abandoned (R130, R131). -/
def State.ringExtDown (s : State) (g : SegIx) (next : Bool) (port : Nat) : State :=
  match s.extPier g next with
  | none => s
  | some p =>
    let s1 := s.flagEvent Fld.RING_ERR_RING_EXT_DOWN p.val .ringExtDown 0 0 (g.val + port % 16 * 256)
    if s1.launched then (s1.recordFault p (s1.fld Fld.PCTL_SLOT_SLOT p.val) .ringExtDown).stopDomain (.seg g) else s1

/-- Are tiles in flight on a port: ring flits that wait to be sent or acknowledged, or whose credits the partner has not returned, so that
it holds them in its buffers, a ring message that has come in part, or one that waits for its entry region (R130, R382, R384, R400)? -/
def State.ringFlying (s : State) (n : Nat) : Bool :=
  let x := s.link n
  x.queue.any (fun f => f.1.vc = 4) || x.retry.any (fun f => f.vc = 4) ||
    x.partner.any (fun h => x.credits.getD 4 0 < h.shares.getD 4 0) || !(x.rx.getD 4 ([], 0)).1.isEmpty ||
    s.ringTiles.any (fun e => e.1 = n)

/-- A port that the binding names goes down, with tiles in flight on it (R130). -/
def State.extPortDown (s : State) (n : Nat) (flying : Bool) : State :=
  match s.extOf n with
  | some (g, next) => if flying then s.ringExtDown g next n else s
  | none => s

/-- The flits of a message (R382). -/
def Msg.flits (m : Msg) : Nat := (m.bytes.length + 239) / 240

/-- The tile that a RING_TILE carries (R399). -/
def ringTileOf (side data ext : List Byte) : Tile := tileOf data (padTo 256 side) (padTo 1024 ext)

/-- A RING_TILE lands in the entry region of its head, as requester 7 (R129, R399): none where it has no room. -/
def State.landRing (s : State) (g : SegIx) (next : Bool) (t : Tile) : Option State :=
  match s.extPier g next with
  | none => none
  | some p =>
    let r := s.entryRegion p next
    let k := s.slotOf p r (s.reserveIx p r)
    let ports := putPorts k (List.range 64) ++ (if t.ext then s.extPorts p r (s.reserveIx p r) (List.range 64) else [])
    if s.regionUsable p r && s.canReserve p r && !ports.any (fun n => s.quotaMasked p 7 n 0) then
      let i := s.reserveIx p r
      some (((((s.revokes p).grantPorts p 7 ports).reserve p r).writeTile p r i t).land p r i)
    else none

/-- The buffers of a ring message are free again: its credits are owed (R384, R400). -/
def State.oweRing (s : State) (n flits : Nat) : State :=
  let x := s.link n
  s.setLink n { x with owed := bumpAt x.owed 4 (fun v => v + flits) }

/-- A RING_TILE that its port has received: it lands, it waits while the entry region is full or no binding is in force
(R400), or it is malformed where the binding does not name its port, direction and segment (R399). `none`: it waits. -/
def State.acceptRing (s : State) (n flits : Nat) (m : Msg) : Option State :=
  if s.fld Fld.VIADUCT_STATUS_BOUND 0 = 0 then none
  else
    match m.body with
    | .ringTile c seg side data ext =>
      match s.extOf n with
      | some (g, next) =>
        if g.val = seg && next = (c = .ccw) then
          (s.landRing g next (ringTileOf side data ext)).map (fun s => s.oweRing n flits)
        else some (((s.oweRing n flits).malformed m).ringExtDown g next n)
      | none =>
        some (((s.oweRing n flits).malformed m).event .ringExtDown 0 0 (seg % 8 + n % 16 * 256))
    | _ => some s

/-- RING_TILEs that wait land while their entry regions have room, in the order of their arrival (R399, R400). -/
def State.drainRing (s : State) : State :=
  s.ringTiles.foldl (fun s e =>
    let held := s.ringTiles.any (fun x => x.1 = e.1)
    match (if held then none else s.acceptRing e.1 e.2.1 e.2.2) with
    | some s1 => s1
    | none => { s with ringTiles := s.ringTiles ++ [e] }) { s with ringTiles := [] }

/-- A RING_TILE arrives on a port (R399). -/
def State.ringTileArrives (s : State) (n flits : Nat) (m : Msg) : State :=
  { s with ringTiles := s.ringTiles ++ [(n, flits, m)] }.drainRing

/-- The data index of the tile at HEAD of an exit region, once it has landed (R129). -/
def State.exitHead (s : State) (p : PierIx) (r : RegionIx) : Option Nat :=
  match s.readAt p r 0 with
  | .at i => if (s.slot p (s.slotOf p r i)).full then some i else none
  | _ => none

/-- The extension bytes that a RING_TILE carries for a tile's format (R399, R45). -/
def ringExtLen (tag : Nat) : Nat :=
  if tag = Fmt.ssf4.tag then 1024
  else if tag = Fmt.mxE2m1.tag then 512
  else if [Fmt.mxE4m3.tag, Fmt.mxE5m2.tag, Fmt.mxE3m2.tag, Fmt.mxE2m3.tag, Fmt.mxInt8.tag].contains tag then 256
  else 0

/-- The next landed tile of a carriageway's exit region is sent on its extension port (R129, R400): it needs an active port
with no ring flit still queued. ECC finds the words of the tile in error as it is read (R162). -/
def State.ringTileSend (s : State) (g : SegIx) (c : Cwy) : State :=
  match s.extPort g (c = .cw), s.tailPier g c with
  | some n, some p =>
    let r := s.exitRegion p c
    match s.exitHead p r with
    | none => s
    | some i =>
      if s.portState n != 5 || (s.link n).queue.any (fun f => f.1.vc = 4) || !s.canRelease p r then s
      else
        let x := (s.revokes p).readOut p r (s.fld Fld.PCTL_SLOT_SLOT p.val) i
        let len := ringExtLen x.1.tag.toNat
        let m : Msg := ⟨s.headTo (s.fld Fld.PORT_STATUS_NEIGHBOUR n),
          .ringTile c g.val (x.1.sideBytes.take 16) x.1.dataBytes (padTo len (x.1.extBytes.take len))⟩
        (x.2.release p r).enqueue n m 0
  | _, _ => s

/-- RING_TILE_SEND. -/
def execRingTileSend (seg : SegIx) (c : Cwy) (s : State) : Host.Outcome State Fault Refusal := .next (s.ringTileSend seg c)

/-- VIADUCT_STATUS follows the recorded ring breaks (R139). -/
def State.countBreaks (s : State) : State :=
  let bs := (List.range 136).filter (fun p => s.flag Fld.RING_CFG_BROKEN p)
  ((s.setFld Fld.VIADUCT_STATUS_BREAK 0 (if bs.isEmpty then 0 else 1)).setFld Fld.VIADUCT_STATUS_BREAK_PIER 0
    (bs.head?.getD 0)).setFld Fld.VIADUCT_STATUS_BREAK_COUNT 0 bs.length

/-- A pier fails the loopback test: RING_BREAK, its mark and its record in the journal (R131). -/
def State.ringBreak (s : State) (p : PierIx) : State :=
  ((((s.setFld Fld.RING_CFG_BROKEN p.val 1).flagEvent Fld.RING_ERR_RING_BREAK p.val .ringBreak 0 0 p.val).journalise
    (.ringBreak p true))).countBreaks

/-- Does a segment's path, from its first to its last pier on the serpentine, cross a physical pier? The path is that of the
piers with the segment in RING_CFG, and of the bypassed ones between them (R125). -/
def State.onPath (s : State) (g : SegIx) (p : PierIx) : Bool :=
  match s.pierWithRole g 2, s.pierWithRole g 4 with
  | some a, some b =>
    if viaductPos a ≤ viaductPos b then viaductPos a ≤ viaductPos p && viaductPos p ≤ viaductPos b
    else viaductPos a ≤ viaductPos p || viaductPos p ≤ viaductPos b
  | _, _ => false

/-- The loopback test of a segment ends: every pier of its path that failed in two runs is broken (R131, R132). -/
def State.loopbackDone (s : State) (g : SegIx) (failed : List PierIx) : State :=
  if s.loopbacks.contains g then
    (failed.filter (fun p => s.onPath g p)).foldl (fun s p => s.ringBreak p)
      { s with loopbacks := s.loopbacks.filter (fun x => x != g) }
  else s

/-- RING_LOOPBACK_DONE. -/
def execRingLoopbackDone (seg : SegIx) (failed : List PierIx) (s : State) : Host.Outcome State Fault Refusal :=
  .next (s.loopbackDone seg failed)

end Sys2Proof.Machine
end

