-- ==== Sys2Proof/Machine/Control.lean ====
section
/-! DEFINITION. The meanings of TACQ, TREL, LOOP, HALT, JOINT and BARRIER, the completion of joints and barriers (R305, R306),
the end of a schedule (R299), and the stop of a failed step (R311). -/
namespace Sys2Proof.Machine

/-- The tokens of a pier's span that a check sees as held: a first check does not see what the slot before released
(R577). -/
def State.heldSeen (s : State) (failed : Bool) (p : PierIx) (t : Nat) : Nat :=
  s.fld Fld.SPAN_TOKEN_HELD (spanOf p) + (if failed then 0 else s.unseenReleases p t)

/-- Does a TACQ or TREL of `n` tokens exceed the span's limit on steps in slot `t` (R328)? -/
def State.rampLate (s : State) (p : PierIx) (t n : Nat) : Bool := s.rampFull (spanOf p) (s.cycleOf p t) n

/-- The item of a TACQ: its tokens within the granted budget (R326) and the span's limit on steps (R328). -/
def State.tacqLate (s : State) (failed : Bool) (p : PierIx) (t n : Nat) : Option Late :=
  if s.fld Fld.SPAN_TOKEN_GRANTED (spanOf p) < s.heldSeen failed p t + n || s.rampLate p t n then
    some lateToken
  else none

/-- A TACQ that waits above its span's compiled budget is an overdraft, counted once (R327, R333). -/
def State.countOverdraft (s : State) (p : PierIx) (t n : Nat) : State :=
  if (s.pier p).overdrawn || s.fld Fld.SPAN_TOKEN_HELD (spanOf p) + n ≤ s.fld Fld.SPAN_TOKEN_COMPILED (spanOf p) then s
  else
    let s1 := (s.setPier p { s.pier p with overdrawn := true }).bump Fld.TOKEN_COUNT_OVERDRAFTS 0 1
    if s1.fld Fld.SCHED_IMAGE_FLAGS 0 / 2 % 2 = 1 then
      (s1.flagEvent Fld.TOKEN_ERR_OVERDRAFT 0 .tokenOverdraft 1 p.val (spanOf p % 32 + n % 256 * 256)).recordFault p t
        .tokenOverdraft
    else s1.setFld Fld.TOKEN_ERR_OVERDRAFT 0 1

/-- The effect of a TACQ (R324). -/
def State.tacqEffect (s : State) (p : PierIx) (t n : Nat) : State :=
  ((s.setPier p { s.pier p with overdrawn := false }).noteMove ⟨spanOf p, p, t, s.cycleOf p t, n, false, false⟩).acquire p n

/-- TACQ with its check; one that waits may be an overdraft. -/
def runTacq (failed : Bool) (p : PierIx) (t n : Nat) (s : State) : State :=
  let s1 := s.issue failed (.tacq p t n) p t (fun s => Needs.item (s.tacqLate failed p t n)) (fun s => s.tacqEffect p t n)
    (fun s => s.rampLate p t n)
  if (s.issuing p || s.stalled p) && s1.held.getLast? = some ⟨true, .tacq p t n⟩ then s1.countOverdraft p t n else s1

/-- TACQ. -/
def execTacq (p : PierIx) (t n : Nat) (s : State) : Host.Outcome State Fault Refusal := .next (runTacq false p t n s)

/-- The tokens that a TREL releases (R324). -/
def State.trelAmount (s : State) (p : PierIx) (n : Nat) (all : Bool) : Nat :=
  if all then s.fld Fld.PIER_HELD_HELD p.val else n

/-- The effect of a TREL, once, in its slot (R324). -/
def State.trelEffect (s : State) (p : PierIx) (t n : Nat) (all : Bool) : State :=
  let k := s.trelAmount p n all
  (s.noteMove ⟨spanOf p, p, t, s.cycleOf p t, k, true, all⟩).giveBack p k

/-- TREL with its check: the span's limit on steps (R328). -/
def runTrel (failed : Bool) (p : PierIx) (t n : Nat) (all : Bool) (s : State) : State :=
  s.issue failed (.trel p t n all) p t
    (fun s => Needs.item (if s.rampLate p t (s.trelAmount p n all) then some lateToken else none))
    (fun s => s.trelEffect p t n all) (fun s => s.rampLate p t (s.trelAmount p n all))

/-- TREL. -/
def execTrel (p : PierIx) (t n : Nat) (all : Bool) (s : State) : Host.Outcome State Fault Refusal :=
  .next (runTrel false p t n all s)

/-- The effect of a LOOP: one more loop is open (R298, R314). -/
def State.loopEffect (s : State) (p : PierIx) (l : LoopRec) : State :=
  let x := s.pier p
  (s.setPier p { x with loops := l :: x.loops }).setFld Fld.PCTL_STATUS_LOOP_DEPTH p.val (x.loops.length + 1)

/-- LOOP with its check. -/
def runLoop (failed : Bool) (p : PierIx) (t count body first len : Nat) (s : State) : State :=
  s.issue failed (.loop p t count body first len) p t (fun _ => Needs.nothing) (fun s => s.loopEffect p ⟨count, body, first, len⟩)

/-- LOOP. -/
def execLoop (p : PierIx) (t count body first len : Nat) (s : State) : Host.Outcome State Fault Refusal :=
  .next (runLoop false p t count body first len s)

/-- The slot after which no LOADS and no pass of a pier is in progress (R320, R325). -/
def State.archsEnd (s : State) (p : PierIx) (t : Nat) : Nat :=
  let passEnd (x : PassRun) : Nat := x.start + 16 + 64 * x.d.tiles
  (s.flight.filter (fun w => w.pier = p)).foldl (fun m w =>
    match w.kind with
    | .load .. => max m (w.due + w.left + 8)
    | .loadEnd .. => max m w.due
    | .pass x => max m (passEnd x)
    | .rowDot x .. => max m (passEnd x)
    | .rowRead x .. => max m (passEnd x)
    | .rowWrite x .. => max m (passEnd x)
    | _ => m) t

/-- The effect of a HALT: the pier issues nothing more, and its tokens return when its arch states have ended (R299,
R331). -/
def State.haltEffect (s : State) (p : PierIx) (t : Nat) : State :=
  (s.setFld Fld.PCTL_STATUS_STATE p.val 5).addWork (newWork p (s.archsEnd p t) 1 .tokensBack)

/-- HALT with its check. -/
def runHalt (failed : Bool) (p : PierIx) (t : Nat) (s : State) : State :=
  s.issue failed (.halt p t) p t (fun _ => Needs.nothing) (fun s => s.haltEffect p t)

/-- HALT. -/
def execHalt (p : PierIx) (t : Nat) (s : State) : Host.Outcome State Fault Refusal := .next (runHalt false p t s)

/-- The next slot of a pier fails its check on row 4 of R302, a joint or barrier that is not complete: one more stall of cause OTHER
(R315; log 133). -/
def State.countRow4 (s : State) (p : PierIx) : State := s.bump (causeFld 4) p.val 1

/-- The effect of a JOINT: every open statistics tile is written, and the pier waits (R155, R305). -/
def State.jointEffect (s : State) (p : PierIx) (t : Nat) (config : Option Nat) : State :=
  let s1 := (s.pier p).stats.foldl (fun s e => s.flushStats p e.region t) (s.countRow4 p)
  (s1.setPier p { s1.pier p with atJoint := some config }).setFld Fld.PCTL_STATUS_STATE p.val 4

/-- JOINT with its check: room for every open statistics tile. -/
def runJoint (failed : Bool) (p : PierIx) (t : Nat) (config : Option Nat) (s : State) : State :=
  s.issue failed (.joint p t config) p t
    (fun s => Needs.item (firstLate ((s.pier p).stats.map (fun e => s.roomLate failed p e.region 1 t))))
    (fun s => s.jointEffect p t config)

/-- JOINT. -/
def execJoint (p : PierIx) (t : Nat) (config : Option Nat) (s : State) : Host.Outcome State Fault Refusal :=
  .next (runJoint false p t config s)

/-- The stall domains of the binding, each once. -/
def State.domains (s : State) : List Dom := (s.binding.map s.domOf).eraseDups

/-- Does a domain count wait cycles: each of its piers waits at a joint or has halted (R578), and no brace holds it? -/
def State.waiting (s : State) (d : Dom) : Bool :=
  !s.flag Fld.TOKEN_STATUS_BRACE 0 && (s.domPiers d).all (fun p =>
    s.fld Fld.PCTL_STATUS_STATE p.val = 5 || (s.fld Fld.PCTL_STATUS_STATE p.val = 4 && (s.pier p).atJoint.isSome))

/-- All work of the domains that wait goes on to its end, or until an item is late (R578). -/
def State.settleAll (s : State) : State :=
  (s.domains.filter s.waiting).foldl (fun s d => s.settle d (2 ^ 64)) s

/-- Is all scheduled work of the bound piers done, with every copy run complete (R305)? -/
def State.workDone (s : State) : Bool :=
  !s.flight.any (fun w => s.binding.contains w.pier) &&
  s.binding.all (fun p => (List.finRange 8).all (fun d => s.runDone p d))

/-- Are the tags of every gang whose descriptor the joint changes landed (R210)? With `every`, of every gang. -/
def State.gangsLanded (s : State) (p : PierIx) (config : Option Nat) (every : Bool) : Bool :=
  let ch := match config with
    | some i => s.changedStreams p (s.entryAt 3 i 2 2) false
    | none => []
  !s.tags.any (fun x => x.pier = p && (match x.owner with
    | .stream n => every || ch.contains n
    | .copy _ => false))

/-- Have all bound piers arrived at the joint with their work done (R305)? -/
def State.jointReady (s : State) (every : Bool) : Bool :=
  !s.binding.isEmpty && !s.flag Fld.TOKEN_STATUS_BRACE 0 && s.workDone && s.binding.all (fun p =>
    match (s.pier p).atJoint with
    | some c => s.fld Fld.PCTL_STATUS_STATE p.val = 4 && s.gangsLanded p c every && !c.any s.recordWaits
    | none => false)

/-- A pier's slots issue again, the next in the cycle after `cycle`: the wait counts in PCTL_STALL (R306, R314, R578). -/
def State.resumeAt (s : State) (p : PierIx) (cycle : Nat) : State :=
  let n := max (s.fld Fld.PCTL_STALL_CYCLES p.val) (cycle + 1 - s.fld Fld.PCTL_SLOT_SLOT p.val)
  (s.setFld Fld.PCTL_STALL_CYCLES p.val n).setFld Fld.PCTL_STATUS_STATE p.val 2

/-- One more joint is complete (R305, R314, R316). -/
def State.countJoint (s : State) : State :=
  (s.binding.foldl (fun s p => s.wrapAdd Fld.PCTL_STATUS_JOINT_INDEX p.val 1) s).wrapAdd Fld.SCHED_STATUS_JOINT_INDEX 0 1

/-- What a pier keeps of slots that are past is of no account after a joint, which all earlier work has reached its end before (R305,
R578). -/
def Pier.afterJoint (x : Pier) : Pier :=
  { x with
    atJoint := none, cache := [], pathFrom := 0, pathTo := 0, vready := [], claims := [], stall := none, lastPart := 0 }

/-- The same of an arch. -/
def Arch.afterJoint (x : Arch) : Arch :=
  { x with loadSlot := none, captures := [], portFrom := 0, portTo := 0, cleared := (0, []) }

/-- A pier after a joint. -/
def State.pierAfterJoint (s : State) (p : PierIx) : State :=
  ((List.finRange 4).foldl (fun s a => s.setArch p a (s.arch p a).afterJoint) (s.setPier p (s.pier p).afterJoint)).seeAll p

/-- The piers leave the joint: each applies the record it names, its cache is invalid, and its next slot issues; a change of
COMP takes 32 cycles more (R94, R178, R305). Tags that waited for the watch entries freed by the record issue their requests (R206). -/
def State.leaveJoint (s : State) (cycle : Nat) : State :=
  let late := if s.binding.any (fun p => match (s.pier p).atJoint with
      | some (some i) => s.compChanges p i
      | _ => false) then 32 else 0
  (s.binding.foldl (fun s p =>
    let s1 := s.pierAfterJoint p
    let s2 := match (s.pier p).atJoint with
      | some (some i) => s1.applyRecord p i false
      | _ => s1
    s2.resumeAt p (cycle + late)) s).wakeTags

/-- A joint completes (R305). In a failing step every domain stops there, before the record is applied (R311); with PREEMPT
pending the save comes first (R307). -/
def State.jointComplete (s : State) (cycle : Nat) : State :=
  let s1 := s.settleAll
  let v := s.fld Fld.SCHED_STATUS_STATE 0
  if !s1.jointReady false then s1
  else if v = 4 then s1.domains.foldl (fun s d => s.stopDomain d) s1.countJoint
  else if v != 3 || s.flag Fld.SCHED_STATUS_PREEMPT_PENDING 0 then s1
  else s1.countJoint.leaveJoint cycle

/-- JOINT_COMPLETE. -/
def execJointComplete (cycle : Nat) (s : State) : Host.Outcome State Fault Refusal := .next (s.jointComplete cycle)

/-- Does a barrier's mask name a pier (R306)? -/
def State.barrierNames (s : State) (mask : BitVec 8) (unseg : Bool) (p : PierIx) : Bool :=
  match s.domOf p with
  | .seg g => mask.getLsbD g.val
  | .solo _ => unseg

/-- The mask of the pier that arrived first at the barrier of `p`, if one has (R310). -/
def State.firstMask (s : State) (p : PierIx) (mask : BitVec 8) (unseg : Bool) : Option (BitVec 8 × Bool) :=
  (s.binding.filter (fun q => q != p)).findSome? (fun q =>
    match (s.pier q).atBarrier with
    | some (m, u) => if s.barrierNames m u p || s.barrierNames mask unseg q then some (m, u) else none
    | none => none)

/-- The effect of a BARRIER: the pier waits; a mask that differs from that of the first arrival raises BARRIER_MISMATCH, and
the barrier goes on as if they matched (R306, R310). -/
def State.barrierEffect (s : State) (p : PierIx) (t : Nat) (mask : BitVec 8) (unseg : Bool) : State :=
  let m := (s.firstMask p mask unseg).getD (mask, unseg)
  let s1 := if m = (mask, unseg) then s
    else s.containFlag Fld.PCTL_ERR_BARRIER_MISMATCH p.val p t .barrierMismatch (t % 2 ^ 48)
  ((s1.countRow4 p).setPier p { s1.pier p with atBarrier := some m }).setFld Fld.PCTL_STATUS_STATE p.val 4

/-- BARRIER with its check. -/
def runBarrier (failed : Bool) (p : PierIx) (t : Nat) (mask : BitVec 8) (unseg : Bool) (s : State) : State :=
  s.issue failed (.barrier p t mask unseg) p t (fun _ => Needs.nothing) (fun s => s.barrierEffect p t mask unseg)

/-- BARRIER. -/
def execBarrier (p : PierIx) (t : Nat) (mask : BitVec 8) (unseg : Bool) (s : State) : Host.Outcome State Fault Refusal :=
  .next (runBarrier false p t mask unseg s)

/-- The bound piers that wait at the barrier of a mask. -/
def State.waitersOf (s : State) (mask : BitVec 8) (unseg : Bool) : List PierIx :=
  s.binding.filter (fun p => (s.pier p).atBarrier = some (mask, unseg))

/-- A barrier completes in every pier that its mask names, once all of them have arrived (R306). -/
def State.barrierComplete (s : State) (mask : BitVec 8) (unseg : Bool) (cycle : Nat) : State :=
  let ws := s.waitersOf mask unseg
  if !s.flag Fld.TOKEN_STATUS_BRACE 0 && (s.binding.filter (fun p => s.barrierNames mask unseg p)).all (fun p => ws.contains p) then
    ws.foldl (fun s p => (s.setPier p { s.pier p with atBarrier := none }).resumeAt p cycle) s
  else s

/-- BARRIER_COMPLETE. -/
def execBarrierComplete (mask : BitVec 8) (unseg : Bool) (cycle : Nat) (s : State) : Host.Outcome State Fault Refusal :=
  .next (s.barrierComplete mask unseg cycle)

/-- PARAPET_STATUS follows the parapets (R373). -/
def State.countParapets (s : State) : State :=
  (s.setFld Fld.PARAPET_STATUS_IN_USE 0 s.parapets.length).setFld Fld.PARAPET_STATUS_EVAL_ACTIVE 0
    (if s.parapets.any (fun p => p.kind = 2) then 1 else 0)

/-- The parapets of a launch are removed (R367). -/
def State.dropLaunchParapets (s : State) : State :=
  { s with parapets := s.parapets.filter (fun p => p.kind = 0) }.countParapets

/-- The physical pier of a logical number of the binding. -/
def State.physOf (s : State) (l : Nat) : Option PierIx := s.binding[l]?

/-- RESULT of LAUNCH and RESUME (R455): the slots and stalled cycles of logical pier 0 and the slot of the first fault. -/
def State.launchResult (s : State) : List Byte :=
  let p := (s.physOf 0).getD 0
  leBytes 8 (s.fld Fld.PCTL_SLOT_SLOT p.val) ++ leBytes 8 (s.fld Fld.PCTL_STALL_CYCLES p.val) ++
    leBytes 8 (s.fld Fld.SCHED_FAULT_SLOT 0)

/-- The opcodes of LAUNCH and RESUME (R455). -/
def launchOps : List Nat := [0x0203, 0x0205]

/-- The opcode of PREEMPT (R455). -/
def preemptOp : Nat := 0x0204

/-- Complete the command that started the program. -/
def State.finishLaunch (s : State) (c : Cc) (detail : Nat) : State :=
  match s.runningOp launchOps with
  | some (k, _) => s.finish k c detail s.launchResult
  | none => s

/-- Complete a pending PREEMPT, if there is one (R307-R309). -/
def State.finishPreempt (s : State) (c : Cc) (detail : Nat) (result : List Byte) : State :=
  let s1 := s.setFld Fld.SCHED_STATUS_PREEMPT_PENDING 0 0
  match s1.runningOp [preemptOp] with
  | some (k, _) => s1.finish k c detail result
  | none => s1

/-- The cycles from the last slot of its domain until the work of a halted pier was done: wait cycles, which PCTL_STALL counts (R314,
R578). Where a failed check or a copy has kept its work waiting, a free number of cycles more has passed, which no row of the table names
(log 166). -/
def State.haltWait (s : State) (p : PierIx) : State :=
  let s1 := s.wrapAdd Fld.PCTL_STALL_CYCLES p.val ((s.pier p).lastPart + 1 - s.domSlot (s.domOf p))
  if (s.pier p).haltHeld then s1.fresh.2.wrapAdd Fld.PCTL_STALL_CYCLES p.val (s1.fresh.1.toNat % 2 ^ 48) else s1

/-- Every bound pier has halted and all work is done: the schedule is done, and LAUNCH completes (R299, R309). -/
def State.scheduleDone (s : State) : State :=
  let s1 := s.settleAll
  if s.fld Fld.SCHED_STATUS_STATE 0 = 3 && !s.binding.isEmpty &&
      s1.binding.all (fun p => s1.fld Fld.PCTL_STATUS_STATE p.val = 5) && s1.workDone then
    let s2 := ((s1.binding.foldl State.haltWait s1).setFld Fld.SCHED_STATUS_STATE 0 6).dropLaunchParapets
    let s3 := { s2 with
      commitBarred := if s2.evaluating then s2.commitBarred else false
      evaluating := false }.finishLaunch .ok 0
    if s.flag Fld.SCHED_STATUS_PREEMPT_PENDING 0 then s3.finishPreempt .wrongState 0 [] else s3
  else s1

/-- SCHEDULE_DONE. -/
def execScheduleDone (s : State) : Host.Outcome State Fault Refusal := .next s.scheduleDone

/-- A domain that has reached no joint after a failure stops where it stands (R311). -/
def State.stopTimeout (s : State) (d : Dom) : State := if s.fld Fld.SCHED_STATUS_STATE 0 = 4 then s.stopDomain d else s

/-- STOP_TIMEOUT. -/
def execStopTimeout (d : Dom) (s : State) : Host.Outcome State Fault Refusal := .next (s.stopTimeout d)

/-- The DETAIL of STEP_ABANDONED (R480). -/
def State.abandonDetail (s : State) : Nat :=
  s.fld Fld.SCHED_FAULT_CODE 0 + s.fld Fld.SCHED_FAULT_PIER 0 * 2 ^ 16 + s.fld Fld.SCHED_FAULT_SLOT 0 % 2 ^ 40 * 2 ^ 23 +
    (if s.evaluating then 2 ^ 63 else 0)

/-- Every domain has stopped after a failure: STEP_ABANDONED is posted and LAUNCH or RESUME, and a pending PREEMPT, complete
with it; the binding stays in force (R308, R311, R370). -/
def State.stepAbandoned (s : State) : State :=
  if s.fld Fld.SCHED_STATUS_STATE 0 = 4 && s.binding.all (fun p => s.fld Fld.PCTL_STATUS_STATE p.val = 6) then
    let c := s.fld Fld.SCHED_FAULT_CODE 0
    let s1 := ((s.event .stepAbandoned 0 0 s.abandonDetail).setFld Fld.SCHED_STATUS_STATE 0 2).dropLaunchParapets
    let s2 := { s1 with evaluating := false }.finishLaunch .stepAbandoned c
    if s.flag Fld.SCHED_STATUS_PREEMPT_PENDING 0 then s2.finishPreempt .stepAbandoned c [] else s2
  else s

/-- STEP_ABANDONED. -/
def execStepAbandoned (s : State) : Host.Outcome State Fault Refusal := .next s.stepAbandoned

/-- The regions of a pier on which an engine waits (R177). -/
def State.waitMask (s : State) (p : PierIx) : Nat :=
  (List.finRange 64).foldl (fun n r => if (s.waitingOn p).contains r then n + 2 ^ r.val else n) 0

/-- The number of a domain in an event (R480). -/
def domCode : Dom → Nat
  | .seg g => g.val
  | .solo _ => 0xF

/-- Is a region of a pier the entry region of a segment whose extension port is up (R176, R385)? -/
def State.openEntry (s : State) (p : PierIx) (r : RegionIx) : Bool :=
  match s.domOf p with
  | .solo _ => false
  | .seg g =>
    let up (next : Bool) : Bool := match s.extPort g next with
      | some n => s.portState n = 5 || s.portState n = 6
      | none => false
    (s.extPier g false = some p && r = s.entryRegion p false && up false) ||
      (s.extPier g true = some p && r = s.entryRegion p true && up true)

/-- Does a pier signal that each of its engines with pending work waits on a region, that at least one does, and that no transfer is
outstanding (R176)? The schedule of a stalled domain waits where every failing item is a region's (log 134); one that waits at a joint
or a barrier does not. -/
def State.signals (s : State) (p : PierIx) : Bool :=
  (match (s.pier p).stall with
    | some x => (x.row = 0 || x.row = 6) && !x.beat
    | none => true) &&
  s.fld Fld.PCTL_STATUS_STATE p.val != 4 &&
  (s.stalled p || s.flight.any (fun w => w.pier = p) || !(s.waitingOn p).isEmpty) &&
  !s.tags.any (fun x => x.pier = p) && !s.refetches.any (fun e => e.1 = p) &&
  (s.gangOrder p).all (fun n => !s.gangMay p n) &&
  (List.finRange 8).all (fun d => !s.copyBusy p d && (s.runDone p d || (s.runWaits p d).isSome)) &&
  !(s.waitingOn p).any (fun r => s.openEntry p r)

/-- Is every pier of a domain kept from going on by regions alone (R176)? -/
def State.deadlocked (s : State) (d : Dom) : Bool :=
  let ps := s.domPiers d
  ps.all (fun p => s.signals p && !s.issuing p) && ps.any (fun p => !(s.waitingOn p).isEmpty)

/-- A domain's deadlock counter reaches its limit: REGION_DEADLOCK with the regions waited on, and the step fails; the domain stays as
it is (R176, R177, R184, R310). The event is posted where the flag of its lowest pier rises (R463). -/
def State.regionDeadlock (s : State) (d : Dom) : State :=
  match s.domPiers d with
  | [] => s
  | p :: ps =>
    if s.fld Fld.DEADLOCK_CFG_LIMIT_LOG2 p.val = 0 || !s.deadlocked d then s
    else
      let rises := !s.flag Fld.DECK_ERR_REGION_DEADLOCK p.val
      let s1 := (p :: ps).foldl (fun t q =>
        ((t.setFld Fld.DECK_ERR_REGION_DEADLOCK q.val 1).setFld Fld.DEADLOCK_REGIONS_WAIT_MASK q.val (s.waitMask q)).bump
          Fld.DECK_ERR_COUNT_DEADLOCK_COUNT q.val 1) s
      let l := s.fld Fld.PCTL_STATUS_LOGICAL p.val
      let s2 := if rises then s1.event .regionDeadlock 1 p.val (domCode d + l % 128 * 256) else s1
      s2.recordFault p (s.fld Fld.PCTL_SLOT_SLOT p.val)
        .regionDeadlock

/-- REGION_DEADLOCK. -/
def execRegionDeadlock (d : Dom) (s : State) : Host.Outcome State Fault Refusal := .next (s.regionDeadlock d)

/-- A quota window ends: every masked requester is unmasked (R164). -/
def State.quotaWindowEnd (s : State) : State :=
  s.binding.foldl (fun s p => s.setPier p { s.pier p with grants := [] }) s

/-- QUOTA_WINDOW_END. -/
def execQuotaWindowEnd (s : State) : Host.Outcome State Fault Refusal := .next s.quotaWindowEnd

/-- A line enters the pier cache: 8 ways of 256 sets (R178). The spec gives neither the set of a line nor the order of replacement: a
line goes to the set of its number modulo 256, and the oldest line of a full set leaves it (DESIGN CHOICE, log 58). -/
def cacheInsert (c : List CacheLine) (l : CacheLine) : List CacheLine :=
  let old := c.filter (fun e => e.line != l.line)
  let mates := old.filter (fun e => e.line % 256 = l.line % 256)
  (if mates.length < 8 then old
    else match mates.head? with
      | some m => old.filter (fun e => e.line != m.line)
      | none => old) ++ [l]

/-- The read of a line of the image from its home: whether it is uncorrectable (R235, R236, R442). -/
def State.readLine (s : State) (line : Nat) (u : Upset) : Bool × State :=
  match s.objAddr s.imageObject (128 * line) with
  | none => (false, s)
  | some a => if inStacks a then s.gateRead 0 a 128 u else s.hostReads a 128 u

/-- Is a line one of the next 256 bundles of a stream from a cursor on (R289)? `fuel` counts the bundles. -/
def State.lineAhead (s : State) (line : Nat) : Nat → Cursor → Bool
  | 0, _ => false
  | fuel + 1, x =>
    match s.bundleOff x.bundle with
    | none => false
    | some o => (bundleSpan o).contains line || s.lineAhead line fuel (s.cursorNext o x)

/-- Does a pier controller fetch a line of the image: one of a bundle at most 256 ahead of issue, one that holds no bundle, or one that a
VLDC waits for (R150, R178, R289)? -/
def State.mayFetch (s : State) (p : PierIx) (line : Nat) : Bool :=
  !(s.section 2).any (fun x => x.offset < 128 * line + 128 && 128 * line < x.offset + x.length) ||
  s.held.any (fun h => match h.instr with
    | .vldc q _ _ o f => q = p && (vldcLines o f).contains line
    | _ => false) ||
  s.lineAhead line 256 (s.cursorAt p (s.fld Fld.PCTL_SLOT_SLOT p.val))

/-- The fetch of a line of the image completes in a bound pier; an uncorrectable error raises BUNDLE_UE and stops the domain
(R178, R289, R310). -/
def State.cacheFill (s : State) (p : PierIx) (line : Nat) (u : Upset) : State :=
  if !s.launched || !s.binding.contains p || !s.mayFetch p line then s
  else
    let x := s.readLine line u
    if (s.objAddr s.imageObject (128 * line)).any (fun a => s.blocked a 128) then s
    else if x.1 then
      let t := s.fld Fld.PCTL_SLOT_SLOT p.val
      (x.2.containFlag Fld.PCTL_ERR_BUNDLE_UE p.val p t .bundleUe (t % 2 ^ 48)).stopDomain (s.domOf p)
    else
      x.2.setPier p { x.2.pier p with
        cache := cacheInsert (x.2.pier p).cache ⟨line, x.2.objBytes s.imageObject (128 * line) 128⟩ }

/-- PIER_CACHE_FILL. -/
def execPierCacheFill (p : PierIx) (line : Nat) (upset : Option (Nat × Nat)) (s : State) : Host.Outcome State Fault Refusal :=
  .next (s.cacheFill p line upset)

end Sys2Proof.Machine
end

