-- ==== Sys2Proof/Machine/Preempt.lean ====
section
/-! DEFINITION. PREEMPT, the save of a binding, and RESUME (R307-R309, R331). -/
namespace Sys2Proof.Machine

/-- The entries of a table from key `lo` on, `n` keys, numbered from 0. -/
def NMap.cut {α : Type} (m : NMap α) (lo n : Nat) : NMap α :=
  (m.filter (fun e => lo ≤ e.1 && e.1 < lo + n)).map (fun e => (e.1 - lo, e.2))

/-- A table with the `n` keys from `lo` on replaced by a part that `cut` took. -/
def NMap.paste {α : Type} (m : NMap α) (lo n : Nat) (part : NMap α) : NMap α :=
  m.filter (fun e => e.1 < lo) ++ (part.filter (fun e => e.1 < n)).map (fun e => (e.1 + lo, e.2)) ++
    m.filter (fun e => lo + n ≤ e.1)

/-- The registers of a pier's compute that a save holds, each with its number of instances in a pier (R307): all but those
that tell of the pier's own repairs. -/
def savedRegs : List (RegName × Nat) :=
  ((archBlock.filter (fun r => r.reg != .unitRepair)).map (fun r => (r.reg, 4 * r.count))) ++
  (vecBlock ++ deckBlock ++ approachBlock ++ copyBlock ++ pctlBlock ++ updBlock ++ rngBlock ++ stageBlock).map
    (fun r => (r.reg, r.count))

/-- The register words of a pier, by their place in it. -/
def State.pierRegs (s : State) (p : PierIx) : NMap Word :=
  savedRegs.flatMap (fun r => (List.range r.2).map (fun n => (regKey r.1 n, s.reg r.1 (p.val * r.2 + n))))

/-- Write register words back into a pier. -/
def State.putRegs (s : State) (p : PierIx) (m : NMap Word) : State :=
  savedRegs.foldl (fun s r => (List.range r.2).foldl (fun s n =>
    s.setReg r.1 (p.val * r.2 + n) (m.look (fun k => regDflt k) (regKey r.1 n))) s) s

/-- The bytes of a deck-store window: the data and the side store of a pier (R11). -/
def deckWindow (p : PierIx) : Nat := 0x010000000000 + p.val * 0x1000000

/-- The bytes of a window. -/
def windowSize : Nat := 0x1000000

/-- What a save keeps of a bound pier (R307). -/
def State.savePier (s : State) (p : PierIx) : SavedPier where
  bytes := s.mem.cut (deckWindow p) windowSize
  regs := s.pierRegs p
  entries := s.spandrel.cut (4 * p.val * 65536) (4 * 65536)
  archs := s.archs.cut (4 * p.val) 4
  regions := s.regions.cut (64 * p.val) 64
  slots := s.slots.cut (1024 * p.val) 1024
  gangs := s.gangs.cut (16 * p.val) 16
  runs := s.runs.cut (8 * p.val) 8
  pier := s.pier p
  held := s.fld Fld.PIER_HELD_HELD p.val

/-- Put a saved pier into a physical pier. -/
def State.restorePier (s : State) (p : PierIx) (x : SavedPier) : State :=
  { (s.putRegs p x.regs).setPier p x.pier with
    mem := s.mem.paste (deckWindow p) windowSize x.bytes
    spandrel := s.spandrel.paste (4 * p.val * 65536) (4 * 65536) x.entries
    archs := s.archs.paste (4 * p.val) 4 x.archs
    regions := s.regions.paste (64 * p.val) 64 x.regions
    slots := s.slots.paste (1024 * p.val) 1024 x.slots
    gangs := s.gangs.paste (16 * p.val) 16 x.gangs
    runs := s.runs.paste (8 * p.val) 8 x.runs }

/-- The bytes that a save of `n` piers takes (R307, R455). -/
def saveSize (n : Nat) : Nat := 1048576 + n * 9797760

/-- Is an object mapped and pinned with at least `n` bytes? -/
def State.pinned (s : State) (o n : Nat) : Bool := (s.object o).valid && !(s.object o).pooled && n ≤ (s.object o).size

/-- PREEMPT: it takes effect at the next joint (R307). A save object that is not mapped, not pinned or too small is refused. -/
def State.preempt (s : State) (k : MailIx) : State :=
  s.onPacket k preemptOp (fun p =>
    let o := p.le 0 4
    if p.begun then s
    else if !s.launched then s.refuse k.val .wrongState
    else if !(s.object o).valid then s.refuse k.val .objectAccess
    else if !s.pinned o (saveSize s.binding.length) then s.refuse k.val .badParam
    else (s.beginPacket k.val).setFld Fld.SCHED_STATUS_PREEMPT_PENDING 0 1)

/-- PREEMPT. -/
def execPreempt (k : MailIx) (s : State) : Host.Outcome State Fault Refusal := .next (s.preempt k)

/-- Do the stacks keep an access to an object's bytes waiting (R224, R231)? -/
def State.objectBlocked (s : State) (object : Nat) : Bool :=
  (s.entriesOf object).any (fun e => e.2.tier = 0 && s.blocked e.2.loc (2 ^ (s.object object).extentLog2))

/-- The 8 KiB of a save from offset `o` on, as far as its `n` bytes go, are written (R307): their bytes are the module's own affair, so they
are free values (R308; log 135). What lies in a stack is written in bursts of the write class (R227), and into a mirrored object the run is
forwarded (R411). -/
def State.saveRun (object n : Nat) (s : State) (o : Nat) : State :=
  match s.objAddr object o with
  | none => s
  | some a =>
    let bs := (List.range (min 8192 (n - o))).map (fun i => (Config.freeValue (s.freeCtr + i)).extractLsb' 0 8)
    let s1 := { s with freeCtr := s.freeCtr + bs.length }
    (s1.homeWrite (.access a) 1 a bs false object o).2.forwardRun (.access a) object o a bs false

/-- The `n` bytes of a save are written to its object (R307). -/
def State.writeSave (s : State) (object n : Nat) : State := (tileOffsets n).foldl (State.saveRun object n) s

/-- The save of `n` bytes is read from its object (R227, R308). -/
def State.readSave (s : State) (object n : Nat) : State := (s.readObject object 0 n).2

/-- The save is taken and the binding is left pre-empted (R307): the tokens are returned (R331), LAUNCH completes as
PREEMPTED, and PREEMPT with the bytes saved. -/
def State.saveBinding (s : State) (object : Nat) : State :=
  let n := saveSize s.binding.length
  let s1 := s.countJoint
  let x : Save := ⟨object, s.imageCover, s1.reg .viaductLayout 0, s1.reg .viaductExt 0, s1.binding.map s1.savePier,
    s1.fld Fld.SCHED_STATUS_JOINT_INDEX 0, s1.launchStep, s1.fld Fld.TOKEN_STATUS_BASE_W 0, s1.ramp⟩
  let s2 := (s1.binding.foldl (fun s p => (s.giveAll p).setFld Fld.PCTL_STATUS_STATE p.val 7) s1).writeSave object n
  let s3 := (s2.dropWatches (fun e => s2.binding.any (fun p => p.val = e.pier))).wakeTags
  let s4 := { s3.setFld Fld.SCHED_STATUS_STATE 0 5 with saves := s3.saves.filter (fun (y : Save) => y.object != object) ++ [x] }
  (s4.finishLaunch .preempted 0).finishPreempt .ok 0 (leBytes 8 n)

/-- At the joint after PREEMPT, once the tags of every gang have landed, the save is taken (R307). -/
def State.preemptSave (s : State) : State :=
  let s1 := s.settleAll
  if s1.flag Fld.SCHED_STATUS_PREEMPT_PENDING 0 && s1.fld Fld.SCHED_STATUS_STATE 0 = 3 && s1.jointReady true then
    match s1.runningOp [preemptOp] with
    | some (_, p) => if s1.objectBlocked (p.le 0 4) then s1 else s1.saveBinding (p.le 0 4)
    | none => s1
  else s1

/-- PREEMPT_SAVE. -/
def execPreemptSave (s : State) : Host.Outcome State Fault Refusal := .next s.preemptSave

/-- A slot of a halved region that an approach gang has filled comes back empty and is fetched anew into its place (R308). -/
def State.fetchAnew (s : State) (p : PierIx) (k : Nat) : State :=
  let x := s.slot p k
  if x.stream.isSome && x.full then
    { s.setSlot p k { x with full := false, refetching := true } with refetches := s.refetches ++ [(p, k)] }
  else s

/-- The slots of an approach gang come back empty, and the gang is rewound to its first unreleased tile (R308). In a halved region, whose
tiles must come back in the halves that the schedule reads, each is fetched anew into its slot (log 60). -/
def State.rewindGang (s : State) (p : PierIx) (n : Fin 16) : State :=
  let j := streamIx p n
  if !s.flag Fld.STREAM_DESC0_VALID j || s.fld Fld.STREAM_DESC0_GANG_POS j != 0 then s
  else
    let r := regionOf (s.fld Fld.STREAM_DESC0_REGION j)
    let x := s.region p r
    let g := s.gang j
    let w := s.streamWalk j
    let b := s.rdesc p r Fld.REGION_DESC_BASE
    if s.halves p r then (List.range (s.rdesc p r Fld.REGION_DESC_SIZE)).foldl (fun s i => s.fetchAnew p (b + i)) s
    else
    let s1 := (List.range (s.rdesc p r Fld.REGION_DESC_SIZE)).foldl (fun s i =>
      if (s.slot p (b + i)).stream.isSome then s.setSlot p (b + i) { SlotRec.init with gen := (s.slot p (b + i)).gen } else s) s
    let s2 := s1.setRegion p r { x with tail := x.head, occ := 0, fillP := 0, fillC := 0, freed := [] }
    let s3 := s2.setGang j ⟨g.next - g.reserved, 0⟩
    let started := s.streamBit Fld.APPROACH_STATUS_ARMED p n.val || s.streamBit Fld.APPROACH_STATUS_DONE p n.val
    if started && g.next - g.reserved < w.count then
      (s3.setGangBits Fld.APPROACH_STATUS_ARMED p n.val w.gang true).setGangBits Fld.APPROACH_STATUS_DONE p n.val w.gang false
    else s3

/-- A resumed pier claims the tokens of its save before its first slot, which R326 alone may keep it from (R331): what its span cannot
grant yet it goes on owing. -/
def State.reclaim (s : State) (p : PierIx) : State :=
  let n := (s.pier p).owing
  if n != 0 && s.fld Fld.SPAN_TOKEN_HELD (spanOf p) + n ≤ s.fld Fld.SPAN_TOKEN_GRANTED (spanOf p) then
    (s.acquire p n).setPier p { s.pier p with owing := 0 }
  else s

/-- The resumed piers of a domain claim their tokens; while one of them owes some, the domain stalls before its next slot (R331). -/
def State.reclaimAll (s : State) (d : Dom) : State :=
  let s1 := (s.domPiers d).foldl State.reclaim s
  match (s1.domPiers d).filter (fun p => (s1.pier p).owing != 0) with
  | [] => s1
  | ps => s1.stallSlot d (s1.domSlot d) (ps.map (fun p => (p, lateToken, ((s1.pier p).stallOf (s1.domSlot d)).row != 0)))

/-- The latest cycle that the saved piers have reached. -/
def State.lastCycle (s : State) : Nat :=
  s.binding.foldl (fun m p => max m (s.fld Fld.PCTL_SLOT_SLOT p.val + s.fld Fld.PCTL_STALL_CYCLES p.val)) 0

/-- A save is restored and its binding continues at the slot after the joint (R308). Under brace its piers hold there
(R501). -/
def State.restore (s : State) (x : Save) : State :=
  let s0 := s.readSave x.object (saveSize x.piers.length)
  let ps := s0.binding.zip x.piers
  let s1 := ps.foldl (fun s e =>
    ((s.restorePier e.1 e.2).setFld Fld.PIER_HELD_HELD e.1.val 0).setFld Fld.PCTL_STATUS_STATE e.1.val 4) s0
  let s2 := s1.binding.foldl (fun s p => (List.finRange 16).foldl (fun s n => s.rewindGang p n) s) s1
  let s3 := { ((s2.setFld Fld.SCHED_STATUS_STATE 0 3).setFld Fld.SCHED_STATUS_JOINT_INDEX 0 x.joint).setFld
      Fld.TOKEN_STATUS_BASE_W 0 x.tokenBase with
    ramp := x.ramp
    launchStep := x.step }.rebudget
  let s4 := s3.leaveJoint (s3.lastCycle - 1)
  let s5 := ps.foldl (fun s e => s.setPier e.1 { s.pier e.1 with owing := e.2.held }) s4
  let s6 := s5.domains.foldl State.reclaimAll s5
  if s6.flag Fld.TOKEN_STATUS_BRACE 0 then s6.setPctl (s6.binding.filter (fun p => s6.issuing p)) 3 else s6

/-- The save in an object that the binding in force can resume (R308). -/
def State.saveFor (s : State) (object : Nat) : Option Save :=
  s.saves.find? (fun x => x.object = object && (s.object object).valid && x.image = s.imageCover &&
    x.piers.length = s.binding.length && x.layout = s.reg .viaductLayout 0 && x.ext = s.reg .viaductExt 0)

end Sys2Proof.Machine
end

