-- ==== Sys2Proof/Machine/Bind.lean ====
section
/-! DEFINITION. LOAD_IMAGE (R287-R289) and BIND (R25, R115, R116, R125, R293). -/
namespace Sys2Proof.Machine

/-- A pier has no logical number: it is bypassed on both carriageways (R25, R134). -/
def State.unbindPier (s : State) (p : Nat) : State :=
  let b := s.fld Fld.RING_CFG_BROKEN p
  ((((s.setReg .ringCfg p (regInit .ringCfg p)).setFld Fld.RING_CFG_BROKEN p b).setFld Fld.PCTL_STATUS_STATE p 0).setFld
    Fld.PCTL_STATUS_LOGICAL p 0xFF).setFld Fld.PCTL_STATUS_DOMAIN p 0xF

/-- No binding is in force. -/
def State.unbind (s : State) : State :=
  let s1 := (List.range 136).foldl (fun s p => s.unbindPier p) s
  let s2 := (s1.setReg .viaductLayout 0 0).setReg .viaductExt 0 (regInit .viaductExt 0)
  let s3 := ((s2.setFld Fld.VIADUCT_STATUS_BOUND 0 0).setFld Fld.VIADUCT_STATUS_MAX_EXTRA 0 0).setFld
    Fld.SCHED_STATUS_BOUND_N 0 0
  { (s3.setFld Fld.SCHED_STATUS_BINDING 0 0).setFld Fld.SCHED_STATUS_JOINT_INDEX 0 0 with
    binding := []
    unnumbered := []
    held := []
    flight := []
    ring := [] }.rebudget

/-- The image in force is that of `imageObject`: the old one is unloaded, the parapet of R289 is placed, and MR4 is extended
(R553). -/
def State.takeImage (s : State) : State :=
  let s1 := s.unbind.setFld Fld.SCHED_STATUS_STATE 0 1
  let s2 := ((s1.setFld Fld.SCHED_IMAGE_ARCH_LEVEL 0 (s.img 4 2)).setFld Fld.SCHED_IMAGE_FORMAT_MINOR 0 (s.img 6 2)).setFld
    Fld.SCHED_IMAGE_FLAGS 0 (s.img 8 4)
  let s3 := { s2 with
    imageBudget := s.img 24 4
    parapets := [⟨0, s.imageObject, 0, ((s.object s.imageObject).size + 127) / 128⟩] }.countParapets
  s3.extendMr 4 (sha384 s.imageCover)

/-- Is a program launched or pre-empted (R316)? -/
def State.inProgram (s : State) : Bool := s.launched || s.fld Fld.SCHED_STATUS_STATE 0 = 5

/-- The bytes of the image in an object: up to the end of its signature, or of its section table where none is found. -/
def State.imageLength (s : State) : Nat :=
  min (s.object s.imageObject).size (max (64 + 16 * s.img 14 2) (s.sigSection.offset + s.sigSection.length))

/-- LOAD_IMAGE (R287, R455, R552): the tollhouse reads the image, once it need not wait, and a refused image changes nothing else. An
image with poisoned bytes has no signature that can be verified (DESIGN CHOICE, log 164). -/
def State.loadImage (s : State) (k : MailIx) : State :=
  s.onPacket k 0x0201 (fun p =>
    let o := p.le 0 4
    let s0 := { s with imageObject := o }
    let x := s0.readObject o 0 s0.imageLength
    let s1 := x.2
    if s.inProgram then s.refuse k.val .wrongState
    else if !(s.object o).valid then s.refuse k.val .objectAccess
    else if (s.object o).pooled then s.refuse k.val .badParam
    else if s.readWaits o 0 s0.imageLength then s
    else if x.1 || !s1.imageSigned then { s1 with imageObject := s.imageObject }.refuse k.val .imageSignature
    else
      match s1.imageBad with
      | some (ty, at_) => { s1 with imageObject := s.imageObject }.finish k.val .imageRefused ty (leBytes 8 at_)
      | none => s1.takeImage.finish k.val .ok 0 [])

/-- LOAD_IMAGE. -/
def execLoadImage (k : MailIx) (s : State) : Host.Outcome State Fault Refusal := .next (s.loadImage k)

/-- The physical piers that BIND numbers 0 to `n - 1`: the admitted ones in the CW order of the viaduct, from the lowest
admitted physical pier on (R25). -/
def State.numbered (s : State) (n : Nat) : List PierIx :=
  match (List.finRange 136).find? (fun p => s.admitted.contains p) with
  | none => []
  | some p0 => (((List.range 136).map (fun i => pierAt (viaductPos p0 + i))).filter (fun p => s.admitted.contains p)).take n

/-- The extra cycles between two places of the viaduct that follow one another: 5 for the spine, 1 for another joint
(R125). -/
def crossing (i : Nat) : Nat := if i % 136 = 135 then 5 else if i % 8 = 7 then 1 else 0

/-- The places between pier `a` and the next logical pier `b` in the direction CW. -/
def placesFrom (a b : PierIx) : Nat := (viaductPos b + 136 - viaductPos a) % 136

/-- The extra cycles from pier `a` to the next logical pier `b` on CW (R125). -/
def hopExtra (a b : PierIx) : Nat :=
  let d := placesFrom a b
  ((List.range d).map (fun i => crossing (viaductPos a + i))).foldl (· + ·) 0 + (d - 1)

/-- The piers of segment `k` of a layout over numbered piers, from its first logical pier on. -/
def segmentOf (lw : Nat) (ps : List PierIx) (k : Nat) : List PierIx :=
  (List.range (segSize lw k / 4)).filterMap (fun j => ps[(segFirst lw ps.length k + j) % ps.length]?)

/-- The extra cycles of each hop of a list of piers. -/
def hops : List PierIx → List Nat
  | a :: b :: t => hopExtra a b :: hops (b :: t)
  | _ => []

/-- e(k) on CW and on CCW of each pier of a segment (R125). -/
def extras (seg : List PierIx) : List (Nat × Nat) :=
  let h := hops seg
  (List.range seg.length).map (fun k => ((h.take k).foldl (· + ·) 0, (h.drop k).foldl (· + ·) 0))

/-- Does the path of a list of piers cross a broken pier (R116, R139)? -/
def State.brokenPath (s : State) : List PierIx → Bool
  | a :: b :: t =>
    (List.range (placesFrom a b + 1)).any (fun i => s.flag Fld.RING_CFG_BROKEN (pierAt (viaductPos a + i)).val) ||
      State.brokenPath s (b :: t)
  | _ => false

/-- The ports that a layout names (R128). -/
def layoutPorts (lw ew : Nat) : List Nat :=
  ((List.range (segCount lw)).flatMap (fun k => [extNext ew k, extPrev ew k])).filter (fun p => p < 12)

/-- Does R116 or R122 refuse the layout of binding entry `b` at offset `o` over numbered piers? -/
def State.layoutBad (s : State) (b o : Nat) (ps : List PierIx) : Bool :=
  let lw := s.img o 8
  let ew := s.img (o + 8) 8
  let n := ps.length
  let ports := layoutPorts lw ew
  let ks := List.range (segCount lw)
  4 * n < segOffset lw (segCount lw) || n ≤ 16 * bits lw 4 3 ||
  ks.any (fun k => segOffset lw k % segSize lw k != 0) ||
  ks.any (fun k => s.brokenPath (segmentOf lw ps k)) ||
  ks.any (fun k => (extras (segmentOf lw ps k)).any (fun e => 48 < e.1 || 48 < e.2)) ||
  !distinct ports || ports.any (fun p => s.fld Fld.PORT_CFG_ROLE p != 2) ||
  (List.range n).any (fun l => match segOfPier lw n l with
    | some k => (s.scanPier b o l).injects.any (fun i => tilesLimit (segSize lw k) < i.2.1)
    | none => false)

/-- The binding entry for a pier count: its number and offset (R293). -/
def State.bindingFor (s : State) (n : Nat) : Option (Nat × Nat) :=
  (s.bindings.zipIdx.find? (fun e => s.bindingN e.1 = n)).map (fun e => (e.2, e.1))

/-- Does a module or stack test run (R524)? -/
def State.moduleTest (s : State) : Bool := s.bist.isSome

/-- The role of place `j` among the `m` piers of a segment (R134). -/
def placeRole (m j : Nat) : Nat := if j = 0 then 2 else if j + 1 = m then 4 else 3

/-- Bind logical pier `l` to physical pier `p` (R133, R134, R314). -/
def State.bindPier (s : State) (o : Nat) (ps : List PierIx) (state l : Nat) (p : PierIx) : State :=
  let lw := s.img o 8
  let n := ps.length
  let e := s.pierEntry o l
  let s1 := ((((s.setFld Fld.RING_CFG_ENTRY_CW p.val e.entryCw).setFld Fld.RING_CFG_ENTRY_CCW p.val e.entryCcw).setFld
    Fld.RING_CFG_EXIT_CW p.val e.exitCw).setFld Fld.RING_CFG_EXIT_CCW p.val e.exitCcw)
  let s2 := (s1.setFld Fld.PCTL_STATUS_STATE p.val state).setFld Fld.PCTL_STATUS_LOGICAL p.val l
  match segOfPier lw n l with
  | none => s2.setFld Fld.RING_CFG_ROLE p.val 0
  | some k =>
    let j := segPlaceOf lw n k l
    let seg := segmentOf lw ps k
    let x := (extras seg).getD j (0, 0)
    ((((s2.setFld Fld.RING_CFG_ROLE p.val (placeRole seg.length j)).setFld Fld.RING_CFG_SEGMENT p.val k).setFld
      Fld.RING_CFG_TRIM_CW p.val (48 - x.1)).setFld Fld.RING_CFG_TRIM_CCW p.val (48 - x.2)).setFld
      Fld.PCTL_STATUS_DOMAIN p.val k

/-- The bound piers take their logical numbers and domains again, as the binding in force has them: doze has returned the pier registers to
their defaults (R521). -/
def State.placePiers (s : State) : State :=
  let lw := (s.reg .viaductLayout 0).toNat
  s.binding.zipIdx.foldl (fun s e =>
    (s.setFld Fld.PCTL_STATUS_LOGICAL e.1.val e.2).setFld Fld.PCTL_STATUS_DOMAIN e.1.val
      ((segOfPier lw s.binding.length e.2).getD 15)) s

/-- The largest e(k) of a layout (R139). -/
def maxExtra (lw : Nat) (ps : List PierIx) : Nat :=
  ((List.range (segCount lw)).flatMap (fun k => (extras (segmentOf lw ps k)).flatMap (fun e => [e.1, e.2]))).foldl max 0

/-- Binding entry `b` at offset `o` comes into force over numbered piers (R293). -/
def State.bindTo (s : State) (b o : Nat) (ps : List PierIx) : State :=
  let lw := s.img o 8
  let kept := s.fld Fld.SCHED_STATUS_STATE 0 = 5
  let joints := s.fld Fld.SCHED_STATUS_JOINT_INDEX 0
  let s1 := s.unbind
  let s2 := ps.zipIdx.foldl (fun s e => s.bindPier o ps (if kept then 7 else 1) e.2 e.1) s1
  let s3 := (s2.setReg .viaductLayout 0 (BitVec.ofNat 64 lw)).setReg .viaductExt 0 (BitVec.ofNat 64 (s.img (o + 8) 8))
  let s4 := (s3.setFld Fld.VIADUCT_STATUS_BOUND 0 1).setFld Fld.VIADUCT_STATUS_MAX_EXTRA 0 (maxExtra lw ps)
  let s5 := (((s4.setFld Fld.SCHED_STATUS_STATE 0 (if kept then 5 else 2)).setFld Fld.SCHED_STATUS_BOUND_N 0 ps.length).setFld
    Fld.SCHED_STATUS_BINDING 0 b).setFld Fld.SCHED_STATUS_JOINT_INDEX 0 (if kept then joints else 0)
  { s5 with binding := ps }.rebudget.drainRing

/-- Why BIND is refused, in the order of R293. -/
def State.bindRefusal (s : State) (n : Nat) : Option Cc :=
  if s.fld Fld.SCHED_STATUS_STATE 0 = 0 then some .noBinding
  else if s.launched || s.moduleTest then some .wrongState
  else if s.admitted.length < n then some .piersShort
  else
    match s.bindingFor n with
    | none => some .noBinding
    | some (b, o) =>
      let ports := layoutPorts (s.img o 8) (s.img (o + 8) 8)
      if s.layoutBad b o (s.numbered n) then some .ringLayout
      else if 2 ≤ s.img 20 2 && ports.isEmpty then some .seqTooLong
      else if s.fld Fld.SCHED_STATUS_STATE 0 = 5 && s.fld Fld.SCHED_STATUS_BOUND_N 0 != n then some .wrongState
      else none

/-- BIND (R293). A refused BIND leaves any earlier binding in force. -/
def State.bindCmd (s : State) (k : MailIx) : State :=
  s.onPacket k 0x0202 (fun p =>
    let n := p.le 0 1
    match s.bindRefusal n, s.bindingFor n with
    | some c, _ => s.refuse k.val c
    | none, some (b, o) =>
      let s1 := s.bindTo b o (s.numbered n)
      s1.finish k.val .ok 0 [BitVec.ofNat 8 b, BitVec.ofNat 8 (s1.fld Fld.VIADUCT_STATUS_MAX_EXTRA 0)]
    | none, none => s.refuse k.val .noBinding)

/-- BIND. -/
def execBind (k : MailIx) (s : State) : Host.Outcome State Fault Refusal := .next (s.bindCmd k)

end Sys2Proof.Machine
end

