-- ==== Sys2Proof/Machine/ObjCmd.lean ====
section
/-! DEFINITION. The commands on objects, windows and the budget: MAP_OBJECT (R265), MOVE_OBJECT (R266), OPEN_WINDOW and
CLOSE_WINDOW (R277-R281), SET_BUDGET (R34). -/
namespace Sys2Proof.Machine

/-- Do `[a, a + n)` and `[b, b + m)` overlap? -/
def rangesMeet (a n b m : Nat) : Bool := a < b + m && b < a + n

/-- The stack homes of every object but one, and those that moves and bring-ups are bringing about: object pooled, location and size. -/
def State.otherHomes (s : State) (n : Nat) : List (Bool × Nat × Nat) :=
  (s.objects.filter (fun o => o.1 != n && o.2.valid)).flatMap (fun o =>
    ((s.entriesOf o.1).filter (fun e => e.2.valid && e.2.tier = 0)).map (fun e =>
      (o.2.pooled, e.2.loc, 2 ^ o.2.extentLog2))) ++
  (s.moves.filter (fun m => m.object != n && m.tier = 0 && m.stage != .freed)).map (fun m =>
    ((s.object m.object).pooled, m.loc, 2 ^ (s.object m.object).extentLog2))

/-- Is the pair state neither UNPAIRED nor SOLO (R407)? -/
def State.pairLocked (s : State) : Bool :=
  let p := s.fld Fld.PAIR_STATUS_STATE 0
  p != 0 && p != 4

/-- The stack extents of a mapping: those with VALID = 1 and TIER = 0. -/
def stackLocs (es : List HomeEntry) : List Nat := (es.filter (fun e => e.valid && e.tier = 0)).map HomeEntry.loc

/-- Is a stack location of an extent in block 1,023, or does it cross a block (R263, R265)? -/
def badBlock (loc size : Nat) : Bool := 1023 ≤ blockOf loc || blockOf loc != blockOf (loc + size - 1)

/-- Is an object mirrored: MIRROR = 1, or a promoted copy of the sender of a rejoin, which is treated as one (R406, R431)? -/
def State.asMirrored (s : State) (n : Nat) : Bool :=
  (s.object n).valid && ((s.object n).mirror || (s.rejoinSender && s.promoted.contains n))

/-- Why MAP_OBJECT is refused, in the order of R265: object, MODE, record and entries. A pooled extent that is not given with TIER = 1 and
LOC equal to BACKING, as R455 asks, fails check 6 (DESIGN CHOICE, log 46: no code is named for it). -/
def State.mapRefusal (s : State) (n : Nat) (loc : Bool) (d : ObjRec) (es : List HomeEntry) : Option Cc :=
  let old := s.object n
  let size := 2 ^ d.extentLog2
  let used := ((s.objects.filter (fun o => o.1 != n && o.2.valid)).map (fun o => o.2.count)).foldl (· + ·) 0
  let locs := stackLocs es
  if s.underParapet n then some .objectParapet
  else if (old.valid && (s.entriesOf n).any (fun e => e.2.moving)) || s.moves.any (fun m => m.object = n) then
    some .objectMoving
  else if d.valid && d.mirror && (d.pooled || es.any (fun e => e.tier != 0)) then some .pairLocked
  else if s.pairLocked && ((d.valid && d.mirror) != (old.valid && old.mirror) || s.asMirrored n || s.isMirrorCopy n) then
    some .pairLocked
  else if !d.valid then none
  else if 4194304 < used + d.count || 4194304 < d.first + d.count then some .tableFull
  else if s.objects.any (fun o => o.1 != n && o.2.valid && rangesMeet d.first d.count o.2.first o.2.count) then some .placement
  else if locs.any (fun a => badBlock a size) then some .placement
  else if (s.otherHomes n).any (fun h => (!h.1 || d.pooled) && locs.any (fun a => rangesMeet a size h.2.1 h.2.2)) then
    some .placement
  else if d.pooled && (d.extentLog2 != 21 || es.any (fun e => e.valid && (e.tier != 1 || e.loc != e.backing))) then
    some .poolMapping
  else if locs.any (fun a => s.stackLocal (blockOf a) != loc && (s.otherHomes n).any (fun h => blockOf h.2.1 = blockOf a)) then
    some .modeInUse
  else none

/-- The pooled extents of other objects that lie under a mapping's stack extents: their entries (R265). -/
def State.coveredFrames (s : State) (n : Nat) (d : ObjRec) (es : List HomeEntry) : List Nat :=
  (s.objects.filter (fun o => o.1 != n && o.2.valid && o.2.pooled)).flatMap (fun o =>
    ((s.entriesOf o.1).filter (fun e => e.2.valid && e.2.tier = 0 &&
      (stackLocs es).any (fun a => rangesMeet a (2 ^ d.extentLog2) e.2.loc (2 ^ o.2.extentLog2)))).map Prod.fst)

/-- Is a move of a pooled extent of another object, a bring-up or one by command, filling frames under a mapping's stack extents (R265,
R271)? -/
def State.coveredFills (s : State) (n : Nat) (d : ObjRec) (es : List HomeEntry) : Bool :=
  s.moves.any (fun m => m.object != n && m.tier = 0 && m.stage != .freed && (s.object m.object).pooled &&
    (stackLocs es).any (fun a => rangesMeet a (2 ^ d.extentLog2) m.loc (2 ^ (s.object m.object).extentLog2)))

/-- The mapping of an object is replaced: the interleave mode of its blocks, its record and its entries (R223, R265). -/
def State.mapTo (s : State) (n : Nat) (loc : Bool) (d : ObjRec) (es : List HomeEntry) : State :=
  let old := s.object n
  let gone (i : Nat) : Bool := old.valid && old.first ≤ i && i < old.first + old.count
  let s1 := { s with
    homes := s.homes.filter (fun e => !gone e.1)
    bringUps := s.bringUps.filter (fun i => !gone i) }
  let s2 := (stackLocs es).foldl (fun s a => s.setMode (blockOf a) loc) s1
  let s3 := s2.setObject n (if d.valid then d else ObjRec.init)
  let s4 := if d.valid then es.zipIdx.foldl (fun s e => s.setHome (d.first + e.2) { e.1 with age := s.now }) s3 else s3
  s4.refreshPool.wake

/-- What the packet that runs in a slot keeps changes. -/
def State.keepPacket (s : State) (k : Nat) (f : Packet → Packet) : State :=
  s.setMail k { s.mailSlot k with running := (s.mailSlot k).running.map f }

/-- A MAP_OBJECT that has its entries keeps them in its packet: what host memory holds later does not count (R446). -/
def Packet.withEntries (p : Packet) (raw : List (List Byte)) : Packet :=
  { p with params := p.params.take 24 ++ List.replicate 8 0 ++ raw.flatten }

/-- The entries that a MAP_OBJECT brings (R265, R455). -/
def State.homeEntries (s : State) (p : Packet) : List (List Byte) :=
  let d := p.record
  let host := p.le 24 8
  if !d.valid then []
  else if host = 0 then cutBytes 32 d.count (p.params.drop 32)
  else cutBytes 32 d.count (s.bytes host (32 * d.count))

/-- MAP_OBJECT (R265); `status` is that of the read of the entries from host memory (R442, R455). The command waits while pooled
extents under the mapping are evicted, and while a transfer translated through the old entries is not complete (R264); its checks hold
when the mapping is replaced (R223). -/
def State.mapObject (s : State) (k : MailIx) (status : Fin 4) : State :=
  s.onPacket k 0x0301 (fun p =>
    let n := p.le 0 4
    let d := p.record
    let raw := s.homeEntries p
    let es := raw.map homeOf
    let mode := p.le 4 1 = 1
    let read := !p.begun && d.valid && p.le 24 8 != 0
    let s := if read then s.jwRead (p.le 24 8) (32 * d.count) false else s
    if read && status != 0 then s.hostFaulted k.val status (p.le 24 8)
    else if !raw.all (homeOk d.pooled) then s.refuse k.val .badParam
    else
      match s.mapRefusal n mode d es with
      | some c => s.refuse k.val c
      | none =>
        let s1 := if p.begun then s else (s.beginPacket k.val).keepPacket k.val (fun q => q.withEntries raw)
        let under := if d.valid && !d.pooled then s.coveredFrames n d es else []
        if !under.isEmpty then
          (under.filter (fun i => !(s.home i).moving && !s.entryBusy i)).foldl (fun s i => s.startEvict i) s1
        else if (d.valid && !d.pooled && s.coveredFills n d es) ||
            ((s.object n).valid && (s.entriesOf n).any (fun e => s.entryBusy e.1)) then s1
        else (s1.mapTo n mode d es).finish k.val .ok 0 [])

/-- MAP_OBJECT. -/
def execMapObject (k : MailIx) (status : Fin 4) (s : State) : Host.Outcome State Fault Refusal := .next (s.mapObject k status)

/-- Why MOVE_OBJECT is refused (R265, R266, R406): object, first extent, count, tier and location. -/
def State.moveRefusal (s : State) (n first count tier loc : Nat) : Option Cc :=
  let d := s.object n
  let size := 2 ^ d.extentLog2
  let locs := if tier = 0 then (List.range count).map (fun i => loc + i * size) else []
  if !d.valid then some .objectAccess
  else if d.count < first + count then some .rangeExceeded
  else if s.moves.any (fun m => m.object = n) || (s.entriesOf n).any (fun e => e.2.moving) then some .objectMoving
  else if tier = 1 && (s.asMirrored n || s.isMirrorCopy n) then some .pairLocked
  else if tier = 1 && 2 ^ 48 < loc + count * size then some .badParam
  else if locs.any (fun a => badBlock a size) then some .placement
  else if (s.otherHomes n).any (fun h => locs.any (fun a => rangesMeet a size h.2.1 h.2.2)) then some .placement
  else if d.pooled && locs.any (fun a => a % 2 ^ 21 != 0 || s.stackLocal (blockOf a)) then some .poolMapping
  else none

/-- MOVE_OBJECT: its extents move one after another in increasing order (R266); EXTENT_MOVE carries each move out. -/
def State.moveObject (s : State) (k : MailIx) : State :=
  s.onPacket k 0x0302 (fun p =>
    let n := p.le 0 4
    let first := p.le 4 4
    let count := p.le 8 4
    let tier := p.le 12 1
    if p.begun then s
    else
      match s.moveRefusal n first count tier (p.le 16 8) with
      | some c => s.refuse k.val c
      | none =>
        if count = 0 then s.finish k.val .ok 0 (leBytes 4 0)
        else
          let ms : List Move := (List.range count).map (fun i =>
            ⟨n, first + i, tier, p.le 16 8 + i * 2 ^ (s.object n).extentLog2, .command k.val, .queued, false⟩)
          let s1 := s.beginPacket k.val
          { s1 with moves := s1.moves ++ ms }.nextTurns)

/-- MOVE_OBJECT. -/
def execMoveObject (k : MailIx) (s : State) : Host.Outcome State Fault Refusal := .next (s.moveObject k)

/-- The windows that are open (R39, R284). -/
def State.openWindows (s : State) : Nat := (s.windows.filter (fun e => e.2.isOpen)).length

/-- OPEN_WINDOW (R277). -/
def State.openWindow (s : State) (k : MailIx) : State :=
  s.onPacket k 0x0303 (fun p =>
    let i := p.le 0 4
    let w := s.window i
    let n := p.le 8 4
    if w.isOpen || w.retired then s.refuse k.val .windowState
    else if s.isMirrorCopy n then s.refuse k.val .mirrorCopy
    else if !(s.object n).valid then s.refuse k.val .objectAccess
    else if (s.object n).size < p.le 16 8 + p.le 24 8 then s.refuse k.val .rangeExceeded
    else if 1048576 ≤ s.openWindows then s.refuse k.val .windowLimit
    else
      (s.setWindow i ⟨true, p.le 4 1 % 2 = 1, p.le 4 1 / 2 = 1, false, n, p.le 16 8, p.le 24 8, w.epoch, p.le 6 2⟩).finish k.val
        .ok 0 (leBytes 4 w.epoch.toNat))

/-- OPEN_WINDOW. -/
def execOpenWindow (k : MailIx) (s : State) : Host.Outcome State Fault Refusal := .next (s.openWindow k)

/-- The context of a window after a close: the epoch goes up, or the window retires (R277, R281). -/
def Window.shut (w : Window) : Window :=
  if w.epoch = 0xFFFFFFFF then { w with isOpen := false, retired := true } else { w with isOpen := false, epoch := w.epoch + 1 }

/-- CLOSE_WINDOW: it takes effect at once and completes when every write that was checked before it has completed (R279). -/
def State.closeWindow (s : State) (k : MailIx) : State :=
  s.onPacket k 0x0304 (fun p =>
    let i := p.le 0 4
    let s1 := if p.begun then s else (s.beginPacket k.val).setWindow i (s.window i).shut
    let w := s1.window i
    if s1.windowBusy i then s1
    else s1.finish k.val .ok 0 (leBytes 4 w.epoch.toNat ++ [if w.retired then 1 else 0]))

/-- CLOSE_WINDOW. -/
def execCloseWindow (k : MailIx) (s : State) : Host.Outcome State Fault Refusal := .next (s.closeWindow k)

/-- SET_BUDGET (R34, R321, R322). -/
def State.setBudget (s : State) (k : MailIx) : State :=
  s.onPacket k 0x0401 (fun p =>
    let s1 := (s.setFld Fld.TOKEN_STATUS_BUDGET_W 0 (p.le 0 2)).rebudget
    s1.finish k.val .ok 0 (leBytes 2 (s1.fld Fld.TOKEN_STATUS_POOL 0)))

/-- SET_BUDGET. -/
def execSetBudget (k : MailIx) (s : State) : Host.Outcome State Fault Refusal := .next (s.setBudget k)

end Sys2Proof.Machine
end

