-- ==== Sys2Proof/Machine/Holdup.lean ====
section
/-! DEFINITION. The hold-up bank: its measurement and the check of LAUNCH and RESUME (R505-R507). Voltages are in 10 mV, as
HOLDUP_STATUS gives them. -/
namespace Sys2Proof.Machine

/-- E in mJ of `c` µF at a bank voltage (R505); a voltage below 30 V leaves none. -/
def bankEnergy (c v : Nat) : Nat := c * (v * v - 9000000) / 20000000

/-- Is there a valid measurement younger than HOLDUP_AGE_S (R507)? -/
def State.holdupFresh (s : State) : Bool :=
  s.flag Fld.HOLDUP_STATUS_VALID 0 &&
    (s.now - s.reg .holdupTime 0).toNat < s.fld Fld.POWER_CFG_HOLDUP_AGE_S 0 * 100000000

/-- HOLDUP_STATUS.LOW: the energy is below 13 J, or no valid result is young enough, at all times (R507, R523). -/
def State.holdupLow (s : State) : Bool := !s.holdupFresh || s.fld Fld.HOLDUP_STATUS_ENERGY 0 < 13000

/-- The bank stands at a voltage. -/
def State.setBank (s : State) (v : Nat) : State :=
  (s.setFld Fld.HOLDUP_STATUS_V_BANK 0 v).setFld Fld.HOLDUP_STATUS_ENERGY 0
    (min (bankEnergy (s.fld Fld.HOLDUP_STATUS_CAP 0) v) 65535)

/-- A measurement reads V1 and V2: C = 0.010 C ÷ (V1 − V2), valid with the bank at 50 V or more and no brace (R506). -/
def State.measureBank (s : State) (v1 v2 : Nat) : State :=
  if v1 < 5000 || v1 ≤ v2 || s.flag Fld.TOKEN_STATUS_BRACE 0 then s
  else
    (((s.setFld Fld.HOLDUP_STATUS_CAP 0 (min (1000000 / (v1 - v2)) 65535)).setFld Fld.HOLDUP_STATUS_VALID 0 1).setReg
      .holdupTime 0 s.now).setBank (s.fld Fld.HOLDUP_STATUS_V_BANK 0)

/-- The bank as LAUNCH or RESUME finds it, at `bank`: it is measured first, with the readings V1 and V2, at the first of them after a boot,
and where the check asks for a result and none is young enough (R506, R507). Under brace the measurement waits (R501). -/
def State.checkBank (s : State) (check : Bool) (bank v1 v2 : Nat) : State :=
  let s1 := s.setBank bank
  if s1.launchedOnce && (!check || s1.holdupFresh) then s1
  else if s1.flag Fld.TOKEN_STATUS_BRACE 0 then { s1 with measureWanted := true }
  else s1.measureBank v1 v2

/-- Must the hold-up check wait for a measurement, which waits for the end of brace (R501, R507)? -/
def State.holdupWaits (s : State) : Bool := s.flag Fld.TOKEN_STATUS_BRACE 0 && !s.holdupFresh

/-- Does the hold-up check pass (R507)? -/
def State.holdupOk (s : State) : Bool := !s.holdupLow

end Sys2Proof.Machine
end

