-- ==== Sys2Proof/Machine/Launch.lean ====
section
/-! DEFINITION. LAUNCH (R299, R352, R367-R369, R455) and RESUME (R308). -/
namespace Sys2Proof.Machine

/-- Why LAUNCH and RESUME cannot run at all: a trip (R478), a gate stopped for its heat (R480), or a test (R537). -/
def State.cannotRun (s : State) : Bool :=
  s.flag Fld.THERM_STATUS_TRIPPED 0 || (List.range 8).any (fun g => s.fld Fld.GATE_STATUS_STATE g = 4) || s.moduleTest

/-- Is a program bound, none of whose piers has been fenced since (R455, R540)? A pier admitted again has no logical number
(R533). -/
def State.bound (s : State) : Bool :=
  [2, 5, 6].contains (s.fld Fld.SCHED_STATUS_STATE 0) &&
    s.binding.all (fun p => s.admitted.contains p && !s.unnumbered.contains p)

/-- Has a stack failed (R243)? -/
def State.stackFailed (s : State) : Bool := (List.range 8).any (fun g => s.fld Fld.GATE_STATUS_STATE g = 5)

/-- What the object table finds wrong with an entry: an object that is unmapped or lacks the access listed, or a mirror copy
(R291, R408). -/
def State.objectBad (s : State) (w : Nat) : Option Cc :=
  let o := bits w 0 22
  let d := s.object o
  if s.isMirrorCopy o then some .mirrorCopy
  else if !d.valid || (w.testBit 22 && d.perm % 2 = 0) || (w.testBit 23 && d.perm / 2 % 2 = 0) || (w.testBit 25 && !d.mirror)
  then some .objectAccess
  else none

/-- The words of the object table. -/
def State.objectTable (s : State) : List Nat := (s.places 9).map (fun o => s.img o 8)

/-- A parapet over a whole object, in 128 B units. -/
def State.wholeObject (s : State) (kind o : Nat) : Parapet := ⟨kind, o, 0, ((s.object o).size + 127) / 128⟩

/-- The parapets that a LAUNCH places: over each frozen object, and at an evaluation over the ranges that it lists and over
every object with MIRROR = 1 (R367). -/
def State.launchParapets (s : State) (eval : Bool) (p : Packet) : List Parapet :=
  (s.objectTable.filter (fun w => w.testBit 24)).map (fun w => s.wholeObject 1 (bits w 0 22)) ++
  (if eval then
    p.parapets.map (fun x => ⟨2, x.1, x.2.1 / 128, x.2.2 / 128⟩) ++
      (s.objects.filter (fun o => o.2.valid && o.2.mirror)).map (fun o => s.wholeObject 2 o.1)
  else [])

/-- Do the image's bundles contain UPD (R369)? -/
def State.hasUpd (s : State) : Bool := (s.places 2).any (fun o => s.img (o + 40) 1 = 0x20)

/-- Why LAUNCH is refused, in the order of R455; `s1` is the state after the hold-up measurement. -/
def State.launchRefusal (s s1 : State) (p : Packet) : Option Cc :=
  let eval := p.le 6 1 % 2 = 1
  let ps := s.parapets.filter (fun x => x.kind = 0) ++ s.launchParapets eval p
  if p.parapets.any (fun x => (s.object x.1).size < x.2.2) then some .badParam
  else if !s.bound || s.cannotRun then some .wrongState
  else if p.le 0 4 != s.stepNo then some .stepMismatch
  else if s.stackFailed then some .stackFailed
  else
    match s.objectTable.findSome? s.objectBad with
    | some c => some c
    | none =>
      if eval && (s.hasUpd || s.pairing.commit.isSome ||
          s.objectTable.any (fun w => w.testBit 23 && ps.any (fun x => x.object = bits w 0 22))) then some .evalConflict
      else if 1024 < ps.length then some .parapetLimit
      else if p.le 6 1 / 2 = 0 && !s1.holdupWaits && !s1.holdupOk then some .holdupLow
      else none

/-- A group's record in section 12 (R349). -/
def State.schedRec (s : State) (g : Nat) : SchedRec :=
  let w (o n : Nat) : Nat := s.entryAt 12 g o n
  let f (o : Nat) : F32 := BitVec.ofNat 32 (w o 4)
  { peak := f 0, min := f 4, beta1 := f 8, beta2 := f 12, wd := f 16, gamma := f 20
    step0 := w 24 4, warmup := w 28 4, decayLen := w 32 4, stepEvery := w 36 4
    warmShape := w 40 1, decayShape := w 41 1, restart := w 42 1 = 1, cycleMult := w 43 1 }

/-- Two FP32 values as one register word. -/
def pairWord (a b : F32) : Word := BitVec.ofNat 64 (a.toNat + b.toNat * 2 ^ 32)

/-- SCHED_VAL of a group (R356). -/
def State.setSchedVal (s : State) (g : Nat) (x : Scalars) : State :=
  ((((s.setReg .schedVal0 g (pairWord x.lr x.decay)).setReg .schedVal1 g (pairWord x.b1 x.ob1)).setReg .schedVal2 g
    (pairWord x.b2 x.ob2)).setReg .schedVal3 g (pairWord x.bc1 x.bc2)).setReg .schedVal4 g (pairWord x.wd x.t)

/-- The values of every group of section 12 at the step counter (R351, R352). -/
def State.groupScalars (s : State) : List Scalars :=
  (List.range (s.places 12).length).map (fun g => (s.schedRec g).scalars s.stepNo)

/-- The schedule engine computes every group (R352, R356). -/
def State.runSchedEngine (s : State) : State :=
  let vs := s.groupScalars
  let s1 := (List.range 8).foldl (fun s g => match vs[g]? with
    | some x => s.setSchedVal g x
    | none => [RegName.schedVal0, .schedVal1, .schedVal2, .schedVal3, .schedVal4].foldl (fun s r => s.setReg r g 0) s) s
  (s1.setFld Fld.SCHED_ENG_STATUS_VALID 0 (2 ^ vs.length - 1)).setFld Fld.SCHED_ENG_STATUS_STEP_EVAL 0 s.stepNo

/-- The section-12 and section-13 records of the image, with their types. -/
def State.runRecords (s : State) : List (Nat × List Byte) :=
  [12, 13].flatMap (fun ty => (s.places ty).map (fun o => (ty, s.objBytes s.imageObject o (entrySize ty))))

/-- The run-parameter records that the journal does not hold are written with the step of their first use (R352, R357,
R508). -/
def State.journalRun (s : State) : State :=
  s.runRecords.foldl (fun s r =>
    let same (x : JRecord) : Bool := match x with
      | .run ty bs _ => ty = r.1 && bs = r.2
      | _ => false
    if s.records.any same || s.journalWrites.any same then s else s.journalise (.run r.1 r.2 s.stepNo)) s

/-- The streams of a pier's random block at LAUNCH (R357, R358, R360, R372). -/
def State.setStreams (s : State) (p : PierIx) (shard : Nat) (eval : Bool) : State :=
  let rs := (List.range (s.places 13).length).map (fun i => (s.entryAt 13 i 8 1, s.entryWord 13 i 0))
  let s1 := (List.range 64).foldl (fun s n =>
    let r := rs.find? (fun e => e.1 = n)
    ((s.setReg .rngSeed (rngIx p n) ((r.map Prod.snd).getD 0)).setFld Fld.RNG_USE_USE (rngIx p n) 0).setFld
      Fld.RNG_USE_VALID (rngIx p n) (if r.isSome then 1 else 0)) s
  ((s1.setFld Fld.RNG_STATUS_SHARD p.val shard).setFld Fld.RNG_STATUS_EVAL p.val (if eval then 1 else 0)).setFld
    Fld.RNG_STATUS_STREAMS p.val rs.length

/-- An arch at LAUNCH: its grid and spandrel stand, and nothing is in progress in it. -/
def Arch.atLaunch (x : Arch) : Arch :=
  { x with loadSlot := none, next := none, captures := [], portFrom := 0, portTo := 0, cleared := (0, []) }

/-- A pier at LAUNCH: its vector and mask registers stand, its cache is invalid (R178), nothing is in progress in it, and its
bundle stream stands at the first bundle of its program (R289, R293). -/
def Pier.atLaunch (x : Pier) (scalars : List (List F32)) (program : Nat) : Pier :=
  { Pier.init with vregs := x.vregs, masks := x.masks, scalars := scalars, cursor := ⟨program, 0, []⟩ }

/-- A bound pier starts at slot 0 with CONFIG0 (R299, R314, R315). -/
def State.startPier (s : State) (shard : Nat) (eval : Bool) (scalars : List (List F32)) (p : PierIx) : State :=
  let s1 := s.setPier p ((s.pier p).atLaunch scalars (s.entryOfPier p).program)
  let s2 := (List.finRange 4).foldl (fun s a => s.setArch p a (s.arch p a).atLaunch) s1
  let s3 := ((s2.setReg .pctlSlot p.val 0).setReg .pctlStall p.val 0).setReg .pctlFault p.val 0
  let s4 := ((s3.setFld Fld.PCTL_STATUS_LOOP_DEPTH p.val 0).setFld Fld.PCTL_STATUS_JOINT_INDEX p.val 0).setFld
    Fld.PCTL_STATUS_STATE p.val (if s.flag Fld.TOKEN_STATUS_BRACE 0 then 3 else 2)
  (s4.setStreams p shard eval).applyRecord p (s.entryOfPier p).config0 true

/-- What an earlier launch has left in flight is dropped: tags with their remote requests, and watch entries, whose places go to the tags
that wait for them (R206). -/
def State.dropOldTags (s : State) : State :=
  let s1 := { s with
    tags := s.tags.filter (fun x => !s.binding.contains x.pier)
    remotes := s.remotes.filter (fun r => match r.owner with
      | .fetch p .. => !s.binding.contains p
      | .write .. => true)
    tokenMoves := [] }
  ((s1.binding.foldl (fun s p => s.countTags p) s1).dropWatches (fun e => s.binding.any (fun p => p.val = e.pier))).wakeTags

/-- The launch itself (R299). -/
def State.launchProgram (s : State) (p : Packet) : State :=
  let eval := p.le 6 1 % 2 = 1
  let off := p.le 6 1 / 2 = 1
  let s0 := [9, 12, 13].foldl State.readSection s
  let s1 := (List.range 8).foldl (fun s g => s.setFld Fld.GATE_CFG_SPLIT g (p.le 7 1)) s0
  let s2 := { s1 with
    parapets := s1.parapets.filter (fun (x : Parapet) => x.kind = 0) ++ s.launchParapets eval p
    journalOff := off
    launchedOnce := true
    launchStep := p.le 0 4
    evaluating := eval
    commitBarred := s1.commitBarred || eval }.countParapets
  let s3 := if off then s2 else s2.journalRun
  let s4 := ((s3.setFld Fld.SCHED_STATUS_STATE 0 3).setFld Fld.SCHED_STATUS_PREEMPT_PENDING 0 0).setFld
    Fld.SCHED_STATUS_JOINT_INDEX 0 0
  let s5 := (s4.setReg .schedFault 0 0).runSchedEngine.dropOldTags
  (s5.binding.foldl (fun s q => s.startPier (p.le 4 2) eval (s5.groupScalars.map Scalars.list) q) s5).wakeTags

/-- Must LAUNCH wait: for its reads of the image, or for a write that has been checked before the parapets that it places (R231, R264, R367,
R370)? -/
def State.launchWaits (s : State) (p : Packet) : Bool :=
  [9, 12, 13].any s.sectionWaits || s.binding.any (fun q => s.recordWaits (s.entryOfPier q).config0) ||
    s.waitingWrites.any (fun e => (s.launchParapets (p.le 6 1 % 2 = 1) p).any (fun x => x.object = e.1.object))

/-- LAUNCH; the bank stands at `bank`, and a measurement that is due reads `v1` and `v2` (R455, R507). -/
def State.launch (s : State) (k : MailIx) (bank v1 v2 : Nat) : State :=
  s.onPacket k 0x0203 (fun p =>
    if p.begun then s
    else
      let check := p.le 6 1 / 2 = 0
      let s1 := s.checkBank check bank v1 v2
      match s.launchRefusal s1 p with
      | some .holdupLow => s1.refuse k.val .holdupLow
      | some c => s.refuse k.val c
      | none =>
        if s.placePiers.launchWaits p || (check && s1.holdupWaits) then { s with measureWanted := s1.measureWanted }
        else (s1.placePiers.beginPacket k.val).launchProgram p)

/-- LAUNCH. -/
def execLaunch (k : MailIx) (bank v1 v2 : Nat) (s : State) : Host.Outcome State Fault Refusal := .next (s.launch k bank v1 v2)

/-- RESUME (R308, R507). -/
def State.resume (s : State) (k : MailIx) (bank v1 v2 : Nat) : State :=
  s.onPacket k 0x0205 (fun p =>
    if p.begun then s
    else if s.fld Fld.SCHED_STATUS_STATE 0 != 5 || !s.bound || s.cannotRun then s.refuse k.val .wrongState
    else
      match s.saveFor (p.le 0 4) with
      | none => s.refuse k.val .saveMismatch
      | some x =>
        let check := !s.journalOff
        let s1 := s.checkBank check bank v1 v2
        if s1.objectBlocked x.object || (check && s1.holdupWaits) then { s with measureWanted := s1.measureWanted }
        else if check && !s1.holdupOk then s1.refuse k.val .holdupLow
        else ({ s1.placePiers.beginPacket k.val with launchedOnce := true }).restore x)

/-- RESUME. -/
def execResume (k : MailIx) (bank v1 v2 : Nat) (s : State) : Host.Outcome State Fault Refusal := .next (s.resume k bank v1 v2)

end Sys2Proof.Machine
end

