-- ==== Sys2Proof/Machine/Fence.lean ====
section
/-! DEFINITION. Admission and fencing of piers (R113, R533, R534), pier tests (R524, R530, R532) and pier resets (R519). -/
namespace Sys2Proof.Machine

/-- Does a key of the register table belong to the compute of a pier that `f` names (R521)? -/
def computeKey (f : Nat → Bool) (k : Nat) : Bool :=
  savedRegs.any (fun r => r.1.ctorIdx = k % 256 && f (k / 256 / r.2))

/-- The soft use of deck spares that DECK_SPARES reports returns to its default with the registers of the compute (R542). -/
def clearSpares (f : Nat → Bool) (e : Nat × Word) : Option (Nat × Word) :=
  if e.1 % 256 = RegName.deckSpares.ctorIdx && f (e.1 / 256 / 40) then
    let w := Fld.DECK_SPARES_SOFT_USED.place e.2 0
    if w = regDflt e.1 then none else some (e.1, w)
  else some e

/-- The deck-store window that an address lies in. -/
def windowOf (a : Nat) : Option Nat :=
  let p := (a - 0x010000000000) / windowSize
  if 0x010000000000 ≤ a && p < 136 then some p else none

/-- The compute of the piers that `f` names: its registers at their defaults, its contents lost, spandrels at +0 (R113,
R521). -/
def State.clearCompute (s : State) (f : Nat → Bool) : State :=
  { s with
    regs := (s.regs.filter (fun e => !computeKey f e.1)).filterMap (clearSpares f)
    mem := s.mem.filter (fun e => !((windowOf e.1).any f))
    deckFlips := s.deckFlips.filter (fun e => !((windowOf (8 * e.1)).any f))
    piers := s.piers.filter (fun e => !f e.1)
    archs := s.archs.filter (fun e => !f (e.1 / 4))
    spandrel := s.spandrel.filter (fun e => !f (e.1 / 65536 / 4))
    regions := s.regions.filter (fun e => !f (e.1 / 64))
    slots := s.slots.filter (fun e => !f (e.1 / 1024))
    gangs := s.gangs.filter (fun e => !f (e.1 / 16))
    runs := s.runs.filter (fun e => !f (e.1 / 8))
    lastGang := s.lastGang.filter (fun e => !f e.1)
    refetches := s.refetches.filter (fun e => !f e.1.val)
    flight := s.flight.filter (fun w => !f w.pier.val) }

/-- The transfers of a pier are abandoned: its tags go, replies to them find none, its watch entries are removed, and the
gates complete what waited for its notices (R210, R534). -/
def State.dropTransfers (s : State) (p : PierIx) : State :=
  let s1 := { s with
    tags := s.tags.filter (fun x => x.pier != p)
    remotes := s.remotes.filter (fun r => match r.owner with
      | .fetch q .. => q != p
      | .write q .. => q != p)
    staleNotices := s.staleNotices.filter (fun n => n.pier != p) }
  (s1.dropWatches (fun e => e.pier = p.val)).wakeTags.closeWrites.movesOn

/-- Does a pier have a logical number in the binding in force: it has not been fenced since (R533, R540)? -/
def State.hasNumber (s : State) (p : PierIx) : Bool := s.binding.contains p && !s.unnumbered.contains p

/-- A pier loses its compute, by a fence or a pier reset: its transfers are abandoned and its tokens returned (R210, R331,
R519, R534); one that the binding numbers keeps its logical number and domain. -/
def State.resetCompute (s : State) (p : PierIx) : State :=
  let l := s.fld Fld.PCTL_STATUS_LOGICAL p.val
  let d := s.fld Fld.PCTL_STATUS_DOMAIN p.val
  let s1 := ((s.dropTransfers p).giveAll p).clearCompute (fun n => n = p.val)
  if s.hasNumber p then
    ((s1.setFld Fld.PCTL_STATUS_LOGICAL p.val l).setFld Fld.PCTL_STATUS_DOMAIN p.val d).setFld Fld.PCTL_STATUS_STATE p.val
      (if s.launched then 6 else if s.fld Fld.SCHED_STATUS_STATE 0 = 5 then 7 else 1)
  else s1

/-- A bound pier is lost while a program is launched, by fencing or by a pier reset (R310, R519): the step fails at the slot that the pier's
domain has reached, and the domain stops. -/
def State.loseBound (s : State) (p : PierIx) : State :=
  if s.launched && s.hasNumber p then
    (s.recordFault p (s.domSlot (s.domOf p)) .pierFenced).stopDomain (s.domOf p)
  else s

/-- The grade's ceiling of admitted piers (R2). -/
def State.ceiling (s : State) : Nat := s.fld Fld.DEVICE_ID_GRADE 0

/-- A pier is admitted: its compute starts as R113 sets, without a logical number, and the journal's map follows (R530,
R533). -/
def State.takeIn (s : State) (p : PierIx) : State :=
  let s1 := s.clearCompute (fun n => n = p.val)
  { s1 with
    admitted := (List.finRange 136).filter (fun q => q = p || s1.admitted.contains q)
    fenced := s1.fenced.filter (fun q => q != p)
    failed := s1.failed.filter (fun q => q != p)
    parked := s1.parked.filter (fun q => q != p) }.journalise (.pierMap p 1)

/-- A pier that passes and is not admitted is a spare (R2): it is held out of admission no more. -/
def State.makeSpare (s : State) (p : PierIx) : State :=
  if s.parked.contains p then { s with parked := s.parked.filter (fun q => q != p) }.journalise (.pierMap p 0) else s

/-- A pier is recorded as failed: PIER_FAILED with its result code (R480, R531). -/
def State.failPier (s : State) (p : PierIx) (code : Nat) : State :=
  ({ s with
    admitted := s.admitted.filter (fun q => q != p)
    fenced := s.fenced.filter (fun q => q != p)
    failed := if s.failed.contains p then s.failed else s.failed ++ [p]
    parked := s.parked.filter (fun q => q != p) }.journalise (.pierMap p 3)).event .pierFailed 1 p.val
      (p.val + 256 * code) |>.bump Fld.BIST_COUNT_PIERS_FAILED 0 1

/-- Is a pier a spare: not admitted, not fenced, not failed, and held out of admission for no test (R2)? -/
def State.spare (s : State) (p : PierIx) : Bool :=
  !s.admitted.contains p && !s.fenced.contains p && !s.failed.contains p && !s.parked.contains p

/-- Is the compute of a pier powered: the pier is admitted or under test (R23), and the module is neither in doze nor in
park (R511)? -/
def State.powered (s : State) (p : PierIx) : Bool :=
  s.fld Fld.POWER_STATUS_STATE 0 ≤ 1 &&
    (s.admitted.contains p || s.tests.any (fun t => t.pier = p) || s.bist.any (fun t => t.scope ≤ 1))

/-- BIST_STATUS.RUNNING follows the tests (R542). -/
def State.countTests (s : State) : State :=
  s.setFld Fld.BIST_STATUS_RUNNING 0 (if s.tests.isEmpty && s.bist.isNone then 0 else 1)

/-- A module in idle runs again (R512, R532). -/
def State.leaveIdle (s : State) : State :=
  if s.fld Fld.POWER_STATUS_STATE 0 = 1 then s.setFld Fld.POWER_STATUS_STATE 0 0 else s

/-- A pier test begins: 280 tokens are withheld in its span, and the module runs (R532). -/
def State.startTest (s : State) (t : PierTest) : State :=
  (({ s.leaveIdle with tests := s.tests ++ [t] }.setFld Fld.BIST_STATUS_SCOPE 0 2).countTests).regrant (spanOf t.pier)

/-- A pier test is over: its tokens are back (R532). -/
def State.dropTest (s : State) (p : PierIx) : State :=
  ({ s with tests := s.tests.filter (fun t => t.pier != p) }.countTests).regrant (spanOf p)

/-- The first spare that can be tested in a fenced pier's place, above pier number `lo`, which is not itself under test
(R534). -/
def State.nextSpare (s : State) (lo : Nat) : Option PierIx :=
  (List.finRange 136).find? (fun p => lo ≤ p.val && s.spare p && !s.tests.any (fun t => t.pier = p))

/-- Does a test run, of whatever cause: a second BIST_RUN or ADMIT_PIER then is BUSY (R537)? -/
def State.testRuns (s : State) : Bool := !s.tests.isEmpty || s.bist.isSome

/-- A FENCE_PIER with REPLACE goes on with the next spare, or ends with NO_SPARE (R534). -/
def State.tryReplace (s : State) (slot : Option Nat) (old : PierIx) (lo : Nat) : State :=
  match s.nextSpare lo with
  | some p => s.startTest ⟨p, .replace slot old⟩
  | none =>
    match slot with
    | some k => s.finish k .noSpare 0 [0xFF]
    | none => s

/-- A test result is recorded (R535, R542): a test that R537 has interrupted is not counted among those completed. -/
def State.noteResult (s : State) (code repairs ms : Nat) : State :=
  let s1 := s.setFld Fld.BIST_STATUS_LAST_RESULT 0 code
  if code = 5 then s1
  else ((s1.setFld Fld.BIST_STATUS_DURATION_MS 0 ms).bump Fld.BIST_COUNT_RUNS 0 1).bump Fld.BIST_COUNT_REPAIRS 0 repairs

/-- RESULT of BIST_RUN (R536). -/
def State.bistResult (s : State) (code failed repairs ms failGates mode : Nat) : List Byte :=
  [BitVec.ofNat 8 code, BitVec.ofNat 8 s.admitted.length, BitVec.ofNat 8 failed, BitVec.ofNat 8 repairs] ++ leBytes 4 ms ++
    [BitVec.ofNat 8 failGates, BitVec.ofNat 8 mode]

/-- What a test of pier `p` was for is done, with its result code (R524, R533, R534, R514): a pier that passes above the ceiling is a
spare (R2). -/
def State.endTest (s : State) (t : PierTest) (code repairs ms : Nat) : State :=
  let p := t.pier
  let pass := code ≤ 1
  let s1 := if code = 2 || code = 3 then s.failPier p code else s
  match t.cause with
  | .bist k => s1.finish k (if pass then .ok else .bistFail) 0 (s1.bistResult code (if code = 2 || code = 3 then 1 else 0) repairs ms 0 0)
  | .admission k =>
    if !pass then s1.finish k .bistFail 0 [BitVec.ofNat 8 code]
    else if s1.ceiling ≤ s1.admitted.length then s1.finish k .wrongState 0 []
    else (s1.takeIn p).finish k .ok 0 [BitVec.ofNat 8 code]
  | .replace slot old =>
    if pass && s1.admitted.length < s1.ceiling then
      let s2 := s1.takeIn p
      match slot with
      | some k => s2.finish k .ok 0 [BitVec.ofNat 8 p.val]
      | none => s2
    else s1.tryReplace slot old (p.val + 1)
  | .park =>
    let s2 := if !pass then s1 else if s1.admitted.length < s1.ceiling then s1.takeIn p else s1.makeSpare p
    if s2.parked.isEmpty && s2.admitted.length < s2.ceiling && s2.tests.isEmpty then
      match s2.nextSpare 0 with
      | some q => s2.startTest ⟨q, .park⟩
      | none => s2
    else s2

/-- A test is interrupted, with result 5: its pier is left as it was (R537). With `on` a REPLACE goes on with the next
spare. -/
def State.interruptTest (s : State) (t : PierTest) (on : Bool) : State :=
  let s1 := (s.dropTest t.pier).noteResult 5 0 0
  match t.cause with
  | .bist k => s1.finish k .bistFail 0 (s1.bistResult 5 0 0 0 0 0)
  | .admission k => s1.finish k .bistFail 0 [5]
  | .replace slot old =>
    if on then s1.tryReplace slot old (t.pier.val + 1)
    else
      match slot with
      | some k => s1.finish k .noSpare 0 [0xFF]
      | none => s1
  | .park => s1

/-- The set F of failed units of an arch, as UNIT_REPAIR names them (R102). -/
def failedUnits (w : Word) : List Nat :=
  (([Fld.UNIT_REPAIR_SOFT_A, Fld.UNIT_REPAIR_SOFT_B, Fld.UNIT_REPAIR_FUSE_A, Fld.UNIT_REPAIR_FUSE_B].map
    (fun f => f.ofWord w)).filter (fun u => u != 127)).eraseDups

/-- The physical unit that carries logical unit `u` of an arch whose failed units are `f`: the (u + 1)-th that has not failed (R102). -/
def physicalUnit (f : List Nat) (u : Nat) : Nat := ((List.range 66).filter (fun n => !f.contains n)).getD u 0

/-- A dot unit is repaired softly (R102, R530): it joins F, which holds at most two units. -/
def State.repairUnit (s : State) (a u : Nat) : State :=
  let f := failedUnits (s.reg .unitRepair a)
  if f.contains u || 2 ≤ f.length then s
  else
    let s1 := if s.fld Fld.UNIT_REPAIR_SOFT_A a = 127 then s.setFld Fld.UNIT_REPAIR_SOFT_A a u
      else s.setFld Fld.UNIT_REPAIR_SOFT_B a u
    s1.journalise (.unitRepair a (s1.reg .unitRepair a))

/-- The spare words of a deck bank: 8 in each of the 32 data banks, 4 in each side bank (R530). -/
def bankSpares (bank : Nat) : Nat := if bank < 32 then 8 else 4

/-- Does a test find more failed units in an arch than it has spares (R102)? -/
def State.unitsOver (s : State) (p : PierIx) (r : PierResult) : Bool :=
  (List.finRange 4).any (fun a => 2 < (failedUnits (s.reg .unitRepair (archIx p a)) ++
    (r.units.filter (fun u => u.1 = a)).map (fun u => u.2.val)).eraseDups.length)

/-- Does a test find more failed words in a deck bank than the spares that no fuse has taken (R530)? -/
def State.decksOver (s : State) (p : PierIx) (r : PierResult) : Bool :=
  (List.range 40).any (fun b => bankSpares b <
    (s.deckMap.filter (fun e => e.1 = p && e.2.1 = b && e.2.2.2)).length +
      ((r.decks.filter (fun d => d.1.val = b)).eraseDups.filter (fun d =>
        !s.deckMap.any (fun e => e.1 = p && e.2.1 = b && e.2.2.1 = d.2.val && e.2.2.2))).length)

/-- What a test of a pier amounts to with the spares that are left: where they run out the pier fails, with result 2 for a third
dot unit in one arch and 3 for a memory (R530, R535). -/
def State.judge (s : State) (p : PierIx) (r : PierResult) : PierResult :=
  if r.code.val ≤ 1 && s.unitsOver p r then { r with code := 2, units := [], decks := [] }
  else if r.code.val ≤ 1 && s.decksOver p r then { r with code := 3, units := [], decks := [] }
  else r

/-- The soft deck-word repairs of a pier are no more (R530). -/
def State.dropSoftWords (s : State) (p : PierIx) : State :=
  { s with deckMap := s.deckMap.filter (fun e => e.1 != p || e.2.2.2) }

/-- A deck word is repaired softly, if nothing redirects it yet (R530, R542). -/
def State.repairDeck (s : State) (p : PierIx) (bank word : Nat) : State :=
  if s.deckMap.any (fun e => e.1 = p && e.2.1 = bank && e.2.2.1 = word) then s
  else
    ({ s with deckMap := s.deckMap ++ [(p, bank, word, false)] }.setFld Fld.DECK_SPARES_SOFT_USED (40 * p.val + bank)
      (s.fld Fld.DECK_SPARES_SOFT_USED (40 * p.val + bank) + 1)).journalise (.deckRepair p bank word)

/-- The repairs of a pier test, its deck words made again (R530), and the ring break that a pass of the loopback clears (R532, R139). -/
def State.repairPier (s : State) (p : PierIx) (r : PierResult) : State :=
  let s1 := r.units.foldl (fun s u => s.repairUnit (archIx p u.1) u.2.val) s
  let c := if s1.deckMap.any (fun e => e.1 = p && !e.2.2.2) then (s1.dropSoftWords p).journalise (.deckClear p) else s1
  let s2 := r.decks.foldl (fun s d => s.repairDeck p d.1.val d.2.val)
    { c with regs := c.regs.filterMap (clearSpares (fun n => n = p.val)) }
  if r.loopback && s2.flag Fld.RING_CFG_BROKEN p.val then
    ((s2.setFld Fld.RING_CFG_BROKEN p.val 0).journalise (.ringBreak p false)).countBreaks
  else s2

/-- Does a segment path of the binding in force cross a pier, so that its loopback is skipped (R532)? -/
def State.pathCrosses (s : State) (p : PierIx) : Bool :=
  (List.finRange 8).any (fun g => g.val < s.fld Fld.VIADUCT_LAYOUT_SEG_COUNT 0 && s.onPath g p)

/-- The new soft repairs of a pier test: of units that were not repaired before, and of words that nothing redirected (R536, R542). -/
def State.pierRepairs (s : State) (p : PierIx) (r : PierResult) : Nat :=
  (r.units.eraseDups.filter (fun u => !(failedUnits (s.reg .unitRepair (archIx p u.1))).contains u.2.val)).length +
    (r.decks.eraseDups.filter (fun d => !s.deckMap.any (fun e => e.1 = p && e.2.1 = d.1.val && e.2.2.1 = d.2.val))).length

/-- A single-pier test finishes after `ms` milliseconds (R532). -/
def State.pierTestDone (s : State) (p : PierIx) (r : PierResult) (ms : Nat) : State :=
  match s.tests.find? (fun t => t.pier = p) with
  | none => s
  | some t =>
    let x := s.judge p r
    let n := s.pierRepairs p x
    let s1 := (s.dropTest p).repairPier p { x with loopback := x.loopback && !s.pathCrosses p }
    (s1.noteResult x.code.val n ms).endTest t x.code.val n ms

/-- PIER_TEST_DONE. -/
def execPierTestDone (p : PierIx) (r : PierResult) (ms : Nat) (s : State) : Host.Outcome State Fault Refusal :=
  .next (s.pierTestDone p r ms)

/-- A pier is fenced (R4, R127, R534). -/
def State.fence (s : State) (p : PierIx) : State :=
  let s1 := match s.tests.find? (fun t => t.pier = p) with
    | some t => s.interruptTest t true
    | none => s
  let s2 := (s1.loseBound p).resetCompute p
  ({ s2 with
    admitted := s2.admitted.filter (fun q => q != p)
    parked := s2.parked.filter (fun q => q != p)
    unnumbered := s2.unnumbered ++ (if s.hasNumber p then [p] else [])
    fenced := s2.fenced ++ [p] }.journalise (.pierMap p 2)).event .pierFenced 1 p.val (p.val + 256 * 0xFF)

/-- FENCE_PIER (R534). -/
def State.fencePier (s : State) (k : MailIx) : State :=
  s.onPacket k 0x0601 (fun p =>
    let n := p.le 0 1
    if p.begun then s
    else if h : n < 136 then
      if s.fenced.contains ⟨n, h⟩ || s.failed.contains ⟨n, h⟩ then s.refuse k.val .wrongState
      else
        let s1 := (s.beginPacket k.val).fence ⟨n, h⟩
        if p.le 1 1 = 1 then s1.tryReplace (some k.val) ⟨n, h⟩ 0 else s1.finish k.val .ok 0 [0xFF]
    else s.refuse k.val .badParam)

/-- FENCE_PIER. -/
def execFencePier (k : MailIx) (s : State) : Host.Outcome State Fault Refusal := .next (s.fencePier k)

/-- ADMIT_PIER: the pier's test begins (R533). -/
def State.admitPier (s : State) (k : MailIx) : State :=
  s.onPacket k 0x0602 (fun p =>
    let n := p.le 0 1
    if p.begun then s
    else if h : n < 136 then
      if s.testRuns then s.refuse k.val .busy
      else if s.admitted.contains ⟨n, h⟩ || s.ceiling ≤ s.admitted.length || s.flag Fld.THERM_STATUS_TRIPPED 0 then
        s.refuse k.val .wrongState
      else (s.beginPacket k.val).startTest ⟨⟨n, h⟩, .admission k.val⟩
    else s.refuse k.val .badParam)

/-- ADMIT_PIER. -/
def execAdmitPier (k : MailIx) (s : State) : Host.Outcome State Fault Refusal := .next (s.admitPier k)

/-- BIST_RUN with SCOPE 2: the target pier is not admitted (R524). -/
def State.bistPier (s : State) (k : MailIx) : State :=
  s.onPacket k 0x0603 (fun p =>
    let n := p.le 1 1
    if p.begun || p.le 0 1 != 2 then s
    else if h : n < 136 then
      if s.testRuns then s.refuse k.val .busy
      else if s.admitted.contains ⟨n, h⟩ then s.refuse k.val .wrongState
      else (s.beginPacket k.val).startTest ⟨⟨n, h⟩, .bist k.val⟩
    else s.refuse k.val .badParam)

/-- BIST_PIER. -/
def execBistPier (k : MailIx) (s : State) : Host.Outcome State Fault Refusal := .next (s.bistPier k)

/-- A step boundary has come: the piers that R480 fences there are fenced, each with REPLACE (R480, R540). -/
def State.fenceDuePiers (s : State) : State :=
  s.fenceDue.foldl (fun s p =>
    if s.fenced.contains p || s.failed.contains p then s else (s.fence p).tryReplace none p 0) { s with fenceDue := [] }

/-- RESET with KIND 1 (R454, R519): a pier reset of a bound pier fails the step; a test of the pier ends, and the commands that
depend on it complete with ABORTED; any reset ends a challenge (R557). -/
def State.resetPier (s : State) (k : MailIx) : State :=
  s.onPacket k 0x0801 (fun p =>
    let n := p.le 1 1
    if p.le 0 1 != 1 then s
    else if h : n < 136 then
      let q : PierIx := ⟨n, h⟩
      let s1 := match s.tests.find? (fun t => t.pier = q) with
        | none => s
        | some t =>
          let s2 := s.dropTest q
          match t.cause with
          | .bist j => s2.finish j .aborted 0 []
          | .admission j => s2.finish j .aborted 0 []
          | .replace (some j) _ => s2.finish j .aborted 0 []
          | _ => s2
      ({ (s1.loseBound q).resetCompute q with challenge := none }.finish k.val .ok 0 [])
    else s.refuse k.val .badParam)

/-- RESET_PIER. -/
def execResetPier (k : MailIx) (s : State) : Host.Outcome State Fault Refusal := .next (s.resetPier k)

end Sys2Proof.Machine
end

