-- ==== Sys2Proof/Machine/Pair.lean ====
section
/-! DEFINITION. Pairs: forming (R406-R410), the mirror engine (R416-R418), bulk copies (R415), keystones and STEP_COMMIT
(R421-R425), loss and failover (R426-R430), rejoin and handover (R431, R432), and the setting form (R433). -/
namespace Sys2Proof.Machine

/-- PAIR_STATUS.STATE (R426). -/
def State.pairState (s : State) : Nat := s.fld Fld.PAIR_STATUS_STATE 0

/-- Set PAIR_STATUS.STATE. -/
def State.setPairState (s : State) (v : Nat) : State := s.setFld Fld.PAIR_STATUS_STATE 0 v

/-- The mate's identifier. -/
def State.mate (s : State) : Nat := s.fld Fld.PAIR_STATUS_MATE 0

/-- A flag of PAIR_ERR and its event (R435, R480). -/
def State.pairEvent (s : State) (f : Fld) (c : Code) (detail : Nat) : State := s.flagEvent f 0 c 0 0 detail

/-- Is the bond up to a module: a member is active, and every active one has it as its neighbour (R387, R409)? -/
def State.bondTo (s : State) (m : Nat) : Bool :=
  !s.bondActive.isEmpty && s.bondActive.all (fun n => s.fld Fld.PORT_STATUS_NEIGHBOUR n = m)

/-- The boot nonce of the neighbour at the bond (R379). -/
def State.bondNonce (s : State) : Word :=
  match s.bondActive.head? with
  | some n => ((s.link n).partner.map Hello.nonce).getD 0
  | none => 0

/-- PAIR_STATUS.BOND_UP and PORT_STATUS.BONDED follow the members (R404, R435). -/
def State.updateBond (s : State) : State :=
  (List.range 12).foldl (fun s n =>
    s.setFld Fld.PORT_STATUS_BONDED n (if s.role n = 3 && s.portState n = 5 then 1 else 0))
    (s.setFld Fld.PAIR_STATUS_BOND_UP 0 (if s.bondActive.isEmpty then 0 else 1))

/-- A SYNC message to the mate (R420). -/
def State.sendSync (s : State) (subtype : Nat) (param data : List Byte) : State :=
  { s with nextRemote := (s.nextRemote + 1) % 2 ^ 32 }.bondSend
    ⟨s.headTo s.mate, .sync subtype s.nextRemote (padTo 16 param) data⟩

/-- MIRROR_APPLIED (R417). -/
def State.sendApplied (s : State) : State := s.sendSync 4 (leBytes 8 (s.fld Fld.PAIR_MSEQ_IN_MSEQ 0)) []

/-- KEYSTONE, a request or an acknowledgement (R421). -/
def State.sendKeystone (s : State) (mseq step : Nat) (ack : Bool) : State :=
  s.bondSend ⟨s.headTo s.mate, .keystone mseq step ack⟩

/-- A pair command that runs completes. -/
def State.finishOp (s : State) (op : Nat) (c : Cc) (detail : Nat) (result : List Byte) : State :=
  match s.runningOp [op] with
  | some (k, _) => s.finish k c detail result
  | none => s

/-- Forwarding ends: the sequencer stops, the log and the reorder buffer are discarded, a hold is lifted, and writes that
waited for the log complete (R426, R429). -/
def State.endForwarding (s : State) : State :=
  let s1 := match s.pairing.bulk with
    | (n, o) :: _ =>
      let i := (s.object n).entryOf o
      if s.moves.any (fun m => s.moveEntry m = i) then s else s.setHome i { s.home i with moving := false }
    | [] => s
  ({ s1 with
    mirrorLog := []
    mirrorWaits := []
    rejoinSender := false
    promoted := []
    pairing := { s1.pairing with
      form := none
      sizes := []
      checked := false
      bulk := []
      sent := none
      mateSent := none
      reorder := []
      mateKey := none
      handover := none
      returns := []
      mateChanged := false } }.countLog).closeWrites.wake

/-- The module is UNPAIRED: nothing of the pair is kept (R426). -/
def State.unpair (s : State) : State :=
  { s.endForwarding.setPairState 0 with pairing := { Pairing.init with commit := s.pairing.commit } }

/-- A PAIRED module loses its mate: HELD, and PAIR_LOST (R427). Causes: 0 bond, 1 silence, 2 PAIR_ALIVE. -/
def State.pairLost (s : State) (cause : Nat) : State :=
  if s.pairState = 2 then (s.setPairState 3).pairEvent Fld.PAIR_ERR_PAIR_LOST .pairLost cause else s

/-- The module becomes PAIRED, with valid mirrors; with the filtered PAIR_ALIVE low it enters HELD at once (R426, R427, R569). -/
def State.pairUp (s : State) : State :=
  let s1 := (s.setPairState 2).setFld Fld.PAIR_STATUS_MIRROR_VALID 0 1
  if (s1.fld Fld.SENSE_STATUS_FILT 0).testBit 1 then s1 else s1.pairLost 2

/-- A REJOIN that cannot go on: SOLO for the sender, UNPAIRED for the receiver (R426). -/
def State.endRejoin (s : State) (c : Cc) (detail : Nat) : State :=
  let s1 := if s.rejoinSender then { (s.endForwarding).setPairState 4 with
      pairing := { s.endForwarding.pairing with copies := [], names := [] } }
    else s.unpair
  s1.finishOp 0x0503 c detail []

/-- A FORMING that cannot go on: UNPAIRED (R409, R426). -/
def State.endForming (s : State) (c : Cc) (detail : Nat) : State := s.unpair.finishOp 0x0501 c detail []

/-- The bond has gone down (R426, R427). -/
def State.bondDown (s : State) : State :=
  match s.pairState with
  | 0 => { s with pairing := { s.pairing with form := none, sizes := [] } }
  | 1 => s.endForming .bondDown 0
  | 2 => s.pairLost 0
  | 5 => s.endRejoin .bondDown 0
  | _ => s

/-- The bond has come up: a mate that has booted since shows another nonce, and PAIR_MATE_CHANGED is raised (R428). -/
def State.bondUp (s : State) : State :=
  if s.pairState = 3 && !(s.bondTo s.mate && s.bondNonce = s.pairing.nonce) then
    ({ s with pairing := { s.pairing with mateChanged := true } }).pairEvent Fld.PAIR_ERR_PAIR_MATE_CHANGED .pairMateChanged
      (s.fld Fld.PAIR_MSEQ_IN_MSEQ 0)
  else s

/-- The mirrored objects of this module (R406). -/
def State.mirrorObjects (s : State) : List Nat := (s.objects.filter (fun o => o.2.valid && o.2.mirror)).map Prod.fst

/-- Do objects of these sizes exceed R407: 512 GiB in all, or 4,096 objects? -/
def pairLimits (sizes : List Nat) : Bool := 4096 < sizes.length || 2 ^ 39 < sizes.foldl (· + ·) 0

/-- Is a local object a mirror copy as R406 asks, for a mate object of `size` bytes: pinned, stack extents only, MIRROR = 0, and
large enough? -/
def State.copyOk (s : State) (n size : Nat) : Bool :=
  let d := s.object n
  d.valid && !d.pooled && !d.mirror && size ≤ d.size && (s.entriesOf n).all (fun e => e.2.valid && e.2.tier = 0)

/-- The objects whose extents the bulk copy sends: both lists of the sender of a rejoin, every mirrored object at forming (R410,
R431). -/
def State.bulkObjects (s : State) : List Nat := if s.rejoinSender then s.pairing.names.map Prod.fst else s.mirrorObjects

/-- The extents that the bulk copy sends, by object and offset. -/
def State.bulkExtents (s : State) : List (Nat × Nat) :=
  s.bulkObjects.flatMap (fun n => (List.range (s.object n).count).map (fun k => (n, k * 2 ^ (s.object n).extentLog2)))

/-- FORM with its kind, and MAP with the objects and sizes, 26 entries in each (R420). -/
def State.sendForm (s : State) (kind : Nat) (es : List (Nat × Nat)) : State :=
  let s1 := s.sendSync 1 (leBytes 4 s.stepNo ++ leBytes 4 es.length ++ [BitVec.ofNat 8 kind]) []
  (cutBytes (26 * 8) ((es.length + 25) / 26) (es.flatMap (fun e => leBytes 3 e.1 ++ leBytes 5 e.2))).foldl
    (fun s bs => s.sendSync 2 [BitVec.ofNat 8 (bs.length / 8)] bs) s1

/-- FORMING is over once each module has applied the other's copy up to the MSEQ at its end (R410). -/
def State.formDone (s : State) : State :=
  match s.pairing.sent, s.pairing.mateSent with
  | some a, some b =>
    if s.pairState = 1 && a ≤ s.fld Fld.PAIR_MSEQ_ACKED_MSEQ 0 && b ≤ s.fld Fld.PAIR_MSEQ_IN_MSEQ 0 then
      s.pairUp.finishOp 0x0501 .ok 0
        (leBytes 8 (s.fld Fld.PAIR_MSEQ_OUT_MSEQ 0))
    else s
  | _, _ => s

/-- The bulk copy has ended: READY names its last MSEQ (R420, R431). -/
def State.bulkReady (s : State) : State :=
  let n := s.fld Fld.PAIR_MSEQ_OUT_MSEQ 0
  ({ s with pairing := { s.pairing with sent := some n } }.sendSync 3 (leBytes 8 n) []).formDone

/-- The checks have passed: the next MSEQ is 1, and the bulk copy begins (R410, R431). -/
def State.startBulk (s : State) : State :=
  let s1 := { s with pairing := { s.pairing with checked := true, bulk := s.bulkExtents } }
  if s1.pairing.bulk.isEmpty then s1.bulkReady else s1

/-- What the checks of R409 find, of this module or else of the mate (log 74): 1 the step counters differ, 2 the map is incomplete, 3 a
mirror copy is not valid, 4 a limit of R407 is exceeded (R456). The list of own objects of a rejoin has every mirrored object
(R431). -/
def State.pairFault (s : State) (rejoin : Bool) (step : Nat) (own : List Nat) : Option Nat :=
  let copy (n : Nat) : Option Nat := ((if rejoin then s.pairing.returns else s.pairing.copies).find? (fun e => e.1 = n)).map Prod.snd
  if !rejoin && step != s.stepNo then some 1
  else if s.pairing.sizes.any (fun e => (copy e.1).isNone) then some 2
  else if rejoin && s.mirrorObjects.any (fun n => !s.bulkObjects.contains n) then some 2
  else if s.pairing.sizes.any (fun e => match copy e.1 with
      | some c => !(s.copyOk c e.2)
      | none => false) then some 3
  else if pairLimits own || pairLimits (s.pairing.sizes.map Prod.snd) then some 4
  else s.pairing.mateFinds

/-- Is an object that a rejoin writes on the replacement one that it has mapped for it: a home with MIRROR = 1, or a mirror copy
(R431)? -/
def State.rejoinTarget (s : State) (n size : Nat) : Bool :=
  let d := s.object n
  (d.valid && d.mirror && size ≤ d.size) || s.copyOk n size

/-- The mate's FORM and MAP are complete: the checks are made (R409, R431). -/
def State.pairCheck (s : State) : State :=
  match s.pairing.form with
  | none => s
  | some (step, entries, kind) =>
    if s.pairing.checked || s.pairing.sizes.length < entries then s
    else if s.pairState = 1 && kind = 0 then
      match s.pairFault false step (s.mirrorObjects.map (fun n => (s.object n).size)) with
      | some d => s.endForming .pairCheck d
      | none => s.startBulk
    else if s.pairState = 5 && s.rejoinSender && kind = 2 then
      match s.pairFault true step (s.bulkObjects.map (fun n => (s.object n).size)) with
      | some d => s.endRejoin .pairCheck d
      | none => s.startBulk
    else if s.pairState = 5 && !s.rejoinSender && kind = 1 then
      if s.pairing.sizes.any (fun e => !(s.rejoinTarget e.1 e.2)) then s.endRejoin .pairCheck 3
      else if pairLimits (s.pairing.sizes.map Prod.snd) then s.endRejoin .pairCheck 4
      else match s.pairing.mateFinds with
      | some d => s.endRejoin .pairCheck d
      | none => { s with pairing := { s.pairing with checked := true, copies := s.pairing.sizes.map (fun e => (e.1, e.1)) } }
    else s

/-- The MSEQ registers are set to 0 (R435). -/
def State.zeroMseq (s : State) : State :=
  ((s.setFld Fld.PAIR_MSEQ_OUT_MSEQ 0 0).setFld Fld.PAIR_MSEQ_ACKED_MSEQ 0 0).setFld Fld.PAIR_MSEQ_IN_MSEQ 0 0

/-- The entries of a pair command: mate object and local object, from the parameters or from host memory (R455). -/
def State.pairEntries (s : State) (p : Packet) (count : Nat) : List (Nat × Nat) :=
  let bs := if p.le 8 8 = 0 then p.params.drop 16 else s.bytes (p.le 8 8) (8 * count)
  (cutBytes 8 count bs).map (fun e => (leNat (e.take 4), leNat (e.drop 4)))

/-- The read of the entries of a pair command from host memory (R439, R455). -/
def State.readEntries (s : State) (p : Packet) (count : Nat) : State :=
  if p.le 8 8 = 0 then s else s.jwRead (p.le 8 8) (8 * count) false

/-- Are the entries of a pair command object numbers (R450, R455)? -/
def State.pairEntriesOk (s : State) (p : Packet) (count : Nat) : Bool :=
  (s.pairEntries p count).all (fun e => e.1 < 2 ^ 22 && e.2 < 2 ^ 22)

/-- A pair begins with a mate (R409, R423), whose own checks will find `finds`, as DETAIL less 1 numbers it (log 74). -/
def State.meetMate (s : State) (mate state : Nat) (finds : Option (Fin 4)) : State :=
  let s1 := ((s.setFld Fld.PAIR_STATUS_MATE 0 mate).setPairState state).zeroMseq.setFld Fld.PAIR_STATUS_MIRROR_VALID 0 0
  { s1.setFld Fld.PAIR_KEYSTONE_MATE_STEP 0 (s.stepNo + 2 ^ 32 - 1) with
    pairing := { s1.pairing with
      nonce := s.bondNonce
      mateMseq := 0
      mateChanged := false
      faulted := false
      mateFinds := finds.map (fun d => d.val + 1) } }

/-- PAIR_FORM; `status` is that of the read of its map from host memory, `finds` what the mate's own checks find (R409). -/
def State.pairForm (s : State) (k : MailIx) (status : Fin 4) (finds : Option (Fin 4)) : State :=
  s.onPacket k 0x0501 (fun p =>
    let mate := p.le 0 2
    if p.begun then s
    else if s.pairState != 0 then s.refuse k.val .wrongState
    else
      let s := s.readEntries p (p.le 2 2)
      if p.le 8 8 != 0 && status != 0 then s.hostFaulted k.val status (p.le 8 8)
      else if !s.pairEntriesOk p (p.le 2 2) then s.refuse k.val .badParam
      else if !s.bondTo mate then s.refuse k.val .bondDown
      else
        let s1 := (s.beginPacket k.val).meetMate mate 1 finds
        let s2 := { s1 with pairing := { s1.pairing with copies := s.pairEntries p (p.le 2 2) } }
        (s2.sendForm 0 (s2.mirrorObjects.map (fun n => (n, (s2.object n).size)))).pairCheck)

/-- PAIR_FORM. -/
def execPairForm (k : MailIx) (check : PairCheck) (s : State) : Host.Outcome State Fault Refusal :=
  .next (s.pairForm k check.status check.mate)

/-- PAIR_REJOIN, as the sender or the receiver (R431). -/
def State.pairRejoin (s : State) (k : MailIx) (status : Fin 4) (finds : Option (Fin 4)) : State :=
  s.onPacket k 0x0503 (fun p =>
    let mate := p.le 0 2
    let sender := p.le 2 1 = 1
    if p.begun then s
    else if s.pairState != (if sender then 4 else 0) then s.refuse k.val .wrongState
    else
      let s := s.readEntries p (p.le 4 2 + p.le 6 2)
      if p.le 8 8 != 0 && status != 0 then s.hostFaulted k.val status (p.le 8 8)
      else if !s.pairEntriesOk p (p.le 4 2 + p.le 6 2) then s.refuse k.val .badParam
      else if !s.bondTo mate then s.refuse k.val .bondDown
      else
        let s1 := (s.beginPacket k.val).meetMate mate 5 finds
        if sender then
          let es := s.pairEntries p (p.le 4 2 + p.le 6 2)
          let home := es.drop (p.le 4 2)
          let s2 := { s1 with
            rejoinSender := true
            promoted := home.map Prod.snd
            pairing := { s1.pairing with
              names := es.map (fun (e : Nat × Nat) => (e.2, e.1))
              returns := home } }
          (s2.sendForm 1 (es.map (fun (e : Nat × Nat) => (e.1, (s2.object e.2).size)))).pairCheck
        else (s1.sendForm 2 (s1.mirrorObjects.map (fun n => (n, (s1.object n).size)))).pairCheck)

/-- PAIR_REJOIN. -/
def execPairRejoin (k : MailIx) (check : PairCheck) (s : State) : Host.Outcome State Fault Refusal :=
  .next (s.pairRejoin k check.status check.mate)

/-- One tile of a bulk copy (R415): at most 8 KiB at offset `o` of an object, below `stop`. -/
def State.bulkTile (n stop : Nat) (u : Upset) (s : State) (o : Nat) : State :=
  let d := s.object n
  let a := (s.home (d.entryOf o)).loc + o % 2 ^ d.extentLog2
  let len := min 8192 (stop - o)
  let r := State.gateRead s 0 a len u
  r.2.logMirror ⟨0, n, o, r.2.bytes a len, r.1⟩

/-- The next extent of a bulk copy, as far as the log has room: its translations are held, its tiles sent, and the hold lifted
after the last has its MSEQ (R264, R413, R415). -/
def State.bulkCopy (s : State) (u : Upset) : State :=
  match s.pairing.bulk with
  | [] => s
  | (n, o) :: rest =>
    let d := s.object n
    let z := 2 ^ d.extentLog2
    let i := d.entryOf o
    let s0 := s.markMoving i
    if s.moves.any (fun m => s.moveEntry m = i) then s
    else if s.entryBusy i || s.blocked (s.home i).loc z then s0
    else
      let stop := min (z * (o / z + 1)) d.size
      let os := ((List.range ((stop - o + 8191) / 8192)).map (fun k => o + 8192 * k)).take (mirrorLogSize - s.mirrorLog.length)
      let s1 := os.foldl (State.bulkTile n stop u) s0
      let next := o + 8192 * os.length
      if next < stop then { s1 with pairing := { s1.pairing with bulk := (n, next) :: rest } }
      else
        let s2 := { s1.setHome i { s1.home i with moving := false } with pairing := { s1.pairing with bulk := rest } }.wake
        if rest.isEmpty then s2.bulkReady else s2

/-- BULK_EXTENT_COPY. -/
def execBulkExtentCopy (upset : Option (Nat × Nat)) (s : State) : Host.Outcome State Fault Refusal := .next (s.bulkCopy upset)

/-- A keystone record for the journal (R421). -/
def State.keyRecord (s : State) (own : Bool) (step mseq : Nat) : JRecord :=
  .keystone own step mseq s.mate s.now (s.fld Fld.BOOT_COUNT_COUNT 0)

/-- The step counter advances and STEP_COMMIT completes; `mseq` is its keystone's, 0 for a local commit (R346, R425, R455). The
step boundary has come. -/
def State.committed (s : State) (n mseq : Nat) : State :=
  ((({ s with pairing := { s.pairing with commit := none } }).setFld Fld.STEP_COUNTER_STEP 0 (n + 1)).finishOp 0x0206 .ok 0
    (leBytes 4 (n + 1) ++ leBytes 4 0 ++ leBytes 8 mseq)).fenceDuePiers

/-- The own-keystone record of a step is written, or with the journal off the step is committed at once (R421, R425). -/
def State.writeOwn (s : State) (n k : Nat) (key : Bool) : State :=
  if s.journalOff then s.committed n (if key then k else 0) else s.journalise (s.keyRecord true n k)

/-- An own-keystone record has been written (R421, R425). -/
def State.ownWritten (s : State) (n : Nat) : State :=
  match s.pairing.commit with
  | some (m, k, key) => if m = n then s.committed n (if key then k else 0) else s
  | none => s

/-- Is the own keystone still waiting for its acknowledgement (R421)? -/
def State.awaitsAck (s : State) : Bool :=
  match s.pairing.commit with
  | some (n, _, true) => !s.journalWrites.any (fun r => match r with
      | .keystone true m .. => m = n
      | _ => false)
  | _ => false

/-- Is STEP_COMMIT on the survivor of a rejoin the handover: the replacement has applied the MSEQ that READY names (R432)? -/
def State.handoverDue (s : State) : Bool :=
  s.pairState = 5 && s.rejoinSender && s.pairing.sent.any (fun n => n ≤ s.fld Fld.PAIR_MSEQ_ACKED_MSEQ 0)

/-- Is the handover refused: a launched program's object table lists a promoted copy (R432)? -/
def State.handoverRefused (s : State) : Bool :=
  s.launched && s.objectTable.any (fun w => s.promoted.contains (bits w 0 22))

/-- K, the last MSEQ assigned, or 0 where no sequencer runs (R421, R425). -/
def State.lastMseq (s : State) : Nat := if s.forwarding then s.fld Fld.PAIR_MSEQ_OUT_MSEQ 0 else 0

/-- STEP_COMMIT in its committing form (R421, R425, R432). -/
def State.stepCommit (s : State) (k : MailIx) : State :=
  s.onPacket k 0x0206 (fun p =>
    let n := p.le 0 4
    if p.begun || p.le 4 1 != 0 then s
    else if s.evaluating || s.commitBarred then s.refuse k.val .evalConflict
    else if s.launched || (s.pairState = 5 && !s.rejoinSender) || (s.handoverDue && s.handoverRefused) then
      s.refuse k.val .wrongState
    else if n != s.stepNo then s.refuse k.val .stepMismatch
    else if n = 0xFFFFFFFF then s.refuse k.val .stepLimit
    else
      let m := s.lastMseq
      let key := s.pairState = 2 || s.pairState = 3 || s.handoverDue
      let s1 := s.beginPacket k.val
      let s2 := { s1 with pairing := { s1.pairing with
        commit := some (n, m, key)
        handover := if s.handoverDue then some n else s1.pairing.handover } }
      if key then
        let s3 := if s.handoverDue then s2.sendSync 7 (leBytes 4 n) [] else s2
        s3.sendKeystone m n false
      else s2.writeOwn n m false)

/-- STEP_COMMIT. -/
def execStepCommit (k : MailIx) (s : State) : Host.Outcome State Fault Refusal := .next (s.stepCommit k)

/-- STEP_COMMIT in its setting form: with no program launched, UNPAIRED or SOLO (R433). -/
def State.stepCommitSet (s : State) (k : MailIx) : State :=
  s.onPacket k 0x0206 (fun p =>
    let v := p.le 8 4
    if p.begun || p.le 4 1 != 1 then s
    else if s.evaluating || s.commitBarred then s.refuse k.val .evalConflict
    else if s.launched || !(s.pairState = 0 || s.pairState = 4) then s.refuse k.val .wrongState
    else
      let s1 := (s.beginPacket k.val).setFld Fld.STEP_COUNTER_STEP 0 v
      let s2 := if s.journalOff then s1 else s1.journalise (s.keyRecord true ((v + 2 ^ 32 - 1) % 2 ^ 32) 0)
      s2.finish k.val .ok 0 (leBytes 4 v ++ leBytes 4 0 ++ leBytes 8 0))

/-- STEP_COMMIT_SET. -/
def execStepCommitSet (k : MailIx) (s : State) : Host.Outcome State Fault Refusal := .next (s.stepCommitSet k)

/-- The pending STEP_COMMIT fails (R424, R429). -/
def State.failCommit (s : State) (c : Cc) (detail : Nat) : State :=
  if s.awaitsAck then
    { s with pairing := { s.pairing with commit := none, handover := none } }.finishOp 0x0206 c detail []
  else s

/-- The survivor's side of the handover at the keystone of step `n` (R432): its promoted copies become mirror copies, the pair is PAIRED, and
the next keystone of the mate, whose step counter stands behind `n`, is that of the step after `n` (R421). -/
def State.handOver (s : State) (n : Nat) : State :=
  let s1 := { s with
    rejoinSender := false
    promoted := []
    pairing := { s.pairing with copies := s.pairing.returns, returns := [], handover := none } }
  (s1.setFld Fld.PAIR_KEYSTONE_MATE_STEP 0 n).pairUp.finishOp 0x0503 .ok 0 (leBytes 4 n)

/-- The acknowledgement of the own keystone arrives (R421, R432); with other fields than the pending ones it is nothing. -/
def State.ackArrives (s : State) (mseq step : Nat) : State :=
  match s.pairing.commit with
  | some (n, k, true) =>
    if s.awaitsAck && n = step && k = mseq then
      let s1 := s.setFld Fld.PAIR_KEYSTONE_OWN_STEP 0 n
      let s2 := if s1.pairState = 5 then s1.handOver n else s1
      s2.writeOwn n k true
    else s
  | _ => s

/-- The replacement's side of the handover (R432): its home objects are the homes of their data from now on, each named by its own
number, its counter follows the keystone, and the pair is PAIRED. -/
def State.takeOver (s : State) (step : Nat) : State :=
  let s1 := { s with pairing := { s.pairing with
    copies := s.pairing.copies.filter (fun e => !(s.object e.2).mirror)
    handover := none } }
  (s1.pairUp.setFld Fld.STEP_COUNTER_STEP 0 (step + 1)).finishOp 0x0503 .ok 0
    (leBytes 4 step)

/-- The mate's keystone is acknowledged (R421). -/
def State.acknowledge (s : State) (step mseq : Nat) : State :=
  let s1 := { s.setFld Fld.PAIR_KEYSTONE_MATE_STEP 0 step with pairing := { s.pairing with mateMseq := mseq } }
  let s2 := s1.sendKeystone mseq step true
  if s2.pairState = 5 then s2.takeOver step else s2

/-- A keystone of the mate is refused (R418, R423, R424). -/
def State.refuseKey (s : State) (mseq step reason : Nat) : State :=
  s.sendSync 6 (leBytes 8 mseq ++ leBytes 4 step ++ [BitVec.ofNat 8 reason]) []

/-- Is a keystone of the mate refused with reason 2: MIRROR_VALID = 0? In REJOIN, where the bit is set only with the handover keystone, a
discarded MIRROR_WRITE stands for it (R418, R432; log 140). -/
def State.mirrorBroken (s : State) : Bool :=
  if s.pairState = 5 then s.pairing.faulted else !s.flag Fld.PAIR_STATUS_MIRROR_VALID 0

/-- A mate's keystone whose writes are all applied gets its record, then its acknowledgement (R421); one that waits is refused once the
mirror is not valid (R418). -/
def State.tryKey (s : State) : State :=
  match s.pairing.mateKey with
  | some (mseq, step) =>
    let s1 := { s with pairing := { s.pairing with mateKey := none } }
    if s.mirrorBroken then s1.refuseKey mseq step 2
    else if mseq ≤ s.fld Fld.PAIR_MSEQ_IN_MSEQ 0 then
      if s.journalOff then s1.acknowledge step mseq else s1.journalise (s.keyRecord false step mseq)
    else s
  | none => s

/-- Is the record of a mate's keystone being written? -/
def State.keyInFlight (s : State) (step mseq : Nat) : Bool :=
  s.journalWrites.any (fun r => match r with
    | .keystone false n m .. => n = step && m = mseq
    | _ => false)

/-- A keystone request arrives (R418, R421, R423, R432). -/
def State.keyArrives (s : State) (mseq step : Nat) : State :=
  let last := s.fld Fld.PAIR_KEYSTONE_MATE_STEP 0
  let await := { s with pairing := { s.pairing with mateKey := some (mseq, step) } }
  if s.keyInFlight step mseq then s
  else if s.pairState = 5 then
    (if s.pairing.handover = some step && !s.rejoinSender then await.tryKey else s.refuseKey mseq step 2)
  else if s.mirrorBroken then s.refuseKey mseq step 2
  else if step = last && mseq ≤ s.fld Fld.PAIR_MSEQ_IN_MSEQ 0 then s.sendKeystone mseq step true
  else if step = last || step = (last + 1) % 2 ^ 32 then await.tryKey
  else (s.refuseKey mseq step 1).pairEvent Fld.PAIR_ERR_PAIR_STEP_SKEW .pairStepSkew step

/-- The mirror is no longer complete (R417, R418). -/
def State.mirrorFault (s : State) (mseq : Nat) : State :=
  ({ s with pairing := { s.pairing with faulted := true } }.setFld Fld.PAIR_STATUS_MIRROR_VALID 0 0).pairEvent
    Fld.PAIR_ERR_PAIR_MIRROR_FAULT .pairMirrorFault mseq

/-- A MIRROR_WRITE is applied to its mirror copy, or discarded with PAIR_MIRROR_FAULT where it has none or exceeds it (R416,
R418). None: the copy's extent moves, and the write waits. -/
def State.applyMirror (s : State) (x : MirrorWrite) : Option State :=
  let t := s.setFld Fld.PAIR_MSEQ_IN_MSEQ 0 x.mseq
  match s.pairing.copies.find? (fun e => e.1 = x.object) with
  | none => some (t.mirrorFault x.mseq)
  | some (_, n) =>
    if (s.object n).size < x.offset + x.data.length then some (t.mirrorFault x.mseq)
    else
      let rs := s.runsOf n x.offset x.data.length .other
      if rs.any Run.bad then some (t.mirrorFault x.mseq)
      else if rs.any (fun r => r.waits || s.runBlocked r) then none
      else some (rs.foldl (fun s r => match r.xlate with
        | .at (.mem a) _ _ =>
          (s.homeWrite (.access a) 2 a ((x.data.drop (r.offset - x.offset)).take r.len) x.poison n r.offset).2
        | _ => s) (t.touchRuns rs))

/-- Writes in the reorder buffer that are next in order are applied. `fuel` bounds them. -/
def State.drainReorder : Nat → State → State
  | 0, s => s
  | fuel + 1, s =>
    match s.pairing.reorder.find? (fun x => x.mseq = s.fld Fld.PAIR_MSEQ_IN_MSEQ 0 + 1) with
    | none => s
    | some x =>
      match s.applyMirror x with
      | none => s
      | some t => State.drainReorder fuel { t with pairing := { t.pairing with reorder := t.pairing.reorder.erase x } }

/-- What is in order is applied, and an advance is reported; a waiting keystone and the forming go on (R410, R417, R421). -/
def State.mirrorOn (s : State) : State :=
  let n := s.fld Fld.PAIR_MSEQ_IN_MSEQ 0
  let t := State.drainReorder s.pairing.reorder.length s
  if t.fld Fld.PAIR_MSEQ_IN_MSEQ 0 = n then t else t.sendApplied.tryKey.formDone

/-- The entries of the reorder buffer (R416). -/
def reorderSize : Nat := 128

/-- A MIRROR_WRITE of the mate arrives (R416). -/
def State.mirrorArrives (s : State) (x : MirrorWrite) : State :=
  let n := s.fld Fld.PAIR_MSEQ_IN_MSEQ 0
  if x.mseq ≤ n then s.bump Fld.PAIR_COUNT_DUPLICATES 0 1
  else if s.pairing.reorder.any (fun y => y.mseq = x.mseq) then s
  else if x.mseq != n + 1 && reorderSize ≤ s.pairing.reorder.length then s.bump Fld.PAIR_COUNT_DISCARDS 0 1
  else { s with pairing := { s.pairing with reorder := s.pairing.reorder ++ [x] } }.mirrorOn

/-- Entries of the log from an MSEQ on are read from the log, whose bursts are of the write class, and sent again in order (R413, R417,
R428). -/
def State.resendLog (s : State) (n : Nat) : State :=
  (s.mirrorLog.filter (fun x => n ≤ x.mseq)).foldl (fun s x =>
    ((blocksOf (logEntryAddr x.mseq) (32 + x.data.length)).foldl (fun s b => s.burst (s.place b) 1 1) s).bondSend (s.mirrorMsg x)) s

/-- The pending keystone is sent again (R421). -/
def State.resendKey (s : State) : State :=
  match s.pairing.commit with
  | some (n, k, true) => if s.awaitsAck then (s.sendKeystone k n false).bump Fld.PAIR_COUNT_KEY_RESENDS 0 1 else s
  | _ => s

/-- MIRROR_APPLIED arrives: entries are freed, forming may end, and a HELD module returns to PAIRED with the mate it formed the
pair with (R413, R417, R428), unless PAIR_ALIVE is low still (R569; log 165). -/
def State.appliedArrives (s : State) (n : Nat) : State :=
  if s.fld Fld.PAIR_MSEQ_OUT_MSEQ 0 < n then s
  else
    let s1 := (s.setFld Fld.PAIR_MSEQ_ACKED_MSEQ 0 (max n (s.fld Fld.PAIR_MSEQ_ACKED_MSEQ 0))).freeLog n
    if s1.pairState = 3 && s1.bondTo s1.mate && s1.bondNonce = s1.pairing.nonce && (s1.fld Fld.SENSE_STATUS_FILT 0).testBit 1 then
      ((s1.setPairState 2).resendLog (n + 1)).resendKey
    else s1.formDone

/-- MIRROR_RESEND arrives: the log is sent again from that MSEQ, if it holds it (R417). -/
def State.resendArrives (s : State) (n : Nat) : State :=
  if s.mirrorLog.any (fun x => x.mseq = n) then s.resendLog n else s

/-- KEYSTONE_REFUSED arrives (R424). -/
def State.refusedArrives (s : State) (mseq step reason : Nat) : State :=
  match s.pairing.commit with
  | some (n, k, true) =>
    if s.awaitsAck && n = step && k = mseq then
      (s.pairEvent Fld.PAIR_ERR_KEYSTONE_REFUSED .keystoneRefused step).failCommit .keystoneRefused reason
    else s
  | _ => s

/-- The number at a place of PARAM. -/
def paramAt (ps : List Byte) (o n : Nat) : Nat := leNat ((ps.drop o).take n)

/-- The entries of a MAP (R420). -/
def mapEntries (n : Nat) (data : List Byte) : List (Nat × Nat) :=
  (cutBytes 8 n data).map (fun e => (leNat (e.take 3) % 2 ^ 22, leNat (e.drop 3)))

/-- Is a pair SYNC well formed: its reserved bytes zero and its payload as its subtype has it (R420)? -/
def syncLegal (subtype : Nat) (ps data : List Byte) : Bool :=
  let used := match subtype with
    | 1 => 9
    | 2 => 1
    | 6 => 13
    | 7 => 4
    | _ => 8
  (ps.drop used).all (fun x => x = 0) &&
  (match subtype with
    | 1 => data.isEmpty && paramAt ps 8 1 ≤ 2
    | 2 => 1 ≤ paramAt ps 0 1 && paramAt ps 0 1 ≤ 26 && data.length = 8 * paramAt ps 0 1 &&
        (cutBytes 8 (paramAt ps 0 1) data).all (fun e => leNat (e.take 3) < 2 ^ 22)
    | 6 => data.isEmpty && (paramAt ps 12 1 = 1 || paramAt ps 12 1 = 2)
    | _ => data.isEmpty && 1 ≤ subtype && subtype ≤ 7)

/-- A pair SYNC of the mate arrives (R420). -/
def State.syncArrives (s : State) (subtype : Nat) (ps data : List Byte) : State :=
  let put (f : Pairing → Pairing) : State := { s with pairing := f s.pairing }
  match subtype with
  | 1 => (put (fun x => { x with form := some (paramAt ps 0 4, paramAt ps 4 4, paramAt ps 8 1) })).pairCheck
  | 2 => (put (fun x => { x with sizes := x.sizes ++ mapEntries (paramAt ps 0 1) data })).pairCheck
  | 3 => (put (fun x => { x with mateSent := some (paramAt ps 0 8) })).formDone
  | 4 => s.appliedArrives (paramAt ps 0 8)
  | 5 => s.resendArrives (paramAt ps 0 8)
  | 6 => s.refusedArrives (paramAt ps 0 8) (paramAt ps 8 4) (paramAt ps 12 1)
  | _ => if s.pairState = 5 && !s.rejoinSender then put (fun x => { x with handover := some (paramAt ps 0 4) }) else s

/-- Does the mirror engine of this module take the mate's writes: FORMING, PAIRED, HELD or REJOIN (R416, R426)? -/
def State.inPair (s : State) : Bool := s.pairState != 0 && s.pairState != 4

/-- A pair message arrives on a port of the bond; one of another module than the mate, or a SYNC that is not well formed, is
malformed (R390, R416, R420). `nb` is the port's neighbour. -/
def State.pairArrives (s : State) (nb : Nat) (m : Msg) : State :=
  let from_ := if s.inPair then s.mate else nb
  if m.head.src != from_ then s.malformed m
  else
    match m.body with
    | .mirrorWrite mseq object offset data =>
      if s.inPair then s.mirrorArrives ⟨mseq, object, offset, data, m.head.poison⟩ else s.malformed m
    | .keystone mseq step ack =>
      if !s.inPair then s else if ack then s.ackArrives mseq step else s.keyArrives mseq step
    | .sync subtype _ ps data => if syncLegal subtype ps data then s.syncArrives subtype ps data else s.malformed m
    | _ => s.malformed m

/-- The periodic report of the last applied MSEQ (R417). -/
def State.appliedTimer (s : State) : State := if s.inPair then s.mirrorOn.sendApplied else s

/-- MIRROR_APPLIED_TIMER. -/
def execMirrorAppliedTimer (s : State) : Host.Outcome State Fault Refusal := .next s.appliedTimer

/-- Is an MSEQ beyond the last applied one held or reported (R417)? -/
def State.gapSeen (s : State) : Bool :=
  let n := s.fld Fld.PAIR_MSEQ_IN_MSEQ 0
  s.pairing.reorder.any (fun x => n + 1 < x.mseq) || s.pairing.mateKey.any (fun e => n < e.1) ||
    s.pairing.mateSent.any (fun e => n < e)

/-- The expected MSEQ has been missing for 100 µs: MIRROR_RESEND. With `lost`, an earlier one has stayed without an answer because
the sender's log no longer holds it, and the mirror is no longer valid (R417). -/
def State.gapTimeout (s : State) (lost : Bool) : State :=
  let n := s.fld Fld.PAIR_MSEQ_IN_MSEQ 0 + 1
  if s.inPair && s.gapSeen then
    if lost then s.mirrorFault n else s.sendSync 5 (leBytes 8 n) []
  else s

/-- MIRROR_GAP_TIMEOUT. -/
def execMirrorGapTimeout (lost : Bool) (s : State) : Host.Outcome State Fault Refusal := .next (s.gapTimeout lost)

/-- KEYSTONE_RESEND_TIMER. -/
def execKeystoneResendTimer (s : State) : Host.Outcome State Fault Refusal := .next s.resendKey

/-- No acknowledgement has come within COMMIT_TO_MS (R424). -/
def State.commitTimeout (s : State) : State :=
  match s.pairing.commit with
  | some (n, _, true) =>
    if s.awaitsAck then
      (s.pairEvent Fld.PAIR_ERR_PAIR_COMMIT_TIMEOUT .pairCommitTimeout n).failCommit .pairCommitTimeout 0
    else s
  | _ => s

/-- PAIR_COMMIT_TIMEOUT. -/
def execPairCommitTimeout (s : State) : Host.Outcome State Fault Refusal := .next s.commitTimeout

/-- PAIR_SILENCE_TIMEOUT (R427). -/
def execPairSilenceTimeout (s : State) : Host.Outcome State Fault Refusal := .next (s.pairLost 1)

/-- PAIR_FAILOVER (R429). -/
def State.pairFailover (s : State) (k : MailIx) : State :=
  s.onPacket k 0x0502 (fun p =>
    if p.begun then s
    else if s.pairState != 3 then s.refuse k.val .wrongState
    else if s.flag Fld.PAIR_STATUS_PAIR_ALIVE 0 && !s.pairing.mateChanged && p.le 0 1 = 0 then s.refuse k.val .failoverDenied
    else
      let s1 := (s.setPairState 4).endForwarding
      let s2 := { s1 with pairing := { s1.pairing with copies := [], names := [] } }.failCommit .pairFailedOver 0
      s2.finish k.val .ok 0 (leBytes 4 (s.fld Fld.PAIR_KEYSTONE_MATE_STEP 0) ++ leBytes 4 0 ++
        leBytes 8 s.pairing.mateMseq ++ leBytes 8 (s.fld Fld.PAIR_MSEQ_IN_MSEQ 0)))

/-- PAIR_FAILOVER. -/
def execPairFailover (k : MailIx) (s : State) : Host.Outcome State Fault Refusal := .next (s.pairFailover k)

end Sys2Proof.Machine
end

