-- ==== Sys2Proof/Machine/Paune.lean ====
section
/-! DEFINITION. The Paune ports: the states of a link (R378-R381, R385), flits that arrive (R382, R383), and messages that
arrive: forwarded (R389-R392) or delivered to their agents (R394, R396, R398). -/
namespace Sys2Proof.Machine

/-- What a port event does to the bond and the pair: the flags follow, and a change of the bond is acted on (R387, R427, R428).
`was` says whether the bond was up before. -/
def State.bondChange (s : State) (was : Bool) : State :=
  let s1 := s.updateBond
  let up := !s1.bondActive.isEmpty
  if was && !up then s1.bondDown else if !was && up then s1.bondUp else s1

/-- A port event with what it does to the bond. -/
def State.onPort (s : State) (f : State → State) : State := (f s).bondChange (!s.bondActive.isEmpty)

/-- A port event of PORT_ERR (R404). -/
def State.portEvent (s : State) (f : Fld) (n : Nat) (c : Code) (detail : Nat) : State := s.flagEvent f n c 3 n detail

/-- The header of a message that has come in part and that can be forwarded, and its route: a routed message for another module on a port of
role 1 or 3, with its class's VC, a TTL that lasts and no reserved field (R389, R391-R394). -/
def State.cutRoute (s : State) (n vc : Nat) (bs : List Byte) : Option (Msg × Nat × Nat) :=
  let kind := byteAt bs 0
  let n1 := if kind = 8 then 4 * byteAt bs 9 else if kind = 2 then 0 else 128 * fieldAt bs 28 2
  match msgOf (bs.take 32 ++ List.replicate (min n1 8192) 0) with
  | none => none
  | some m =>
    if [1, 2, 3, 8].contains kind && (s.role n = 1 || s.role n = 3) && 2 * m.body.cls + vc % 2 = vc && m.head.dest != s.moduleId &&
        1 < m.head.ttl then
      match s.route m.head.dest (vc % 2) (some n) with
      | .port out dl => some (m, out, 2 * m.body.cls + dl)
      | _ => none
    else none

/-- The bytes of a message with those of its header that forwarding changes: TTL, and HOPS or TRUNC of a PROBE request (R392, R394). -/
def cutHeader (m : Msg) (bs : List Byte) : List Byte :=
  let bs1 := bs.set 6 (BitVec.ofNat 8 (m.head.ttl - 1))
  match m.body with
  | .probe false _ _ _ _ hops =>
    if hops.length < 64 then bs1.set 9 (BitVec.ofNat 8 (hops.length + 1)) else bs1.set 10 1
  | _ => bs1

/-- The flits of bytes on a VC, the first with SOM and the last with EOM where they are the message's first and last. -/
def cutFlits (vc : Nat) (som eom : Bool) (bs : List Byte) : List Flit :=
  let cs := chunks 64 bs
  cs.zipIdx.map (fun e => ⟨0, 0, 1, vc, som && e.2 = 0, eom && e.2 + 1 = cs.length, false, e.1.length, 0, 0, e.1⟩)

/-- A message that has come in part starts to leave where its output VC is free (R391). -/
def State.tryCut (s : State) (n vc : Nat) : State :=
  let r := (s.link n).rx.getD vc ([], 0)
  if r.2 = 0 || s.cuts.any (fun c => c.port = n && c.vc = vc) then s
  else match s.cutRoute n vc r.1 with
    | none => s
    | some (m, out, v) =>
      if s.vcOwned out v then s
      else
        let hop : Option Hop := match m.body with
          | .probe false _ _ _ _ hops => if hops.length < 64 then some ⟨s.moduleId, n, out⟩ else none
          | _ => none
        let s1 : State := { s with cuts := s.cuts ++ [Cut.mk n vc out v hop false] }
        let s2 := s1.setLink n { s1.link n with rx := (s1.link n).rx.set vc ([], 0) }
        let fs := (cutFlits v true false (cutHeader m r.1)).map (fun f => (f, some (n, vc)))
        (s2.setLink out { s2.link out with queue := (s2.link out).queue ++ fs }).pumpAll out

/-- The VC that a message owned is free: what waited behind it is queued, and the next message in part may start (R391). -/
def State.freeVc (s : State) (c : Cut) : State :=
  let s1 := { s with cuts := s.cuts.erase c }
  if c.dead then s1
  else
    let x := s1.link c.out
    let s2 := (s1.setLink c.out { x with
      queue := x.queue ++ x.behind.filter (fun e => e.1.vc = c.outVc)
      behind := x.behind.filter (fun e => e.1.vc != c.outVc) }).pumpAll c.out
    (List.range 96).foldl (fun s k => s.tryCut (k / 8) (k % 8)) s2

def State.dropCuts (s : State) (n : Nat) : State :=
  let loose (e : Flit × Option (Nat × Nat)) : Flit × Option (Nat × Nat) := (e.1, e.2.filter (fun o => o.1 != n))
  let s1 := (List.range 12).foldl (fun s k =>
    s.setLink k { s.link k with queue := (s.link k).queue.map loose, behind := (s.link k).behind.map loose }) s
  let s2 : State := { s1 with cuts := s1.cuts.map (fun (c : Cut) => if c.out = n then { c with dead := true } else c) }
  (s2.cuts.filter (fun c => c.port = n)).foldl State.freeVc s2

/-- The flits that a link discards have left the receive buffers of the ports that they came in by: their credits go back there (R382,
R385). -/
def State.oweDropped (s : State) (n : Nat) : State :=
  ((s.link n).queue ++ (s.link n).behind).foldl (fun s e => match e.2 with
    | some (p, v) => if p = n then s else s.oweVc p v 1
    | none => s) s

/-- Everything of a link is discarded: its retry and receive buffers and the messages queued for it (R385). -/
def State.dropLink (s : State) (n : Nat) : State :=
  let s1 := ((s.oweDropped n).clearLink n).dropCuts n
  { ((s1.setFld Fld.PORT_STATUS_WIDTH n 0).setFld Fld.PORT_STATUS_LEADER n 0) with
    ringTiles := s1.ringTiles.filter (fun e => e.1 != n) }

/-- A port goes to a state in which its link is down, DETECT or DISABLED: from ACTIVE or RECOVERY with LINK_DOWN, and with the
loss of the extension that it carries (R130, R378, R385). -/
def State.portDown (s : State) (n state : Nat) : State :=
  let was := s.portState n
  let s1 := (s.setPortState n state).dropLink n
  if was = 5 || was = 6 then (s1.portEvent Fld.PORT_ERR_LINK_DOWN n .linkDown n).extPortDown n (s.ringFlying n) else s1

/-- A port goes to DETECT, unless it is disabled. -/
def State.toDetect (s : State) (n : Nat) : State := if s.portState n = 0 then s else s.portDown n 1

/-- May a port leave DISABLED (R378, R548)? -/
def State.portEnabled (s : State) (n : Nat) : Bool :=
  s.role n != 0 && s.flag Fld.PAUNE_ID_ID_VALID 0 && !s.noPorts.contains n

/-- At least 4 lanes have signal in DETECT: TRAIN (R378). -/
def State.laneDetect (s : State) (n : Nat) (lanes : BitVec 8) : State :=
  let k := ((List.range 8).filter (fun j => lanes.getLsbD j)).length
  if s.portState n = 1 && s.portEnabled n && 4 ≤ k then s.setPortState n 2 else s

/-- LANE_SIGNAL_DETECT. -/
def execLaneSignalDetect (n : PortIx) (lanes : BitVec 8) (s : State) : Host.Outcome State Fault Refusal :=
  .next (s.laneDetect n.val lanes)

/-- LINK_TRAIN_DONE: TRAIN to ALIGN (R378). -/
def execLinkTrainDone (n : PortIx) (s : State) : Host.Outcome State Fault Refusal :=
  .next (if s.portState n.val = 2 then s.setPortState n.val 3 else s)

/-- LINK_TRAIN_FAIL: TRAIN to DETECT (R378, R402). -/
def State.trainFail (s : State) (n : Nat) : State :=
  if s.portState n = 2 then (s.portDown n 1).portEvent Fld.PORT_ERR_LINK_TRAIN_FAIL n .linkTrainFail n else s

/-- LINK_TRAIN_FAIL. -/
def execLinkTrainFail (n : PortIx) (s : State) : Host.Outcome State Fault Refusal := .next (s.trainFail n.val)

/-- The lanes locked at both ends. -/
def State.bothLanes (s : State) (n : Nat) (h : Hello) : BitVec 8 :=
  BitVec.ofNat 8 (s.fld Fld.PORT_STATUS_LANE_LOCK n) &&& h.lanes

/-- The lanes that a link uses: all, or the half that it runs on (R380). -/
def State.lanesInUse (s : State) (n : Nat) : BitVec 8 :=
  if s.flag Fld.PORT_STATUS_WIDTH n then (if (s.link n).upper then 0xF0#8 else 0x0F#8) else 0xFF#8

/-- The width of a link, 4 lanes or 8 (R380): in RECOVERY it never grows. -/
def State.linkWidth (s : State) (n : Nat) (h : Hello) : Option Bool :=
  (widthOf (s.flag Fld.PORT_CFG_DEGRADE_EN n) (s.bothLanes n h)).map
    (fun w => w || (s.portState n = 6 && s.flag Fld.PORT_STATUS_WIDTH n))

/-- What a port knows of its link once it is ACTIVE (R379, R380, R404). -/
def State.linkFields (s : State) (n : Nat) (h : Hello) (narrow : Bool) : State :=
  let s1 := (((((s.setPortState n 5).setFld Fld.PORT_STATUS_VERSION n 1).setFld Fld.PORT_STATUS_NEIGHBOUR n h.module).setFld
    Fld.PORT_STATUS_NEIGHBOUR_PORT n h.port).setFld Fld.PORT_STATUS_LEADER n (if s.moduleId < h.module then 1 else 0)).setFld
    Fld.PORT_STATUS_WIDTH n (if narrow then 1 else 0)
  if narrow then s1.portEvent Fld.PORT_ERR_LINK_DEGRADED n .linkDegraded n else s1

/-- START takes effect: from EXCHANGE with sequence numbers 0 and the partner's shares as credits, from RECOVERY with the flits after the
last ACK sent again; the end that leads sends it first (R379, R385). -/
def State.goActive (s : State) (n : Nat) (h : Hello) (narrow lead : Bool) : State :=
  let x := s.link n
  let upper := narrow && s.bothLanes n h &&& 0x0F#8 != 0x0F#8
  let open_ (t : State) : State := if lead then t.emitStart n else t
  if s.portState n = 6 then
    let s1 := open_ ((s.setLink n { x with upper }).linkFields n h narrow)
    let s2 := if x.retry.isEmpty then s1
      else (x.retry.foldl (fun s f => s.emitFlit n f) s1).bump Fld.PORT_COUNT_RETRIES n 1
    s2.pumpAll n
  else open_ ((s.setLink n { Link.init with partner := some h, credits := h.shares, upper }).linkFields n h narrow)

/-- The leader checks the pair of HELLOs: the flag and the code of the conflict (R379). -/
def State.helloConflict (s : State) (n : Nat) (h : Hello) : Option (Fld × Code) :=
  if h.module = s.moduleId then some (Fld.PORT_ERR_LINK_ID_CONFLICT, .linkIdConflict)
  else if h.module < s.moduleId then none
  else if !(h.verMin ≤ 1 && 1 ≤ h.verMax) then some (Fld.PORT_ERR_LINK_VERSION_MISMATCH, .linkVersionMismatch)
  else if h.role != s.role n || (s.role n = 3 &&
      s.bondActive.any (fun k => k != n && s.fld Fld.PORT_STATUS_NEIGHBOUR k != h.module)) then
    some (Fld.PORT_ERR_LINK_ROLE_MISMATCH, .linkRoleMismatch)
  else none

/-- A HELLO is acted on in EXCHANGE, but for the pause after a conflict (R378-R380). -/
def State.exchange (s : State) (n : Nat) (h : Hello) : State :=
  let s1 := s.setLink n { s.link n with partner := some h }
  if (s.link n).clash then s
  else match s1.helloConflict n h with
  | some (f, c) => (s1.setLink n { s1.link n with clash := true }).portEvent f n c (n + 65536 * h.module)
  | none =>
    if s.moduleId < h.module then
      match s1.linkWidth n h with
      | some w => s1.goActive n h w true
      | none => s1.setPortState n 3
    else s1

/-- A HELLO is acted on in RECOVERY: the same neighbour resumes, another one sends the port to DETECT (R378, R385). -/
def State.recoverHello (s : State) (n : Nat) (h : Hello) : State :=
  match (s.link n).partner with
  | some g =>
    if g.module = h.module && g.port = h.port && g.nonce = h.nonce then
      let s1 := s.setLink n { s.link n with partner := some h }
      if s.moduleId < h.module then
        match s1.linkWidth n h with
        | some w => s1.goActive n h w true
        | none => s1
      else s1
    else s.toDetect n
  | none => s.toDetect n

/-- A HELLO LINK flit arrives; in ALIGN it is kept until the lanes are locked (R379). -/
def State.helloArrives (s : State) (n : Nat) (h : Hello) : State :=
  match s.portState n with
  | 3 => s.setLink n { s.link n with partner := some h }
  | 4 => s.exchange n h
  | 6 => s.recoverHello n h
  | _ => s

/-- LINK_HELLO. -/
def execLinkHello (n : PortIx) (h : HelloFlit) (s : State) : Host.Outcome State Fault Refusal :=
  .next (s.onPort (fun s => (s.takeSide n.val h.side).helloArrives n.val h.hello))

/-- A START LINK flit arrives at the end that does not lead (R379): the link runs as wide as the leader has chosen (R380). -/
def State.startArrives (s : State) (n : Nat) : State :=
  let x := s.link n
  match x.partner with
  | some h =>
    if (s.portState n = 4 || s.portState n = 6) && h.module < s.moduleId && !x.clash then
      s.goActive n h (s.bothLanes n h != 0xFF#8 || (s.portState n = 6 && s.flag Fld.PORT_STATUS_WIDTH n)) false
    else s
  | none => s

/-- LINK_START. -/
def execLinkStart (n : PortSide) (s : State) : Host.Outcome State Fault Refusal :=
  .next (s.onPort (fun s => (s.takeSide n.port.val n.side).startArrives n.port.val))

/-- A RECOVER LINK flit arrives (R381). -/
def execLinkRecover (n : PortSide) (s : State) : Host.Outcome State Fault Refusal :=
  .next (s.onPort (fun s => if s.portState n.port.val = 5 then (s.takeSide n.port.val n.side).enterRecovery n.port.val else s))

/-- Lanes lock, and LANE_LOCK shows them (R404); once they give a width, from ALIGN to EXCHANGE, in RECOVERY on to its HELLO (R378,
R380). -/
def State.alignLock (s : State) (n : Nat) (lanes : BitVec 8) : State :=
  if s.portState n != 3 && s.portState n != 6 then s
  else
    let s1 := s.setFld Fld.PORT_STATUS_LANE_LOCK n lanes.toNat
    if (widthOf (s.flag Fld.PORT_CFG_DEGRADE_EN n) lanes).isNone then s1
    else
      let s2 := if s.portState n = 3 then s1.setPortState n 4 else s1
      let s3 := s2.emitHello n (s2.helloOf n)
      match (s.link n).partner with
      | some h => if s.portState n = 3 then s3.exchange n h else s3
      | none => s3

/-- ALIGN_LOCK. -/
def execAlignLock (n : PortIx) (lanes : BitVec 8) (s : State) : Host.Outcome State Fault Refusal :=
  .next (s.onPort (fun s => s.alignLock n.val lanes))

/-- ALIGN_TIMEOUT: ALIGN to DETECT (R378). -/
def execAlignTimeout (n : PortIx) (s : State) : Host.Outcome State Fault Refusal :=
  .next (if s.portState n.val = 3 then s.toDetect n.val else s)

/-- EXCHANGE_RETRY: the pause after a conflict ends (R378, R379). -/
def execExchangeRetry (n : PortIx) (s : State) : Host.Outcome State Fault Refusal :=
  .next (if s.portState n.val = 4 && (s.link n.val).clash then s.toDetect n.val else s)

/-- LANE_SIGNAL_LOSS (R378). -/
def execLaneSignalLoss (n : PortIx) (s : State) : Host.Outcome State Fault Refusal :=
  .next (s.onPort (fun s => s.toDetect n.val))

/-- Lanes lose block or codeword lock: LANE_LOCK follows (R404), and a link that uses one of them goes to RECOVERY (R385). -/
def State.lockLoss (s : State) (n : Nat) (lanes : BitVec 8) : State :=
  let s1 := s.setFld Fld.PORT_STATUS_LANE_LOCK n (BitVec.ofNat 8 (s.fld Fld.PORT_STATUS_LANE_LOCK n) &&& ~~~lanes).toNat
  if s.portState n = 5 && lanes &&& s.lanesInUse n != 0#8 then s1.enterRecovery n else s1

/-- LOCK_LOSS. -/
def execLockLoss (n : PortLanes) (s : State) : Host.Outcome State Fault Refusal :=
  .next (s.onPort (fun s => s.lockLoss n.port.val n.lanes))

/-- RECOVERY_TIMEOUT (R378). -/
def execRecoveryTimeout (n : PortIx) (s : State) : Host.Outcome State Fault Refusal :=
  .next (s.onPort (fun s => if s.portState n.val = 6 then s.toDetect n.val else s))

/-- ACK has not advanced: the flits are sent again from the oldest (R383). -/
def State.ackTimeout (s : State) (n : Nat) : State :=
  if s.portState n = 5 && !(s.link n).retry.isEmpty then s.resend n 0 else s

/-- ACK_TIMEOUT. -/
def execAckTimeout (n : PortIx) (s : State) : Host.Outcome State Fault Refusal :=
  .next (s.onPort (fun s => s.ackTimeout n.val))

/-- The data that a request's pieces find in a reply of its bytes, by piece (R395). -/
def replyPieces (q : Request) (bs : List Byte) : List (List Byte) :=
  let a := (q.pieces.map Piece.addr).foldl min ((q.pieces.head?.map Piece.addr).getD 0)
  q.pieces.map (fun pc => (bs.drop (pc.addr - a)).take (pieceLen pc.kind))

/-- What a status makes of a fetch (R396). -/
def fetchFault : Nat → Option Code
  | 1 => some .windowClosed
  | 2 => some .permFault
  | 3 => some .xlateFault
  | 4 => some .memUe
  | _ => none

/-- What a status makes of a write (R396). -/
def writeFault : Nat → Option Code
  | 1 => some .windowClosed
  | 2 => some .permFault
  | 3 => some .xlateFault
  | 4 => some .memUe
  | 5 => some .parapetWrite
  | 6 => some .stepSkew
  | _ => none

/-- The reply to a remote request is taken: the request is answered; NO_ROUTE counts as a lost reply (R396, R198). -/
def State.takeReply (s : State) (r : Remote) (status : Nat) (data : List Byte) : State :=
  let done := { s with remotes := s.remotes.filter (fun x => x != r) }
  if status = 7 then s
  else
    match r.owner with
    | .fetch p num owner req =>
      match done.tags.find? (fun x => x.pier = p && x.num = num && x.owner = owner) with
      | none => done
      | some x =>
        match x.requests[req]? with
        | none => done
        | some q => done.answerTag x req (fetchFault status) none (replyPieces q data)
    | .write p d _ o =>
      match writeFault status with
      | some c => done.runFault p d c o
      | none => done

/-- The pier whose request a remote request is. -/
def RemoteOwner.pier : RemoteOwner → PierIx
  | .fetch p .. => p
  | .write p .. => p

/-- A READ_REPLY arrives at the requester that holds its TAG; an older attempt is late (R198, R396, R398). -/
def State.replyArrives (s : State) (m : Msg) (tag status : Nat) (data : List Byte) : State :=
  let kind (r : Remote) : Bool := match r.msg.body with
    | .remoteWrite t .. => t = tag && m.head.writeCpl
    | .remoteRead t .. => t = tag && !m.head.writeCpl
    | _ => false
  match s.remotes.find? kind with
  | none => s
  | some r =>
    if m.head.attempt < r.msg.head.attempt then s.lateReply r.owner.pier
    else if m.head.attempt = r.msg.head.attempt then s.takeReply r status data
    else s

/-- The bytes of hop records (R394). -/
def hopBytes (hops : List Hop) : List Byte :=
  hops.flatMap (fun h => leBytes 2 h.module ++ leBytes 1 h.arrival ++ leBytes 1 h.output)

/-- The reply to a probe completes its QUERY: the hop records go to the buffer, as far as it reaches (R394, R455); `status` is that of the
write (R442). -/
def State.probeReply (s : State) (tag : Nat) (trunc : Bool) (hops : List Hop) (status : Fin 4) : State :=
  match s.probes.find? (fun e => e.1 = tag) with
  | none => s
  | some (_, k, t) =>
    let s1 := { s with probes := s.probes.filter (fun e => e.1 != tag) }
    match (s1.mailSlot k).running with
    | none => s1
    | some p =>
      let bs := (hopBytes hops).take (p.le 16 4)
      let result := leBytes 8 (s1.now - t).toNat ++ [BitVec.ofNat 8 hops.length, BitVec.ofNat 8 trunc.toNat]
      if bs.isEmpty then s1.finish k .ok 0 result else s1.finishBuffer k status (p.le 8 8) bs result

/-- A message that has reached its module goes to its agent (R398). -/
def State.deliver (s : State) (m : Msg) (status : Fin 4) : State :=
  match m.body with
  | .remoteWrite .. => s.remoteArrives m
  | .remoteRead .. => s.remoteArrives m
  | .readReply tag status data => s.replyArrives m tag status data
  | .probe false trunc tag tSend _ hops =>
    s.post ⟨s.headTo m.head.src, .probe true trunc tag tSend s.now.toNat hops⟩
  | .probe true trunc tag _ _ hops => s.probeReply tag trunc hops status
  | _ => s.malformed m

/-- The messages that the module has sent to itself are delivered (R389). -/
def State.deliverOwn (s : State) : State :=
  s.selfMsgs.foldl (fun s m => s.deliver m 0) { s with selfMsgs := [] }

/-- A message for another module is forwarded: TTL, a probe's hop record, the route (R389, R392, R394). -/
def State.forwardMsg (s : State) (n dl flits : Nat) (m : Msg) : State :=
  if m.head.ttl ≤ 1 then s.dropMsg Fld.PAUNE_MSG_ERR_TTL_EXPIRED Fld.PAUNE_MSG_COUNT_TTL_DROPS .msgTtlExpired m
  else
    match s.route m.head.dest dl (some n) with
    | .port out dl2 =>
      let body := match m.body with
        | .probe false trunc tag tSend tReply hops =>
          if hops.length < 64 then .probe false trunc tag tSend tReply (hops ++ [⟨s.moduleId, n, out⟩])
          else .probe false true tag tSend tReply hops
        | b => b
      s.enqueueOn out ⟨{ m.head with ttl := m.head.ttl - 1 }, body⟩ dl2 n (2 * m.body.cls + dl) flits
    | _ => s.dropMsg Fld.PAUNE_MSG_ERR_NO_ROUTE Fld.PAUNE_MSG_COUNT_NO_ROUTE_DROPS .msgNoRoute m

/-- Is a message one that only the bond carries (R390, R394)? -/
def onlyBond : MsgBody → Bool
  | .mirrorWrite .. => true
  | .keystone .. => true
  | .sync .. => true
  | _ => false

/-- A message has arrived whole on an active port, `flits` long: malformed, a ring tile, a pair message, delivered or forwarded
(R390, R393, R398). -/
def State.arrive (s : State) (n dl flits : Nat) (m : Msg) (status : Fin 4) : State :=
  let r := s.role n
  if !(m.body.legal m.head.writeCpl) || m.head.ttl = 0 then s.malformed m
  else
    match m.body with
    | .ringTile .. => if r = 2 || s.flag Fld.VIADUCT_STATUS_BOUND 0 then s.ringTileArrives n flits m else s.malformed m
    | b =>
      if onlyBond b then
        if r = 3 && m.head.dest = s.moduleId then s.pairArrives (s.fld Fld.PORT_STATUS_NEIGHBOUR n) m else s.malformed m
      else if r != 1 && r != 3 then s.malformed m
      else if m.head.dest = s.moduleId then s.deliver m status
      else s.forwardMsg n dl flits m

/-- Does a message stay in its receive buffers after it has arrived: a RING_TILE on an extension port until its entry region takes it, a
message that is forwarded until it leaves (R391, R400)? -/
def State.staysIn (s : State) (n dl : Nat) (m : Msg) : Bool :=
  m.body.legal m.head.writeCpl && m.head.ttl != 0 &&
    (match m.body with
    | .ringTile .. => s.role n = 2
    | b => !onlyBond b && (s.role n = 1 || s.role n = 3) && m.head.dest != s.moduleId && 1 < m.head.ttl &&
      (match s.route m.head.dest dl (some n) with
      | .port .. => true
      | _ => false))

/-- The receive buffers of a message that has arrived are free, unless it stays in them. -/
def State.oweFor (s : State) (n dl vc flits : Nat) (m : Msg) : State :=
  if s.staysIn n dl m then s else s.oweVc n vc flits

/-- A message's DATA flits have arrived in order on an active port, and it is acted on (R383, R398). The acknowledgement goes
back on a NULL flit. -/
def State.messageArrives (s : State) (n : PortIx) (dl : Fin 2) (m : Msg) (status : Fin 4) : State :=
  if s.portState n.val != 5 then s
  else
    let k := Msg.flits m
    let x := s.link n.val
    let s1 := (s.setLink n.val { x with expect := (x.expect + k) % 65536, accepted := true, discarding := false }).wrapAdd
      Fld.PORT_RX_FLITS_FLITS n.val k
    let s2 := s1.oweFor n.val dl.val (2 * m.body.cls + dl.val) k m
    (s2.arrive n.val dl.val k m status).emitNull n.val

/-- The first failure of a DATA flit asks for a resend; later ones are discarded (R383). -/
def State.dataFailed (s : State) (n : Nat) : State :=
  let x := s.link n
  if x.discarding then s else (s.setLink n { x with discarding := true }).emitRetryReq n

/-- The next flit of a message that is forwarded while it arrives (R391); with EOM its VC is free again. -/
def State.cutFlit (s : State) (c : Cut) (f : Flit) : State :=
  let s1 := if c.dead then s.oweVc c.port c.vc 1
    else
      let tail := if f.eom then (c.hop.map (fun h => leBytes 2 h.module ++ leBytes 1 h.arrival ++ leBytes 1 h.output)).getD [] else []
      let fs := (cutFlits c.outVc false f.eom (f.payload ++ tail)).zipIdx.map
        (fun e => (e.1, if e.2 = 0 then some (c.port, c.vc) else none))
      let x := s.link c.out
      (s.setLink c.out { x with queue := x.queue ++ fs }).pumpAll c.out
  if f.eom then s1.freeVc c else s1

/-- The bytes of a DATA flit join its message: in part it may start to leave, with EOM it arrives (R383, R391, R393). -/
def State.joinFlit (s : State) (n : Nat) (f : Flit) : State :=
  let x := s.link n
  let old := x.rx.getD f.vc ([], 0)
  let got := if f.som then (f.payload, 1) else (old.1 ++ f.payload, old.2 + 1)
  if !f.eom then (s.setLink n { x with rx := x.rx.set f.vc got }).tryCut n f.vc
  else
    let s1 := s.setLink n { x with rx := x.rx.set f.vc ([], 0) }
    match msgOf got.1 with
    | some m =>
      if 2 * m.body.cls + f.vc % 2 = f.vc then
        ((s1.oweFor n (f.vc % 2) f.vc got.2 m).arrive n (f.vc % 2) got.2 m 0).emitNull n
      else ((s1.oweVc n f.vc got.2).malformed m).emitNull n
    | none =>
      ((s1.oweVc n f.vc got.2).malformedAs (fieldAt got.1 2 2 + 65536 * fieldAt got.1 4 2 + 2 ^ 32 * byteAt got.1 0)).emitNull n

/-- A DATA flit is accepted in order (R383): it goes on with a message that is being forwarded, or joins its message. -/
def State.acceptFlit (s : State) (n : Nat) (f : Flit) : State :=
  let x := s.link n
  let y := { x with
    expect := (x.expect + 1) % 65536
    accepted := true
    discarding := false
    ackDue := true }
  let s1 := (s.setLink n y).wrapAdd Fld.PORT_RX_FLITS_FLITS n 1
  match s1.cuts.find? (fun c => c.port = n && c.vc = f.vc) with
  | some c => if f.som then (s1.freeVc c).joinFlit n f else s1.cutFlit c f
  | none => s1.joinFlit n f

/-- FEC counters of a port: symbols corrected and codewords not corrected (R376, R404). -/
def State.countFec (s : State) (n corrected uncorr : Nat) : State :=
  (s.bump Fld.PORT_FEC_FEC_CORRECTED n corrected).bump Fld.PORT_FEC_FEC_UNCORR n uncorr

/-- A flit fails its CRC (R376, R383). -/
def State.crcFailed (s : State) (n : Nat) : State := s.bump Fld.PORT_COUNT_CRC_ERRORS n 1

/-- A DATA flit arrives on an active port (R376, R383). -/
def State.dataFlit (s : State) (n : Nat) (bs : List Byte) (bad : Bool) (corrected uncorr : Nat) : State :=
  if s.portState n != 5 then s
  else
    let s1 := s.countFec n corrected uncorr
    if bad || uncorr != 0 || !flitOk bs then (s1.crcFailed n).dataFailed n
    else
      match flitOf bs with
      | none => s1.dataFailed n
      | some f =>
        if f.kind != 1 then s1.dataFailed n
        else
          let s2 := s1.takeAck n f
          if f.seq = (s2.link n).expect then s2.acceptFlit n f else s2.dataFailed n

/-- DATA_FLIT. -/
def execDataFlit (n : PortIx) (bytes : List Byte) (bad : Bool) (corrected uncorr : Nat) (s : State) :
    Host.Outcome State Fault Refusal := .next (s.onPort (fun s => s.dataFlit n.val bytes bad corrected uncorr))

/-- A NULL or LINK flit: its acknowledgement and credits are taken; one that fails its CRC is discarded (R382, R383). -/
def State.sideFlit (s : State) (n : Nat) (bs : List Byte) (bad : Bool) (corrected uncorr : Nat) (kind : Nat)
    (f : Flit → State → State) : State :=
  if s.portState n != 5 then s
  else
    let s1 := s.countFec n corrected uncorr
    if bad || uncorr != 0 || !flitOk bs then s1.crcFailed n
    else
      match flitOf bs with
      | none => s1
      | some x => if x.kind = kind then f x (s1.takeAck n x) else s1

/-- NULL_FLIT. -/
def execNullFlit (n : PortIx) (bytes : List Byte) (bad : Bool) (corrected uncorr : Nat) (s : State) :
    Host.Outcome State Fault Refusal := .next (s.onPort (fun s => s.sideFlit n.val bytes bad corrected uncorr 0 (fun _ s => s)))

/-- RETRY_REQ s: sent again from s, if s is kept (R383). -/
def State.retryAsked (n : Nat) (f : Flit) (s : State) : State :=
  if byteAt f.payload 0 = 1 && f.payload.length = 3 then
    match (s.link n).retry.findIdx? (fun g => g.seq = fieldAt f.payload 1 2) with
    | some i => s.resend n i
    | none => s
  else s

/-- RETRY_REQ. -/
def execRetryReq (n : PortIx) (bytes : List Byte) (bad : Bool) (corrected uncorr : Nat) (s : State) :
    Host.Outcome State Fault Refusal :=
  .next (s.onPort (fun s => s.sideFlit n.val bytes bad corrected uncorr 2 (State.retryAsked n.val)))

/-- A message row: the message arrives on a port. -/
def State.msgRow (s : State) (n : PortIx) (dl : Fin 2) (m : Msg) (status : Fin 4) : State :=
  s.onPort (fun s => s.messageArrives n dl m status)

/-- ROUTE_MESSAGE: a message that is not for this module arrives (R389). -/
def execRouteMessage (n : PortIx) (dl : Fin 2) (m : Msg) (s : State) : Host.Outcome State Fault Refusal :=
  .next (if m.head.dest = s.moduleId then s else s.msgRow n dl m 0)

/-- REMOTE_WRITE (R278). -/
def execRemoteWrite (n : PortIx) (dl : Fin 2) (h : MsgHead) (tag epoch step offset window : Nat) (data : List Byte) (s : State) :
    Host.Outcome State Fault Refusal := .next (s.msgRow n dl ⟨h, .remoteWrite tag epoch step offset window data⟩ 0)

/-- REMOTE_READ (R280). -/
def execRemoteRead (n : PortIx) (dl : Fin 2) (h : MsgHead) (tag epoch offset window length : Nat) (s : State) :
    Host.Outcome State Fault Refusal := .next (s.msgRow n dl ⟨h, .remoteRead tag epoch offset window length⟩ 0)

/-- READ_REPLY (R396). -/
def execReadReply (n : PortIx) (dl : Fin 2) (h : MsgHead) (tag status : Nat) (data : List Byte) (s : State) :
    Host.Outcome State Fault Refusal := .next (s.msgRow n dl ⟨h, .readReply tag status data⟩ 0)

/-- RING_TILE (R399). -/
def execRingTile (n : PortIx) (dl : Fin 2) (h : MsgHead) (c : Cwy) (seg : Nat) (side data ext : List Byte) (s : State) :
    Host.Outcome State Fault Refusal := .next (s.msgRow n dl ⟨h, .ringTile c seg side data ext⟩ 0)

/-- MIRROR_WRITE (R416). -/
def execMirrorWrite (n : PortIx) (dl : Fin 2) (h : MsgHead) (mseq object offset : Nat) (data : List Byte) (s : State) :
    Host.Outcome State Fault Refusal := .next (s.msgRow n dl ⟨h, .mirrorWrite mseq object offset data⟩ 0)

/-- KEYSTONE: a request (R421). -/
def execKeystone (n : PortIx) (dl : Fin 2) (h : MsgHead) (mseq step : Nat) (s : State) : Host.Outcome State Fault Refusal :=
  .next (s.msgRow n dl ⟨h, .keystone mseq step false⟩ 0)

/-- KEYSTONE_ACK (R421). -/
def execKeystoneAck (n : PortIx) (dl : Fin 2) (h : MsgHead) (mseq step : Nat) (s : State) : Host.Outcome State Fault Refusal :=
  .next (s.msgRow n dl ⟨h, .keystone mseq step true⟩ 0)

/-- A pair SYNC with its PARAM and payload (R420). -/
def State.syncRow (s : State) (n : PortIx) (dl : Fin 2) (h : MsgHead) (tag subtype : Nat) (param data : List Byte) : State :=
  s.msgRow n dl ⟨h, .sync subtype tag (padTo 16 param) data⟩ 0

/-- SYNC_FORM (R420). -/
def execSyncForm (n : PortIx) (dl : Fin 2) (h : MsgHead) (tag step entries kind : Nat) (s : State) :
    Host.Outcome State Fault Refusal :=
  .next (s.syncRow n dl h tag 1 (leBytes 4 step ++ leBytes 4 entries ++ leBytes 1 kind) [])

/-- SYNC_MAP (R420). -/
def execSyncMap (n : PortIx) (dl : Fin 2) (h : MsgHead) (tag : Nat) (entries : List (Nat × Nat)) (s : State) :
    Host.Outcome State Fault Refusal :=
  .next (s.syncRow n dl h tag 2 (leBytes 1 entries.length) (entries.flatMap (fun e => leBytes 3 e.1 ++ leBytes 5 e.2)))

/-- READY (R420, R431). -/
def execReady (n : PortIx) (dl : Fin 2) (h : MsgHead) (tag mseq : Nat) (s : State) : Host.Outcome State Fault Refusal :=
  .next (s.syncRow n dl h tag 3 (leBytes 8 mseq) [])

/-- MIRROR_APPLIED (R417). -/
def execMirrorApplied (n : PortIx) (dl : Fin 2) (h : MsgHead) (tag mseq : Nat) (s : State) : Host.Outcome State Fault Refusal :=
  .next (s.syncRow n dl h tag 4 (leBytes 8 mseq) [])

/-- MIRROR_RESEND (R417). -/
def execMirrorResend (n : PortIx) (dl : Fin 2) (h : MsgHead) (tag mseq : Nat) (s : State) : Host.Outcome State Fault Refusal :=
  .next (s.syncRow n dl h tag 5 (leBytes 8 mseq) [])

/-- KEYSTONE_REFUSED (R424). -/
def execKeystoneRefused (n : PortIx) (dl : Fin 2) (h : MsgHead) (tag mseq step reason : Nat) (s : State) :
    Host.Outcome State Fault Refusal :=
  .next (s.syncRow n dl h tag 6 (leBytes 8 mseq ++ leBytes 4 step ++ leBytes 1 reason) [])

/-- HANDOVER (R432). -/
def execHandover (n : PortIx) (dl : Fin 2) (h : MsgHead) (tag step : Nat) (s : State) : Host.Outcome State Fault Refusal :=
  .next (s.syncRow n dl h tag 7 (leBytes 4 step) [])

/-- PROBE: a request (R394). -/
def execProbe (n : PortIx) (dl : Fin 2) (h : MsgHead) (trunc : Bool) (tag tSend : Nat) (hops : List Hop) (s : State) :
    Host.Outcome State Fault Refusal := .next (s.msgRow n dl ⟨h, .probe false trunc tag tSend 0 hops⟩ 0)

/-- PROBE_REPLY (R394). -/
def execProbeReply (n : PortIx) (dl : Fin 2) (h : MsgHead) (trunc : Bool) (tag tSend tReply : Nat) (hops : List Hop)
    (status : Fin 4) (s : State) : Host.Outcome State Fault Refusal :=
  .next (s.msgRow n dl ⟨h, .probe true trunc tag tSend tReply hops⟩ status)

end Sys2Proof.Machine
end

