-- ==== Sys2Proof/Machine/Firmware.lean ====
section
/-! DEFINITION. Firmware (R539, R544-R551): the images of the NOR device, the checks of an update, the trial of a tollhouse
image, the load of a gate or a port image, and the restart of the tollhouse by its watchdog (R480). A NOR slot is
2 · target + image, with image A at 0 and B at 1. -/
namespace Sys2Proof.Machine

/-- The boot record in force (R547). -/
def State.boot (s : State) : BootRecord := bootInForce s.bootRecords

/-- The active image of a target by the boot record: 0 A, 1 B (R547). -/
def State.activeImage (s : State) (target : Nat) : Nat := s.boot.active.getD target 0

/-- The trial image of the boot record (R547, R549). -/
def State.trial (s : State) : Option Nat := s.boot.trial

/-- The boot record is rewritten where it names other images (R547). -/
def State.setBoot (s : State) (active : List Nat) (trial : Option Nat) : State :=
  if s.boot.active = active && s.boot.trial = trial then s
  else { s with bootRecords := rewriteBoot s.bootRecords active trial }

/-- The boot record names a trial image, or none (R547, R549). -/
def State.setTrial (s : State) (trial : Option Nat) : State := s.setBoot s.boot.active trial

/-- The boot record names an image of a target as active (R547-R550). -/
def State.setActive (s : State) (target ab : Nat) : State := s.setBoot (s.boot.active.set target ab) s.boot.trial

/-- The image written to a NOR slot; none where the slot holds what it was made with. -/
def State.norImage (s : State) (slot : Nat) : Option (List Byte) :=
  (s.nor.find? (fun e => e.1 = slot)).map Prod.snd

/-- Write an image to a NOR slot (R547). -/
def State.writeNor (s : State) (slot : Nat) (bs : List Byte) : State :=
  { s with nor := s.nor.ins slot bs }

/-- The bytes of a slot of the NOR device for a target (R547). -/
def norSize (target : Nat) : Nat := if target = 0 then 16 * 2 ^ 20 else 4 * 2 ^ 20

/-- The number at a place of an image. -/
def imageAt (bs : List Byte) (off n : Nat) : Nat := leNat ((bs.drop off).take n)

/-- VERSION of the image in a NOR slot (R545). -/
def State.norVersion (s : State) (slot : Nat) : Nat :=
  match s.norImage slot with
  | some bs => imageAt bs 8 4
  | none => (Config.madeVersion slot).toNat

/-- The digest that a start or load of the image in a NOR slot extends: over header and body for the tollhouse, over the whole
image for a gate or a port (R553). -/
def State.norDigest (s : State) (slot : Nat) : List Byte :=
  match s.norImage slot with
  | some bs => sha384 (if slot < 2 then bs.take (160 + imageAt bs 16 8) else bs)
  | none => beBytes 48 (Config.madeDigest slot).toNat

/-- The state of a key slot: FW0, FW1, PG0 and PG1 are 0 to 3 (R561). -/
def State.keyState (s : State) (i : Nat) : Nat := s.fld Fld.KEY_STATUS_SLOTS 0 / 4 ^ i % 4

/-- Set the state of a key slot. -/
def State.setKeyState (s : State) (i v : Nat) : State :=
  s.setFld Fld.KEY_STATUS_SLOTS 0 (s.fld Fld.KEY_STATUS_SLOTS 0 + 4 ^ i * v - 4 ^ i * s.keyState i)

/-- SVN_MIN of a target (R551, R561). -/
def svnMin : Nat → Fld
  | 0 => Fld.KEY_STATUS_SVN_MIN0
  | 1 => Fld.KEY_STATUS_SVN_MIN1
  | _ => Fld.KEY_STATUS_SVN_MIN2

/-- `n` free bytes. -/
def State.freeBytes : Nat → State → List Byte × State
  | 0, s => ([], s)
  | n + 1, s =>
    let r := s.fresh
    let t := State.freeBytes n r.2
    (BitVec.ofNat 8 r.1.toNat :: t.1, t.2)

/-- MR5 is extended with the SHA-384 of the key slot states, their hashes, the minimum SVNs and the owner fuse banks (R553); in which
layout they are hashed the spec does not state (log 22). -/
def State.extendFuses (s : State) : State :=
  let hashes (m : NMap (List Byte)) : List (List Byte) := [m.look (fun _ => []) 0, m.look (fun _ => []) 1]
  s.extendMr 5 (sha384 (Config.fuseImage (s.fld Fld.KEY_STATUS_SLOTS 0) (hashes s.firmwareKeys ++ hashes s.programKeys)
    ([0, 1, 2].map (fun t => s.fld (svnMin t) 0)) s.passwords s.debugKeys))

/-- Which check of R546 an image of a target fails first. `asked` is the TARGET that check 2 asks for, and `size` are the bytes that
hold the image. -/
def State.firmwareFault (s : State) (target asked size : Nat) (bs : List Byte) : Option Nat :=
  let n := imageAt bs 16 8
  let key := (bs.drop 24).take 96
  let slot := imageAt bs 5 1
  if imageAt bs 0 4 != 0x46575447 || n = 0 || norSize target < n + 256 || size < n + 256 || 4 ≤ imageAt bs 6 1 ||
      imageAt bs 7 1 != 0 || ((bs.drop 120).take 40).any (fun x => x != 0) then some 1
  else if imageAt bs 4 1 != asked then some 2
  else if 2 ≤ slot || s.keyState slot != 1 || sha384 key != s.firmwareKeys.look (fun _ => []) slot then some 3
  else if !ecdsaVerify key (bs.take (160 + n)) ((bs.drop (160 + n)).take 96) then some 4
  else if imageAt bs 12 4 < s.fld (svnMin target) 0 || 64 < imageAt bs 12 4 then some 5
  else none

/-- The image that an object holds: header, body and signature, within the slot of its target (R545). -/
def State.firmwareBytes (s : State) (target obj : Nat) : List Byte :=
  let n := imageAt (s.objBytes obj 0 160) 16 8
  s.objBytes obj 0 (min (n + 256) (min (norSize target) (s.object obj).size))

/-- The bytes of an object that hold an image, by their number. -/
def State.firmwareLength (s : State) (target obj : Nat) : Nat := (s.firmwareBytes target obj).length

/-- The fuses follow an image that has become active: the minimum SVN with SVN_COMMIT, and the other firmware key revoked with
REVOKE_OTHER, unless R544 forbids it (R546, R551). -/
def State.burnFor (s : State) (target slot : Nat) : State :=
  match s.norImage slot with
  | none => s
  | some bs =>
    let flags := imageAt bs 6 1
    let key := imageAt bs 5 1
    let raise := flags % 2 = 1 && s.fld (svnMin target) 0 < imageAt bs 12 4
    let revoke := flags / 2 % 2 = 1 && s.keyState key = 1 && s.keyState (1 - key) != 2
    let s1 := if raise then s.setFld (svnMin target) 0 (imageAt bs 12 4) else s
    let s2 := if revoke then s1.setKeyState (1 - key) 2 else s1
    if raise || revoke then s2.extendFuses else s2

/-- The tollhouse starts the image of its slot A or B: VERSION and MR1 follow (R553, R561). -/
def State.startTollhouse (s : State) (ab : Nat) : State :=
  ({ s with running := ab }.setFld Fld.FW_STATUS_VERSION 0 (s.norVersion ab)).extendMr 1 (s.norDigest ab)

/-- The image that is not active, of an active one. -/
def otherImage (ab : Nat) : Nat := 1 - ab

/-- The work of UPDATE_FIRMWARE for a target, with an image that passes the checks (R546): the tollhouse reads the object, once it need
not wait (R227). An image with poisoned bytes has no signature that can be verified: check 4 (DESIGN CHOICE, log 164). -/
def State.onFirmware (s : State) (k : MailIx) (target : Nat) (f : State → Packet → List Byte → State) : State :=
  s.onPacket k 0x0604 (fun p =>
    let obj := p.le 4 4
    if p.begun || p.le 0 1 != target then s
    else if !(s.object obj).valid then s.refuse k.val .objectAccess
    else if s.readWaits obj 0 (s.firmwareLength target obj) then s
    else
      let x := s.readObject obj 0 (s.firmwareLength target obj)
      let bs := x.2.firmwareBytes target obj
      match x.2.firmwareFault target target (s.object obj).size bs with
      | some n => x.2.finish k.val .fwRefused n []
      | none => if x.1 then x.2.finish k.val .fwRefused 4 [] else f x.2 p bs)

/-- UPDATE_FIRMWARE with TARGET 0: the image is written to the slot that is not active and named as the trial image (R549). -/
def State.updateTollhouse (s : State) (k : MailIx) : State :=
  s.onFirmware k 0 (fun s _ bs =>
    let t := otherImage (s.fld Fld.FW_STATUS_ACTIVE 0)
    ((s.beginPacket k.val).writeNor t bs).setTrial (some t))

/-- UPDATE_FIRMWARE_TOLLHOUSE. -/
def execUpdateFirmwareTollhouse (k : MailIx) (s : State) : Host.Outcome State Fault Refusal := .next (s.updateTollhouse k)

/-- An image is loaded into a gate (1) or a port (2): MR2 or MR3 is extended (R553), its slot becomes the active one at the first
load, and FW_UPDATED is posted (R550, R551). -/
def State.loadUnit (s : State) (target index ab : Nat) : State :=
  let slot := 2 * target + ab
  let s1 := s.extendMr (target + 1) (s.norDigest slot)
  let s2 := if s1.activeImage target = ab then s1 else (s1.setActive target ab).burnFor target slot
  s2.event .fwUpdated 0 0 (target + 256 * index + 2 ^ 32 * s.norVersion slot)

/-- The image of an update of a gate or a port is written to the slot that is not active, unless that holds it already (R550). -/
def State.writeUnit (s : State) (target : Nat) (bs : List Byte) : State :=
  let slot := 2 * target + otherImage (s.activeImage target)
  if s.norImage slot = some bs then s else s.writeNor slot bs

/-- UPDATE_FIRMWARE with TARGET 1: the gate keeps its requests, its refresh and its order point (R244). -/
def State.updateGate (s : State) (k : MailIx) : State :=
  s.onFirmware k 1 (fun s p bs =>
    ((s.writeUnit 1 bs).loadUnit 1 (p.le 1 1) (otherImage (s.activeImage 1))).finish k.val .ok 0 [])

/-- UPDATE_FIRMWARE_GATE. -/
def execUpdateFirmwareGate (k : MailIx) (s : State) : Host.Outcome State Fault Refusal := .next (s.updateGate k)

/-- A port with an active link takes its new firmware in RECOVERY, which it announces with RECOVER (R381); a port that had no image
may leave DISABLED (R378, R548). -/
def State.restartPort (s : State) (n : Nat) : State :=
  let s1 := { s with noPorts := s.noPorts.filter (fun m => m != n) }
  if s1.portState n = 5 then (s1.emitRecover n).onPort (fun s => s.enterRecovery n)
  else if s1.portState n = 0 && s1.portEnabled n then s1.setPortState n 1
  else s1

/-- UPDATE_FIRMWARE with TARGET 2. -/
def State.updatePort (s : State) (k : MailIx) : State :=
  s.onFirmware k 2 (fun s p bs =>
    (((s.writeUnit 2 bs).loadUnit 2 (p.le 1 1) (otherImage (s.activeImage 2))).restartPort (p.le 1 1)).finish
      k.val .ok 0 [])

/-- UPDATE_FIRMWARE_PORT. -/
def execUpdateFirmwarePort (k : MailIx) (s : State) : Host.Outcome State Fault Refusal := .next (s.updatePort k)

/-- The slot of the tollhouse update that waits for its quiet point (R539). -/
def State.switchWaits (s : State) : Option Nat :=
  match s.runningOp [0x0604] with
  | some (k, p) => if p.le 0 1 = 0 then some k else none
  | none => none

/-- Is this a quiet point for the command of slot `k`: no other long command, no notice above level 0 pending or in service, no
keystone without its acknowledgement, no brace (R539)? -/
def State.quiet (s : State) (k : Nat) : Bool :=
  !s.runningSlots.any (fun e => e.1 != k && e.2.long) && !(s.notices ++ s.taken).any (fun n => 0 < n.level) &&
    !s.awaitsAck && !s.flag Fld.TOKEN_STATUS_BRACE 0

/-- At the quiet point the tollhouse starts the trial image, with its working state and its session (R539, R549). -/
def State.fwSwitch (s : State) : State :=
  match s.switchWaits, s.trial with
  | some k, some t =>
    if s.quiet k then ((s.startTollhouse t).setFld Fld.FW_STATUS_TRIAL 0 1).finish k .ok 0 [] else s
  | _, _ => s

/-- FW_SWITCH. -/
def execFwSwitch (s : State) : Host.Outcome State Fault Refusal := .next s.fwSwitch

/-- No quiet point has come within 10 s: the old image stays in use (R539). -/
def State.fwSwitchTimeout (s : State) : State :=
  match s.switchWaits with
  | some k => (if s.flag Fld.FW_STATUS_TRIAL 0 then s else s.setTrial none).refuse k .timeout
  | none => s

/-- FW_SWITCH_TIMEOUT. -/
def execFwSwitchTimeout (s : State) : Host.Outcome State Fault Refusal := .next s.fwSwitchTimeout

/-- The trial ends without an expiry: the trial image becomes the active one (R549, R551). -/
def State.fwTrialEnd (s : State) : State :=
  match s.trial with
  | some t =>
    if s.flag Fld.FW_STATUS_TRIAL 0 then
      ((((s.setBoot (s.boot.active.set 0 t) none).setFld Fld.FW_STATUS_TRIAL 0 0).setFld Fld.FW_STATUS_ACTIVE 0 t).burnFor 0 t).event
        .fwUpdated 0 0 (2 ^ 32 * s.norVersion t)
    else s
  | none => s

/-- FW_TRIAL_END. -/
def execFwTrialEnd (s : State) : Host.Outcome State Fault Refusal := .next s.fwTrialEnd

/-- A step in progress fails with a code that no slot of a pier has raised: which pier and slot SCHED_FAULT then names, the spec does
not state (log 23). -/
def State.failFree (s : State) (c : Code) : State :=
  if s.launched then
    let a := s.fresh
    let b := a.2.fresh
    b.2.failStep c a.1.toNat b.1.toNat
  else s

/-- The tollhouse restarts from its active image, as its watchdog has it: a trial ends with its image rejected, and a step in
progress fails (R480, R549). -/
def State.restartTollhouse (s : State) (addr : Nat) : State :=
  let s1 := if s.flag Fld.FW_STATUS_TRIAL 0 then
      ((s.setTrial none).setFld Fld.FW_STATUS_TRIAL 0 0).setFld Fld.FW_STATUS_ROLLED_BACK 0 1
    else s
  ((s1.startTollhouse (s.fld Fld.FW_STATUS_ACTIVE 0)).failFree .tollhouseWdt).event .tollhouseWdt 0 0 (addr % 2 ^ 32)

/-- TOLLHOUSE_WDT. -/
def execTollhouseWdt (addr : Nat) (s : State) : Host.Outcome State Fault Refusal := .next (s.restartTollhouse addr)

end Sys2Proof.Machine
end

