-- ==== Sys2Proof/Machine/Event.lean ====
section
/-! DEFINITION. The event controller and the event queue (R462-R473): notices are presented and completed by their level, and their
records are written to the queue that HELLO named. -/
namespace Sys2Proof.Machine

/-- The 32 bytes of a record (R462). -/
def Notice.bytes (n : Notice) (seq phase : Nat) : List Byte :=
  leBytes 2 n.code.num ++ [BitVec.ofNat 8 (n.cls % 8 + 8 * (n.level % 8) + 64 * phase), BitVec.ofNat 8 n.srcKind] ++
    leBytes 4 seq ++ leBytes 8 n.time.toNat ++ leBytes 2 n.srcIndex ++ [BitVec.ofNat 8 n.logical, 0] ++ leBytes 4 n.step ++
    leBytes 8 n.detail

/-- The entries E of the queue in use. -/
def State.queueEntries (s : State) : Nat := 2 ^ s.fld Fld.EVT_STATUS_ENTRIES_LOG2 0

/-- The record index i (R465). -/
def State.evtIndex (s : State) : Nat := (s.reg .evtTail 0).toNat

/-- The last HEAD read (R466). -/
def State.evtHeadRead (s : State) : Nat := (s.reg .evtHead 0).toNat

/-- May records be written: a session is open, Juwire is ACTIVE, and the BOOT record has come (R469)? -/
def State.recordsOpen (s : State) : Bool :=
  s.flag Fld.CMD_STATUS_SESSION 0 && s.flag Fld.EVT_STATUS_QUEUE_VALID 0 && s.jwActive && !s.bootWait

/-- Write a record at index i (R465). -/
def State.writeRecord (s : State) (seq : Nat) (n : Notice) : State :=
  let i := s.evtIndex
  let e := s.queueEntries
  { s.jwWrite .record (s.queue.base + 32 * (i % e)) (n.bytes seq (1 - i / e % 2)) with recordOut := true }

/-- The EVT_QUEUE_OVERFLOW record for the records lost (R468, R480). -/
def State.overflowNotice (s : State) : Notice :=
  ⟨.evtQueueOverflow, 0, 0, 0, 0, 0xFF, s.now, s.stepNo, s.lostRecords, none⟩

/-- A SEQ is taken (R464). -/
def State.takeSeq (s : State) : State := s.wrapAdd Fld.EVT_STATUS_NEXT_SEQ 0 1

/-- The oldest waiting record is written, if none is outstanding: it is lost where i − HEAD > E − 2, and an overflow record goes
before it where records have been lost (R467, R468). `fuel` bounds the records lost. -/
def State.pumpRecords : Nat → State → State
  | 0, s => s
  | fuel + 1, s =>
    match s.posted with
    | [] => s
    | (seq, n) :: rest =>
      if s.recordOut || !s.recordsOpen then s
      else if s.queueEntries - 2 < s.evtIndex - s.evtHeadRead then
        State.pumpRecords fuel ({ (s.bump Fld.EVT_COUNT_LOST 0 1).setFld Fld.EVT_STATUS_OVF_PENDING 0 1 with
          posted := rest
          lostRecords := s.lostRecords + 1 })
      else if 0 < s.lostRecords then
        let m := s.overflowNotice
        let q := s.fld Fld.EVT_STATUS_NEXT_SEQ 0
        ({ s.takeSeq.setFld Fld.EVT_STATUS_OVF_PENDING 0 0 with
          posted := (q, m) :: s.posted
          lostRecords := 0 }).writeRecord q m
      else s.writeRecord seq n

/-- Write what can be written. -/
def State.pumpQueue (s : State) : State := State.pumpRecords (s.posted.length + 1) s

/-- A notice's record is posted: it takes the next SEQ; where it cannot be written yet, up to 1,024 are held, BOOT first (R464,
R469). -/
def State.postNotice (s : State) (n : Notice) : State :=
  let q := s.fld Fld.EVT_STATUS_NEXT_SEQ 0
  let s1 := s.takeSeq
  if n.code = .boot then { s1 with posted := (q, n) :: s1.posted, bootWait := false }.pumpQueue
  else if !s1.recordsOpen && 1024 ≤ s1.posted.length then s1.bump Fld.EVT_COUNT_LOST 0 1
  else { s1 with posted := s1.posted ++ [(q, n)] }.pumpQueue

/-- The write of the outstanding record has completed: the interrupt where the queue was empty, and i advances (R467). -/
def State.recordDone (s : State) : State :=
  if s.recordOut then
    let i := s.evtIndex
    let s1 := { s with
      recordOut := false
      posted := s.posted.drop 1
      jwBusy := s.jwBusy.filter (fun e => e.2 != JwKind.record) }
    let s2 := if s1.evtHeadRead = i then s1.jwWrite .msi s1.queue.msiAddr (leBytes 4 s1.queue.msiData) else s1
    (s2.setReg .evtTail 0 (BitVec.ofNat 64 (i + 1))).pumpQueue
  else s

/-- EVENT_RECORD_DONE. -/
def execEventRecordDone (s : State) : Host.Outcome State Fault Refusal := .next s.recordDone.pumpHeld

/-- HEAD is read from the head line (R442, R466): one beyond i or below the last is ignored, and so is a poisoned line; a read that is lost
is made once more (log 168). -/
def State.takeHead (s : State) (status : Fin 4) : State :=
  let a := s.queue.headLine
  let s1 := s.jwRead a 64 true
  let h := s.leAt a 8
  if status = 1 then s1.jwPoison a
  else
    let s2 := if status = 0 then s1 else s1.jwRead a 64 true
    if s.evtIndex < h || h < s.evtHeadRead then s2.setFld Fld.EVT_STATUS_HEAD_BAD 0 1
    else s2.setReg .evtHead 0 (BitVec.ofNat 64 h)

/-- HEAD is read, and the records that it makes room for are written. -/
def State.readHead (s : State) (status : Fin 4) : State := (s.takeHead status).pumpQueue

/-- The level at the top of the priority stack (R471). -/
def State.topLevel (s : State) : Option Nat := s.taken.getLast?.map Notice.level

/-- The notice that the controller presents: the oldest of the highest pending level, if that is above the top of the stack
(R471). -/
def State.presented (s : State) : Option Notice :=
  let l := s.notices.foldl (fun l n => max l n.level) 0
  if s.topLevel.all (fun t => t < l) then s.notices.find? (fun n => n.level = l) else none

/-- EVT_PRESENT: the notice that is presented (R471, R482). -/
def State.presentWord (s : State) : Word :=
  match s.presented with
  | some n => BitVec.ofNat 64 (n.code.num % 65536 + n.level % 8 * 65536 + 2 ^ 19)
  | none => 0

/-- Firmware takes the presented notice by reading EVT_PRESENT, whose RSV bits are unspecified (R15, R471, R482). -/
def State.present (s : State) : State :=
  let x := s.fresh
  let t := x.2.send (.firmware (s.presentWord ||| (x.1 <<< 20)))
  match s.presented with
  | some n => { t with notices := s.notices.erase n, taken := s.taken ++ [n] }
  | none => t

/-- EVT_PRESENT. -/
def execEvtPresent (s : State) : Host.Outcome State Fault Refusal := .next s.present

/-- A completion of another level than that at the top: EVT_STACK_FAULT, and with level 7 at the top the tollhouse restarts
(R472). With an empty stack there is no level at the top, and its place in DETAIL is a free value (log 24). -/
def State.stackFault (s : State) (level : Nat) : State :=
  match s.topLevel with
  | some t =>
    let s1 := (s.bump Fld.EVT_COUNT_STACK_FAULTS 0 1).event .evtStackFault 0 0 (level + 8 * t)
    if t = 7 then
      let r := s1.fresh
      r.2.restartTollhouse r.1.toNat
    else s1
  | none =>
    let r := (s.bump Fld.EVT_COUNT_STACK_FAULTS 0 1).fresh
    r.2.event .evtStackFault 0 0 (level + 8 * (r.1.toNat % 8))

/-- Firmware completes a level: the stack is popped and the record posted (R471, R472). -/
def State.evtDone (s : State) (level : Nat) : State :=
  match s.taken.getLast? with
  | some n => if n.level = level then { s with taken := s.taken.dropLast }.postNotice n else s.stackFault level
  | none => s.stackFault level

/-- EVT_DONE. -/
def execEvtDone (level : Fin 8) (s : State) : Host.Outcome State Fault Refusal := .next (s.evtDone level.val)

/-- The stack is emptied, and the notices taken go back to the heads of their queues (R472). -/
def State.flushStack (s : State) : State := { s with notices := s.taken ++ s.notices, taken := [] }

/-- EVT_FLUSH. -/
def execEvtFlush (s : State) : Host.Outcome State Fault Refusal := .next s.flushStack

end Sys2Proof.Machine
end

