-- ==== Sys2Proof/Machine/GateInstr.lean ====
section
/-! DEFINITION. The meanings of the gates' commands: accesses (R224, R225), refresh and temperature (R231-R233), scrubbing
(R237), row repairs (R240-R242) and the reading of the watch table (R245). -/
namespace Sys2Proof.Machine

/-- An access to a hole: UNMAPPED_ACCESS (R12). -/
def State.unmapped (s : State) (a : Nat) : State := s.event .unmappedAccess 0 0 a

/-- A register access that is refused: REG_ACCESS_FAULT (R14, R17). -/
def State.regFault (s : State) (a : Nat) : State := s.event .regAccessFault 0 0 a

/-- The first address of block 1,023, which only the tollhouse and the translation and window hardware may reach (R260). -/
def tollhouseBlock : Nat := 0xFFC0000000

/-- An access at a gate (R224, R225, R235, R260); one whose gate transfers no data bursts waits (R231). -/
def State.gateAccess (s : State) (cls : Fin 3) (addr len : Nat) (data : Option (List Byte)) (poison : Bool) (u : Upset) : State :=
  let n := match data with
    | some bs => bs.length
    | none => len
  if tollhouseBlock < addr + n then
    (s.unmapped addr).send (.gate addr (match data with
      | some _ => []
      | none => List.replicate n 0xFF) false)
  else if s.blocked addr n then { s with hostWaits := s.hostWaits ++ [.request (.gateAccess cls addr len data poison u)] }
  else
    match data with
    | none =>
      let x := s.gateRead cls.val addr len u
      x.2.send (.gate addr (if x.1 then List.replicate len 0 else x.2.bytes addr len) x.1)
    | some bs =>
      let w : Writer := .access addr
      let x := s.gateWrite w cls.val addr bs poison u
      x.2.finishWrite w (.gate addr [] x.1)

/-- GATE_ACCESS. -/
def execGateAccess (cls : Fin 3) (addr len : Nat) (data : Option (List Byte)) (poison : Bool) (upset : Option (Nat × Nat))
    (s : State) : Host.Outcome State Fault Refusal := .next (s.gateAccess cls addr len data poison upset)

/-- STACK_REFRESH: refresh changes when requests are served and no data (R233); no state of the model depends on when. -/
def execStackRefresh (_ : GateIx) (s : State) : Host.Outcome State Fault Refusal := .next s

/-- Codewords of a stack (R218, R234). -/
def scrubSize : Nat := 2 ^ 31

/-- The device address of a place under the modes in force. -/
def State.addrOf (s : State) (x : Place) : Nat :=
  if s.stackLocal (x.addr / 8192 / 512) then localAddr x else hashedAddr x

/-- The next codeword of the scrub walk is read and corrected; the walk goes channel by channel (R237; the order is the
model's choice, log 6). A scrub period of 0 disables scrubbing, and a gate that transfers no data bursts scrubs nothing (R231). -/
def State.scrub (s : State) (g : Nat) (symbols : Nat) : State :=
  if s.fld Fld.GATE_CFG_SCRUB_HOURS g = 0 || s.gateHeld g then s
  else
    let x := s.gate g
    let a := s.addrOf ⟨g, x.scrub / 2 ^ 26, 64 * (x.scrub % 2 ^ 26)⟩
    let s1 := (s.decodeBlock a symbols 1).2
    s1.setGate g { s1.gate g with scrub := (x.scrub + 1) % scrubSize }

/-- SCRUB_BURST. -/
def execScrubBurst (g : GateIx) (symbols : Nat) (s : State) : Host.Outcome State Fault Refusal :=
  .next (s.scrub g.val symbols)

/-- The row of the table of R231 that a temperature lies in. -/
def heatRow (c : Nat) : Nat := if c ≤ 85 then 0 else if c ≤ 95 then 1 else if c ≤ 105 then 2 else if c ≤ 109 then 3 else 4

/-- The temperature that every reading must have kept to for a row of the table of R231 to be left downwards (R232). -/
def coolTo : Nat → Nat
  | 1 => 83
  | 2 => 93
  | 3 => 103
  | _ => 105

/-- The readings of 10 ms, one every 250 µs (R231, R232). -/
def readings10ms : Nat := 40

/-- Refresh rate of a row of R231. -/
def rateOf : Nat → Nat
  | 0 => 0
  | 1 => 1
  | _ => 2

/-- The state and the refresh rate of a gate follow the row of R231 in force; entries into the throttled and the stopped
state are reported, and a gate that resumes serves what waits (R231, R232, R247). -/
def State.setHeat (s : State) (g row c : Nat) : State :=
  let old := (s.gate g).heat
  let s1 := ((s.setGate g { s.gate g with heat := row }).setFld Fld.GATE_STATUS_REFRESH_RATE g
    (max (rateOf row) (s.fld Fld.GATE_CFG_REFRESH_FLOOR g))).setFld Fld.GATE_STATUS_STATE g
    (if row = 4 then 4 else if row = 3 then 3 else 2)
  let s2 := if row = 3 && old != 3 then s1.flagEvent Fld.GATE_ERR_STACK_THROTTLE g .stackThrottle 2 g (c % 256) else s1
  let s3 := if row = 4 && old != 4 then s2.flagEvent Fld.GATE_ERR_STACK_OVERTEMP g .stackOvertemp 2 g (c % 256) else s2
  s3.serveBursts g

/-- A temperature reading of a stack (R231, R232): up at once, down one row at a time after 10 ms of cool readings; the readings that
have lowered one row count for the next one too (log 137). -/
def State.tempReading (s : State) (g c : Nat) : State :=
  let v := s.fld Fld.GATE_STATUS_STATE g
  if v < 2 || v = 5 then s
  else
    let x := s.gate g
    let rs := (c :: x.readings).take readings10ms
    let s1 := ((s.setGate g { x with readings := rs }).setFld Fld.GATE_TEMP_TEMP_NOW g c).setFld Fld.GATE_TEMP_TEMP_MAX g
      (max c (s.fld Fld.GATE_TEMP_TEMP_MAX g))
    let row :=
      if x.heat < heatRow c then heatRow c
      else if 0 < x.heat && rs.length = readings10ms && rs.all (fun r => r ≤ coolTo x.heat) then x.heat - 1
      else x.heat
    s1.setHeat g row c

/-- STACK_TEMP_READING. -/
def execStackTempReading (g : GateIx) (celsius : Nat) (s : State) : Host.Outcome State Fault Refusal :=
  .next (s.tempReading g.val celsius)

/-- A repair is asked for by a write to REPAIR_CTRL (R240-R242, R253): discarded while one is in progress; a hard repair
while a program is launched is refused with RESULT 3. `a` is the register's address. -/
def State.askRepair (s : State) (g : Nat) (r : Repair) (a : Nat) : State :=
  if s.flag Fld.REPAIR_STATUS_BUSY g then s.regFault a
  else if r.op = 0 then s
  else if r.op = 2 && s.launched then s.repairDone g r 3
  else (s.setGate g { s.gate g with repair := some r }).setFld Fld.REPAIR_STATUS_BUSY g 1

/-- The address of REPAIR_CTRL of a gate (R246). -/
def repairCtrlAddr (g : Nat) : Nat := 0x020100200050 + g * 0x10000

/-- SOFT_REPAIR. -/
def execSoftRepair (g : GateIx) (channel : Fin 32) (bank : Fin 64) (row : Fin 65536) (s : State) :
    Host.Outcome State Fault Refusal := .next (s.askRepair g.val ⟨1, channel.val, bank.val, row.val⟩ (repairCtrlAddr g.val))

/-- HARD_REPAIR. -/
def execHardRepair (g : GateIx) (channel : Fin 32) (bank : Fin 64) (row : Fin 65536) (s : State) :
    Host.Outcome State Fault Refusal := .next (s.askRepair g.val ⟨2, channel.val, bank.val, row.val⟩ (repairCtrlAddr g.val))

/-- RELEASE_SOFT_REPAIR. -/
def execReleaseSoftRepair (g : GateIx) (channel : Fin 32) (bank : Fin 64) (row : Fin 65536) (s : State) :
    Host.Outcome State Fault Refusal := .next (s.askRepair g.val ⟨3, channel.val, bank.val, row.val⟩ (repairCtrlAddr g.val))

/-- The free spare that a repair takes: that named if it is free, else the lowest free one. -/
def State.pickSpare (s : State) (g : Nat) (r : Repair) (spare : Nat) : Option Nat :=
  if s.spareFree g r.channel r.bank spare then some spare else (List.range 4).find? (s.spareFree g r.channel r.bank)

/-- The free entry of a channel that a soft repair takes: that named if it is free, else the lowest free one. -/
def State.pickEntry (s : State) (g channel entry : Nat) : Option Nat :=
  let free (k : Nat) : Bool := !s.flag Fld.SOFT_REPAIR_VALID (softIx g channel k)
  if free entry then some entry else (List.range 8).find? free

/-- A soft repair in its window (R240). One of a row that a soft repair redirects already takes a second spare and a second entry (DESIGN
CHOICE, log 163). -/
def State.softRepair (s : State) (g : Nat) (r : Repair) (spare entry : Nat) (symbols : List Nat) : State :=
  match s.pickSpare g r spare, s.pickEntry g r.channel entry with
  | some sp, some k =>
    let h : HardRepair := ⟨r.channel, r.bank, r.row, sp⟩
    let s1 := ((s.copyRow g r.channel r.bank r.row symbols).setSoft g r.channel k (some h)).journalise (.softRepair g h true)
    s1.repairDone g r 1
  | _, _ => s.repairDone g r 2

/-- A hard repair (R241): the row is copied and its fuses are burnt; it takes over the spare of a soft repair of its row. -/
def State.hardRepair (s : State) (g : Nat) (r : Repair) (spare : Nat) (symbols : List Nat) (burnt : Bool) : State :=
  let soft := s.softOf g r.channel r.bank r.row
  let sp := match soft with
    | some k => some (s.fld Fld.SOFT_REPAIR_SPARE (softIx g r.channel k))
    | none => s.pickSpare g r spare
  match sp with
  | none => s.repairDone g r 2
  | some sp =>
    let s1 := s.copyRow g r.channel r.bank r.row symbols
    if !burnt then s1.repairDone g r 4
    else
      let h : HardRepair := ⟨r.channel, r.bank, r.row, sp⟩
      let s2 := match soft with
        | some k => (s1.setSoft g r.channel k none).journalise (.softRepair g h false)
        | none => s1
      ((s2.setGate g { s2.gate g with hard := (s2.gate g).hard ++ [h] }).bump Fld.GATE_STATUS_HARD_USED g 1).repairDone g r 1

/-- The release of a soft repair (R242): the spare is copied back, then the entry and the spare are free. -/
def State.releaseRepair (s : State) (g : Nat) (r : Repair) (symbols : List Nat) : State :=
  match s.softOf g r.channel r.bank r.row with
  | none => s.repairDone g r 2
  | some k =>
    let h : HardRepair := ⟨r.channel, r.bank, r.row, s.fld Fld.SOFT_REPAIR_SPARE (softIx g r.channel k)⟩
    (((s.copyRow g r.channel r.bank r.row symbols).setSoft g r.channel k none).journalise (.softRepair g h false)).repairDone
      g r 1

/-- Does a test march over the stack of a gate (R524, R528)? -/
def State.marched (s : State) (g : Nat) : Bool := s.bist.any (fun t => t.scope ≤ 1 || (t.scope = 3 && t.target = g))

/-- The window of a pending repair comes (R240-R242); a hard repair is refused where a program has been launched since (R241). While a
test marches over the stack the repair waits (R537; log 176). -/
def State.repairWindow (s : State) (g spare entry : Nat) (symbols : List Nat) (burnt : Bool) : State :=
  match (s.gate g).repair with
  | none => s
  | some r =>
    if s.marched g then s else
    match r.op with
    | 1 => s.softRepair g r spare entry symbols
    | 2 => if s.launched then s.repairDone g r 3 else s.hardRepair g r spare symbols burnt
    | _ => s.releaseRepair g r symbols

/-- REPAIR_WINDOW. -/
def execRepairWindow (g : GateIx) (spare : Fin 4) (entry : Fin 8) (symbols : List Nat) (burnt : Bool) (s : State) :
    Host.Outcome State Fault Refusal := .next (s.repairWindow g.val spare.val entry.val symbols burnt)

/-- Word 0 and word 1 of a watch entry (R201). -/
def WatchEntry.words (e : WatchEntry) : Word × Word :=
  (BitVec.ofNat 64 (1 + 2 * e.pier + 2 ^ 9 * e.slot + 2 ^ 19 * e.kind + 2 ^ 21 * e.gen.toNat + 2 ^ 23 * e.lo),
    BitVec.ofNat 64 e.hi)

/-- A write to WATCH_SEL latches both words of an entry together (R245, R255). -/
def State.watchSel (s : State) (g index : Nat) : State :=
  let w := match s.watch.find? (fun e => e.1 = watchSize * g + index) with
    | some e => e.2.words
    | none => (0, 0)
  ((s.setFld Fld.WATCH_SEL_INDEX g index).setReg .watchW0 g w.1).setReg .watchW1 g w.2

/-- WATCH_SEL. -/
def execWatchSel (g : GateIx) (index : Fin 256) (s : State) : Host.Outcome State Fault Refusal :=
  .next (s.watchSel g.val index.val)

end Sys2Proof.Machine
end

