-- ==== Sys2Proof/Machine/Wipe.lean ====
section
/-! DEFINITION. What the module loses with the power of its piers, gates and stacks, at park entry and at every module boot (R514,
R518, R521), and what it takes back from the journal (R242, R530). -/
namespace Sys2Proof.Machine

/-- The registers that return to their defaults with the fabric, the gates and the stacks (R521), but for those of the piers. -/
def fabricRegs : List RegName :=
  [.ringErr, .ringErrCount, .viaductLayout, .viaductExt] ++
  (gateBlock.filter (fun r => r.reg != .gateCfg)).map RegRow.reg ++ [.interleaveMode] ++
  (homeBlock.filter (fun r => r.reg != .homeCfg)).map RegRow.reg ++ schedBlock.map RegRow.reg ++
  (tokenBlock.filter (fun r => r.reg != .tokenStatus)).map RegRow.reg ++
  (schedEngBlock.filter (fun r => r.reg != .stepCounter)).map RegRow.reg ++ parapetBlock.map RegRow.reg

/-- Registers by name return to their defaults. -/
def State.dropRegs (s : State) (rs : List RegName) : State :=
  { s with regs := s.regs.filter (fun e => !rs.any (fun r => r.ctorIdx = e.1 % 256)) }

/-- HARD_USED of a gate counts the hard repairs of its stack (R241). -/
def State.countHard (s : State) : State :=
  (List.range 8).foldl (fun s g => s.setFld Fld.GATE_STATUS_HARD_USED g (s.gate g).hard.length) s

/-- The token registers at a reset but for the budget in force, which `resetRegs` has left at its value, and the alert line as it stands
(R329, R521): nothing is computed before BIND or SET_BUDGET (R322, R333). -/
def State.retoken (s : State) : State :=
  let w := s.fld Fld.TOKEN_STATUS_BUDGET_W 0
  let alert := if (s.fld Fld.SENSE_STATUS_FILT 0).testBit 2 then 0 else 1
  let s1 := { s.setReg .tokenStatus 0 (regInit .tokenStatus 0) with factorT := 16, factorP := 16, hotTemps := 0, coolTemps := 0 }
  let s2 := (s1.setFld Fld.TOKEN_STATUS_BUDGET_W 0 w).setFld Fld.TOKEN_STATUS_ALERT 0 alert
  (s2.setFld Fld.TOKEN_STATUS_FACTOR 0 s2.throttle).regrantAll

/-- The compute of every pier is lost, the binding standing (R521). -/
def State.clearPiers (s : State) : State := s.clearCompute (fun _ => true)

/-- Piers, fabric, gates and stacks have lost their power: image, binding, objects, windows, saves and stack contents are gone,
watch tables, tags and messages on their way with them; what a gate has burnt into its stack stays (R514, R518, R521). Window
contexts start closed at one fresh epoch (R281). -/
def State.loseFabric (s : State) : State :=
  let s1 := (s.unbind.clearPiers).dropRegs fabricRegs
  let e := s1.fresh
  ({ e.2 with
    mem := s1.mem.filter (fun c => hostBase ≤ c.1)
    held := []
    flight := []
    launchStep := 0
    ramp := 256
    imageBudget := 0
    imageObject := 0
    saves := []
    evaluating := false
    commitBarred := false
    loopbacks := []
    tokenMoves := []
    refetches := []
    watch := []
    staleNotices := []
    openWrites := []
    gates := (s1.gates.filter (fun (g : Nat × Gate) => !g.2.hard.isEmpty)).map (fun (g : Nat × Gate) =>
      (g.1, { Gate.init with hard := g.2.hard }))
    stored := []
    flaws := []
    tags := []
    objects := []
    homes := []
    windows := []
    startEpoch := BitVec.ofNat 32 e.1.toNat
    moves := []
    bringUps := []
    parapets := []
    links := []
    cuts := []
    ringTiles := []
    selfMsgs := []
    remotes := []
    windowWaits := []
    ring := []
    routerFails := []
    fenceDue := [] }.countHard.countBreaks).retoken

/-- Is the soft repair of a record of the journal in force: no later record of its row releases it (R242)? `later` are the records
after it. -/
def stillSoft (g : Nat) (h : HardRepair) (later : List JRecord) : Bool :=
  !later.any (fun r => match r with
    | .softRepair g2 h2 _ => g2 = g && h2.channel = h.channel && h2.bank = h.bank && h2.row = h.row
    | _ => false)

/-- The soft row repairs that the journal holds in force, oldest first. -/
def softInForce : List JRecord → List (Nat × HardRepair)
  | [] => []
  | r :: later =>
    match r with
    | .softRepair g h true => if stillSoft g h later then (g, h) :: softInForce later else softInForce later
    | _ => softInForce later

/-- The gates apply the recorded soft repairs again, each in the lowest free entry of its channel (R242). -/
def State.restoreSoft (s : State) : State :=
  (softInForce (s.records.reverse ++ s.journalWrites)).foldl (fun s e =>
    match s.pickEntry e.1 e.2.channel 0 with
    | some k => s.setSoft e.1 e.2.channel k (some e.2)
    | none => s) s

/-- A gate whose stack has failed enters the failed state with STACK_FAIL (R243). -/
def State.failStack (s : State) (g : Nat) : State :=
  (s.setFld Fld.GATE_STATUS_STATE g 5).flagEvent Fld.GATE_ERR_STACK_FAIL g .stackFail 2 g 0

/-- The gates have trained: a stack is ready, or has failed its training (R243). -/
def State.trainGates (s : State) (untrained : List GateIx) : State :=
  ((List.finRange 8).foldl (fun s g =>
    if untrained.contains g then s.failStack g.val else s.setFld Fld.GATE_STATUS_STATE g.val 2) s).restoreSoft

end Sys2Proof.Machine
end

