-- ==== Sys2Proof/Machine/Power.lean ====
section
/-! DEFINITION. The power states (R511-R514), the hold-up bank's measurement (R506) and brace (R500-R503). -/
namespace Sys2Proof.Machine

/-- Does brace hold the module (R501)? -/
def State.braced (s : State) : Bool := s.flag Fld.TOKEN_STATUS_BRACE 0

/-- POWER_STATUS.STATE: 0 running, 1 idle, 2 doze, 3 park, 4 waking (R523). -/
def State.powerState (s : State) : Nat := s.fld Fld.POWER_STATUS_STATE 0

/-- Set POWER_STATUS.STATE. -/
def State.setPower (s : State) (v : Nat) : State := s.setFld Fld.POWER_STATUS_STATE 0 v

/-- Set the raw and the filtered level of an input (R474, R483): 0 RESET_L, 1 PAIR_ALIVE, 2 THERM_ALERT_L, 3 below 38.0 V, 4 below
34.0 V, 5 at or above 39.5 V. -/
def State.setSense (s : State) (i : Nat) (v : Bool) : State :=
  let put (w : Nat) : Nat := (if w.testBit i then w - 2 ^ i else w) + (if v then 2 ^ i else 0)
  (s.setFld Fld.SENSE_STATUS_RAW 0 (put (s.fld Fld.SENSE_STATUS_RAW 0))).setFld Fld.SENSE_STATUS_FILT 0
    (put (s.fld Fld.SENSE_STATUS_FILT 0))

/-- The filtered level of an input. -/
def State.sensed (s : State) (i : Nat) : Bool := (s.fld Fld.SENSE_STATUS_FILT 0).testBit i

/-- The charger runs while the recovery level is asserted, outside brace and outside a measurement (R505, R506). -/
def State.charge (s : State) : State :=
  s.setFld Fld.POWER_STATUS_CHARGING 0
    (if s.sensed 5 && !s.braced && !s.flag Fld.HOLDUP_STATUS_MEASURING 0 then 1 else 0)

/-- A measurement of the bank begins; under brace it waits (R501, R506). -/
def State.startMeasure (s : State) : State :=
  if s.braced then { s with measureWanted := true }
  else ({ s with measureWanted := false }.setFld Fld.HOLDUP_STATUS_MEASURING 0 1).charge

/-- HOLDUP_MEASURE: a write to POWER_CTRL with MEASURE = 1. -/
def execHoldupMeasure (s : State) : Host.Outcome State Fault Refusal := .next s.startMeasure

/-- A measurement ends: V1 and V2 in 10 mV, and the bank stands at `bank` (R506). -/
def State.measureDone (s : State) (bank v1 v2 : Nat) : State :=
  if s.flag Fld.HOLDUP_STATUS_MEASURING 0 then
    (((s.setFld Fld.HOLDUP_STATUS_MEASURING 0 0).measureBank v1 v2).setBank bank).charge
  else s

/-- HOLDUP_MEASURE_DONE. -/
def execHoldupMeasureDone (bank v1 v2 : Nat) (s : State) : Host.Outcome State Fault Refusal := .next (s.measureDone bank v1 v2)

/-- HOLDUP_AGE_EXPIRY: the last result is older than HOLDUP_AGE_S, and a measurement starts (R506). -/
def execHoldupAgeExpiry (s : State) : Host.Outcome State Fault Refusal :=
  .next (if s.flag Fld.HOLDUP_STATUS_VALID 0 then s.startMeasure else s)

/-- Does a command of these run? -/
def State.runsAny (s : State) (ops : List Nat) : Bool := s.runningSlots.any (fun e => ops.contains e.2.opcode)

/-- The commands that keep the module from idle: LAUNCH, RESUME, FENCE_PIER, ADMIT_PIER, BIST_RUN (R512). -/
def runningOps : List Nat := [0x0203, 0x0205, 0x0601, 0x0602, 0x0603]

/-- Nothing has kept the module running for IDLE_DELAY_US: idle (R512, R532). -/
def State.idleEntry (s : State) : State :=
  if s.phase = .released && s.powerState = 0 && !s.launched && !s.runsAny runningOps && s.tests.isEmpty && s.bist.isNone then
    s.setPower 1
  else s

/-- IDLE_ENTRY. -/
def execIdleEntry (s : State) : Host.Outcome State Fault Refusal := .next s.idleEntry

/-- Why doze or park is refused (R512): the code of REFUSE, or 0. -/
def State.powerRefusal (s : State) (park : Bool) : Nat :=
  if s.launched then 1
  else if s.runningSlots.any (fun e => e.2.long) then 2
  else if s.braced then 3
  else if park && s.pairState != 0 then 4
  else if park && 0 < s.openWindows then 5
  else 0

/-- Doze: the compute of every pier loses power, its contents and registers are lost, and the stacks go to self-refresh (R511-R513, R521);
the binding stays in force. -/
def State.enterDoze (s : State) : State :=
  let s1 := (s.binding.foldl (fun s p => s.dropTransfers p) s).clearPiers
  { s1.setPower 2 with openGates := [] }

/-- POWER_CTRL.TARGET = 2 (R512). A module that runs without cause goes by way of idle. -/
def State.powerDoze (s : State) : State :=
  if s.phase = .released && s.powerState ≤ 1 then
    if s.powerRefusal false != 0 then s.setFld Fld.POWER_STATUS_REFUSE 0 (s.powerRefusal false)
    else if s.tests.isEmpty then s.enterDoze
    else s
  else s

/-- POWER_DOZE. -/
def execPowerDoze (s : State) : Host.Outcome State Fault Refusal := .next s.powerDoze

/-- A port is disabled at park entry: LINK_DOWN where it was ACTIVE (R514). -/
def State.parkPort (s : State) (n : Nat) : State :=
  let was := s.portState n
  let s1 := (s.setPortState n 0).dropLink n
  if was = 5 then s1.portEvent Fld.PORT_ERR_LINK_DOWN n .linkDown n else s1

/-- Park: every port is disabled, and piers, fabric, gates and stacks lose their power (R514, R521). -/
def State.enterPark (s : State) : State :=
  { (((List.range 12).foldl State.parkPort s).updateBond.loseFabric.setPower 3) with openGates := [], jwAsleep := s.fld Fld.JW_STATUS_STATE 0 = 5 }

/-- POWER_CTRL.TARGET = 3 (R512). -/
def State.powerPark (s : State) : State :=
  if s.phase = .released && s.powerState ≤ 2 then
    if s.powerRefusal true != 0 then s.setFld Fld.POWER_STATUS_REFUSE 0 (s.powerRefusal true)
    else if s.tests.isEmpty then s.enterPark
    else s
  else s

/-- POWER_PARK. -/
def execPowerPark (s : State) : Host.Outcome State Fault Refusal := .next s.powerPark

/-- A port that may leave DISABLED goes to DETECT (R378). -/
def State.enablePort (s : State) (n : Nat) : State :=
  if s.portState n = 0 && s.portEnabled n then s.setPortState n 1 else s

/-- Park is left (R514): the gates retrain, any of whose stacks may fail, which nothing outside shows (a free choice for each, log 173); the
ports go to DETECT, and every pier that was admitted is tested before it is admitted again; with none of them, spares are. -/
def State.leavePark (s : State) : State :=
  let ps := s.admitted
  let x := s.fresh
  let s1 := { x.2.setPower 1 with admitted := [], parked := ps, jwAsleep := false }.trainGates
    ((List.finRange 8).filter (fun g => x.1.getLsbD g.val))
  let s2 := (List.range 12).foldl State.enablePort s1
  let s3 := ps.foldl (fun s p => s.startTest ⟨p, .park⟩) s2
  if ps.isEmpty then
    match s3.nextSpare 0 with
    | some q => s3.startTest ⟨q, .park⟩
    | none => s3
  else s3

/-- The park tests that brace or a trip has ended are run again once neither stands in their way: the piers are still held out of admission
(R514, R537; log 174). -/
def State.retestParked (s : State) : State :=
  if s.braced || s.flag Fld.THERM_STATUS_TRIPPED 0 then s
  else (s.parked.filter (fun p => !s.tests.any (fun t => t.pier = p))).foldl (fun s p => s.startTest ⟨p, .park⟩) s

/-- A wake from doze or park, with its WAKE_SRC; under brace it waits (R501, R512). In doze each pier starts as at admission
(R513), as it has stood since its power went. -/
def State.wakeUp (s : State) (src : Nat) : State :=
  if s.powerState < 2 then s
  else if s.braced then { s with wakeWanted := some src }
  else
    let s1 := { s.setFld Fld.POWER_STATUS_WAKE_SRC 0 src with wakeWanted := none }
    if s.powerState = 2 then { s1.setPower 1 with openGates := [] } else s1.leavePark

/-- POWER_WAKE: POWER_CTRL.TARGET = 1. -/
def execPowerWake (s : State) : Host.Outcome State Fault Refusal := .next (s.wakeUp 1)

/-- A gate returns to self-refresh in doze (R513). -/
def execGateSrTimeout (g : GateIx) (s : State) : Host.Outcome State Fault Refusal :=
  .next { s with openGates := s.openGates.filter (fun n => n != g.val) }

/-- A latch catches an edge in park: its bit is set, and the tollhouse wakes (R477). -/
def State.latchWake (s : State) (i : Nat) : State :=
  if s.powerState = 3 then
    let w := s.fld Fld.SENSE_STATUS_LATCH 0
    let s1 := (s.setFld Fld.SENSE_STATUS_LATCH 0 (if w.testBit i then w else w + 2 ^ i)).setPower 4
    let src := match i with
      | 1 => 4
      | 2 => 5
      | 0 => 0
      | _ => 6
    if src = 0 then s1 else s1.setFld Fld.POWER_STATUS_WAKE_SRC 0 src
  else s

/-- PARK_LATCH_WAKE. -/
def execParkLatchWake (i : Fin 5) (s : State) : Host.Outcome State Fault Refusal := .next (s.latchWake i.val)

/-- The field of SENSE_COUNT of an input (R483). -/
def senseCount : Nat → Fld
  | 0 => Fld.SENSE_COUNT_RESET_L
  | 1 => Fld.SENSE_COUNT_PAIR_ALIVE
  | 2 => Fld.SENSE_COUNT_THERM_ALERT_L
  | _ => Fld.SENSE_COUNT_SUPPLY

/-- A latched input has not reached its active filtered level within 1 ms: a spurious wake (R477). -/
def State.parkWakeTimeout (s : State) (i : Nat) : State :=
  if s.powerState = 4 && s.wakeWanted.isNone then (s.bump (senseCount i) 0 1).setPower 3 else s

/-- PARK_WAKE_TIMEOUT. -/
def execParkWakeTimeout (i : Fin 5) (s : State) : Host.Outcome State Fault Refusal := .next (s.parkWakeTimeout i.val)

/-- A change of an input's raw level has reverted too soon (R474). -/
def execSenseGlitchRejected (i : Fin 6) (s : State) : Host.Outcome State Fault Refusal := .next (s.bump (senseCount i.val) 0 1)

/-- What a brace snapshot holds (R509); `mv` is the input in millivolts. -/
def State.snapshot (s : State) (mv : Nat) : List Word :=
  [s.now, s.reg .bootCount 0, BitVec.ofNat 64 mv, s.reg .stepCounter 0, s.reg .schedStatus 0, s.reg .schedFault 0] ++
    s.binding.flatMap (fun p => [s.reg .pctlStatus p.val, s.reg .pctlSlot p.val, s.reg .pierHeld p.val] ++
      (List.range 64).map (fun n => s.reg .rngUse (rngIx p n))) ++
    [s.reg .pairStatus 0, s.reg .pairMseqOut 0, s.reg .pairMseqAcked 0, s.reg .pairMseqIn 0, s.reg .pairKeystone 0,
      s.reg .evtStatus 0, s.reg .evtTail 0, s.reg .tokenStatus 0, s.reg .supplyStatus 0]

/-- Every domain that issues slots is held by brace: row 2 of R302 fails in each of its piers (R302, R501). -/
def State.holdDomains (s : State) : State :=
  (s.domains.filter (fun d => (s.domPiers d).any (fun p => s.issuing p))).foldl (fun s d =>
    s.stallSlot d (s.domSlot d) (((s.domPiers d).filter (fun p => s.issuing p)).map (fun p => (p, lateHold, false)))) s

/-- A module-scope test stops, or goes on once neither brace nor a trip stands in its way, from the start of its wave (R525, R537;
log 177). -/
def State.pauseBist (s : State) : State :=
  { s with bist := s.bist.map (fun t =>
      let stop := t.scope ≤ 1 && (s.braced || s.flag Fld.THERM_STATUS_TRIPPED 0)
      { t with paused := stop, ticks := if stop then t.ticks / 58000000 * 58000000 else t.ticks }) }

/-- The input voltage is read, in millivolts (R523). -/
def State.readInput (s : State) (mv : Nat) : State :=
  (s.setFld Fld.SUPPLY_STATUS_V_IN 0 (min (mv / 10) 65535)).setFld Fld.SUPPLY_STATUS_V_MIN 0
    (min (min (mv / 10) 65535) (s.fld Fld.SUPPLY_STATUS_V_MIN 0))

/-- May brace begin: the tollhouse runs its image, and no brace stands (R501)? -/
def State.mayBrace (s : State) : Bool :=
  !s.braced && (match s.phase with
    | .booted _ => true
    | .released => true
    | _ => false)

/-- The filtered warning level asserts: brace (R329, R501, R537). In park it is recorded, and the module stays there (R514). -/
def State.braceEnter (s : State) (mv : Nat) : State :=
  let s0 := { ((s.setSense 3 true).setSense 5 false).readInput mv with recovering := false }
  let s1 := if s0.powerState = 4 then s0.setPower 3 else s0
  if s1.mayBrace then
    let s2 := { (s1.setFld Fld.TOKEN_STATUS_BRACE 0 1).setFld Fld.POWER_STATUS_BRACE 0 1 with braceAt := some s.now }
    let s3 := (((s2.rethrottle 0 0 0).holdDomains.bump Fld.BRACE_COUNT_ENTRIES 0 1).charge).event .braceEnter 0 0 mv
    let s4 := if s3.journalOff then s3 else s3.journalise (.brace (s3.snapshot mv))
    (s4.tests.foldl (fun s t => s.interruptTest t false) s4).pauseBist
  else s1.charge

/-- BRACE_ENTER. -/
def execBraceEnter (mv : Nat) (s : State) : Host.Outcome State Fault Refusal := .next (s.braceEnter mv)

/-- The filtered recovery level asserts (R500). -/
def State.recoveryLevel (s : State) : State :=
  { (((s.setSense 3 false).setSense 4 false).setSense 5 true).charge with recovering := true }

/-- SUPPLY_RECOVERY_LEVEL. -/
def execSupplyRecoveryLevel (s : State) : Host.Outcome State Fault Refusal := .next s.recoveryLevel

/-- The filtered recovery level breaks: its 10 ms start anew (R502). -/
def State.recoveryBreak (s : State) : State := { (s.setSense 5 false).charge with recovering := false }

/-- RECOVERY_LEVEL_BREAK. -/
def execRecoveryLevelBreak (s : State) : Host.Outcome State Fault Refusal := .next s.recoveryBreak

/-- Brace is over: F_brace is 16 again (R502). -/
def State.endBrace (s : State) : State :=
  { ((s.setFld Fld.TOKEN_STATUS_BRACE 0 0).setFld Fld.POWER_STATUS_BRACE 0 0) with braceAt := none }.rethrottle 0 0 0

/-- The recovery level has held for 10 ms: the hold is lifted, and what waited for it goes on (R501, R502). -/
def State.braceExit (s : State) : State :=
  match s.braceAt with
  | some t =>
    if s.recovering then
      let s1 := ((s.endBrace.charge.bump Fld.BRACE_COUNT_RECOVERED 0 1).event .braceExit 0 0 (s.now - t).toNat).pauseBist
      let s2 := (if s1.measureWanted then s1.startMeasure else s1).retestParked
      match s2.wakeWanted with
      | some src => s2.wakeUp src
      | none => s2
    else s
  | none => s

/-- BRACE_EXIT. -/
def execBraceExit (s : State) : Host.Outcome State Fault Refusal := .next s.braceExit

end Sys2Proof.Machine
end

