-- ==== Sys2Proof/Machine/Sense.lean ====
section
/-! DEFINITION. The sense inputs and junction sensors (R329, R427, R474-R478), the supply windows (R329), the clocks (R486-R491), the
wide generators (R363) and failed routers (R30). -/
namespace Sys2Proof.Machine

/-- A latched sense event has come to its filtered level in park: the module wakes (R477, R514). -/
def State.senseWake (s : State) (src : Nat) : State := if 3 ≤ s.powerState then s.wakeUp src else s

/-- PAIR_ALIVE goes low: the pair is lost (R427, R474). -/
def State.aliveLow (s : State) : State :=
  ((((s.setSense 1 false).setFld Fld.PAIR_STATUS_PAIR_ALIVE 0 0)).pairLost 2).senseWake 4

/-- PAIR_ALIVE_LOW. -/
def execPairAliveLow (s : State) : Host.Outcome State Fault Refusal := .next s.aliveLow

/-- PAIR_ALIVE goes high (R474). -/
def State.aliveHigh (s : State) : State := (s.setSense 1 true).setFld Fld.PAIR_STATUS_PAIR_ALIVE 0 1

/-- PAIR_ALIVE_HIGH. -/
def execPairAliveHigh (s : State) : Host.Outcome State Fault Refusal := .next s.aliveHigh

/-- THERM_ALERT_L goes low: F is at most 8, and THERM_ALERT (R329, R474). -/
def State.alertOn (s : State) : State :=
  let s1 := ((s.setSense 2 false).setFld Fld.TOKEN_STATUS_ALERT 0 1).rethrottle 0 0 0
  (if s.sensed 2 then s1.event .thermAlert 0 0 0 else s1).senseWake 5

/-- THERM_ALERT_ASSERT. -/
def execThermAlertAssert (s : State) : Host.Outcome State Fault Refusal := .next s.alertOn

/-- THERM_ALERT_L returns high (R329). -/
def State.alertOff (s : State) : State := ((s.setSense 2 true).setFld Fld.TOKEN_STATUS_ALERT 0 0).rethrottle 0 0 0

/-- THERM_ALERT_DEASSERT. -/
def execThermAlertDeassert (s : State) : Host.Outcome State Fault Refusal := .next s.alertOff

/-- The last two readings of a span's sensor, the latest first. -/
def State.tempsOf (s : State) (sp : Nat) : Nat × Nat := s.junction.look (fun _ => (0, 0)) sp

/-- The hottest latest reading and its span, the lowest on a tie (R478, R483). -/
def State.hottest (s : State) : Nat × Nat :=
  (List.range 17).foldl (fun (b : Nat × Nat) sp => if b.1 < (s.tempsOf sp).1 then ((s.tempsOf sp).1, sp) else b) (0, 0)

/-- A reading of every junction sensor is taken: TJ_MAX, HOT_SPAN and TJ_PEAK follow (R478, R483). -/
def State.takeTemps (s : State) (temps : List Nat) : State :=
  let s1 := { s with junction := (List.range 17).foldl (fun m sp =>
    m.put (fun _ => (0, 0)) sp (temps.getD sp 0, (s.tempsOf sp).1)) s.junction }
  let h := s1.hottest
  ((s1.setFld Fld.THERM_STATUS_TJ_MAX 0 h.1).setFld Fld.THERM_STATUS_HOT_SPAN 0 h.2).setFld Fld.THERM_STATUS_TJ_PEAK 0
    (max h.1 (s.fld Fld.THERM_STATUS_TJ_PEAK 0))

/-- F_t: by 1 down at the first reading of 100 °C and for each further ms, 20 readings of 50 µs; by 1 up for each 10 ms at 97 °C or
less, 200 readings (R329). `t` is the hottest reading in 0.25 °C. -/
def State.throttleTemps (s : State) (t : Nat) : State :=
  let hot := if 400 ≤ t then s.hotTemps + 1 else 0
  let cool := if t ≤ 388 then s.coolTemps + 1 else 0
  let f := if hot % 20 = 1 then s.factorT - 1 else if 1 < cool && cool % 200 = 1 then s.factorT + 1 else s.factorT
  { s with hotTemps := hot, coolTemps := cool, factorT := min 16 (max 4 f) }.rethrottle (s.fld Fld.THERM_STATUS_HOT_SPAN 0) (t / 4) 0

/-- The readings in succession at which the firmware step may rise: at least 2 °C below the lower edge of its row (R490). -/
def stepEdge : Nat → Nat
  | 15 => 361
  | 14 => 381
  | _ => 400

/-- K_f in force. -/
def State.fstep (s : State) : Nat := s.fld Fld.CLK_STATUS_FSTEP 0

/-- Count the readings for the next rise of K_f. -/
def State.countCool (s : State) (t : Nat) : State :=
  { s with coolReads := if s.fstep < 16 && t + 8 ≤ stepEdge s.fstep then s.coolReads + 1 else 0 }

/-- The span, lowest first, whose last two readings are both 115.0 °C or more (R478). -/
def State.tripSpan (s : State) : Option Nat :=
  (List.range 17).find? (fun sp => 460 ≤ (s.tempsOf sp).1 && 460 ≤ (s.tempsOf sp).2)

/-- The DETAIL of THERM_TRIP (R480). -/
def tripDetail (sp t : Nat) (clear : Bool) : Nat := sp % 32 + t / 4 % 256 * 256 + (if clear then 65536 else 0)

/-- The module trips: every domain stops where it stands, a launched step is abandoned, and tests end or pause (R311, R478, R537). -/
def State.trip (s : State) (sp : Nat) : State :=
  let s1 := (s.setFld Fld.THERM_STATUS_TRIPPED 0 1).failFree .thermTrip
  let s2 := if s.launched then s1.domains.foldl (fun s d => s.stopDomain d) s1 else s1
  let s3 := (s2.event .thermTrip 6 sp (tripDetail sp (s.tempsOf sp).1 false)).stepAbandoned
  (s3.tests.foldl (fun s t => s.interruptTest t false) s3).pauseBist

/-- A reading of every junction sensor, in 0.25 °C (R329, R478, R490). -/
def State.readTemps (s : State) (temps : List Nat) : State :=
  let s1 := s.takeTemps temps
  let t := s1.hottest.1
  let s2 := (s1.throttleTemps t).countCool t
  match s2.tripSpan with
  | some sp => if s2.flag Fld.THERM_STATUS_TRIPPED 0 then s2 else s2.trip sp
  | none => s2

/-- JUNCTION_READING. -/
def execJunctionReading (temps : List Nat) (s : State) : Host.Outcome State Fault Refusal := .next (s.readTemps temps)

/-- Every sensor has read 95.0 °C or less for 1 s: the trip is over (R478, R537). -/
def State.tripClear (s : State) : State :=
  if s.flag Fld.THERM_STATUS_TRIPPED 0 && s.hottest.1 ≤ 380 then
    ((s.setFld Fld.THERM_STATUS_TRIPPED 0 0).event .thermTrip 6 s.hottest.2 (tripDetail s.hottest.2 s.hottest.1 true)).pauseBist.retestParked
  else s

/-- THERM_TRIP_CLEAR. -/
def execThermTripClear (s : State) : Host.Outcome State Fault Refusal := .next s.tripClear

/-- An averaging window of 1 ms ends: the input in 10 mV and 10 mA, and its average power in watts; F_p follows (R329, R523). The present
bank voltage is read with it (log 172). -/
def State.windowEnd (s : State) (vin iin : Nat) (r : WindowReading) : State :=
  let watts := r.watts
  let budget := s.fld Fld.TOKEN_STATUS_BUDGET_W 0
  let cool := if watts * 100 ≤ budget * 97 then s.coolWindows + 1 else 0
  let f := if budget < watts then s.factorP - 1 else if 10 ≤ cool then s.factorP + 1 else s.factorP
  let s1 := (((s.setBank r.bank).readInput (vin * 10)).setFld Fld.SUPPLY_STATUS_I_IN 0 (min iin 65535)).setFld Fld.SUPPLY_STATUS_P_AVG 0
    (min watts 4000)
  { s1 with factorP := min 16 (max 4 f), coolWindows := if 10 ≤ cool then 0 else cool }.rethrottle 0 0 watts

/-- SUPPLY_WINDOW_END. -/
def execSupplyWindowEnd (vin iin : Nat) (r : WindowReading) (s : State) : Host.Outcome State Fault Refusal :=
  .next (s.windowEnd vin iin r)

/-- K_f of a hottest reading (R490). -/
def stepOf (t : Nat) : Nat := if t ≤ 360 then 16 else if t ≤ 380 then 15 else if t ≤ 400 then 14 else 13

/-- Every 100 µs in stepped mode the firmware step moves by at most 1: down to what the hottest reading or the cap asks for, up only
after 10 ms of cool readings, 200 of 50 µs (R490). -/
def State.fstepUpdate (s : State) : State :=
  if s.flag Fld.CLK_STATUS_MODE 0 then
    let want := min (stepOf (s.fld Fld.THERM_STATUS_TJ_MAX 0)) (s.fld Fld.CLK_CFG_FSTEP_CAP 0)
    if want < s.fstep then { s.setFld Fld.CLK_STATUS_FSTEP 0 (s.fstep - 1) with coolReads := 0 }
    else if s.fstep < want && 200 ≤ s.coolReads then { s.setFld Fld.CLK_STATUS_FSTEP 0 (s.fstep + 1) with coolReads := 0 }
    else s
  else s

/-- FSTEP_UPDATE. -/
def execFstepUpdate (s : State) : Host.Outcome State Fault Refusal := .next s.fstepUpdate

/-- Δ of joint `j` in steps (R491). -/
def State.delta (s : State) (j : Nat) : Int := s.deltas.look (fun _ => 0) (j % 17)

/-- Set Δ of a joint: DELTA shows it within its range of -12 to 12, and OUT that it is out of bounds (R498; log 170). -/
def State.setDelta (s : State) (j : Nat) (v : Int) : State :=
  let shown : Int := min 12 (max (-12) v)
  ({ s with deltas := s.deltas.put (fun _ => 0) (j % 17) v }.setFld Fld.CLK_SPAN_DELTA (j % 17) (shown % 32).toNat).setFld
    Fld.CLK_SPAN_OUT (j % 17) (if 8 < v || v < -8 then 1 else 0)

/-- A period of a span is longer by `n` steps: its edges come later against both neighbours (R491). -/
def State.lengthen (s : State) (n : Nat) (sp : Nat) : State :=
  (s.setDelta sp (s.delta sp - n)).setDelta (sp + 16) (s.delta (sp + 16) + n)

/-- Does a span hold: it leads on a joint out of bounds and lags on none (R491)? -/
def State.holds (s : State) (sp : Nat) : Bool :=
  (8 < s.delta sp || s.delta (sp + 16) < -8) && !(s.delta sp < -8 || 8 < s.delta (sp + 16))

/-- Does the path of a segment go from one side of joint `j` to the other (R491)? -/
def State.pathMeets (s : State) (g : SegIx) (j : Nat) : Bool :=
  s.onPath g (pierAt (8 * j + 7)) && s.onPath g (pierAt (8 * j + 8)) &&
    !(s.pierWithRole g 2).any (fun p => viaductPos p = (8 * j + 8) % 136)

/-- The pier of a segment that receives what crosses joint `j` on a carriageway: the first one beyond the joint in the direction of
travel (R127). -/
def State.receiver (s : State) (g : SegIx) (j : Nat) (c : Cwy) : Option PierIx :=
  ((List.range 136).map (fun i => match c with
    | .cw => pierAt (8 * j + 8 + i)
    | .ccw => pierAt (8 * j + 143 - i))).find? (fun p => s.domOf p = .seg g)

/-- The carriageways whose rows cross a segment's joints: those with a stream on them, or else CW (R127, R491; log 119). -/
def State.crossing (s : State) (g : SegIx) : List Cwy :=
  match ([.cw, .ccw] : List Cwy).filter (fun c => s.ring.any (fun x => x.seg = g && x.cwy = c)) with
  | [] => [.cw]
  | cs => cs

/-- Joint `j` is out of bounds: a domain that crosses it and issues slots stalls on row 3 of R302, and the stall is counted in the
receiving pier (R127, R302, R491). -/
def State.jointStall (j : Nat) (s : State) (d : Dom) : State :=
  match d with
  | .solo _ => s
  | .seg g =>
    if !s.pathMeets g j || !(s.segPiers g).any (fun p => s.issuing p) then s
    else
      let rs := (s.crossing g).filterMap (s.receiver g j)
      (rs.foldl (fun s p => s.bump Fld.RING_ERR_COUNT_JOINT_STALLS p.val 1) s).stallSlot d (s.domSlot d)
        (rs.map (fun p => (p, lateJoint, false)))

/-- Every domain that crosses a joint out of bounds stalls (R491); STALL_RELEASE lets it go on. -/
def State.jointStalls (s : State) : State :=
  ((List.range 17).filter (fun j => s.flag Fld.CLK_SPAN_OUT j)).foldl (fun s j => s.domains.foldl (State.jointStall j) s) s

/-- One period of every span: a span that leads on a joint out of bounds holds, one whose monitors have failed is stretched, and only the
largest addition is made (R487, R491); then the domains at joints out of bounds stall. -/
def State.period (s : State) (stretch : Option Nat) : State :=
  let hs := (List.range 17).filter s.holds
  let s1 := hs.foldl (fun s sp => (s.lengthen 8 sp).bump Fld.CLK_SPAN_COUNT_HOLDS sp 1) s
  (match stretch with
  | some sp =>
    if hs.contains sp then s1
    else (s1.lengthen (s.fld Fld.CLK_CFG_STRETCH_STEPS 0) sp).bump Fld.CLK_SPAN_COUNT_STRETCHES sp 1
  | none => s1).jointStalls

/-- Periods pass until no span holds any more (R491). `fuel` bounds them. -/
def State.takeHolds : Nat → State → State
  | 0, s => s
  | fuel + 1, s => if (List.range 17).any s.holds then State.takeHolds fuel (s.period none) else s

/-- Does the arch clock of a span run: the module runs, has not tripped, and tests no other span in T7-compatible mode (R478, R512, R525)? -/
def State.clocked (s : State) (sp : Nat) : Bool :=
  s.phase = .released && s.powerState = 0 && !s.flag Fld.THERM_STATUS_TRIPPED 0 &&
    (s.fld Fld.BIST_STATUS_WAVE 0 = 0 || s.fld Fld.BIST_STATUS_WAVE 0 = sp + 1)

/-- A replica monitor of a span fails in a cycle: in monitor mode the next period is stretched, in stepped mode the failure is counted
(R489, R490). Under the test period nothing is stretched (R487), and a span whose clock is gated has no cycle. Each failure is one of a
cycle of its own (log 171). -/
def State.monitorFail (s : State) (sp : Nat) : State :=
  if !s.clocked sp then s
  else if s.flag Fld.CLK_STATUS_MODE 0 then s.bump Fld.CLK_SPAN_COUNT_MARGIN_EVENTS sp 1
  else if s.flag Fld.CLK_STATUS_TEST_PERIOD 0 then s
  else s.period (some sp)

/-- The effective step K of a span (R487). -/
def State.kEff (s : State) (sp : Nat) : Nat :=
  let k := s.fld Fld.SPAN_TOKEN_STEP sp
  let k1 := if s.flag Fld.CLK_STATUS_MODE 0 then min k s.fstep else k
  if s.braced then min k1 4 else k1

/-- How many steps span `sp` gains on the next span in one tick of 10 ns, 144 steps: 8 steps in every 128 ÷ (difference in rate)
(R330, R491). -/
def State.gain (s : State) (sp : Nat) : Int := 9 * ((s.kEff sp : Int) - s.kEff ((sp + 1) % 17))

/-- Step `n` of a tick: every joint whose neighbours still drift moves by one step, and the spans at joints out of bounds take their holds. -/
def State.driftStep (s : State) (n : Nat) : State :=
  State.takeHolds 17 (((List.range 17).foldl (fun s j =>
    let g := s.gain j
    if (n : Int) < g then s.setDelta j (s.delta j + 1) else if (n : Int) < -g then s.setDelta j (s.delta j - 1) else s) s).jointStalls)

/-- The drift of a tick: neighbouring spans at different K move apart, and their expansion joints go out of bounds again and again
(R330, R491); holds that are due are taken. Nothing drifts while the arch clock is gated or under the test period (R487, R512). -/
def State.drift (s : State) : State :=
  if !(List.range 17).any s.clocked || s.flag Fld.CLK_STATUS_TEST_PERIOD 0 then s
  else if (List.range 17).all (fun j => s.gain j = 0) then State.takeHolds 17 s
  else (List.range 108).foldl State.driftStep s

/-- REPLICA_MONITOR_FAIL. -/
def execReplicaMonitorFail (sp : SpanIx) (s : State) : Host.Outcome State Fault Refusal := .next (s.monitorFail sp.val)

/-- REFCLK_LOST: the module runs on holdover (R486). -/
def execRefclkLost (s : State) : Host.Outcome State Fault Refusal :=
  .next (if s.flag Fld.CLK_STATUS_REF_LOST 0 then { s with refLost := true }
    else ({ s with refLost := true }.setFld Fld.CLK_STATUS_REF_LOST 0 1).bump Fld.CLK_STATUS_REF_LOSSES 0 1)

/-- REFCLK_RESTORED (R486). -/
def execRefclkRestored (s : State) : Host.Outcome State Fault Refusal := 
  .next ({ s with refLost := false }.setFld Fld.CLK_STATUS_REF_LOST 0 0)

/-- WIDE_RESEED: the wide generators are mixed with the entropy source. Their bits are free values, and so is what is mixed in
(R363). -/
def execWideReseed (s : State) : Host.Outcome State Fault Refusal := .next s.fresh.2

/-- A router of a pier fails: ROUTER_FAIL; the bulk and control networks go around it, and a failed sync node fences its pier (R30,
R480). -/
def State.routerFail (s : State) (p : PierIx) (net : Nat) : State :=
  if s.routerFails.contains (p, net) then s
  else
    let s1 := { s with routerFails := s.routerFails ++ [(p, net)] }.event .routerFail 1 p.val (p.val + 256 * net)
    if net = 2 && !s1.fenced.contains p && !s1.failed.contains p then s1.fence p else s1

/-- ROUTER_FAIL: network 0 bulk, 1 control, 2 sync. -/
def execRouterFail (p : PierIx) (net : Fin 3) (s : State) : Host.Outcome State Fault Refusal := .next (s.routerFail p net.val)

end Sys2Proof.Machine
end

