-- ==== Sys2Proof/Machine/Bist.lean ====
section
/-! DEFINITION. The module and stack self-tests (R524-R531, R535-R537, R542). -/
namespace Sys2Proof.Machine

/-- Does the loopback of a tested pier pass (R525, R532)? -/
def loopPasses (r : BistResult) (p : PierIx) : Bool :=
  match r.piers.find? (fun e => e.1 = p) with
  | some e => e.2.loopback
  | none => true

/-- The ring loopback of a module test (R525): a pass clears a recorded break (R139), a failure records one (R131). -/
def State.loopPier (s : State) (p : PierIx) (pass : Bool) : State :=
  let broken := s.flag Fld.RING_CFG_BROKEN p.val
  if pass && broken then ((s.setFld Fld.RING_CFG_BROKEN p.val 0).journalise (.ringBreak p false)).countBreaks
  else if !pass && !broken then s.ringBreak p
  else s

/-- The soft repairs that a test has made of a pier that passes become fuses, each by its own burn (R530, R531): one that does not verify
leaves the soft repair in force and is counted. -/
def State.burnPier (s : State) (unburnt : List Burn) (p : PierIx) (r : PierResult) : State :=
  let s1 := r.units.foldl (fun s u =>
    let a := archIx p u.1
    let n := u.2.val
    let inA := s.fld Fld.UNIT_REPAIR_SOFT_A a = n
    if !inA && s.fld Fld.UNIT_REPAIR_SOFT_B a != n then s
    else if unburnt.contains (.unit p u.1 u.2) then s.bump Fld.BIST_COUNT_FUSE_FAILS 0 1
    else
      let s2 := s.setFld (if inA then Fld.UNIT_REPAIR_SOFT_A else Fld.UNIT_REPAIR_SOFT_B) a 127
      let s3 := s2.setFld (if s2.fld Fld.UNIT_REPAIR_FUSE_A a = 127 then Fld.UNIT_REPAIR_FUSE_A else Fld.UNIT_REPAIR_FUSE_B) a n
      s3.journalise (.unitRepair a (s3.reg .unitRepair a))) s
  r.decks.foldl (fun s d =>
    let i := 40 * p.val + d.1.val
    let soft (e : PierIx × Nat × Nat × Bool) : Bool := e.1 = p && e.2.1 = d.1.val && e.2.2.1 = d.2.val && !e.2.2.2
    if !s.deckMap.any soft then s
    else if unburnt.contains (.deck p d.1 d.2) then s.bump Fld.BIST_COUNT_FUSE_FAILS 0 1
    else
      let s2 := { s with deckMap := s.deckMap.map (fun e => if soft e then (e.1, e.2.1, e.2.2.1, true) else e) }
      (s2.setFld Fld.DECK_SPARES_SOFT_USED i (s2.fld Fld.DECK_SPARES_SOFT_USED i - 1)).setFld Fld.DECK_SPARES_FUSE_USED i
        (s2.fld Fld.DECK_SPARES_FUSE_USED i + 1)) s1

/-- The repairs of one tested pier, and with `burn` their fuses (R531). -/
def State.testPier (s : State) (r : BistResult) (burn : Bool) (e : PierIx × PierResult) : State :=
  let s1 := s.repairPier e.1 { e.2 with loopback := false }
  if burn && e.2.code.val ≤ 1 then s1.burnPier r.unburnt e.1 e.2 else s1

/-- A row that a march has found failing: its soft repair, and with `burn` its fuse (R240, R241, R528, R531); the repairs made are counted.
A repair that the host has asked for stays pending. -/
def State.testRow (burn : Bool) (acc : Nat × State) (r : RowResult) : Nat × State :=
  let s := acc.2
  let g := r.gate.val
  let q : Repair := ⟨1, r.channel.val, r.bank.val, r.row.val⟩
  match s.pickSpare g q r.spare.val, s.pickEntry g r.channel.val r.entry.val with
  | some sp, some k =>
    let h : HardRepair := ⟨r.channel.val, r.bank.val, r.row.val, sp⟩
    let s1 := ((s.copyRow g h.channel h.bank h.row []).setSoft g h.channel k (some h)).journalise (.softRepair g h true)
    (acc.1 + 1,
      if !burn then s1
      else if r.burnt then
        let s2 := (s1.setSoft g h.channel k none).journalise (.softRepair g h false)
        (s2.setGate g { s2.gate g with hard := (s2.gate g).hard ++ [h] }).bump Fld.GATE_STATUS_HARD_USED g 1
      else (s1.bump Fld.BIST_COUNT_FUSE_FAILS 0 1).repairFail g q 4)
  | _, _ => (acc.1, s.failStack g)

/-- The march of the stacks that `f` names (R528), and how many rows it has repaired. -/
def State.testStacks (s : State) (r : BistResult) (f : Nat → Bool) (burn : Bool) : Nat × State :=
  let s1 := (r.blocks.filter (fun a => a < tollhouseBlock + 2 ^ 30 && f (s.place a).gate)).foldl
    (fun s a => (s.decodeBlock a 5 0).2) s
  let x := (r.rows.filter (fun x => f x.gate.val)).foldl (State.testRow burn) (0, s1)
  (x.1, (r.badGates.filter (fun g => f g.val)).foldl (fun s g => s.failStack g.val) x.2)

/-- The stacks that have failed in a test, as a mask (R536). -/
def State.stackMask (s : State) (f : Nat → Bool) : Nat :=
  (List.range 8).foldl (fun n g => if f g && s.fld Fld.GATE_STATUS_STATE g = 5 then n + 2 ^ g else n) 0

/-- The piers that a module test covers: fenced piers stay untested (R531). -/
def State.testable (s : State) (p : PierIx) : Bool := !s.fenced.contains p

/-- Admission after a module test (R531): piers that fail are recorded, those admitted before that pass stay so, up to the ceiling (R2),
and spares that pass follow. -/
def State.readmit (s : State) (r : BistResult) (before : List PierIx) : State :=
  let code (p : PierIx) : Nat := match r.piers.find? (fun e => e.1 = p) with
    | some e => e.2.code.val
    | none => 0
  let bad := (List.finRange 136).filter (fun p => s.testable p && [2, 3].contains (code p))
  let s1 := (bad.filter (fun p => !s.failed.contains p)).foldl (fun s p => s.failPier p (code p)) s
  let good := before.filter (fun p => !bad.contains p)
  let kept := good.take s.ceiling
  let s2 := (good.drop s.ceiling).foldl (fun s p => s.journalise (.pierMap p 0))
    { s1 with admitted := (List.finRange 136).filter (fun p => kept.contains p), parked := [] }
  ((List.finRange 136).filter (fun p => s2.spare p && !bad.contains p)).foldl
    (fun s p => if s.admitted.length < s.ceiling then s.takeIn p else s) s2

/-- What a module-scope test finds takes effect: its result code, the piers it has failed and its new repairs. A loss of the core supply
in native mode stops the test, and nothing is recorded as failed (R527, R535). -/
def State.moduleOutcome (s : State) (native testGates : Bool) (found : BistResult) : (Nat × Nat × Nat) × State :=
  if native && found.supplyLost then ((4, 0, 0), s)
  else
    let r : BistResult := { found with piers := found.piers.map (fun e => (e.1, s.judge e.1 e.2)) }
    let burn := s.flag Fld.BIST_CFG_FUSE_POLICY 0
    let before := s.admitted ++ s.parked
    let ps := r.piers.filter (fun e => s.testable e.1)
    let s1 := ps.foldl (fun s e => s.testPier r burn e) s
    let s2 := ((List.finRange 136).filter s.testable).foldl (fun s p => s.loopPier p (loopPasses r p)) s1
    let x := if testGates then s2.testStacks r (fun _ => true) burn else (0, s2)
    let s3 := x.2
    let s4 := s3.readmit r before
    let repairs := (ps.map (fun e => s.pierRepairs e.1 e.2)).foldl (· + ·) 0 + x.1
    let code := (ps.map (fun e => if e.2.code.val = 2 || e.2.code.val = 3 then e.2.code.val else 0)).foldl max
      (if testGates && s3.stackMask (fun _ => true) != 0 then 3 else if 0 < repairs then 1 else 0)
    ((code, s4.failed.length - s.failed.length, repairs), s4)

/-- A module test begins: it unbinds, and the compute of every pier is lost (R524, R529). -/
def State.startBist (s : State) (t : ModTest) : State :=
  let s1 := { s with bist := some t, tests := [] }.leaveIdle
  let s2 := if t.scope ≤ 1 then
      let b := s1.unbind.clearPiers
      ((b.setFld Fld.SCHED_STATUS_STATE 0 (if s.fld Fld.SCHED_STATUS_STATE 0 = 0 then 0 else 1)).setFld
        Fld.CLK_STATUS_TEST_PERIOD 0 1).setFld Fld.BIST_STATUS_WAVE 0 (if t.scope = 1 then 1 else 0)
    else { s1 with tests := s.tests }
  ((s2.setFld Fld.BIST_STATUS_SCOPE 0 t.scope).countTests.regrantAll).pauseBist

/-- The ticks of one wave of a T7-compatible test, in which one span runs phases 1 and 2: 0.58 s (R525). -/
def waveTicks : Nat := 58000000

/-- A tick of a module test in T7-compatible mode: 17 waves, one span each in order, then the phases of the whole module (R525, R542). -/
def State.testTick (s : State) : State :=
  match s.bist with
  | some t =>
    if t.scope = 1 && !t.paused then
      let n := t.ticks + 1
      { s with bist := some { t with ticks := n } }.setFld Fld.BIST_STATUS_WAVE 0 (if n < 17 * waveTicks then n / waveTicks + 1 else 0)
    else s
  | none => s

/-- BIST_RUN with SCOPE 0 or 1 (R524, R527). -/
def State.bistModule (s : State) (k : MailIx) (scope : Nat) : State :=
  s.onPacket k 0x0603 (fun p =>
    if p.begun || p.le 0 1 != scope then s
    else if s.testRuns then s.refuse k.val .busy
    else if s.inProgram || (scope = 0 && s.fld Fld.TOKEN_STATUS_BUDGET_W 0 < 2350) then s.refuse k.val .wrongState
    else (s.beginPacket k.val).startBist ⟨scope, 0, k.val, false, 0⟩)

/-- BIST_MODULE_NATIVE. -/
def execBistModuleNative (k : MailIx) (s : State) : Host.Outcome State Fault Refusal := .next (s.bistModule k 0)

/-- BIST_MODULE_T7. -/
def execBistModuleT7 (k : MailIx) (s : State) : Host.Outcome State Fault Refusal := .next (s.bistModule k 1)

/-- BIST_RUN with SCOPE 3 (R524, R528). -/
def State.bistStack (s : State) (k : MailIx) : State :=
  s.onPacket k 0x0603 (fun p =>
    if p.begun || p.le 0 1 != 3 then s
    else if s.testRuns then s.refuse k.val .busy
    else if s.launched then s.refuse k.val .wrongState
    else (s.beginPacket k.val).startBist ⟨3, p.le 1 1, k.val, false, 0⟩)

/-- BIST_STACK. -/
def execBistStack (k : MailIx) (s : State) : Host.Outcome State Fault Refusal := .next (s.bistStack k)

/-- A module or stack test is over (R542). -/
def State.closeBist (s : State) (vcore mode : Nat) : State :=
  ((((({ s with bist := none }.setFld Fld.CLK_STATUS_TEST_PERIOD 0 0).setFld Fld.BIST_STATUS_WAVE 0 0).setFld
    Fld.BIST_STATUS_VCORE_MV 0 (min vcore 2047)).setFld Fld.BIST_STATUS_MODE_USED 0 mode).countTests).regrantAll

/-- A module or stack test ends with what it found (R531, R535, R536); one that brace or a trip has stopped goes on first (R537). -/
def State.bistDone (s : State) (r : BistResult) : State :=
  match s.bist with
  | none => s
  | some t =>
    if t.paused then s
    else if t.scope ≤ 1 then
      let x := s.moduleOutcome (t.scope = 0) true r
      let (code, failed, repairs) := x.1
      let s1 := (x.2.closeBist r.vcore t.scope).noteResult code repairs r.ms
      s1.finish t.slot (if code ≤ 1 then .ok else .bistFail) 0
        (s1.bistResult code failed repairs r.ms (if code = 4 then 0 else s1.stackMask (fun _ => true)) t.scope)
    else
      let f (g : Nat) : Bool := g = t.target
      let x := s.testStacks r f false
      let s1 := x.2
      let repairs := x.1
      let mask := s1.stackMask f
      let code := if mask != 0 then 3 else if 0 < repairs then 1 else 0
      let s2 := (s1.closeBist r.vcore (s.fld Fld.BIST_STATUS_MODE_USED 0)).noteResult code repairs r.ms
      s2.finish t.slot (if code ≤ 1 then .ok else .bistFail) 0 (s2.bistResult code 0 repairs r.ms mask 0)

/-- BIST_DONE. -/
def execBistDone (r : BistResult) (s : State) : Host.Outcome State Fault Refusal := .next (s.bistDone r)

end Sys2Proof.Machine
end

