-- ==== Sys2Proof/Machine/Journal.lean ====
section
/-! DEFINITION. The journal (R508): a record is kept once its write is complete, the oldest of a full area giving way; READ_LOG
(R455) and CORRELATE_TIME (R495). -/
namespace Sys2Proof.Machine

/-- The area of a record: 0 to 3 as READ_LOG names them, 4 run parameters, 5 repairs and pier map (R508). -/
def JRecord.area : JRecord → Nat
  | .fault .. => 0
  | .supplyReset _ => 0
  | .keystone .. => 1
  | .brace .. => 2
  | .time .. => 3
  | .run .. => 4
  | _ => 5

/-- The records that an area holds (R508); area 5 has fixed entries, of which the model keeps every change. -/
def areaSize : Nat → Option Nat
  | 0 => some 1048576
  | 1 => some 8388608
  | 2 => some 16
  | 3 => some 65536
  | 4 => some 1048576
  | _ => none

/-- The records of an area, newest first. -/
def State.inArea (s : State) (a : Nat) : List JRecord := s.records.filter (fun r => r.area = a)

/-- Without the last entry of an area, which is its oldest record. -/
def dropOldest (a : Nat) : List JEntry → List JEntry
  | [] => []
  | e :: es => if e.record.area = a && !es.any (fun x => x.record.area = a) then es else e :: dropOldest a es

/-- A record is whole in the journal, with its CRC-32C; in a full area the oldest record is overwritten (R508). -/
def State.keepRecord (s : State) (r : JRecord) : State :=
  let full := (areaSize r.area).any (fun n => n ≤ (s.inArea r.area).length)
  { s with journal := ⟨r, crc32c (recordImage r)⟩ :: (if full then dropOldest r.area s.journal else s.journal) }

/-- NAND blocks fail under the oldest write in progress: each is retired with JOURNAL_FAULT, a spare block taking its place, and the write is
repeated there (R480, R508). -/
def State.retireBlocks (s : State) (retired : List Nat) : State :=
  retired.foldl (fun s b =>
    if s.retired.contains b then s else { s with retired := s.retired ++ [b] }.event .journalFault 0 0 b) s

/-- The oldest write in progress is complete; what waited for a keystone record goes on (R421, R508). -/
def State.journalDone (s : State) (retired : List Nat) : State :=
  match s.journalWrites with
  | [] => s
  | r :: rest =>
    let s1 := ({ s with journalWrites := rest }.retireBlocks retired).keepRecord r
    match r with
    | .keystone true n _ _ _ _ => s1.ownWritten n
    | .keystone false n m _ _ _ => s1.acknowledge n m
    | _ => s1

/-- JOURNAL_WRITE_DONE. -/
def execJournalWriteDone (retired : List Nat) (s : State) : Host.Outcome State Fault Refusal := .next (s.journalDone retired)

/-- Every write that has begun is completed before a reset takes effect (R504, R508). -/
def State.flushJournal (s : State) : State :=
  s.journalWrites.foldl (fun s r => s.keepRecord r) { s with journalWrites := [] }

/-- At a supply failure after a LAUNCH with JOURNAL_OFF a write in progress may be lost: a free choice for each (R510). -/
def State.flushFailing (s : State) : State :=
  if s.journalOff then
    s.journalWrites.foldl (fun s r =>
      let b := s.fresh
      if b.1.getLsbD 0 then b.2.keepRecord r else b.2) { s with journalWrites := [] }
  else s.flushJournal

/-- The bytes of a record as READ_LOG gives them (R463, R495, R508). SEQ and PHASE of a fault-log record, the layout of a keystone record,
that of a snapshot and the record of a supply reset are not stated and are free (log 25). A snapshot takes 64 KiB, a sixteenth of its area.
-/
def State.recordBytes (s : State) (r : JRecord) : List Byte × State :=
  match r with
  | .fault n boot =>
    let a := s.fresh
    (n.bytes (a.1.toNat % 2 ^ 32) (a.1.toNat / 2 ^ 32 % 2) ++ leBytes 4 boot ++ List.replicate 28 0, a.2)
  | .supplyReset boot =>
    let t := State.freeBytes 32 s
    (t.1 ++ leBytes 4 boot ++ List.replicate 28 0, t.2)
  | .keystone .. => State.freeBytes 32 s
  | .brace _ => State.freeBytes 65536 s
  | .time host ticks boot step =>
    (leBytes 8 host.toNat ++ leBytes 8 ticks.toNat ++ leBytes 4 boot ++ leBytes 4 step ++ List.replicate 8 0, s)
  | _ => ([], s)

/-- The bytes of a record of an area. -/
def recordSize : Nat → Nat
  | 0 => 64
  | 2 => 65536
  | _ => 32

/-- READ_LOG (R455): as many records of an area, from the first asked for, as the buffer holds and the area has; `status` is that of the
write to the buffer (R442). Records are counted from the oldest held. -/
def State.readLog (s : State) (k : MailIx) (status : Fin 4) : State :=
  s.onPacket k 0x0605 (fun p =>
    let a := p.le 0 1
    let first := p.le 4 4
    let rs := ((s.inArea a).reverse.drop first).take (p.le 16 4 / recordSize a)
    let out := rs.foldl (fun (acc : List Byte × State) r =>
      let x := acc.2.recordBytes r
      (acc.1 ++ x.1, x.2)) ([], s)
    if rs.isEmpty then s.finish k.val .ok 0 (leBytes 4 0 ++ leBytes 4 first)
    else out.2.finishBuffer k.val status (p.le 8 8) out.1 (leBytes 4 rs.length ++ leBytes 4 (first + rs.length)))

/-- READ_LOG. -/
def execReadLog (k : MailIx) (status : Fin 4) (s : State) : Host.Outcome State Fault Refusal := .next (s.readLog k status)

/-- CORRELATE_TIME (R495): the sample is the time counter when the packet was accepted. -/
def State.correlate (s : State) (k : MailIx) : State :=
  s.onPacket k 0x0606 (fun p =>
    (s.journalise (.time (BitVec.ofNat 64 (p.le 0 8)) p.time (s.fld Fld.BOOT_COUNT_COUNT 0) s.stepNo)).finish k.val .ok 0
      (leBytes 8 p.time.toNat))

/-- CORRELATE_TIME. -/
def execCorrelateTime (k : MailIx) (s : State) : Host.Outcome State Fault Refusal := .next (s.correlate k)

end Sys2Proof.Machine
end

