-- ==== Sys2Proof/Machine/Reset.lean ====
section
/-! DEFINITION. The resets (R515-R521): what each keeps, the start of the tollhouse by its boot ROM (R548), the boot nonce and count
(R494), and the boot of the module up to its release (R516, R517). The reset causes are those of BOOT (R480): 0 power-on, 1 module,
2 warm, 3 supply. -/
namespace Sys2Proof.Machine

/-- The registers that a reset keeps whole, or that are in fuses (R521, R542, R561); BIST_STATUS and BIST_COUNT fare as SENSE_STATUS
does (R542). -/
def keptRegs (cause : Nat) : List RegName :=
  [.unitRepair, .deckSpares, .deviceId, .keyStatus, .bootCount] ++
  (if cause = 0 then [] else [.timeNow, .holdupStatus, .holdupTime, .braceCount]) ++
  (if cause = 2 then
    [.gateCfg, .homeCfg, .pairCfg, .clkCfg, .senseCfg, .powerCfg, .bistCfg, .pauneId, .routeDim, .routePorts, .routeOvr, .portCfg,
      .portShare0, .portShare1, .jwStatus, .jwErr, .jwCount, .mailboxCfg, .senseStatus, .senseCount, .thermStatus, .clkStatus,
      .clkSpan, .clkSpanCount, .fwStatus, .bistStatus, .bistCount]
  else [])

/-- The register fields that a reset keeps beside those (R515, R521, R557); the levels of the inputs and of brace stand (R474,
R501). -/
def keptFlds (cause : Nat) : List Fld :=
  [Fld.FW_STATUS_ACTIVE, Fld.SERVICE_CTRL_FAILS] ++
  (if cause = 0 then []
  else [Fld.EVT_STATUS_NEXT_SEQ, Fld.SUPPLY_STATUS_V_MIN, Fld.SENSE_STATUS_RAW, Fld.SENSE_STATUS_FILT, Fld.TOKEN_STATUS_BRACE,
    Fld.POWER_STATUS_BRACE]) ++
  (if cause = 2 then [Fld.TOKEN_STATUS_BUDGET_W] else [])

/-- The registers of a reset: those kept, the others at their defaults; MAILBOX_CFG.ENABLE is cleared (R521), and a test is abandoned
(R537). -/
def State.resetRegs (s : State) (cause : Nat) : State :=
  let t := { s with regs := s.regs.filter (fun e => (keptRegs cause).any (fun r => r.ctorIdx = e.1 % 256)) }
  [Fld.MAILBOX_CFG_ENABLE, Fld.CLK_STATUS_TEST_PERIOD, Fld.BIST_STATUS_RUNNING, Fld.BIST_STATUS_WAVE].foldl
    (fun t f => t.setFld f 0 0) ((keptFlds cause).foldl (fun t f => t.setFld f 0 (s.fld f 0)) t)

/-- The soft fields of UNIT_REPAIR are lost with the power of the always-on island (R530). -/
def dropSoftUnits (e : Nat × Word) : Option (Nat × Word) :=
  if e.1 % 256 = RegName.unitRepair.ctorIdx then
    let w := Fld.UNIT_REPAIR_SOFT_B.place (Fld.UNIT_REPAIR_SOFT_A.place e.2 127) 127
    if w = regDflt e.1 then none else some (e.1, w)
  else some e

/-- A pier's place in the pier map (R455): 0 spare, 1 admitted, 2 fenced, 3 failed. -/
def State.putMap (s : State) (p : PierIx) (v : Nat) : State :=
  let off (l : List PierIx) : List PierIx := l.filter (fun q => q != p)
  { s with
    admitted := if v = 1 then (List.finRange 136).filter (fun q => q = p || s.admitted.contains q) else off s.admitted
    fenced := off s.fenced ++ (if v = 2 then [p] else [])
    failed := off s.failed ++ (if v = 3 then [p] else []) }

/-- A record of the journal takes effect again at a boot (R521, R530). -/
def State.replay (s : State) (r : JRecord) : State :=
  match r with
  | .pierMap p v => s.putMap p v
  | .ringBreak p on => s.setFld Fld.RING_CFG_BROKEN p.val (if on then 1 else 0)
  | .unitRepair a w =>
    (s.setFld Fld.UNIT_REPAIR_SOFT_A a (Fld.UNIT_REPAIR_SOFT_A.ofWord w)).setFld Fld.UNIT_REPAIR_SOFT_B a
      (Fld.UNIT_REPAIR_SOFT_B.ofWord w)
  | .deckRepair p b w =>
    if s.deckMap.any (fun e => e.1 = p && e.2.1 = b && e.2.2.1 = w) then s
    else { s with deckMap := s.deckMap ++ [(p, b, w, false)] }
  | .deckClear p => s.dropSoftWords p
  | _ => s

/-- The pier map, up to the grade's ceiling (R2), the recorded breaks and the soft repairs are restored from the journal (R521, R530). -/
def State.restoreJournal (s : State) : State :=
  let t := s.records.reverse.foldl State.replay { s with
    regs := s.regs.filterMap dropSoftUnits
    deckMap := s.deckMap.filter (fun e => e.2.2.2)
    admitted := []
    fenced := []
    failed := [] }
  { t with admitted := t.admitted.take t.ceiling }.countBreaks

/-- A device request that outlives a warm reset: the replies are written before it, and a record belongs to no queue any more. -/
def keepRequest (e : Nat × JwKind) : Option (Nat × JwKind) :=
  match e.2 with
  | .reply _ => none
  | .record => some (e.1, .data)
  | _ => some e

/-- What a reset loses and keeps (R515, R518, R521). A warm reset leaves the Juwire link, and with it the requests that wait on it. -/
def State.resetTo (s : State) (cause : Nat) : State :=
  let warm := cause = 2
  let t := s.loseFabric.resetRegs cause
  ({ t with
    mail := []
    jwBusy := if warm then s.jwBusy.filterMap keepRequest else []
    jwHeld := []
    mailOrder := []
    cmdOrder := []
    mirrorLog := []
    rejoinSender := false
    promoted := []
    mirrorWaits := []
    notices := []
    taken := []
    pairing := Pairing.init
    journalOff := false
    launchedOnce := false
    queue := ⟨0, 0, 0, 0⟩
    posted := []
    bootWait := false
    recordOut := false
    lostRecords := 0
    junction := if warm then s.junction else []
    coolReads := if warm then s.coolReads else 0
    coolWindows := 0
    measureWanted := false
    tests := []
    bist := none
    parked := []
    wakeWanted := none
    openGates := []
    braceAt := if cause = 0 then none else s.braceAt
    recovering := if cause = 0 then false else s.recovering
    challenge := none
    opened := false
    probes := []
    hostWaits := if warm then s.hostWaits.filter Waiting.ofHost else []
    warmReset := none
    deltas := if warm then s.deltas else []
    jwAsleep := false
    sbAddress := if warm then s.sbAddress else none
    poolCfg := t.reg .homeCfg 0 }.restoreJournal.countHard).retoken

/-- POWER_ON: everything is at its default, the time counter included; the module is in reset (R515). -/
def State.powerOn (s : State) : State :=
  match s.phase with
  | .off => { s.resetTo 0 with phase := .reset 0 false }
  | _ => s

/-- POWER_ON. -/
def execPowerOn (s : State) : Host.Outcome State Fault Refusal := .next s.powerOn

/-- The filtered RESET_L is low: the module is in reset, once the journal writes that have begun are complete (R508, R515). A reset
that already holds the module keeps its cause. -/
def State.moduleReset (s : State) : State :=
  match s.phase with
  | .off => s
  | .reset _ _ => s.setSense 0 false
  | _ => { (s.setSense 0 false).flushJournal.resetTo 1 with phase := .reset 1 false }

/-- MODULE_RESET. -/
def execModuleReset (s : State) : Host.Outcome State Fault Refusal := .next s.moduleReset

/-- The filtered input is below 34.0 V: brace ends, the journal is completed with the entry of this reset, and the module is held in
reset (R500, R503, R504). -/
def State.supplyReset (s : State) : State :=
  match s.phase with
  | .off => s
  | .reset _ true => s
  | _ =>
    let s1 := { (((s.setSense 3 true).setSense 4 true).setSense 5 false).endBrace with recovering := false }
    let s2 := (s1.flushFailing.keepRecord (.supplyReset (s1.fld Fld.BOOT_COUNT_COUNT 0))).bump Fld.BRACE_COUNT_SUPPLY_RESETS 0 1
    { s2.resetTo 3 with phase := .reset 3 true }

/-- SUPPLY_RESET. -/
def execSupplyReset (s : State) : Host.Outcome State Fault Refusal := .next s.supplyReset

/-- HOLDUP_EXHAUSTED: the bank has fallen below 30 V, and the module has no power (R504). -/
def execHoldupExhausted (s : State) : Host.Outcome State Fault Refusal :=
  .next (match s.phase with
    | .reset _ true => { s with phase := .off }
    | _ => s)

/-- Does the image of a NOR slot pass the checks of a boot, 1 and 3 to 5 of R546? `made` are the verdicts of checks 1 and 4, and on PUBKEY,
for the images that the module was made with; their key slot and their SVN are held against the fuses (R548, R551). -/
def State.imagePasses (s : State) (made : List Bool) (slot : Nat) : Bool :=
  match s.norImage slot with
  | some bs => (s.firmwareFault (slot / 2) (imageAt bs 4 1) bs.length bs).isNone
  | none =>
    let m := s.madeImages.getD slot ⟨0, 0⟩
    made.getD slot false && s.keyState m.keySlot = 1 && s.fld (svnMin (slot / 2)) 0 ≤ m.svn

/-- The boot ROM verifies the active tollhouse image, and the other one where that fails (R548). A trial ends with its image
rejected (R549). -/
def State.bootRom (s : State) (made : List Bool) : Option State :=
  let a := s.activeImage 0
  let t := ((s.setTrial none).extendMr 0 (beBytes 48 Config.romDigest.toNat)).setFld Fld.FW_STATUS_ACTIVE 0 a
  if s.imagePasses made a then some (t.startTollhouse a)
  else if s.imagePasses made (otherImage a) then
    some ((((t.setActive 0 (otherImage a)).setFld Fld.FW_STATUS_ACTIVE 0 (otherImage a)).setFld Fld.FW_STATUS_FALLBACK 0 1).startTollhouse
      (otherImage a))
  else none

/-- The image of a gate (1) or a port (2) is verified, the other one taking its place where it fails, and every unit loads it (R548,
R553). The Bool says that one has passed. -/
def State.loadUnits (s : State) (made : List Bool) (target : Nat) : Bool × State :=
  let a := s.activeImage target
  let load (s : State) (ab : Nat) : State :=
    (List.range (if target = 1 then 8 else 12)).foldl (fun s _ => s.extendMr (target + 1) (s.norDigest (2 * target + ab))) s
  if s.imagePasses made (2 * target + a) then (true, load s a)
  else if s.imagePasses made (2 * target + otherImage a) then
    (true, load ((s.setActive target (otherImage a)).setFld Fld.FW_STATUS_FALLBACK 0 1)
      (otherImage a))
  else (false, s)

/-- The boot nonce: bits [127:0] of the SHA-384 of the first draw that passes the health tests, byte k in bits [8k + 7 : 8k]. Where
all 16 fail, the hash is over the last draw with the boot count and the time counter, in a layout that the spec does not state (R494;
log 3). -/
def State.drawNonce (s : State) (draws : List (List Byte × Bool)) : State :=
  let ds := draws.take 16
  let take (h : List Byte) (weak : Nat) : State :=
    ((s.setReg .bootNonce0 0 (BitVec.ofNat 64 (leNat (h.take 8)))).setReg .bootNonce1 0
      (BitVec.ofNat 64 (leNat ((h.drop 8).take 8)))).setFld Fld.CLK_STATUS_NONCE_WEAK 0 weak
  match ds.find? (fun d => d.2) with
  | some d => take (sha384 d.1) 0
  | none =>
    take (sha384 (Config.nonceInput ((ds.getLast?.map Prod.fst).getD []) (BitVec.ofNat 32 (s.fld Fld.BOOT_COUNT_COUNT 0)) s.now)) 1

/-- The step counter of a boot: the STEP of the newest own keystone record plus 1, or 0 (R433). -/
def State.bootStep (s : State) : Nat :=
  match s.records.find? (fun r => match r with
    | .keystone true .. => true
    | _ => false) with
  | some (.keystone _ n _ _ _ _) => n + 1
  | _ => 0

/-- What the tollhouse does at every module boot: nonce and boot count, the step counter, the epochs, the port images, and BOOT (R281,
R433, R469, R494, R518). -/
def State.startBoot (s : State) (cause : Nat) (b : TollBoot) : State :=
  let u := s.extendFuses.loadUnits b.made 2
  let s1 := ({ u.2 with noPorts := if u.1 then [] else List.range 12 }.drawNonce b.draws).bump Fld.BOOT_COUNT_COUNT 0 1
  let s2 := { s1 with
    startEpoch := BitVec.ofNat 32 (s1.reg .bootNonce0 0).toNat
    bootWait := true
    phase := .booted cause }
  let s3 := ((s2.setFld Fld.STEP_COUNTER_STEP 0 s2.bootStep).setFld Fld.PAIR_STATUS_PAIR_ALIVE 0
    (if s2.sensed 1 then 1 else 0)).charge
  ((List.range 12).foldl State.enablePort s3).event .boot 0 0 (cause + 2 ^ 32 * s3.fld Fld.BOOT_COUNT_COUNT 0)

/-- The tollhouse starts after a reset, or no image verifies (R516, R548). -/
def State.tollBoot (s : State) (cause : Nat) (b : TollBoot) : State :=
  let s0 := s.setFld Fld.CLK_STATUS_ROOT_LOCK 0 1
  match s0.bootRom b.made with
  | some t => t.startBoot cause b
  | none =>
    { ((s0.setTrial none).extendMr 0 (beBytes 48 Config.romDigest.toNat)).setFld Fld.FW_STATUS_NO_IMAGE 0 1 with phase := .noImage }

/-- SUPPLY_RESET_RELEASE: the recovery level has held for 10 ms, and the tollhouse starts (R504); REFCLK must be present (R484, R516). While
the filtered RESET_L is low the module stays in reset, and RESET_RELEASE then ends it (R19, R515). -/
def State.supplyResetRelease (s : State) (b : TollBoot) : State :=
  match s.phase with
  | .reset c true =>
    if !s.recovering || s.refLost then s
    else if s.sensed 0 then s.tollBoot c b
    else { s with phase := .reset c false }
  | _ => s

/-- SUPPLY_RESET_RELEASE. -/
def execSupplyResetRelease (b : TollBoot) (s : State) : Host.Outcome State Fault Refusal := .next (s.supplyResetRelease b)

/-- The power-up self-test (R516, R525, R527, R531): in the mode of BIST_CFG, native mode with result 4 being followed by
T7-compatible mode. It passes within one row (log 185). -/
def State.powerupTest (s : State) (m : ModuleBoot) : State :=
  let testGates := s.flag Fld.BIST_CFG_STACK_TEST 0
  let native := !s.flag Fld.BIST_CFG_POWERUP_MODE 0
  let x := s.moduleOutcome native testGates m.first
  let again := x.1.1 = 4
  let y := if again then s.moduleOutcome false testGates m.again else x
  let r := if again then m.again else m.first
  let mode := if native && !again then 0 else 1
  ((y.2.closeBist r.vcore mode).setFld Fld.BIST_STATUS_SCOPE 0 mode).noteResult y.1.1 y.1.2.2 r.ms

/-- The self-test of a warm reset, limited to the stacks (R517, R528). -/
def State.warmTest (s : State) (r : BistResult) : State :=
  if s.flag Fld.BIST_CFG_STACK_TEST 0 then
    let x := s.testStacks r (fun _ => true) false
    (x.2.setFld Fld.BIST_STATUS_SCOPE 0 3).noteResult (if x.2.stackMask (fun _ => true) != 0 then 3 else if x.1 = 0 then 0 else 1)
      x.1 r.ms
  else s

/-- Steps 3 to 5 of R516: the gates train, the self-test runs, piers are admitted, the junction sensors are read (R478), the bank is full but
for a warm reset, which leaves it as it is, and the module is released. -/
def State.moduleBoot (s : State) (cause : Nat) (m : ModuleBoot) : State :=
  let u := s.loadUnits m.toll.made 1
  let s1 := u.2.trainGates (if u.1 then m.untrained else List.finRange 8)
  let s2 := if cause = 2 then s1.warmTest m.first else (s1.powerupTest m).setBank m.bank
  { s2.readTemps m.temps with phase := .released }

/-- RESET_RELEASE: the trigger of a reset has ended, and the module boots and is released (R515-R517); at power-on the recovery level has
held for 10 ms (R500), and REFCLK is present (R484, R516). -/
def State.resetRelease (s : State) (m : ModuleBoot) : State :=
  match s.phase with
  | .reset c false =>
    if s.refLost || (c = 0 && !s.recovering) then s
    else
      let t := (s.setSense 0 true).tollBoot c m.toll
      match t.phase with
      | .booted _ => t.moduleBoot c m
      | _ => t
  | .booted c => s.moduleBoot c m
  | _ => s

/-- RESET_RELEASE. -/
def execResetRelease (m : ModuleBoot) (s : State) : Host.Outcome State Fault Refusal := .next (s.resetRelease m)

/-- RESET with KIND 0 (R454, R515, R517): its own reply, and ABORTED for every command not yet done; the reset comes 10 µs after the last of
these replies is written, the tollhouse image going on running. -/
def State.resetWarm (s : State) (k : MailIx) (b : TollBoot) : State :=
  s.onPacket k 0x0801 (fun p =>
    if p.le 0 1 != 0 then s
    else
      let ks := s.runningSlots.map Prod.fst
      let s1 := s.finish k.val .ok 0 []
      { s1.runningSlots.foldl (fun s e => s.refuse e.1 .aborted) s1 with warmReset := some ⟨b, ks, none⟩ })

/-- The warm reset that is due takes place (R454, R517). -/
def State.warmDue (s : State) : State :=
  match s.warmReset with
  | some w => if w.due.any (fun t => t ≤ s.now) then (s.flushJournal.resetTo 2).startBoot 2 w.toll else s
  | none => s

/-- RESET_WARM. -/
def execResetWarm (k : MailIx) (b : TollBoot) (s : State) : Host.Outcome State Fault Refusal := .next (s.resetWarm k b)

/-- The slots of the commands that depend on a port: a QUERY whose probe is routed over it, and, where it is the last active member of the
bond, a PAIR_FORM or PAIR_REJOIN that is in progress (R454; log 169). -/
def State.portCommands (s : State) (n : Nat) : List Nat :=
  let probes := s.probes.filterMap (fun e =>
    match (s.mailSlot e.2.1).running with
    | some p => (match s.route (p.le 4 2) 0 none with
      | .port m _ => if m = n then some e.2.1 else none
      | _ => none)
    | none => none)
  let pairs := if s.bondActive = [n] then
      (s.runningSlots.filter (fun e => [0x0501, 0x0503].contains e.2.opcode && e.2.begun)).map Prod.fst
    else []
  probes ++ pairs

/-- RESET with KIND 2 (R515, R520): the commands that depend on the port end with ABORTED (R454); any reset ends a challenge (R557). -/
def State.resetLink (s : State) (k : MailIx) : State :=
  s.onPacket k 0x0801 (fun p =>
    let n := p.le 1 1
    if p.le 0 1 != 2 then s
    else if 11 < n then s.refuse k.val .badParam
    else
      let ks := s.portCommands n
      let s1 := ks.foldl (fun s j => s.refuse j .aborted) { s with
        challenge := none
        probes := s.probes.filter (fun e => !ks.contains e.2.1) }
      (s1.onPort (fun s => s.toDetect n)).finish k.val .ok 0 [])

/-- RESET_LINK. -/
def execResetLink (k : MailIx) (s : State) : Host.Outcome State Fault Refusal := .next (s.resetLink k)

end Sys2Proof.Machine
end

