-- ==== Sys2Proof/Machine/Service.lean ====
section
/-! DEFINITION. Attestation (R554, R555), service access (R556, R557) and the owner fuses (R558). -/
namespace Sys2Proof.Machine

/-- Does the tollhouse run: it has booted its image (R515, R516)? -/
def State.tollUp (s : State) : Bool :=
  match s.phase with
  | .booted _ => true
  | .released => true
  | _ => false

/-- The certificates of a report, 1 to 4,096 bytes (R554, R555). -/
def certChain : List Byte := (Config.certHead :: Config.certTail).take 4096

/-- The number whose bit n says that `f n` holds. -/
def bitsOf (f : Nat → Bool) (n : Nat) : Nat := (List.range n).foldl (fun v i => if f i then v + 2 ^ i else v) 0

/-- FLAGS of a report (R555). -/
def State.reportFlags (s : State) : Nat :=
  bitsOf (fun i => match i with
    | 0 => s.flag Fld.SERVICE_CTRL_OPEN 0
    | 1 => s.opened
    | 2 => s.flag Fld.CLK_STATUS_NONCE_WEAK 0
    | 3 => s.flag Fld.FW_STATUS_FALLBACK 0
    | 4 => s.flag Fld.FW_STATUS_ROLLED_BACK 0
    | _ => s.flag Fld.FW_STATUS_TRIAL 0) 6

/-- The boot nonce, 16 bytes. -/
def State.nonceBytes (s : State) : List Byte :=
  leBytes 8 (s.reg .bootNonce0 0).toNat ++ leBytes 8 (s.reg .bootNonce1 0).toNat

/-- The private number of the identity key (R554). -/
def identityPrivate : Nat := scalarOf Config.identityScalar

/-- The signature of 96 bytes by the identity key (R543, R555). -/
def identitySign (bs : List Byte) : List Byte :=
  ecdsaSign identityPrivate ((List.range 64).map (fun n => scalarOf (Config.signScalar bs n))) bs

/-- Bytes 0 to 587 + CHAIN_LEN of an attestation report (R555). -/
def State.reportBody (s : State) (nonce : List Byte) : List Byte :=
  leBytes 4 0x54415447 ++ leBytes 2 1 ++ leBytes 2 (684 + certChain.length) ++ nonce ++ s.nonceBytes ++
    leBytes 4 (s.fld Fld.BOOT_COUNT_COUNT 0) ++ leBytes 4 s.stepNo ++ leBytes 8 s.now.toNat ++
    leBytes 1 (s.fld Fld.DEVICE_ID_GRADE 0) ++ leBytes 1 s.admitted.length ++ leBytes 1 s.reportFlags ++
    leBytes 1 (s.fld Fld.DEVICE_ID_STEPPING 0) ++ leBytes 4 (s.fld Fld.FW_STATUS_VERSION 0) ++
    leBytes 17 (bitsOf (fun i => s.admitted.any (fun p => p.val = i)) 136) ++ List.replicate 7 0 ++
    (List.range 8).flatMap s.mrBytes ++ publicKey identityPrivate ++ leBytes 4 certChain.length ++ certChain

/-- ATTEST (R555): the report goes to the host buffer, if that is long enough; `status` is that of the write (R442). -/
def State.attest (s : State) (k : MailIx) (status : Fin 4) : State :=
  s.onPacket k 0x0701 (fun p =>
    let body := s.reportBody (p.params.take 32)
    let report := body ++ identitySign body
    if p.le 40 4 < report.length then s.finish k.val .badParam 0 (leBytes 4 report.length)
    else s.finishBuffer k.val status (p.le 32 8) report (leBytes 4 report.length))

/-- ATTEST. -/
def execAttest (k : MailIx) (status : Fin 4) (s : State) : Host.Outcome State Fault Refusal := .next (s.attest k status)

/-- The failures to unlock and SERVICE_CTRL.FAILS (R557, R561). -/
def State.setFails (s : State) (n : Nat) : State := { s with authFails := n }.setFld Fld.SERVICE_CTRL_FAILS 0 (min n 7)

/-- Service access opens by a method: MR6 is extended, and the failures are cleared (R553, R557). -/
def State.openService (s : State) (method : Nat) : State :=
  (({ s with opened := true }.setFld Fld.SERVICE_CTRL_OPEN 0 1).setFails 0).extendMr 6
    (sha384 (leBytes 1 method ++ leBytes 8 s.now.toNat))

/-- An unlock by a method that checks: refused without a check while barred, opened where the check passes; the fifth failure in
succession, and each further one, bars the methods (R557). -/
def State.tryUnlock (s : State) (k : MailIx) (method : Nat) (pass : Bool) : State :=
  let s1 := { s with challenge := none }
  if s.authBarred then s1.refuse k.val .authFail
  else if pass then (s1.openService method).finish k.val .ok 0 []
  else ({ s1 with authBarred := 5 ≤ s.authFails + 1 }.setFails (s.authFails + 1)).refuse k.val .authFail

/-- Are the owner's password and debug-key banks blank (R557)? -/
def State.blankBanks (s : State) : Bool := s.passwords.isEmpty && s.debugKeys.isEmpty

/-- The work of UNLOCK_SERVICE with a METHOD. Each one that runs ends the challenge that was valid, one whose L is wrong too (R557). -/
def State.onUnlock (s : State) (k : MailIx) (method : Nat) (f : Packet → State) : State :=
  s.onPacket k 0x0702 (fun p => if p.le 0 1 = method then f p else s)

/-- UNLOCK_SERVICE with METHOD 1: the password (R557). -/
def State.unlockPassword (s : State) (k : MailIx) : State :=
  s.onUnlock k 1 (fun p =>
    let n := p.le 4 4
    let pass := match s.passwords.getLast? with
      | some b => sha384 (b.take 16 ++ (p.params.drop 8).take n) = b.drop 16
      | none => s.blankBanks && n = 0
    if 64 < n || (n = 0 && !s.blankBanks) then { s with challenge := none }.refuse k.val .badParam
    else s.tryUnlock k 1 pass)

/-- UNLOCK_PASSWORD. -/
def execUnlockPassword (k : MailIx) (s : State) : Host.Outcome State Fault Refusal := .next (s.unlockPassword k)

/-- UNLOCK_SERVICE with METHOD 2: a fresh challenge of 32 bytes, in place of any other (R557). -/
def State.unlockChallenge (s : State) (k : MailIx) : State :=
  s.onUnlock k 2 (fun p =>
    if p.le 4 4 != 0 then { s with challenge := none }.refuse k.val .badParam
    else
      let r := State.freeBytes 32 s
      { r.2 with challenge := some r.1 }.finish k.val .ok 0 r.1)

/-- UNLOCK_CHALLENGE. -/
def execUnlockChallenge (k : MailIx) (s : State) : Host.Outcome State Fault Refusal := .next (s.unlockChallenge k)

/-- UNLOCK_SERVICE with METHOD 3: the signature over challenge and boot nonce under the owner's debug key (R557). -/
def State.unlockSigned (s : State) (k : MailIx) : State :=
  s.onUnlock k 3 (fun p =>
    let key := (p.params.drop 8).take 96
    let sig := (p.params.drop 104).take 96
    let pass := match s.debugKeys.getLast?, s.challenge with
      | some h, some c => sha384 key = h && ecdsaVerify key (c ++ s.nonceBytes) sig
      | _, _ => false
    if p.le 4 4 != 192 then { s with challenge := none }.refuse k.val .badParam
    else s.tryUnlock k 3 pass)

/-- UNLOCK_SIGNED_RESPONSE. -/
def execUnlockSignedResponse (k : MailIx) (s : State) : Host.Outcome State Fault Refusal := .next (s.unlockSigned k)

/-- CHALLENGE_EXPIRY: 60 s have passed since the challenge (R557). -/
def execChallengeExpiry (s : State) : Host.Outcome State Fault Refusal := .next { s with challenge := none }

/-- AUTH_LOCKOUT_EXPIRY: the refusal time is over (R557). -/
def execAuthLockoutExpiry (s : State) : Host.Outcome State Fault Refusal := .next { s with authBarred := false }

/-- SERVICE_CTRL.CLOSE is written: service access closes (R557). -/
def State.closeService (s : State) : State := if s.tollUp then s.setFld Fld.SERVICE_CTRL_OPEN 0 0 else s

/-- SERVICE_CLOSE. -/
def execServiceClose (s : State) : Host.Outcome State Fault Refusal := .next s.closeService

/-- The address of OWNER_FUSE_CTRL (R560). -/
def fuseCtrl : Nat := 0x020101100020

/-- The 64 bytes of OWNER_FUSE_DATA (R558). -/
def State.fuseData (s : State) : List Byte := (List.range 8).flatMap (fun n => leBytes 8 (s.reg .ownerFuseData n).toNat)

/-- OWNER_FUSE_CTRL.RESULT: 1 done, 2 verify failed, 3 refused (R561). -/
def State.fuseResult (s : State) (v : Nat) : State := s.setFld Fld.OWNER_FUSE_CTRL_RESULT 0 v

/-- An operation of OWNER_FUSE_CTRL (R556, R558): discarded while service access is closed, refused unless `allowed`; with a fuse
that does not verify nothing is taken over, else the fuses change as `f` says and MR5 follows. -/
def State.burnOwner (s : State) (allowed verified : Bool) (f : State → State) : State :=
  if !s.tollUp then s
  else if !s.flag Fld.SERVICE_CTRL_OPEN 0 then s.regFault fuseCtrl
  else if !allowed then s.fuseResult 3
  else if !verified then s.fuseResult 2
  else (f s).extendFuses.fuseResult 1

/-- OP 1: a program slot that is not enrolled takes the key hash (R558). -/
def State.enrolSlot (s : State) (slot : Nat) (verified : Bool) : State :=
  s.burnOwner (s.keyState (2 + slot) = 0) verified (fun s =>
    { s with programKeys := s.programKeys.ins slot (s.fuseData.take 48) }.setKeyState (2 + slot) 1)

/-- OWNER_ENROL_SLOT: `verified` says that the fuses verify. -/
def execOwnerEnrolSlot (slot : Fin 2) (verified : Bool) (s : State) : Host.Outcome State Fault Refusal :=
  .next (s.enrolSlot slot.val verified)

/-- OP 2: a program slot is revoked, unless that left both revoked (R544, R558). -/
def State.revokeSlot (s : State) (slot : Nat) (verified : Bool) : State :=
  s.burnOwner (s.keyState (3 - slot) != 2) verified (fun s => s.setKeyState (2 + slot) 2)

/-- OWNER_REVOKE_SLOT. -/
def execOwnerRevokeSlot (slot : Fin 2) (verified : Bool) (s : State) : Host.Outcome State Fault Refusal :=
  .next (s.revokeSlot slot.val verified)

/-- OP 3: the next of the four password banks takes salt and hash (R558). -/
def State.writePassword (s : State) (verified : Bool) : State :=
  s.burnOwner (s.passwords.length < 4) verified (fun s => { s with passwords := s.passwords ++ [s.fuseData] })

/-- OWNER_WRITE_PASSWORD. -/
def execOwnerWritePassword (verified : Bool) (s : State) : Host.Outcome State Fault Refusal := .next (s.writePassword verified)

/-- OP 4: the next of the four debug-key banks takes the hash (R558). -/
def State.writeDebugKey (s : State) (verified : Bool) : State :=
  s.burnOwner (s.debugKeys.length < 4) verified (fun s => { s with debugKeys := s.debugKeys ++ [s.fuseData.take 48] })

/-- OWNER_WRITE_DEBUG_KEY. -/
def execOwnerWriteDebugKey (verified : Bool) (s : State) : Host.Outcome State Fault Refusal := .next (s.writeDebugKey verified)

end Sys2Proof.Machine
end

