-- ==== Sys2Proof/Machine/RegAccess.lean ====
section
/-! DEFINITION. Reads and writes of registers by software (R12-R17, R575): the registers that show the state of the module, the
writes that are refused, and those with an effect of their own. -/
namespace Sys2Proof.Machine

/-- Is the compute of a register block's pier powered; a block that lies in no pier's compute is always there (R12, R106)? -/
def State.pierUp (s : State) : Option Nat → Bool
  | none => true
  | some p => if h : p < 136 then s.phase = .released && s.powered ⟨p, h⟩ else false

/-- A word with several fields placed. -/
def placeAll (w : Word) (fs : List (Fld × Nat)) : Word := fs.foldl (fun w e => e.1.place w e.2) w

/-- ARCH_STATUS.STATE that a work of arch `i` gives: 2 from the issue of a pass to its last update, 1 for a LOADS (R108, R320). -/
def Work.archState (w : Work) (i : Nat) : Nat :=
  let here (a : ArchIx) (v : Nat) : Nat := if archIx w.pier a = i then v else 0
  match w.kind with
  | .pass x => here x.a 2
  | .rowDot x .. => here x.a 2
  | .rowRead x .. => here x.a 2
  | .rowWrite x .. => here x.a 2
  | .load a .. => here a 1
  | .loadEnd a _ => here a 1
  | _ => 0

/-- ARCH_STATUS.STATE of arch `i`: 3 during a test of its pier, in which repairs are made (R108, R320, R524). -/
def State.archState (s : State) (i : Nat) : Nat :=
  let vs := s.flight.map (fun w => w.archState i)
  if s.tests.any (fun x => x.pier.val = i / 4) || s.bist.any (fun t => t.scope ≤ 1 && !t.paused) then 3 else if vs.contains 2 then 2 else if vs.contains 1 then 1 else 0

/-- REGION_PTR of region `i`; WAITING says that an engine waits on it (R186). -/
def State.regionPtr (s : State) (i : Nat) : Word :=
  let x := s.regions.look (fun _ => Region.init) i
  let raw := s.flag Fld.REGION_DESC_MODE i
  let waits := (List.finRange 136).any (fun p => p.val = i / 64 && (s.waitingOn p).any (fun r => r.val = i % 64))
  if !s.flag Fld.REGION_DESC_VALID i || s.flag Fld.REGION_DESC_SCALE i then 0
  else if s.flag Fld.REGION_DESC_HALVES i then
    let h := s.fld Fld.REGION_DESC_SIZE i / 2
    let tail := if raw then min x.fillP h else x.fillP
    placeAll 0 [(Fld.REGION_PTR_TAIL, tail), (Fld.REGION_PTR_OCC, if raw then 0 else tail + x.fillC),
      (Fld.REGION_PTR_PHALF, if x.phalf then 1 else 0), (Fld.REGION_PTR_FILL_C, x.fillC),
      (Fld.REGION_PTR_WAITING, if waits then 1 else 0)]
  else
    placeAll 0 [(Fld.REGION_PTR_HEAD, x.head), (Fld.REGION_PTR_TAIL, x.tail), (Fld.REGION_PTR_OCC, if raw then 0 else x.occ),
      (Fld.REGION_PTR_WAITING, if waits then 1 else 0)]

/-- EVT_STACK (R482): entry k of the stack, from the bottom, lies in bits [3k + 6 : 3k + 4]. -/
def State.evtStack (s : State) : Word :=
  placeAll 0 [(Fld.EVT_STACK_DEPTH, s.taken.length),
    (Fld.EVT_STACK_LEVELS, s.taken.foldr (fun n v => n.level % 8 + 8 * v) 0),
    (Fld.EVT_STACK_PENDING, bitsOf (fun l => s.notices.any (fun n => n.level = l)) 8)]

/-- Are the stacks and their tables in force: the module is released and not in park (R260, R521)? -/
def State.tablesUp (s : State) : Bool := s.phase = .released && s.powerState < 3

/-- What a register shows (R15): its word, or the state of the module that it is a view of. -/
def State.regView (s : State) (r : RegName) (i : Nat) : Word :=
  let w := s.reg r i
  match r with
  | .archStatus =>
    placeAll w [(Fld.ARCH_STATUS_STATE, s.archState i),
      (Fld.ARCH_STATUS_SPARES_USED, (failedUnits (s.reg .unitRepair i)).length)]
  | .regionPtr => s.regionPtr i
  | .evtStack => s.evtStack
  | .evtPresent => s.presentWord
  | .homeStatus =>
    placeAll w [(Fld.HOME_STATUS_FREE_FRAMES, if s.tablesUp then s.freeFrames else 0),
      (Fld.HOME_STATUS_POOLED_FRAMES, if s.tablesUp then s.pooledFrames else 0)]
  | .windowStatus => placeAll w [(Fld.WINDOW_STATUS_OPEN_COUNT, s.openWindows)]
  | .holdupStatus => placeAll w [(Fld.HOLDUP_STATUS_LOW, s.holdupLow.toNat)]
  | .clkSpan => placeAll w [(Fld.CLK_SPAN_K_EFF, s.kEff i)]
  | _ => w

/-- The bits of a register that its fields cover; the others are RSV (R15). -/
def regMask (r : RegName) : Word :=
  (regFields r).foldl (fun w f => w ||| BitVec.ofNat 64 ((2 ^ f.width - 1) * 2 ^ f.lo)) 0

/-- The answer to a read that finds nothing: all ones (R12, R14). -/
def allOnes : Word := BitVec.allOnes 64

/-- A read of a listed register: RSV bits are unspecified (R15). -/
def State.readListed (s : State) (r : RegName) (i : Nat) : Word × State :=
  let m := regMask r
  if m = allOnes then (s.regView r i, s)
  else
    let x := s.fresh
    ((s.regView r i &&& m) ||| (x.1 &&& ~~~m), x.2)

/-- EVT_PRESENT and EVT_DONE are reached by tollhouse firmware alone (R481). -/
def firmwareOnly (r : RegName) : Bool := r = .evtPresent || r = .evtDone

/-- A 64-bit read at an aligned address of the register range (R12, R15, R575). -/
def State.regRead (s : State) (a : Nat) : Word × State :=
  match regAt a with
  | .hole => (allOnes, s.unmapped a)
  | .reserved pier => if s.pierUp pier then (0, s) else (allOnes, s.unmapped a)
  | .listed r i pier =>
    if !s.pierUp pier || firmwareOnly r then (allOnes, s.unmapped a) else s.readListed r i

/-- A write that takes effect field by field (R15-R17). -/
def State.plainWrite (s : State) (r : RegName) (i a : Nat) (v : Word) : State :=
  let w := regWriteWord r (s.reg r i) v
  let s1 := s.setReg r i w.1
  if w.2 then s1.regFault a else s1

/-- Is a program launched on physical pier `p` (R94, R167, R181, R187)? -/
def State.programOn (s : State) (p : Nat) : Bool := s.launched && s.binding.any (fun q => q.val = p)

/-- A write that is refused where `no` holds. One that is taken changes the register alone: a REGION_DESC written by the host with no
program launched leaves the region's pointers and FULL bits (R168, R185; DESIGN CHOICE, log 143). -/
def State.guardWrite (s : State) (no : Bool) (r : RegName) (i a : Nat) (v : Word) : State :=
  if no then s.regFault a else s.plainWrite r i a v

/-- Would a write leave BASE or SIZE of a region out of range (R185)? -/
def badRegion (v : Word) : Bool :=
  let base := Fld.REGION_DESC_BASE.ofWord v
  let size := Fld.REGION_DESC_SIZE.ofWord v
  1023 < base || size = 0 || 1024 < size || 1024 < base + size

/-- A write to DECK_ERR: clearing REGION_DEADLOCK clears DEADLOCK_REGIONS (R184). -/
def State.writeDeckErr (s : State) (i a : Nat) (v : Word) : State :=
  let s1 := s.plainWrite .deckErr i a v
  if Fld.DECK_ERR_REGION_DEADLOCK.ofWord v = 1 then s1.setReg .deadlockRegions i 0 else s1

/-- A write to GATE_CFG: REFRESH_FLOOR acts on the rate of a gate that refreshes (R231, R247). -/
def State.writeGateCfg (s : State) (g a : Nat) (v : Word) : State :=
  if s.launched then s.regFault a
  else
    let s1 := s.plainWrite .gateCfg g a v
    let st := s1.fld Fld.GATE_STATUS_STATE g
    if 2 ≤ st && st != 5 then
      s1.setFld Fld.GATE_STATUS_REFRESH_RATE g (max (rateOf (s1.gate g).heat) (s1.fld Fld.GATE_CFG_REFRESH_FLOOR g))
    else s1

/-- A write to PARAPET_SEL latches the three words of a parapet (R373). -/
def State.parapetSel (s : State) (index : Nat) : State :=
  let ws : Word × Word × Word := match s.parapets[index]? with
    | some p => (placeAll 0 [(Fld.PARAPET_W0_VALID, 1), (Fld.PARAPET_W0_KIND, p.kind), (Fld.PARAPET_W0_OBJECT, p.object)],
        BitVec.ofNat 64 p.lo, BitVec.ofNat 64 p.hi)
    | none => (0, 0, 0)
  (((s.setFld Fld.PARAPET_SEL_INDEX 0 index).setReg .parapetW0 0 ws.1).setReg .parapetW1 0 ws.2.1).setReg .parapetW2 0 ws.2.2

/-- Is a write to PORT_CFG of port `n` refused: the binding in force names the port, it belongs to the bond of a formed pair, or the
bond would have a third member (R386, R387)? -/
def State.portCfgBars (s : State) (n : Nat) (v : Word) : Bool :=
  s.isExt n || (s.role n = 3 && (s.pairState = 2 || s.pairState = 3)) ||
    (Fld.PORT_CFG_ROLE.ofWord v = 3 && 2 ≤ (s.bondPorts.filter (fun m => m != n)).length)

/-- A write to PORT_CFG takes the port to DETECT, or to DISABLED where it may not leave that (R378, R386). -/
def State.writePortCfg (s : State) (n a : Nat) (v : Word) : State :=
  if s.portCfgBars n v then s.regFault a
  else
    s.onPort (fun s =>
      let s1 := s.plainWrite .portCfg n a v
      s1.portDown n (if s1.portEnabled n && s1.powerState < 3 then 1 else 0))

/-- The fields of the receive shares (R404). -/
def shareFlds : List Fld :=
  [Fld.PORT_SHARE0_VC0, Fld.PORT_SHARE0_VC1, Fld.PORT_SHARE0_VC2, Fld.PORT_SHARE0_VC3, Fld.PORT_SHARE1_VC4,
    Fld.PORT_SHARE1_VC5, Fld.PORT_SHARE1_VC6, Fld.PORT_SHARE1_VC7]

/-- A write to PORT_SHARE: refused where the eight shares would add up to more than 4,096 (R404). -/
def State.writeShare (s : State) (r : RegName) (n a : Nat) (v : Word) : State :=
  let sum := (shareFlds.map (fun f => if f.reg = r then f.ofWord v else s.fld f n)).sum
  s.guardWrite (4096 < sum) r n a v

/-- A port after a write to PAUNE_ID: without ID_VALID it is DISABLED, with it an enabled port goes to DETECT (R378). -/
def State.portFollowsId (s : State) (n : Nat) : State :=
  if !s.flag Fld.PAUNE_ID_ID_VALID 0 then s.setPortState n 0
  else if s.powerState < 3 then s.enablePort n
  else s

/-- A write to PAUNE_ID: refused unless every port is DISABLED or DETECT (R388, R405). -/
def State.writePauneId (s : State) (a : Nat) (v : Word) : State :=
  if (List.range 12).any (fun n => 2 ≤ s.portState n) then s.regFault a
  else (List.range 12).foldl State.portFollowsId (s.plainWrite .pauneId 0 a v)

/-- Would a write to ROUTE_DIM make SX · SY · SZ exceed 65,536 (R405)? -/
def badDim (v : Word) : Bool :=
  65536 < (Fld.ROUTE_DIM_SX_M1.ofWord v + 1) * (Fld.ROUTE_DIM_SY_M1.ofWord v + 1) * (Fld.ROUTE_DIM_SZ_M1.ofWord v + 1)

/-- A write to CLK_CFG: refused while a program is launched; the mode follows (R488, R498). -/
def State.writeClkCfg (s : State) (a : Nat) (v : Word) : State :=
  if s.launched then s.regFault a
  else
    let s1 := s.plainWrite .clkCfg 0 a v
    let s2 := s1.setFld Fld.CLK_STATUS_MODE 0 (s1.fld Fld.CLK_CFG_MODE 0)
    if s2.flag Fld.CLK_STATUS_MODE 0 then s2 else s2.setFld Fld.CLK_STATUS_FSTEP 0 16

/-- A write to POWER_CTRL: a state, and a measurement (R506, R512). -/
def State.writePowerCtrl (s : State) (v : Word) : State :=
  let s1 := match Fld.POWER_CTRL_TARGET.ofWord v with
    | 1 => s.wakeUp 1
    | 2 => s.powerDoze
    | 3 => s.powerPark
    | _ => s
  if Fld.POWER_CTRL_MEASURE.ofWord v = 1 then s1.startMeasure else s1

/-- A write to BIST_CFG: refused while a test runs, and with FUSE_POLICY = 1 while service access is closed (R541, R556). -/
def State.writeBistCfg (s : State) (a : Nat) (v : Word) : State :=
  s.guardWrite (!s.tests.isEmpty || s.bist.isSome ||
    (Fld.BIST_CFG_FUSE_POLICY.ofWord v = 1 && !s.flag Fld.SERVICE_CTRL_OPEN 0)) .bistCfg 0 a v

/-- A write to OWNER_FUSE_CTRL (R556, R558): whether the fuses then verify is a free value. -/
def State.writeFuseCtrl (s : State) (a : Nat) (v : Word) : State :=
  let slot := Fld.OWNER_FUSE_CTRL_SLOT.ofWord v
  let x := s.fresh
  let ok := x.1.getLsbD 0
  if !s.flag Fld.SERVICE_CTRL_OPEN 0 then s.regFault a
  else match Fld.OWNER_FUSE_CTRL_OP.ofWord v with
    | 0 => s
    | 1 => x.2.enrolSlot slot ok
    | 2 => x.2.revokeSlot slot ok
    | 3 => x.2.writePassword ok
    | 4 => x.2.writeDebugKey ok
    | _ => s.regFault a

/-- A write to UNIT_REPAIR of arch `i`: only while the pier is fenced with its compute powered, with service access open, and for at
most two failed units (R103, R109, R556). -/
def State.writeUnitRepair (s : State) (i a : Nat) (v : Word) : State :=
  let w := regWriteWord .unitRepair (s.reg .unitRepair i) v
  if !s.flag Fld.SERVICE_CTRL_OPEN 0 || !s.fenced.any (fun p => p.val = i / 4) then s.regFault a
  else if 2 < (failedUnits w.1).length then
    (s.regFault a).flagEvent Fld.ARCH_ERR_UNIT_MAP_INVALID i .unitMapInvalid 1 (i / 4) (i % 4 * 2 ^ 48)
  else (s.plainWrite .unitRepair i a v).journalise (.unitRepair i w.1)

/-- The SEQ of the header of a slot as host memory holds it (R449). -/
def State.headerSeq (s : State) (k : Nat) : Nat := s.leAt (s.slotBase k + 8) 2

/-- A header read that completes other than OK: MAILBOX_FAULT; the slot waits for its next invalidation (R460, R480). -/
def State.headerFault (s : State) (k : Nat) : State :=
  (s.setMail k { s.mailSlot k with shared := false, notified := false, again := false }).flagEvent Fld.JW_ERR_MAILBOX_FAULT 0
    .mailboxFault 5 k k

/-- The STATUS of the read of the header of slot `k`, where it is not OK. -/
def headerStatus (faults : List (MailIx × Fin 4)) (k : Nat) : Option Nat :=
  (faults.find? (fun e => e.1.val = k && e.2 != 0)).map (fun e => e.2.val)

/-- The read of a header completes with a STATUS other than OK: with POISON, HOST_POISON is set too (R442, R460). -/
def State.headerRead (s : State) (k status : Nat) : State :=
  (if status = 1 then s.jwPoison (s.slotBase k) else s).headerFault k

/-- The mailbox is enabled: every header is read shared, and its SEQ counts as seen (R446); while the link is not ACTIVE the read is still
to come. `faults` are the slots whose read completes other than OK. -/
def State.shareHeader (faults : List (MailIx × Fin 4)) (s : State) (k : Nat) : State :=
  let x := { s.mailSlot k with shared := false, notified := false, again := false, known := false }
  if !s.jwActive then s.setMail k { x with due := true }
  else
    let s1 := (s.setMail k { x with due := false }).jwRead (s.slotBase k) 64 true
    match headerStatus faults k with
    | some c => s1.headerRead k c
    | none => s1.setMail k { s1.mailSlot k with seen := s.headerSeq k, shared := true, known := true }

/-- The shared line of a slot is released (R448). -/
def State.releaseHeader (s : State) (k : Nat) : State :=
  s.setMail k { s.mailSlot k with shared := false, notified := false, again := false, due := false }

/-- The address of MAILBOX_CFG (R459). -/
def mailboxCfgAddr : Nat := 0x020100C00018

/-- A write to MAILBOX_CFG (R446, R448): one that changes BASE while ENABLE = 1 is discarded. A session is open only after a HELLO
since ENABLE was set (R456). -/
def State.mailboxWrite (s : State) (v : Word) (faults : List (MailIx × Fin 4)) : State :=
  let on := s.flag Fld.MAILBOX_CFG_ENABLE 0
  if on && Fld.MAILBOX_CFG_BASE.ofWord v != s.fld Fld.MAILBOX_CFG_BASE 0 then s.regFault mailboxCfgAddr
  else
    let s1 := s.plainWrite .mailboxCfg 0 mailboxCfgAddr v
    let now := s1.flag Fld.MAILBOX_CFG_ENABLE 0
    if !on && now then (List.range 64).foldl (State.shareHeader faults) (s1.setFld Fld.CMD_STATUS_SESSION 0 0)
    else if on && !now then (List.range 64).foldl State.releaseHeader s1
    else s1

/-- A write to word 0 of a stream descriptor: a GANG_POS that is not below the GANG in force after the write is a reserved encoding, and
the field keeps its value (R17, R216). -/
def State.writeStream0 (s : State) (no : Bool) (i a : Nat) (v : Word) : State :=
  let w := (regWriteWord .streamDesc0 (s.reg .streamDesc0 i) v).1
  if !no && Fld.STREAM_DESC0_GANG.ofWord w ≤ Fld.STREAM_DESC0_GANG_POS.ofWord v then
    let kept := Fld.STREAM_DESC0_GANG_POS.place v (s.fld Fld.STREAM_DESC0_GANG_POS i)
    (s.setReg .streamDesc0 i (regWriteWord .streamDesc0 (s.reg .streamDesc0 i) kept).1).regFault a
  else s.guardWrite no .streamDesc0 i a v

/-- A write to a listed register. -/
def State.writeListed (s : State) (r : RegName) (i a : Nat) (v : Word) : State :=
  match r with
  | .archCfg => s.guardWrite (s.programOn (i / 4)) r i a v
  | .deckArbCfg => s.guardWrite (s.programOn i) r i a v
  | .approachCfg => s.guardWrite (s.programOn i) r i a v
  | .regionDesc => s.guardWrite (s.programOn (i / 64) || badRegion v) r i a v
  | .streamDesc0 => s.writeStream0 (s.programOn (i / 16)) i a v
  | .streamDesc1 => s.guardWrite (s.programOn (i / 16)) r i a v
  | .streamDesc2 => s.guardWrite (s.programOn (i / 16)) r i a v
  | .streamDesc3 => s.guardWrite (s.programOn (i / 16)) r i a v
  | .streamDesc4 => s.guardWrite (s.programOn (i / 16)) r i a v
  | .streamDesc5 => s.guardWrite (s.programOn (i / 16)) r i a v
  | .streamDesc6 => s.guardWrite (s.programOn (i / 16)) r i a v
  | .streamDesc7 => s.guardWrite (s.programOn (i / 16)) r i a v
  | .copyDesc0 => s.guardWrite (s.programOn (i / 8)) r i a v
  | .copyDesc1 => s.guardWrite (s.programOn (i / 8)) r i a v
  | .copyDesc2 => s.guardWrite (s.programOn (i / 8)) r i a v
  | .copyDesc3 => s.guardWrite (s.programOn (i / 8)) r i a v
  | .copyDesc4 => s.guardWrite (s.programOn (i / 8)) r i a v
  | .copyDesc5 => s.guardWrite (s.programOn (i / 8)) r i a v
  | .copyDesc6 => s.guardWrite (s.programOn (i / 8)) r i a v
  | .copyDesc7 => s.guardWrite (s.programOn (i / 8)) r i a v
  | .deckErr => s.writeDeckErr i a v
  | .gateCfg => s.writeGateCfg i a v
  | .gateTemp => s.guardWrite s.launched r i a v
  | .gateErrCount => s.guardWrite s.launched r i a v
  | .watchCount => s.guardWrite s.launched r i a v
  | .repairCtrl =>
    s.askRepair i ⟨Fld.REPAIR_CTRL_OP.ofWord v, Fld.REPAIR_CTRL_CHANNEL.ofWord v, Fld.REPAIR_CTRL_BANK.ofWord v,
      Fld.REPAIR_CTRL_ROW.ofWord v⟩ a
  | .watchSel => s.watchSel i (Fld.WATCH_SEL_INDEX.ofWord v)
  | .parapetSel => s.parapetSel (Fld.PARAPET_SEL_INDEX.ofWord v)
  | .portCfg => s.writePortCfg i a v
  | .portShare0 => s.writeShare r i a v
  | .portShare1 => s.writeShare r i a v
  | .pauneId => s.writePauneId a v
  | .routeDim => s.guardWrite (badDim v) r i a v
  | .mailboxCfg => s.mailboxWrite v []
  | .clkCfg => s.writeClkCfg a v
  | .powerCtrl => s.writePowerCtrl v
  | .bistCfg => s.writeBistCfg a v
  | .serviceCtrl => if Fld.SERVICE_CTRL_CLOSE.ofWord v = 1 then s.closeService else s
  | .ownerFuseCtrl => s.writeFuseCtrl a v
  | .unitRepair => s.writeUnitRepair i a v
  | _ => s.plainWrite r i a v

/-- A 64-bit write at an aligned address of the register range (R12, R15-R17, R575). A register of a pier whose compute is powered down
is a hole, UNIT_REPAIR among them (R12, R103, R106; DEDUCED, log 136). -/
def State.regWrite (s : State) (a : Nat) (v : Word) : State :=
  match regAt a with
  | .hole => s.unmapped a
  | .reserved pier => if !s.pierUp pier then s.unmapped a else if v = 0 then s else s.regFault a
  | .listed r i pier => if !s.pierUp pier || firmwareOnly r then s.unmapped a else s.writeListed r i a v

/-- Can registers be reached: the tollhouse or its boot ROM runs (R481, R497, R570)? -/
def State.regsUp (s : State) : Bool := s.tollUp || s.phase = .noImage

/-- Is a location of the register range treated as a hole (R12, R481, R575)? -/
def State.regHole (s : State) (a : Nat) : Bool :=
  match regAt a with
  | .hole => true
  | .reserved pier => !s.pierUp pier
  | .listed r _ pier => !s.pierUp pier || firmwareOnly r

/-- A register access of another width or alignment (R14), in a hole as in R12. -/
def State.badWidth (s : State) (a : Nat) : State := if s.regHole (a / 8 * 8) then s.unmapped a else s.regFault a

/-- A register write as it arrives at the tollhouse: one that is not aligned is discarded (R12, R14). -/
def State.softWrite (s : State) (a : Nat) (v : Word) : State :=
  if !s.regsUp then s else if a % 8 != 0 then s.badWidth a else s.regWrite a v

/-- REG_WRITE: a 64-bit write to a register (R14-R17). -/
def execRegWrite (addr : Nat) (value : Word) (s : State) : Host.Outcome State Fault Refusal := .next (s.softWrite addr value)

/-- The address of UNIT_REPAIR of an arch (R106). -/
def unitRepairAddr (p : PierIx) (a : ArchIx) : Nat := 0x020000000000 + p.val * 0x1000000 + 0x80000 + a.val * 0x1000 + 0x10

/-- UNIT_REPAIR_WRITE: a write to UNIT_REPAIR of an arch (R103). -/
def execUnitRepairWrite (p : PierIx) (a : ArchIx) (value : Word) (s : State) : Host.Outcome State Fault Refusal :=
  .next (s.softWrite (unitRepairAddr p a) value)

/-- PARAPET_SEL: a write to PARAPET_SEL with an INDEX (R373). -/
def execParapetSel (index : Fin 1024) (s : State) : Host.Outcome State Fault Refusal :=
  .next (if s.regsUp then s.parapetSel index.val else s)

/-- The address of PORT_CFG of a port (R403). -/
def portCfgAddr (n : PortIx) : Nat := 0x020100900000 + n.val * 0x1000

/-- PORT_ROLE_WRITE: a write to PORT_CFG of a port (R386). -/
def execPortRoleWrite (n : PortIx) (value : Word) (s : State) : Host.Outcome State Fault Refusal :=
  .next (s.softWrite (portCfgAddr n) value)

/-- The address of PAUNE_ID (R403). -/
def pauneIdAddr : Nat := 0x020100A00000

/-- PAUNE_ID_WRITE: a write to PAUNE_ID (R378, R405). -/
def execPauneIdWrite (value : Word) (s : State) : Host.Outcome State Fault Refusal := .next (s.softWrite pauneIdAddr value)

/-- MAILBOX_ENABLE: a write to MAILBOX_CFG that sets ENABLE; `faults` are the slots whose header read completes other than OK
(R446). -/
def execMailboxEnable (value : Word) (faults : List (MailIx × Fin 4)) (s : State) : Host.Outcome State Fault Refusal :=
  .next (if s.regsUp then s.mailboxWrite value faults else s)

/-- MAILBOX_DISABLE: a write to MAILBOX_CFG that clears ENABLE (R448). -/
def execMailboxDisable (value : Word) (s : State) : Host.Outcome State Fault Refusal := .next (s.softWrite mailboxCfgAddr value)

/-- The field of SENSE_CFG for an input, and the effect of a change of the input's filtered level (R474). -/
def senseLen (i : Nat) : Fld :=
  match i with
  | 0 => Fld.SENSE_CFG_N_RESET
  | 1 => Fld.SENSE_CFG_N_ALIVE
  | 2 => Fld.SENSE_CFG_N_THERM
  | _ => Fld.SENSE_CFG_N_SUPPLY

/-- The filtered level of an input changes to `v` (R474); `mv` is the supply input in millivolts. -/
def State.senseChange (s : State) (i : Nat) (v : Bool) (mv : Nat) : State :=
  match i, v with
  | 0, false => s.moduleReset
  | 1, false => s.aliveLow
  | 1, true => s.aliveHigh
  | 2, false => s.alertOn
  | 2, true => s.alertOff
  | 3, true => s.braceEnter mv
  | 4, true => s.supplyReset
  | 5, true => s.recoveryLevel
  | 5, false => s.recoveryBreak
  | _, _ => s.setSense i v

/-- An input whose raw level has differed from its filtered level for `n` sense cycles: at or above the new N the filtered level
changes (R476). -/
def State.heldInput (mv : Nat) (s : State) (e : Fin 6 × Nat) : State :=
  if s.fld (senseLen e.1.val) 0 ≤ e.2 then s.senseChange e.1.val (!s.sensed e.1.val) mv else s

/-- The address of SENSE_CFG (R481). -/
def senseCfgAddr : Nat := 0x020100D00040

/-- SENSE_CFG_WRITE: a write to SENSE_CFG; `held` are the inputs part-way through filtering with the cycles that they have held
(R476). -/
def execSenseCfgWrite (value : Word) (held : List (Fin 6 × Nat)) (mv : Nat) (s : State) : Host.Outcome State Fault Refusal :=
  .next (if s.regsUp then held.foldl (State.heldInput mv) (s.softWrite senseCfgAddr value) else s)

end Sys2Proof.Machine
end

