-- ==== Sys2Proof/Machine/Juwire.lean ====
section
/-! DEFINITION. Juwire: host requests to device space (R439-R443), completions of the device's writes (R442, R451), the link going
down and coming up (R437, R444), and invalidations (R440, R446, R466). -/
namespace Sys2Proof.Machine

/-- Is an address in the register range (R10)? -/
def regRange (a : Nat) : Bool := 0x020000000000 ≤ a && a < 0x030000000000

/-- The pier in whose deck-store window `n` bytes at `a` lie, all in its data area or all in its side store (R11). -/
def deckRun (a n : Nat) : Option Nat :=
  let k := (a - 0x010000000000) % 0x1000000
  if a < 0x010000000000 || 0x010088000000 ≤ a then none
  else if k + n ≤ 0x800000 || (0xC00000 ≤ k && k + n ≤ 0xC40000) then some ((a - 0x010000000000) / 0x1000000)
  else none

/-- Is the deck store of a pier reached through its window: the pier is admitted and powered (R12)? -/
def State.deckUp (s : State) (p : Nat) : Bool :=
  s.phase = .released && s.powerState ≤ 1 && s.admitted.any (fun q => q.val = p)

/-- Where a host access lands (R10). One that touches a hole is taken as a hole whole (log 40). -/
inductive HostPlace where
  | onModule
  | deck
  | regs
  | hole
deriving DecidableEq, Repr

/-- The place of `n` bytes at `a` (R10-R12, R260). -/
def State.hostPlace (s : State) (a n : Nat) : HostPlace :=
  if a + n ≤ tollhouseBlock then .onModule
  else if regRange a then .regs
  else if (deckRun a n).any s.deckUp then .deck
  else .hole

/-- Does a gate serve data bursts: it is ready or throttled, and holds nothing for a firmware update (R231, R244, R248)? -/
def State.gateServes (s : State) (g : Nat) : Bool :=
  (s.fld Fld.GATE_STATUS_STATE g = 2 || s.fld Fld.GATE_STATUS_STATE g = 3) && !s.flag Fld.GATE_STATUS_FW_UPDATE g

/-- Do all gates serve that hold a part of `n` bytes at `a`? -/
def State.rangeServed (s : State) (a n : Nat) : Bool := (granulesOf a n).all (fun e => s.gateServes (s.place e.1).gate)

/-- The CPL of a host request (R442). -/
def State.jwReply (s : State) (tag status : Nat) (data : List Byte) : State := s.send (.jwCpl tag status data)

/-- The bytes that an access that finds nothing returns (R12). -/
def ones (n : Nat) : List Byte := List.replicate n 0xFF

/-- The admitted pier in whose deck-store window bytes lie (R11). -/
def State.deckPier (s : State) (a n : Nat) : Option PierIx := (deckRun a n).bind (fun p => s.admitted.find? (fun q => q.val = p))

/-- ECC of the deck-store words that a host read takes (R162). -/
def State.eccHost (s : State) (a n : Nat) : State :=
  match s.deckPier a n with
  | some p => s.eccWindow p a n
  | none => s

/-- A host access comes to the ports of the deck store as unscheduled traffic of requester 0 (R163, R164). -/
def State.deckAccess (s : State) (a n : Nat) : State :=
  match s.deckPier a n with
  | some p => s.revokes p
  | none => s

/-- A host read of `n` bytes at `a`, where nothing holds it (R442). -/
def State.hostRead (s : State) (tag a n : Nat) (u : Upset) : State :=
  match s.hostPlace a n with
  | .onModule =>
    let x := s.gateRead 0 a n u
    x.2.jwReply tag (if x.1 then 1 else 0) (if x.1 then List.replicate n 0 else x.2.bytes a n)
  | .deck => ((s.deckAccess a n).eccHost a n).jwReply tag 0 (s.bytes a n)
  | .regs =>
    if n = 8 && a % 8 = 0 then
      let x := s.regRead a
      x.2.jwReply tag 0 (leBytes 8 x.1.toNat)
    else (s.badWidth a).jwReply tag 0 (ones n)
  | .hole => (s.unmapped a).jwReply tag 0 (ones n)

/-- A host write of bytes at `a`, where nothing holds it: it completes as R225 says, or with a register once it has taken effect
(R442). A write to a deck-store window changes contents alone (R171). -/
def State.hostWrite (s : State) (tag a : Nat) (bs : List Byte) (u : Upset) : State :=
  match s.hostPlace a bs.length with
  | .onModule =>
    let x := s.gateWrite (.host tag) 1 a bs false u
    x.2.finishWrite (.host tag) (.jwCpl tag (if x.1 then 1 else 0) [])
  | .deck => ((s.deckAccess a bs.length).writeBytes a bs).jwReply tag 0 []
  | .regs =>
    if bs.length = 8 && a % 8 = 0 then (s.regWrite a (BitVec.ofNat 64 (leNat bs))).jwReply tag 0 []
    else (s.badWidth a).jwReply tag 0 []
  | .hole => (s.unmapped a).jwReply tag 0 []

/-- A host request waits (R231, R442). -/
def State.holdHost (s : State) (q : Instr) : State := { s with hostWaits := s.hostWaits ++ [.request q] }

/-- A host request to device space (R439, R442): unsupported, or held where its gates do not serve or the wake from park that it asks
for must wait (R501, R514) or behind one to the same block that waits (R224, R443), or performed by `run`. Its flits take the link out of
the low-power substate (R514). -/
def State.hostRequest (s0 : State) (q : Instr) (tag a n : Nat) (bad : Bool) (run : State → State) : State :=
  if s0.jwRecovering then s0.holdHost q
  else if !s0.jwActive || !s0.tollUp then s0
  else
    let s := { s0 with jwAsleep := false }
    if bad || n = 0 || 4096 < n || hostBase ≤ a then s.jwReply tag 2 []
    else
      let s1 := if 3 ≤ s.powerState && !regRange a then s.wakeUp 3 else s
      if 3 ≤ s1.powerState && !regRange a then s1.holdHost q
      else if (s1.hostPlace a n = .onModule && !s1.rangeServed a n) || s1.behindWaits a n then s1.holdHost q
      else run s1

/-- A host read request. -/
def State.jwRd (s : State) (tag a n : Nat) (bad : Bool) (u : Upset) : State :=
  s.hostRequest (.jwRd tag a n bad u) tag a n bad (fun s => s.hostRead tag a n u)

/-- JW_RD. -/
def execJwRd (tag addr len : Nat) (bad : Bool) (upset : Option (Nat × Nat)) (s : State) : Host.Outcome State Fault Refusal :=
  .next (s.jwRd tag addr len bad upset)

/-- A host write request. -/
def State.jwWr (s : State) (tag a : Nat) (bs : List Byte) (bad : Bool) (u : Upset) : State :=
  s.hostRequest (.jwWr tag a bs bad u) tag a bs.length bad (fun s => s.hostWrite tag a bs u)

/-- JW_WR. -/
def execJwWr (tag addr : Nat) (data : List Byte) (bad : Bool) (upset : Option (Nat × Nat)) (s : State) :
    Host.Outcome State Fault Refusal := .next (s.jwWr tag addr data bad upset)

/-- Does a waiting host request have a tag? -/
def waitsAs (tag : Nat) (q : Waiting) : Bool :=
  match q with
  | .request (.jwRd t ..) => t = tag
  | .request (.jwWr t ..) => t = tag
  | _ => false

/-- The write of an aborted request that has been performed all the same (R442). -/
def State.abortWrite (s : State) (q : Waiting) : State :=
  match q with
  | .request (.jwWr tag a bs _ u) => if s.hostPlace a bs.length = .onModule then (s.gateWrite (.host tag) 1 a bs false u).2 else s
  | _ => s

/-- A host request has had no result within 1 ms: ABORT; with `done` its write has been performed (R442). -/
def State.hostAbort (s : State) (tag : Nat) (done : Bool) : State :=
  match s.hostWaits.find? (waitsAs tag) with
  | some q =>
    let s1 := { s with hostWaits := s.hostWaits.erase q }
    (if done then s1.abortWrite q else s1).jwReply tag 3 []
  | none =>
    if s.openWrites.any (fun e => e.1 = Writer.host tag) then
      { s with openWrites := s.openWrites.filter (fun e => e.1 != Writer.host tag) }.jwReply tag 3 []
    else s

/-- HOST_REQUEST_ABORT. -/
def execHostRequestAbort (tag : Nat) (done : Bool) (s : State) : Host.Outcome State Fault Refusal :=
  .next (s.hostAbort tag done)

/-- The host physical address and the data of the device write with a tag, as it was sent last. -/
def sentWrite (tag : Nat) : OutMsg → Option (Nat × List Byte)
  | .jwWrite t a bs => if t = tag then some (a, bs) else none
  | _ => none

/-- The last replies before a warm reset are complete: it comes 10 µs later (R454). -/
def State.checkWarm (s : State) : State :=
  match s.warmReset with
  | some w =>
    if w.due.isNone && w.slots.all (fun k => (s.mailSlot k).written) then
      { s with warmReset := some { w with due := some (s.now + 1000) } }
    else s
  | none => s

/-- A device write is complete: a status reply is written (R451), a record is (R467). -/
def State.jwComplete (s : State) (tag : Nat) (k : JwKind) : State :=
  let s1 := { s with jwBusy := s.jwBusy.filter (fun e => e.1 != tag) }
  (match k with
  | .reply n =>
    if s1.jwBusy.any (fun e => e.2 = JwKind.reply n) || s1.jwHeld.any (fun e => e.1 = JwKind.reply n) then s1
    else (s1.setMail n { s1.mailSlot n with written := true }).checkWarm
  | .record => s.recordDone
  | _ => s1).pumpHeld

/-- A device write that is lost is sent again under a new tag (R442). -/
def State.jwResend (s : State) (tag : Nat) (k : JwKind) : State :=
  match s.outbox.findSome? (sentWrite tag) with
  | some (a, bs) =>
    { s.send (.jwWrite s.jwTag a bs) with
      jwBusy := s.jwBusy.map (fun e => if e.1 = tag then (s.jwTag, k) else e)
      jwTag := (s.jwTag + 1) % 65536 }
  | none => s

/-- A completion of a device request arrives (R442): one that answers no request, or has a reserved field set, is discarded
(R439); in RECOVERY its flit is kept (R444). -/
def State.jwCpl (s : State) (tag status : Nat) (bad : Bool) : State :=
  if s.jwRecovering then s.holdHost (.jwCpl tag ⟨Fin.ofNat 4 status, bad⟩)
  else
    match s.jwBusy.find? (fun e => e.1 = tag) with
    | none => s
    | some (_, k) =>
      if !s.jwActive || bad then s
      else if status = 0 then s.jwComplete tag k
      else if status = 1 then
        (s.jwPoison (((s.outbox.findSome? (sentWrite tag)).map (fun e => e.1 + hostBase)).getD 0)).jwComplete tag k
      else s.jwResend tag k

/-- JW_CPL. -/
def execJwCpl (tag : Nat) (cpl : HostCpl) (s : State) : Host.Outcome State Fault Refusal :=
  .next (s.jwCpl tag cpl.status.val cpl.bad)

/-- The writes that the host has made to its own memory (log 41). -/
def State.hostWrites (s : State) (ws : List (Nat × List Byte)) : State :=
  ws.foldl (fun s e => if hostBase ≤ e.1 then s.writeBytes e.1 e.2 else s) s

/-- A slot that is notified takes its turn, after the others that are (R446). -/
def State.inTurn (s : State) (k : Nat) : State :=
  if (s.mailSlot k).notified && s.mailOrder.contains k then s
  else { s with mailOrder := s.mailOrder.filter (fun j => j != k) ++ [k] }

/-- A header line of the mailbox is invalidated: the slot is notified, in its turn, and an invalidation while its packet runs is noted
(R446, R447). In park it wakes the module (R514). -/
def State.notifySlot (s : State) (k : Nat) : State :=
  let x := s.mailSlot k
  let s1 := (s.inTurn k).setMail k { x with shared := false, notified := true, again := x.again || x.running.isSome }
  if 3 ≤ s1.powerState then s1.wakeUp 3 else s1

/-- The host invalidates a line: SNP_ACK, and the line is read again if the module has use for it (R440, R446, R466). A malformed
message is discarded (R439), and in RECOVERY its flit is kept (R444). -/
def State.snpInv (s : State) (l : SnpLine) (ws : List (Nat × List Byte)) : State :=
  if s.jwRecovering then s.holdHost (.snpInv l ws)
  else if !s.jwActive || l.bad || l.addr % 64 != 0 then s
  else
    let s1 := { (s.hostWrites ws).send (.snpAck l.tag l.addr) with jwAsleep := false }
    let a := l.addr + hostBase
    let s2 := if s1.flag Fld.EVT_STATUS_QUEUE_VALID 0 && a = s1.queue.headLine then s1.readHead l.status else s1
    match (List.range 64).find? (fun k => a = s2.slotBase k) with
    | some k => if s2.flag Fld.MAILBOX_CFG_ENABLE 0 then s2.notifySlot k else s2
    | none => s2

/-- SNP_INV. -/
def execSnpInv (line : SnpLine) (writes : List (Nat × List Byte)) (s : State) : Host.Outcome State Fault Refusal :=
  .next (s.snpInv line writes)

/-- An access that waits is tried again. -/
def State.retryOne (s : State) (q : Waiting) : State :=
  match q with
  | .remote w => s.retryRemote w
  | .request (.jwRd tag a n bad u) => s.jwRd tag a n bad u
  | .request (.jwWr tag a bs bad u) => s.jwWr tag a bs bad u
  | .request (.gateAccess cls a n data poison u) => s.gateAccess cls a n data poison u
  | .request (.jwCpl tag cpl) => s.jwCpl tag cpl.status.val cpl.bad
  | .request (.snpInv line writes) => s.snpInv line writes
  | .request _ => s

/-- The accesses that wait are tried again, the oldest first, so that each comes after those that were before it (R224). -/
def State.retryHost (s : State) : State := s.hostWaits.foldl State.retryOne { s with hostWaits := [] }

/-- A device request that the loss of the link leaves to be sent again: an interrupt; replies are kept in their slots (R451). -/
def keepMsi (e : Nat × JwKind) : Bool := e.2 = JwKind.msi

/-- What the flits of the link have met is counted (R460). The table has no row for a flit of Juwire (R437; log 116). -/
def State.countJw (s : State) (crcErrors retries recoveries : Nat) : State :=
  ((s.bump Fld.JW_COUNT_CRC_ERRORS 0 crcErrors).bump Fld.JW_COUNT_RETRIES 0 retries).bump Fld.JW_COUNT_RECOVERIES 0 recoveries

/-- The states of the link with its lanes, its width and its version (R378, R460). -/
def State.setJw (s : State) (state width version : Nat) (lanes : BitVec 32) : State :=
  (((s.setFld Fld.JW_STATUS_STATE 0 state).setFld Fld.JW_STATUS_WIDTH 0 width).setFld Fld.JW_STATUS_VERSION 0 version).setFld
    Fld.JW_STATUS_LANE_LOCK 0 lanes.toNat

/-- The link goes to DETECT: from ACTIVE or RECOVERY every request outstanding on it is lost (R444), from a state of training nothing is. -/
def State.jwDown (s : State) : State :=
  if s.jwActive || s.jwRecovering then
    let s1 := s.setJw 1 0 0 0
    let s2 := { s1 with
      jwBusy := s1.jwBusy.filter keepMsi
      jwHeld := []
      recordOut := false
      hostWaits := s1.hostWaits.filter (fun q => !q.ofHost)
      openWrites := s1.openWrites.filter (fun e => match e.1 with
        | .host _ => false
        | _ => true) }
    s2.flagEvent Fld.JW_ERR_JUWIRE_DOWN 0 .juwireDown 4 0 0
  else if 2 ≤ s.fld Fld.JW_STATUS_STATE 0 then s.setJw 1 0 0 0
  else s

/-- The link goes to RECOVERY: every flit is kept (R444). -/
def State.jwRecover (s : State) : State :=
  if s.jwActive then (s.countJw 0 0 1).setFld Fld.JW_STATUS_STATE 0 6 else s

/-- The counts of the link, and where it goes. -/
def State.jwFall (s : State) (crcErrors retries : Nat) (r : JwRecoveries) : State :=
  let s1 := s.countJw crcErrors retries r.count
  match r.fall with
  | .detect => s1.jwDown
  | .recovery => s1.jwRecover
  | .stays => s1

/-- JW_LINK_DOWN. -/
def execJwLinkDown (crcErrors retries : Nat) (recoveries : JwRecoveries) (s : State) : Host.Outcome State Fault Refusal :=
  .next (s.jwFall crcErrors retries recoveries)

/-- The width of a link whose lanes have locked at both ends: all 32, or 16 (R437). -/
def jwWidth (lanes : BitVec 32) : Option Bool :=
  if lanes = BitVec.allOnes 32 then some false
  else if lanes.extractLsb' 0 16 = BitVec.allOnes 16 || lanes.extractLsb' 16 16 = BitVec.allOnes 16 then some true
  else none

/-- A header is read again after the link has come up: a SEQ that has changed notifies the slot (R444); a slot of which no SEQ has been seen
since ENABLE was set takes it as seen (R446). -/
def State.rereadHeader (faults : List (MailIx × Fin 4)) (s0 : State) (k : Nat) : State :=
  let s := (s0.setMail k { s0.mailSlot k with due := false }).jwRead (s0.slotBase k) 64 true
  let x := s.mailSlot k
  match headerStatus faults k with
  | some c => s.headerRead k c
  | none =>
    if !x.known then s.setMail k { x with seen := s.headerSeq k, shared := true, notified := false, known := true }
    else if s.headerSeq k != x.seen then
      (s.inTurn k).setMail k { x with shared := true, notified := true, again := x.again || x.running.isSome }
    else s.setMail k { x with shared := true }

/-- A reply that has not been written is written again (R451). -/
def State.resendReply (s : State) (k : Nat) : State := if (s.mailSlot k).written then s else s.sendReply k

/-- The interrupts that were lost with the link are sent again. -/
def State.resendMsi (s : State) : State :=
  (s.jwBusy.filter keepMsi).foldl (fun s _ => s.jwWrite .msi s.queue.msiAddr (leBytes 4 s.queue.msiData))
    { s with jwBusy := s.jwBusy.filter (fun e => !keepMsi e) }

/-- The head line is read again where a queue is named (R444, R466). -/
def State.rereadHead (s : State) (status : Fin 4) : State :=
  if s.flag Fld.EVT_STATUS_QUEUE_VALID 0 then s.readHead status else s

/-- How far a link comes that trains with these lanes and the host's version range (R378, R437; log 116): without a lane it stays in TRAIN
(2), with too few in ALIGN (3), and without a common version in EXCHANGE (4); otherwise it is ACTIVE (5). -/
def jwReaches (lanes : BitVec 32) (verMin verMax : Nat) : Nat :=
  if lanes = 0 then 2 else if (jwWidth lanes).isNone then 3 else if 1 < verMin || verMax < 1 then 4 else 5

/-- The link is ACTIVE again with its lanes in lock (R437, R444). From DETECT, headers and head line are read again, and what was lost is
sent again. From RECOVERY nothing is lost: only a header that ENABLE has left to be read is read, and the messages that were kept
arrive. -/
def State.jwUp (s : State) (lanes : BitVec 32) (reads : LineReads) : State :=
  let narrow := (jwWidth lanes).getD false
  let s1 := s.setJw 5 narrow.toNat 1 lanes
  let s2 := if narrow then s1.flagEvent Fld.JW_ERR_JUWIRE_DEGRADED 0 .juwireDegraded 4 0 0 else s1
  let ks := (List.range 64).filter (fun k => !s.jwRecovering || (s.mailSlot k).due)
  let s3 := if s2.flag Fld.MAILBOX_CFG_ENABLE 0 then ks.foldl (State.rereadHeader reads.headers) s2 else s2
  if s.jwRecovering then s3.pumpQueue.retryHost
  else (((List.range 64).foldl State.resendReply s3).resendMsi.rereadHead reads.head).pumpQueue

/-- The link trains (R378, R437): it comes up, or stays on the way; one in RECOVERY that does not come up stays in RECOVERY. -/
def State.jwTrain (s : State) (lanes : BitVec 32) (verMin verMax : Nat) (reads : LineReads) : State :=
  if s.jwActive || !s.tollUp then s
  else
    let n := jwReaches lanes verMin verMax
    if n = 5 then s.jwUp lanes reads
    else if s.jwRecovering then s
    else s.setJw n 0 0 lanes

/-- JW_LINK_UP. -/
def execJwLinkUp (lanes : BitVec 32) (verMin verMax : Nat) (reads : LineReads) (s : State) :
    Host.Outcome State Fault Refusal := .next (s.jwTrain lanes verMin verMax reads)

end Sys2Proof.Machine
end

