-- ==== Sys2Proof/Machine/Mailbox.lean ====
section
/-! DEFINITION. The acceptance of packets (R446, R449, R450), HELLO (R457, R465) and QUERY (R394, R455). -/
namespace Sys2Proof.Machine

/-- The number at byte `off` of the header of slot `k` (R449). -/
def State.header (s : State) (k off n : Nat) : Nat := s.leAt (s.slotBase k + off) n

/-- PARAM_LEN of a header. -/
def State.paramLen (s : State) (k : Nat) : Nat := s.header k 10 2

/-- The packet of slot `k` as header and parameters give it: nothing is read beyond 4,096 B of parameters (R449). -/
def State.packetOf (s : State) (k : Nat) : Packet :=
  let n := s.paramLen k
  { opcode := s.header k 2 2
    tag := s.header k 4 4
    seq := s.header k 8 2
    note := s.header k 12 1 % 2 = 1
    params := if n ≤ 4096 then s.bytes (s.slotBase k + 0x40) n else []
    begun := false
    time := s.now }

/-- Are the reserved bits of a header zero (R449)? -/
def State.headerRsv (s : State) (k : Nat) : Bool :=
  s.header k 12 1 / 2 = 0 && (s.bytes (s.slotBase k + 13) 51).all (fun b => b = 0)

/-- Does a packet run in doze without waking the module (R513)? -/
def Packet.sleeps (p : Packet) : Bool :=
  [0x0101, 0x0605, 0x0606, 0x0401].contains p.opcode || (p.opcode = 0x0102 && p.le 0 1 ≤ 1)

/-- The commands that run before release (R516): HELLO, QUERY, READ_LOG, CORRELATE_TIME and RESET. -/
def earlyOps : List Nat := [0x0101, 0x0102, 0x0605, 0x0606, 0x0801]

/-- Why a packet that passes the checks of R450 is refused all the same: before release (R516). -/
def State.tooEarly (s : State) (p : Packet) : Bool := s.phase != .released && !earlyOps.contains p.opcode

/-- Does a parapet range of a LAUNCH end beyond its object's SIZE (R455)? -/
def State.beyondSize (s : State) (p : Packet) : Bool :=
  p.opcode = 0x0203 && p.parapets.any (fun x => (s.object x.1).size < x.2.2)

/-- An accepted packet is dispatched: refused by the first check that it fails, or begun, a long command with its first reply (R450,
R451). `status` is that of the read of its parameters. -/
def State.dispatch (s : State) (k : Nat) (p : Packet) (status : Nat) : State :=
  let n := s.paramLen k
  let read := n != 0 && n ≤ 4096
  let a := s.slotBase k + 0x40
  let s0 := if read then s.jwRead a n false else s
  let s1 := if read && status = 1 then s0.jwPoison a else s0
  match s1.packetCheck k (s.header k 0 2) n (s.headerRsv k && !s.beyondSize p) (!read || status = 0) p with
  | some c => s1.refuse k c
  | none =>
    if s1.tooEarly p then s1.refuse k .wrongState
    else
      let s2 := if p.long then s1.mailReply k p 1 0 0 [] else s1
      if runningOps.contains p.opcode then s2.leaveIdle else s2

/-- A packet with a new SEQ is accepted (R446, R447). -/
def State.accept (s : State) (k : Nat) (p : Packet) (status : Nat) : State :=
  let x := s.mailSlot k
  let s1 := (s.setMail k { x with seen := p.seq, shared := true, notified := false, again := false, running := some p, known := true }).bump
    Fld.CMD_COUNT_ACCEPTED 0 1
  let s2 := { if x.again then s1.bump Fld.CMD_COUNT_SUPERSEDED 0 1 else s1 with
    cmdOrder := s.cmdOrder.filter (fun j => j != k) ++ [k] }
  (s2.countRunning).dispatch k p status

/-- The slot whose turn it is: the first that is notified and runs no packet (R446). Two SNP_INVs never arrive in one cycle (DEDUCED, log
139). -/
def State.nextSlot (s : State) : Option Nat :=
  s.mailOrder.find? (fun k => (s.mailSlot k).notified && (s.mailSlot k).running.isNone)

/-- The header of the notified slot whose turn it is is read again, and a new SEQ is accepted (R446); a command that does not run asleep
first wakes the module, and waits for that under brace (R501, R513). While a warm reset is to come no packet is accepted (log 167). -/
def State.packetAccept (s : State) (k header params : Nat) : State :=
  if !(s.flag Fld.MAILBOX_CFG_ENABLE 0 && s.jwActive && s.tollUp && s.nextSlot = some k) || s.warmReset.isSome then s
  else
    let s := s.jwRead (s.slotBase k) 64 true
    let x := s.mailSlot k
    if header != 0 then s.headerRead k header
    else
      let p := s.packetOf k
      if p.seq = x.seen then s.setMail k { x with shared := true, notified := false, again := false }
      else
        let s1 := if 2 ≤ s.powerState && !p.sleeps then s.wakeUp 2 else s
        if 2 ≤ s1.powerState && !p.sleeps then s1 else s1.accept k p params

/-- PACKET_ACCEPT. -/
def execPacketAccept (k : MailIx) (header params : Fin 4) (s : State) : Host.Outcome State Fault Refusal :=
  .next (s.packetAccept k.val header.val params.val)

/-- The base-2 logarithm of a queue size (R465). -/
def log2Of (n : Nat) : Nat := ((List.range 32).find? (fun k => 2 ^ k = n)).getD 0

/-- A record of an earlier queue that is still on its way belongs to no queue any more. -/
def dropRecord (e : Nat × JwKind) : Nat × JwKind := if e.2 = JwKind.record then (e.1, .data) else e

/-- HELLO completes: the version is agreed, the session opens, and the queue it names is in force with i = 0 (R457, R465); HEAD is
read (R466). -/
def State.openSession (s : State) (p : Packet) (head : Fin 4) : State :=
  let s1 := { (s.setFld Fld.CMD_STATUS_SESSION 0 1).setFld Fld.CMD_STATUS_VERSION 0 1 with
    queue := ⟨p.le 8 8, p.le 24 8, p.le 32 8, p.le 40 4⟩
    jwBusy := s.jwBusy.map dropRecord
    jwHeld := s.jwHeld.filter (fun e => e.1 != JwKind.record)
    recordOut := false }
  let s2 := (((s1.setFld Fld.EVT_STATUS_QUEUE_VALID 0 1).setFld Fld.EVT_STATUS_ENTRIES_LOG2 0 (log2Of (p.le 16 4))).setReg
    .evtTail 0 0).setReg .evtHead 0 0
  s2.takeHead head

/-- HELLO of the packet in slot `k` (R457): without a common version no session opens; `head` is the STATUS of the read of the head line. -/
def State.hello (s : State) (k : MailIx) (head : Fin 4) : State :=
  s.onPacket k 0x0101 (fun p =>
    if 1 < p.le 0 2 || p.le 2 2 < 1 then s.refuse k.val .badVersion
    else
      ((s.openSession p head).finish k.val .ok 0
        (leBytes 2 1 ++ leBytes 2 1 ++ leBytes 4 (s.fld Fld.BOOT_COUNT_COUNT 0) ++ s.nonceBytes)).pumpQueue)

/-- HELLO. -/
def execHello (k : HelloSlot) (s : State) : Host.Outcome State Fault Refusal := .next (s.hello k.slot k.head)

/-- The work of QUERY with a WHAT. -/
def State.onQuery (s : State) (k : MailIx) (what : Nat) (f : Packet → State) : State :=
  s.onPacket k 0x0102 (fun p => if p.le 0 1 = what then f p else s)

/-- Bytes 24 to 40 of the reply to QUERY with WHAT 0 (R455). -/
def State.summary (s : State) : List Byte :=
  leBytes 1 (s.fld Fld.DEVICE_ID_GRADE 0) ++ leBytes 1 s.admitted.length ++ leBytes 1 (s.fld Fld.SCHED_STATUS_BOUND_N 0) ++
    leBytes 1 (s.fld Fld.SCHED_STATUS_STATE 0) ++ leBytes 1 s.pairState ++
    leBytes 1 (bitsOf (fun g => 2 ≤ s.fld Fld.GATE_STATUS_STATE g && s.fld Fld.GATE_STATUS_STATE g ≤ 4) 8) ++
    leBytes 2 (s.fld Fld.TOKEN_STATUS_BUDGET_W 0) ++ leBytes 4 s.stepNo ++ leBytes 4 (s.fld Fld.FW_STATUS_VERSION 0) ++
    leBytes 1 (s.fld Fld.FW_STATUS_ACTIVE 0)

/-- QUERY_SUMMARY. -/
def execQuerySummary (k : MailIx) (s : State) : Host.Outcome State Fault Refusal :=
  .next (s.onQuery k 0 (fun _ => s.finish k.val .ok 0 s.summary))

/-- The byte of a pier in the pier map (R455). -/
def State.mapByte (s : State) (p : PierIx) : Byte :=
  if s.failed.contains p then 3 else if s.fenced.contains p then 2 else if s.admitted.contains p then 1 else 0

/-- QUERY with WHAT 1: 136 bytes to the buffer, which must hold them (log 42); `status` is that of the write. -/
def State.queryMap (s : State) (k : MailIx) (status : Fin 4) : State :=
  s.onQuery k 1 (fun p =>
    if p.le 16 4 < 136 then s.refuse k.val .badParam
    else s.finishBuffer k.val status (p.le 8 8) ((List.finRange 136).map s.mapByte) (leBytes 1 s.admitted.length))

/-- QUERY_PIER_MAP. -/
def execQueryPierMap (k : MailIx) (status : Fin 4) (s : State) : Host.Outcome State Fault Refusal := .next (s.queryMap k status)

/-- QUERY with WHAT 2: a PROBE goes to DEST (R394). -/
def State.queryProbe (s : State) (k : MailIx) : State :=
  s.onQuery k 2 (fun p =>
    if p.begun then s
    else
      let tag := s.nextRemote % 2 ^ 32
      let s1 := { s.beginPacket k.val with
        probes := s.probes ++ [(tag, k.val, s.now)]
        nextRemote := s.nextRemote + 1 }
      s1.post ⟨s1.headTo (p.le 4 2), .probe false false tag s1.now.toNat 0 []⟩)

/-- QUERY_PROBE. -/
def execQueryProbe (k : MailIx) (s : State) : Host.Outcome State Fault Refusal := .next (s.queryProbe k)

/-- No reply has come within 10 ms (R455). -/
def State.probeTimeout (s : State) (k : MailIx) : State :=
  if s.probes.any (fun e => e.2.1 = k.val) then
    { s with probes := s.probes.filter (fun e => e.2.1 != k.val) }.refuse k.val .timeout
  else s

/-- PROBE_TIMEOUT. -/
def execProbeTimeout (k : MailIx) (s : State) : Host.Outcome State Fault Refusal := .next (s.probeTimeout k)

end Sys2Proof.Machine
end

