-- ==== Sys2Proof/Machine/VecInstr.lean ====
section
/-! DEFINITION. The vector and update instructions of the V sub-slot (R146-R155, R342, R353, R362). -/
namespace Sys2Proof.Machine

/-- Issue of a vector instruction: its effect follows the count of its issue (R151). -/
def State.issueV (s : State) (failed : Bool) (i : Instr) (p : PierIx) (t : Nat) (needs : State → Needs)
    (effect : State → State) : State :=
  s.issue failed i p t needs (fun s => effect (s.vecBusy p))

/-- The rows of part `q` of a tile of a format (R147). -/
def partRows (f : Fmt) (q : Nat) : List Nat := (List.range (128 / f.cols)).map (128 / f.cols * q + ·)

/-- The effect of VLD (R146, R147). -/
def State.vldEffect (s : State) (p : PierIx) (t : Nat) (vd : VReg) (r : RegionIx) (part : Nat) (keep : Bool) (f : Fmt)
    (mask : Option MReg) : State :=
  let x := s.vecRead p t r 0 f (128 / f.cols * part) (128 / f.cols)
  let s1 := match x.1 with
    | some tile =>
      let en := x.2.enable p t mask
      en.2.writeV p t 10 vd en.1 (partLanes f tile part)
    | none => x.2
  s1.addWork (newWork p (t + 1) 1 (.readEnd r (!keep)))

/-- What a VLD needs: its tile, and the beats of its part and of the side-band. -/
def State.vldNeeds (s : State) (p : PierIx) (t : Nat) (r : RegionIx) (part : Nat) (f : Fmt) : Needs :=
  let k := s.slotOf p r (s.readIx p r 0 t)
  ⟨s.readLate p r 0 t, 24, (partRows f part).flatMap (rowBanks k) ++ [sidePort k]⟩

/-- VLD with its check. -/
def runVld (failed : Bool) (p : PierIx) (t : Nat) (vd : VReg) (r : RegionIx) (part : Nat) (keep : Bool) (f : Fmt)
    (mask : Option MReg) (s : State) : State :=
  s.issueV failed (.vld p t vd r part keep f mask) p t (fun s => s.vldNeeds p t r part f)
    (fun s => s.vldEffect p t vd r part keep f mask)

/-- VLD. -/
def execVld (p : PierIx) (t : Nat) (vd : VReg) (r : RegionIx) (part : Nat) (keep : Bool) (f : Fmt) (mask : Option MReg)
    (s : State) : Host.Outcome State Fault Refusal := .next (runVld false p t vd r part keep f mask s)

/-- The tile that VSTs build in a region; the first VST of a tile reserves its slot (R147). -/
def State.openBuild (s : State) (p : PierIx) (r : RegionIx) (f : Fmt) : Build × State :=
  match (s.pier p).build r with
  | some b => (b, s)
  | none => (⟨r, s.reserveIx p r, f, vecTile f s.stepNo⟩, s.reserve p r)

/-- Store lanes of a part: with a mask only the enabled lanes are stored, the others keep what the tile holds (R146). -/
def mergeLanes (f : Fmt) (t : Tile) (part : Nat) (en : BitVec 128) (xs : Lanes) : Lanes :=
  let old := partLanes f t part
  (List.range 128).map (fun l => if en.getLsbD l then xs.getD l 0 else old.getD l 0)

/-- The effect of VST (R147): the rows of its part are written 5 slots later, and with LAST the whole tile lands then. -/
def State.vstEffect (s : State) (p : PierIx) (t : Nat) (va : VReg) (r : RegionIx) (part : Nat) (last : Bool) (f : Fmt)
    (mask : Option MReg) : State :=
  let a := s.readV p t va
  let en := a.2.enable p t mask
  let b := en.2.openBuild p r f
  let tile := storePart f b.1.tile part (mergeLanes f b.1.tile part en.1 a.1)
  let x := b.2.pier p
  let rest := x.builds.filter (fun e => e.region != r)
  let k := b.2.slotOf p r b.1.idx
  let s1 := b.2.addWork (newWork p (t + 5) 1 (.put 4 k ((partRows f part).map (fun n => (n, tile.row n))) (putPorts k (partRows f part))))
  if last then
    (s1.setPier p { x with builds := rest }).addWork
      (newWork p (t + 5) 1 (.land r b.1.idx { tile with stepTag := BitVec.ofNat 32 s.stepNo } true))
  else s1.setPier p { x with builds := rest ++ [{ b.1 with tile := tile }] }

/-- VST with its check: the first VST of a tile needs room in its region. -/
def runVst (failed : Bool) (p : PierIx) (t : Nat) (va : VReg) (r : RegionIx) (part : Nat) (last : Bool) (f : Fmt)
    (mask : Option MReg) (s : State) : State :=
  s.issueV failed (.vst p t va r part last f mask) p t
    (fun s => Needs.item (if ((s.pier p).build r).isSome then none else s.roomLate failed p r 1 t))
    (fun s => s.vstEffect p t va r part last f mask)

/-- VST. -/
def execVst (p : PierIx) (t : Nat) (va : VReg) (r : RegionIx) (part : Nat) (last : Bool) (f : Fmt) (mask : Option MReg)
    (s : State) : Host.Outcome State Fault Refusal := .next (runVst false p t va r part last f mask s)

/-- One lane of VARITH (R71, R297); `z` is the free sign of a zero that MAX or MIN of both zeros gives. -/
def arithLane (fn : VArith) (z : Bool) (a b c : F32) : F32 :=
  match fn with
  | .add => f32Add a b
  | .sub => f32Sub a b
  | .mul => f32Mul a b
  | .fma => f32Fma a b c
  | .max => f32Max z a b
  | .min => f32Min z a b

/-- The effect of VARITH. -/
def State.varithEffect (s : State) (p : PierIx) (t : Nat) (fn : VArith) (vd va vb vc : VReg) (mask : Option MReg) :
    State :=
  let a := s.readV p t va
  let b := a.2.readV p t vb
  let c := if fn = .fma then b.2.readV p t vc else ([], b.2)
  let z := if fn = .max || fn = .min then c.2.freeBits 128 else ([], c.2)
  let en := z.2.enable p t mask
  en.2.writeV p t 4 vd en.1
    ((List.range 128).map (fun l => arithLane fn (z.1.getD l false) (a.1.getD l 0) (b.1.getD l 0) (c.1.getD l 0)))

/-- VARITH with its check. -/
def runVarith (failed : Bool) (p : PierIx) (t : Nat) (fn : VArith) (vd va vb vc : VReg) (mask : Option MReg) (s : State) :
    State :=
  s.issueV failed (.varith p t fn vd va vb vc mask) p t (fun _ => Needs.nothing) (fun s => s.varithEffect p t fn vd va vb vc mask)

/-- VARITH. -/
def execVarith (p : PierIx) (t : Nat) (fn : VArith) (vd va vb vc : VReg) (mask : Option MReg) (s : State) :
    Host.Outcome State Fault Refusal := .next (runVarith false p t fn vd va vb vc mask s)

/-- One lane of VCMP: no comparison holds of a NaN. -/
def cmpLane (fn : VCmp) (a b : F32) : Bool :=
  match fn with
  | .eq => f32Eq a b
  | .lt => f32Lt a b
  | .le => f32Lt a b || f32Eq a b

/-- A mask from its bits. -/
def maskOf (bs : List Bool) : BitVec 128 := BitVec.ofNat 128 (packCodes 1 (bs.map Bool.toNat))

/-- The effect of VCMP. -/
def State.vcmpEffect (s : State) (p : PierIx) (t : Nat) (fn : VCmp) (md : MReg) (va vb : VReg) (mask : Option MReg) :
    State :=
  let a := s.readV p t va
  let b := a.2.readV p t vb
  let en := b.2.enable p t mask
  en.2.writeM p t 4 md en.1 (maskOf ((List.range 128).map (fun l => cmpLane fn (a.1.getD l 0) (b.1.getD l 0))))

/-- VCMP with its check. -/
def runVcmp (failed : Bool) (p : PierIx) (t : Nat) (fn : VCmp) (md : MReg) (va vb : VReg) (mask : Option MReg) (s : State) :
    State :=
  s.issueV failed (.vcmp p t fn md va vb mask) p t (fun _ => Needs.nothing) (fun s => s.vcmpEffect p t fn md va vb mask)

/-- VCMP. -/
def execVcmp (p : PierIx) (t : Nat) (fn : VCmp) (md : MReg) (va vb : VReg) (mask : Option MReg) (s : State) :
    Host.Outcome State Fault Refusal := .next (runVcmp false p t fn md va vb mask s)

/-- The effect of VSEL: VA in each lane whose bit of the mask is 1, VB elsewhere (R146). -/
def State.vselEffect (s : State) (p : PierIx) (t : Nat) (vd va vb : VReg) (sel : MReg) : State :=
  let a := s.readV p t va
  let b := a.2.readV p t vb
  let m := b.2.readM p t sel
  m.2.writeV p t 4 vd (BitVec.allOnes 128)
    ((List.range 128).map (fun l => if m.1.getLsbD l then a.1.getD l 0 else b.1.getD l 0))

/-- VSEL with its check. -/
def runVsel (failed : Bool) (p : PierIx) (t : Nat) (vd va vb : VReg) (sel : MReg) (s : State) : State :=
  s.issueV failed (.vsel p t vd va vb sel) p t (fun _ => Needs.nothing) (fun s => s.vselEffect p t vd va vb sel)

/-- VSEL. -/
def execVsel (p : PierIx) (t : Nat) (vd va vb : VReg) (sel : MReg) (s : State) : Host.Outcome State Fault Refusal :=
  .next (runVsel false p t vd va vb sel s)

/-- A special function of one lane (R70). -/
def sfuLane (fn : VSfu) (x : F32) : F32 :=
  match fn with
  | .rcp => sfuRcp x
  | .exp2 => sfuExp2 x
  | .log2 => sfuLog2 x
  | .exp => sfuExp x
  | .ln => sfuLn x

/-- The effect of VSFU. -/
def State.vsfuEffect (s : State) (p : PierIx) (t : Nat) (fn : VSfu) (vd va : VReg) (mask : Option MReg) : State :=
  let a := s.readV p t va
  let en := a.2.enable p t mask
  en.2.writeV p t 15 vd en.1 (a.1.map (sfuLane fn))

/-- VSFU with its check. -/
def runVsfu (failed : Bool) (p : PierIx) (t : Nat) (fn : VSfu) (vd va : VReg) (mask : Option MReg) (s : State) : State :=
  s.issueV failed (.vsfu p t fn vd va mask) p t (fun _ => Needs.nothing) (fun s => s.vsfuEffect p t fn vd va mask)

/-- VSFU. -/
def execVsfu (p : PierIx) (t : Nat) (fn : VSfu) (vd va : VReg) (mask : Option MReg) (s : State) :
    Host.Outcome State Fault Refusal := .next (runVsfu false p t fn vd va mask s)

/-- The effect of VRED: the tree's result in lane 0 and +0 in the other lanes (R148). -/
def State.vredEffect (s : State) (p : PierIx) (t : Nat) (isMax : Bool) (vd va : VReg) (mask : Option MReg) : State :=
  let a := s.readV p t va
  let z := if isMax then a.2.freeBits 128 else ([], a.2)
  let op (k : Nat) (x y : F32) : F32 := if isMax then f32Max (z.1.getD k false) x y else f32Add x y
  let en := z.2.enable p t mask
  en.2.writeV p t 28 vd en.1 (redTree op 7 0 a.1 :: List.replicate 127 0)

/-- VRED with its check. -/
def runVred (failed : Bool) (p : PierIx) (t : Nat) (isMax : Bool) (vd va : VReg) (mask : Option MReg) (s : State) : State :=
  s.issueV failed (.vred p t isMax vd va mask) p t (fun _ => Needs.nothing) (fun s => s.vredEffect p t isMax vd va mask)

/-- VRED. -/
def execVred (p : PierIx) (t : Nat) (isMax : Bool) (vd va : VReg) (mask : Option MReg) (s : State) :
    Host.Outcome State Fault Refusal := .next (runVred false p t isMax vd va mask s)

/-- How many tiles a VTRANS reads and writes (R149). -/
def transTiles (f : Fmt) : Nat := if f = .fp32 then 2 else 1

/-- The offsets of the tiles that an instruction reads (R296). -/
def offsets (d n : Nat) (keep : Bool) : List Nat := (List.range n).map (fun j => firstOff_ d keep j)
  where
  firstOff_ (d : Nat) (keep : Bool) (j : Nat) : Nat := if keep then d + j else j

/-- The effect of VTRANS (R149): its tiles are checked, its results reserved, and its rows read from this slot on; the transpose
lands 71 slots after the issue. -/
def State.vtransEffect (s : State) (p : PierIx) (t : Nat) (src dst : RegionIx) (d : Nat) (keep : Bool) (f : Fmt) : State :=
  let os := offsets d (transTiles f) keep
  let ixs := os.map (fun o => s.readIx p src o t)
  let x := s.vecReads p t src f 0 0 os
  match x.1 with
  | some ts =>
    let outs := ts.foldl (fun (a : State × List Nat) _ => (a.1.reserve p dst, a.2 ++ [a.1.reserveIx p dst])) (x.2, [])
    outs.1.begin (nowWork p t 64 (.transpose src dst f ixs outs.2 keep (ts.map (fun y => { y with rows := [] }))))
  | none => if keep then x.2 else os.foldl (fun s _ => s.readEnds p src t true) x.2

/-- What a VTRANS needs: its tiles, room for its results, and the beats of its first rows. -/
def State.vtransNeeds (s : State) (failed : Bool) (p : PierIx) (t : Nat) (src dst : RegionIx) (d : Nat) (keep : Bool) (f : Fmt) :
    Needs :=
  let os := offsets d (transTiles f) keep
  ⟨firstLate (os.map (fun o => s.readLate p src o t) ++ [s.roomLate failed p dst (transTiles f) t]), 24,
    s.workPorts (nowWork p t 64 (.transpose src dst f (os.map (fun o => s.readIx p src o t)) [] keep []))⟩

/-- VTRANS with its check: its tiles have landed and its results have room. -/
def runVtrans (failed : Bool) (p : PierIx) (t : Nat) (src dst : RegionIx) (d : Nat) (keep : Bool) (f : Fmt) (s : State) :
    State :=
  s.issueV failed (.vtrans p t src dst d keep f) p t
    (fun s => s.vtransNeeds failed p t src dst d keep f)
    (fun s => s.vtransEffect p t src dst d keep f)

/-- VTRANS. -/
def execVtrans (p : PierIx) (t : Nat) (src dst : RegionIx) (d : Nat) (keep : Bool) (f : Fmt) (s : State) :
    Host.Outcome State Fault Refusal := .next (runVtrans false p t src dst d keep f s)

/-- The format that VSTAT names in check 3 of R147: its operands hold none, so it is that of its first tile where the vector unit reads
it, and FP32 otherwise (log 129). -/
def State.statFmt (s : State) (p : PierIx) (src : RegionIx) (d : Nat) : Fmt :=
  match s.readAt p src d with
  | .at i =>
    match fmtOfTag (s.readTile p src i).tag.toNat with
    | some f => if vectorFmt f then f else .fp32
    | none => .fp32
  | _ => .fp32

/-- The number of a mode of VSTAT (R152). -/
def statModeNum : StatMode → Nat
  | .norm => 0
  | .softmax => 1
  | .normPart => 2
  | .softmaxPart => 3

/-- The cycles of VSTAT over rows of `n` elements (R152). -/
def statCycles (mode : StatMode) (n : Nat) : Nat :=
  match mode with
  | .norm => 2 * n + 40
  | .normPart => 2 * n + 40
  | .softmax => 5 * n + 40
  | .softmaxPart => 5 * n + 40

/-- The vector unit's checks of tiles that it will read row by row (R147): the data indices of the tiles, or none if one of them faults. -/
def State.vecTiles (s : State) (p : PierIx) (t : Nat) (r : RegionIx) (named : Fmt) : List Nat → Option (List Nat) × State
  | [] => (some [], s)
  | d :: ds =>
    let x := s.vecRead p t r d named 0 0
    let y := State.vecTiles x.2 p t r named ds
    (match x.1, y.1 with
      | some _, some b => some (s.readIx p r d t :: b)
      | _, _ => none, y.2)

/-- The start of a VSTAT or VSTATC (R152, R155, R173): its tiles are checked, and their rows are read from the next slot on (log 130).
Where one of them faults, the instruction appends no record (R147; DESIGN CHOICE, log 66). -/
def State.startStat (s : State) (p : PierIx) (ds : List Nat) (x : StatRun) : State :=
  let y := s.vecTiles p x.start x.src x.fmt ds
  match y.1 with
  | none => y.2
  | some ixs =>
    (y.2.skipFree 128).addWork (newWork p (x.start + 1) (x.span * ixs.length / x.per)
      (.stat { x with ixs := ixs, free := y.2.freeCtr }))

/-- The effect of VSTAT (R152, R153). -/
def State.vstatEffect (s : State) (p : PierIx) (t : Nat) (mode : StatMode) (src stats : RegionIx) (d l : Nat) (eps : VReg) :
    State :=
  let f := s.statFmt p src d
  let e := if mode = .norm then s.readV p t eps else ([], s)
  e.2.startStat p ((List.range (2 * l)).map (d + ·))
    ⟨t, .stat (statModeNum mode) l, src, f, [], 0, 64, if f = .fp32 then 2 else 1, stats, e.1.getD 0 0, 0, 0,
      statCycles mode (l * f.cols), []⟩

/-- VSTAT with its check: its tiles have landed. -/
def runVstat (failed : Bool) (p : PierIx) (t : Nat) (mode : StatMode) (src stats : RegionIx) (d l : Nat) (eps : VReg)
    (s : State) : State :=
  s.issueV failed (.vstat p t mode src stats d l eps) p t
    (fun s => Needs.item (firstLate ((List.range (2 * l)).map (fun j => s.readLate p src (d + j) t))))
    (fun s => s.vstatEffect p t mode src stats d l eps)

/-- VSTAT. -/
def execVstat (p : PierIx) (t : Nat) (mode : StatMode) (src stats : RegionIx) (d l : Nat) (eps : VReg) (s : State) :
    Host.Outcome State Fault Refusal := .next (runVstat false p t mode src stats d l eps s)

/-- The cycles of VSTATC over P partial tiles (R155). -/
def combineCycles (softmax : Bool) (parts : Nat) : Nat := if softmax then 12 * parts + 40 else 8 * parts + 60

/-- The effect of VSTATC (R154, R155). -/
def State.vstatcEffect (s : State) (p : PierIx) (t : Nat) (softmax : Bool) (src stats : RegionIx) (parts : Nat)
    (group : Fin 8) (eps np : VReg) : State :=
  let e := if softmax then ([], s) else s.readV p t eps
  let n := if softmax then ([], e.2) else e.2.readV p t np
  n.2.startStat p (List.range parts)
    ⟨t, .combine softmax group.val, src, .fp32, [], 8 * group.val, 8, 1, stats, e.1.getD 0 0, n.1.getD 0 0, 0,
      combineCycles softmax parts, []⟩

/-- VSTATC with its check. -/
def runVstatc (failed : Bool) (p : PierIx) (t : Nat) (softmax : Bool) (src stats : RegionIx) (parts : Nat) (group : Fin 8)
    (eps np : VReg) (s : State) : State :=
  s.issueV failed (.vstatc p t softmax src stats parts group eps np) p t
    (fun s => Needs.item (firstLate ((List.range parts).map (fun j => s.readLate p src j t))))
    (fun s => s.vstatcEffect p t softmax src stats parts group eps np)

/-- VSTATC. -/
def execVstatc (p : PierIx) (t : Nat) (softmax : Bool) (src stats : RegionIx) (parts : Nat) (group : Fin 8) (eps np : VReg)
    (s : State) : Host.Outcome State Fault Refusal := .next (runVstatc false p t softmax src stats parts group eps np s)

/-- VSTATF with its check: the open tile is reserved in the issue slot and lands at issue + 17; with no open tile nothing is
done (R155). -/
def runVstatf (failed : Bool) (p : PierIx) (t : Nat) (stats : RegionIx) (s : State) : State :=
  s.issueV failed (.vstatf p t stats) p t
    (fun s => Needs.item (if ((s.pier p).records stats).isSome then s.roomLate failed p stats 1 t else none))
    (fun s => s.flushStats p stats t)

/-- VSTATF. -/
def execVstatf (p : PierIx) (t : Nat) (stats : RegionIx) (s : State) : Host.Outcome State Fault Refusal :=
  .next (runVstatf false p t stats s)

/-- The register after a register, for a pair form (R362). -/
def nextReg (v : VReg) : VReg := ⟨(v.val + 1) % 64, Nat.mod_lt _ (by decide)⟩

/-- The 128 uniform values of a reproducible form from block `b` upwards (R362). -/
def State.uniform (s : State) (p : PierIx) (n use b : Nat) : Lanes :=
  (List.range 128).map (fun l => laneUniform ((s.drawOf p n use (b + l / 4)).word (l % 4)))

/-- The effect of VRNG (R360, R362): wide words are free values. -/
def State.vrngEffect (s : State) (p : PierIx) (t : Nat) (form : Fin 4) (vd : VReg) (stream : Fin 64) : State :=
  let pair := form.val % 2 = 1
  let all := BitVec.allOnes 128
  if form.val < 2 then
    let use := s.useOf p stream.val
    let s1 := (s.takeUse p stream.val).countDraws p (if pair then 64 else 32)
    let s2 := s1.writeV p t 8 vd all (s1.uniform p stream.val use 0)
    if pair then s2.writeV p t 8 (nextReg vd) all (s1.uniform p stream.val use 32) else s2
  else
    let word (k : Nat) : Lanes := (List.range 128).map (fun l => laneUniform ((s.freeAt (128 * k + l)).extractLsb' 0 32))
    let s1 := s.skipFree (if pair then 256 else 128)
    let s2 := s1.writeV p t 8 vd all (word 0)
    if pair then s2.writeV p t 8 (nextReg vd) all (word 1) else s2

/-- VRNG with its check. -/
def runVrng (failed : Bool) (p : PierIx) (t : Nat) (form : Fin 4) (vd : VReg) (stream : Fin 64) (s : State) : State :=
  s.issueV failed (.vrng p t form vd stream) p t (fun _ => Needs.nothing) (fun s => s.vrngEffect p t form vd stream)

/-- VRNG. -/
def execVrng (p : PierIx) (t : Nat) (form : Fin 4) (vd : VReg) (stream : Fin 64) (s : State) :
    Host.Outcome State Fault Refusal := .next (runVrng false p t form vd stream s)

/-- A byte of the image object as the pier cache holds it. -/
def Pier.cacheByte (x : Pier) (b : Nat) : Byte := ((x.cacheLine (b / 128)).getD []).getD (b % 128) 0

/-- The effect of VLDC (R150). -/
def State.vldcEffect (s : State) (p : PierIx) (t : Nat) (vd : VReg) (offset : Nat) (f : Fmt) : State :=
  let x := s.pier p
  let w := f.elemBits / 8
  let code (l : Nat) : Nat := leNat ((List.range w).map (fun b => x.cacheByte (64 * offset + w * l + b)))
  s.writeV p t 10 vd (BitVec.allOnes 128) ((List.range 128).map (fun l => rn32 (f.elem.decode (code l))))

/-- VLDC with its check: every line is in the pier cache (row 1 of R302). -/
def runVldc (failed : Bool) (p : PierIx) (t : Nat) (vd : VReg) (offset : Nat) (f : Fmt) (s : State) : State :=
  s.issueV failed (.vldc p t vd offset f) p t
    (fun s => Needs.item (if (vldcLines offset f).all (fun l => ((s.pier p).cacheLine l).isSome) then none else some lateBundle))
    (fun s => s.vldcEffect p t vd offset f)

/-- VLDC. -/
def execVldc (p : PierIx) (t : Nat) (vd : VReg) (offset : Nat) (f : Fmt) (s : State) :
    Host.Outcome State Fault Refusal := .next (runVldc false p t vd offset f s)

/-- The work of a UPD issued in slot `t`. -/
def updWork (p : PierIx) (t : Nat) (d : UpdDesc) (tiles stamp : Nat) : Work :=
  nowWork p t (32 * tiles) (.upd t tiles stamp d [] false)

/-- The effect of UPD: the run begins with its first weight tile (R343, R346). -/
def State.updEffect (s : State) (p : PierIx) (t : Nat) (n : Fin 1024) (d : UpdDesc) (tiles : Nat) : State :=
  let s1 := ((s.setFld Fld.UPD_STATUS_BUSY p.val 1).setFld Fld.UPD_STATUS_DESC p.val n.val).setFld
    Fld.UPD_STATUS_TILES_LEFT p.val tiles
  let s2 := s1.setPier p { s1.pier p with upd := UpdPair.init }
  (s2.addWork (newWork p (t + 32 * tiles + 14) 1 .updEnd)).begin (updWork p t d tiles s.launchStep)

/-- UPD with its check: the inputs of the first weight tile, and the beats of its first cycle. -/
def runUpd (failed : Bool) (p : PierIx) (t : Nat) (n : Fin 1024) (d : UpdDesc) (tiles : Nat) (s : State) : State :=
  s.issue failed (.upd p t n d tiles) p t (fun s => s.workNeeds failed (updWork p t d tiles s.launchStep))
    (fun s => s.updEffect p t n d tiles)

/-- UPD. -/
def execUpd (p : PierIx) (t : Nat) (n : Fin 1024) (d : UpdDesc) (tiles : Nat) (s : State) :
    Host.Outcome State Fault Refusal := .next (runUpd false p t n d tiles s)

/-- USCAL with its check (R353). -/
def runUscal (failed : Bool) (p : PierIx) (t : Nat) (vd : VReg) (g : Fin 8) (i : Nat) (s : State) : State :=
  s.issueV failed (.uscal p t vd g i) p t (fun _ => Needs.nothing)
    (fun s => s.writeV p t 4 vd (BitVec.allOnes 128) (List.replicate 128 (s.scalar p g i)))

/-- USCAL. -/
def execUscal (p : PierIx) (t : Nat) (vd : VReg) (g : Fin 8) (i : Nat) (s : State) : Host.Outcome State Fault Refusal :=
  .next (runUscal false p t vd g i s)

end Sys2Proof.Machine
end

