-- ==== Sys2Proof/Machine/Reissue.lean ====
section
/-! DEFINITION. The release of a stalled domain (R301): what it held is issued again, in order. -/
namespace Sys2Proof.Machine

/-- A scheduled instruction that a stalled domain held is issued again. -/
def reissue (failed : Bool) (i : Instr) (s : State) : State :=
  match i with
  | .loads p t a region d keep fmt => runLoads failed p t a region d keep fmt s
  | .pass p t a desc region d keep => runPass failed p t a desc region d keep s
  | .drain p t a desc base pitch clear region => runDrain failed p t a desc base pitch clear region s
  | .zero p t a base count => runZero failed p t a base count s
  | .inject p t c region tiles fmt exit d keep => runInject failed p t c region tiles fmt exit d keep s
  | .flip p t region => runFlip failed p t region s
  | .release p t region count => runRelease failed p t region count s
  | .arm p t stream => runArm failed p t stream s
  | .copy p t desc => runCopy failed p t desc s
  | .cwait p t desc => runCwait failed p t desc s
  | .joint p t config => runJoint failed p t config s
  | .barrier p t mask unseg => runBarrier failed p t mask unseg s
  | .tacq p t amount => runTacq failed p t amount s
  | .trel p t amount all => runTrel failed p t amount all s
  | .loop p t count body first len => runLoop failed p t count body first len s
  | .halt p t => runHalt failed p t s
  | .vld p t vd region part keep fmt mask => runVld failed p t vd region part keep fmt mask s
  | .vst p t va region part last fmt mask => runVst failed p t va region part last fmt mask s
  | .varith p t fn vd va vb vc mask => runVarith failed p t fn vd va vb vc mask s
  | .vcmp p t fn md va vb mask => runVcmp failed p t fn md va vb mask s
  | .vsel p t vd va vb sel => runVsel failed p t vd va vb sel s
  | .vsfu p t fn vd va mask => runVsfu failed p t fn vd va mask s
  | .vred p t isMax vd va mask => runVred failed p t isMax vd va mask s
  | .vtrans p t src dst d keep fmt => runVtrans failed p t src dst d keep fmt s
  | .vstat p t mode src stats d l eps => runVstat failed p t mode src stats d l eps s
  | .vstatc p t softmax src stats parts group eps np => runVstatc failed p t softmax src stats parts group eps np s
  | .vstatf p t stats => runVstatf failed p t stats s
  | .vrng p t form vd stream => runVrng failed p t form vd stream s
  | .vldc p t vd offset fmt => runVldc failed p t vd offset fmt s
  | .upd p t n desc tiles => runUpd failed p t n desc tiles s
  | .uscal p t vd group index => runUscal failed p t vd group index s
  | _ => s

/-- Does a held instruction wait for tokens in the stall of its slot: a TACQ or TREL that has failed on row 5 of R302? -/
def State.waitsTokens (s : State) (h : Held) : Bool :=
  match h.instr with
  | .tacq p t _ => h.failed && ((s.pier p).stallOf t).token
  | .trel p t _ _ => h.failed && ((s.pier p).stallOf t).token
  | _ => false

/-- The cycles of a stall are counted: PCTL_STALL of every pier of the domain (R314), the waits of first reads (R211), and of each span the
cycles in which a TACQ or TREL of it waits, once however many wait (R326, R334; log 57). -/
def State.countWait (s : State) (d : Dom) (cycles : Nat) : State :=
  let ps := s.domPiers d
  let s1 := ps.foldl (fun s p => s.wrapAdd Fld.PCTL_STALL_CYCLES p.val cycles) s
  let spans := ((s.held.filter (fun h => s.heldIn d h && s.waitsTokens h)).filterMap (fun h => (pierOf h.instr).map spanOf)).eraseDups
  let s2 := spans.foldl (fun s sp => s.bump Fld.SPAN_TOKEN_COUNT_WAIT_CYCLES sp cycles) s1
  { s2 with slots := s2.slots.change (fun _ => SlotRec.init) (fun k x =>
      if x.waited && ps.any (fun p => p.val = k / 1024) then { x with waitCycles := x.waitCycles + cycles } else x) }

/-- What the piers of a domain have recorded of the regions they wait on is of the stall that has ended. -/
def State.clearWaits (s : State) (d : Dom) : State :=
  (s.domPiers d).foldl (fun s p =>
    s.setPier p { s.pier p with stall := (s.pier p).stall.map (fun x => { x with regions := [] }) }) s

/-- The order in which held instructions are checked again: by slot, and within a slot by logical pier (R326). -/
def State.heldKey (s : State) (h : Held) : Nat :=
  match placeOf h.instr with
  | some (p, t) => 256 * t + s.fld Fld.PCTL_STATUS_LOGICAL p.val
  | none => 0

/-- Put a held instruction in its place by order. -/
def State.putHeld (s : State) (h : Held) : List Held → List Held
  | [] => [h]
  | g :: gs => if s.heldKey h ≤ s.heldKey g then h :: g :: gs else g :: s.putHeld h gs

/-- A stalled domain resumes after `cycles` cycles; its resumed piers claim the tokens that they owe (R331), and what it held is issued
again, and stalls again where an item is still not ready (R301). While brace holds the domains none resumes (row 2 of R302). -/
def State.stallRelease (s : State) (d : Dom) (cycles : Nat) : State :=
  if s.flag Fld.TOKEN_STATUS_BRACE 0 || !(s.domPiers d).any (fun p => s.stalled p) then s
  else
    let s1 := (((s.countWait d cycles).unstall d).clearWaits d).reclaimAll d
    let hs := (s1.held.filter (fun h => s1.heldIn d h)).foldr s1.putHeld []
    hs.foldl (fun s h => reissue h.failed h.instr s) { s1 with held := s1.held.filter (fun h => !s1.heldIn d h) }

/-- STALL_RELEASE. -/
def execStallRelease (d : Dom) (cycles : Nat) (s : State) : Host.Outcome State Fault Refusal :=
  .next (s.stallRelease d cycles)

end Sys2Proof.Machine
end

