-- ==== Sys2Proof/Machine/Sideband.lean ====
section
/-! DEFINITION. The sideband (R556, R570, R571). -/
namespace Sys2Proof.Machine

/-- The answer to a sideband transfer (R571). -/
def State.sbAnswer (s : State) (status : Nat) (data : List Byte) : State := s.send (.sbReply status data)

/-- A sideband transfer that the tollhouse or its boot ROM takes: busy while the module is in reset, no answer without power (R570,
R571). -/
def State.onSideband (s : State) (f : State → State) : State :=
  match s.phase with
  | .off => s
  | .reset _ _ => s.sbAnswer 2 []
  | _ => f s

/-- Is an address one that the sideband reaches (R571)? -/
def sbAddrOk (a : Nat) : Bool := regRange a && a % 8 = 0

/-- REG_READ: DATA counts with STATUS 0 alone (R571). -/
def State.sbRead (s : State) (a : Nat) : State :=
  s.onSideband (fun s =>
    if sbAddrOk a then
      let x := s.regRead a
      x.2.sbAnswer 0 (leBytes 8 x.1.toNat)
    else s.sbAnswer 1 [])

/-- SB_REG_READ. -/
def execSbRegRead (addr : Nat) (s : State) : Host.Outcome State Fault Refusal := .next (s.sbRead addr)

/-- REG_WRITE of the sideband (R571). -/
def State.sbWrite (s : State) (a : Nat) (v : Word) : State :=
  s.onSideband (fun s => if sbAddrOk a then (s.regWrite a v).sbAnswer 0 [] else s.sbAnswer 1 [])

/-- SB_REG_WRITE. -/
def execSbRegWrite (addr : Nat) (value : Word) (s : State) : Host.Outcome State Fault Refusal := .next (s.sbWrite addr value)

/-- The bytes of a slot with some of them written; what the slot held before that is unknown is free. -/
def State.patchNor (s : State) (slot off : Nat) (bs : List Byte) : State :=
  let old := (s.norImage slot).getD []
  let gap := State.freeBytes (off - old.length) s
  gap.2.writeNor slot (old.take off ++ gap.1 ++ bs ++ old.drop (off + bs.length))

/-- IMAGE_WRITE: 1 to 240 bytes into tollhouse image slot A, only while no image is present (R547, R571); a transfer of another length is not
acknowledged (DESIGN CHOICE, log 181). -/
def State.sbImage (s : State) (off : Nat) (bs : List Byte) : State :=
  s.onSideband (fun s =>
    if bs.length = 0 || 240 < bs.length then s.send .sbNack
    else if s.flag Fld.FW_STATUS_NO_IMAGE 0 && off + bs.length ≤ norSize 0 then (s.patchNor 0 off bs).sbAnswer 0 []
    else s.sbAnswer 1 [])

/-- SB_IMAGE_WRITE. -/
def execSbImageWrite (offset : Nat) (data : List Byte) (s : State) : Host.Outcome State Fault Refusal :=
  .next (s.sbImage offset data)

/-- SB_SERVICE_OP: a command byte that is none of the three others. 0x10 to 0x1F are the service operations, not acknowledged while service
access is closed (R556); open, the operation has no effect in the spec. Every other command byte is not acknowledged (R571). -/
def execSbServiceOp (op : Byte) (s : State) : Host.Outcome State Fault Refusal :=
  match s.phase with
  | .off => .next s
  | _ =>
    if op.toNat / 16 = 1 && s.flag Fld.SERVICE_CTRL_OPEN 0 then .refused .serviceOperation else .next (s.send .sbNack)

/-- The command that a private write of the sideband spells (R571); none where its length fits none. -/
def sbCommand (bs : List Byte) : Option Instr :=
  match bs with
  | [] => none
  | c :: rest =>
    let addr := leNat (rest.take 6)
    match c.toNat with
    | 1 => if rest.length = 6 then some (.sbRegRead addr) else none
    | 2 => if rest.length = 14 then some (.sbRegWrite addr (BitVec.ofNat 64 (leNat (rest.drop 6)))) else none
    | 3 => if 5 ≤ rest.length && rest.length ≤ 244 then some (.sbImageWrite (leNat (rest.take 4)) (rest.drop 4)) else none
    | _ => some (.sbServiceOp c)

/-- The address to which the sideband target answers: the static one of its straps until a dynamic one is assigned (R570). -/
def State.sbTarget (s : State) : Nat := s.sbAddress.getD (0x30 + s.straps.val)

/-- The low 16 bits of the provisional identifier: GRADE and STEPPING, placed as DEVICE_ID places them (R570, R561; DEDUCED, log 180). -/
def State.sbProvisional (s : State) : BitVec 16 := (s.reg .deviceId 0).setWidth 16

/-- DYNAMIC_ADDRESS_ASSIGNMENT: the target shows its provisional identifier and takes the address; legacy I2C operation ends (R570). -/
def execDynamicAddressAssignment (addr : Fin 128) (s : State) : Host.Outcome State Fault Refusal :=
  .next (match s.phase with
    | .off => s
    | _ => { s with sbAddress := some addr.val }.send (.sbIdentity s.sbProvisional))

end Sys2Proof.Machine
end

