-- ==== Sys2Proof/Machine/Dispatch.lean ====
section
/-! DEFINITION. The meaning of every command: one arm per constructor, each one call of its meaning. -/
namespace Sys2Proof.Machine

/-- What a command does to everything but the queue. -/
def exec (i : Instr) (s : State) : Host.Outcome State Fault Refusal :=
  match i with
  | .loads p t a region d keep fmt => Sys2Proof.Machine.execLoads p t a region d keep fmt s
  | .pass p t a desc region d keep => Sys2Proof.Machine.execPass p t a desc region d keep s
  | .drain p t a desc base pitch clear region => Sys2Proof.Machine.execDrain p t a desc base pitch clear region s
  | .zero p t a base count => Sys2Proof.Machine.execZero p t a base count s
  | .inject p t c region tiles fmt exit d keep => Sys2Proof.Machine.execInject p t c region tiles fmt exit d keep s
  | .flip p t region => Sys2Proof.Machine.execFlip p t region s
  | .release p t region count => Sys2Proof.Machine.execRelease p t region count s
  | .arm p t stream => Sys2Proof.Machine.execArm p t stream s
  | .copy p t desc => Sys2Proof.Machine.execCopy p t desc s
  | .cwait p t desc => Sys2Proof.Machine.execCwait p t desc s
  | .joint p t config => Sys2Proof.Machine.execJoint p t config s
  | .jointComplete cycle => Sys2Proof.Machine.execJointComplete cycle s
  | .barrier p t mask unseg => Sys2Proof.Machine.execBarrier p t mask unseg s
  | .barrierComplete mask unseg cycle => Sys2Proof.Machine.execBarrierComplete mask unseg cycle s
  | .tacq p t amount => Sys2Proof.Machine.execTacq p t amount s
  | .trel p t amount all => Sys2Proof.Machine.execTrel p t amount all s
  | .loop p t count body first len => Sys2Proof.Machine.execLoop p t count body first len s
  | .halt p t => Sys2Proof.Machine.execHalt p t s
  | .scheduleDone => Sys2Proof.Machine.execScheduleDone s
  | .vld p t vd region part keep fmt mask => Sys2Proof.Machine.execVld p t vd region part keep fmt mask s
  | .vst p t va region part last fmt mask => Sys2Proof.Machine.execVst p t va region part last fmt mask s
  | .varith p t fn vd va vb vc mask => Sys2Proof.Machine.execVarith p t fn vd va vb vc mask s
  | .vcmp p t fn md va vb mask => Sys2Proof.Machine.execVcmp p t fn md va vb mask s
  | .vsel p t vd va vb sel => Sys2Proof.Machine.execVsel p t vd va vb sel s
  | .vsfu p t fn vd va mask => Sys2Proof.Machine.execVsfu p t fn vd va mask s
  | .vred p t isMax vd va mask => Sys2Proof.Machine.execVred p t isMax vd va mask s
  | .vtrans p t src dst d keep fmt => Sys2Proof.Machine.execVtrans p t src dst d keep fmt s
  | .vstat p t mode src stats d l eps => Sys2Proof.Machine.execVstat p t mode src stats d l eps s
  | .vstatc p t softmax src stats parts group eps np => Sys2Proof.Machine.execVstatc p t softmax src stats parts group eps np s
  | .vstatf p t stats => Sys2Proof.Machine.execVstatf p t stats s
  | .vrng p t form vd stream => Sys2Proof.Machine.execVrng p t form vd stream s
  | .vldc p t vd offset fmt => Sys2Proof.Machine.execVldc p t vd offset fmt s
  | .upd p t n desc tiles => Sys2Proof.Machine.execUpd p t n desc tiles s
  | .uscal p t vd group index => Sys2Proof.Machine.execUscal p t vd group index s
  | .ringLoopbackDone seg failed => Sys2Proof.Machine.execRingLoopbackDone seg failed s
  | .ringTileSend seg c => Sys2Proof.Machine.execRingTileSend seg c s
  | .stopTimeout d => Sys2Proof.Machine.execStopTimeout d s
  | .stepAbandoned => Sys2Proof.Machine.execStepAbandoned s
  | .preemptSave => Sys2Proof.Machine.execPreemptSave s
  | .regionDeadlock d => Sys2Proof.Machine.execRegionDeadlock d s
  | .quotaWindowEnd => Sys2Proof.Machine.execQuotaWindowEnd s
  | .tagAllocate p => Sys2Proof.Machine.execTagAllocate p s
  | .transferReply p num req attempt upset => Sys2Proof.Machine.execTransferReply p num req attempt upset s
  | .tagTimeout p copy num => Sys2Proof.Machine.execTagTimeout p copy num s
  | .watchWaitTimeout p copy num => Sys2Proof.Machine.execWatchWaitTimeout p copy num s
  | .staleNotice p => Sys2Proof.Machine.execStaleNotice p s
  | .copyTile p desc upset => Sys2Proof.Machine.execCopyTile p desc upset s
  | .gateAccess cls addr len data poison upset => Sys2Proof.Machine.execGateAccess cls addr len data poison upset s
  | .stackRefresh g => Sys2Proof.Machine.execStackRefresh g s
  | .scrubBurst g symbols => Sys2Proof.Machine.execScrubBurst g symbols s
  | .stackTempReading g celsius => Sys2Proof.Machine.execStackTempReading g celsius s
  | .repairWindow g spare entry symbols burnt => Sys2Proof.Machine.execRepairWindow g spare entry symbols burnt s
  | .extentMove entry remote upset => Sys2Proof.Machine.execExtentMove entry remote upset s
  | .poolEvict => Sys2Proof.Machine.execPoolEvict s
  | .bringUp entry frame => Sys2Proof.Machine.execBringUp entry frame s
  | .hello k => Sys2Proof.Machine.execHello k s
  | .querySummary k => Sys2Proof.Machine.execQuerySummary k s
  | .queryPierMap k status => Sys2Proof.Machine.execQueryPierMap k status s
  | .queryProbe k => Sys2Proof.Machine.execQueryProbe k s
  | .probeTimeout k => Sys2Proof.Machine.execProbeTimeout k s
  | .loadImage k => Sys2Proof.Machine.execLoadImage k s
  | .bind k => Sys2Proof.Machine.execBind k s
  | .launch k bank v1 v2 => Sys2Proof.Machine.execLaunch k bank v1 v2 s
  | .preempt k => Sys2Proof.Machine.execPreempt k s
  | .resume k bank v1 v2 => Sys2Proof.Machine.execResume k bank v1 v2 s
  | .stepCommit k => Sys2Proof.Machine.execStepCommit k s
  | .stepCommitSet k => Sys2Proof.Machine.execStepCommitSet k s
  | .mapObject k status => Sys2Proof.Machine.execMapObject k status s
  | .moveObject k => Sys2Proof.Machine.execMoveObject k s
  | .openWindow k => Sys2Proof.Machine.execOpenWindow k s
  | .closeWindow k => Sys2Proof.Machine.execCloseWindow k s
  | .setBudget k => Sys2Proof.Machine.execSetBudget k s
  | .pairForm k check => Sys2Proof.Machine.execPairForm k check s
  | .pairFailover k => Sys2Proof.Machine.execPairFailover k s
  | .pairRejoin k check => Sys2Proof.Machine.execPairRejoin k check s
  | .fencePier k => Sys2Proof.Machine.execFencePier k s
  | .admitPier k => Sys2Proof.Machine.execAdmitPier k s
  | .bistModuleNative k => Sys2Proof.Machine.execBistModuleNative k s
  | .bistModuleT7 k => Sys2Proof.Machine.execBistModuleT7 k s
  | .bistPier k => Sys2Proof.Machine.execBistPier k s
  | .bistStack k => Sys2Proof.Machine.execBistStack k s
  | .bistDone r => Sys2Proof.Machine.execBistDone r s
  | .pierTestDone p r ms => Sys2Proof.Machine.execPierTestDone p r ms s
  | .updateFirmwareTollhouse k => Sys2Proof.Machine.execUpdateFirmwareTollhouse k s
  | .updateFirmwareGate k => Sys2Proof.Machine.execUpdateFirmwareGate k s
  | .updateFirmwarePort k => Sys2Proof.Machine.execUpdateFirmwarePort k s
  | .fwSwitch => Sys2Proof.Machine.execFwSwitch s
  | .fwSwitchTimeout => Sys2Proof.Machine.execFwSwitchTimeout s
  | .fwTrialEnd => Sys2Proof.Machine.execFwTrialEnd s
  | .tollhouseWdt addr => Sys2Proof.Machine.execTollhouseWdt addr s
  | .readLog k status => Sys2Proof.Machine.execReadLog k status s
  | .correlateTime k => Sys2Proof.Machine.execCorrelateTime k s
  | .attest k status => Sys2Proof.Machine.execAttest k status s
  | .unlockPassword k => Sys2Proof.Machine.execUnlockPassword k s
  | .unlockChallenge k => Sys2Proof.Machine.execUnlockChallenge k s
  | .unlockSignedResponse k => Sys2Proof.Machine.execUnlockSignedResponse k s
  | .challengeExpiry => Sys2Proof.Machine.execChallengeExpiry s
  | .resetWarm k b => Sys2Proof.Machine.execResetWarm k b s
  | .resetPier k => Sys2Proof.Machine.execResetPier k s
  | .resetLink k => Sys2Proof.Machine.execResetLink k s
  | .packetAccept k header params => Sys2Proof.Machine.execPacketAccept k header params s
  | .jwRd tag addr len bad upset => Sys2Proof.Machine.execJwRd tag addr len bad upset s
  | .jwWr tag addr data bad upset => Sys2Proof.Machine.execJwWr tag addr data bad upset s
  | .jwCpl tag cpl => Sys2Proof.Machine.execJwCpl tag cpl s
  | .snpInv line writes => Sys2Proof.Machine.execSnpInv line writes s
  | .jwLinkDown crcErrors retries recoveries => Sys2Proof.Machine.execJwLinkDown crcErrors retries recoveries s
  | .jwLinkUp lanes verMin verMax reads => Sys2Proof.Machine.execJwLinkUp lanes verMin verMax reads s
  | .evtPresent => Sys2Proof.Machine.execEvtPresent s
  | .evtDone level => Sys2Proof.Machine.execEvtDone level s
  | .evtFlush => Sys2Proof.Machine.execEvtFlush s
  | .eventRecordDone => Sys2Proof.Machine.execEventRecordDone s
  | .mailboxEnable value faults => Sys2Proof.Machine.execMailboxEnable value faults s
  | .mailboxDisable value => Sys2Proof.Machine.execMailboxDisable value s
  | .regWrite addr value => Sys2Proof.Machine.execRegWrite addr value s
  | .unitRepairWrite p a value => Sys2Proof.Machine.execUnitRepairWrite p a value s
  | .watchSel g index => Sys2Proof.Machine.execWatchSel g index s
  | .parapetSel index => Sys2Proof.Machine.execParapetSel index s
  | .portRoleWrite n value => Sys2Proof.Machine.execPortRoleWrite n value s
  | .senseCfgWrite value held mv => Sys2Proof.Machine.execSenseCfgWrite value held mv s
  | .softRepair g channel bank row => Sys2Proof.Machine.execSoftRepair g channel bank row s
  | .hardRepair g channel bank row => Sys2Proof.Machine.execHardRepair g channel bank row s
  | .releaseSoftRepair g channel bank row => Sys2Proof.Machine.execReleaseSoftRepair g channel bank row s
  | .powerWake => Sys2Proof.Machine.execPowerWake s
  | .powerDoze => Sys2Proof.Machine.execPowerDoze s
  | .powerPark => Sys2Proof.Machine.execPowerPark s
  | .holdupMeasure => Sys2Proof.Machine.execHoldupMeasure s
  | .holdupMeasureDone bank v1 v2 => Sys2Proof.Machine.execHoldupMeasureDone bank v1 v2 s
  | .holdupAgeExpiry => Sys2Proof.Machine.execHoldupAgeExpiry s
  | .serviceClose => Sys2Proof.Machine.execServiceClose s
  | .ownerEnrolSlot slot verified => Sys2Proof.Machine.execOwnerEnrolSlot slot verified s
  | .ownerRevokeSlot slot verified => Sys2Proof.Machine.execOwnerRevokeSlot slot verified s
  | .ownerWritePassword verified => Sys2Proof.Machine.execOwnerWritePassword verified s
  | .ownerWriteDebugKey verified => Sys2Proof.Machine.execOwnerWriteDebugKey verified s
  | .sbRegRead addr => Sys2Proof.Machine.execSbRegRead addr s
  | .sbRegWrite addr value => Sys2Proof.Machine.execSbRegWrite addr value s
  | .sbImageWrite offset data => Sys2Proof.Machine.execSbImageWrite offset data s
  | .sbServiceOp op => Sys2Proof.Machine.execSbServiceOp op s
  | .dataFlit n bytes bad corrected uncorr => Sys2Proof.Machine.execDataFlit n bytes bad corrected uncorr s
  | .nullFlit n bytes bad corrected uncorr => Sys2Proof.Machine.execNullFlit n bytes bad corrected uncorr s
  | .retryReq n bytes bad corrected uncorr => Sys2Proof.Machine.execRetryReq n bytes bad corrected uncorr s
  | .ackTimeout n => Sys2Proof.Machine.execAckTimeout n s
  | .linkHello n h => Sys2Proof.Machine.execLinkHello n h s
  | .linkStart n => Sys2Proof.Machine.execLinkStart n s
  | .linkRecover n => Sys2Proof.Machine.execLinkRecover n s
  | .laneSignalDetect n lanes => Sys2Proof.Machine.execLaneSignalDetect n lanes s
  | .linkTrainDone n => Sys2Proof.Machine.execLinkTrainDone n s
  | .linkTrainFail n => Sys2Proof.Machine.execLinkTrainFail n s
  | .alignLock n lanes => Sys2Proof.Machine.execAlignLock n lanes s
  | .alignTimeout n => Sys2Proof.Machine.execAlignTimeout n s
  | .exchangeRetry n => Sys2Proof.Machine.execExchangeRetry n s
  | .laneSignalLoss n => Sys2Proof.Machine.execLaneSignalLoss n s
  | .lockLoss n => Sys2Proof.Machine.execLockLoss n s
  | .recoveryTimeout n => Sys2Proof.Machine.execRecoveryTimeout n s
  | .routeMessage n dl m => Sys2Proof.Machine.execRouteMessage n dl m s
  | .remoteWrite n dl h tag epoch step offset window data => Sys2Proof.Machine.execRemoteWrite n dl h tag epoch step offset window data s
  | .remoteRead n dl h tag epoch offset window length => Sys2Proof.Machine.execRemoteRead n dl h tag epoch offset window length s
  | .readReply n dl h tag status data => Sys2Proof.Machine.execReadReply n dl h tag status data s
  | .ringTile n dl h c seg side data ext => Sys2Proof.Machine.execRingTile n dl h c seg side data ext s
  | .mirrorWrite n dl h mseq object offset data => Sys2Proof.Machine.execMirrorWrite n dl h mseq object offset data s
  | .keystone n dl h mseq step => Sys2Proof.Machine.execKeystone n dl h mseq step s
  | .keystoneAck n dl h mseq step => Sys2Proof.Machine.execKeystoneAck n dl h mseq step s
  | .syncForm n dl h tag step entries kind => Sys2Proof.Machine.execSyncForm n dl h tag step entries kind s
  | .syncMap n dl h tag entries => Sys2Proof.Machine.execSyncMap n dl h tag entries s
  | .ready n dl h tag mseq => Sys2Proof.Machine.execReady n dl h tag mseq s
  | .mirrorApplied n dl h tag mseq => Sys2Proof.Machine.execMirrorApplied n dl h tag mseq s
  | .mirrorResend n dl h tag mseq => Sys2Proof.Machine.execMirrorResend n dl h tag mseq s
  | .keystoneRefused n dl h tag mseq step reason => Sys2Proof.Machine.execKeystoneRefused n dl h tag mseq step reason s
  | .handover n dl h tag step => Sys2Proof.Machine.execHandover n dl h tag step s
  | .probe n dl h trunc tag tSend hops => Sys2Proof.Machine.execProbe n dl h trunc tag tSend hops s
  | .probeReply n dl h trunc tag tSend tReply hops status => Sys2Proof.Machine.execProbeReply n dl h trunc tag tSend tReply hops status s
  | .mirrorAppliedTimer => Sys2Proof.Machine.execMirrorAppliedTimer s
  | .mirrorGapTimeout lost => Sys2Proof.Machine.execMirrorGapTimeout lost s
  | .keystoneResendTimer => Sys2Proof.Machine.execKeystoneResendTimer s
  | .pairCommitTimeout => Sys2Proof.Machine.execPairCommitTimeout s
  | .pairSilenceTimeout => Sys2Proof.Machine.execPairSilenceTimeout s
  | .bulkExtentCopy upset => Sys2Proof.Machine.execBulkExtentCopy upset s
  | .pairAliveLow => Sys2Proof.Machine.execPairAliveLow s
  | .pairAliveHigh => Sys2Proof.Machine.execPairAliveHigh s
  | .thermAlertAssert => Sys2Proof.Machine.execThermAlertAssert s
  | .thermAlertDeassert => Sys2Proof.Machine.execThermAlertDeassert s
  | .junctionReading temps => Sys2Proof.Machine.execJunctionReading temps s
  | .thermTripClear => Sys2Proof.Machine.execThermTripClear s
  | .supplyWindowEnd vin iin r => Sys2Proof.Machine.execSupplyWindowEnd vin iin r s
  | .fstepUpdate => Sys2Proof.Machine.execFstepUpdate s
  | .replicaMonitorFail sp => Sys2Proof.Machine.execReplicaMonitorFail sp s
  | .refclkLost => Sys2Proof.Machine.execRefclkLost s
  | .refclkRestored => Sys2Proof.Machine.execRefclkRestored s
  | .wideReseed => Sys2Proof.Machine.execWideReseed s
  | .routerFail p net => Sys2Proof.Machine.execRouterFail p net s
  | .braceEnter mv => Sys2Proof.Machine.execBraceEnter mv s
  | .supplyRecoveryLevel => Sys2Proof.Machine.execSupplyRecoveryLevel s
  | .braceExit => Sys2Proof.Machine.execBraceExit s
  | .supplyReset => Sys2Proof.Machine.execSupplyReset s
  | .supplyResetRelease b => Sys2Proof.Machine.execSupplyResetRelease b s
  | .holdupExhausted => Sys2Proof.Machine.execHoldupExhausted s
  | .journalWriteDone retired => Sys2Proof.Machine.execJournalWriteDone retired s
  | .powerOn => Sys2Proof.Machine.execPowerOn s
  | .moduleReset => Sys2Proof.Machine.execModuleReset s
  | .resetRelease m => Sys2Proof.Machine.execResetRelease m s
  | .idleEntry => Sys2Proof.Machine.execIdleEntry s
  | .gateSrTimeout g => Sys2Proof.Machine.execGateSrTimeout g s
  | .parkLatchWake input => Sys2Proof.Machine.execParkLatchWake input s
  | .parkWakeTimeout input => Sys2Proof.Machine.execParkWakeTimeout input s
  | .hostRequestAbort tag done => Sys2Proof.Machine.execHostRequestAbort tag done s
  | .senseGlitchRejected input => Sys2Proof.Machine.execSenseGlitchRejected input s
  | .recoveryLevelBreak => Sys2Proof.Machine.execRecoveryLevelBreak s
  | .pierCacheFill p line upset => Sys2Proof.Machine.execPierCacheFill p line upset s
  | .stallRelease d cycles => Sys2Proof.Machine.execStallRelease d cycles s
  | .pauneIdWrite value => Sys2Proof.Machine.execPauneIdWrite value s
  | .authLockoutExpiry => Sys2Proof.Machine.execAuthLockoutExpiry s
  | .dynamicAddressAssignment addr => Sys2Proof.Machine.execDynamicAddressAssignment addr s

end Sys2Proof.Machine
end

