-- ==== Sys2Proof/Machine/Tick.lean ====
section
/-! DEFINITION. What happens when no command waits: one tick of the time counter passes (log 8). -/
namespace Sys2Proof.Machine

/-- A port that owes an acknowledgement or credits and has nothing else to send sends NULL (R382, R400). -/
def State.quietLinks (s : State) : State :=
  (List.range 12).foldl (fun s n =>
    if s.portState n = 5 && ((s.link n).ackDue || (s.link n).owed.any (fun v => 0 < v)) then s.emitNull n else s) s

/-- One tick of the time counter (R492), in which the ring messages that wait try to land (R400),
the messages that the module has sent to itself are delivered (R389), a port that is quiet sends what it owes (R382), the accesses that
wait are tried again (R224, R442), spans of different rates drift apart (R330), and a warm reset that is due takes place (R454). Without
power nothing happens. -/
def State.tick (s : State) : State :=
  let t := s.drainRing.deliverOwn.quietLinks.setReg .timeNow 0 (s.now + 1)
  match s.phase with
  | .off => s
  | .released => t.retryHost.wakeWindows.drift.testTick.warmDue
  | _ => t.retryHost.warmDue

end Sys2Proof.Machine
end

