-- ==== Sys2Proof/WellFormed.lean ====
section
/-! DEFINITION. Which commands are well formed: every operand lies in the range that the spec gives it. -/
namespace Sys2Proof

/-- An issue slot of a program: 48 bits (R314). -/
def slotOk (t : Nat) : Bool := t < 2 ^ 48

/-- An offset with its KEEP bit: 0 to 127, and 0 where the tile is released (R171). -/
def readOk (d : Nat) (keep : Bool) : Bool := d < 128 && (keep || d = 0)

/-- A format that a grid or a carriageway takes: any but FP32 (R96, R119, R296). -/
def streamFmt (f : Fmt) : Bool := f != .fp32

/-- A format of a vector instruction (R150). -/
def vecFmt (f : Fmt) : Bool := f = .fp32 || f = .bf16 || f = .fp16

/-- A multiple of 64 below 65,536: a base or a stride of spandrel entries (R96). -/
def entryBase (n : Nat) : Bool := n < 65536 && n % 64 = 0

/-- A pass descriptor (R96). -/
def PassDesc.ok (d : PassDesc) : Bool :=
  d.sel < 4 && entryBase d.base && d.pitch ≤ 4 && 1 ≤ d.tiles && d.tiles ≤ 1023 && streamFmt d.sfmt && entryBase d.tstride

/-- Symbols in error of a 64 B block: of 72 (R234). -/
def symbolsOk (n : Nat) : Bool := n ≤ 72

/-- A 64 B block of a stack with its symbols in error. -/
def upsetOk (u : Option (Nat × Nat)) : Bool := u.all (fun e => e.1 < 2 ^ 40 && symbolsOk e.2)

/-- A time counter value, or another of 64 bits. -/
def word64 (n : Nat) : Bool := n < 2 ^ 64

/-- A header of a message (R393). -/
def MsgHead.ok (h : MsgHead) : Bool := h.attempt < 8 && h.dest < 65536 && h.src < 65536 && 1 ≤ h.ttl && h.ttl ≤ 255

/-- A payload of whole 128 B units, at most 8 KiB (R394). -/
def payloadOk (bs : List Byte) : Bool := bs.length % 128 = 0 && bs.length ≤ 8192

/-- The fields of a message lie in their ranges (R394). -/
def MsgBody.ok : MsgBody → Bool
  | .remoteWrite tag epoch step offset window data =>
    tag < 2 ^ 32 && epoch < 2 ^ 32 && step < 2 ^ 32 && offset < 2 ^ 40 && window < 2 ^ 20 && payloadOk data && !data.isEmpty
  | .remoteRead tag epoch offset window length =>
    tag < 2 ^ 32 && epoch < 2 ^ 32 && offset < 2 ^ 40 && window < 2 ^ 20 && 1 ≤ length && length ≤ 64
  | .readReply tag status data => tag < 2 ^ 32 && status < 256 && payloadOk data
  | .ringTile _ segment side data ext =>
    segment < 8 && side.length = 16 && data.length = 8192 && [0, 256, 512, 1024].contains ext.length
  | .mirrorWrite mseq object offset data =>
    word64 mseq && object < 2 ^ 22 && offset < 2 ^ 40 && 1 ≤ data.length && data.length ≤ 8192
  | .keystone mseq step _ => word64 mseq && step < 2 ^ 32
  | .sync subtype tag param data => subtype < 65536 && tag < 2 ^ 32 && param.length = 16 && data.length ≤ 208
  | .probe _ _ tag tSend tReply hops => tag < 2 ^ 32 && word64 tSend && word64 tReply && hops.length ≤ 64

/-- A message that arrives. -/
def Msg.ok (m : Msg) : Bool := m.head.ok && m.body.ok

/-- The bytes of a flit (R382). -/
def flitLen (bs : List Byte) : Bool := bs.length = 256

/-- The fields of a LINK flit's header lie within their ranges (R382). -/
def LinkSide.ok (a : LinkSide) : Bool := a.ack.all (fun n => n < 65536) && a.crCount ≤ 4096

/-- What a HELLO carries lies in its fields (R379). -/
def Hello.ok (h : Hello) : Bool :=
  h.module < 65536 && h.port < 12 && h.role < 4 && h.verMin < 256 && h.verMax < 256 && h.shares.length = 8 &&
    h.shares.all (fun n => n < 4096)

/-- A start of the tollhouse: six image slots; at most 16 draws of 512 B, none of them after one that passes (R494, R547). -/
def TollBoot.ok (b : TollBoot) : Bool :=
  b.made.length = 6 && 1 ≤ b.draws.length && b.draws.length ≤ 16 && b.draws.all (fun d => d.1.length = 512) &&
    b.draws.dropLast.all (fun d => !d.2)

/-- What a test finds: each pier at most once, times and samples within their fields (R542). -/
def BistResult.ok (r : BistResult) : Bool :=
  (r.piers.map Prod.fst).eraseDups.length = r.piers.length && r.badGates.eraseDups.length = r.badGates.length &&
    r.blocks.all (fun a => a < 2 ^ 40) && r.ms < 2 ^ 32 && r.vcore < 2048

/-- A reading of the 17 junction sensors, in 0.25 °C (R478, R483). -/
def tempsOk (temps : List Nat) : Bool := temps.length = 17 && temps.all (fun t => t ≤ 1020)

/-- What a module boot meets; the charger holds the bank at 56.0 V ±0.5 V (R505). -/
def ModuleBoot.ok (m : ModuleBoot) : Bool :=
  m.toll.ok && m.first.ok && m.again.ok && tempsOk m.temps && 5550 ≤ m.bank && m.bank ≤ 5650

/-- The readings of a hold-up bank in 10 mV (R523). -/
def bankOk (bank v1 v2 : Nat) : Bool := bank ≤ 6000 && v1 ≤ 6000 && v2 ≤ 6000

/-- A tag of a Juwire message (R439). -/
def jwTagOk (n : Nat) : Bool := n < 65536

/-- A 48-bit address (R10). -/
def addrOk (a : Nat) : Bool := a < 2 ^ 48

/-- A run of host memory by device address (R441). -/
def hostRun (e : Nat × List Byte) : Bool := 2 ^ 47 ≤ e.1 && e.1 + e.2.length ≤ 2 ^ 48

/-- Is a command well formed? -/
def Instr.wf : Instr → Bool
  | .loads _ t _ _ d keep fmt => slotOk t && readOk d keep && streamFmt fmt
  | .pass _ t _ desc _ d keep => slotOk t && readOk d keep && desc.ok
  | .drain _ t _ _ base pitch _ _ => slotOk t && base < 65536 && pitch ≤ 4
  | .zero _ t _ base count => slotOk t && entryBase base && 64 ≤ count && count ≤ 65536 && count % 64 = 0
  | .inject _ t _ _ tiles fmt _ d keep => slotOk t && 1 ≤ tiles && tiles ≤ 1023 && streamFmt fmt && readOk d keep
  | .flip _ t _ => slotOk t
  | .release _ t _ count => slotOk t && 1 ≤ count && count ≤ 1024
  | .arm _ t _ => slotOk t
  | .copy _ t _ => slotOk t
  | .cwait _ t _ => slotOk t
  | .joint _ t config => slotOk t && config.all (fun n => n < 65535)
  | .jointComplete cycle => slotOk cycle
  | .barrier _ t _ _ => slotOk t
  | .barrierComplete _ _ cycle => slotOk cycle
  | .tacq _ t amount => slotOk t && 1 ≤ amount && amount ≤ 208
  | .trel _ t amount _ => slotOk t && amount ≤ 208
  | .loop _ t count body first len => slotOk t && 1 ≤ count && count ≤ 65536 && body < 2 ^ 24 && slotOk first && slotOk len
  | .halt _ t => slotOk t
  | .scheduleDone => true
  | .vld _ t _ _ part _ fmt _ => slotOk t && part < 32 && vecFmt fmt
  | .vst _ t _ _ part _ fmt _ => slotOk t && part < 32 && vecFmt fmt
  | .varith _ t _ _ _ _ _ _ => slotOk t
  | .vcmp _ t _ _ _ _ _ => slotOk t
  | .vsel _ t _ _ _ _ => slotOk t
  | .vsfu _ t _ _ _ _ => slotOk t
  | .vred _ t _ _ _ _ => slotOk t
  | .vtrans _ t _ _ d keep fmt => slotOk t && readOk d keep && vecFmt fmt
  | .vstat _ t _ _ _ d l _ => slotOk t && d < 128 && l < 64
  | .vstatc _ t _ _ _ parts _ _ _ => slotOk t && 1 ≤ parts && parts < 128
  | .vstatf _ t _ => slotOk t
  | .vrng _ t _ _ _ => slotOk t
  | .vldc _ t _ offset fmt => slotOk t && offset < 2 ^ 34 && vecFmt fmt
  | .upd _ t _ desc tiles => slotOk t && desc.object < 2 ^ 22 && 1 ≤ tiles && tiles ≤ 1023
  | .uscal _ t _ _ index => slotOk t && index ≤ 9
  | .ringLoopbackDone _ failed => failed.eraseDups.length = failed.length
  | .ringTileSend _ _ => true
  | .stopTimeout _ => true
  | .stepAbandoned => true
  | .preemptSave => true
  | .regionDeadlock _ => true
  | .quotaWindowEnd => true
  | .tagAllocate _ => true
  | .transferReply _ num _ attempt upset => num < 64 && attempt < 8 && upsetOk upset
  | .tagTimeout _ _ num => num < 64
  | .watchWaitTimeout _ _ num => num < 64
  | .staleNotice _ => true
  | .copyTile _ _ upset => upsetOk upset
  | .gateAccess _ addr len data _ upset =>
    1 ≤ (match data with
      | some bs => bs.length
      | none => len) &&
      addr + (match data with
        | some bs => bs.length
        | none => len) ≤ 2 ^ 40 && upsetOk upset
  | .stackRefresh _ => true
  | .scrubBurst _ symbols => symbolsOk symbols
  | .stackTempReading _ celsius => celsius ≤ 150
  | .repairWindow _ _ _ symbols _ => symbols.length ≤ 16 && symbols.all symbolsOk
  | .extentMove entry remote upset => entry < 4194304 && remote.length ≤ 2 ^ 30 && upsetOk upset
  | .poolEvict => true
  | .bringUp entry frame => entry < 4194304 && frame < 523776
  | .hello _ => true
  | .querySummary _ => true
  | .queryPierMap _ _ => true
  | .queryProbe _ => true
  | .probeTimeout _ => true
  | .loadImage _ => true
  | .bind _ => true
  | .launch _ bank v1 v2 => bankOk bank v1 v2
  | .preempt _ => true
  | .resume _ bank v1 v2 => bankOk bank v1 v2
  | .stepCommit _ => true
  | .stepCommitSet _ => true
  | .mapObject _ _ => true
  | .moveObject _ => true
  | .openWindow _ => true
  | .closeWindow _ => true
  | .setBudget _ => true
  | .pairForm _ _ => true
  | .pairFailover _ => true
  | .pairRejoin _ _ => true
  | .fencePier _ => true
  | .admitPier _ => true
  | .bistModuleNative _ => true
  | .bistModuleT7 _ => true
  | .bistPier _ => true
  | .bistStack _ => true
  | .bistDone r => r.ok
  | .pierTestDone _ _ ms => ms < 2 ^ 32
  | .updateFirmwareTollhouse _ => true
  | .updateFirmwareGate _ => true
  | .updateFirmwarePort _ => true
  | .fwSwitch => true
  | .fwSwitchTimeout => true
  | .fwTrialEnd => true
  | .tollhouseWdt addr => addrOk addr
  | .readLog _ _ => true
  | .correlateTime _ => true
  | .attest _ _ => true
  | .unlockPassword _ => true
  | .unlockChallenge _ => true
  | .unlockSignedResponse _ => true
  | .challengeExpiry => true
  | .resetWarm _ b => b.ok
  | .resetPier _ => true
  | .resetLink _ => true
  | .packetAccept _ _ _ => true
  | .jwRd tag addr len _ upset => jwTagOk tag && addrOk addr && len < 65536 && upsetOk upset
  | .jwWr tag addr data _ upset => jwTagOk tag && addrOk addr && data.length < 65536 && upsetOk upset
  | .jwCpl tag _ => jwTagOk tag
  | .snpInv l writes => jwTagOk l.tag && addrOk l.addr && writes.all hostRun
  | .jwLinkDown crcErrors retries r => crcErrors < 2 ^ 32 && retries < 65536 && r.count < 65536
  | .jwLinkUp _ verMin verMax _ => verMin < 256 && verMax < 256
  | .evtPresent => true
  | .evtDone _ => true
  | .evtFlush => true
  | .eventRecordDone => true
  | .mailboxEnable value _ => value.getLsbD 0
  | .mailboxDisable value => !value.getLsbD 0
  | .regWrite addr _ => addrOk addr
  | .unitRepairWrite _ _ _ => true
  | .watchSel _ _ => true
  | .parapetSel _ => true
  | .portRoleWrite _ _ => true
  | .senseCfgWrite _ held mv => (held.map Prod.fst).eraseDups.length = held.length && mv < 655360
  | .softRepair _ _ _ _ => true
  | .hardRepair _ _ _ _ => true
  | .releaseSoftRepair _ _ _ _ => true
  | .powerWake => true
  | .powerDoze => true
  | .powerPark => true
  | .holdupMeasure => true
  | .holdupMeasureDone bank v1 v2 => bankOk bank v1 v2
  | .holdupAgeExpiry => true
  | .serviceClose => true
  | .ownerEnrolSlot _ _ => true
  | .ownerRevokeSlot _ _ => true
  | .ownerWritePassword _ => true
  | .ownerWriteDebugKey _ => true
  | .sbRegRead addr => addrOk addr
  | .sbRegWrite addr _ => addrOk addr
  | .sbImageWrite offset data => offset < 2 ^ 32 && 1 ≤ data.length && data.length ≤ 240
  | .sbServiceOp op => op.toNat = 0 || 3 < op.toNat
  | .dataFlit _ bytes _ _ _ => flitLen bytes
  | .nullFlit _ bytes _ _ _ => flitLen bytes
  | .retryReq _ bytes _ _ _ => flitLen bytes
  | .ackTimeout _ => true
  | .linkHello _ h => h.hello.ok && h.side.ok
  | .linkStart n => n.side.ok
  | .linkRecover n => n.side.ok
  | .laneSignalDetect _ _ => true
  | .linkTrainDone _ => true
  | .linkTrainFail _ => true
  | .alignLock _ _ => true
  | .alignTimeout _ => true
  | .exchangeRetry _ => true
  | .laneSignalLoss _ => true
  | .lockLoss _ => true
  | .recoveryTimeout _ => true
  | .routeMessage _ _ m => m.ok
  | .remoteWrite _ _ h tag epoch step offset window data => h.ok && (MsgBody.remoteWrite tag epoch step offset window data).ok
  | .remoteRead _ _ h tag epoch offset window length => h.ok && (MsgBody.remoteRead tag epoch offset window length).ok
  | .readReply _ _ h tag status data => h.ok && (MsgBody.readReply tag status data).ok
  | .ringTile _ _ h c seg side data ext => h.ok && (MsgBody.ringTile c seg side data ext).ok
  | .mirrorWrite _ _ h mseq object offset data => h.ok && (MsgBody.mirrorWrite mseq object offset data).ok
  | .keystone _ _ h mseq step => h.ok && word64 mseq && step < 2 ^ 32
  | .keystoneAck _ _ h mseq step => h.ok && word64 mseq && step < 2 ^ 32
  | .syncForm _ _ h tag step entries kind => h.ok && tag < 2 ^ 32 && step < 2 ^ 32 && entries < 2 ^ 32 && kind < 256
  | .syncMap _ _ h tag entries =>
    h.ok && tag < 2 ^ 32 && entries.length ≤ 26 && entries.all (fun e => e.1 < 2 ^ 22 && e.2 < 2 ^ 40)
  | .ready _ _ h tag mseq => h.ok && tag < 2 ^ 32 && word64 mseq
  | .mirrorApplied _ _ h tag mseq => h.ok && tag < 2 ^ 32 && word64 mseq
  | .mirrorResend _ _ h tag mseq => h.ok && tag < 2 ^ 32 && word64 mseq
  | .keystoneRefused _ _ h tag mseq step reason =>
    h.ok && tag < 2 ^ 32 && word64 mseq && step < 2 ^ 32 && reason < 256
  | .handover _ _ h tag step => h.ok && tag < 2 ^ 32 && step < 2 ^ 32
  | .probe _ _ h trunc tag tSend hops => h.ok && (MsgBody.probe false trunc tag tSend 0 hops).ok
  | .probeReply _ _ h trunc tag tSend tReply hops _ => h.ok && (MsgBody.probe true trunc tag tSend tReply hops).ok
  | .mirrorAppliedTimer => true
  | .mirrorGapTimeout _ => true
  | .keystoneResendTimer => true
  | .pairCommitTimeout => true
  | .pairSilenceTimeout => true
  | .bulkExtentCopy upset => upsetOk upset
  | .pairAliveLow => true
  | .pairAliveHigh => true
  | .thermAlertAssert => true
  | .thermAlertDeassert => true
  | .junctionReading temps => tempsOk temps
  | .thermTripClear => true
  | .supplyWindowEnd vin iin r => vin < 65536 && iin < 65536 && r.watts < 65536 && r.bank ≤ 6000
  | .fstepUpdate => true
  | .replicaMonitorFail _ => true
  | .refclkLost => true
  | .refclkRestored => true
  | .wideReseed => true
  | .routerFail _ _ => true
  | .braceEnter mv => mv < 655360
  | .supplyRecoveryLevel => true
  | .braceExit => true
  | .supplyReset => true
  | .supplyResetRelease b => b.ok
  | .holdupExhausted => true
  | .journalWriteDone retired => retired.all (fun b => b < 2 ^ 64)
  | .powerOn => true
  | .moduleReset => true
  | .resetRelease m => m.ok
  | .idleEntry => true
  | .gateSrTimeout _ => true
  | .parkLatchWake _ => true
  | .parkWakeTimeout _ => true
  | .hostRequestAbort tag _ => jwTagOk tag
  | .senseGlitchRejected _ => true
  | .recoveryLevelBreak => true
  | .pierCacheFill _ line upset => line < 2 ^ 33 && upsetOk upset
  | .stallRelease _ cycles => slotOk cycles
  | .pauneIdWrite _ => true
  | .authLockoutExpiry => true
  | .dynamicAddressAssignment _ => true

end Sys2Proof
end

