-- ==== Sys2Proof/Safety.lean ====
section
/-! DEFINITION. What counts as a safe run: the queue holds well-formed commands, memory and the register file keep their canonical form,
and no command is left without an effect. -/
namespace Sys2Proof.Machine

/-- Memory is in its canonical form: addresses rise strictly, and no listed byte is one that an unlisted address reads as. -/
abbrev Memory.wf (s : State) : Prop := NMap.wf memDflt s.mem = true

/-- The register file is in its canonical form. -/
abbrev Regs.wf (s : State) : Prop := NMap.wf regDflt s.regs = true

/-- The step answers a next state. -/
def Goes (o : Host.Outcome State Fault Refusal) : Prop := ∃ t, o = .next t

/-- Command `i` completes in state `s`, and the state after it has the property `P`. -/
def Runs (i : Sys2Proof.Instr) (s : State) (P : State → Prop) : Prop := ∃ t, exec i s = .next t ∧ P t

/-- Pier `p` can issue slot `t` at once: its controller issues slots, no work in progress of its stall domain has its next event by then
or has failed the check of the slot, the slot's bundle is in the pier cache, and no issuing pier of the domain lacks the bundle of an
earlier slot that holds no instruction (R289, R301, R302). -/
def State.readyAt (s : State) (p : PierIx) (t : Nat) : Prop :=
  s.issuing p = true ∧ (∀ w ∈ s.flight, s.domOf w.pier = s.domOf p → max (32 * t) 31 < w.key) ∧
    s.lateItems (s.domOf p) t = [] ∧ s.bundleLate p t = none ∧ s.gapLate (s.domOf p) t = none

/-- The state whose slot `t` pier `p` has issued, before the instruction of the slot has its effect (R314). -/
def State.issuedAt (s : State) (p : PierIx) (t : Nat) : State := s.slotIssued (s.domOf p) t

/-- The state whose slot `t` pier `p` has issued with a vector instruction, before the effect (R151, R314). -/
def State.issuedV (s : State) (p : PierIx) (t : Nat) : State := (s.issuedAt p t).vecBusy p

/-- What an instruction of pier `p` needs is at hand in slot `t`: its items are ready, and its beats can be
claimed and come before no claim of other work (R163, R302). -/
def Needs.met (x : Needs) (s : State) (p : PierIx) (t : Nat) : Prop :=
  x.late = none ∧ s.beatLate false p t x.order x.ports = false ∧ s.outranks p t x.order x.ports = false

/-- The state whose slot `t` pier `p` has issued, with the beats of its instruction claimed and granted (R164, R166, R314). -/
def State.issuedFor (s : State) (p : PierIx) (t : Nat) (x : Needs) : State :=
  ((s.claim p t x.order x.ports true).grantPorts p (reqOf x.order) x.ports).slotIssued (s.domOf p) t

/-- The same with a vector instruction (R151). -/
def State.issuedVFor (s : State) (p : PierIx) (t : Nat) (x : Needs) : State := (s.issuedFor p t x).vecBusy p

/-- No double-bit error stands in the words of the deck store (R162). -/
def State.noUe (s : State) : Prop := ∀ e ∈ s.deckFlips, e.2 < 2

/-- Mailbox slot `k` runs packet `p` with opcode `op`, whose turn it is, and a long command has not begun its work (R449, R450, R452). -/
def State.runsPacket (s : State) (k : MailIx) (op : Nat) (p : Packet) : Prop :=
  (s.mailSlot k.val).running = some p ∧ p.opcode = op ∧ p.begun = false ∧ s.cmdWaits k.val p = false

/-- The command of mailbox slot `k` is complete, and its last reply is kept with STATUS and the result bytes (R451, R456). -/
def State.replied (s : State) (k : MailIx) (c : Cc) (result : List Byte) : Prop :=
  (s.mailSlot k.val).running = none ∧ ((s.mailSlot k.val).reply.drop 12).take 2 = leBytes 2 c.num ∧
    ((s.mailSlot k.val).reply.drop 24).take 40 = zeroPad 40 result

/-- An event of a port completes; `P` holds of the state before what the event does to the bond and the pair (R387, R427, R428). -/
def OnPort (i : Sys2Proof.Instr) (s : State) (P : State → Prop) : Prop :=
  ∃ t : State, exec i s = .next (t.bondChange (!s.bondActive.isEmpty)) ∧ P t

/-- The state in which port `n` has taken the flits of message `m` in order: they are counted, the expected SEQ has moved on, and the
credits of their buffers are owed (R382, R383). -/
def State.tookMsg (s : State) (n : PortIx) (dl : Fin 2) (m : Msg) : State :=
  let x := s.link n.val
  let t := (s.setLink n.val { x with expect := (x.expect + Msg.flits m) % 65536, accepted := true, discarding := false }).wrapAdd
    Fld.PORT_RX_FLITS_FLITS n.val (Msg.flits m)
  t.oweFor n.val dl.val (2 * m.body.cls + dl.val) (Msg.flits m) m

/-- Command `i`, a message on port `n`, completes: `v` is the state in which the message has had its effect, and a NULL flit carries
the acknowledgement back (R382, R398). -/
def Arrives (i : Sys2Proof.Instr) (s : State) (n : PortIx) (v : State) : Prop :=
  exec i s = .next ((v.emitNull n.val).bondChange (!s.bondActive.isEmpty))

/-- What a command of pier `p` leaves as it was in `s`: every byte outside the deck-store window of the pier, the mailbox, homes, objects,
windows, links and the binding; every arch, spandrel entry, gang and copy run of another pier; every pier of another stall domain. Of
another pier of the domain the issue or the stall of a slot may write the open loops, the cursor, the note of the stall and the claims and
grants of beats, and which landings and releases its checks have seen. -/
def State.leavesOthers (s : State) (p : PierIx) (u : State) : Prop :=
  (∀ b, ¬ (deckWindow p ≤ b ∧ b < deckWindow p + windowSize) → u.byte b = s.byte b) ∧
  u.mail = s.mail ∧ u.objects = s.objects ∧ u.homes = s.homes ∧ u.windows = s.windows ∧ u.links = s.links ∧ u.outbox = s.outbox ∧
  u.binding = s.binding ∧ u.pending = s.pending ∧
  (∀ q a, q ≠ p → u.arch q a = s.arch q a ∧ ∀ i < 65536, u.entry q a i = s.entry q a i) ∧
  (∀ q n, q ≠ p → u.gang (streamIx q n) = s.gang (streamIx q n)) ∧ (∀ q d, q ≠ p → u.run q d = s.run q d) ∧
  (∀ q, q ≠ p → ∀ k < 1024, u.slot q k = { s.slot q k with landed := (u.slot q k).landed }) ∧
  (∀ q r, q ≠ p → u.region q r = { s.region q r with freed := (u.region q r).freed }) ∧
  (∀ q, s.domOf q ≠ s.domOf p → u.pier q = s.pier q) ∧
  (∀ q, q ≠ p → u.pier q = { s.pier q with
    loops := (u.pier q).loops
    stall := (u.pier q).stall
    cursor := (u.pier q).cursor
    claims := (u.pier q).claims
    grants := (u.pier q).grants
    haltHeld := (u.pier q).haltHeld })

/-- The priority stack as R471 has it: each level above the one below it, and every notice, taken or pending, at a level from 0 to 7
(R470). -/
def State.stackOk (s : State) : Prop :=
  (s.taken.map Notice.level).Pairwise (fun a b => a < b) ∧ ∀ n ∈ s.taken ++ s.notices, n.level ≤ 7

/-- What every step keeps: memory, the register file and the bytes of every save in their canonical forms, and the priority stack in
order. -/
def State.Inv (s : State) : Prop :=
  Memory.wf s ∧ Regs.wf s ∧ (∀ x ∈ s.saves, ∀ p ∈ x.piers, NMap.wf memDflt p.bytes = true) ∧ s.stackOk

/-- A command has a place in the safe runs of a state: it is well formed, and it is no service operation with service access open, the one
command that the spec gives no effect (R556). -/
def Safe (s : State) (i : Sys2Proof.Instr) : Prop := i.wf = true ∧ Goes (exec i s)

end Sys2Proof.Machine
end

