-- ==== Sys2Proof/Certificates/Slice0/Obligations.lean ====
section
/-! DEFINITION. The statements about the model that are put to the provers. -/

open Sys2Proof Sys2Proof.Machine

/-- LOADS, PASS, DRAIN and ZERO in a slot that issues with its items ready and with no fault: LOADS reads its first row and goes on to read
the others, one in each slot, until the tile stands in the grid with its format (R77, R78); the pass starts (R84, R99); the drain path and
the port are occupied, the slot of the output tile is reserved, one use is taken where the drain rounds with the reproducible generator,
and the reads are on their way (R90, R93, R360); the clears are on their way (R89). -/
def Obligations.ArchInstructionsRun : Prop :=
  (∀ (s : State) (w : Work) (a : ArchIx) (x : Tile), w.kind = .loadEnd a x → let u := (s.part w).s
    (u.arch w.pier a).rows = x.rows ∧ (u.arch w.pier a).exts = x.exts ∧ (u.arch w.pier a).scale = x.scale ∧
    (u.arch w.pier a).badRow = none ∧ (u.arch w.pier a).next = none ∧
    u.flag Fld.ARCH_STATUS_STAT_VALID (archIx w.pier a) = true ∧
    u.fld Fld.ARCH_STATUS_STAT_FMT (archIx w.pier a) = x.tag.toNat ∧
    u.fld Fld.ARCH_STATUS_STAT_ORIENT (archIx w.pier a) = x.orient.toNat ∧ u.mem = s.mem ∧ u.spandrel = s.spandrel) ∧
  ∀ (s : State) (p : PierIx) (t : Nat), s.readyAt p t →
    (∀ (a : ArchIx) (r : RegionIx) (d : Nat) (keep : Bool) (f : Fmt) (i : Nat) (x : Tile) (skew : Bool),
      (s.loadsNeeds p t a r d keep).met s p t → s.noUe →
      let v := s.issuedFor p t (s.loadsNeeds p t a r d keep)
      v.loadsBusy p a t = false → v.feed p r (firstOff d keep) f false (v.readStale p r (firstOff d keep) t) = .tile i x skew →
      Runs (.loads p t a r d keep f) s (fun u =>
        (u.arch p a).loadSlot = some t ∧ (u.arch p a).next = some f ∧
        ⟨p, t + 1, none, false, false, 1, 63, .load a r i keep { x with
          rows := [s.readRow p (s.slotOf p r i) 0], exts := [s.readExt p r i 0] }⟩ ∈ u.flight ∧
        (∀ b, u.byte b = s.byte b) ∧ u.spandrel = s.spandrel)) ∧
    (∀ (a : ArchIx) (d : PassDesc) (r : RegionIx) (off : Nat) (keep : Bool) (wf : Fmt),
      (s.passNeeds false p t a d r off keep).met s p t →
      let v := s.issuedFor p t (s.passNeeds false p t a d r off keep)
      (d.src.onRing = true → v.noSegment p = false) → v.gridTooEarly p a t = false →
      v.passGrid p a = some wf → wf.perCell = d.sfmt.perCell →
      lastEntry (d.base + (d.tiles - 1) * d.tstride) d.pitch (d.shape.width wf.perCell) < v.capacity p a →
      exec (.pass p t a d r off keep) s = .next (v.startPass p t a d (d.shape.width wf.perCell) r off keep)) ∧
    (∀ (a : ArchIx) (d : DrainDesc) (base pitch : Nat) (clear : Bool) (r : RegionIx),
      s.roomLate false p r 1 t = none →
      let v := s.issuedAt p t
      let n := (drainTime (v.comp p a) d).total
      (v.pier p).pathTo ≤ t → (v.arch p a).portTo ≤ t → lastEntry base pitch d.outFmt.cols < v.capacity p a →
      Runs (.drain p t a d base pitch clear r) s (fun u =>
        (u.arch p a).portFrom = t ∧ (u.arch p a).portTo = t + n ∧ (u.pier p).pathFrom = t ∧ (u.pier p).pathTo = t + n ∧
        newWork p (t + 8) n (.drain a ⟨t, d, base, pitch, clear, r, s.reserveIx p r, s.useOf p d.stream.val, s.freeCtr, s.stepNo,
          [], [], false⟩) ∈ u.flight ∧ u.regions = (s.reserve p r).regions ∧
        u.useOf p d.stream.val = (s.useOf p d.stream.val + (if d.takesUse then 1 else 0)) % 2 ^ Fld.RNG_USE_USE.width ∧
        (∀ b, u.byte b = s.byte b) ∧ u.spandrel = s.spandrel)) ∧
    (∀ (a : ArchIx) (base count : Nat), let v := s.issuedAt p t
      (v.arch p a).portTo ≤ t → base + count ≤ v.capacity p a →
      Runs (.zero p t a base count) s (fun u =>
        (u.arch p a).portFrom = t ∧ (u.arch p a).portTo = t + zeroCycles (v.comp p a) count ∧
        u.flight = s.flight ++ [newWork p (t + 8) (zeroCycles (v.comp p a) count) (.zero a base count)] ∧
        (∀ b, u.byte b = s.byte b) ∧ u.spandrel = s.spandrel))

/-- INJECT, FLIP, RELEASE, ARM, COPY and CWAIT in a slot that issues with its items ready and with no fault: the stream takes the
carriageway, its first row is placed and its words are checked where they enter piers (R114, R120), the halves of a region with two are to
swap (R174), the first release is made and the others are on their way (R171), the gang is armed at its first tile, with ARMED set and DONE
clear for each of its streams (R190), the descriptor runs from its first tile (R274), and CWAIT of a run without a fault
goes on (R274). -/
def Obligations.RegionAndEngineInstructionsRun : Prop :=
  ∀ (s : State) (p : PierIx) (t : Nat), s.readyAt p t →
    (∀ (c : Cwy) (r : RegionIx) (tiles : Nat) (f : Fmt) (exit : Bool) (off : Nat) (keep : Bool) (g : SegIx),
      let needs := s.workNeeds false (injectWork p t 0 c r tiles f exit off keep)
      let v := s.issuedFor p t needs
      needs.met s p t → v.domOf p = .seg g → v.fld Fld.RING_CFG_ROLE p.val = headRole c → v.injectBusy g c t = false →
      exec (.inject p t c r tiles f exit off keep) s =
        .next ((({ v with ring := v.ring ++ [RingStream.mk g c t exit f tiles [] [] []] }.addWork
          (newWork p (t + 57) (v.segArches g + 64 * tiles - 1) (.ringEntry g c t))).addWork
            (newWork p (t + 56 + v.segArches g + 64 * tiles) 1 (.streamEnd g c t))).begin
              (injectWork p t g c r tiles f exit off keep))) ∧
    (∀ (c : Cwy) (r : RegionIx) (tiles : Nat) (f : Fmt) (exit : Bool) (off : Nat) (keep : Bool) (g : SegIx) (i : Nat) (x : Tile)
        (skew : Bool),
      let needs := s.workNeeds false (injectWork p t 0 c r tiles f exit off keep)
      let v := s.issuedFor p t needs
      needs.met s p t → v.domOf p = .seg g → v.fld Fld.RING_CFG_ROLE p.val = headRole c → v.injectBusy g c t = false →
      0 < tiles → s.noUe → v.feed p r (firstOff off keep) f true (v.readStale p r (firstOff off keep) t) = .tile i x skew →
      Runs (.inject p t c r tiles f exit off keep) s (fun u =>
        ⟨g, c, t, exit, f, tiles, [⟨s.readRow p (s.slotOf p r i) 0, s.readExt p r i 0⟩], [(x.scale, x.stepTag)], []⟩ ∈ u.ring ∧
        ⟨p, t + 1, none, false, false, 1, 64 * tiles - 1, .inject t g c r f exit off keep i⟩ ∈ u.flight ∧
        newWork p (t + 57) (v.segArches g + 64 * tiles - 1) (.ringEntry g c t) ∈ u.flight ∧
        newWork p (t + 56 + v.segArches g + 64 * tiles) 1 (.streamEnd g c t) ∈ u.flight ∧
        (∀ b, u.byte b = s.byte b) ∧ u.archs = s.archs ∧ u.spandrel = s.spandrel)) ∧
    (∀ (r : RegionIx), s.halves p r = true → s.flipLate false p r t = none →
      exec (.flip p t r) s = .next ((s.issuedAt p t).addWork (newWork p t 1 (.flip r)))) ∧
    (∀ (r : RegionIx) (count : Nat), s.relLate p r (s.pendingRel p r t) t = none →
      exec (.release p t r count) s = .next ((s.issuedAt p t).addWork (nowWork p t count (.release r)))) ∧
    (∀ (n : Fin 16), (s.issuedAt p t).streamBit Fld.APPROACH_STATUS_ARMED p n.val = false →
      Runs (.arm p t n) s (fun u => (u.gang (streamIx p n)).next = 0 ∧
        (∀ k, k < s.fld Fld.STREAM_DESC0_GANG (streamIx p n) → n.val + k < 16 →
          u.streamBit Fld.APPROACH_STATUS_ARMED p (n.val + k) = true ∧ u.streamBit Fld.APPROACH_STATUS_DONE p (n.val + k) = false) ∧
        (u.gang (streamIx p n)).reserved = (s.gang (streamIx p n)).reserved ∧ u.flight = s.flight ∧
        (∀ b, u.byte b = s.byte b))) ∧
    (∀ (d : Fin 8), s.runDone p d = true → exec (.copy p t d) s = .next ((s.issuedAt p t).setRun p d ⟨true, 0, none⟩)) ∧
    (∀ (d : Fin 8), s.runDone p d = true → (s.run p d).fault = none → exec (.cwait p t d) s = .next (s.issuedAt p t))

/-- TACQ, TREL, LOOP, HALT, JOINT and BARRIER in a slot that issues with its items ready: tokens are taken within the granted budget
(R324, R326) and given back (R324), a loop opens (R298), the pier halts, and its tokens return when its arch states have ended (R299,
R331), or it waits at a joint, with every open statistics tile written (R155, R305), or at the barrier that it names (R306). -/
def Obligations.ControlInstructionsRun : Prop :=
  ∀ (s : State) (p : PierIx) (t : Nat), s.readyAt p t →
    (∀ n, s.tacqLate false p t n = none → Instr.tacq p t n ∉ s.held.map Held.instr →
      exec (.tacq p t n) s = .next ((s.issuedAt p t).tacqEffect p t n)) ∧
    (∀ n all, s.rampFull (spanOf p) (s.cycleOf p t) (s.trelAmount p n all) = false →
      exec (.trel p t n all) s = .next ((s.issuedAt p t).trelEffect p t n all)) ∧
    (∀ count body first len, ((s.issuedAt p t).pier p).loops.length < 7 →
      Runs (.loop p t count body first len) s (fun u =>
        (u.pier p).loops = ⟨count, body, first, len⟩ :: ((s.issuedAt p t).pier p).loops ∧
        u.fld Fld.PCTL_STATUS_LOOP_DEPTH p.val = ((s.issuedAt p t).pier p).loops.length + 1 ∧ u.flight = s.flight ∧
        (∀ b, u.byte b = s.byte b))) ∧
    (Runs (.halt p t) s (fun u => u.fld Fld.PCTL_STATUS_STATE p.val = 5 ∧
      u.flight = s.flight ++ [newWork p (s.archsEnd p t) 1 .tokensBack] ∧ (∀ b, u.byte b = s.byte b))) ∧
    (∀ config, firstLate ((s.pier p).stats.map (fun e => s.roomLate false p e.region 1 t)) = none →
      Runs (.joint p t config) s (fun u => (u.pier p).atJoint = some config ∧ u.fld Fld.PCTL_STATUS_STATE p.val = 4 ∧
        (u.pier p).stats = [] ∧ (∀ w ∈ s.flight, w ∈ u.flight) ∧ ((s.pier p).stats = [] → u.flight = s.flight) ∧
        (∀ e ∈ (s.pier p).stats, ∀ rs, (s.pier p).records e.region = some rs → ∃ i,
          newWork p (t + 17) 1 (.land e.region i (statTile s.stepNo rs) false) ∈ u.flight ∧
          ∀ q < 16, ∃ ports, newWork p (t + 1 + q) 1 (.put 4 (s.slotOf p e.region i)
            ((List.range 4).map (fun n => (4 * q + n, (statTile s.stepNo rs).row (4 * q + n)))) ports) ∈ u.flight) ∧
        (∀ b, u.byte b = s.byte b))) ∧
    (∀ mask unseg, ((s.issuedAt p t).firstMask p mask unseg).getD (mask, unseg) = (mask, unseg) →
      Runs (.barrier p t mask unseg) s (fun u => (u.pier p).atBarrier = some (mask, unseg) ∧
        u.fld Fld.PCTL_STATUS_STATE p.val = 4 ∧ u.flight = s.flight ∧ (∀ b, u.byte b = s.byte b)))

/-- The register instructions of the vector unit in a slot that issues, with operands whose results have arrived: the result can be
read from the destination once its latency has passed, in the lanes that the mask enables, and the other lanes keep what they held (R70,
R71, R146, R148). The sign of a zero that a maximum or minimum of both zeros gives is free. -/
def Obligations.VectorArithmeticRuns : Prop :=
  ∀ (s : State) (p : PierIx) (t : Nat) (vd va vb vc : VReg) (md : MReg) (mask : Option MReg),
    s.readyAt p t →
    (∀ k ∈ [va.val, vb.val, vc.val, vd.val, 64 + md.val] ++ (mask.toList.map (fun m => 64 + m.val)),
      s.notReady p t k = false) →
    let lanes (v : VReg) : Lanes := (s.readV p t v).1
    let on : BitVec 128 := (s.enable p t mask).1
    let old : BitVec 128 := (s.readM p t md).1
    let keep (x : Lanes) : Lanes :=
      (List.range 128).map (fun l => if on.getLsbD l then x.getD l 0 else (lanes vd).getD l 0)
    (∀ fn, Runs (.varith p t fn vd va vb vc mask) s (fun u => ∃ z : List Bool,
      (u.readV p (t + 4) vd).1 = keep ((List.range 128).map (fun l =>
        arithLane fn (z.getD l false) ((lanes va).getD l 0) ((lanes vb).getD l 0)
          ((if fn = .fma then lanes vc else []).getD l 0))) ∧ u.flight = s.flight ∧ (∀ b, u.byte b = s.byte b))) ∧
    (∀ fn, Runs (.vcmp p t fn md va vb mask) s (fun u =>
      (u.readM p (t + 4) md).1 = (old &&& ~~~on) |||
        (maskOf ((List.range 128).map (fun l => cmpLane fn ((lanes va).getD l 0) ((lanes vb).getD l 0))) &&& on) ∧
      u.flight = s.flight ∧ (∀ b, u.byte b = s.byte b))) ∧
    (Runs (.vsel p t vd va vb md) s (fun u =>
      (u.readV p (t + 4) vd).1 = (List.range 128).map (fun l =>
        if old.getLsbD l then (lanes va).getD l 0 else (lanes vb).getD l 0) ∧
      u.flight = s.flight ∧ (∀ b, u.byte b = s.byte b))) ∧
    (∀ fn, Runs (.vsfu p t fn vd va mask) s (fun u =>
      (u.readV p (t + 15) vd).1 = keep ((lanes va).map (sfuLane fn)) ∧ u.flight = s.flight ∧
      (∀ b, u.byte b = s.byte b))) ∧
    (∀ isMax, Runs (.vred p t isMax vd va mask) s (fun u => ∃ z : List Bool,
      (u.readV p (t + 28) vd).1 = keep (redTree (fun k x y => if isMax then f32Max (z.getD k false) x y else f32Add x y)
        7 0 (lanes va) :: List.replicate 127 0) ∧ u.flight = s.flight ∧ (∀ b, u.byte b = s.byte b)))

/-- VRNG, VLDC and USCAL in a slot that issues: the reproducible form takes one use of its stream and writes the uniform values of its
blocks, in one register or a pair (R360, R362), the wide form writes the uniform value of a free 32-bit word in each lane of its one or two
registers, readable 8 slots later (R362, R363; that nothing fixes these words is log 3); the constants come from the pier cache (R150), and
the latched scalar is in every lane (R353). -/
def Obligations.VectorSourcesRun : Prop :=
  ∀ (s : State) (p : PierIx) (t : Nat) (vd : VReg), s.readyAt p t →
    (∀ stream : Fin 64, Runs (.vrng p t 0 vd stream) s (fun u =>
      u.fld Fld.RNG_USE_USE (rngIx p stream.val) =
        (s.fld Fld.RNG_USE_USE (rngIx p stream.val) + 1) % 2 ^ Fld.RNG_USE_USE.width ∧
      (u.readV p (t + 8) vd).1 = s.uniform p stream.val (s.useOf p stream.val) 0 ∧ u.freeCtr = s.freeCtr ∧
      (∀ b, u.byte b = s.byte b))) ∧
    (∀ stream : Fin 64, Runs (.vrng p t 1 vd stream) s (fun u =>
      u.fld Fld.RNG_USE_USE (rngIx p stream.val) =
        (s.fld Fld.RNG_USE_USE (rngIx p stream.val) + 1) % 2 ^ Fld.RNG_USE_USE.width ∧
      (u.readV p (t + 8) vd).1 = s.uniform p stream.val (s.useOf p stream.val) 0 ∧
      (u.readV p (t + 8) (nextReg vd)).1 = s.uniform p stream.val (s.useOf p stream.val) 32 ∧ u.freeCtr = s.freeCtr ∧
      (∀ b, u.byte b = s.byte b))) ∧
    (∀ (form : Fin 4) (stream : Fin 64), 2 ≤ form.val →
      let free (k : Nat) : Lanes := (List.range 128).map (fun l => laneUniform ((s.freeAt (k + l)).extractLsb' 0 32))
      Runs (.vrng p t form vd stream) s (fun u =>
        (u.readV p (t + 8) vd).1 = free 0 ∧ (form.val = 3 → (u.readV p (t + 8) (nextReg vd)).1 = free 128) ∧
        (form.val = 2 → ∀ v : VReg, v ≠ vd → (u.pier p).vregs.slice (fun _ => 0) (128 * v.val) 128 =
          (s.pier p).vregs.slice (fun _ => 0) (128 * v.val) 128) ∧
        u.freeCtr = s.freeCtr + (if form.val = 3 then 256 else 128) ∧
        u.fld Fld.RNG_USE_USE (rngIx p stream.val) = s.fld Fld.RNG_USE_USE (rngIx p stream.val) ∧
        u.flight = s.flight ∧ (∀ b, u.byte b = s.byte b))) ∧
    (∀ (offset : Nat) (f : Fmt), (∀ l ∈ vldcLines offset f, ((s.pier p).cacheLine l).isSome = true) →
      Runs (.vldc p t vd offset f) s (fun u =>
        (u.readV p (t + 10) vd).1 = (List.range 128).map (fun l => rn32 (f.elem.decode
          (leNat ((List.range (f.elemBits / 8)).map (fun b => (s.pier p).cacheByte (64 * offset + f.elemBits / 8 * l + b)))))) ∧
        u.flight = s.flight ∧ (∀ b, u.byte b = s.byte b))) ∧
    (∀ (g : Fin 8) (i : Nat), Runs (.uscal p t vd g i) s (fun u =>
      (u.readV p (t + 4) vd).1 = List.replicate 128 (s.scalar p g i) ∧ u.flight = s.flight ∧
      (∀ b, u.byte b = s.byte b)))

/-- The tile instructions of the vector unit and UPD in a slot that issues with their items ready and with no fault: VLD writes the
part's lanes (R147); the first VST of a tile reserves its slot, each writes the rows of its part 5 slots later, and the last lets the tile
land then (R147); VTRANS reserves its results and reads its rows from its own slot on, and after the last row the transposes land 8 slots
later (R149); UPD makes the update engine busy with its descriptor, and its first weight tile begins (R343). The slots in which VST
and VTRANS write and land are the model's choice (log 65). -/
def Obligations.VectorTileInstructionsRun : Prop :=
  (∀ (s : State) (p : PierIx) (t : Nat), s.readyAt p t →
    (∀ (vd : VReg) (r : RegionIx) (part : Nat) (keep : Bool) (f : Fmt) (mask : Option MReg) (i : Nat) (x : Tile) (skew : Bool),
      (s.vldNeeds p t r part f).met s p t → (∀ m, mask = some m → s.notReady p t (64 + m.val) = false) → s.noUe →
      (s.issuedVFor p t (s.vldNeeds p t r part f)).vecFeed p r 0 f = .tile i x skew →
      Runs (.vld p t vd r part keep f mask) s (fun u =>
        (u.readV p (t + 10) vd).1 = (List.range 128).map (fun l =>
          if (s.enable p t mask).1.getLsbD l then (partLanes f x part).getD l 0
          else ((s.pier p).vregs.slice (fun _ => 0) (128 * vd.val) 128).getD l 0) ∧
        u.flight = s.flight ++ [newWork p (t + 1) 1 (.readEnd r (!keep))] ∧ (∀ b, u.byte b = s.byte b))) ∧
    (∀ (va : VReg) (r : RegionIx) (part : Nat) (last : Bool) (f : Fmt) (mask : Option MReg),
      ((s.pier p).build r = none → s.roomLate false p r 1 t = none) → s.notReady p t va.val = false →
      (∀ m, mask = some m → s.notReady p t (64 + m.val) = false) →
      Runs (.vst p t va r part last f mask) s (fun u =>
        let b := ((s.pier p).build r).getD ⟨r, s.reserveIx p r, f, vecTile f s.stepNo⟩
        let tile := storePart f b.tile part (mergeLanes f b.tile part (s.enable p t mask).1 (s.readV p t va).1)
        u.regions = (if ((s.pier p).build r).isSome then s.regions else (s.reserve p r).regions) ∧
        (u.pier p).build r = (if last then none else some { b with tile := tile }) ∧
        u.flight = s.flight ++ newWork p (t + 5) 1 (.put 4 (s.slotOf p r b.idx) ((partRows f part).map (fun n => (n, tile.row n)))
            (putPorts (s.slotOf p r b.idx) (partRows f part))) ::
          (if last then [newWork p (t + 5) 1 (.land r b.idx { tile with stepTag := BitVec.ofNat 32 s.stepNo } true)] else []) ∧
        (∀ a, u.byte a = s.byte a))) ∧
    (∀ (src dst : RegionIx) (d : Nat) (keep : Bool) (f : Fmt) (ts : List Tile) (v : State),
      let needs := s.vtransNeeds false p t src dst d keep f
      let os := offsets d (transTiles f) keep
      needs.met s p t → (s.issuedVFor p t needs).vecReads p t src f 0 0 os = (some ts, v) →
      let outs := ts.foldl (fun (a : State × List Nat) _ => (a.1.reserve p dst, a.2 ++ [a.1.reserveIx p dst])) (v, [])
      exec (.vtrans p t src dst d keep f) s = .next (outs.1.begin (nowWork p t 64 (.transpose src dst f
        (os.map (fun o => s.readIx p src o t)) outs.2 keep (ts.map (fun y => { y with rows := [] })))))) ∧
    (∀ (n : Fin 1024) (d : UpdDesc) (tiles : Nat), let needs := s.workNeeds false (updWork p t d tiles s.launchStep)
      needs.met s p t → exec (.upd p t n d tiles) s = .next ((s.issuedFor p t needs).updEffect p t n d tiles))) ∧
  (∀ (s : State) (w : Work) (src dst : RegionIx) (f : Fmt) (ixs outs : List Nat) (keep : Bool) (ts : List Tile),
    w.kind = .transpose src dst f ixs outs keep ts → w.done = 63 → ixs.length = ts.length → s.noUe →
    let full := (ts.zip ixs).map (fun e => { e.1 with rows := e.1.rows ++ [s.readRow w.pier (s.slotOf w.pier src e.2) 63] })
    (s.part w).left = none ∧ ∀ e ∈ outs.zip (transposed f full),
      newWork w.pier (w.due + 8) 1 (.land dst e.1 e.2 false) ∈ (s.part w).s.flight)

/-- The statistics instructions of the vector unit in a slot that issues with their items ready and with no fault: VSTAT and VSTATC take
their tiles and read the rows in the next slots (R147, R152, R155; the slots of the reads are the model's choice, log 130); after the last
row their end comes with the cycles that R152 and R155 give, and then the 128 records of those rows are appended to the open statistics
tile of the STATS region, which is written once it holds 1,024 (R153; the slots of its rows are those of VSTATF, the model's choice, log
131); VSTATF writes the open tile, whose slot is reserved and lands 17 slots later, and does nothing without one (R155). -/
def Obligations.StatisticsInstructionsRun : Prop :=
  (∀ (s : State) (p : PierIx) (t : Nat), s.readyAt p t →
    (∀ (mode : StatMode) (src stats : RegionIx) (d l : Nat) (eps : VReg) (ixs : List Nat) (v : State),
      let f := (s.issuedV p t).statFmt p src d
      let ds := (List.range (2 * l)).map (d + ·)
      let per := if f = .fp32 then 2 else 1
      firstLate ((List.range (2 * l)).map (fun j => s.readLate p src (d + j) t)) = none →
      (mode = .norm → s.notReady p t eps.val = false) →
      (s.issuedV p t).vecTiles p t src f ds = (some ixs, v) →
      exec (.vstat p t mode src stats d l eps) s = .next ((v.skipFree 128).addWork (newWork p (t + 1) (64 * ixs.length / per)
        (.stat ⟨t, .stat (statModeNum mode) l, src, f, ixs, 0, 64, per, stats,
          (if mode = .norm then (s.readV p t eps).1 else []).getD 0 0, 0, v.freeCtr, statCycles mode (l * f.cols), []⟩)))) ∧
    (∀ (softmax : Bool) (src stats : RegionIx) (parts : Nat) (group : Fin 8) (eps np : VReg) (ixs : List Nat) (v : State),
      firstLate ((List.range parts).map (fun j => s.readLate p src j t)) = none →
      (softmax = false → s.notReady p t eps.val = false ∧ s.notReady p t np.val = false) →
      (s.issuedV p t).vecTiles p t src .fp32 (List.range parts) = (some ixs, v) →
      exec (.vstatc p t softmax src stats parts group eps np) s = .next ((v.skipFree 128).addWork
        (newWork p (t + 1) (8 * ixs.length / 1) (.stat ⟨t, .combine softmax group.val, src, .fp32, ixs, 8 * group.val, 8, 1, stats,
          (if softmax then [] else (s.readV p t eps).1).getD 0 0, (if softmax then [] else (s.readV p t np).1).getD 0 0,
          v.freeCtr, combineCycles softmax parts, []⟩)))) ∧
    (∀ (stats : RegionIx) (rs : List (F32 × F32)), (s.pier p).records stats = some rs → s.roomLate false p stats 1 t = none →
      Runs (.vstatf p t stats) s (fun u => (u.pier p).records stats = none ∧ u.regions = (s.reserve p stats).regions ∧
        newWork p (t + 17) 1 (.land stats (s.reserveIx p stats) (statTile s.stepNo rs) false) ∈ u.flight ∧
        (∀ q < 16, newWork p (t + 1 + q) 1 (.put 4 (s.slotOf p stats (s.reserveIx p stats))
          ((List.range 4).map (fun n => (4 * q + n, (statTile s.stepNo rs).row (4 * q + n))))
          (putPorts (s.slotOf p stats (s.reserveIx p stats)) ((List.range 4).map (4 * q + ·)))) ∈ u.flight) ∧
        (∀ b, u.byte b = s.byte b))) ∧
    (∀ stats : RegionIx, (s.pier p).records stats = none → exec (.vstatf p t stats) s = .next (s.issuedV p t))) ∧
  (∀ (s : State) (w : Work) (x : StatRun), w.kind = .stat x → w.left = 1 → s.noUe → let p := w.pier
    (s.part w).left = none ∧ (∀ b, (s.part w).s.byte b = s.byte b) ∧
    newWork p (x.start + x.cycles) 1 (.statEnd { x with
      rows := x.rows ++ (x.rowsIn w.done).map (fun e => s.readRow p (s.slotOf p x.src e.1) e.2) }) ∈ (s.part w).s.flight) ∧
  (∀ (s : State) (w : Work) (x : StatRun), w.kind = .statEnd x → let p := w.pier
    let all := ((s.pier p).records x.stats).getD [] ++ x.records
    let u := (s.part w).s
    (all.length < 1024 → (s.pier p).atJoint = none → (u.pier p).records x.stats = some all ∧ u.flight = s.flight) ∧
    (1024 ≤ all.length → (u.pier p).records x.stats = none ∧ u.regions = (s.reserve p x.stats).regions ∧
      newWork p (w.due + 17) 1 (.land x.stats (s.reserveIx p x.stats) (statTile s.stepNo (all.take 1024)) false) ∈ u.flight))

/-- The events of schedules: a joint that is ready lets its piers go on, or stops the domains of a failing step (R305, R311), and one
that waits for the save of a pending PREEMPT only lets the work in progress go on (R307); a barrier lets every pier that waits at it go
on (R306); a stall release counts the stall and lets the domain issue again, and issues the instruction that it held (R301, R314); a
quota window's end unmasks every requester (R164); a line that the prefetch may take enters the pier cache, or its uncorrectable error
stops the domain, and no other line enters it (R178, R289, R310; which lines it may take is the model's choice, log 51). -/
def Obligations.ScheduleEventsRun : Prop :=
  (∀ (s : State) (cycle : Nat), s.settleAll.jointReady false = true → s.fld Fld.SCHED_STATUS_STATE 0 = 3 →
    s.flag Fld.SCHED_STATUS_PREEMPT_PENDING 0 = false →
    exec (.jointComplete cycle) s = .next (s.settleAll.countJoint.leaveJoint cycle)) ∧
  (∀ (s : State) (cycle : Nat), s.settleAll.jointReady false = true → s.fld Fld.SCHED_STATUS_STATE 0 = 4 →
    exec (.jointComplete cycle) s =
      .next (s.settleAll.domains.foldl (fun w d => w.stopDomain d) s.settleAll.countJoint)) ∧
  (∀ (s : State) (cycle : Nat), s.fld Fld.SCHED_STATUS_STATE 0 = 3 → s.flag Fld.SCHED_STATUS_PREEMPT_PENDING 0 = true →
    exec (.jointComplete cycle) s = .next s.settleAll) ∧
  (∀ (s : State) (mask : BitVec 8) (unseg : Bool) (cycle : Nat), s.flag Fld.TOKEN_STATUS_BRACE 0 = false →
    (∀ p ∈ s.binding, s.barrierNames mask unseg p = true → (s.pier p).atBarrier = some (mask, unseg)) →
    Runs (.barrierComplete mask unseg cycle) s (fun u =>
      (∀ p ∈ s.waitersOf mask unseg, (u.pier p).atBarrier = none ∧ u.fld Fld.PCTL_STATUS_STATE p.val = 2) ∧
      (∀ p, p ∉ s.waitersOf mask unseg → u.pier p = s.pier p ∧ u.reg .pctlStatus p.val = s.reg .pctlStatus p.val) ∧
      (∀ b, u.byte b = s.byte b))) ∧
  (∀ (s : State) (d : Dom) (cycles : Nat), s.flag Fld.TOKEN_STATUS_BRACE 0 = false →
    (s.domPiers d).any (fun p => s.stalled p) = true → (∀ p ∈ s.domPiers d, (s.pier p).owing = 0) →
    let w := ((s.countWait d cycles).unstall d).clearWaits d
    (s.held.filter (fun h => s.heldIn d h) = [] → exec (.stallRelease d cycles) s = .next w) ∧
    (∀ h, s.held.filter (fun h => s.heldIn d h) = [h] → exec (.stallRelease d cycles) s =
      .next (reissue h.failed h.instr { w with held := s.held.filter (fun h => !s.heldIn d h) })) ∧
    (∀ p ∈ s.domPiers d, s.stalled p = true → w.issuing p = true) ∧
    (s.binding.Nodup → ∀ p ∈ s.domPiers d, w.fld Fld.PCTL_STALL_CYCLES p.val =
      (s.fld Fld.PCTL_STALL_CYCLES p.val + cycles) % 2 ^ Fld.PCTL_STALL_CYCLES.width)) ∧
  (∀ (s : State), Runs .quotaWindowEnd s (fun u =>
    (∀ p ∈ s.binding, ∀ req port, 0 < s.quota p req → u.quotaMasked p req port 0 = false) ∧
    (∀ p, p ∉ s.binding → u.pier p = s.pier p) ∧ u.regs = s.regs ∧ (∀ b, u.byte b = s.byte b))) ∧
  (∀ (s : State) (p : PierIx) (line : Nat) (up : Upset), s.launched = true → p ∈ s.binding →
    (∀ a, s.objAddr s.imageObject (128 * line) = some a → s.blocked a 128 = false) →
    let x := s.readLine line up
    (s.mayFetch p line = false → exec (.pierCacheFill p line up) s = .next s) ∧ (s.mayFetch p line = true →
    (x.1 = false → exec (.pierCacheFill p line up) s = .next (x.2.setPier p { x.2.pier p with
      cache := cacheInsert (x.2.pier p).cache ⟨line, x.2.objBytes s.imageObject (128 * line) 128⟩ })) ∧
    (x.1 = true → exec (.pierCacheFill p line up) s = .next ((x.2.containFlag Fld.PCTL_ERR_BUNDLE_UE p.val p
      (s.fld Fld.PCTL_SLOT_SLOT p.val) .bundleUe (s.fld Fld.PCTL_SLOT_SLOT p.val % 2 ^ 48)).stopDomain (s.domOf p)))))

/-- The end of a program: with every bound pier halted and all work done the schedule is done, and LAUNCH completes (R299, R309); a domain
of a failing step that reaches no joint is stopped where it stands, with no work in progress and no instruction held (R311); with every
domain stopped the step is abandoned, its event is posted, and LAUNCH completes (R311); the joint after PREEMPT leaves the binding saved and
completes PREEMPT (R307); a domain that waits on its regions alone up to its limit is a deadlock, which fails the step and leaves the domain
as it stands (R176, R177). What becomes of the held instructions of a stopped domain, and of a slot that its tail reserved, is the model's
choice (log 54). -/
def Obligations.ScheduleEndsRun : Prop :=
  (∀ (s : State), s.fld Fld.SCHED_STATUS_STATE 0 = 3 → s.binding ≠ [] →
    (∀ p ∈ s.settleAll.binding, s.settleAll.fld Fld.PCTL_STATUS_STATE p.val = 5) → s.settleAll.workDone = true →
    Runs .scheduleDone s (fun u => u.evaluating = false ∧ u.fld Fld.SCHED_STATUS_STATE 0 = 6 ∧
      (∀ x ∈ u.parapets, x.kind = 0) ∧
      (∀ k q, s.settleAll.runningOp launchOps = some (k, q) → (u.mailSlot k).running = none))) ∧
  (∀ (s : State) (d : Dom), s.fld Fld.SCHED_STATUS_STATE 0 = 4 →
    Runs (.stopTimeout d) s (fun u => (∀ w ∈ u.flight, w.pier ∉ s.domPiers d) ∧ (∀ h ∈ u.held, s.heldIn d h = false) ∧
      (∀ p ∈ s.domPiers d, u.fld Fld.PCTL_STATUS_STATE p.val = 6))) ∧
  (∀ (s : State), s.fld Fld.SCHED_STATUS_STATE 0 = 4 →
    (∀ p ∈ s.binding, s.fld Fld.PCTL_STATUS_STATE p.val = 6) →
    Runs .stepAbandoned s (fun u => u.evaluating = false ∧ u.fld Fld.SCHED_STATUS_STATE 0 = 2 ∧
      u.binding = s.binding ∧ (∀ x ∈ u.parapets, x.kind = 0) ∧
      (∀ k q, s.runningOp launchOps = some (k, q) → (u.mailSlot k).running = none) ∧
      ((s.notices.filter (fun m => m.level = Code.level .stepAbandoned)).length < 256 →
        ∃ n ∈ u.notices, n.code = .stepAbandoned ∧ n.detail = s.abandonDetail))) ∧
  (∀ (s : State) (k : Nat) (q : Packet), s.settleAll.flag Fld.SCHED_STATUS_PREEMPT_PENDING 0 = true →
    s.settleAll.fld Fld.SCHED_STATUS_STATE 0 = 3 → s.settleAll.jointReady true = true →
    s.settleAll.runningOp [preemptOp] = some (k, q) → s.settleAll.objectBlocked (q.le 0 4) = false →
    Runs .preemptSave s (fun u => u.fld Fld.SCHED_STATUS_STATE 0 = 5 ∧ (u.mailSlot k).running = none ∧
      ∃ x ∈ u.saves, x.object = q.le 0 4 ∧ x.piers.length = s.settleAll.binding.length)) ∧
  (∀ (s : State) (d : Dom) (p : PierIx) (ps : List PierIx), s.domPiers d = p :: ps →
    s.fld Fld.DEADLOCK_CFG_LIMIT_LOG2 p.val ≠ 0 → s.deadlocked d = true →
    Runs (.regionDeadlock d) s (fun u =>
      (∀ q ∈ p :: ps, u.flag Fld.DECK_ERR_REGION_DEADLOCK q.val = true ∧
        u.fld Fld.DEADLOCK_REGIONS_WAIT_MASK q.val = s.waitMask q % 2 ^ Fld.DEADLOCK_REGIONS_WAIT_MASK.width) ∧
      (∀ q : PierIx, u.fld Fld.PCTL_STATUS_STATE q.val = s.fld Fld.PCTL_STATUS_STATE q.val) ∧ u.flight = s.flight ∧
      u.held = s.held ∧
      (s.fld Fld.SCHED_FAULT_CODE 0 = 0 →
        u.fld Fld.SCHED_FAULT_CODE 0 = Code.num .regionDeadlock ∧ u.fld Fld.SCHED_STATUS_STATE 0 = 4)))

/-- The events of the ring: a loopback test that has failed in piers of its segment's path breaks exactly those (R131, R132), and a
landed exit tile is read, with its words corrected, and sent on the extension port of its carriageway (R129, R162, R400). -/
def Obligations.RingEventsRun : Prop :=
  (∀ (s : State) (g : SegIx) (failed : List PierIx), g ∈ s.loopbacks →
    Runs (.ringLoopbackDone g failed) s (fun u => g ∉ u.loopbacks ∧
      (∀ p, u.flag Fld.RING_CFG_BROKEN p.val = true ↔
        s.flag Fld.RING_CFG_BROKEN p.val = true ∨ (p ∈ failed ∧ s.onPath g p = true)) ∧
      (∀ b, u.byte b = s.byte b))) ∧
  (∀ (s : State) (g : SegIx) (c : Cwy) (n : Nat) (p : PierIx) (i : Nat), s.extPort g (c = .cw) = some n →
    s.tailPier g c = some p → s.exitHead p (s.exitRegion p c) = some i → s.portState n = 5 →
    (∀ f ∈ (s.link n).queue, f.1.vc ≠ 4) → s.canRelease p (s.exitRegion p c) = true →
    let x := (s.revokes p).readOut p (s.exitRegion p c) (s.fld Fld.PCTL_SLOT_SLOT p.val) i
    let t := x.1
    (s.noUe → t = (s.readTile p (s.exitRegion p c) i).padded) ∧
    exec (.ringTileSend g c) s = .next ((x.2.release p (s.exitRegion p c)).enqueue n
      ⟨s.headTo (s.fld Fld.PORT_STATUS_NEIGHBOUR n), .ringTile c g.val (t.sideBytes.take 16) t.dataBytes
        (padTo (ringExtLen t.tag.toNat) (t.extBytes.take (ringExtLen t.tag.toNat)))⟩ 0))

/-- The events of the approach engine and the copy engine: a free tag takes the oldest refetch, else the next tile of the first gang that
may go on (R195), unless a gang before it names an invalid region, which faults (R179); a reply of the attempt in force answers its
request, with the fault of its first uncorrectable part (R197, R200), and an older one is counted and discarded (R198); a tag in time has
its remote requests issued again, and at the limit, or without its watch entry, it gives up (R198, R206); the oldest stale notice marks
its slot where the generations agree, and no other (R203); a running descriptor moves its next tile (R274), and with its pier halted its
wait counts in SCHED_LATE (R315). That the oldest refetch comes first is the model's choice (log 33). -/
def Obligations.ApproachEventsRun : Prop :=
  (∀ (s : State) (p : PierIx) (num k : Nat), s.fetching p = true → s.freeTagNum p false 64 = some num →
    s.refetches.find? (fun e => e.1 = p) = some (p, k) →
    exec (.tagAllocate p) s =
      .next ({ s with refetches := s.refetches.eraseP (fun e => e.1 = p) }.allocRefetch p num k).wakeTags) ∧
  (∀ (s : State) (p : PierIx) (num : Nat) (n : Fin 16), s.fetching p = true → s.freeTagNum p false 64 = some num →
    s.refetches.find? (fun e => e.1 = p) = none →
    let t := (s.invalidGangs p).foldl (fun s n => s.regionInvalid p (s.streamWalk (streamIx p n)).region) s
    (t.gangOrder p).find? (fun n => t.gangMay p n) = some n → exec (.tagAllocate p) s = .next (t.allocGang p num n)) ∧
  (∀ (s : State) (p : PierIx) (num req attempt : Nat) (x : Tag) (upset : Upset),
    s.tagOf p false num = some x → x.waits = false → x.wants = [] → attempt < x.attempt →
    exec (.transferReply p num req attempt upset) s = .next (s.bump Fld.APPROACH_COUNT_LATE_REPLIES p.val 1)) ∧
  (∀ (s : State) (p : PierIx) (num req : Nat) (x : Tag) (q : Request) (upset : Upset),
    s.tagOf p false num = some x → x.waits = false → x.wants = [] → x.requests[req]? = some q → q.answered = false →
    q.window = none → s.requestBlocked q = false →
    let y := s.readRequest q upset
    exec (.transferReply p num req x.attempt upset) s =
      .next (y.2.2.answerTag x req (if y.2.1.isSome then some .memUe else none) y.2.1 y.1)) ∧
  (∀ (s : State) (p : PierIx) (copy : Bool) (num : Nat) (x : Tag), s.tagOf p copy num = some x → x.waits = false →
    x.wants = [] →
    exec (.tagTimeout p copy num) s = .next
      (if x.attempt < s.fld Fld.APPROACH_CFG_RETRY_LIMIT p.val then
        (s.setTag { x with attempt := x.attempt + 1 }).sendRemotes { x with attempt := x.attempt + 1 } true
      else s.abandonTag x .xferTimeout)) ∧
  (∀ (s : State) (p : PierIx) (copy : Bool) (num : Nat) (x : Tag), s.tagOf p copy num = some x → x.wants ≠ [] →
    exec (.watchWaitTimeout p copy num) s = .next (s.abandonTag x .watchStarved)) ∧
  (∀ (s : State) (p : PierIx) (n : StaleNotice), s.staleNotices.find? (fun n => n.pier = p) = some n →
    s.openWrites = [] → s.moves = [] →
    ((s.slot p n.slot).gen = n.gen → Runs (.staleNotice p) s (fun u => (u.slot p n.slot).stale = true ∧
      (u.slot p n.slot).stales = (s.slot p n.slot).stales + (if (s.slot p n.slot).stale then 0 else 1) ∧
      u.staleNotices.length + 1 = s.staleNotices.length ∧ (∀ b, u.byte b = s.byte b))) ∧
    ((s.slot p n.slot).gen ≠ n.gen → Runs (.staleNotice p) s (fun u => u.slots = s.slots ∧
      u.staleNotices.length + 1 = s.staleNotices.length ∧ (∀ b, u.byte b = s.byte b)))) ∧
  (∀ (s : State) (p : PierIx) (d : Fin 8) (upset : Upset), (s.run p d).running = true →
    s.fld Fld.PCTL_STATUS_STATE p.val ≠ 6 →
    exec (.copyTile p d upset) s =
      .next (if (s.copyWalk (copyIx p d)).dirOut then ((s.noteHalted p).copyOut p d).wakeTags else (s.noteHalted p).copyIn p d upset))

/-- The gates: a write of a whole 64 B block whose check finds no more than 3 bad symbols, those that it has left in the block among them
(log 162), is what the block then holds, no byte beside it changes, and the block is no stored poison (R225, R234, R236); while the gate of
a block holds its bursts an access waits (R231); refresh changes no state (R233); the scrub walk of a gate that holds no bursts reads its
next codeword (R231, R237); a reading heats its gate at once (R231, R232); a repair is asked for (R240-R242, R253), and its window, with no
march in the stack (the model's choice, log 176), makes a soft repair, burns a hard one, or fails to burn it; WATCH_SEL latches the entry
that it names (R245, R255). -/
def Obligations.GateCommandsRun : Prop :=
  (∀ (s : State) (cls : Fin 3) (addr len : Nat) (bs : List Byte) (up : Upset), addr % 64 = 0 → bs.length = 64 →
    addr + 64 ≤ tollhouseBlock → s.blocked addr 64 = false → symbolsAt up addr + s.flawAt addr ≤ 3 →
    Runs (.gateAccess cls addr len (some bs) false up) s (fun u =>
      (∀ i, u.byte (addr + i) = if h : i < bs.length then bs[i] else s.byte (addr + i)) ∧
      (∀ b, b < addr → u.byte b = s.byte b) ∧ u.isStored addr = false)) ∧
  (∀ (s : State) (cls : Fin 3) (addr len : Nat) (up : Upset), addr + len ≤ tollhouseBlock → s.blocked addr len = true →
    exec (.gateAccess cls addr len none false up) s =
      .next { s with hostWaits := s.hostWaits ++ [.request (.gateAccess cls addr len none false up)] }) ∧
  (∀ (s : State) (g : GateIx), exec (.stackRefresh g) s = .next s) ∧
  (∀ (s : State) (g : GateIx) (symbols : Nat), s.fld Fld.GATE_CFG_SCRUB_HOURS g.val ≠ 0 → s.gateHeld g.val = false →
    Runs (.scrubBurst g symbols) s (fun u => (u.gate g.val).scrub = ((s.gate g.val).scrub + 1) % scrubSize)) ∧
  (∀ (s : State) (g : GateIx) (c : Nat), 2 ≤ s.fld Fld.GATE_STATUS_STATE g.val →
    s.fld Fld.GATE_STATUS_STATE g.val ≠ 5 → (s.gate g.val).heat < heatRow c →
    exec (.stackTempReading g c) s = .next
      ((((s.setGate g.val { s.gate g.val with readings := (c :: (s.gate g.val).readings).take readings10ms }).setFld
        Fld.GATE_TEMP_TEMP_NOW g.val c).setFld Fld.GATE_TEMP_TEMP_MAX g.val
          (max c (s.fld Fld.GATE_TEMP_TEMP_MAX g.val))).setHeat g.val (heatRow c) c)) ∧
  (∀ (s : State) (g : GateIx) (channel : Fin 32) (bank : Fin 64) (row : Fin 65536),
    s.flag Fld.REPAIR_STATUS_BUSY g.val = false →
    Runs (.softRepair g channel bank row) s (fun u => u.flag Fld.REPAIR_STATUS_BUSY g.val = true ∧
      (u.gate g.val).repair = some ⟨1, channel.val, bank.val, row.val⟩ ∧ (∀ b, u.byte b = s.byte b)) ∧
    (s.launched = false →
      Runs (.hardRepair g channel bank row) s (fun u => u.flag Fld.REPAIR_STATUS_BUSY g.val = true ∧
        (u.gate g.val).repair = some ⟨2, channel.val, bank.val, row.val⟩ ∧ (∀ b, u.byte b = s.byte b))) ∧
    (s.launched = true →
      Runs (.hardRepair g channel bank row) s (fun u => u.fld Fld.REPAIR_STATUS_RESULT g.val = 3 ∧
        (u.gate g.val).repair = none)) ∧
    Runs (.releaseSoftRepair g channel bank row) s (fun u => u.flag Fld.REPAIR_STATUS_BUSY g.val = true ∧
      (u.gate g.val).repair = some ⟨3, channel.val, bank.val, row.val⟩ ∧ (∀ b, u.byte b = s.byte b))) ∧
  (∀ (s : State) (g : GateIx) (spare : Fin 4) (entry : Fin 8) (symbols : List Nat) (burnt : Bool) (r : Repair) (sp k : Nat),
    (s.gate g.val).repair = some r → r.op = 1 → s.marched g.val = false → s.pickSpare g.val r spare.val = some sp →
    s.pickEntry g.val r.channel entry.val = some k →
    Runs (.repairWindow g spare entry symbols burnt) s (fun u => (u.gate g.val).repair = none ∧
      u.flag Fld.REPAIR_STATUS_BUSY g.val = false ∧ u.fld Fld.REPAIR_STATUS_RESULT g.val = 1 ∧
      .softRepair g.val ⟨r.channel, r.bank, r.row, sp⟩ true ∈ u.journalWrites)) ∧
  (∀ (s : State) (g : GateIx) (spare : Fin 4) (entry : Fin 8) (symbols : List Nat) (burnt : Bool) (r : Repair) (sp : Nat),
    (s.gate g.val).repair = some r → r.op = 2 → s.marched g.val = false → s.launched = false → s.softOf g.val r.channel r.bank r.row = none →
    s.pickSpare g.val r spare.val = some sp →
    Runs (.repairWindow g spare entry symbols burnt) s (fun u => (u.gate g.val).repair = none ∧
      u.flag Fld.REPAIR_STATUS_BUSY g.val = false ∧ u.fld Fld.REPAIR_STATUS_RESULT g.val = (if burnt then 1 else 4) ∧
      (u.gate g.val).hard = (s.gate g.val).hard ++ (if burnt then [⟨r.channel, r.bank, r.row, sp⟩] else []))) ∧
  (∀ (s : State) (g : GateIx) (index : Fin 256) (e : WatchEntry),
    s.watch.find? (fun e => e.1 = watchSize * g.val + index.val) = some (watchSize * g.val + index.val, e) →
    Runs (.watchSel g index) s (fun u => u.fld Fld.WATCH_SEL_INDEX g.val = index.val ∧
      u.reg .watchW0 g.val = e.words.1 ∧ u.reg .watchW1 g.val = e.words.2 ∧ (∀ b, u.byte b = s.byte b)))

/-- The tollhouse's moves of extents: a marked extent that no transfer uses is moved, and one whose tiles are copied goes on (R264, R266);
below the reserve in force the pool evicts up to twice the reserve (R270, R284); an extent that is awaited in host memory is brought up
into a free frame, or, with no frame free and none that can be evicted, the pool is exhausted (R271, R272). -/
def Obligations.PoolCommandsRun : Prop :=
  (∀ (s : State) (entry : Nat) (remote : List Byte) (upset : Upset) (m : Move),
    s.moves.find? (fun m => s.moveEntry m = entry && m.stage != .queued) = some m →
    (m.stage = .marked → s.entryBusy entry = false → s.moveBlocked m = false →
      exec (.extentMove entry remote upset) s = .next (s.moveExtent m remote upset)) ∧
    (m.stage ≠ .marked → exec (.extentMove entry remote upset) s = .next (s.moveOn m))) ∧
  (∀ (s : State), s.freeFrames < s.reserveFrames →
    Runs .poolEvict s (fun u => (∃ ms, u.moves = s.moves ++ ms ∧ ∀ m ∈ ms, m.cause = .evict ∧ m.stage = .marked) ∧
      (∀ i n k, s.freeFrames + s.leaving < 2 * s.reserveFrames → s.oldest = some i → s.ownerOf i = some (n, k) →
        ⟨n, k, 1, (s.home i).backing % 2 ^ 48, .evict, .marked, false⟩ ∈ u.moves) ∧
      (∀ b, u.byte b = s.byte b))) ∧
  (∀ (s : State) (entry frame n k : Nat), entry ∈ s.bringUps → (s.home entry).moving = false → (s.home entry).tier = 1 →
    s.ownerOf entry = some (n, k) →
    (s.frameFree frame = true → let m : Move := ⟨n, k, 0, 2 ^ 21 * frame, .bringUp, .marked, false⟩
      Runs (.bringUp entry frame) s (fun u => u.moves = s.moves ++ [m] ∧ (u.home (s.moveEntry m)).moving = true ∧
        u.poolCfg = (if (s.object n).pooled then s.reg .homeCfg 0 else s.poolCfg) ∧ (∀ b, u.byte b = s.byte b))) ∧
    (s.frameFree frame = false → s.freeFrames = 0 → s.leaving = 0 → s.evictable = [] → s.flag Fld.HOME_STATUS_EXHAUSTED 0 = false →
      Runs (.bringUp entry frame) s (fun u => u.flag Fld.HOME_STATUS_EXHAUSTED 0 = true ∧
        u.flag Fld.HOME_ERR_POOL_EXHAUSTED 0 = true ∧ u.moves = s.moves ∧ (∀ b, u.byte b = s.byte b))))

/-- The commands that prepare and run a program, where R293 to R309 let them: LOAD_IMAGE takes a signed image without a bad section (R289,
R293), BIND numbers its piers (R293), LAUNCH starts the program (R455) and RESUME restores its save (R308), each with the hold-up bank
measured where that is due (R506), PREEMPT waits for the next joint (R307), and STEP_COMMIT advances the counter alone, by its keystone, or
on the survivor of a rejoin as the handover (R421, R425, R432), or sets it (R433, R455). -/
def Obligations.ProgramCommandsRun : Prop :=
  ∀ (s : State) (k : MailIx) (p : Packet),
    (s.runsPacket k 0x0201 p → s.inProgram = false → (s.object (p.le 0 4)).valid = true →
      (s.object (p.le 0 4)).pooled = false →
      let s0 := { s with imageObject := p.le 0 4 }
      let x := s0.readObject (p.le 0 4) 0 s0.imageLength
      s.readWaits (p.le 0 4) 0 s0.imageLength = false → x.1 = false → x.2.imageSigned = true → x.2.imageBad = none →
      Runs (.loadImage k) s (fun u => u.imageObject = p.le 0 4 ∧ u.replied k .ok [])) ∧
    (∀ b o, s.runsPacket k 0x0202 p → s.bindRefusal (p.le 0 1) = none → s.bindingFor (p.le 0 1) = some (b, o) →
      exec (.bind k) s = .next ((s.bindTo b o (s.numbered (p.le 0 1))).finish k.val .ok 0
        [BitVec.ofNat 8 b, BitVec.ofNat 8 ((s.bindTo b o (s.numbered (p.le 0 1))).fld Fld.VIADUCT_STATUS_MAX_EXTRA 0)])) ∧
    (∀ bank v1 v2, s.runsPacket k 0x0203 p →
      let v := s.checkBank (p.le 6 1 / 2 = 0) bank v1 v2
      s.launchRefusal v p = none → s.placePiers.launchWaits p = false → (p.le 6 1 / 2 = 0 → v.holdupWaits = false) →
      exec (.launch k bank v1 v2) s = .next ((v.placePiers.beginPacket k.val).launchProgram p)) ∧
    (s.runsPacket k 0x0204 p → s.launched = true → s.pinned (p.le 0 4) (saveSize s.binding.length) = true →
      Runs (.preempt k) s (fun u => u.flag Fld.SCHED_STATUS_PREEMPT_PENDING 0 = true ∧
        ((u.mailSlot k.val).running.map Packet.begun) = some true ∧ (∀ a, u.byte a = s.byte a))) ∧
    (∀ bank v1 v2 x, s.runsPacket k 0x0205 p → s.fld Fld.SCHED_STATUS_STATE 0 = 5 → s.bound = true →
      s.cannotRun = false → s.saveFor (p.le 0 4) = some x →
      let v := s.checkBank (!s.journalOff) bank v1 v2
      v.objectBlocked x.object = false → (s.journalOff = false → v.holdupWaits = false ∧ v.holdupOk = true) →
      exec (.resume k bank v1 v2) s = .next ({ v.placePiers.beginPacket k.val with launchedOnce := true }.restore x)) ∧
    (s.runsPacket k 0x0206 p → p.le 4 1 = 0 → s.evaluating = false → s.commitBarred = false → s.launched = false →
      s.pairState ≠ 2 → s.pairState ≠ 3 → (s.pairState = 5 → s.rejoinSender = true) → s.handoverDue = false → p.le 0 4 = s.stepNo →
        p.le 0 4 ≠ 0xFFFFFFFF →
      Runs (.stepCommit k) s (fun u => ∃ v : State, u = v.writeOwn (p.le 0 4) s.lastMseq false ∧
        v.pairing.commit = some (p.le 0 4, s.lastMseq, false) ∧ v.regs = s.regs)) ∧
    (s.runsPacket k 0x0206 p → p.le 4 1 = 0 → s.evaluating = false → s.commitBarred = false → s.launched = false →
      s.pairState = 2 ∨ s.pairState = 3 → p.le 0 4 = s.stepNo → p.le 0 4 ≠ 0xFFFFFFFF →
      Runs (.stepCommit k) s (fun u => ∃ v : State, u = v.sendKeystone s.lastMseq (p.le 0 4) false ∧
        v.pairing.commit = some (p.le 0 4, s.lastMseq, true) ∧ v.regs = s.regs)) ∧
    (s.runsPacket k 0x0206 p → p.le 4 1 = 0 → s.evaluating = false → s.commitBarred = false → s.launched = false →
      s.handoverDue = true → p.le 0 4 = s.stepNo → p.le 0 4 ≠ 0xFFFFFFFF →
      Runs (.stepCommit k) s (fun u => ∃ v : State,
        u = (v.sendSync 7 (leBytes 4 (p.le 0 4)) []).sendKeystone s.lastMseq (p.le 0 4) false ∧
        v.pairing.commit = some (p.le 0 4, s.lastMseq, true) ∧ v.pairing.handover = some (p.le 0 4) ∧ v.regs = s.regs)) ∧
    (s.runsPacket k 0x0206 p → p.le 4 1 = 1 → s.evaluating = false → s.commitBarred = false → s.launched = false →
      s.pairState = 0 ∨ s.pairState = 4 →
      Runs (.stepCommitSet k) s (fun u => u.fld Fld.STEP_COUNTER_STEP 0 = p.le 8 4 % 2 ^ 32 ∧
        u.replied k .ok (leBytes 4 (p.le 8 4) ++ leBytes 4 0 ++ leBytes 8 0)))

/-- The commands on objects, windows and the power budget, where R264 to R281 let them: MAP_OBJECT replaces the mapping (R265), MOVE_OBJECT
marks its first extent and queues its moves (R266), OPEN_WINDOW opens a closed window at its epoch (R277), CLOSE_WINDOW shuts it and
raises its epoch (R277, R281), and SET_BUDGET answers the pool that follows from the budget (R321, R455). -/
def Obligations.ObjectCommandsRun : Prop :=
  ∀ (s : State) (k : MailIx) (p : Packet),
    (∀ status, s.runsPacket k 0x0301 p →
      let d := p.record
      let v := if d.valid && p.le 24 8 != 0 then s.jwRead (p.le 24 8) (32 * d.count) false else s
      let raw := v.homeEntries p
      (d.valid = true → p.le 24 8 ≠ 0 → status = 0) → raw.all (homeOk d.pooled) = true →
      v.mapRefusal (p.le 0 4) (p.le 4 1 = 1) d (raw.map homeOf) = none →
      (d.valid = true → d.pooled = false → v.coveredFrames (p.le 0 4) d (raw.map homeOf) = [] ∧
        v.coveredFills (p.le 0 4) d (raw.map homeOf) = false) →
      ((v.object (p.le 0 4)).valid = true → ∀ e ∈ v.entriesOf (p.le 0 4), v.entryBusy e.1 = false) →
      exec (.mapObject k status) s = .next ((((v.beginPacket k.val).keepPacket k.val (fun q => q.withEntries raw)).mapTo (p.le 0 4)
        (p.le 4 1 = 1) d (raw.map homeOf)).finish k.val .ok 0 [])) ∧
    (s.runsPacket k 0x0302 p → s.moveRefusal (p.le 0 4) (p.le 4 4) (p.le 8 4) (p.le 12 1) (p.le 16 8) = none →
      (p.le 8 4 = 0 → exec (.moveObject k) s = .next (s.finish k.val .ok 0 (leBytes 4 0))) ∧
      (p.le 8 4 ≠ 0 →
        let ms : List Move := (List.range (p.le 8 4)).map (fun i => ⟨p.le 0 4, p.le 4 4 + i, p.le 12 1,
          p.le 16 8 + i * 2 ^ (s.object (p.le 0 4)).extentLog2, .command k.val, .queued, false⟩)
        Runs (.moveObject k) s (fun u => u = State.nextTurns { s.beginPacket k.val with moves := s.moves ++ ms } ∧
        (s.moves = [] → (u.home ((s.object (p.le 0 4)).first + p.le 4 4)).moving = true) ∧ (∀ a, u.byte a = s.byte a)))) ∧
    (s.runsPacket k 0x0303 p → (s.window (p.le 0 4)).isOpen = false → (s.window (p.le 0 4)).retired = false →
      s.isMirrorCopy (p.le 8 4) = false → (s.object (p.le 8 4)).valid = true →
      p.le 16 8 + p.le 24 8 ≤ (s.object (p.le 8 4)).size → s.openWindows < 1048576 →
      Runs (.openWindow k) s (fun u => u.window (p.le 0 4) = ⟨true, p.le 4 1 % 2 = 1, p.le 4 1 / 2 = 1, false, p.le 8 4,
          p.le 16 8, p.le 24 8, (s.window (p.le 0 4)).epoch, p.le 6 2⟩ ∧
        (∀ i, i ≠ p.le 0 4 → u.window i = s.window i) ∧
        u.replied k .ok (leBytes 4 (s.window (p.le 0 4)).epoch.toNat))) ∧
    (s.runsPacket k 0x0304 p → s.windowBusy (p.le 0 4) = false →
      Runs (.closeWindow k) s (fun u => u.window (p.le 0 4) = (s.window (p.le 0 4)).shut ∧
        (∀ i, i ≠ p.le 0 4 → u.window i = s.window i))) ∧
    (s.runsPacket k 0x0401 p →
      Runs (.setBudget k) s (fun u => u.fld Fld.TOKEN_STATUS_BUDGET_W 0 = p.le 0 2 % 2 ^ Fld.TOKEN_STATUS_BUDGET_W.width ∧
        u.fld Fld.TOKEN_STATUS_POOL 0 = tokenPool (u.fld Fld.TOKEN_STATUS_BUDGET_W 0) (s.fld Fld.TOKEN_STATUS_BASE_W 0) %
          2 ^ Fld.TOKEN_STATUS_POOL.width ∧
        u.replied k .ok (leBytes 2 (u.fld Fld.TOKEN_STATUS_POOL 0))))

/-- The commands of the session and its queries: HELLO with a common version opens the session with its queue empty (R457, R465), QUERY
answers the summary, writes the pier map to its buffer, or answers HOST_FAULT with the status of that write (R442), or sends a PROBE (R394,
R455), whose silence ends it (R455); the packet of the notified slot whose turn it is is read with RD_S (R440) and accepted where its SEQ is
new (R446, R447), and is no new packet where it is not (R446); that the reads are answered with their command, and that no packet is
accepted while a warm reset is to come, is the model's choice (logs 7, 167). -/
def Obligations.SessionCommandsRun : Prop :=
  ∀ (s : State) (k : MailIx) (p : Packet),
    (∀ head, s.runsPacket k 0x0101 p → p.le 0 2 ≤ 1 → 1 ≤ p.le 2 2 →
      exec (.hello ⟨k, head⟩) s = .next ((s.openSession p head).finish k.val .ok 0
        (leBytes 2 1 ++ leBytes 2 1 ++ leBytes 4 (s.fld Fld.BOOT_COUNT_COUNT 0) ++ s.nonceBytes)).pumpQueue ∧
      (s.openSession p head).flag Fld.CMD_STATUS_SESSION 0 = true ∧ (s.openSession p head).evtIndex = 0 ∧
      (s.openSession p head).evtHeadRead = 0 ∧ (s.openSession p head).queue = ⟨p.le 8 8, p.le 24 8, p.le 32 8, p.le 40 4⟩) ∧
    (s.runsPacket k 0x0102 p → p.le 0 1 = 0 → Runs (.querySummary k) s (fun u => u.replied k .ok s.summary)) ∧
    (s.runsPacket k 0x0102 p → p.le 0 1 = 1 → 136 ≤ p.le 16 4 →
      let inReply (a : Nat) := s.slotBase k.val + 0x1FC0 ≤ a ∧ a < s.slotBase k.val + 0x2000
      (∀ status, status ≠ 0 → Runs (.queryPierMap k status) s (fun u => u.replied k .hostFault [] ∧
        (status = 1 → u.flag Fld.JW_ERR_HOST_POISON 0 = true))) ∧
      Runs (.queryPierMap k 0) s (fun u => u.replied k .ok (leBytes 1 s.admitted.length) ∧
        (∀ q : PierIx, ¬ inReply (p.le 8 8 + q.val) → u.byte (p.le 8 8 + q.val) = s.mapByte q) ∧
        (∀ a, (a < p.le 8 8 ∨ p.le 8 8 + 136 ≤ a) → ¬ inReply a → u.byte a = s.byte a))) ∧
    (s.runsPacket k 0x0102 p → p.le 0 1 = 2 →
      Runs (.queryProbe k) s (fun u => ∃ v : State,
        u = v.post ⟨s.headTo (p.le 4 2), .probe false false (s.nextRemote % 2 ^ 32) s.now.toNat 0 []⟩ ∧
        (s.nextRemote % 2 ^ 32, k.val, s.now) ∈ v.probes ∧ v.mem = s.mem)) ∧
    ((∃ e ∈ s.probes, e.2.1 = k.val) → (s.mailSlot k.val).running = some p →
      Runs (.probeTimeout k) s (fun u => u.replied k .timeout [] ∧ (∀ e ∈ u.probes, e.2.1 ≠ k.val))) ∧
    (∀ params : Fin 4, s.flag Fld.MAILBOX_CFG_ENABLE 0 = true → s.jwActive = true → s.tollUp = true →
      s.nextSlot = some k.val → s.warmReset = none →
      let v := s.jwRead (s.slotBase k.val) 64 true
      ((v.packetOf k.val).seq ≠ (v.mailSlot k.val).seen → v.powerState < 2 →
        exec (.packetAccept k 0 params) s = .next (v.accept k.val (v.packetOf k.val) params.val)) ∧
      ((v.packetOf k.val).seq = (v.mailSlot k.val).seen → exec (.packetAccept k 0 params) s =
        .next (v.setMail k.val { v.mailSlot k.val with shared := true, notified := false, again := false })))

/-- The commands of logs, attestation, service access and firmware: READ_LOG and ATTEST write what fits their buffer (R455, R554),
CORRELATE_TIME records the cycle in which its packet was accepted (R495), the unlocks open service access or count a failure, and each ends
the challenge, one with a wrong length too (R555-R557), and an image that is read and passes its checks is written to the slot that is not
active (R546, R549, R550). -/
def Obligations.ServiceCommandsRun : Prop :=
  ∀ (s : State) (k : MailIx) (p : Packet),
    (∀ status, s.runsPacket k 0x0605 p →
      let rs := ((s.inArea (p.le 0 1)).reverse.drop (p.le 4 4)).take (p.le 16 4 / recordSize (p.le 0 1))
      (rs ≠ [] → status = 0) →
      Runs (.readLog k status) s (fun u => u.replied k .ok (leBytes 4 rs.length ++ leBytes 4 (p.le 4 4 + rs.length)))) ∧
    (s.runsPacket k 0x0606 p →
      Runs (.correlateTime k) s (fun u => u.replied k .ok (leBytes 8 p.time.toNat) ∧
        .time (BitVec.ofNat 64 (p.le 0 8)) p.time (s.fld Fld.BOOT_COUNT_COUNT 0) s.stepNo ∈ u.journalWrites)) ∧
    (∀ status, s.runsPacket k 0x0701 p →
      let report := s.reportBody (p.params.take 32) ++ identitySign (s.reportBody (p.params.take 32))
      (p.le 40 4 < report.length →
        Runs (.attest k status) s (fun u => u.replied k .badParam (leBytes 4 report.length))) ∧
      (report.length ≤ p.le 40 4 → status = 0 →
        Runs (.attest k status) s (fun u => u.replied k .ok (leBytes 4 report.length)))) ∧
    (∀ b, s.runsPacket k 0x0702 p → p.le 0 1 = 1 → 0 < p.le 4 4 → p.le 4 4 ≤ 64 → s.authBarred = false →
      s.passwords.getLast? = some b → sha384 (b.take 16 ++ (p.params.drop 8).take (p.le 4 4)) = b.drop 16 →
      Runs (.unlockPassword k) s (fun u => u.flag Fld.SERVICE_CTRL_OPEN 0 = true ∧ u.opened = true ∧
        u.challenge = none ∧ u.authFails = 0 ∧ u.replied k .ok [])) ∧
    (∀ b, s.runsPacket k 0x0702 p → p.le 0 1 = 1 → 0 < p.le 4 4 → p.le 4 4 ≤ 64 → s.authBarred = false →
      s.passwords.getLast? = some b → sha384 (b.take 16 ++ (p.params.drop 8).take (p.le 4 4)) ≠ b.drop 16 →
      Runs (.unlockPassword k) s (fun u => u.reg .serviceCtrl 0 = Fld.SERVICE_CTRL_FAILS.place (s.reg .serviceCtrl 0)
          (min (s.authFails + 1) 7) ∧ u.opened = s.opened ∧ u.challenge = none ∧ u.authFails = s.authFails + 1 ∧
        (u.authBarred = true ↔ 5 ≤ s.authFails + 1) ∧ u.replied k .authFail [])) ∧
    (s.runsPacket k 0x0702 p → p.le 0 1 = 2 → p.le 4 4 = 0 →
      Runs (.unlockChallenge k) s (fun u => ∃ c, c.length = 32 ∧ u.challenge = some c ∧ u.replied k .ok c)) ∧
    (∀ i, s.runsPacket k 0x0702 p →
      (p.le 0 1 = 1 ∧ 64 < p.le 4 4 ∧ i = .unlockPassword k) ∨ (p.le 0 1 = 2 ∧ p.le 4 4 ≠ 0 ∧ i = .unlockChallenge k) ∨
        (p.le 0 1 = 3 ∧ p.le 4 4 ≠ 192 ∧ i = .unlockSignedResponse k) →
      Runs i s (fun u => u.challenge = none ∧ u.opened = s.opened ∧ u.authFails = s.authFails ∧ u.replied k .badParam [])) ∧
    (∀ h c, s.runsPacket k 0x0702 p → p.le 0 1 = 3 → p.le 4 4 = 192 → s.authBarred = false →
      s.debugKeys.getLast? = some h → s.challenge = some c → sha384 ((p.params.drop 8).take 96) = h →
      ecdsaVerify ((p.params.drop 8).take 96) (c ++ s.nonceBytes) ((p.params.drop 104).take 96) = true →
      Runs (.unlockSignedResponse k) s (fun u => u.flag Fld.SERVICE_CTRL_OPEN 0 = true ∧ u.opened = true ∧
        u.challenge = none ∧ u.authFails = 0 ∧ u.replied k .ok [])) ∧
    (s.runsPacket k 0x0604 p → (s.object (p.le 4 4)).valid = true →
      ∀ t, p.le 0 1 = t → s.readWaits (p.le 4 4) 0 (s.firmwareLength t (p.le 4 4)) = false →
        let x := s.readObject (p.le 4 4) 0 (s.firmwareLength t (p.le 4 4))
        let v := x.2
        let bs := v.firmwareBytes t (p.le 4 4)
        x.1 = false → v.firmwareFault t t (s.object (p.le 4 4)).size bs = none →
        (t = 0 → Runs (.updateFirmwareTollhouse k) s (fun u =>
          u.trial = some (otherImage (v.fld Fld.FW_STATUS_ACTIVE 0)) ∧
          u.norImage (otherImage (v.fld Fld.FW_STATUS_ACTIVE 0)) = some bs ∧ (∀ a, u.byte a = v.byte a))) ∧
        (t = 1 → exec (.updateFirmwareGate k) s = .next (((v.writeUnit 1 bs).loadUnit 1 (p.le 1 1)
          (otherImage (v.activeImage 1))).finish k.val .ok 0 [])) ∧
        (t = 2 → exec (.updateFirmwarePort k) s = .next ((((v.writeUnit 2 bs).loadUnit 2 (p.le 1 1)
          (otherImage (v.activeImage 2))).restartPort (p.le 1 1)).finish k.val .ok 0 [])))

/-- The events of firmware and service access: at the quiet point the trial image starts (R539), without one it does not (R539), a trial
that ends makes its image the active one (R549), the watchdog restarts the active one (R480, R549), a challenge expires (R557), a barred
method is allowed again (R557), and service access closes (R556). -/
def Obligations.FirmwareEventsRun : Prop :=
  (∀ (s : State) (k t : Nat), s.switchWaits = some k → s.trial = some t → s.quiet k = true →
    exec .fwSwitch s = .next (((s.startTollhouse t).setFld Fld.FW_STATUS_TRIAL 0 1).finish k .ok 0 [])) ∧
  (∀ (s : State) (k : Nat), s.switchWaits = some k → s.flag Fld.FW_STATUS_TRIAL 0 = false →
    Runs .fwSwitchTimeout s (fun u => u.trial = none ∧ (u.mailSlot k).running = none ∧ u.running = s.running)) ∧
  (∀ (s : State) (t : Nat), s.trial = some t → t < 2 → s.flag Fld.FW_STATUS_TRIAL 0 = true →
    Runs .fwTrialEnd s (fun u => u.trial = none ∧ u.flag Fld.FW_STATUS_TRIAL 0 = false ∧
      u.fld Fld.FW_STATUS_ACTIVE 0 = t ∧ (∀ a, u.byte a = s.byte a))) ∧
  (∀ (s : State) (addr : Nat), Runs (.tollhouseWdt addr) s (fun u => u.running = s.fld Fld.FW_STATUS_ACTIVE 0 ∧
    u.flag Fld.FW_STATUS_TRIAL 0 = false ∧ (s.flag Fld.FW_STATUS_TRIAL 0 = true → u.trial = none ∧
      u.flag Fld.FW_STATUS_ROLLED_BACK 0 = true) ∧ (∀ a, u.byte a = s.byte a))) ∧
  (∀ (s : State), exec .challengeExpiry s = .next { s with challenge := none }) ∧
  (∀ (s : State), exec .authLockoutExpiry s = .next { s with authBarred := false }) ∧
  (∀ (s : State), s.tollUp = true → Runs .serviceClose s (fun u => u.flag Fld.SERVICE_CTRL_OPEN 0 = false ∧
    (∀ r i, r ≠ RegName.serviceCtrl → u.reg r i = s.reg r i) ∧ (∀ a, u.byte a = s.byte a)))

/-- OWNER_FUSE_CTRL with service access open: a program slot that is not enrolled takes the key hash, a slot is revoked unless that left
both revoked, the next of four banks takes the password or the debug key (R544, R556, R558), each with RESULT 1 where the fuses verify;
with service access closed nothing is burnt (R556). -/
def Obligations.OwnerFuseCommandsRun : Prop :=
  ∀ (s : State), s.tollUp = true →
    (s.flag Fld.SERVICE_CTRL_OPEN 0 = true →
      (∀ slot : Fin 2, s.keyState (2 + slot.val) = 0 →
        Runs (.ownerEnrolSlot slot true) s (fun u => u.programKeys.look (fun _ => []) slot.val = s.fuseData.take 48 ∧
          u.fld Fld.OWNER_FUSE_CTRL_RESULT 0 = 1 ∧ u.keyState (2 + slot.val) = 1)) ∧
      (∀ slot : Fin 2, s.keyState (3 - slot.val) ≠ 2 →
        Runs (.ownerRevokeSlot slot true) s (fun u => u.programKeys = s.programKeys ∧
          u.fld Fld.OWNER_FUSE_CTRL_RESULT 0 = 1 ∧ u.keyState (2 + slot.val) = 2)) ∧
      (s.passwords.length < 4 → Runs (.ownerWritePassword true) s (fun u =>
        u.passwords = s.passwords ++ [s.fuseData] ∧ u.fld Fld.OWNER_FUSE_CTRL_RESULT 0 = 1)) ∧
      (s.debugKeys.length < 4 → Runs (.ownerWriteDebugKey true) s (fun u =>
        u.debugKeys = s.debugKeys ++ [s.fuseData.take 48] ∧ u.fld Fld.OWNER_FUSE_CTRL_RESULT 0 = 1))) ∧
    (s.flag Fld.SERVICE_CTRL_OPEN 0 = false →
      ∀ (c : Instr) (verified : Bool) (slot : Fin 2), c ∈ [.ownerEnrolSlot slot verified, .ownerRevokeSlot slot verified,
          .ownerWritePassword verified, .ownerWriteDebugKey verified] →
        exec c s = .next (s.regFault fuseCtrl))

/-- The commands that fence, admit and test (R524, R532-R534) and that reset a part (R519, R520): the pier leaves the admitted ones, a test
of a pier runs and withholds its tokens, a module or stack test runs, and the results of a test complete its command. -/
def Obligations.TestCommandsRun : Prop :=
  ∀ (s : State) (k : MailIx) (p : Packet),
    (∀ q : PierIx, s.runsPacket k 0x0601 p → p.le 0 1 = q.val → p.le 1 1 = 0 → q ∉ s.fenced → q ∉ s.failed →
      exec (.fencePier k) s = .next (((s.beginPacket k.val).fence q).finish k.val .ok 0 [0xFF]) ∧
      q ∈ ((s.beginPacket k.val).fence q).fenced ∧ q ∉ ((s.beginPacket k.val).fence q).admitted) ∧
    (∀ q : PierIx, s.runsPacket k 0x0602 p → p.le 0 1 = q.val → q ∉ s.admitted → s.admitted.length < s.ceiling →
      s.flag Fld.THERM_STATUS_TRIPPED 0 = false → s.testRuns = false →
      Runs (.admitPier k) s (fun u => ⟨q, .admission k.val⟩ ∈ u.tests ∧ u.flag Fld.BIST_STATUS_RUNNING 0 = true)) ∧
    (∀ q : PierIx, s.runsPacket k 0x0603 p → p.le 0 1 = 2 → p.le 1 1 = q.val → q ∉ s.admitted → s.testRuns = false →
      Runs (.bistPier k) s (fun u => ⟨q, .bist k.val⟩ ∈ u.tests ∧ u.flag Fld.BIST_STATUS_RUNNING 0 = true)) ∧
    (s.runsPacket k 0x0603 p → s.inProgram = false → s.testRuns = false → 2350 ≤ s.fld Fld.TOKEN_STATUS_BUDGET_W 0 →
      (p.le 0 1 = 0 → Runs (.bistModuleNative k) s (fun u => (u.bist.map ModTest.scope) = some 0 ∧
        (u.bist.map ModTest.slot) = some k.val ∧ u.flag Fld.BIST_STATUS_RUNNING 0 = true)) ∧
      (p.le 0 1 = 1 → Runs (.bistModuleT7 k) s (fun u => (u.bist.map ModTest.scope) = some 1 ∧
        (u.bist.map ModTest.slot) = some k.val ∧ u.flag Fld.BIST_STATUS_RUNNING 0 = true))) ∧
    (s.runsPacket k 0x0603 p → p.le 0 1 = 3 → s.launched = false → s.testRuns = false →
      Runs (.bistStack k) s (fun u => (u.bist.map ModTest.target) = some (p.le 1 1) ∧
        (u.bist.map ModTest.scope) = some 3 ∧ u.flag Fld.BIST_STATUS_RUNNING 0 = true)) ∧
    (∀ (r : BistResult) (t : ModTest), s.bist = some t → t.paused = false →
      Runs (.bistDone r) s (fun u => u.bist = none ∧ (u.mailSlot t.slot).running = none)) ∧
    (∀ (q : PierIx) (r : PierResult) (ms : Nat) (t : PierTest), s.tests.find? (fun t => t.pier = q) = some t →
      let x := s.judge q r
      exec (.pierTestDone q r ms) s = .next ((((s.dropTest q).repairPier q
        { x with loopback := x.loopback && !s.pathCrosses q }).noteResult x.code.val (s.pierRepairs q x) ms).endTest t
          x.code.val (s.pierRepairs q x) ms)) ∧
    (∀ q : PierIx, s.runsPacket k 0x0801 p → p.le 0 1 = 1 → p.le 1 1 = q.val → (∀ x ∈ s.tests, x.pier ≠ q) →
      exec (.resetPier k) s = .next ({ (s.loseBound q).resetCompute q with challenge := none }.finish k.val .ok 0 [])) ∧
    (s.runsPacket k 0x0801 p → p.le 0 1 = 2 → p.le 1 1 ≤ 11 →
      let ks := s.portCommands (p.le 1 1)
      let v := ks.foldl (fun s j => s.refuse j .aborted)
        { s with challenge := none, probes := s.probes.filter (fun e => !ks.contains e.2.1) }
      exec (.resetLink k) s = .next ((v.onPort (fun s => s.toDetect (p.le 1 1))).finish k.val .ok 0 [])) ∧
    (∀ b, s.runsPacket k 0x0801 p → p.le 0 1 = 0 →
      Runs (.resetWarm k b) s (fun u => u.replied k .ok [] ∧
        u.warmReset = some ⟨b, s.runningSlots.map Prod.fst, none⟩ ∧ u.phase = s.phase))

/-- The resets (R515, R518, R521, R504): power-on, a module reset and a supply reset leave the module in reset with nothing of a program, no
mailbox and the priority stack empty; a supply reset ends as its recovery level stands and starts the tollhouse, but where RESET_L is low,
which holds the module in reset until its release (R19); a release starts the tollhouse and the module; with the bank exhausted power is
gone. Which commands end which reset, and what the records of one reset keep, is the model's choice (log 93). -/
def Obligations.ResetsRun : Prop :=
  (∀ s : State, s.phase = .off → Runs .powerOn s (fun u => u.phase = .reset 0 false ∧ u.binding = [] ∧ u.mail = [] ∧
    u.taken = [] ∧ u.notices = [] ∧ u.flag Fld.MAILBOX_CFG_ENABLE 0 = false)) ∧
  (∀ s : State, s.phase = .released ∨ (∃ c, s.phase = .booted c) → Runs .moduleReset s (fun u =>
    u.phase = .reset 1 false ∧ u.binding = [] ∧ u.mail = [] ∧ u.taken = [] ∧ u.notices = [] ∧ u.journalWrites = [] ∧
    u.flag Fld.MAILBOX_CFG_ENABLE 0 = false)) ∧
  (∀ s : State, s.phase = .released ∨ (∃ c, s.phase = .booted c) → Runs .supplyReset s (fun u =>
    u.phase = .reset 3 true ∧ u.binding = [] ∧ u.mail = [] ∧ u.taken = [] ∧ u.recovering = false ∧
    u.flag Fld.MAILBOX_CFG_ENABLE 0 = false)) ∧
  (∀ (s : State) (c : Nat) (b : TollBoot), s.phase = .reset c true → s.recovering = true → s.refLost = false →
    exec (.supplyResetRelease b) s = .next (if s.sensed 0 then s.tollBoot c b else { s with phase := .reset c false })) ∧
  (∀ (s : State) (c : Nat) (m : ModuleBoot), s.phase = .booted c →
    exec (.resetRelease m) s = .next (s.moduleBoot c m) ∧ (s.moduleBoot c m).phase = .released) ∧
  (∀ (s : State) (c : Nat), s.phase = .reset c true → exec .holdupExhausted s = .next { s with phase := .off })

/-- Idle, doze, park and the hold-up bank (R505-R507, R511-R514): with nothing to do the module idles; with nothing that refuses it, it
dozes with its piers without power, or parks with every port down; a wake leaves either, and a measurement of the bank begins and ends. A
journal write is complete once its failing blocks are retired, and its record is kept with its CRC-32C (R421, R480, R508; over which bytes
the CRC runs is open, log 175). That a byte lost with its power reads as 0, what a register holds that no default names, that doze and park
wait for a test of the tollhouse's own accord, and how park is entered and left are the model's choice (logs 1, 2, 72, 92). -/
def Obligations.PowerCommandsRun : Prop :=
  (∀ s : State, s.phase = .released → s.powerState = 0 → s.launched = false → s.runsAny runningOps = false → s.tests = [] →
    s.bist = none → exec .idleEntry s = .next (s.setPower 1)) ∧
  (∀ s : State, s.phase = .released → s.powerState ≤ 1 → s.powerRefusal false = 0 → s.tests = [] →
    Runs .powerDoze s (fun u => u.powerState = 2 ∧ u.openGates = [] ∧ u.binding = s.binding ∧
      (∀ p, u.pier p = Pier.init) ∧ (s.moves = [] → s.openWrites = [] → ∀ a, hostBase ≤ a → u.byte a = s.byte a))) ∧
  (∀ s : State, s.phase = .released → s.powerState ≤ 2 → s.powerRefusal true = 0 → s.tests = [] →
    Runs .powerPark s (fun u => u.powerState = 3 ∧ u.openGates = [] ∧ u.binding = [] ∧
      (∀ a, hostBase ≤ a → u.byte a = s.byte a) ∧ (∀ a, a < hostBase → u.byte a = 0))) ∧
  (∀ s : State, s.powerState = 2 → s.braced = false →
    Runs .powerWake s (fun u => u.powerState = 1 ∧ u.fld Fld.POWER_STATUS_WAKE_SRC 0 = 1 ∧ u.openGates = [] ∧
      (∀ a, u.byte a = s.byte a))) ∧
  (∀ (s : State) (g : GateIx), Runs (.gateSrTimeout g) s (fun u => g.val ∉ u.openGates ∧
    (∀ n, n ≠ g.val → (n ∈ u.openGates ↔ n ∈ s.openGates)) ∧ u.regs = s.regs ∧ u.mem = s.mem)) ∧
  (∀ (s : State) (i : Fin 5), s.powerState = 3 →
    Runs (.parkLatchWake i) s (fun u => u.powerState = 4 ∧ (u.fld Fld.SENSE_STATUS_LATCH 0).testBit i.val = true ∧
      (∀ a, u.byte a = s.byte a))) ∧
  (∀ (s : State) (i : Fin 5), s.powerState = 4 → s.wakeWanted = none →
    Runs (.parkWakeTimeout i) s (fun u => u.powerState = 3 ∧ u.mem = s.mem)) ∧
  (∀ s : State, s.braced = true → Runs .holdupMeasure s (fun u => u.measureWanted = true ∧ u.regs = s.regs)) ∧
  (∀ s : State, s.braced = false → Runs .holdupMeasure s (fun u => u.measureWanted = false ∧
    u.flag Fld.HOLDUP_STATUS_MEASURING 0 = true)) ∧
  (∀ (s : State) (bank v1 v2 : Nat), s.flag Fld.HOLDUP_STATUS_MEASURING 0 = true →
    Runs (.holdupMeasureDone bank v1 v2) s (fun u => u.flag Fld.HOLDUP_STATUS_MEASURING 0 = false ∧
      u.fld Fld.HOLDUP_STATUS_V_BANK 0 = bank % 2 ^ Fld.HOLDUP_STATUS_V_BANK.width)) ∧
  (∀ s : State, s.flag Fld.HOLDUP_STATUS_VALID 0 = true → s.braced = false →
    Runs .holdupAgeExpiry s (fun u => u.flag Fld.HOLDUP_STATUS_MEASURING 0 = true)) ∧
  (∀ (s : State) (r : JRecord) (rest : List JRecord) (retired : List Nat), s.journalWrites = r :: rest →
    let kept := ({ s with journalWrites := rest }.retireBlocks retired).keepRecord r
    (∀ b ∈ retired, b ∈ kept.retired) ∧ kept.journal.head? = some ⟨r, crc32c (recordImage r)⟩ ∧
    ((∀ own n m a t b, r ≠ .keystone own n m a t b) → exec (.journalWriteDone retired) s = .next kept) ∧
    (∀ n m a t b, r = .keystone true n m a t b → exec (.journalWriteDone retired) s = .next (kept.ownWritten n)) ∧
    (∀ n m a t b, r = .keystone false n m a t b → exec (.journalWriteDone retired) s = .next (kept.acknowledge n m)))

/-- What the sensors and the supply tell (R329, R474-R478, R483-R491, R500-R502): the alert and PAIR_ALIVE follow their inputs, the trip
ends below its limit, a window updates the supply factor and reads the hold-up bank (when it is read is the model's choice, log 172), the
clock step follows the temperature, a monitor of a clocked span fails (its period of its own is the model's choice, log 171), the reference
clock is lost and comes back, brace begins and ends, and a failed router is recorded. The value of the wide generators' reseed is free (log
3), and that the recovery level clears the flags of the levels below it is the model's choice (log 91). -/
def Obligations.SensorEventsRun : Prop :=
  (∀ s : State, Runs .thermAlertAssert s (fun u => u.flag Fld.TOKEN_STATUS_ALERT 0 = true ∧ u.sensed 2 = false)) ∧
  (∀ s : State, Runs .thermAlertDeassert s (fun u => u.flag Fld.TOKEN_STATUS_ALERT 0 = false ∧ u.sensed 2 = true ∧
    (∀ a, u.byte a = s.byte a))) ∧
  (∀ s : State, Runs .pairAliveLow s (fun u => u.flag Fld.PAIR_STATUS_PAIR_ALIVE 0 = false ∧ u.sensed 1 = false)) ∧
  (∀ s : State, Runs .pairAliveHigh s (fun u => u.flag Fld.PAIR_STATUS_PAIR_ALIVE 0 = true ∧ u.sensed 1 = true ∧
    u.pairing = s.pairing ∧ (∀ a, u.byte a = s.byte a))) ∧
  (∀ (s : State) (temps : List Nat), Runs (.junctionReading temps) s (fun u =>
    (∀ sp : Fin 17, u.tempsOf sp.val = (temps.getD sp.val 0, (s.tempsOf sp.val).1)) ∧
    u.fld Fld.THERM_STATUS_TJ_MAX 0 = (s.takeTemps temps).hottest.1 % 2 ^ Fld.THERM_STATUS_TJ_MAX.width ∧
    ((s.takeTemps temps).tripSpan.isSome = true → u.flag Fld.THERM_STATUS_TRIPPED 0 = true) ∧
    ((s.takeTemps temps).tripSpan = none → u.flag Fld.THERM_STATUS_TRIPPED 0 = s.flag Fld.THERM_STATUS_TRIPPED 0))) ∧
  (∀ s : State, s.flag Fld.THERM_STATUS_TRIPPED 0 = true → s.hottest.1 ≤ 380 →
    Runs .thermTripClear s (fun u => u.flag Fld.THERM_STATUS_TRIPPED 0 = false ∧ (∀ a, u.byte a = s.byte a))) ∧
  (∀ (s : State) (vin iin watts bank : Nat), Runs (.supplyWindowEnd vin iin ⟨watts, bank⟩) s (fun u =>
    4 ≤ u.factorP ∧ u.factorP ≤ 16 ∧ u.fld Fld.SUPPLY_STATUS_P_AVG 0 = min watts 4000 ∧
    u.fld Fld.HOLDUP_STATUS_V_BANK 0 = bank % 2 ^ Fld.HOLDUP_STATUS_V_BANK.width ∧
    (s.fld Fld.TOKEN_STATUS_BUDGET_W 0 < watts → s.factorP ≤ 16 → u.factorP = max 4 (s.factorP - 1)) ∧
    (∀ a, u.byte a = s.byte a))) ∧
  (∀ s : State, s.flag Fld.CLK_STATUS_MODE 0 = true →
    min (stepOf (s.fld Fld.THERM_STATUS_TJ_MAX 0)) (s.fld Fld.CLK_CFG_FSTEP_CAP 0) < s.fstep →
    Runs .fstepUpdate s (fun u => u.fstep = s.fstep - 1 ∧ u.coolReads = 0 ∧ (∀ a, u.byte a = s.byte a))) ∧
  (∀ (s : State) (sp : SpanIx), s.clocked sp.val = false → exec (.replicaMonitorFail sp) s = .next s) ∧
  (∀ (s : State) (sp : SpanIx), s.clocked sp.val = true → s.flag Fld.CLK_STATUS_MODE 0 = true →
    exec (.replicaMonitorFail sp) s = .next (s.bump Fld.CLK_SPAN_COUNT_MARGIN_EVENTS sp.val 1)) ∧
  (∀ (s : State) (sp : SpanIx), s.clocked sp.val = true → s.flag Fld.CLK_STATUS_MODE 0 = false →
    s.flag Fld.CLK_STATUS_TEST_PERIOD 0 = false → exec (.replicaMonitorFail sp) s = .next (s.period (some sp.val)) ∧
    ((∀ j < 17, s.holds j = false) → s.period (some sp.val) =
      ((s.lengthen (s.fld Fld.CLK_CFG_STRETCH_STEPS 0) sp.val).bump Fld.CLK_SPAN_COUNT_STRETCHES sp.val 1).jointStalls)) ∧
  (∀ s : State, s.flag Fld.CLK_STATUS_REF_LOST 0 = false →
    Runs .refclkLost s (fun u => u.flag Fld.CLK_STATUS_REF_LOST 0 = true ∧ u.refLost = true ∧ (∀ a, u.byte a = s.byte a))) ∧
  (∀ s : State, Runs .refclkRestored s (fun u => u.flag Fld.CLK_STATUS_REF_LOST 0 = false ∧ u.refLost = false ∧ (∀ a, u.byte a = s.byte a))) ∧
  (∀ s : State, exec .wideReseed s = .next { s with freeCtr := s.freeCtr + 1 }) ∧
  (∀ (s : State) (p : PierIx) (net : Fin 3), (p, net.val) ∉ s.routerFails → net.val ≠ 2 →
    Runs (.routerFail p net) s (fun u => u.routerFails = s.routerFails ++ [(p, net.val)] ∧ (∀ a, u.byte a = s.byte a))) ∧
  (∀ (s : State) (i : Fin 6), exec (.senseGlitchRejected i) s = .next (s.bump (senseCount i.val) 0 1)) ∧
  (∀ s : State, Runs .supplyRecoveryLevel s (fun u => u.recovering = true ∧ u.sensed 5 = true ∧ u.sensed 3 = false ∧
    u.sensed 4 = false)) ∧
  (∀ s : State, Runs .recoveryLevelBreak s (fun u => u.recovering = false ∧ u.sensed 5 = false)) ∧
  (∀ (s : State) (mv : Nat), s.powerState ≠ 4 → (((s.setSense 3 true).setSense 5 false).readInput mv).mayBrace = true →
    s.tests = [] → Runs (.braceEnter mv) s (fun u => u.braced = true ∧ u.flag Fld.POWER_STATUS_BRACE 0 = true ∧
      u.braceAt = some s.now ∧ u.recovering = false ∧ u.sensed 3 = true)) ∧
  (∀ (s : State) (t : Word), s.braceAt = some t → s.recovering = true → s.measureWanted = false → s.wakeWanted = none →
    exec .braceExit s = .next
      (((s.endBrace.charge.bump Fld.BRACE_COUNT_RECOVERED 0 1).event .braceExit 0 0 (s.now - t).toNat).pauseBist.retestParked))

/-- Juwire (R437, R439-R444): a request of the host is answered by the access that it makes, is held while its gates do not serve, while
it would pass one to the same block, or while the link recovers, or is unsupported; a completion ends its write; an invalidation is
acknowledged with its tag and notifies its slot, and a malformed message is discarded; the link goes down, or recovers with every flit
kept, or only counts; it comes up, or ends in the state that its training reaches (R378, R437; log 116); an aborted request is answered. -/
def Obligations.JuwireCommandsRun : Prop :=
  (∀ (s : State) (tag a n : Nat) (u : Upset), s.jwActive = true → s.tollUp = true → s.powerState < 3 →
    1 ≤ n → n ≤ 4096 → a < hostBase → let v := { s with jwAsleep := false }
    ((s.hostPlace a n = .onModule ∧ s.rangeServed a n = false) ∨ s.behindWaits a n = true →
      exec (.jwRd tag a n false u) s = .next { v with hostWaits := s.hostWaits ++ [.request (.jwRd tag a n false u)] }) ∧
    (s.behindWaits a n = false →
      (s.hostPlace a n = .onModule → s.rangeServed a n = true →
        exec (.jwRd tag a n false u) s = .next ((v.gateRead 0 a n u).2.send (.jwCpl tag (if (v.gateRead 0 a n u).1 then 1 else 0)
          (if (v.gateRead 0 a n u).1 then List.replicate n 0 else (v.gateRead 0 a n u).2.bytes a n)))) ∧
      (s.hostPlace a n = .deck → exec (.jwRd tag a n false u) s =
        .next (((v.deckAccess a n).eccHost a n).send (.jwCpl tag 0 (s.bytes a n)))) ∧
      (s.hostPlace a n = .regs → n = 8 → a % 8 = 0 →
        exec (.jwRd tag a n false u) s = .next ((v.regRead a).2.send (.jwCpl tag 0 (leBytes 8 (v.regRead a).1.toNat)))) ∧
      (s.hostPlace a n = .regs → n ≠ 8 ∨ a % 8 ≠ 0 →
        exec (.jwRd tag a n false u) s = .next ((v.badWidth a).send (.jwCpl tag 0 (List.replicate n 0xFF)))) ∧
      (s.hostPlace a n = .hole →
        exec (.jwRd tag a n false u) s = .next ((v.unmapped a).send (.jwCpl tag 0 (List.replicate n 0xFF)))))) ∧
  (∀ (s : State) (tag a : Nat) (bs : List Byte) (u : Upset), s.jwActive = true → s.tollUp = true →
    s.powerState < 3 → 1 ≤ bs.length → bs.length ≤ 4096 → a < hostBase → let v := { s with jwAsleep := false }
    ((s.hostPlace a bs.length = .onModule ∧ s.rangeServed a bs.length = false) ∨ s.behindWaits a bs.length = true →
      exec (.jwWr tag a bs false u) s = .next { v with hostWaits := s.hostWaits ++ [.request (.jwWr tag a bs false u)] }) ∧
    (s.behindWaits a bs.length = false →
      (s.hostPlace a bs.length = .onModule → s.rangeServed a bs.length = true →
        exec (.jwWr tag a bs false u) s = .next ((v.gateWrite (.host tag) 1 a bs false u).2.finishWrite (.host tag)
          (.jwCpl tag (if (v.gateWrite (.host tag) 1 a bs false u).1 then 1 else 0) []))) ∧
      (s.hostPlace a bs.length = .deck →
        exec (.jwWr tag a bs false u) s = .next (((v.deckAccess a bs.length).writeBytes a bs).send (.jwCpl tag 0 [])) ∧
        (∀ i : Fin bs.length, ((v.deckAccess a bs.length).writeBytes a bs).byte (a + i.val) = bs.get i) ∧
        (∀ b, (b < a ∨ a + bs.length ≤ b) → ((v.deckAccess a bs.length).writeBytes a bs).byte b = s.byte b)) ∧
      (s.hostPlace a bs.length = .regs → bs.length = 8 → a % 8 = 0 →
        exec (.jwWr tag a bs false u) s = .next ((v.regWrite a (BitVec.ofNat 64 (leNat bs))).send (.jwCpl tag 0 []))) ∧
      (s.hostPlace a bs.length = .regs → bs.length ≠ 8 ∨ a % 8 ≠ 0 →
        exec (.jwWr tag a bs false u) s = .next ((v.badWidth a).send (.jwCpl tag 0 []))) ∧
      (s.hostPlace a bs.length = .hole →
        exec (.jwWr tag a bs false u) s = .next ((v.unmapped a).send (.jwCpl tag 0 []))))) ∧
  (∀ (s : State) (tag a n : Nat) (bs : List Byte) (bad : Bool) (u : Upset), s.jwActive = true → s.tollUp = true →
    let v := { s with jwAsleep := false }
    (bad = true ∨ n = 0 ∨ 4096 < n ∨ hostBase ≤ a → exec (.jwRd tag a n bad u) s = .next (v.send (.jwCpl tag 2 []))) ∧
    (bad = true ∨ bs = [] ∨ 4096 < bs.length ∨ hostBase ≤ a →
      exec (.jwWr tag a bs bad u) s = .next (v.send (.jwCpl tag 2 [])))) ∧
  (∀ (s : State) (tag a n : Nat) (bs : List Byte) (bad : Bool) (u : Upset) (c : Fin 4) (l : SnpLine) (ws : List (Nat × List Byte)),
    s.jwRecovering = true → ∀ i ∈ [Instr.jwRd tag a n bad u, .jwWr tag a bs bad u, .jwCpl tag ⟨c, bad⟩, .snpInv l ws],
      exec i s = .next { s with hostWaits := s.hostWaits ++ [.request i] }) ∧
  (∀ (s : State) (tag : Nat) (k : MailIx), s.jwActive = true → s.jwBusy.find? (fun e => e.1 = tag) = some (tag, .reply k.val) →
    (∀ e ∈ s.jwBusy, e.1 ≠ tag → e.2 ≠ .reply k.val) → s.jwHeld = [] →
    Runs (.jwCpl tag ⟨0, false⟩) s (fun u => (u.mailSlot k.val).written = true ∧ (∀ e ∈ u.jwBusy, e.1 ≠ tag) ∧ u.regs = s.regs ∧
      u.mem = s.mem)) ∧
  (∀ (s : State) (tag : Nat) (c : Fin 4) (bad : Bool), s.jwRecovering = false →
    s.jwBusy.find? (fun e => e.1 = tag) = none ∨ bad = true → exec (.jwCpl tag ⟨c, bad⟩) s = .next s) ∧
  (∀ (s : State) (tag addr : Nat) (k : MailIx) (ws : List (Nat × List Byte)) (c : Fin 4), s.jwActive = true →
    addr + hostBase = s.slotBase k.val → s.flag Fld.MAILBOX_CFG_ENABLE 0 = true → s.flag Fld.EVT_STATUS_QUEUE_VALID 0 = false →
    s.powerState < 3 → Runs (.snpInv ⟨tag, addr, false, c⟩ ws) s (fun u => (u.mailSlot k.val).notified = true ∧
      (u.mailSlot k.val).shared = false ∧ k.val ∈ u.mailOrder ∧ (∀ j, j ≠ k.val → u.mailSlot j = s.mailSlot j) ∧
      u.outbox = .snpAck tag addr :: s.outbox ∧ u.regs = s.regs ∧ (∀ a, a < hostBase → u.byte a = s.byte a))) ∧
  (∀ (s : State) (tag a : Nat) (ws : List (Nat × List Byte)) (bad : Bool) (c : Fin 4), s.jwRecovering = false →
    bad = true ∨ a % 64 ≠ 0 → exec (.snpInv ⟨tag, a, bad, c⟩ ws) s = .next s) ∧
  (∀ (s : State) (crcErrors retries recoveries : Nat), s.jwActive = true ∨ s.jwRecovering = true →
    Runs (.jwLinkDown crcErrors retries ⟨recoveries, .detect⟩) s (fun u =>
      u.fld Fld.JW_STATUS_STATE 0 = 1 ∧ u.hostWaits = s.hostWaits.filter (fun q => !q.ofHost) ∧ (∀ e ∈ u.jwBusy, e.2 = .msi) ∧ u.jwHeld = [] ∧
      u.flag Fld.JW_ERR_JUWIRE_DOWN 0 = true ∧ u.mem = s.mem ∧
      u.fld Fld.JW_COUNT_CRC_ERRORS 0 = min (s.fld Fld.JW_COUNT_CRC_ERRORS 0 + crcErrors) (2 ^ 32 - 1) ∧
      u.fld Fld.JW_COUNT_RETRIES 0 = min (s.fld Fld.JW_COUNT_RETRIES 0 + retries) 65535 ∧
      u.fld Fld.JW_COUNT_RECOVERIES 0 = min (s.fld Fld.JW_COUNT_RECOVERIES 0 + recoveries) 65535)) ∧
  (∀ (s : State) (crcErrors retries recoveries : Nat), s.jwActive = true →
    Runs (.jwLinkDown crcErrors retries ⟨recoveries, .recovery⟩) s (fun u => u.fld Fld.JW_STATUS_STATE 0 = 6 ∧ u.hostWaits = s.hostWaits ∧
      u.jwBusy = s.jwBusy ∧ u.jwHeld = s.jwHeld ∧ u.outbox = s.outbox ∧ u.mail = s.mail ∧ u.mem = s.mem ∧
      u.fld Fld.JW_COUNT_RECOVERIES 0 = min (s.fld Fld.JW_COUNT_RECOVERIES 0 + (recoveries + 1)) 65535)) ∧
  (∀ (s : State) (crcErrors retries recoveries : Nat), Runs (.jwLinkDown crcErrors retries ⟨recoveries, .stays⟩) s (fun u =>
    (∀ q i, q ≠ RegName.jwCount → u.reg q i = s.reg q i) ∧ u.hostWaits = s.hostWaits ∧ u.jwBusy = s.jwBusy ∧ u.mem = s.mem ∧
    u.fld Fld.JW_COUNT_CRC_ERRORS 0 = min (s.fld Fld.JW_COUNT_CRC_ERRORS 0 + crcErrors) (2 ^ 32 - 1))) ∧
  (∀ (s : State) (lanes : BitVec 32) (narrow : Bool) (reads : LineReads), jwWidth lanes = some narrow →
    s.jwActive = false → s.tollUp = true → Runs (.jwLinkUp lanes 1 1 reads) s (fun u => ∃ v : State,
      u = (if s.jwRecovering then v.pumpQueue.retryHost
        else (((List.range 64).foldl State.resendReply v).resendMsi.rereadHead reads.head).pumpQueue) ∧
      v.jwActive = true ∧ v.flag Fld.JW_STATUS_WIDTH 0 = narrow ∧ v.fld Fld.JW_STATUS_LANE_LOCK 0 = lanes.toNat ∧
      v.jwBusy = s.jwBusy)) ∧
  (∀ (s : State) (lanes : BitVec 32) (a b : Nat) (reads : LineReads), s.jwActive = false → s.jwRecovering = false →
    s.tollUp = true → jwReaches lanes a b ≠ 5 → Runs (.jwLinkUp lanes a b reads) s (fun u =>
      u.fld Fld.JW_STATUS_STATE 0 = jwReaches lanes a b ∧ u.fld Fld.JW_STATUS_LANE_LOCK 0 = lanes.toNat ∧
      u.mail = s.mail ∧ u.mem = s.mem)) ∧
  (∀ (s : State) (tag : Nat) (q : Waiting), s.hostWaits.find? (waitsAs tag) = some q →
    exec (.hostRequestAbort tag false) s =
      .next ({ s with hostWaits := s.hostWaits.erase q }.send (.jwCpl tag 3 [])))

/-- The event controller and the mailbox switches (R446, R448, R467, R471, R472): firmware reads CODE, LEVEL and VALID of the presented
notice (R482) and takes it, completes the level at the top, and empties the stack; a record done moves TAIL on; the mailbox reads each
header when it is enabled and releases it when disabled. -/
def Obligations.EventCommandsRun : Prop :=
  (∀ (s : State) (n : Notice), s.presented = some n →
    exec .evtPresent s = .next { s.fresh.2.send (.firmware (s.presentWord ||| (s.fresh.1 <<< 20))) with
      notices := s.notices.erase n, taken := s.taken ++ [n] } ∧
    s.presentWord = BitVec.ofNat 64 (n.code.num % 2 ^ 16 + n.level % 8 * 2 ^ 16 + 2 ^ 19) ∧
    (∀ m ∈ s.taken.getLast?, m.level < n.level) ∧ (∀ m ∈ s.notices, m.level ≤ n.level)) ∧
  (∀ (s : State) (n : Notice) (l : Fin 8), s.taken.getLast? = some n → n.level = l.val →
    exec (.evtDone l) s = .next ({ s with taken := s.taken.dropLast }.postNotice n)) ∧
  (∀ (s : State) (n : Notice) (l : Fin 8), s.taken.getLast? = some n → n.level ≠ l.val → n.level ≠ 7 →
    Runs (.evtDone l) s (fun u => u.taken = s.taken ∧
      u.fld Fld.EVT_COUNT_STACK_FAULTS 0 = min (s.fld Fld.EVT_COUNT_STACK_FAULTS 0 + 1)
        (2 ^ Fld.EVT_COUNT_STACK_FAULTS.width - 1))) ∧
  (∀ s : State, exec .evtFlush s = .next { s with notices := s.taken ++ s.notices, taken := [] }) ∧
  (∀ s : State, s.recordOut = true → s.evtHeadRead ≠ s.evtIndex → Runs .eventRecordDone s (fun u => ∃ v : State,
    u = v.pumpQueue.pumpHeld ∧ v.evtIndex = (s.evtIndex + 1) % 2 ^ 64 ∧ v.recordOut = false ∧ v.posted = s.posted.drop 1 ∧
    v.outbox = s.outbox)) ∧
  (∀ s : State, s.recordOut = true → s.evtHeadRead = s.evtIndex →
    (s.jwBusy.filter (fun e => e.2 != JwKind.record)).length < 4096 → Runs .eventRecordDone s (fun u => ∃ v : State,
    u = v.pumpQueue.pumpHeld ∧ v.evtIndex = (s.evtIndex + 1) % 2 ^ 64 ∧ v.recordOut = false ∧ v.posted = s.posted.drop 1 ∧
    v.outbox = .jwWrite s.jwTag (s.queue.msiAddr - hostBase) (leBytes 4 s.queue.msiData) :: s.outbox)) ∧
  (∀ (s : State) (v : Word), s.regsUp = true → s.jwActive = true → s.flag Fld.MAILBOX_CFG_ENABLE 0 = false →
    Fld.MAILBOX_CFG_ENABLE.ofWord v = 1 → Runs (.mailboxEnable v []) s (fun u =>
      u.flag Fld.MAILBOX_CFG_ENABLE 0 = true ∧ u.flag Fld.CMD_STATUS_SESSION 0 = false ∧ u.mem = s.mem ∧
      (∀ k : MailIx, (u.mailSlot k.val).seen = u.headerSeq k.val ∧ (u.mailSlot k.val).shared = true ∧
        (u.mailSlot k.val).running = (s.mailSlot k.val).running))) ∧
  (∀ (s : State) (v : Word), s.regsUp = true → s.flag Fld.MAILBOX_CFG_ENABLE 0 = true → Fld.MAILBOX_CFG_ENABLE.ofWord v = 0 →
    Fld.MAILBOX_CFG_BASE.ofWord v = s.fld Fld.MAILBOX_CFG_BASE 0 → Runs (.mailboxDisable v) s (fun u =>
      u.flag Fld.MAILBOX_CFG_ENABLE 0 = false ∧ u.mem = s.mem ∧
      (∀ k : MailIx, (u.mailSlot k.val).shared = false ∧ (u.mailSlot k.val).notified = false ∧
        (u.mailSlot k.val).running = (s.mailSlot k.val).running)))

/-- The writes to registers (R14-R17, R103, R373, R378, R386, R405, R476): a write that is not aligned or finds nothing faults; a field
takes a legal value and keeps its own where the value is reserved; and the writes that have a row of their own have their effect. -/
def Obligations.RegisterCommandsRun : Prop :=
  (∀ (s : State) (a : Nat) (v : Word), s.regsUp = true → a % 8 ≠ 0 → exec (.regWrite a v) s = .next (s.event .regAccessFault 0 0 a)) ∧
  (∀ (s : State) (a : Nat) (v : Word), s.regsUp = true → a % 8 = 0 → regAt a = .hole →
    exec (.regWrite a v) s = .next (s.event .unmappedAccess 0 0 a)) ∧
  (∀ (s : State) (a : Nat) (v : Word), s.regsUp = true → a % 8 = 0 → regAt a = .reserved none →
    exec (.regWrite a v) s = .next (if v = 0 then s else s.event .regAccessFault 0 0 a)) ∧
  (∀ (s : State) (a i : Nat) (r : RegName) (v : Word), s.regsUp = true → a % 8 = 0 → regAt a = .listed r i none →
    r ∈ [.homeCfg, .senseCfg, .powerCfg, .routePorts, .routeOvr, .pairCfg] → Runs (.regWrite a v) s (fun u =>
      (∀ f ∈ regFields r, f.acc = .rw → f.isLegal (f.ofWord v) = true → u.fld f i = f.ofWord v) ∧
      (∀ f ∈ regFields r, f.acc = .rw → f.isLegal (f.ofWord v) = false → u.fld f i = s.fld f i) ∧
      (∀ q j, (q, j) ≠ (r, i) → q ≠ .evtCount → u.reg q j = s.reg q j) ∧ u.mem = s.mem)) ∧
  (∀ (s : State) (i : Fin 1024), s.regsUp = true → Runs (.parapetSel i) s (fun u =>
    u.fld Fld.PARAPET_SEL_INDEX 0 = i.val ∧ u.parapets = s.parapets ∧ u.mem = s.mem ∧
    (s.parapets[i.val]? = none → u.reg .parapetW0 0 = 0 ∧ u.reg .parapetW1 0 = 0 ∧ u.reg .parapetW2 0 = 0) ∧
    (∀ p, s.parapets[i.val]? = some p → u.flag Fld.PARAPET_W0_VALID 0 = true ∧
      u.fld Fld.PARAPET_W0_OBJECT 0 = p.object % 2 ^ Fld.PARAPET_W0_OBJECT.width ∧
      u.reg .parapetW1 0 = BitVec.ofNat 64 p.lo ∧ u.reg .parapetW2 0 = BitVec.ofNat 64 p.hi))) ∧
  (∀ (s : State) (p : PierIx) (a : ArchIx) (v : Word), s.regsUp = true → s.pierUp (some p.val) = true →
    (s.flag Fld.SERVICE_CTRL_OPEN 0 = false ∨ p ∉ s.fenced →
      exec (.unitRepairWrite p a v) s = .next (s.event .regAccessFault 0 0 (unitRepairAddr p a))) ∧
    (s.flag Fld.SERVICE_CTRL_OPEN 0 = true → p ∈ s.fenced →
      let w := (regWriteWord .unitRepair (s.reg .unitRepair (archIx p a)) v).1
      (failedUnits w).length ≤ 2 → Runs (.unitRepairWrite p a v) s (fun u => u.reg .unitRepair (archIx p a) = w ∧
        JRecord.unitRepair (archIx p a) w ∈ u.journalWrites ∧ u.mem = s.mem))) ∧
  (∀ (s : State) (n : PortIx) (v : Word), s.regsUp = true →
    (s.portCfgBars n.val v = true → exec (.portRoleWrite n v) s = .next (s.event .regAccessFault 0 0 (portCfgAddr n))) ∧
    (s.portCfgBars n.val v = false →
      let t := s.plainWrite .portCfg n.val (portCfgAddr n) v
      exec (.portRoleWrite n v) s = .next ((t.portDown n.val (if t.portEnabled n.val && t.powerState < 3 then 1 else 0)).bondChange
        (!s.bondActive.isEmpty)))) ∧
  (∀ (s : State) (v : Word), s.regsUp = true →
    ((∃ n : PortIx, 2 ≤ s.portState n.val) → exec (.pauneIdWrite v) s = .next (s.event .regAccessFault 0 0 pauneIdAddr)) ∧
    ((∀ n : PortIx, s.portState n.val < 2) → Runs (.pauneIdWrite v) s (fun u =>
      u.reg .pauneId 0 = (regWriteWord .pauneId (s.reg .pauneId 0) v).1 ∧ u.mem = s.mem ∧
      (u.flag Fld.PAUNE_ID_ID_VALID 0 = false → ∀ n : PortIx, u.portState n.val = 0)))) ∧
  (∀ (s : State) (v : Word) (mv : Nat), s.regsUp = true →
    exec (.senseCfgWrite v [] mv) s = .next (s.plainWrite .senseCfg 0 senseCfgAddr v))

/-- The sideband (R547, R570, R571): it reads and writes registers, writes the tollhouse's image slot A while no image verifies, and does no
service operation while service access is closed; every other command byte is not acknowledged; while the module is in reset it is busy; the
target answers to the address of its straps until one is assigned, which ends legacy operation and shows the provisional identifier (the
places of GRADE and STEPPING in it are the model's reading, log 180). With service access open the spec states no effect of a service
operation, and the model stops by name (R556). -/
def Obligations.SidebandCommandsRun : Prop :=
  (∀ (s : State) (a : Nat), s.regsUp = true → sbAddrOk a = true →
    exec (.sbRegRead a) s = .next ((s.regRead a).2.send (.sbReply 0 (leBytes 8 (s.regRead a).1.toNat)))) ∧
  (∀ (s : State) (a : Nat) (v : Word), s.regsUp = true → sbAddrOk a = true →
    exec (.sbRegWrite a v) s = .next ((s.regWrite a v).send (.sbReply 0 []))) ∧
  (∀ (s : State) (a : Nat) (v : Word), s.regsUp = true → sbAddrOk a = false →
    exec (.sbRegRead a) s = .next (s.send (.sbReply 1 [])) ∧ exec (.sbRegWrite a v) s = .next (s.send (.sbReply 1 []))) ∧
  (∀ (s : State) (off : Nat) (bs old : List Byte), s.phase = .noImage → s.flag Fld.FW_STATUS_NO_IMAGE 0 = true →
    1 ≤ bs.length → bs.length ≤ 240 → off + bs.length ≤ norSize 0 → s.norImage 0 = some old → off ≤ old.length →
      Runs (.sbImageWrite off bs) s (fun u =>
      u.norImage 0 = some (old.take off ++ bs ++ old.drop (off + bs.length)) ∧ u.outbox = .sbReply 0 [] :: s.outbox ∧
      u.regs = s.regs ∧ u.mem = s.mem)) ∧
  (∀ (s : State) (off : Nat) (bs : List Byte), s.regsUp = true → s.flag Fld.FW_STATUS_NO_IMAGE 0 = false →
    1 ≤ bs.length → bs.length ≤ 240 → exec (.sbImageWrite off bs) s = .next (s.send (.sbReply 1 []))) ∧
  (∀ (s : State) (op : Byte), s.phase ≠ .off → s.flag Fld.SERVICE_CTRL_OPEN 0 = false ∨ op.toNat < 0x10 ∨ 0x1F < op.toNat →
    exec (.sbServiceOp op) s = .next (s.send .sbNack)) ∧
  (∀ (s : State) (op : Byte), s.phase ≠ .off → s.flag Fld.SERVICE_CTRL_OPEN 0 = true → 0x10 ≤ op.toNat → op.toNat ≤ 0x1F →
    exec (.sbServiceOp op) s = .refused .serviceOperation) ∧
  (∀ (op : Byte) (rest : List Byte), op.toNat = 0 ∨ 3 < op.toNat → sbCommand (op :: rest) = some (.sbServiceOp op)) ∧
  (∀ addr < 2 ^ 48, sbCommand (1 :: leBytes 6 addr) = some (.sbRegRead addr) ∧
    ∀ v : Word, sbCommand (2 :: (leBytes 6 addr ++ leBytes 8 v.toNat)) = some (.sbRegWrite addr v)) ∧
  (∀ (s : State) (a : Nat) (v : Word) (bs : List Byte) (c : Nat) (h : Bool), s.phase = .reset c h →
    ∀ i ∈ [Instr.sbRegRead a, .sbRegWrite a v, .sbImageWrite a bs], exec i s = .next (s.send (.sbReply 2 []))) ∧
  (∀ (s : State) (a : Fin 128), s.phase ≠ .off →
    exec (.dynamicAddressAssignment a) s =
      .next ({ s with sbAddress := some a.val }.send (.sbIdentity ((s.reg .deviceId 0).setWidth 16)))) ∧
  (∀ s : State, (s.sbAddress = none → s.sbTarget = 0x30 + s.straps.val) ∧ ∀ a, s.sbAddress = some a → s.sbTarget = a)

/-- The states of a Paune port (R378-R381, R385): from DETECT by signal to TRAIN and on to ALIGN; locked lanes show in LANE_LOCK, and once
they give a width a HELLO is sent and the port is in EXCHANGE; by the HELLO's check the leader sends START and is ACTIVE with the partner's
shares as credits, the other end is so by START, and a conflict holds the port until it goes back to DETECT; into RECOVERY by a lost lane
or RECOVER, and out of it; and back to DETECT with its buffers lost. When a HELLO is
kept, which end computes and sees what, and that a HELLO after a conflict is ignored are the model's choice (log 81). -/
def Obligations.LinkEventsRun : Prop :=
  ∀ (s : State) (n : PortIx),
    (∀ lanes : BitVec 8, s.portState n.val = 1 → s.portEnabled n.val = true →
      4 ≤ ((List.range 8).filter (fun j => lanes.getLsbD j)).length →
      exec (.laneSignalDetect n lanes) s = .next (s.setPortState n.val 2)) ∧
    (s.portState n.val = 2 → exec (.linkTrainDone n) s = .next (s.setPortState n.val 3)) ∧
    (s.portState n.val = 2 → Runs (.linkTrainFail n) s (fun u => u.portState n.val = 1 ∧
      u.flag Fld.PORT_ERR_LINK_TRAIN_FAIL n.val = true ∧ u.link n.val = Link.init ∧ u.mem = s.mem)) ∧
    (s.portState n.val = 3 → Runs (.alignTimeout n) s (fun u => u.portState n.val = 1 ∧ u.link n.val = Link.init ∧ u.mem = s.mem)) ∧
    (s.portState n.val = 4 → (s.link n.val).clash = true → Runs (.exchangeRetry n) s (fun u =>
      u.portState n.val = 1 ∧ u.link n.val = Link.init ∧ u.mem = s.mem)) ∧
    (∀ lanes : BitVec 8, s.portState n.val = 3 →
      let t := s.setFld Fld.PORT_STATUS_LANE_LOCK n.val lanes.toNat
      ((widthOf (s.flag Fld.PORT_CFG_DEGRADE_EN n.val) lanes).isSome = false → OnPort (.alignLock n lanes) s (fun u => u = t ∧
        u.portState n.val = 3 ∧ u.fld Fld.PORT_STATUS_LANE_LOCK n.val = lanes.toNat)) ∧
      ((widthOf (s.flag Fld.PORT_CFG_DEGRADE_EN n.val) lanes).isSome = true →
        ((s.link n.val).partner = none → OnPort (.alignLock n lanes) s (fun u => u.portState n.val = 4 ∧
          u.fld Fld.PORT_STATUS_LANE_LOCK n.val = lanes.toNat ∧
          (∃ (f : Flit) (h : Hello), u.outbox = .hello n.val f h :: s.outbox ∧ f.kind = 2 ∧ h.module = s.moduleId ∧
            h.role = s.role n.val ∧ h.lanes = lanes ∧ h.nonce = s.reg .bootNonce0 0))) ∧
        (∀ h, (s.link n.val).partner = some h → OnPort (.alignLock n lanes) s (fun u =>
          let v := t.setPortState n.val 4
          u = (v.emitHello n.val (v.helloOf n.val)).exchange n.val h)))) ∧
    (s.portState n.val ≠ 0 → OnPort (.laneSignalLoss n) s (fun t => ∃ v : State, v.portState n.val = 1 ∧
      v.link n.val = Link.init ∧ v.mem = s.mem ∧
      (s.portState n.val < 5 ∨ 6 < s.portState n.val → t = v) ∧
      (s.portState n.val = 5 ∨ s.portState n.val = 6 → t = v.extPortDown n.val (s.ringFlying n.val) ∧
        v.flag Fld.PORT_ERR_LINK_DOWN n.val = true))) ∧
    (∀ lanes : BitVec 8, s.portState n.val = 5 → OnPort (.lockLoss ⟨n, lanes⟩) s (fun t =>
      t.fld Fld.PORT_STATUS_LANE_LOCK n.val =
        (BitVec.ofNat 8 (s.fld Fld.PORT_STATUS_LANE_LOCK n.val) &&& ~~~lanes).toNat ∧ t.links = s.links ∧ t.mem = s.mem ∧
      (lanes &&& s.lanesInUse n.val = 0#8 → t.portState n.val = 5) ∧
      (lanes &&& s.lanesInUse n.val ≠ 0#8 → t.portState n.val = 6 ∧
        t.fld Fld.PORT_COUNT_RECOVERIES n.val = min (s.fld Fld.PORT_COUNT_RECOVERIES n.val + 1)
          (2 ^ Fld.PORT_COUNT_RECOVERIES.width - 1)))) ∧
    (∀ side : LinkSide, s.portState n.val = 5 → OnPort (.linkRecover ⟨n, side⟩) s (fun t => t.portState n.val = 6 ∧
      t.fld Fld.PORT_COUNT_RECOVERIES n.val = min (s.fld Fld.PORT_COUNT_RECOVERIES n.val + 1)
        (2 ^ Fld.PORT_COUNT_RECOVERIES.width - 1) ∧ t.links = (s.takeSide n.val side).links ∧ t.mem = s.mem)) ∧
    (s.portState n.val = 6 → OnPort (.recoveryTimeout n) s (fun t => ∃ v : State, t = v.extPortDown n.val (s.ringFlying n.val) ∧
      v.portState n.val = 1 ∧ v.link n.val = Link.init ∧ v.flag Fld.PORT_ERR_LINK_DOWN n.val = true ∧ v.mem = s.mem)) ∧
    (s.portState n.val = 5 → (s.link n.val).retry ≠ [] →
      s.fld Fld.PORT_CFG_RETRY_LIMIT n.val ≤ (s.link n.val).tries → OnPort (.ackTimeout n) s (fun t =>
        t.portState n.val = 6 ∧ (t.link n.val).tries = 0 ∧ (t.link n.val).retry = (s.link n.val).retry)) ∧
    (s.portState n.val = 5 → (s.link n.val).retry ≠ [] →
      (s.link n.val).tries < s.fld Fld.PORT_CFG_RETRY_LIMIT n.val → OnPort (.ackTimeout n) s (fun t =>
        t.portState n.val = 5 ∧ (t.link n.val).tries = (s.link n.val).tries + 1 ∧
        (t.link n.val).retry = (s.link n.val).retry ∧ s.outbox.length + (s.link n.val).retry.length ≤ t.outbox.length)) ∧
    (∀ (h : Hello) (side : LinkSide), s.portState n.val = 3 → OnPort (.linkHello n ⟨h, side⟩) s (fun t =>
      t = s.setLink n.val { s.link n.val with partner := some h })) ∧
    (∀ (h : Hello) (side : LinkSide) (w : Bool), s.portState n.val = 4 → (s.link n.val).clash = false → s.moduleId < h.module →
      s.helloConflict n.val h = none → s.linkWidth n.val h = some w → OnPort (.linkHello n ⟨h, side⟩) s (fun t =>
        t.portState n.val = 5 ∧ (t.link n.val).credits = h.shares ∧ (t.link n.val).partner = some h ∧
        (∃ f : Flit, t.outbox = .flit n.val f :: s.outbox ∧ f.kind = 2 ∧ f.payload = [3]) ∧
        t.fld Fld.PORT_STATUS_NEIGHBOUR n.val = h.module % 2 ^ Fld.PORT_STATUS_NEIGHBOUR.width ∧
        t.flag Fld.PORT_STATUS_WIDTH n.val = w)) ∧
    (∀ (h : Hello) (side : LinkSide) (f : Fld) (c : Code), s.portState n.val = 4 → (s.link n.val).clash = false →
      s.helloConflict n.val h = some (f, c) → OnPort (.linkHello n ⟨h, side⟩) s (fun t =>
        t.portState n.val = 4 ∧ (t.link n.val).clash = true ∧ t.flag f n.val = true)) ∧
    (∀ (h : Hello) (side : LinkSide), s.portState n.val = 4 → (s.link n.val).clash = true →
      OnPort (.linkHello n ⟨h, side⟩) s (fun t => t = s)) ∧
    (∀ (h : Hello) (side : LinkSide), (s.link n.val).partner = some h → s.portState n.val = 4 → h.module < s.moduleId →
      (s.link n.val).clash = false → OnPort (.linkStart ⟨n, side⟩) s (fun t => t.portState n.val = 5 ∧
        (t.link n.val).credits = h.shares ∧ (t.link n.val).partner = some h ∧ t.outbox = s.outbox ∧
        (t.flag Fld.PORT_STATUS_WIDTH n.val = true ↔ s.bothLanes n.val h ≠ 0xFF#8)))

/-- Flits that arrive on an active port (R376, R382, R383): one that fails its CRC, or of a codeword that FEC could not correct, is counted
and, where it may be a DATA flit, a resend asked for; one in order is accepted and its SEQ no longer expected, a NULL flit gives its
acknowledgement, and RETRY_REQ sends the kept flits again from the one it names. -/
def Obligations.FlitCommandsRun : Prop :=
  ∀ (s : State) (n : PortIx) (bs : List Byte) (c : Nat), s.portState n.val = 5 →
    (∀ (bad : Bool) (u : Nat), bad = true ∨ u ≠ 0 ∨ flitOk bs = false →
      ((s.link n.val).discarding = false →
        OnPort (.dataFlit n bs bad c u) s (fun t => (t.link n.val).discarding = true ∧
          (t.link n.val).expect = (s.link n.val).expect ∧
          t.fld Fld.PORT_COUNT_CRC_ERRORS n.val = min (s.fld Fld.PORT_COUNT_CRC_ERRORS n.val + 1)
            (2 ^ Fld.PORT_COUNT_CRC_ERRORS.width - 1) ∧
          (∃ (f : Flit) (after : List OutMsg), t.outbox = after ++ .flit n.val f :: s.outbox ∧ after.length ≤ 1 ∧ f.kind = 2 ∧
            f.payload = 1 :: leBytes 2 (s.link n.val).expect))) ∧
      ((s.link n.val).discarding = true →
        OnPort (.dataFlit n bs bad c u) s (fun t => t.links = s.links ∧ t.outbox = s.outbox)) ∧
      (∀ i ∈ [Instr.nullFlit n bs bad c u, .retryReq n bs bad c u],
        OnPort i s (fun t => t = (s.countFec n.val c u).crcFailed n.val))) ∧
    (∀ f : Flit, flitOk bs = true → flitOf bs = some f → f.kind = 1 → f.seq = (s.link n.val).expect →
      OnPort (.dataFlit n bs false c 0) s (fun t => t = ((s.countFec n.val c 0).takeAck n.val f).acceptFlit n.val f ∧
        (f.eom = false → (t.link n.val).expect = (f.seq + 1) % 65536 ∧ t.selfMsgs = s.selfMsgs))) ∧
    (∀ f : Flit, flitOk bs = true → flitOf bs = some f → f.kind = 1 → f.seq ≠ (s.link n.val).expect →
      OnPort (.dataFlit n bs false c 0) s (fun t => t = ((s.countFec n.val c 0).takeAck n.val f).dataFailed n.val ∧
        (t.link n.val).expect = (s.link n.val).expect)) ∧
    (∀ f : Flit, flitOk bs = true → flitOf bs = some f → f.kind = 0 →
      OnPort (.nullFlit n bs false c 0) s (fun t => t = (s.countFec n.val c 0).takeAck n.val f ∧
        (t.link n.val).expect = (s.link n.val).expect)) ∧
    (∀ (f : Flit) (i : Nat), flitOk bs = true → flitOf bs = some f → f.kind = 2 → byteAt f.payload 0 = 1 → f.payload.length = 3 →
      (((s.countFec n.val c 0).takeAck n.val f).link n.val).retry.findIdx? (fun g => g.seq = fieldAt f.payload 1 2) = some i →
      OnPort (.retryReq n bs false c 0) s (fun t => t = ((s.countFec n.val c 0).takeAck n.val f).resend n.val i))

/-- Messages that arrive on an active port (R389, R393, R394, R396, R398, R416, R420, R421): each goes to the agent of its type with what its
fields hold, one for another module is forwarded, and one on a port of another role is malformed; a ring tile goes to the
ring on a ring port and, with a binding in force, on any port (R128, R399). How a message row
stands for its flits, what a keystone meets outside the pair, and that a NULL flit follows each message are the model's choice (logs 76, 82,
154). -/
def Obligations.MessageCommandsRun : Prop :=
  ∀ (s : State) (n : PortIx) (dl : Fin 2) (h : MsgHead), s.portState n.val = 5 → h.ttl ≠ 0 →
    let routed := s.role n.val = 1 ∨ s.role n.val = 3
    let ofMate := s.role n.val = 3 ∧ h.dest = s.moduleId ∧
      h.src = (if s.inPair then s.mate else s.fld Fld.PORT_STATUS_NEIGHBOUR n.val)
    let at_ (b : MsgBody) := s.tookMsg n dl ⟨h, b⟩
    (∀ tag epoch step offset window data, let b := MsgBody.remoteWrite tag epoch step offset window data
      b.legal h.writeCpl = true →
      (routed → h.dest = s.moduleId →
        Arrives (.remoteWrite n dl h tag epoch step offset window data) s n ((at_ b).remoteArrives ⟨h, b⟩)) ∧
      (¬ routed → Arrives (.remoteWrite n dl h tag epoch step offset window data) s n ((at_ b).malformed ⟨h, b⟩))) ∧
    (∀ b : MsgBody, b.legal h.writeCpl = true → onlyBond b = false → b.kind ≠ 4 → routed → h.dest ≠ s.moduleId →
      Arrives (.routeMessage n dl ⟨h, b⟩) s n ((at_ b).forwardMsg n.val dl.val (Msg.flits ⟨h, b⟩) ⟨h, b⟩)) ∧
    (∀ tag epoch offset window length, let b := MsgBody.remoteRead tag epoch offset window length
      b.legal h.writeCpl = true → routed → h.dest = s.moduleId →
      Arrives (.remoteRead n dl h tag epoch offset window length) s n ((at_ b).remoteArrives ⟨h, b⟩)) ∧
    (∀ tag status data, let b := MsgBody.readReply tag status data
      b.legal h.writeCpl = true → routed → h.dest = s.moduleId →
      Arrives (.readReply n dl h tag status data) s n ((at_ b).replyArrives ⟨h, b⟩ tag status data)) ∧
    (∀ c seg side data ext, let b := MsgBody.ringTile c seg side data ext
      b.legal h.writeCpl = true →
      (s.role n.val = 2 ∨ s.flag Fld.VIADUCT_STATUS_BOUND 0 = true → Arrives (.ringTile n dl h c seg side data ext) s n
        ((at_ b).ringTileArrives n.val (Msg.flits ⟨h, b⟩) ⟨h, b⟩)) ∧
      (s.role n.val ≠ 2 → s.flag Fld.VIADUCT_STATUS_BOUND 0 = false →
        Arrives (.ringTile n dl h c seg side data ext) s n ((at_ b).malformed ⟨h, b⟩))) ∧
    (∀ mseq object offset data, let b := MsgBody.mirrorWrite mseq object offset data
      b.legal h.writeCpl = true → ofMate → s.inPair = true →
      Arrives (.mirrorWrite n dl h mseq object offset data) s n ((at_ b).mirrorArrives ⟨mseq, object, offset, data, h.poison⟩)) ∧
    (∀ mseq step, ofMate → let t (ack : Bool) := at_ (.keystone mseq step ack)
      Arrives (.keystone n dl h mseq step) s n (if s.inPair then (t false).keyArrives mseq step else t false) ∧
      Arrives (.keystoneAck n dl h mseq step) s n (if s.inPair then (t true).ackArrives mseq step else t true)) ∧
    (∀ tag mseq, ofMate → mseq < 2 ^ 64 →
      let r (k : Nat) := at_ (.sync k tag (padTo 16 (leBytes 8 mseq)) [])
      Arrives (.ready n dl h tag mseq) s n
        ({ (r 3) with pairing := { (r 3).pairing with mateSent := some mseq } }.formDone) ∧
      Arrives (.mirrorApplied n dl h tag mseq) s n ((r 4).appliedArrives mseq) ∧
      Arrives (.mirrorResend n dl h tag mseq) s n ((r 5).resendArrives mseq)) ∧
    (∀ tag step entries kind, ofMate → step < 2 ^ 32 → entries < 2 ^ 32 → kind ≤ 2 →
      let t := at_ (.sync 1 tag (padTo 16 (leBytes 4 step ++ leBytes 4 entries ++ leBytes 1 kind)) [])
      Arrives (.syncForm n dl h tag step entries kind) s n
        ({ t with pairing := { t.pairing with form := some (step, entries, kind) } }.pairCheck)) ∧
    (∀ tag (es : List (Nat × Nat)), ofMate → 1 ≤ es.length → es.length ≤ 26 → (∀ e ∈ es, e.1 < 2 ^ 22 ∧ e.2 < 2 ^ 40) →
      let t := at_ (.sync 2 tag (padTo 16 (leBytes 1 es.length)) (es.flatMap (fun e => leBytes 3 e.1 ++ leBytes 5 e.2)))
      Arrives (.syncMap n dl h tag es) s n
        ({ t with pairing := { t.pairing with sizes := t.pairing.sizes ++ es } }.pairCheck)) ∧
    (∀ tag mseq step reason, ofMate → mseq < 2 ^ 64 → step < 2 ^ 32 → reason = 1 ∨ reason = 2 →
      Arrives (.keystoneRefused n dl h tag mseq step reason) s n
        ((at_ (.sync 6 tag (padTo 16 (leBytes 8 mseq ++ leBytes 4 step ++ leBytes 1 reason)) [])).refusedArrives mseq step
          reason)) ∧
    (∀ tag step, ofMate → step < 2 ^ 32 →
      let t := at_ (.sync 7 tag (padTo 16 (leBytes 4 step)) [])
      Arrives (.handover n dl h tag step) s n (if s.pairState = 5 && !s.rejoinSender then
        { t with pairing := { t.pairing with handover := some step } } else t)) ∧
    (∀ trunc tag tSend (hops : List Hop), routed → h.dest = s.moduleId → hops.length ≤ 64 →
      let t := at_ (.probe false trunc tag tSend 0 hops)
      Arrives (.probe n dl h trunc tag tSend hops) s n
        (t.post ⟨t.headTo h.src, .probe true trunc tag tSend s.now.toNat hops⟩)) ∧
    (∀ trunc tag tSend tReply (hops : List Hop) (status : Fin 4), routed → h.dest = s.moduleId → hops.length ≤ 64 →
      Arrives (.probeReply n dl h trunc tag tSend tReply hops status) s n
        ((at_ (.probe true trunc tag tSend tReply hops)).probeReply tag trunc hops status))

/-- The pair (R409, R415, R417, R421, R424, R427, R429, R431): forming and rejoin begin with the mate at the bond, with `finds` what the
mate's own checks will find (log 74), failover leaves a held pair, the timers report, resend and time out, silence holds the pair, and the
bulk copy marks its extent as moving, waits for the accesses to it, and sends its next tiles. That a timer which
does not run leaves the state as it is is the model's choice (log 10). -/
def Obligations.PairCommandsRun : Prop :=
  (∀ (s : State) (k : MailIx) (p : Packet) (status : Fin 4) (finds : Option (Fin 4)), s.runsPacket k 0x0501 p → s.pairState = 0 →
    (p.le 8 8 = 0 ∨ status = 0) → s.bondTo (p.le 0 2) = true → s.pairEntriesOk p (p.le 2 2) = true →
    Runs (.pairForm k ⟨status, finds⟩) s (fun u => ∃ v : State,
      u = (v.sendForm 0 (v.mirrorObjects.map (fun n => (n, (v.object n).size)))).pairCheck ∧ v.pairState = 1 ∧
      v.mate = p.le 0 2 ∧ v.fld Fld.PAIR_MSEQ_OUT_MSEQ 0 = 0 ∧ v.fld Fld.PAIR_MSEQ_IN_MSEQ 0 = 0 ∧
      v.fld Fld.PAIR_MSEQ_ACKED_MSEQ 0 = 0 ∧ v.pairing.copies = s.pairEntries p (p.le 2 2) ∧
      v.pairing.mateFinds = finds.map (fun d => d.val + 1) ∧ v.objects = s.objects ∧ v.mem = s.mem)) ∧
  (∀ (s : State) (k : MailIx) (p : Packet) (status : Fin 4) (finds : Option (Fin 4)), s.runsPacket k 0x0503 p → p.le 2 1 ≠ 1 →
    s.pairState = 0 → (p.le 8 8 = 0 ∨ status = 0) → s.bondTo (p.le 0 2) = true →
    Runs (.pairRejoin k ⟨status, finds⟩) s (fun u => ∃ v : State,
      u = (v.sendForm 2 (v.mirrorObjects.map (fun n => (n, (v.object n).size)))).pairCheck ∧ v.pairState = 5 ∧
      v.mate = p.le 0 2 ∧ v.rejoinSender = s.rejoinSender ∧ v.pairing.mateFinds = finds.map (fun d => d.val + 1) ∧
      v.objects = s.objects ∧ v.mem = s.mem)) ∧
  (∀ (s : State) (k : MailIx) (p : Packet) (status : Fin 4) (finds : Option (Fin 4)), s.runsPacket k 0x0503 p → p.le 2 1 = 1 →
    s.pairState = 4 → (p.le 8 8 = 0 ∨ status = 0) → s.bondTo (p.le 0 2) = true →
    s.pairEntriesOk p (p.le 4 2 + p.le 6 2) = true →
    let es := s.pairEntries p (p.le 4 2 + p.le 6 2)
    Runs (.pairRejoin k ⟨status, finds⟩) s (fun u => ∃ v : State,
      u = (v.sendForm 1 (es.map (fun e => (e.1, (v.object e.2).size)))).pairCheck ∧ v.pairState = 5 ∧ v.rejoinSender = true ∧
      v.promoted = (es.drop (p.le 4 2)).map Prod.snd ∧ v.pairing.returns = es.drop (p.le 4 2) ∧
      v.pairing.names = es.map (fun e => (e.2, e.1)) ∧ v.pairing.mateFinds = finds.map (fun d => d.val + 1) ∧ v.mem = s.mem)) ∧
  (∀ (s : State) (k : MailIx) (p : Packet), s.runsPacket k 0x0502 p →
    s.pairState = 3 → s.flag Fld.PAIR_STATUS_PAIR_ALIVE 0 = false ∨ s.pairing.mateChanged = true ∨ p.le 0 1 ≠ 0 →
    let v := (s.setPairState 4).endForwarding
    exec (.pairFailover k) s = .next (({ v with pairing := { v.pairing with copies := [], names := [] } }.failCommit
      .pairFailedOver 0).finish k.val .ok 0 (leBytes 4 (s.fld Fld.PAIR_KEYSTONE_MATE_STEP 0) ++ leBytes 4 0 ++
        leBytes 8 s.pairing.mateMseq ++ leBytes 8 (s.fld Fld.PAIR_MSEQ_IN_MSEQ 0)))) ∧
  (∀ s : State, s.inPair = true → exec .mirrorAppliedTimer s = .next s.mirrorOn.sendApplied ∧
    ((∀ x ∈ s.pairing.reorder, x.mseq ≠ s.fld Fld.PAIR_MSEQ_IN_MSEQ 0 + 1) → exec .mirrorAppliedTimer s = .next s.sendApplied)) ∧
  (∀ s : State, s.inPair = false → exec .mirrorAppliedTimer s = .next s) ∧
  (∀ s : State, s.inPair = true → s.gapSeen = true →
    exec (.mirrorGapTimeout false) s = .next (s.sendSync 5 (leBytes 8 (s.fld Fld.PAIR_MSEQ_IN_MSEQ 0 + 1)) []) ∧
    Runs (.mirrorGapTimeout true) s (fun u => u.flag Fld.PAIR_STATUS_MIRROR_VALID 0 = false ∧
      u.flag Fld.PAIR_ERR_PAIR_MIRROR_FAULT 0 = true ∧ u.pairState = s.pairState ∧ u.mem = s.mem)) ∧
  (∀ (s : State) (n m : Nat), s.pairing.commit = some (n, m, true) → s.awaitsAck = true →
    exec .keystoneResendTimer s = .next ((s.sendKeystone m n false).bump Fld.PAIR_COUNT_KEY_RESENDS 0 1) ∧
    Runs .pairCommitTimeout s (fun u => u.pairing.commit = none ∧ u.flag Fld.PAIR_ERR_PAIR_COMMIT_TIMEOUT 0 = true ∧
      u.stepNo = s.stepNo ∧ u.pairState = s.pairState)) ∧
  (∀ s : State, s.awaitsAck = false → exec .keystoneResendTimer s = .next s ∧ exec .pairCommitTimeout s = .next s) ∧
  (∀ s : State, s.pairState = 2 → Runs .pairSilenceTimeout s (fun u => u.pairState = 3 ∧
    u.flag Fld.PAIR_ERR_PAIR_LOST 0 = true ∧ u.pairing = s.pairing ∧ u.mirrorLog = s.mirrorLog ∧ u.mem = s.mem)) ∧
  (∀ s : State, s.pairState ≠ 2 → exec .pairSilenceTimeout s = .next s) ∧
  (∀ (s : State) (up : Option (Nat × Nat)) (n o : Nat) (rest : List (Nat × Nat)), s.pairing.bulk = (n, o) :: rest →
    let d := s.object n
    let i := d.entryOf o
    let stop := min (2 ^ d.extentLog2 * (o / 2 ^ d.extentLog2 + 1)) d.size
    let count := min ((stop - o + 8191) / 8192) (mirrorLogSize - s.mirrorLog.length)
    (∀ m ∈ s.moves, s.moveEntry m ≠ i) →
    (s.entryBusy i = true ∨ s.blocked (s.home i).loc (2 ^ d.extentLog2) = true →
      exec (.bulkExtentCopy up) s = .next (s.markMoving i)) ∧
    (s.entryBusy i = false → s.blocked (s.home i).loc (2 ^ d.extentLog2) = false → o + 8192 * count < stop →
      Runs (.bulkExtentCopy up) s (fun u => u.pairing.bulk = (n, o + 8192 * count) :: rest ∧
        u.mirrorLog.length = s.mirrorLog.length + count)))

/-- One step takes the command at the front of the queue and carries it out on the state with the queue's rest. With an empty queue one
tick passes, which is the model's choice (log 8): the time counter moves on by 1 where the module has power (R492), and where no message and
no request waits, no port owes anything and no warm reset is to come, nothing is sent and memory stands; a warm reset whose replies are
written comes at its time (R454, R518). -/
def Obligations.StepRunsFrontCommand : Prop :=
  (∀ (s : State) (c : Instr) (rest : List Instr), s.pending = c :: rest → step s = exec c { s with pending := rest }) ∧
  (∀ s : State, s.pending = [] → step s = .next s.tick) ∧
  (∀ s : State, s.phase = .off → s.tick = s) ∧
  (∀ (s : State) (w : WarmReset) (t : Nat), s.warmReset = some w → w.due = some t → t ≤ s.now →
    s.warmDue = (s.flushJournal.resetTo 2).startBoot 2 w.toll) ∧
  (∀ s : State, s.phase ≠ .off → s.ringTiles = [] → s.selfMsgs = [] → s.hostWaits = [] → s.windowWaits = [] →
    s.warmReset = none → (∀ n, s.portState n = 5 → (s.link n).ackDue = false ∧ ∀ v ∈ (s.link n).owed, v = 0) →
    s.tick.now = s.now + 1 ∧ s.tick.mem = s.mem ∧ s.tick.outbox = s.outbox)

/-- The state at reset: power is off, every register holds the default that its table gives (R15, R515), no pier is admitted, no command
waits, and the priority stack is empty. An unlisted byte of memory reads as zero, which is the model's choice (log 2). The values that no
table gives are the model's choice (log 1), as is the state before power (log 13). -/
def Obligations.ResetHoldsDefaults : Prop :=
  (∀ (r : RegName) (i : Nat), State.reset.reg r i = regInit r i) ∧
  (∀ r ∈ allRows.map RegRow.reg, ∀ f ∈ regFields r, r ≠ .portCfg → State.reset.fld f 0 = f.dflt) ∧
  (∀ a, State.reset.byte a = 0) ∧ State.reset.now = 0 ∧ State.reset.phase = .off ∧ State.reset.admitted = [] ∧
  State.reset.pending = [] ∧ State.reset.taken = []

/-- From the state at reset, power, the recovery of the supply and then the release of RESET_L bring the module up (R500, R515, R516, R548):
before the supply's recovery a release starts nothing, and after it, with a tollhouse image that verifies the tollhouse runs it and the
module is released; without one it has no image. What the shipped image slots hold is the model's choice (log 179). -/
def Obligations.PowerUpReleasesModule : Prop :=
  ∃ s t : State, exec .powerOn State.reset = .next s ∧ exec .supplyRecoveryLevel s = .next t ∧
    (∀ m : ModuleBoot, exec (.resetRelease m) s = .next s) ∧
    (∀ m : ModuleBoot, m.toll.made.getD 0 false = true → Runs (.resetRelease m) t (fun u => u.phase = .released)) ∧
    (∀ m : ModuleBoot, m.toll.made.getD 0 false = false → m.toll.made.getD 1 false = false →
      Runs (.resetRelease m) t (fun u => u.phase = .noImage ∧ u.flag Fld.FW_STATUS_NO_IMAGE 0 = true))

/-- The invariant holds at reset. -/
def Obligations.InvariantHoldsAtReset : Prop := State.reset.Inv

/-- Every step keeps the invariant: from every state in which memory, the register file and the saves are in canonical form and the
priority stack is in order, a step to a next state leaves them so. -/
def Obligations.StepKeepsInvariant : Prop := ∀ s t : State, s.Inv → step s = .next t → t.Inv

/-- The owner's fuse banks while service access is closed (R556, R558): no command of any row changes the enrolled program keys, the
passwords or the debug keys. -/
def Obligations.OwnerBanksFixedWhileClosed : Prop :=
  ∀ (s t : State) (c : Instr), exec c s = .next t → s.flag Fld.SERVICE_CTRL_OPEN 0 = false → s.hostWaits = [] →
    t.programKeys = s.programKeys ∧ t.passwords = s.passwords ∧ t.debugKeys = s.debugKeys

/-- The priority stack (R471): what the controller presents is the oldest notice of the highest pending level, and only above the level at
the top; EVT_PRESENT pushes it and EVT_DONE with its level pops it and posts its record; so a higher level pre-empts, what it pre-empted
is at the top again after it, and a stack in order holds at most 8 levels. -/
def Obligations.PriorityStackPresentsHighest : Prop :=
  (∀ (s : State) (n : Notice), s.presented = some n ↔
    ∃ before after, s.notices = before ++ n :: after ∧ (∀ m ∈ before, m.level < n.level) ∧ (∀ m ∈ after, m.level ≤ n.level) ∧
      (∀ m ∈ s.taken.getLast?, m.level < n.level)) ∧
  (∀ (s : State) (n : Notice), s.presented = some n → Runs .evtPresent s (fun u => u.taken = s.taken ++ [n] ∧
    u.notices = s.notices.erase n ∧ u.regs = s.regs)) ∧
  (∀ (s : State) (below : List Notice) (n : Notice) (l : Fin 8), s.taken = below ++ [n] → n.level = l.val →
    exec (.evtDone l) s = .next ({ s with taken := below }.postNotice n)) ∧
  (∀ s : State, s.stackOk → s.taken.length ≤ 8)

/-- Flags and notices (R463, R470): a flag posts its event when it goes from 0 to 1 and not while it stays at 1; a notice joins the end of
its level's queue, and is dropped and counted in MERGED where 256 wait; an event of class 2 or above also goes to the fault log. -/
def Obligations.FlagPostsOnce : Prop :=
  (∀ (s : State) (f : Fld) (i : Nat) (c : Code) (k n d : Nat), s.flag f i = true → s.flagEvent f i c k n d = s) ∧
  (∀ (s : State) (f : Fld) (i : Nat) (c : Code) (k n d : Nat), s.flag f i = false →
    s.flagEvent f i c k n d = (s.setFld f i 1).event c k n d) ∧
  (∀ (s : State) (c : Code) (k n d : Nat), (s.notices.filter (fun m => m.level = c.level)).length < 256 →
    ∃ x : Notice, (s.event c k n d).notices = s.notices ++ [x] ∧ x.code = c ∧ x.level = c.level ∧ x.cls = c.cls ∧
      x.srcKind = k ∧ x.srcIndex = n ∧ x.detail = d ∧ x.time = s.now ∧ x.step = s.stepNo ∧ (s.event c k n d).regs = s.regs) ∧
  (∀ (s : State) (c : Code) (k n d : Nat), 256 ≤ (s.notices.filter (fun m => m.level = c.level)).length →
    (s.event c k n d).notices = s.notices ∧ (s.event c k n d).fld Fld.EVT_COUNT_MERGED 0 =
      min (s.fld Fld.EVT_COUNT_MERGED 0 + 1) (2 ^ Fld.EVT_COUNT_MERGED.width - 1)) ∧
  (∀ (s : State) (c : Code) (k n d : Nat), 2 ≤ c.cls → ∃ x : Notice, x.code = c ∧ x.detail = d ∧
    (s.event c k n d).journalWrites = s.journalWrites ++ [.fault x (s.fld Fld.BOOT_COUNT_COUNT 0)]) ∧
  (∀ (s : State) (c : Code) (k n d : Nat), c.cls < 2 → (s.event c k n d).journalWrites = s.journalWrites)

/-- Disabling the mailbox (R448): every shared line is released; a packet already accepted runs on and writes its status, which waits while
4,096 writes are outstanding (R439); no header is read until ENABLE is set again; and a write that changes BASE while ENABLE is 1 is
discarded and records REG_ACCESS_FAULT. -/
def Obligations.MailboxDisableReleasesLines : Prop :=
  (∀ (s : State) (v : Word), s.regsUp = true → s.flag Fld.MAILBOX_CFG_ENABLE 0 = true → Fld.MAILBOX_CFG_ENABLE.ofWord v = 0 →
    Fld.MAILBOX_CFG_BASE.ofWord v = s.fld Fld.MAILBOX_CFG_BASE 0 → Runs (.mailboxDisable v) s (fun u =>
      u.flag Fld.MAILBOX_CFG_ENABLE 0 = false ∧ (∀ k : MailIx, (u.mailSlot k.val).shared = false ∧
        (u.mailSlot k.val).running = (s.mailSlot k.val).running))) ∧
  (∀ (s : State) (k : MailIx) (p : Packet) (c : Cc) (detail : Nat) (result : List Byte), s.flag Fld.MAILBOX_CFG_ENABLE 0 = false →
    s.jwActive = true → (s.mailSlot k.val).running = some p →
    let u := s.finish k.val c detail result
    let reply := s.replyBytes p 2 c.num detail result
    (s.jwBusy.length < 4096 → u.bytes (s.slotBase k.val + 0x1FC0) 64 = reply) ∧
    (4096 ≤ s.jwBusy.length → u.jwHeld = s.jwHeld ++ [(.reply k.val, s.slotBase k.val + 0x1FC0, reply)])) ∧
  (∀ (s : State) (k : MailIx) (h q : Fin 4), s.flag Fld.MAILBOX_CFG_ENABLE 0 = false → exec (.packetAccept k h q) s = .next s) ∧
  (∀ (s : State) (v : Word), s.regsUp = true → s.flag Fld.MAILBOX_CFG_ENABLE 0 = true →
    Fld.MAILBOX_CFG_BASE.ofWord v ≠ s.fld Fld.MAILBOX_CFG_BASE 0 →
    ∀ c ∈ [Instr.mailboxDisable v, .mailboxEnable v [], .regWrite mailboxCfgAddr v],
      exec c s = .next (s.event .regAccessFault 0 0 mailboxCfgAddr))

/-- The clock mode (R488): monitor mode is the default; a write is discarded and records REG_ACCESS_FAULT while a program is launched;
written, the mode holds for every span: a failing replica monitor of any clocked span is counted in stepped mode, and in monitor mode
stretches that span's period, where no hold is due in it (R487). -/
def Obligations.ClockModeFollowsWrite : Prop :=
  State.reset.fld Fld.CLK_CFG_MODE 0 = 0 ∧
  (∀ (s : State) (v : Word), s.regsUp = true → s.launched = true →
    exec (.regWrite 0x020100E00000 v) s = .next (s.event .regAccessFault 0 0 0x020100E00000)) ∧
  (∀ (s : State) (v : Word), s.regsUp = true → s.launched = false →
    Runs (.regWrite 0x020100E00000 v) s (fun u => u.fld Fld.CLK_CFG_MODE 0 = Fld.CLK_CFG_MODE.ofWord v ∧
      (Fld.CLK_CFG_MODE.ofWord v = 1 → ∀ sp : SpanIx, u.clocked sp.val = true →
        exec (.replicaMonitorFail sp) u = .next (u.bump Fld.CLK_SPAN_COUNT_MARGIN_EVENTS sp.val 1)) ∧
      (Fld.CLK_CFG_MODE.ofWord v = 0 → u.flag Fld.CLK_STATUS_TEST_PERIOD 0 = false → ∀ sp : SpanIx,
        u.clocked sp.val = true → u.holds sp.val = false → Runs (.replicaMonitorFail sp) u (fun w => w.fld Fld.CLK_SPAN_COUNT_STRETCHES sp.val =
          min (u.fld Fld.CLK_SPAN_COUNT_STRETCHES sp.val + 1) (2 ^ Fld.CLK_SPAN_COUNT_STRETCHES.width - 1)))))

/-- The layout of ARCH_CFG (R107): one field, COMP, in bit 0, RW with default 0 and range 0 to 1, and no other field. -/
def Obligations.ArchCfgLayout : Prop :=
  regFields .archCfg = [Fld.ARCH_CFG_COMP] ∧ Fld.ARCH_CFG_COMP.lo = 0 ∧ Fld.ARCH_CFG_COMP.width = 1 ∧ Fld.ARCH_CFG_COMP.acc = .rw ∧
  Fld.ARCH_CFG_COMP.dflt = 0 ∧ (∀ v, Fld.ARCH_CFG_COMP.isLegal v = true ↔ v ≤ 1) ∧
  (∀ (s : State) (p : PierIx) (a : ArchIx) (v : Word), s.regsUp = true → s.pierUp (some p.val) = true → s.programOn p.val = false →
    Runs (.regWrite (0x020000000000 + p.val * 0x1000000 + 0x80000 + a.val * 0x1000) v) s (fun u =>
      u.fld Fld.ARCH_CFG_COMP (archIx p a) = v.toNat % 2))

/-- The layout of VIADUCT_EXT (R138): NEXT of segment g in bits [8g + 3 : 8g] and PREV in [8g + 7 : 8g + 4], read only with default 0xF; 0 to
11 name a port, 0xF none, and 12 to 14 are no values of the fields. -/
def Obligations.ViaductExtLayout : Prop :=
  ∀ (g : Fin 8) (next : Bool), let f := extFld next g.val
    f.reg = .viaductExt ∧ f.lo = (if next then 8 * g.val else 8 * g.val + 4) ∧ f.width = 4 ∧ f.acc = .ro ∧ f.dflt = 15 ∧
    (∀ v, v < 16 → (f.isLegal v = true ↔ v ≤ 11 ∨ v = 15)) ∧ f ∈ regFields .viaductExt ∧
    (∀ s : State, g.val < s.fld Fld.VIADUCT_LAYOUT_SEG_COUNT 0 →
      (s.fld f 0 ≤ 11 → s.extPort g next = some (s.fld f 0)) ∧ (11 < s.fld f 0 → s.extPort g next = none))

/-- A software write acts field by field (R15, R17): of every register, an RW field takes a legal value; a value that the field's range does
not list leaves it as it was and records a fault; an RO field stays; a W1C bit is cleared where 1 is written and stays where 0 is. -/
def Obligations.FieldsFollowWrites : Prop :=
  ∀ r ∈ allRows.map RegRow.reg, ∀ old new : Word,
    (∀ f ∈ regFields r,
      (f.acc = .rw → f.isLegal (f.ofWord new) = true → f.ofWord (regWriteWord r old new).1 = f.ofWord new) ∧
      (f.acc = .rw → f.isLegal (f.ofWord new) = false → f.ofWord (regWriteWord r old new).1 = f.ofWord old ∧
        (regWriteWord r old new).2 = true) ∧
      (f.acc = .ro → f.ofWord (regWriteWord r old new).1 = f.ofWord old) ∧
      (f.acc = .w1c → ∀ j, (f.ofWord (regWriteWord r old new).1).testBit j =
        ((f.ofWord old).testBit j && !(f.ofWord new).testBit j))) ∧
    ((∀ f ∈ regFields r, f.acc = .rw → f.isLegal (f.ofWord new) = true) → (regWriteWord r old new).2 = false)

/-- An instruction whose items are not ready in its slot is held (R301, R302): a tile that it reads has not landed, its output has no
room, its halves cannot swap, its copy has not ended, its constants are not in the pier cache, or its beats cannot be claimed. This is
stated of every instruction with items but TACQ and TREL. The whole domain stalls in that slot, the command waits, and nothing of its
effect happens: tokens moved in the slot or later go back and their TACQ or TREL waits too (R326), the checks of the work in progress are
made again, what a slot shows of its waiting is noted, and registers but PCTL_STATUS, PCTL_SLOT, PCTL_STALL_CAUSE and DECK_ARB_COUNT keep
their words. -/
def Obligations.LateInstructionHeld : Prop :=
  ∀ (s : State) (p : PierIx) (t : Nat), s.readyAt p t →
    let unchecked (w : Work) : Work := { w with verdict := none, stale := false, late := false }
    let back := s.returnTokens (s.domOf p) t
    let heldBy (x : Needs) (i : Instr) := s.needLate false p t x ≠ none → Runs i s (fun u =>
      u.held = back.held ++ [⟨true, i⟩] ∧ u.archs = s.archs ∧ u.spandrel = s.spandrel ∧
      u.flight.map unchecked = s.flight.map unchecked ∧ u.mem = s.mem ∧ u.binding = s.binding ∧
      (∀ q k, u.slot q k = { s.slot q k with landed := (u.slot q k).landed, waited := (u.slot q k).waited }) ∧
      (∀ q k, u.region q k = { s.region q k with freed := (u.region q k).freed }) ∧
      (∀ r i, r ∉ [RegName.pctlStatus, .pctlSlot, .pctlStallCause, .deckArbCount] → u.reg r i = back.reg r i) ∧
      (∀ q ∈ s.binding, s.domOf q = s.domOf p → s.issuing q = true →
        u.stalled q = true ∧ u.fld Fld.PCTL_SLOT_SLOT q.val = t % 2 ^ Fld.PCTL_SLOT_SLOT.width))
    (s.tokenMoves = [] → back = s) ∧
    (∀ (a : ArchIx) (r : RegionIx) (d : Nat) (keep : Bool) (f : Fmt),
      heldBy (s.loadsNeeds p t a r d keep) (.loads p t a r d keep f)) ∧
    (∀ (a : ArchIx) (d : PassDesc) (r : RegionIx) (off : Nat) (keep : Bool),
      heldBy (s.passNeeds false p t a d r off keep) (.pass p t a d r off keep)) ∧
    (∀ (a : ArchIx) (d : DrainDesc) (base pitch : Nat) (clear : Bool) (r : RegionIx),
      heldBy (.item (s.roomLate false p r 1 t)) (.drain p t a d base pitch clear r)) ∧
    (∀ (c : Cwy) (r : RegionIx) (tiles : Nat) (f : Fmt) (exit : Bool) (off : Nat) (keep : Bool),
      heldBy (s.workNeeds false (injectWork p t 0 c r tiles f exit off keep)) (.inject p t c r tiles f exit off keep)) ∧
    (∀ r : RegionIx, heldBy (.item (s.flipLate false p r t)) (.flip p t r)) ∧
    (∀ (r : RegionIx) (count : Nat), heldBy (.item (s.relLate p r (s.pendingRel p r t) t)) (.release p t r count)) ∧
    (∀ d : Fin 8, s.runDone p d = false → heldBy (.item (some lateCopy)) (.cwait p t d)) ∧
    (∀ config, heldBy (.item (firstLate ((s.pier p).stats.map (fun e => s.roomLate false p e.region 1 t)))) (.joint p t config)) ∧
    (∀ (vd : VReg) (r : RegionIx) (part : Nat) (keep : Bool) (f : Fmt) (mask : Option MReg),
      heldBy (s.vldNeeds p t r part f) (.vld p t vd r part keep f mask)) ∧
    (∀ (vd : VReg) (offset : Nat) (f : Fmt), ((vldcLines offset f).all (fun l => ((s.pier p).cacheLine l).isSome)) = false →
      heldBy (.item (some lateBundle)) (.vldc p t vd offset f)) ∧
    (∀ (va : VReg) (r : RegionIx) (part : Nat) (last : Bool) (f : Fmt) (mask : Option MReg), (s.pier p).build r = none →
      heldBy (.item (s.roomLate false p r 1 t)) (.vst p t va r part last f mask)) ∧
    (∀ (src dst : RegionIx) (d : Nat) (keep : Bool) (f : Fmt),
      heldBy (s.vtransNeeds false p t src dst d keep f) (.vtrans p t src dst d keep f)) ∧
    (∀ (mode : StatMode) (src stats : RegionIx) (d l : Nat) (eps : VReg),
      heldBy (.item (firstLate ((List.range (2 * l)).map (fun j => s.readLate p src (d + j) t)))) (.vstat p t mode src stats d l eps)) ∧
    (∀ (softmax : Bool) (src stats : RegionIx) (parts : Nat) (group : Fin 8) (eps np : VReg),
      heldBy (.item (firstLate ((List.range parts).map (fun j => s.readLate p src j t))))
        (.vstatc p t softmax src stats parts group eps np)) ∧
    (∀ stats : RegionIx, ((s.pier p).records stats).isSome = true →
      heldBy (.item (s.roomLate false p stats 1 t)) (.vstatf p t stats)) ∧
    (∀ (n : Fin 1024) (d : UpdDesc) (tiles : Nat),
      heldBy (s.workNeeds false (updWork p t d tiles s.launchStep)) (.upd p t n d tiles))

/-- The first fault stays (R310, R315): a fault that a pier records while PCTL_FAULT and SCHED_FAULT hold one changes neither, and the first
one fills both and sets the step failing. -/
def Obligations.FirstFaultStays : Prop :=
  (∀ (s : State) (p : PierIx) (t : Nat) (c : Code), s.fld Fld.PCTL_FAULT_CODE p.val ≠ 0 → s.fld Fld.SCHED_FAULT_CODE 0 ≠ 0 →
    s.recordFault p t c = s) ∧
  (∀ (s : State) (p : PierIx) (t : Nat) (c : Code), s.fld Fld.PCTL_FAULT_CODE p.val = 0 → s.fld Fld.SCHED_FAULT_CODE 0 = 0 →
    let u := s.recordFault p t c
    u.fld Fld.PCTL_FAULT_CODE p.val = c.num ∧ u.fld Fld.PCTL_FAULT_SLOT p.val = t % 2 ^ 48 ∧
    u.fld Fld.SCHED_FAULT_CODE 0 = c.num ∧ u.fld Fld.SCHED_FAULT_SLOT 0 = t % 2 ^ 40 ∧
    u.fld Fld.SCHED_FAULT_PIER 0 = s.fld Fld.PCTL_STATUS_LOGICAL p.val % 2 ^ 7 ∧ u.fld Fld.SCHED_STATUS_STATE 0 = 4 ∧
    (∀ q : PierIx, q ≠ p → u.fld Fld.PCTL_FAULT_CODE q.val = s.fld Fld.PCTL_FAULT_CODE q.val) ∧ u.mem = s.mem)

/-- The dot unit's result (R55, R56): it does not depend on the order of the products, and it goes by the order of precedence of R56. -/
def Obligations.DotResultOrderFree : Prop :=
  (∀ (ps qs : List Val) (g : Val), ps.Perm qs → dotResult ps g = dotResult qs g) ∧
  (∀ (ps : List Val) (g : Val), .nan ∈ ps → dotResult ps g = f32Nan) ∧
  (∀ (ps : List Val) (g : Val), .inf true ∈ ps → .inf false ∈ ps → dotResult ps g = f32Nan) ∧
  (∀ (ps : List Val) (g : Val) (neg : Bool), .nan ∉ ps → .inf neg ∈ ps → .inf (!neg) ∉ ps → dotResult ps g = rn32 (.inf neg)) ∧
  (∀ (ps : List Val) (g : Val), (∀ v ∈ ps, ∃ n e, v = .fin n 0 e) → dotResult ps g = 0)

/-- The address interleave (R13, R219-R221): in both modes the place of an address gives the address back, a place lies in one of the 8 gates
and 32 channels, and a 64 B burst lies in one channel row. -/
def Obligations.InterleaveOneToOne : Prop :=
  (∀ a, a < 2 ^ 40 → hashedAddr (hashedPlace a) = a ∧ (hashedPlace a).gate < 8 ∧ (hashedPlace a).channel < 32 ∧
    (hashedPlace a).addr < 2 ^ 32) ∧
  (∀ a, a < 2 ^ 40 → localAddr (localPlace a) = a ∧ (localPlace a).gate < 8 ∧ (localPlace a).channel < 32 ∧
    (localPlace a).addr < 2 ^ 32) ∧
  (∀ a b, a < 2 ^ 40 → b < 2 ^ 40 → hashedPlace a = hashedPlace b → a = b) ∧
  (∀ a b, a < 2 ^ 40 → b < 2 ^ 40 → localPlace a = localPlace b → a = b) ∧
  (∀ a b, a / 8192 = b / 8192 → (hashedPlace a).gate = (hashedPlace b).gate ∧ (hashedPlace a).channel = (hashedPlace b).channel)

/-- Messages as bytes (R393, R394): for every message whose fields lie in their ranges, of every type, the message that its bytes spell is the
message. -/
def Obligations.MessagesRoundTrip : Prop :=
  ∀ (h : MsgHead) (b : MsgBody), h.attempt < 8 → h.dest < 65536 → h.src < 65536 → 1 ≤ h.ttl → h.ttl < 256 →
    b.legal h.writeCpl = true →
    (match b with
      | .remoteWrite tag epoch step offset window _ =>
        tag < 2 ^ 32 ∧ epoch < 2 ^ 32 ∧ step < 2 ^ 32 ∧ offset < 2 ^ 40 ∧ window < 2 ^ 24
      | .remoteRead tag epoch offset window length =>
        tag < 2 ^ 32 ∧ epoch < 2 ^ 32 ∧ offset < 2 ^ 40 ∧ window < 2 ^ 24 ∧ length < 2 ^ 16
      | .readReply tag status _ => tag < 2 ^ 32 ∧ status < 256
      | .ringTile .. => True
      | .mirrorWrite mseq object offset _ => mseq < 2 ^ 64 ∧ object < 2 ^ 24 ∧ offset < 2 ^ 40
      | .keystone mseq step _ => mseq < 2 ^ 64 ∧ step < 2 ^ 32
      | .sync _ tag _ _ => tag < 2 ^ 32
      | .probe _ _ tag tSend tReply hops => tag < 2 ^ 32 ∧ tSend < 2 ^ 64 ∧ tReply < 2 ^ 64 ∧
        ∀ x ∈ hops, x.module < 65536 ∧ x.arrival < 256 ∧ x.output < 256) →
    msgOf (Msg.mk h b).bytes = some ⟨h, b⟩

/-- Flits as bytes (R382): for every flit of a kind with its LEN and its fields in their ranges, the 256 bytes pass their CRC and spell the
flit. -/
def Obligations.FlitsRoundTrip : Prop :=
  ∀ f : Flit, f.seq < 65536 → f.ack < 65536 → f.vc < 8 → f.crVc < 8 → f.crCount ≤ 4096 → f.payload.length = f.len →
    (f.kind = 0 ∧ f.len = 0 ∨ f.kind = 1 ∧ (f.eom = true ∧ 1 ≤ f.len ∧ f.len ≤ 240 ∨ f.eom = false ∧ f.len = 240) ∨
      f.kind = 2 ∧ 1 ≤ f.len ∧ f.len ≤ 240) →
    f.bytes.length = 256 ∧ flitOk f.bytes = true ∧ flitOf f.bytes = some f

/-- A schedule command on a pier that neither issues nor is stalled does nothing (R314): no instruction of a pier whose controller is unbound,
bound, at a joint, halted, stopped or pre-empted has an effect, whichever row names it. That such a row leaves the state as it is is the
model's choice (log 10). -/
def Obligations.IdlePierTakesNoInstruction : Prop :=
  ∀ (s : State) (p : PierIx) (t : Nat) (c : Instr), s.issuing p = false → s.stalled p = false → placeOf c = some (p, t) →
    exec c s = .next s

/-- The frame of LOADS, PASS, DRAIN and ZERO in a slot that can issue, whether the instruction completes, faults or is late: every byte
outside the deck-store window of its pier stands, the stacks' contents, the mailbox, homes, objects, links and the binding stand, and so do
the arches, spandrels, slots, regions and streams of another pier and every pier of another stall domain. Of another pier of the domain, the
issue or the stall of the slot writes the open loops, the cursor, the note of the stall, and the claims and grants of beats alone. What the
instruction writes is its arch, its pier's deck, paths and regions, the work in progress, and registers. -/
def Obligations.ArchInstructionFrame : Prop :=
  ∀ (s u : State) (p : PierIx) (t : Nat) (c : Instr), s.readyAt p t →
    ((∃ a r d keep f, c = .loads p t a r d keep f) ∨ (∃ a d r o keep, c = .pass p t a d r o keep) ∨
      (∃ a d b pitch clear r, c = .drain p t a d b pitch clear r) ∨ (∃ a b n, c = .zero p t a b n)) →
    exec c s = .next u → s.leavesOthers p u

/-- The frame of INJECT, FLIP, RELEASE, ARM, COPY and CWAIT and of TACQ, TREL, LOOP, HALT, JOINT and BARRIER in a slot that can issue, whether
the instruction completes, faults or is late: none of them writes a byte outside the deck-store window of its pier, an arch or the
spandrels, and none but INJECT, whose first row is read in the slot and may be found in error (R162), writes a byte at all; what belongs to
another pier stands but for what the issue or the stall of the slot notes. -/
def Obligations.EngineInstructionFrame : Prop :=
  ∀ (s u : State) (p : PierIx) (t : Nat) (c : Instr), s.readyAt p t →
    let inject := ∃ w r n f exit d keep, c = .inject p t w r n f exit d keep
    (inject ∨ (∃ r, c = .flip p t r) ∨ (∃ r n, c = .release p t r n) ∨ (∃ n, c = .arm p t n) ∨ (∃ d, c = .copy p t d) ∨
      (∃ d, c = .cwait p t d) ∨ (∃ n, c = .tacq p t n) ∨ (∃ n all, c = .trel p t n all) ∨
      (∃ n body first len, c = .loop p t n body first len) ∨ c = .halt p t ∨ (∃ config, c = .joint p t config) ∨
      (∃ mask unseg, c = .barrier p t mask unseg)) →
    exec c s = .next u → s.leavesOthers p u ∧ u.archs = s.archs ∧ u.spandrel = s.spandrel ∧ (¬ inject → u.mem = s.mem)

/-- The frame of VLD, VST, VTRANS, VSTAT, VSTATC, VSTATF, VLDC and UPD in a slot that can issue, whether the instruction completes, faults
or is late: none of them writes a byte outside the deck-store window of its pier, an arch, the spandrels or a gang, and VST, VSTATF and
VLDC, which read no tile in the slot, write no byte at all; what belongs to another pier stands but for what the issue or the stall of the
slot notes. -/
def Obligations.VectorTileInstructionFrame : Prop :=
  ∀ (s u : State) (p : PierIx) (t : Nat) (c : Instr), s.readyAt p t →
    let noRead := (∃ va r part last f m, c = .vst p t va r part last f m) ∨ (∃ r, c = .vstatf p t r) ∨ (∃ vd o f, c = .vldc p t vd o f)
    (noRead ∨ (∃ vd r part keep f m, c = .vld p t vd r part keep f m) ∨ (∃ src dst d keep f, c = .vtrans p t src dst d keep f) ∨
      (∃ mode src stats d l eps, c = .vstat p t mode src stats d l eps) ∨
      (∃ b src stats n g eps np, c = .vstatc p t b src stats n g eps np) ∨ (∃ n d tiles, c = .upd p t n d tiles)) →
    exec c s = .next u → s.leavesOthers p u ∧ u.archs = s.archs ∧ u.spandrel = s.spandrel ∧ u.gangs = s.gangs ∧
      (noRead → u.mem = s.mem)

/-- The frame of the vector instructions that work on registers alone, in a slot that can issue: VARITH, VCMP, VSEL, VSFU, VRED, VRNG and
USCAL change no memory, no arch, no spandrel, no region and no pier of another stall domain; of another pier of the domain, the issue of the
slot writes the open loops, the note of a stall and the cursor alone. -/
def Obligations.VectorInstructionFrame : Prop :=
  ∀ (s u : State) (p : PierIx) (t : Nat) (c : Instr), s.readyAt p t →
    ((∃ fn vd va vb vc m, c = .varith p t fn vd va vb vc m) ∨ (∃ fn md va vb m, c = .vcmp p t fn md va vb m) ∨
      (∃ vd va vb sel, c = .vsel p t vd va vb sel) ∨ (∃ fn vd va m, c = .vsfu p t fn vd va m) ∨
      (∃ b vd va m, c = .vred p t b vd va m) ∨ (∃ form vd st, c = .vrng p t form vd st) ∨ (∃ vd g i, c = .uscal p t vd g i)) →
    exec c s = .next u →
    u.mem = s.mem ∧ u.archs = s.archs ∧ u.spandrel = s.spandrel ∧ u.regions = s.regions ∧ u.slots = s.slots ∧ u.mail = s.mail ∧
    u.objects = s.objects ∧ u.binding = s.binding ∧ u.pending = s.pending ∧
    (∀ q, s.domOf q ≠ s.domOf p → u.pier q = s.pier q) ∧
    (∀ q, q ≠ p → u.pier q = { s.pier q with
      loops := (u.pier q).loops
      stall := (u.pier q).stall
      cursor := (u.pier q).cursor })

/-- Holes (R12): a host read of a hole returns all ones, a host write to one is discarded, and either records UNMAPPED_ACCESS; so do a
register read and a register write at a hole of the register range; the deck-store window of a physical pier that is fenced or not admitted
is a hole, and so is every address of the register range outside the windows of R575. -/
def Obligations.HolesReadAllOnes : Prop :=
  (∀ (s : State) (tag a n : Nat) (u : Upset), s.jwActive = true → s.tollUp = true → 0 < n → n ≤ 4096 → a < hostBase →
    s.powerState < 3 ∨ regRange a = true → s.hostPlace a n = .hole → s.behindWaits a n = false →
    exec (.jwRd tag a n false u) s =
      .next (({ s with jwAsleep := false }.event .unmappedAccess 0 0 a).send (.jwCpl tag 0 (List.replicate n (0xFF : BitVec 8))))) ∧
  (∀ (s : State) (tag a : Nat) (bs : List Byte) (u : Upset), s.jwActive = true → s.tollUp = true → bs ≠ [] → bs.length ≤ 4096 →
    a < hostBase → s.powerState < 3 ∨ regRange a = true → s.hostPlace a bs.length = .hole →
    s.behindWaits a bs.length = false → exec (.jwWr tag a bs false u) s = .next (({ s with jwAsleep := false }.event .unmappedAccess 0 0 a).send (.jwCpl tag 0 []))) ∧
  (∀ (s : State) (a : Nat) (v : Word), regAt a = .hole →
    s.regRead a = (BitVec.allOnes 64, s.event .unmappedAccess 0 0 a) ∧ s.regWrite a v = s.event .unmappedAccess 0 0 a) ∧
  (∀ (s : State) (p : PierIx) (k n : Nat), p ∉ s.admitted → 0 < n → k + n ≤ 0x1000000 →
    s.hostPlace (0x010000000000 + p.val * 0x1000000 + k) n = .hole) ∧
  (∀ p o, p < 136 → o < 0x1000000 → o < 0x80000 ∨ (0x84000 ≤ o ∧ o < 0x90000) ∨ 0x130000 ≤ o →
    regAt (0x020000000000 + p * 0x1000000 + o) = .hole) ∧
  (∀ a, (0x020088000000 ≤ a ∧ a < 0x020100100000) ∨ (0x020100280000 ≤ a ∧ a < 0x020100300000) ∨
      (0x02010090C000 ≤ a ∧ a < 0x020100A00000) ∨ 0x020101110000 ≤ a ∨
      (0x020100100000 ≤ a ∧ 0x10000 ≤ a % 0x100000 ∧ a / 0x100000 ≠ 0x020100200000 / 0x100000 ∧
        a / 0x100000 ≠ 0x020100900000 / 0x100000) → regAt a = .hole)

/-- The value of an element of an MX format (R48): 2^(c - 127) times the element's own value; NaN where the scale code is 0xFF; and an
element that is itself NaN or infinite keeps its value under every other scale. -/
def Obligations.MxElementValue : Prop :=
  ∀ (t : Tile) (f : Fmt) (r j : Nat), f ∈ [Fmt.mxE4m3, .mxE5m2, .mxE3m2, .mxE2m3, .mxE2m1, .mxInt8] →
    let c := t.extByte (scaleIndex f t.orient r j)
    let v := f.codeVal (elemCode (t.row r) f.elemBits j)
    (c = 0xFF → t.operand f r j = .nan) ∧
    (c ≠ 0xFF → ∀ n m e, v = .fin n m e → t.operand f r j = .fin n m (e + ((c : Int) - 127))) ∧
    (c ≠ 0xFF → (∀ n m e, v ≠ .fin n m e) → t.operand f r j = v ∧ (f = .mxE4m3 ∨ f = .mxE5m2))

/-- The range of a pass (R85): a PASS in a slot that issues, whose last entry BASE + (TILES - 1) x TSTRIDE + 63 x PITCH + W - 1 is not below
the capacity in force, records SPANDREL_RANGE and starts nothing; and LOAD_IMAGE refuses an image with a pass descriptor whose PITCH is
below W. -/
def Obligations.SpandrelRangeRefused : Prop :=
  (∀ (s : State) (p : PierIx) (t : Nat) (a : ArchIx) (d : PassDesc) (r : RegionIx) (off : Nat) (keep : Bool) (wf : Fmt),
    s.readyAt p t → (s.passNeeds false p t a d r off keep).met s p t →
    let v := s.issuedFor p t (s.passNeeds false p t a d r off keep)
    (d.src.onRing = true → v.noSegment p = false) → v.gridTooEarly p a t = false →
    v.passGrid p a = some wf → wf.perCell = d.sfmt.perCell →
    v.capacity p a ≤
      d.base + (d.tiles - 1) * d.tstride + 63 * (64 * 2 ^ d.pitch) + d.shape.width wf.perCell - 1 →
    Runs (.pass p t a d r off keep) s (fun u => u.flag Fld.ARCH_ERR_SPANDREL_RANGE (archIx p a) = true ∧ u.flight = s.flight ∧
      u.spandrel = s.spandrel ∧ u.archs = s.archs ∧ (∀ b, u.byte b = s.byte b))) ∧
  (∀ (s : State) (k : MailIx) (p : Packet) (o : Nat), s.runsPacket k 0x0201 p →
    let s0 := { s with imageObject := p.le 0 4 }
    let x := (s0.readObject (p.le 0 4) 0 s0.imageLength).2
    s.readWaits (p.le 0 4) 0 s0.imageLength = false → o ∈ x.places 4 → let d := x.img o 8
    64 * 2 ^ (d / 2 ^ 24 % 8) < (if d % 2 = 1 then 64 * perCellOf (d / 2 ^ 38 % 256) else 64) →
    ∃ (c : Cc) (detail : Nat) (result : List Byte) (v : State), c ≠ Cc.ok ∧ v.imageObject = s.imageObject ∧
      exec (.loadImage k) s = .next (v.finish k.val c detail result))

/-- The drain path and the drain ports (R93): a DRAIN of D read cycles that issues in slot t occupies its pier's path and its arch's port from
slot t to slot t + D - 1, and a ZERO its own arch's port over its own cycles; while the path is occupied a DRAIN of any arch of the pier
records DRAIN_BUSY and reads nothing, and so does a DRAIN of an arch while its port is; and a ZERO of the arch of a DRAIN, in any
state and slot that issues inside the DRAIN's interval, records DRAIN_BUSY and clears nothing. -/
def Obligations.DrainPathBusy : Prop :=
  ∀ (s : State) (p : PierIx) (t : Nat) (a : ArchIx), s.readyAt p t →
    (∀ (d : DrainDesc) (base pitch : Nat) (clear : Bool) (r : RegionIx), s.roomLate false p r 1 t = none →
      ((s.issuedAt p t).pier p).pathTo ≤ t → ((s.issuedAt p t).arch p a).portTo ≤ t →
      lastEntry base pitch d.outFmt.cols < (s.issuedAt p t).capacity p a →
      Runs (.drain p t a d base pitch clear r) s (fun u =>
        ∀ t', (t ≤ t' ∧ t' < t + (drainTime (s.issuedAt p t |>.comp p a) d).total) →
          (u.pier p).pathFrom ≤ t' ∧ t' < (u.pier p).pathTo ∧ (u.arch p a).portBusy t' = true ∧
          (u.readyAt p t' → ∀ base' count, Runs (.zero p t' a base' count) u (fun v =>
            v.flag Fld.ARCH_ERR_DRAIN_BUSY (archIx p a) = true ∧ v.flight = u.flight ∧ v.spandrel = u.spandrel ∧
            v.archs = u.archs ∧ (∀ b, v.byte b = u.byte b))))) ∧
    (∀ (base count : Nat), ((s.issuedAt p t).arch p a).portTo ≤ t → base + count ≤ (s.issuedAt p t).capacity p a →
      Runs (.zero p t a base count) s (fun u =>
        ∀ t', (t ≤ t' ∧ t' < t + zeroCycles (s.issuedAt p t |>.comp p a) count) → (u.arch p a).portBusy t' = true)) ∧
    (∀ (d : DrainDesc) (base pitch : Nat) (clear : Bool) (r : RegionIx), s.roomLate false p r 1 t = none →
      (((s.issuedAt p t).pier p).pathFrom ≤ t ∧ t < ((s.issuedAt p t).pier p).pathTo) ∨
        ((s.issuedAt p t).arch p a).portBusy t = true →
      Runs (.drain p t a d base pitch clear r) s (fun u => u.flag Fld.ARCH_ERR_DRAIN_BUSY (archIx p a) = true ∧
        u.flight = s.flight ∧ u.spandrel = s.spandrel ∧ u.archs = s.archs ∧ (∀ b, u.byte b = s.byte b))) ∧
    (∀ base count : Nat, ((s.issuedAt p t).arch p a).portBusy t = true →
      Runs (.zero p t a base count) s (fun u => u.flag Fld.ARCH_ERR_DRAIN_BUSY (archIx p a) = true ∧
        u.flight = s.flight ∧ u.spandrel = s.spandrel ∧ u.archs = s.archs ∧ (∀ b, u.byte b = s.byte b)))
end

