-- ==== Sys2Proof/Laws/Boot.lean ====
section
/-! SUPPORT. What a rewrite of the boot record leaves in force (R547). -/
namespace Sys2Proof.Machine

/-- A record that the module makes is valid. -/
@[simp] theorem makeBootRecord_valid (seq : Nat) (active : List Nat) (trial : Option Nat) :
    (makeBootRecord seq active trial).valid = true := by
  simp [makeBootRecord, BootRecord.valid]

/-- The record that a rewrite writes is in force after it, whichever copy it replaces. -/
theorem bootInForce_rewriteBoot (c : BootRecord × BootRecord) (active : List Nat) (trial : Option Nat) :
    bootInForce (rewriteBoot c active trial) = makeBootRecord ((bootInForce c).seq + 1) active trial := by
  by_cases h : firstInForce c = true
  · have : firstInForce (c.1, makeBootRecord (c.1.seq + 1) active trial) = false := by
      have h2 : ¬ (makeBootRecord (c.1.seq + 1) active trial).seq < c.1.seq := by simp [makeBootRecord]
      simp [firstInForce, h2]
    simp [rewriteBoot, bootInForce, h, this]
  · have : firstInForce (makeBootRecord (c.2.seq + 1) active trial, c.2) = true := by
      simp [firstInForce]; simp [makeBootRecord]
    simp [rewriteBoot, bootInForce, h, this]

/-- The boot record in force names the images and the trial that were set. -/
theorem State.boot_setBoot (s : State) (active : List Nat) (trial : Option Nat) :
    (s.setBoot active trial).boot.active = active ∧ (s.setBoot active trial).boot.trial = trial := by
  unfold State.setBoot
  split
  · rename_i h; simpa using h
  · simp [State.boot, bootInForce_rewriteBoot, makeBootRecord]

@[simp] theorem State.trial_setTrial (s : State) (trial : Option Nat) : (s.setTrial trial).trial = trial :=
  (s.boot_setBoot _ _).2

@[simp] theorem State.activeImage_setTrial (s : State) (trial : Option Nat) (n : Nat) :
    (s.setTrial trial).activeImage n = s.activeImage n := by
  simp [State.activeImage, State.setTrial, (s.boot_setBoot _ _).1]

@[simp] theorem State.trial_setActive (s : State) (n ab : Nat) : (s.setActive n ab).trial = s.trial :=
  (s.boot_setBoot _ _).2

end Sys2Proof.Machine
end

