-- ==== Sys2Proof/Laws/Map.lean ====
section
/-! SUPPORT. Laws of the sparse tables: what a key reads as after a write, and that every operation keeps the canonical form. -/
namespace Sys2Proof.Machine

variable {α : Type}

theorem NMap.look_ins_same (d : Nat → α) (m : NMap α) (k : Nat) (v : α) : (NMap.ins m k v).look d k = v := by
  induction m with
  | nil => simp [NMap.ins, NMap.look]
  | cons e t ih =>
    obtain ⟨j, w⟩ := e
    simp only [NMap.ins]
    split
    · simp [NMap.look]
    · split
      · simp [NMap.look]
      · simp [NMap.look, *]

theorem NMap.look_ins_other (d : Nat → α) (m : NMap α) {k i : Nat} (v : α) (h : i ≠ k) :
    (NMap.ins m k v).look d i = m.look d i := by
  induction m with
  | nil => simp [NMap.ins, NMap.look, Ne.symm h]
  | cons e t ih =>
    obtain ⟨j, w⟩ := e
    simp only [NMap.ins]
    split
    · simp [NMap.look, Ne.symm h]
    · split
      · simp only [NMap.look]
        rename_i h2
        subst h2
        simp [Ne.symm h]
      · simp [NMap.look, ih]

theorem NMap.look_del_same (d : Nat → α) (m : NMap α) (k : Nat) : (m.del k).look d k = d k := by
  induction m with
  | nil => simp [NMap.del, NMap.look]
  | cons e t ih =>
    obtain ⟨j, w⟩ := e
    unfold NMap.del at *
    by_cases hj : j = k
    · simp [hj, ih]
    · simp [hj, NMap.look, ih]

theorem NMap.look_del_other (d : Nat → α) (m : NMap α) {k i : Nat} (h : i ≠ k) : (m.del k).look d i = m.look d i := by
  induction m with
  | nil => simp [NMap.del, NMap.look]
  | cons e t ih =>
    obtain ⟨j, w⟩ := e
    unfold NMap.del at *
    by_cases hj : j = k
    · simp [hj, NMap.look, Ne.symm h, ih]
    · simp [hj, NMap.look, ih]

/-- A key reads as what was written to it. -/
@[simp] theorem NMap.look_put_same [DecidableEq α] (d : Nat → α) (m : NMap α) (k : Nat) (v : α) :
    (m.put d k v).look d k = v := by
  unfold NMap.put
  split
  · next h => rw [NMap.look_del_same, h]
  · exact NMap.look_ins_same d m k v

/-- A write leaves every other key alone. -/
theorem NMap.look_put_other [DecidableEq α] (d : Nat → α) (m : NMap α) {k i : Nat} (v : α) (h : i ≠ k) :
    (m.put d k v).look d i = m.look d i := by
  unfold NMap.put
  split
  · exact NMap.look_del_other d m h
  · exact NMap.look_ins_other d m v h

/-- The canonical form, said of the entries. -/
theorem NMap.wf_iff [DecidableEq α] (d : Nat → α) (m : NMap α) :
    NMap.wf d m = true ↔ m.Pairwise (fun x y => x.1 < y.1) ∧ ∀ e ∈ m, e.2 ≠ d e.1 := by
  induction m with
  | nil => simp [NMap.wf]
  | cons e t ih =>
    obtain ⟨j, w⟩ := e
    simp only [NMap.wf, Bool.and_eq_true, List.all_eq_true, decide_eq_true_eq, bne_iff_ne, ih, List.pairwise_cons,
      List.mem_cons, forall_eq_or_imp]
    constructor
    · rintro ⟨⟨h1, h2⟩, h3, h4⟩; exact ⟨⟨h1, h3⟩, h2, h4⟩
    · rintro ⟨⟨h1, h3⟩, h2, h4⟩; exact ⟨⟨h1, h2⟩, h3, h4⟩

/-- Forgetting entries keeps the canonical form. -/
theorem NMap.wf_filter [DecidableEq α] (d : Nat → α) {m : NMap α} (f : Nat × α → Bool) (h : NMap.wf d m = true) :
    NMap.wf d (m.filter f) = true := by
  rw [NMap.wf_iff] at *
  exact ⟨h.1.filter f, fun e he => h.2 e ((List.mem_filter.1 he).1)⟩

theorem NMap.mem_ins {m : NMap α} {k : Nat} {v : α} {e : Nat × α} (h : e ∈ NMap.ins m k v) : e = (k, v) ∨ e ∈ m := by
  induction m with
  | nil => simp only [NMap.ins, List.mem_singleton] at h; exact .inl h
  | cons x t ih =>
    obtain ⟨j, w⟩ := x
    simp only [NMap.ins] at h
    split at h
    · simp only [List.mem_cons] at h ⊢; exact h
    · split at h
      · simp only [List.mem_cons] at h ⊢
        exact h.imp_right .inr
      · simp only [List.mem_cons] at h ⊢
        rcases h with h | h
        · exact .inr (.inl h)
        · exact (ih h).imp_right .inr

theorem NMap.wf_ins [DecidableEq α] (d : Nat → α) {m : NMap α} {k : Nat} {v : α} (hv : v ≠ d k)
    (h : NMap.wf d m = true) : NMap.wf d (NMap.ins m k v) = true := by
  induction m with
  | nil => simp [NMap.ins, NMap.wf, hv]
  | cons x t ih =>
    obtain ⟨j, w⟩ := x
    have hw := (NMap.wf_iff d _).1 h
    simp only [List.pairwise_cons, List.mem_cons, forall_eq_or_imp] at hw
    have ht : NMap.wf d t = true := (NMap.wf_iff d t).2 ⟨hw.1.2, hw.2.2⟩
    simp only [NMap.ins]
    split
    · next hk =>
      simp only [NMap.wf, Bool.and_eq_true, List.all_eq_true, decide_eq_true_eq, bne_iff_ne, List.mem_cons,
        forall_eq_or_imp]
      exact ⟨⟨⟨hk, fun e he => Nat.lt_trans hk (hw.1.1 e he)⟩, hv⟩, ⟨fun e he => hw.1.1 e he, hw.2.1⟩, ht⟩
    · split
      · next hj =>
        subst hj
        simp only [NMap.wf, Bool.and_eq_true, List.all_eq_true, decide_eq_true_eq, bne_iff_ne]
        exact ⟨⟨fun e he => hw.1.1 e he, hv⟩, ht⟩
      · next h1 h2 =>
        simp only [NMap.wf, Bool.and_eq_true, List.all_eq_true, decide_eq_true_eq, bne_iff_ne]
        refine ⟨⟨fun e he => ?_, hw.2.1⟩, ih ht⟩
        rcases NMap.mem_ins he with rfl | he
        · simp only; omega
        · exact hw.1.1 e he

/-- A write keeps the canonical form. -/
theorem NMap.wf_put [DecidableEq α] (d : Nat → α) {m : NMap α} (k : Nat) (v : α) (h : NMap.wf d m = true) :
    NMap.wf d (m.put d k v) = true := by
  unfold NMap.put
  split
  · exact NMap.wf_filter d _ h
  · next hv => exact NMap.wf_ins d hv h

theorem NMap.run_spec [DecidableEq α] (d : Nat → α) (vs : List α) (k : Nat) :
    (NMap.run d k vs).Pairwise (fun x y => x.1 < y.1) ∧
      ∀ e ∈ NMap.run d k vs, e.2 ≠ d e.1 ∧ k ≤ e.1 ∧ e.1 < k + vs.length := by
  induction vs generalizing k with
  | nil => simp [NMap.run]
  | cons v t ih =>
    have h := ih (k + 1)
    simp only [NMap.run]
    split
    · refine ⟨h.1, fun e he => ?_⟩
      have := h.2 e he
      simp only [List.length_cons]
      exact ⟨this.1, by omega, by omega⟩
    · next hv =>
      refine ⟨List.pairwise_cons.2 ⟨fun e he => ?_, h.1⟩, fun e he => ?_⟩
      · have := h.2 e he; simp only; omega
      · rcases List.mem_cons.1 he with rfl | he
        · simp only [List.length_cons]; exact ⟨hv, by omega, by omega⟩
        · have := h.2 e he
          simp only [List.length_cons]
          exact ⟨this.1, by omega, by omega⟩

/-- A write of a run of keys keeps the canonical form. -/
theorem NMap.wf_putRun [DecidableEq α] (d : Nat → α) {m : NMap α} (k : Nat) (vs : List α) (h : NMap.wf d m = true) :
    NMap.wf d (m.putRun d k vs) = true := by
  rw [NMap.wf_iff] at *
  have hr := NMap.run_spec d vs k
  unfold NMap.putRun
  refine ⟨?_, fun e he => ?_⟩
  · rw [List.pairwise_append, List.pairwise_append]
    refine ⟨⟨h.1.filter _, hr.1, fun x hx y hy => ?_⟩, h.1.filter _, fun x hx y hy => ?_⟩
    · have h1 := (List.mem_filter.1 hx).2
      have h2 := (hr.2 y hy).2.1
      simp only [decide_eq_true_eq] at h1
      omega
    · have h2 := (List.mem_filter.1 hy).2
      simp only [decide_eq_true_eq] at h2
      rcases List.mem_append.1 hx with hx | hx
      · have h1 := (List.mem_filter.1 hx).2
        simp only [decide_eq_true_eq] at h1
        omega
      · have h1 := (hr.2 x hx).2.2
        omega
  · rcases List.mem_append.1 he with he | he
    · rcases List.mem_append.1 he with he | he
      · exact h.2 e ((List.mem_filter.1 he).1)
      · exact (hr.2 e he).1
    · exact h.2 e ((List.mem_filter.1 he).1)

/-- Forgetting a run of keys keeps the canonical form. -/
theorem NMap.wf_clearRun [DecidableEq α] (d : Nat → α) {m : NMap α} (k n : Nat) (h : NMap.wf d m = true) :
    NMap.wf d (m.clearRun k n) = true := NMap.wf_filter d _ h

theorem NMap.look_append (d : Nat → α) (m n : NMap α) (k : Nat) (h : ∀ e ∈ m, e.1 ≠ k) :
    NMap.look d (m ++ n) k = n.look d k := by
  induction m with
  | nil => rfl
  | cons e t ih =>
    obtain ⟨j, w⟩ := e
    simp only [List.mem_cons, forall_eq_or_imp] at h
    simp only [List.cons_append, NMap.look, if_neg h.1]
    exact ih h.2

theorem NMap.look_append_not (d : Nat → α) (m n : NMap α) (k : Nat) (h : ∀ e ∈ n, e.1 ≠ k) :
    NMap.look d (m ++ n) k = m.look d k := by
  induction m with
  | nil =>
    induction n with
    | nil => rfl
    | cons e t ih =>
      obtain ⟨j, w⟩ := e
      simp only [List.mem_cons, forall_eq_or_imp] at h
      have := ih h.2
      simp only [List.nil_append, NMap.look, if_neg h.1] at *
      exact this
  | cons e t ih =>
    obtain ⟨j, w⟩ := e
    simp only [List.cons_append, NMap.look]
    split
    · rfl
    · exact ih

theorem NMap.look_filter (d : Nat → α) (m : NMap α) (f : Nat → Bool) (k : Nat) (h : f k = true) :
    NMap.look d (m.filter (fun e => f e.1)) k = m.look d k := by
  induction m with
  | nil => rfl
  | cons e t ih =>
    obtain ⟨j, w⟩ := e
    by_cases hj : j = k
    · subst hj; simp [h, NMap.look]
    · by_cases hf : f j = true
      · simp [hf, NMap.look, hj, ih]
      · simp [hf, NMap.look, hj, ih]

/-- What a key outside the written run reads as. -/
theorem NMap.look_putRun_other [DecidableEq α] (d : Nat → α) (m : NMap α) {k i : Nat} (vs : List α)
    (h : i < k ∨ k + vs.length ≤ i) : (m.putRun d k vs).look d i = m.look d i := by
  have hr := NMap.run_spec d vs k
  unfold NMap.putRun
  rcases h with h | h
  · rw [NMap.look_append_not, NMap.look_append_not, NMap.look_filter d m (fun j => decide (j < k))]
    · simpa using h
    · intro e he; have := (hr.2 e he).2.1; omega
    · intro e he
      have := (List.mem_filter.1 he).2
      simp only [decide_eq_true_eq] at this
      omega
  · rw [NMap.look_append, NMap.look_filter d m (fun j => decide (k + vs.length ≤ j))]
    · simpa using h
    · intro e he
      rcases List.mem_append.1 he with he | he
      · have := (List.mem_filter.1 he).2
        simp only [decide_eq_true_eq] at this
        omega
      · have := (hr.2 e he).2.2; omega

theorem NMap.look_run [DecidableEq α] (d : Nat → α) (vs : List α) (k n : Nat) (h : n < vs.length) :
    (NMap.run d k vs).look d (k + n) = vs[n] := by
  induction vs generalizing k n with
  | nil => simp at h
  | cons v t ih =>
    simp only [NMap.run]
    cases n with
    | zero =>
      split
      · next hv =>
        have hr := NMap.run_spec d t (k + 1)
        have := NMap.look_append d (NMap.run d (k + 1) t) [] k (fun e he => by have := (hr.2 e he).2.1; omega)
        simp only [List.append_nil] at this
        simpa [NMap.look, hv] using this
      · simp [NMap.look]
    | succ m =>
      have := ih (k + 1) m (by simpa using h)
      rw [show k + 1 + m = k + (m + 1) by omega] at this
      split
      · simpa using this
      · have hne : k ≠ k + (m + 1) := by omega
        simpa [NMap.look, hne] using this

/-- What a key of the written run reads as. -/
theorem NMap.look_putRun_in [DecidableEq α] (d : Nat → α) (m : NMap α) (k : Nat) (vs : List α) (n : Nat)
    (h : n < vs.length) : (m.putRun d k vs).look d (k + n) = vs[n] := by
  unfold NMap.putRun
  rw [NMap.look_append_not, NMap.look_append, NMap.look_run d vs k n h]
  · intro e he
    have := (List.mem_filter.1 he).2
    simp only [decide_eq_true_eq] at this
    omega
  · intro e he
    have := (List.mem_filter.1 he).2
    simp only [decide_eq_true_eq] at this
    omega

end Sys2Proof.Machine
end

