-- ==== Sys2Proof/Laws/Reg.lean ====
section
/-! SUPPORT. Laws of the register file: what a register or a field reads as after a write of it, of another field of its register, or
of another register, and that a write keeps the canonical form. -/
namespace Sys2Proof.Machine

theorem RegName.ctorIdx_lt (r : RegName) : r.ctorIdx < 256 := by cases r <;> decide

theorem RegName.ctorIdx_inj {r q : RegName} (h : r.ctorIdx = q.ctorIdx) : r = q := by
  have hr : ∀ r : RegName, RegName.ofNat r.ctorIdx = r := by intro r; cases r <;> rfl
  rw [← hr r, ← hr q, h]

/-- Two registers have two keys. -/
theorem regKey_inj {r q : RegName} {i j : Nat} : regKey r i = regKey q j ↔ r = q ∧ i = j := by
  constructor
  · intro h
    have hr := RegName.ctorIdx_lt r
    have hq := RegName.ctorIdx_lt q
    unfold regKey at h
    exact ⟨RegName.ctorIdx_inj (by omega), by omega⟩
  · rintro ⟨rfl, rfl⟩; rfl

@[simp] theorem State.reg_setReg_same (s : State) (r : RegName) (i : Nat) (w : Word) : (s.setReg r i w).reg r i = w := by
  simp [State.reg, State.setReg]

theorem State.reg_setReg_other (s : State) {r q : RegName} {i j : Nat} (w : Word) (h : ¬ (q = r ∧ j = i)) :
    (s.setReg r i w).reg q j = s.reg q j := by
  simp only [State.reg, State.setReg]
  exact NMap.look_put_other _ _ _ (fun e => h (regKey_inj.1 e))

/-- The word of a register after a write of some register. -/
theorem State.reg_setReg (s : State) (r q : RegName) (i j : Nat) (w : Word) :
    (s.setReg r i w).reg q j = if q = r ∧ j = i then w else s.reg q j := by
  split
  · next h => rw [h.1, h.2, State.reg_setReg_same]
  · next h => exact State.reg_setReg_other s w h

/-- The word of a register after a field of some register is set. -/
theorem State.reg_setFld (s : State) (f : Fld) (q : RegName) (i j v : Nat) :
    (s.setFld f i v).reg q j = if q = f.reg ∧ j = i then f.place (s.reg f.reg i) v else s.reg q j :=
  State.reg_setReg s f.reg q i j _

theorem Fld.place_toNat_testBit (f : Fld) (w : Word) (v n : Nat) (hn : n < 64) :
    (f.place w v).toNat.testBit n =
      (if f.lo ≤ n ∧ n < f.lo + f.width then v.testBit (n - f.lo) else w.toNat.testBit n) := by
  unfold Fld.place
  rw [BitVec.toNat_or, BitVec.toNat_and, BitVec.toNat_not, BitVec.toNat_ofNat, BitVec.toNat_ofNat]
  rw [Nat.testBit_or, Nat.testBit_and]
  have hm : (((2 ^ f.width - 1) * 2 ^ f.lo) % 2 ^ 64).testBit n = (decide (f.lo ≤ n ∧ n < f.lo + f.width)) := by
    rw [Nat.testBit_mod_two_pow, Nat.testBit_mul_two_pow, Nat.testBit_two_pow_sub_one]
    by_cases h1 : f.lo ≤ n <;> by_cases h2 : n < f.lo + f.width <;> simp [h1, h2, hn] <;> omega
  have hv : ((v % 2 ^ f.width * 2 ^ f.lo) % 2 ^ 64).testBit n =
      (decide (f.lo ≤ n ∧ n < f.lo + f.width) && v.testBit (n - f.lo)) := by
    rw [Nat.testBit_mod_two_pow, Nat.testBit_mul_two_pow, Nat.testBit_mod_two_pow]
    by_cases h1 : f.lo ≤ n <;> by_cases h2 : n < f.lo + f.width <;> simp [h1, h2, hn] <;> omega
  rw [hv]
  have hx : (2 ^ 64 - 1 - ((2 ^ f.width - 1) * 2 ^ f.lo) % 2 ^ 64).testBit n =
      !(decide (f.lo ≤ n ∧ n < f.lo + f.width)) := by
    have := Nat.testBit_two_pow_sub_succ (x := ((2 ^ f.width - 1) * 2 ^ f.lo) % 2 ^ 64) (n := 64)
      (Nat.mod_lt _ (by decide)) n
    rw [Nat.sub_sub, Nat.add_comm 1, this, hm]
    simp [hn]
  rw [hx]
  by_cases h : f.lo ≤ n ∧ n < f.lo + f.width <;> simp [h]

theorem Fld.ofWord_testBit (f : Fld) (w : Word) (n : Nat) :
    (f.ofWord w).testBit n = (decide (n < f.width) && w.toNat.testBit (n + f.lo)) := by
  unfold Fld.ofWord
  rw [Nat.testBit_mod_two_pow, Nat.testBit_div_two_pow]

/-- A field reads as what is placed in it. -/
theorem Fld.ofWord_place (f : Fld) (w : Word) (v : Nat) (h : f.lo + f.width ≤ 64) :
    f.ofWord (f.place w v) = v % 2 ^ f.width := by
  apply Nat.eq_of_testBit_eq
  intro n
  rw [Fld.ofWord_testBit, Nat.testBit_mod_two_pow]
  by_cases hn : n < f.width
  · rw [Fld.place_toNat_testBit f w v _ (by omega)]
    simp [hn]
    intro h; omega
  · simp [hn]

/-- A field placed elsewhere in the word leaves this one alone. -/
theorem Fld.ofWord_place_other (f g : Fld) (w : Word) (v : Nat) (hf : f.lo + f.width ≤ 64)
    (h : f.lo + f.width ≤ g.lo ∨ g.lo + g.width ≤ f.lo) : f.ofWord (g.place w v) = f.ofWord w := by
  apply Nat.eq_of_testBit_eq
  intro n
  rw [Fld.ofWord_testBit, Fld.ofWord_testBit]
  by_cases hn : n < f.width
  · rw [Fld.place_toNat_testBit g w v _ (by omega)]
    have : ¬ (g.lo ≤ n + f.lo ∧ n + f.lo < g.lo + g.width) := by omega
    simp [hn, this]
  · simp [hn]

theorem State.fld_setFld_same (s : State) (f : Fld) (i v : Nat) (h : f.lo + f.width ≤ 64) :
    (s.setFld f i v).fld f i = v % 2 ^ f.width := by
  simp [State.fld, State.setFld, Fld.ofWord_place f _ v h]

/-- A field of another register, or of another instance, keeps its value. -/
theorem State.fld_setFld_reg (s : State) {f g : Fld} {i j : Nat} (v : Nat) (h : ¬ (g.reg = f.reg ∧ j = i)) :
    (s.setFld f i v).fld g j = s.fld g j := by
  simp only [State.fld, State.setFld]
  rw [State.reg_setReg_other _ _ h]

/-- Another field of the register keeps its value. -/
theorem State.fld_setFld_field (s : State) {f g : Fld} {i j : Nat} (v : Nat) (hg : g.lo + g.width ≤ 64)
    (h : g.lo + g.width ≤ f.lo ∨ f.lo + f.width ≤ g.lo) : (s.setFld f i v).fld g j = s.fld g j := by
  by_cases hr : g.reg = f.reg ∧ j = i
  · simp only [State.fld, State.setFld, hr.1, hr.2, State.reg_setReg_same]
    rw [Fld.ofWord_place_other g f _ v hg h]
  · exact State.fld_setFld_reg s v hr

/-- A write of a register keeps the register file's canonical form. -/
theorem State.regs_wf_setReg (s : State) (r : RegName) (i : Nat) (w : Word) (h : NMap.wf regDflt s.regs = true) :
    NMap.wf regDflt (s.setReg r i w).regs = true := NMap.wf_put _ _ _ h

/-- A byte outside the run that is written keeps its value. -/
theorem State.byte_writeBytes_other (s : State) (a b : Nat) (bs : List Byte) (h : b < a ∨ a + bs.length ≤ b) :
    (s.writeBytes a bs).byte b = s.byte b := NMap.look_putRun_other _ _ _ h

/-- A byte of the run that is written reads as it was written. -/
theorem State.byte_writeBytes_in (s : State) (a n : Nat) (bs : List Byte) (h : n < bs.length) :
    (s.writeBytes a bs).byte (a + n) = bs[n] := NMap.look_putRun_in _ _ _ _ _ h

/-- A write of memory keeps its canonical form. -/
theorem State.mem_wf_writeBytes (s : State) (a : Nat) (bs : List Byte) (h : NMap.wf memDflt s.mem = true) :
    NMap.wf memDflt (s.writeBytes a bs).mem = true := NMap.wf_putRun _ _ _ h

end Sys2Proof.Machine
end

