-- ==== Sys2Proof/Laws/State.lean ====
section
/-! SUPPORT. Laws of the plain updates of State: one per update and field that it leaves alone, so that no proof unfolds the record. -/
namespace Sys2Proof.Machine

@[simp] theorem State.setReg_pending (s : State) (r : RegName) (i : Nat) (w : Word) : (s.setReg r i w).pending = s.pending := by rfl
@[simp] theorem State.setReg_outbox (s : State) (r : RegName) (i : Nat) (w : Word) : (s.setReg r i w).outbox = s.outbox := by rfl
@[simp] theorem State.setReg_freeCtr (s : State) (r : RegName) (i : Nat) (w : Word) : (s.setReg r i w).freeCtr = s.freeCtr := by rfl
@[simp] theorem State.setReg_mem (s : State) (r : RegName) (i : Nat) (w : Word) : (s.setReg r i w).mem = s.mem := by rfl
@[simp] theorem State.setReg_held (s : State) (r : RegName) (i : Nat) (w : Word) : (s.setReg r i w).held = s.held := by rfl
@[simp] theorem State.setReg_flight (s : State) (r : RegName) (i : Nat) (w : Word) : (s.setReg r i w).flight = s.flight := by rfl
@[simp] theorem State.setReg_binding (s : State) (r : RegName) (i : Nat) (w : Word) : (s.setReg r i w).binding = s.binding := by rfl
@[simp] theorem State.setReg_launchStep (s : State) (r : RegName) (i : Nat) (w : Word) : (s.setReg r i w).launchStep = s.launchStep := by rfl
@[simp] theorem State.setReg_factorT (s : State) (r : RegName) (i : Nat) (w : Word) : (s.setReg r i w).factorT = s.factorT := by rfl
@[simp] theorem State.setReg_factorP (s : State) (r : RegName) (i : Nat) (w : Word) : (s.setReg r i w).factorP = s.factorP := by rfl
@[simp] theorem State.setReg_ramp (s : State) (r : RegName) (i : Nat) (w : Word) : (s.setReg r i w).ramp = s.ramp := by rfl
@[simp] theorem State.setReg_imageBudget (s : State) (r : RegName) (i : Nat) (w : Word) : (s.setReg r i w).imageBudget = s.imageBudget := by rfl
@[simp] theorem State.setReg_imageObject (s : State) (r : RegName) (i : Nat) (w : Word) : (s.setReg r i w).imageObject = s.imageObject := by rfl
@[simp] theorem State.setReg_saves (s : State) (r : RegName) (i : Nat) (w : Word) : (s.setReg r i w).saves = s.saves := by rfl
@[simp] theorem State.setReg_evaluating (s : State) (r : RegName) (i : Nat) (w : Word) : (s.setReg r i w).evaluating = s.evaluating := by rfl
@[simp] theorem State.setReg_commitBarred (s : State) (r : RegName) (i : Nat) (w : Word) : (s.setReg r i w).commitBarred = s.commitBarred := by rfl
@[simp] theorem State.setReg_loopbacks (s : State) (r : RegName) (i : Nat) (w : Word) : (s.setReg r i w).loopbacks = s.loopbacks := by rfl
@[simp] theorem State.setReg_mail (s : State) (r : RegName) (i : Nat) (w : Word) : (s.setReg r i w).mail = s.mail := by rfl
@[simp] theorem State.setReg_jwBusy (s : State) (r : RegName) (i : Nat) (w : Word) : (s.setReg r i w).jwBusy = s.jwBusy := by rfl
@[simp] theorem State.setReg_jwTag (s : State) (r : RegName) (i : Nat) (w : Word) : (s.setReg r i w).jwTag = s.jwTag := by rfl
@[simp] theorem State.setReg_jwHeld (s : State) (r : RegName) (i : Nat) (w : Word) : (s.setReg r i w).jwHeld = s.jwHeld := by rfl
@[simp] theorem State.setReg_mailOrder (s : State) (r : RegName) (i : Nat) (w : Word) : (s.setReg r i w).mailOrder = s.mailOrder := by rfl
@[simp] theorem State.setReg_cmdOrder (s : State) (r : RegName) (i : Nat) (w : Word) : (s.setReg r i w).cmdOrder = s.cmdOrder := by rfl
@[simp] theorem State.setReg_tokenMoves (s : State) (r : RegName) (i : Nat) (w : Word) : (s.setReg r i w).tokenMoves = s.tokenMoves := by rfl
@[simp] theorem State.setReg_admitted (s : State) (r : RegName) (i : Nat) (w : Word) : (s.setReg r i w).admitted = s.admitted := by rfl
@[simp] theorem State.setReg_fenced (s : State) (r : RegName) (i : Nat) (w : Word) : (s.setReg r i w).fenced = s.fenced := by rfl
@[simp] theorem State.setReg_fenceDue (s : State) (r : RegName) (i : Nat) (w : Word) : (s.setReg r i w).fenceDue = s.fenceDue := by rfl
@[simp] theorem State.setReg_piers (s : State) (r : RegName) (i : Nat) (w : Word) : (s.setReg r i w).piers = s.piers := by rfl
@[simp] theorem State.setReg_archs (s : State) (r : RegName) (i : Nat) (w : Word) : (s.setReg r i w).archs = s.archs := by rfl
@[simp] theorem State.setReg_spandrel (s : State) (r : RegName) (i : Nat) (w : Word) : (s.setReg r i w).spandrel = s.spandrel := by rfl
@[simp] theorem State.setReg_regions (s : State) (r : RegName) (i : Nat) (w : Word) : (s.setReg r i w).regions = s.regions := by rfl
@[simp] theorem State.setReg_deckFlips (s : State) (r : RegName) (i : Nat) (w : Word) : (s.setReg r i w).deckFlips = s.deckFlips := by rfl
@[simp] theorem State.setReg_slots (s : State) (r : RegName) (i : Nat) (w : Word) : (s.setReg r i w).slots = s.slots := by rfl
@[simp] theorem State.setReg_gangs (s : State) (r : RegName) (i : Nat) (w : Word) : (s.setReg r i w).gangs = s.gangs := by rfl
@[simp] theorem State.setReg_refetches (s : State) (r : RegName) (i : Nat) (w : Word) : (s.setReg r i w).refetches = s.refetches := by rfl
@[simp] theorem State.setReg_watch (s : State) (r : RegName) (i : Nat) (w : Word) : (s.setReg r i w).watch = s.watch := by rfl
@[simp] theorem State.setReg_staleNotices (s : State) (r : RegName) (i : Nat) (w : Word) : (s.setReg r i w).staleNotices = s.staleNotices := by rfl
@[simp] theorem State.setReg_openWrites (s : State) (r : RegName) (i : Nat) (w : Word) : (s.setReg r i w).openWrites = s.openWrites := by rfl
@[simp] theorem State.setReg_gates (s : State) (r : RegName) (i : Nat) (w : Word) : (s.setReg r i w).gates = s.gates := by rfl
@[simp] theorem State.setReg_stored (s : State) (r : RegName) (i : Nat) (w : Word) : (s.setReg r i w).stored = s.stored := by rfl
@[simp] theorem State.setReg_tags (s : State) (r : RegName) (i : Nat) (w : Word) : (s.setReg r i w).tags = s.tags := by rfl
@[simp] theorem State.setReg_lastGang (s : State) (r : RegName) (i : Nat) (w : Word) : (s.setReg r i w).lastGang = s.lastGang := by rfl
@[simp] theorem State.setReg_objects (s : State) (r : RegName) (i : Nat) (w : Word) : (s.setReg r i w).objects = s.objects := by rfl
@[simp] theorem State.setReg_homes (s : State) (r : RegName) (i : Nat) (w : Word) : (s.setReg r i w).homes = s.homes := by rfl
@[simp] theorem State.setReg_windows (s : State) (r : RegName) (i : Nat) (w : Word) : (s.setReg r i w).windows = s.windows := by rfl
@[simp] theorem State.setReg_startEpoch (s : State) (r : RegName) (i : Nat) (w : Word) : (s.setReg r i w).startEpoch = s.startEpoch := by rfl
@[simp] theorem State.setReg_poolCfg (s : State) (r : RegName) (i : Nat) (w : Word) : (s.setReg r i w).poolCfg = s.poolCfg := by rfl
@[simp] theorem State.setReg_moves (s : State) (r : RegName) (i : Nat) (w : Word) : (s.setReg r i w).moves = s.moves := by rfl
@[simp] theorem State.setReg_bringUps (s : State) (r : RegName) (i : Nat) (w : Word) : (s.setReg r i w).bringUps = s.bringUps := by rfl
@[simp] theorem State.setReg_runs (s : State) (r : RegName) (i : Nat) (w : Word) : (s.setReg r i w).runs = s.runs := by rfl
@[simp] theorem State.setReg_parapets (s : State) (r : RegName) (i : Nat) (w : Word) : (s.setReg r i w).parapets = s.parapets := by rfl
@[simp] theorem State.setReg_links (s : State) (r : RegName) (i : Nat) (w : Word) : (s.setReg r i w).links = s.links := by rfl
@[simp] theorem State.setReg_cuts (s : State) (r : RegName) (i : Nat) (w : Word) : (s.setReg r i w).cuts = s.cuts := by rfl
@[simp] theorem State.setReg_ringTiles (s : State) (r : RegName) (i : Nat) (w : Word) : (s.setReg r i w).ringTiles = s.ringTiles := by rfl
@[simp] theorem State.setReg_selfMsgs (s : State) (r : RegName) (i : Nat) (w : Word) : (s.setReg r i w).selfMsgs = s.selfMsgs := by rfl
@[simp] theorem State.setReg_nextRemote (s : State) (r : RegName) (i : Nat) (w : Word) : (s.setReg r i w).nextRemote = s.nextRemote := by rfl
@[simp] theorem State.setReg_remotes (s : State) (r : RegName) (i : Nat) (w : Word) : (s.setReg r i w).remotes = s.remotes := by rfl
@[simp] theorem State.setReg_windowWaits (s : State) (r : RegName) (i : Nat) (w : Word) : (s.setReg r i w).windowWaits = s.windowWaits := by rfl
@[simp] theorem State.setReg_mirrorLog (s : State) (r : RegName) (i : Nat) (w : Word) : (s.setReg r i w).mirrorLog = s.mirrorLog := by rfl
@[simp] theorem State.setReg_rejoinSender (s : State) (r : RegName) (i : Nat) (w : Word) : (s.setReg r i w).rejoinSender = s.rejoinSender := by rfl
@[simp] theorem State.setReg_promoted (s : State) (r : RegName) (i : Nat) (w : Word) : (s.setReg r i w).promoted = s.promoted := by rfl
@[simp] theorem State.setReg_mirrorWaits (s : State) (r : RegName) (i : Nat) (w : Word) : (s.setReg r i w).mirrorWaits = s.mirrorWaits := by rfl
@[simp] theorem State.setReg_ring (s : State) (r : RegName) (i : Nat) (w : Word) : (s.setReg r i w).ring = s.ring := by rfl
@[simp] theorem State.setReg_notices (s : State) (r : RegName) (i : Nat) (w : Word) : (s.setReg r i w).notices = s.notices := by rfl
@[simp] theorem State.setReg_taken (s : State) (r : RegName) (i : Nat) (w : Word) : (s.setReg r i w).taken = s.taken := by rfl
@[simp] theorem State.setReg_journalWrites (s : State) (r : RegName) (i : Nat) (w : Word) : (s.setReg r i w).journalWrites = s.journalWrites := by rfl
@[simp] theorem State.setReg_journal (s : State) (r : RegName) (i : Nat) (w : Word) : (s.setReg r i w).journal = s.journal := by rfl
@[simp] theorem State.setReg_phase (s : State) (r : RegName) (i : Nat) (w : Word) : (s.setReg r i w).phase = s.phase := by rfl
@[simp] theorem State.setReg_failed (s : State) (r : RegName) (i : Nat) (w : Word) : (s.setReg r i w).failed = s.failed := by rfl
@[simp] theorem State.setReg_deckMap (s : State) (r : RegName) (i : Nat) (w : Word) : (s.setReg r i w).deckMap = s.deckMap := by rfl
@[simp] theorem State.setReg_pairing (s : State) (r : RegName) (i : Nat) (w : Word) : (s.setReg r i w).pairing = s.pairing := by rfl
@[simp] theorem State.setReg_journalOff (s : State) (r : RegName) (i : Nat) (w : Word) : (s.setReg r i w).journalOff = s.journalOff := by rfl
@[simp] theorem State.setReg_launchedOnce (s : State) (r : RegName) (i : Nat) (w : Word) : (s.setReg r i w).launchedOnce = s.launchedOnce := by rfl
@[simp] theorem State.setReg_queue (s : State) (r : RegName) (i : Nat) (w : Word) : (s.setReg r i w).queue = s.queue := by rfl
@[simp] theorem State.setReg_posted (s : State) (r : RegName) (i : Nat) (w : Word) : (s.setReg r i w).posted = s.posted := by rfl
@[simp] theorem State.setReg_bootWait (s : State) (r : RegName) (i : Nat) (w : Word) : (s.setReg r i w).bootWait = s.bootWait := by rfl
@[simp] theorem State.setReg_recordOut (s : State) (r : RegName) (i : Nat) (w : Word) : (s.setReg r i w).recordOut = s.recordOut := by rfl
@[simp] theorem State.setReg_lostRecords (s : State) (r : RegName) (i : Nat) (w : Word) : (s.setReg r i w).lostRecords = s.lostRecords := by rfl
@[simp] theorem State.setReg_junction (s : State) (r : RegName) (i : Nat) (w : Word) : (s.setReg r i w).junction = s.junction := by rfl
@[simp] theorem State.setReg_coolReads (s : State) (r : RegName) (i : Nat) (w : Word) : (s.setReg r i w).coolReads = s.coolReads := by rfl
@[simp] theorem State.setReg_hotTemps (s : State) (r : RegName) (i : Nat) (w : Word) : (s.setReg r i w).hotTemps = s.hotTemps := by rfl
@[simp] theorem State.setReg_coolTemps (s : State) (r : RegName) (i : Nat) (w : Word) : (s.setReg r i w).coolTemps = s.coolTemps := by rfl
@[simp] theorem State.setReg_coolWindows (s : State) (r : RegName) (i : Nat) (w : Word) : (s.setReg r i w).coolWindows = s.coolWindows := by rfl
@[simp] theorem State.setReg_measureWanted (s : State) (r : RegName) (i : Nat) (w : Word) : (s.setReg r i w).measureWanted = s.measureWanted := by rfl
@[simp] theorem State.setReg_tests (s : State) (r : RegName) (i : Nat) (w : Word) : (s.setReg r i w).tests = s.tests := by rfl
@[simp] theorem State.setReg_bist (s : State) (r : RegName) (i : Nat) (w : Word) : (s.setReg r i w).bist = s.bist := by rfl
@[simp] theorem State.setReg_parked (s : State) (r : RegName) (i : Nat) (w : Word) : (s.setReg r i w).parked = s.parked := by rfl
@[simp] theorem State.setReg_wakeWanted (s : State) (r : RegName) (i : Nat) (w : Word) : (s.setReg r i w).wakeWanted = s.wakeWanted := by rfl
@[simp] theorem State.setReg_openGates (s : State) (r : RegName) (i : Nat) (w : Word) : (s.setReg r i w).openGates = s.openGates := by rfl
@[simp] theorem State.setReg_braceAt (s : State) (r : RegName) (i : Nat) (w : Word) : (s.setReg r i w).braceAt = s.braceAt := by rfl
@[simp] theorem State.setReg_recovering (s : State) (r : RegName) (i : Nat) (w : Word) : (s.setReg r i w).recovering = s.recovering := by rfl
@[simp] theorem State.setReg_nor (s : State) (r : RegName) (i : Nat) (w : Word) : (s.setReg r i w).nor = s.nor := by rfl
@[simp] theorem State.setReg_running (s : State) (r : RegName) (i : Nat) (w : Word) : (s.setReg r i w).running = s.running := by rfl
@[simp] theorem State.setReg_noPorts (s : State) (r : RegName) (i : Nat) (w : Word) : (s.setReg r i w).noPorts = s.noPorts := by rfl
@[simp] theorem State.setReg_firmwareKeys (s : State) (r : RegName) (i : Nat) (w : Word) : (s.setReg r i w).firmwareKeys = s.firmwareKeys := by rfl
@[simp] theorem State.setReg_programKeys (s : State) (r : RegName) (i : Nat) (w : Word) : (s.setReg r i w).programKeys = s.programKeys := by rfl
@[simp] theorem State.setReg_passwords (s : State) (r : RegName) (i : Nat) (w : Word) : (s.setReg r i w).passwords = s.passwords := by rfl
@[simp] theorem State.setReg_debugKeys (s : State) (r : RegName) (i : Nat) (w : Word) : (s.setReg r i w).debugKeys = s.debugKeys := by rfl
@[simp] theorem State.setReg_challenge (s : State) (r : RegName) (i : Nat) (w : Word) : (s.setReg r i w).challenge = s.challenge := by rfl
@[simp] theorem State.setReg_authFails (s : State) (r : RegName) (i : Nat) (w : Word) : (s.setReg r i w).authFails = s.authFails := by rfl
@[simp] theorem State.setReg_authBarred (s : State) (r : RegName) (i : Nat) (w : Word) : (s.setReg r i w).authBarred = s.authBarred := by rfl
@[simp] theorem State.setReg_opened (s : State) (r : RegName) (i : Nat) (w : Word) : (s.setReg r i w).opened = s.opened := by rfl
@[simp] theorem State.setReg_probes (s : State) (r : RegName) (i : Nat) (w : Word) : (s.setReg r i w).probes = s.probes := by rfl
@[simp] theorem State.setReg_hostWaits (s : State) (r : RegName) (i : Nat) (w : Word) : (s.setReg r i w).hostWaits = s.hostWaits := by rfl
@[simp] theorem State.setReg_routerFails (s : State) (r : RegName) (i : Nat) (w : Word) : (s.setReg r i w).routerFails = s.routerFails := by rfl
@[simp] theorem State.setReg_sbAddress (s : State) (r : RegName) (i : Nat) (w : Word) : (s.setReg r i w).sbAddress = s.sbAddress := by rfl
@[simp] theorem State.setReg_flaws (s : State) (r : RegName) (i : Nat) (w : Word) : (s.setReg r i w).flaws = s.flaws := by rfl
@[simp] theorem State.setReg_madeImages (s : State) (r : RegName) (i : Nat) (w : Word) : (s.setReg r i w).madeImages = s.madeImages := by rfl
@[simp] theorem State.setReg_bootRecords (s : State) (r : RegName) (i : Nat) (w : Word) : (s.setReg r i w).bootRecords = s.bootRecords := by rfl
@[simp] theorem State.setReg_deltas (s : State) (r : RegName) (i : Nat) (w : Word) : (s.setReg r i w).deltas = s.deltas := by rfl
@[simp] theorem State.setReg_refLost (s : State) (r : RegName) (i : Nat) (w : Word) : (s.setReg r i w).refLost = s.refLost := by rfl
@[simp] theorem State.setReg_unnumbered (s : State) (r : RegName) (i : Nat) (w : Word) : (s.setReg r i w).unnumbered = s.unnumbered := by rfl
@[simp] theorem State.setReg_retired (s : State) (r : RegName) (i : Nat) (w : Word) : (s.setReg r i w).retired = s.retired := by rfl
@[simp] theorem State.setReg_jwAsleep (s : State) (r : RegName) (i : Nat) (w : Word) : (s.setReg r i w).jwAsleep = s.jwAsleep := by rfl
@[simp] theorem State.setReg_warmReset (s : State) (r : RegName) (i : Nat) (w : Word) : (s.setReg r i w).warmReset = s.warmReset := by rfl
@[simp] theorem State.setReg_straps (s : State) (r : RegName) (i : Nat) (w : Word) : (s.setReg r i w).straps = s.straps := by rfl

@[simp] theorem State.setFld_pending (s : State) (f : Fld) (i v : Nat) : (s.setFld f i v).pending = s.pending := by rfl
@[simp] theorem State.setFld_outbox (s : State) (f : Fld) (i v : Nat) : (s.setFld f i v).outbox = s.outbox := by rfl
@[simp] theorem State.setFld_freeCtr (s : State) (f : Fld) (i v : Nat) : (s.setFld f i v).freeCtr = s.freeCtr := by rfl
@[simp] theorem State.setFld_mem (s : State) (f : Fld) (i v : Nat) : (s.setFld f i v).mem = s.mem := by rfl
@[simp] theorem State.setFld_held (s : State) (f : Fld) (i v : Nat) : (s.setFld f i v).held = s.held := by rfl
@[simp] theorem State.setFld_flight (s : State) (f : Fld) (i v : Nat) : (s.setFld f i v).flight = s.flight := by rfl
@[simp] theorem State.setFld_binding (s : State) (f : Fld) (i v : Nat) : (s.setFld f i v).binding = s.binding := by rfl
@[simp] theorem State.setFld_launchStep (s : State) (f : Fld) (i v : Nat) : (s.setFld f i v).launchStep = s.launchStep := by rfl
@[simp] theorem State.setFld_factorT (s : State) (f : Fld) (i v : Nat) : (s.setFld f i v).factorT = s.factorT := by rfl
@[simp] theorem State.setFld_factorP (s : State) (f : Fld) (i v : Nat) : (s.setFld f i v).factorP = s.factorP := by rfl
@[simp] theorem State.setFld_ramp (s : State) (f : Fld) (i v : Nat) : (s.setFld f i v).ramp = s.ramp := by rfl
@[simp] theorem State.setFld_imageBudget (s : State) (f : Fld) (i v : Nat) : (s.setFld f i v).imageBudget = s.imageBudget := by rfl
@[simp] theorem State.setFld_imageObject (s : State) (f : Fld) (i v : Nat) : (s.setFld f i v).imageObject = s.imageObject := by rfl
@[simp] theorem State.setFld_saves (s : State) (f : Fld) (i v : Nat) : (s.setFld f i v).saves = s.saves := by rfl
@[simp] theorem State.setFld_evaluating (s : State) (f : Fld) (i v : Nat) : (s.setFld f i v).evaluating = s.evaluating := by rfl
@[simp] theorem State.setFld_commitBarred (s : State) (f : Fld) (i v : Nat) : (s.setFld f i v).commitBarred = s.commitBarred := by rfl
@[simp] theorem State.setFld_loopbacks (s : State) (f : Fld) (i v : Nat) : (s.setFld f i v).loopbacks = s.loopbacks := by rfl
@[simp] theorem State.setFld_mail (s : State) (f : Fld) (i v : Nat) : (s.setFld f i v).mail = s.mail := by rfl
@[simp] theorem State.setFld_jwBusy (s : State) (f : Fld) (i v : Nat) : (s.setFld f i v).jwBusy = s.jwBusy := by rfl
@[simp] theorem State.setFld_jwTag (s : State) (f : Fld) (i v : Nat) : (s.setFld f i v).jwTag = s.jwTag := by rfl
@[simp] theorem State.setFld_jwHeld (s : State) (f : Fld) (i v : Nat) : (s.setFld f i v).jwHeld = s.jwHeld := by rfl
@[simp] theorem State.setFld_mailOrder (s : State) (f : Fld) (i v : Nat) : (s.setFld f i v).mailOrder = s.mailOrder := by rfl
@[simp] theorem State.setFld_cmdOrder (s : State) (f : Fld) (i v : Nat) : (s.setFld f i v).cmdOrder = s.cmdOrder := by rfl
@[simp] theorem State.setFld_tokenMoves (s : State) (f : Fld) (i v : Nat) : (s.setFld f i v).tokenMoves = s.tokenMoves := by rfl
@[simp] theorem State.setFld_admitted (s : State) (f : Fld) (i v : Nat) : (s.setFld f i v).admitted = s.admitted := by rfl
@[simp] theorem State.setFld_fenced (s : State) (f : Fld) (i v : Nat) : (s.setFld f i v).fenced = s.fenced := by rfl
@[simp] theorem State.setFld_fenceDue (s : State) (f : Fld) (i v : Nat) : (s.setFld f i v).fenceDue = s.fenceDue := by rfl
@[simp] theorem State.setFld_piers (s : State) (f : Fld) (i v : Nat) : (s.setFld f i v).piers = s.piers := by rfl
@[simp] theorem State.setFld_archs (s : State) (f : Fld) (i v : Nat) : (s.setFld f i v).archs = s.archs := by rfl
@[simp] theorem State.setFld_spandrel (s : State) (f : Fld) (i v : Nat) : (s.setFld f i v).spandrel = s.spandrel := by rfl
@[simp] theorem State.setFld_regions (s : State) (f : Fld) (i v : Nat) : (s.setFld f i v).regions = s.regions := by rfl
@[simp] theorem State.setFld_deckFlips (s : State) (f : Fld) (i v : Nat) : (s.setFld f i v).deckFlips = s.deckFlips := by rfl
@[simp] theorem State.setFld_slots (s : State) (f : Fld) (i v : Nat) : (s.setFld f i v).slots = s.slots := by rfl
@[simp] theorem State.setFld_gangs (s : State) (f : Fld) (i v : Nat) : (s.setFld f i v).gangs = s.gangs := by rfl
@[simp] theorem State.setFld_refetches (s : State) (f : Fld) (i v : Nat) : (s.setFld f i v).refetches = s.refetches := by rfl
@[simp] theorem State.setFld_watch (s : State) (f : Fld) (i v : Nat) : (s.setFld f i v).watch = s.watch := by rfl
@[simp] theorem State.setFld_staleNotices (s : State) (f : Fld) (i v : Nat) : (s.setFld f i v).staleNotices = s.staleNotices := by rfl
@[simp] theorem State.setFld_openWrites (s : State) (f : Fld) (i v : Nat) : (s.setFld f i v).openWrites = s.openWrites := by rfl
@[simp] theorem State.setFld_gates (s : State) (f : Fld) (i v : Nat) : (s.setFld f i v).gates = s.gates := by rfl
@[simp] theorem State.setFld_stored (s : State) (f : Fld) (i v : Nat) : (s.setFld f i v).stored = s.stored := by rfl
@[simp] theorem State.setFld_tags (s : State) (f : Fld) (i v : Nat) : (s.setFld f i v).tags = s.tags := by rfl
@[simp] theorem State.setFld_lastGang (s : State) (f : Fld) (i v : Nat) : (s.setFld f i v).lastGang = s.lastGang := by rfl
@[simp] theorem State.setFld_objects (s : State) (f : Fld) (i v : Nat) : (s.setFld f i v).objects = s.objects := by rfl
@[simp] theorem State.setFld_homes (s : State) (f : Fld) (i v : Nat) : (s.setFld f i v).homes = s.homes := by rfl
@[simp] theorem State.setFld_windows (s : State) (f : Fld) (i v : Nat) : (s.setFld f i v).windows = s.windows := by rfl
@[simp] theorem State.setFld_startEpoch (s : State) (f : Fld) (i v : Nat) : (s.setFld f i v).startEpoch = s.startEpoch := by rfl
@[simp] theorem State.setFld_poolCfg (s : State) (f : Fld) (i v : Nat) : (s.setFld f i v).poolCfg = s.poolCfg := by rfl
@[simp] theorem State.setFld_moves (s : State) (f : Fld) (i v : Nat) : (s.setFld f i v).moves = s.moves := by rfl
@[simp] theorem State.setFld_bringUps (s : State) (f : Fld) (i v : Nat) : (s.setFld f i v).bringUps = s.bringUps := by rfl
@[simp] theorem State.setFld_runs (s : State) (f : Fld) (i v : Nat) : (s.setFld f i v).runs = s.runs := by rfl
@[simp] theorem State.setFld_parapets (s : State) (f : Fld) (i v : Nat) : (s.setFld f i v).parapets = s.parapets := by rfl
@[simp] theorem State.setFld_links (s : State) (f : Fld) (i v : Nat) : (s.setFld f i v).links = s.links := by rfl
@[simp] theorem State.setFld_cuts (s : State) (f : Fld) (i v : Nat) : (s.setFld f i v).cuts = s.cuts := by rfl
@[simp] theorem State.setFld_ringTiles (s : State) (f : Fld) (i v : Nat) : (s.setFld f i v).ringTiles = s.ringTiles := by rfl
@[simp] theorem State.setFld_selfMsgs (s : State) (f : Fld) (i v : Nat) : (s.setFld f i v).selfMsgs = s.selfMsgs := by rfl
@[simp] theorem State.setFld_nextRemote (s : State) (f : Fld) (i v : Nat) : (s.setFld f i v).nextRemote = s.nextRemote := by rfl
@[simp] theorem State.setFld_remotes (s : State) (f : Fld) (i v : Nat) : (s.setFld f i v).remotes = s.remotes := by rfl
@[simp] theorem State.setFld_windowWaits (s : State) (f : Fld) (i v : Nat) : (s.setFld f i v).windowWaits = s.windowWaits := by rfl
@[simp] theorem State.setFld_mirrorLog (s : State) (f : Fld) (i v : Nat) : (s.setFld f i v).mirrorLog = s.mirrorLog := by rfl
@[simp] theorem State.setFld_rejoinSender (s : State) (f : Fld) (i v : Nat) : (s.setFld f i v).rejoinSender = s.rejoinSender := by rfl
@[simp] theorem State.setFld_promoted (s : State) (f : Fld) (i v : Nat) : (s.setFld f i v).promoted = s.promoted := by rfl
@[simp] theorem State.setFld_mirrorWaits (s : State) (f : Fld) (i v : Nat) : (s.setFld f i v).mirrorWaits = s.mirrorWaits := by rfl
@[simp] theorem State.setFld_ring (s : State) (f : Fld) (i v : Nat) : (s.setFld f i v).ring = s.ring := by rfl
@[simp] theorem State.setFld_notices (s : State) (f : Fld) (i v : Nat) : (s.setFld f i v).notices = s.notices := by rfl
@[simp] theorem State.setFld_taken (s : State) (f : Fld) (i v : Nat) : (s.setFld f i v).taken = s.taken := by rfl
@[simp] theorem State.setFld_journalWrites (s : State) (f : Fld) (i v : Nat) : (s.setFld f i v).journalWrites = s.journalWrites := by rfl
@[simp] theorem State.setFld_journal (s : State) (f : Fld) (i v : Nat) : (s.setFld f i v).journal = s.journal := by rfl
@[simp] theorem State.setFld_phase (s : State) (f : Fld) (i v : Nat) : (s.setFld f i v).phase = s.phase := by rfl
@[simp] theorem State.setFld_failed (s : State) (f : Fld) (i v : Nat) : (s.setFld f i v).failed = s.failed := by rfl
@[simp] theorem State.setFld_deckMap (s : State) (f : Fld) (i v : Nat) : (s.setFld f i v).deckMap = s.deckMap := by rfl
@[simp] theorem State.setFld_pairing (s : State) (f : Fld) (i v : Nat) : (s.setFld f i v).pairing = s.pairing := by rfl
@[simp] theorem State.setFld_journalOff (s : State) (f : Fld) (i v : Nat) : (s.setFld f i v).journalOff = s.journalOff := by rfl
@[simp] theorem State.setFld_launchedOnce (s : State) (f : Fld) (i v : Nat) : (s.setFld f i v).launchedOnce = s.launchedOnce := by rfl
@[simp] theorem State.setFld_queue (s : State) (f : Fld) (i v : Nat) : (s.setFld f i v).queue = s.queue := by rfl
@[simp] theorem State.setFld_posted (s : State) (f : Fld) (i v : Nat) : (s.setFld f i v).posted = s.posted := by rfl
@[simp] theorem State.setFld_bootWait (s : State) (f : Fld) (i v : Nat) : (s.setFld f i v).bootWait = s.bootWait := by rfl
@[simp] theorem State.setFld_recordOut (s : State) (f : Fld) (i v : Nat) : (s.setFld f i v).recordOut = s.recordOut := by rfl
@[simp] theorem State.setFld_lostRecords (s : State) (f : Fld) (i v : Nat) : (s.setFld f i v).lostRecords = s.lostRecords := by rfl
@[simp] theorem State.setFld_junction (s : State) (f : Fld) (i v : Nat) : (s.setFld f i v).junction = s.junction := by rfl
@[simp] theorem State.setFld_coolReads (s : State) (f : Fld) (i v : Nat) : (s.setFld f i v).coolReads = s.coolReads := by rfl
@[simp] theorem State.setFld_hotTemps (s : State) (f : Fld) (i v : Nat) : (s.setFld f i v).hotTemps = s.hotTemps := by rfl
@[simp] theorem State.setFld_coolTemps (s : State) (f : Fld) (i v : Nat) : (s.setFld f i v).coolTemps = s.coolTemps := by rfl
@[simp] theorem State.setFld_coolWindows (s : State) (f : Fld) (i v : Nat) : (s.setFld f i v).coolWindows = s.coolWindows := by rfl
@[simp] theorem State.setFld_measureWanted (s : State) (f : Fld) (i v : Nat) : (s.setFld f i v).measureWanted = s.measureWanted := by rfl
@[simp] theorem State.setFld_tests (s : State) (f : Fld) (i v : Nat) : (s.setFld f i v).tests = s.tests := by rfl
@[simp] theorem State.setFld_bist (s : State) (f : Fld) (i v : Nat) : (s.setFld f i v).bist = s.bist := by rfl
@[simp] theorem State.setFld_parked (s : State) (f : Fld) (i v : Nat) : (s.setFld f i v).parked = s.parked := by rfl
@[simp] theorem State.setFld_wakeWanted (s : State) (f : Fld) (i v : Nat) : (s.setFld f i v).wakeWanted = s.wakeWanted := by rfl
@[simp] theorem State.setFld_openGates (s : State) (f : Fld) (i v : Nat) : (s.setFld f i v).openGates = s.openGates := by rfl
@[simp] theorem State.setFld_braceAt (s : State) (f : Fld) (i v : Nat) : (s.setFld f i v).braceAt = s.braceAt := by rfl
@[simp] theorem State.setFld_recovering (s : State) (f : Fld) (i v : Nat) : (s.setFld f i v).recovering = s.recovering := by rfl
@[simp] theorem State.setFld_nor (s : State) (f : Fld) (i v : Nat) : (s.setFld f i v).nor = s.nor := by rfl
@[simp] theorem State.setFld_running (s : State) (f : Fld) (i v : Nat) : (s.setFld f i v).running = s.running := by rfl
@[simp] theorem State.setFld_noPorts (s : State) (f : Fld) (i v : Nat) : (s.setFld f i v).noPorts = s.noPorts := by rfl
@[simp] theorem State.setFld_firmwareKeys (s : State) (f : Fld) (i v : Nat) : (s.setFld f i v).firmwareKeys = s.firmwareKeys := by rfl
@[simp] theorem State.setFld_programKeys (s : State) (f : Fld) (i v : Nat) : (s.setFld f i v).programKeys = s.programKeys := by rfl
@[simp] theorem State.setFld_passwords (s : State) (f : Fld) (i v : Nat) : (s.setFld f i v).passwords = s.passwords := by rfl
@[simp] theorem State.setFld_debugKeys (s : State) (f : Fld) (i v : Nat) : (s.setFld f i v).debugKeys = s.debugKeys := by rfl
@[simp] theorem State.setFld_challenge (s : State) (f : Fld) (i v : Nat) : (s.setFld f i v).challenge = s.challenge := by rfl
@[simp] theorem State.setFld_authFails (s : State) (f : Fld) (i v : Nat) : (s.setFld f i v).authFails = s.authFails := by rfl
@[simp] theorem State.setFld_authBarred (s : State) (f : Fld) (i v : Nat) : (s.setFld f i v).authBarred = s.authBarred := by rfl
@[simp] theorem State.setFld_opened (s : State) (f : Fld) (i v : Nat) : (s.setFld f i v).opened = s.opened := by rfl
@[simp] theorem State.setFld_probes (s : State) (f : Fld) (i v : Nat) : (s.setFld f i v).probes = s.probes := by rfl
@[simp] theorem State.setFld_hostWaits (s : State) (f : Fld) (i v : Nat) : (s.setFld f i v).hostWaits = s.hostWaits := by rfl
@[simp] theorem State.setFld_routerFails (s : State) (f : Fld) (i v : Nat) : (s.setFld f i v).routerFails = s.routerFails := by rfl
@[simp] theorem State.setFld_sbAddress (s : State) (f : Fld) (i v : Nat) : (s.setFld f i v).sbAddress = s.sbAddress := by rfl
@[simp] theorem State.setFld_flaws (s : State) (f : Fld) (i v : Nat) : (s.setFld f i v).flaws = s.flaws := by rfl
@[simp] theorem State.setFld_madeImages (s : State) (f : Fld) (i v : Nat) : (s.setFld f i v).madeImages = s.madeImages := by rfl
@[simp] theorem State.setFld_bootRecords (s : State) (f : Fld) (i v : Nat) : (s.setFld f i v).bootRecords = s.bootRecords := by rfl
@[simp] theorem State.setFld_deltas (s : State) (f : Fld) (i v : Nat) : (s.setFld f i v).deltas = s.deltas := by rfl
@[simp] theorem State.setFld_refLost (s : State) (f : Fld) (i v : Nat) : (s.setFld f i v).refLost = s.refLost := by rfl
@[simp] theorem State.setFld_unnumbered (s : State) (f : Fld) (i v : Nat) : (s.setFld f i v).unnumbered = s.unnumbered := by rfl
@[simp] theorem State.setFld_retired (s : State) (f : Fld) (i v : Nat) : (s.setFld f i v).retired = s.retired := by rfl
@[simp] theorem State.setFld_jwAsleep (s : State) (f : Fld) (i v : Nat) : (s.setFld f i v).jwAsleep = s.jwAsleep := by rfl
@[simp] theorem State.setFld_warmReset (s : State) (f : Fld) (i v : Nat) : (s.setFld f i v).warmReset = s.warmReset := by rfl
@[simp] theorem State.setFld_straps (s : State) (f : Fld) (i v : Nat) : (s.setFld f i v).straps = s.straps := by rfl

@[simp] theorem State.bump_pending (s : State) (f : Fld) (i n : Nat) : (s.bump f i n).pending = s.pending := by rfl
@[simp] theorem State.bump_outbox (s : State) (f : Fld) (i n : Nat) : (s.bump f i n).outbox = s.outbox := by rfl
@[simp] theorem State.bump_freeCtr (s : State) (f : Fld) (i n : Nat) : (s.bump f i n).freeCtr = s.freeCtr := by rfl
@[simp] theorem State.bump_mem (s : State) (f : Fld) (i n : Nat) : (s.bump f i n).mem = s.mem := by rfl
@[simp] theorem State.bump_held (s : State) (f : Fld) (i n : Nat) : (s.bump f i n).held = s.held := by rfl
@[simp] theorem State.bump_flight (s : State) (f : Fld) (i n : Nat) : (s.bump f i n).flight = s.flight := by rfl
@[simp] theorem State.bump_binding (s : State) (f : Fld) (i n : Nat) : (s.bump f i n).binding = s.binding := by rfl
@[simp] theorem State.bump_launchStep (s : State) (f : Fld) (i n : Nat) : (s.bump f i n).launchStep = s.launchStep := by rfl
@[simp] theorem State.bump_factorT (s : State) (f : Fld) (i n : Nat) : (s.bump f i n).factorT = s.factorT := by rfl
@[simp] theorem State.bump_factorP (s : State) (f : Fld) (i n : Nat) : (s.bump f i n).factorP = s.factorP := by rfl
@[simp] theorem State.bump_ramp (s : State) (f : Fld) (i n : Nat) : (s.bump f i n).ramp = s.ramp := by rfl
@[simp] theorem State.bump_imageBudget (s : State) (f : Fld) (i n : Nat) : (s.bump f i n).imageBudget = s.imageBudget := by rfl
@[simp] theorem State.bump_imageObject (s : State) (f : Fld) (i n : Nat) : (s.bump f i n).imageObject = s.imageObject := by rfl
@[simp] theorem State.bump_saves (s : State) (f : Fld) (i n : Nat) : (s.bump f i n).saves = s.saves := by rfl
@[simp] theorem State.bump_evaluating (s : State) (f : Fld) (i n : Nat) : (s.bump f i n).evaluating = s.evaluating := by rfl
@[simp] theorem State.bump_commitBarred (s : State) (f : Fld) (i n : Nat) : (s.bump f i n).commitBarred = s.commitBarred := by rfl
@[simp] theorem State.bump_loopbacks (s : State) (f : Fld) (i n : Nat) : (s.bump f i n).loopbacks = s.loopbacks := by rfl
@[simp] theorem State.bump_mail (s : State) (f : Fld) (i n : Nat) : (s.bump f i n).mail = s.mail := by rfl
@[simp] theorem State.bump_jwBusy (s : State) (f : Fld) (i n : Nat) : (s.bump f i n).jwBusy = s.jwBusy := by rfl
@[simp] theorem State.bump_jwTag (s : State) (f : Fld) (i n : Nat) : (s.bump f i n).jwTag = s.jwTag := by rfl
@[simp] theorem State.bump_jwHeld (s : State) (f : Fld) (i n : Nat) : (s.bump f i n).jwHeld = s.jwHeld := by rfl
@[simp] theorem State.bump_mailOrder (s : State) (f : Fld) (i n : Nat) : (s.bump f i n).mailOrder = s.mailOrder := by rfl
@[simp] theorem State.bump_cmdOrder (s : State) (f : Fld) (i n : Nat) : (s.bump f i n).cmdOrder = s.cmdOrder := by rfl
@[simp] theorem State.bump_tokenMoves (s : State) (f : Fld) (i n : Nat) : (s.bump f i n).tokenMoves = s.tokenMoves := by rfl
@[simp] theorem State.bump_admitted (s : State) (f : Fld) (i n : Nat) : (s.bump f i n).admitted = s.admitted := by rfl
@[simp] theorem State.bump_fenced (s : State) (f : Fld) (i n : Nat) : (s.bump f i n).fenced = s.fenced := by rfl
@[simp] theorem State.bump_fenceDue (s : State) (f : Fld) (i n : Nat) : (s.bump f i n).fenceDue = s.fenceDue := by rfl
@[simp] theorem State.bump_piers (s : State) (f : Fld) (i n : Nat) : (s.bump f i n).piers = s.piers := by rfl
@[simp] theorem State.bump_archs (s : State) (f : Fld) (i n : Nat) : (s.bump f i n).archs = s.archs := by rfl
@[simp] theorem State.bump_spandrel (s : State) (f : Fld) (i n : Nat) : (s.bump f i n).spandrel = s.spandrel := by rfl
@[simp] theorem State.bump_regions (s : State) (f : Fld) (i n : Nat) : (s.bump f i n).regions = s.regions := by rfl
@[simp] theorem State.bump_deckFlips (s : State) (f : Fld) (i n : Nat) : (s.bump f i n).deckFlips = s.deckFlips := by rfl
@[simp] theorem State.bump_slots (s : State) (f : Fld) (i n : Nat) : (s.bump f i n).slots = s.slots := by rfl
@[simp] theorem State.bump_gangs (s : State) (f : Fld) (i n : Nat) : (s.bump f i n).gangs = s.gangs := by rfl
@[simp] theorem State.bump_refetches (s : State) (f : Fld) (i n : Nat) : (s.bump f i n).refetches = s.refetches := by rfl
@[simp] theorem State.bump_watch (s : State) (f : Fld) (i n : Nat) : (s.bump f i n).watch = s.watch := by rfl
@[simp] theorem State.bump_staleNotices (s : State) (f : Fld) (i n : Nat) : (s.bump f i n).staleNotices = s.staleNotices := by rfl
@[simp] theorem State.bump_openWrites (s : State) (f : Fld) (i n : Nat) : (s.bump f i n).openWrites = s.openWrites := by rfl
@[simp] theorem State.bump_gates (s : State) (f : Fld) (i n : Nat) : (s.bump f i n).gates = s.gates := by rfl
@[simp] theorem State.bump_stored (s : State) (f : Fld) (i n : Nat) : (s.bump f i n).stored = s.stored := by rfl
@[simp] theorem State.bump_tags (s : State) (f : Fld) (i n : Nat) : (s.bump f i n).tags = s.tags := by rfl
@[simp] theorem State.bump_lastGang (s : State) (f : Fld) (i n : Nat) : (s.bump f i n).lastGang = s.lastGang := by rfl
@[simp] theorem State.bump_objects (s : State) (f : Fld) (i n : Nat) : (s.bump f i n).objects = s.objects := by rfl
@[simp] theorem State.bump_homes (s : State) (f : Fld) (i n : Nat) : (s.bump f i n).homes = s.homes := by rfl
@[simp] theorem State.bump_windows (s : State) (f : Fld) (i n : Nat) : (s.bump f i n).windows = s.windows := by rfl
@[simp] theorem State.bump_startEpoch (s : State) (f : Fld) (i n : Nat) : (s.bump f i n).startEpoch = s.startEpoch := by rfl
@[simp] theorem State.bump_poolCfg (s : State) (f : Fld) (i n : Nat) : (s.bump f i n).poolCfg = s.poolCfg := by rfl
@[simp] theorem State.bump_moves (s : State) (f : Fld) (i n : Nat) : (s.bump f i n).moves = s.moves := by rfl
@[simp] theorem State.bump_bringUps (s : State) (f : Fld) (i n : Nat) : (s.bump f i n).bringUps = s.bringUps := by rfl
@[simp] theorem State.bump_runs (s : State) (f : Fld) (i n : Nat) : (s.bump f i n).runs = s.runs := by rfl
@[simp] theorem State.bump_parapets (s : State) (f : Fld) (i n : Nat) : (s.bump f i n).parapets = s.parapets := by rfl
@[simp] theorem State.bump_links (s : State) (f : Fld) (i n : Nat) : (s.bump f i n).links = s.links := by rfl
@[simp] theorem State.bump_cuts (s : State) (f : Fld) (i n : Nat) : (s.bump f i n).cuts = s.cuts := by rfl
@[simp] theorem State.bump_ringTiles (s : State) (f : Fld) (i n : Nat) : (s.bump f i n).ringTiles = s.ringTiles := by rfl
@[simp] theorem State.bump_selfMsgs (s : State) (f : Fld) (i n : Nat) : (s.bump f i n).selfMsgs = s.selfMsgs := by rfl
@[simp] theorem State.bump_nextRemote (s : State) (f : Fld) (i n : Nat) : (s.bump f i n).nextRemote = s.nextRemote := by rfl
@[simp] theorem State.bump_remotes (s : State) (f : Fld) (i n : Nat) : (s.bump f i n).remotes = s.remotes := by rfl
@[simp] theorem State.bump_windowWaits (s : State) (f : Fld) (i n : Nat) : (s.bump f i n).windowWaits = s.windowWaits := by rfl
@[simp] theorem State.bump_mirrorLog (s : State) (f : Fld) (i n : Nat) : (s.bump f i n).mirrorLog = s.mirrorLog := by rfl
@[simp] theorem State.bump_rejoinSender (s : State) (f : Fld) (i n : Nat) : (s.bump f i n).rejoinSender = s.rejoinSender := by rfl
@[simp] theorem State.bump_promoted (s : State) (f : Fld) (i n : Nat) : (s.bump f i n).promoted = s.promoted := by rfl
@[simp] theorem State.bump_mirrorWaits (s : State) (f : Fld) (i n : Nat) : (s.bump f i n).mirrorWaits = s.mirrorWaits := by rfl
@[simp] theorem State.bump_ring (s : State) (f : Fld) (i n : Nat) : (s.bump f i n).ring = s.ring := by rfl
@[simp] theorem State.bump_notices (s : State) (f : Fld) (i n : Nat) : (s.bump f i n).notices = s.notices := by rfl
@[simp] theorem State.bump_taken (s : State) (f : Fld) (i n : Nat) : (s.bump f i n).taken = s.taken := by rfl
@[simp] theorem State.bump_journalWrites (s : State) (f : Fld) (i n : Nat) : (s.bump f i n).journalWrites = s.journalWrites := by rfl
@[simp] theorem State.bump_journal (s : State) (f : Fld) (i n : Nat) : (s.bump f i n).journal = s.journal := by rfl
@[simp] theorem State.bump_phase (s : State) (f : Fld) (i n : Nat) : (s.bump f i n).phase = s.phase := by rfl
@[simp] theorem State.bump_failed (s : State) (f : Fld) (i n : Nat) : (s.bump f i n).failed = s.failed := by rfl
@[simp] theorem State.bump_deckMap (s : State) (f : Fld) (i n : Nat) : (s.bump f i n).deckMap = s.deckMap := by rfl
@[simp] theorem State.bump_pairing (s : State) (f : Fld) (i n : Nat) : (s.bump f i n).pairing = s.pairing := by rfl
@[simp] theorem State.bump_journalOff (s : State) (f : Fld) (i n : Nat) : (s.bump f i n).journalOff = s.journalOff := by rfl
@[simp] theorem State.bump_launchedOnce (s : State) (f : Fld) (i n : Nat) : (s.bump f i n).launchedOnce = s.launchedOnce := by rfl
@[simp] theorem State.bump_queue (s : State) (f : Fld) (i n : Nat) : (s.bump f i n).queue = s.queue := by rfl
@[simp] theorem State.bump_posted (s : State) (f : Fld) (i n : Nat) : (s.bump f i n).posted = s.posted := by rfl
@[simp] theorem State.bump_bootWait (s : State) (f : Fld) (i n : Nat) : (s.bump f i n).bootWait = s.bootWait := by rfl
@[simp] theorem State.bump_recordOut (s : State) (f : Fld) (i n : Nat) : (s.bump f i n).recordOut = s.recordOut := by rfl
@[simp] theorem State.bump_lostRecords (s : State) (f : Fld) (i n : Nat) : (s.bump f i n).lostRecords = s.lostRecords := by rfl
@[simp] theorem State.bump_junction (s : State) (f : Fld) (i n : Nat) : (s.bump f i n).junction = s.junction := by rfl
@[simp] theorem State.bump_coolReads (s : State) (f : Fld) (i n : Nat) : (s.bump f i n).coolReads = s.coolReads := by rfl
@[simp] theorem State.bump_hotTemps (s : State) (f : Fld) (i n : Nat) : (s.bump f i n).hotTemps = s.hotTemps := by rfl
@[simp] theorem State.bump_coolTemps (s : State) (f : Fld) (i n : Nat) : (s.bump f i n).coolTemps = s.coolTemps := by rfl
@[simp] theorem State.bump_coolWindows (s : State) (f : Fld) (i n : Nat) : (s.bump f i n).coolWindows = s.coolWindows := by rfl
@[simp] theorem State.bump_measureWanted (s : State) (f : Fld) (i n : Nat) : (s.bump f i n).measureWanted = s.measureWanted := by rfl
@[simp] theorem State.bump_tests (s : State) (f : Fld) (i n : Nat) : (s.bump f i n).tests = s.tests := by rfl
@[simp] theorem State.bump_bist (s : State) (f : Fld) (i n : Nat) : (s.bump f i n).bist = s.bist := by rfl
@[simp] theorem State.bump_parked (s : State) (f : Fld) (i n : Nat) : (s.bump f i n).parked = s.parked := by rfl
@[simp] theorem State.bump_wakeWanted (s : State) (f : Fld) (i n : Nat) : (s.bump f i n).wakeWanted = s.wakeWanted := by rfl
@[simp] theorem State.bump_openGates (s : State) (f : Fld) (i n : Nat) : (s.bump f i n).openGates = s.openGates := by rfl
@[simp] theorem State.bump_braceAt (s : State) (f : Fld) (i n : Nat) : (s.bump f i n).braceAt = s.braceAt := by rfl
@[simp] theorem State.bump_recovering (s : State) (f : Fld) (i n : Nat) : (s.bump f i n).recovering = s.recovering := by rfl
@[simp] theorem State.bump_nor (s : State) (f : Fld) (i n : Nat) : (s.bump f i n).nor = s.nor := by rfl
@[simp] theorem State.bump_running (s : State) (f : Fld) (i n : Nat) : (s.bump f i n).running = s.running := by rfl
@[simp] theorem State.bump_noPorts (s : State) (f : Fld) (i n : Nat) : (s.bump f i n).noPorts = s.noPorts := by rfl
@[simp] theorem State.bump_firmwareKeys (s : State) (f : Fld) (i n : Nat) : (s.bump f i n).firmwareKeys = s.firmwareKeys := by rfl
@[simp] theorem State.bump_programKeys (s : State) (f : Fld) (i n : Nat) : (s.bump f i n).programKeys = s.programKeys := by rfl
@[simp] theorem State.bump_passwords (s : State) (f : Fld) (i n : Nat) : (s.bump f i n).passwords = s.passwords := by rfl
@[simp] theorem State.bump_debugKeys (s : State) (f : Fld) (i n : Nat) : (s.bump f i n).debugKeys = s.debugKeys := by rfl
@[simp] theorem State.bump_challenge (s : State) (f : Fld) (i n : Nat) : (s.bump f i n).challenge = s.challenge := by rfl
@[simp] theorem State.bump_authFails (s : State) (f : Fld) (i n : Nat) : (s.bump f i n).authFails = s.authFails := by rfl
@[simp] theorem State.bump_authBarred (s : State) (f : Fld) (i n : Nat) : (s.bump f i n).authBarred = s.authBarred := by rfl
@[simp] theorem State.bump_opened (s : State) (f : Fld) (i n : Nat) : (s.bump f i n).opened = s.opened := by rfl
@[simp] theorem State.bump_probes (s : State) (f : Fld) (i n : Nat) : (s.bump f i n).probes = s.probes := by rfl
@[simp] theorem State.bump_hostWaits (s : State) (f : Fld) (i n : Nat) : (s.bump f i n).hostWaits = s.hostWaits := by rfl
@[simp] theorem State.bump_routerFails (s : State) (f : Fld) (i n : Nat) : (s.bump f i n).routerFails = s.routerFails := by rfl
@[simp] theorem State.bump_sbAddress (s : State) (f : Fld) (i n : Nat) : (s.bump f i n).sbAddress = s.sbAddress := by rfl
@[simp] theorem State.bump_flaws (s : State) (f : Fld) (i n : Nat) : (s.bump f i n).flaws = s.flaws := by rfl
@[simp] theorem State.bump_madeImages (s : State) (f : Fld) (i n : Nat) : (s.bump f i n).madeImages = s.madeImages := by rfl
@[simp] theorem State.bump_bootRecords (s : State) (f : Fld) (i n : Nat) : (s.bump f i n).bootRecords = s.bootRecords := by rfl
@[simp] theorem State.bump_deltas (s : State) (f : Fld) (i n : Nat) : (s.bump f i n).deltas = s.deltas := by rfl
@[simp] theorem State.bump_refLost (s : State) (f : Fld) (i n : Nat) : (s.bump f i n).refLost = s.refLost := by rfl
@[simp] theorem State.bump_unnumbered (s : State) (f : Fld) (i n : Nat) : (s.bump f i n).unnumbered = s.unnumbered := by rfl
@[simp] theorem State.bump_retired (s : State) (f : Fld) (i n : Nat) : (s.bump f i n).retired = s.retired := by rfl
@[simp] theorem State.bump_jwAsleep (s : State) (f : Fld) (i n : Nat) : (s.bump f i n).jwAsleep = s.jwAsleep := by rfl
@[simp] theorem State.bump_warmReset (s : State) (f : Fld) (i n : Nat) : (s.bump f i n).warmReset = s.warmReset := by rfl
@[simp] theorem State.bump_straps (s : State) (f : Fld) (i n : Nat) : (s.bump f i n).straps = s.straps := by rfl

@[simp] theorem State.wrapAdd_pending (s : State) (f : Fld) (i n : Nat) : (s.wrapAdd f i n).pending = s.pending := by rfl
@[simp] theorem State.wrapAdd_outbox (s : State) (f : Fld) (i n : Nat) : (s.wrapAdd f i n).outbox = s.outbox := by rfl
@[simp] theorem State.wrapAdd_freeCtr (s : State) (f : Fld) (i n : Nat) : (s.wrapAdd f i n).freeCtr = s.freeCtr := by rfl
@[simp] theorem State.wrapAdd_mem (s : State) (f : Fld) (i n : Nat) : (s.wrapAdd f i n).mem = s.mem := by rfl
@[simp] theorem State.wrapAdd_held (s : State) (f : Fld) (i n : Nat) : (s.wrapAdd f i n).held = s.held := by rfl
@[simp] theorem State.wrapAdd_flight (s : State) (f : Fld) (i n : Nat) : (s.wrapAdd f i n).flight = s.flight := by rfl
@[simp] theorem State.wrapAdd_binding (s : State) (f : Fld) (i n : Nat) : (s.wrapAdd f i n).binding = s.binding := by rfl
@[simp] theorem State.wrapAdd_launchStep (s : State) (f : Fld) (i n : Nat) : (s.wrapAdd f i n).launchStep = s.launchStep := by rfl
@[simp] theorem State.wrapAdd_factorT (s : State) (f : Fld) (i n : Nat) : (s.wrapAdd f i n).factorT = s.factorT := by rfl
@[simp] theorem State.wrapAdd_factorP (s : State) (f : Fld) (i n : Nat) : (s.wrapAdd f i n).factorP = s.factorP := by rfl
@[simp] theorem State.wrapAdd_ramp (s : State) (f : Fld) (i n : Nat) : (s.wrapAdd f i n).ramp = s.ramp := by rfl
@[simp] theorem State.wrapAdd_imageBudget (s : State) (f : Fld) (i n : Nat) : (s.wrapAdd f i n).imageBudget = s.imageBudget := by rfl
@[simp] theorem State.wrapAdd_imageObject (s : State) (f : Fld) (i n : Nat) : (s.wrapAdd f i n).imageObject = s.imageObject := by rfl
@[simp] theorem State.wrapAdd_saves (s : State) (f : Fld) (i n : Nat) : (s.wrapAdd f i n).saves = s.saves := by rfl
@[simp] theorem State.wrapAdd_evaluating (s : State) (f : Fld) (i n : Nat) : (s.wrapAdd f i n).evaluating = s.evaluating := by rfl
@[simp] theorem State.wrapAdd_commitBarred (s : State) (f : Fld) (i n : Nat) : (s.wrapAdd f i n).commitBarred = s.commitBarred := by rfl
@[simp] theorem State.wrapAdd_loopbacks (s : State) (f : Fld) (i n : Nat) : (s.wrapAdd f i n).loopbacks = s.loopbacks := by rfl
@[simp] theorem State.wrapAdd_mail (s : State) (f : Fld) (i n : Nat) : (s.wrapAdd f i n).mail = s.mail := by rfl
@[simp] theorem State.wrapAdd_jwBusy (s : State) (f : Fld) (i n : Nat) : (s.wrapAdd f i n).jwBusy = s.jwBusy := by rfl
@[simp] theorem State.wrapAdd_jwTag (s : State) (f : Fld) (i n : Nat) : (s.wrapAdd f i n).jwTag = s.jwTag := by rfl
@[simp] theorem State.wrapAdd_jwHeld (s : State) (f : Fld) (i n : Nat) : (s.wrapAdd f i n).jwHeld = s.jwHeld := by rfl
@[simp] theorem State.wrapAdd_mailOrder (s : State) (f : Fld) (i n : Nat) : (s.wrapAdd f i n).mailOrder = s.mailOrder := by rfl
@[simp] theorem State.wrapAdd_cmdOrder (s : State) (f : Fld) (i n : Nat) : (s.wrapAdd f i n).cmdOrder = s.cmdOrder := by rfl
@[simp] theorem State.wrapAdd_tokenMoves (s : State) (f : Fld) (i n : Nat) : (s.wrapAdd f i n).tokenMoves = s.tokenMoves := by rfl
@[simp] theorem State.wrapAdd_admitted (s : State) (f : Fld) (i n : Nat) : (s.wrapAdd f i n).admitted = s.admitted := by rfl
@[simp] theorem State.wrapAdd_fenced (s : State) (f : Fld) (i n : Nat) : (s.wrapAdd f i n).fenced = s.fenced := by rfl
@[simp] theorem State.wrapAdd_fenceDue (s : State) (f : Fld) (i n : Nat) : (s.wrapAdd f i n).fenceDue = s.fenceDue := by rfl
@[simp] theorem State.wrapAdd_piers (s : State) (f : Fld) (i n : Nat) : (s.wrapAdd f i n).piers = s.piers := by rfl
@[simp] theorem State.wrapAdd_archs (s : State) (f : Fld) (i n : Nat) : (s.wrapAdd f i n).archs = s.archs := by rfl
@[simp] theorem State.wrapAdd_spandrel (s : State) (f : Fld) (i n : Nat) : (s.wrapAdd f i n).spandrel = s.spandrel := by rfl
@[simp] theorem State.wrapAdd_regions (s : State) (f : Fld) (i n : Nat) : (s.wrapAdd f i n).regions = s.regions := by rfl
@[simp] theorem State.wrapAdd_deckFlips (s : State) (f : Fld) (i n : Nat) : (s.wrapAdd f i n).deckFlips = s.deckFlips := by rfl
@[simp] theorem State.wrapAdd_slots (s : State) (f : Fld) (i n : Nat) : (s.wrapAdd f i n).slots = s.slots := by rfl
@[simp] theorem State.wrapAdd_gangs (s : State) (f : Fld) (i n : Nat) : (s.wrapAdd f i n).gangs = s.gangs := by rfl
@[simp] theorem State.wrapAdd_refetches (s : State) (f : Fld) (i n : Nat) : (s.wrapAdd f i n).refetches = s.refetches := by rfl
@[simp] theorem State.wrapAdd_watch (s : State) (f : Fld) (i n : Nat) : (s.wrapAdd f i n).watch = s.watch := by rfl
@[simp] theorem State.wrapAdd_staleNotices (s : State) (f : Fld) (i n : Nat) : (s.wrapAdd f i n).staleNotices = s.staleNotices := by rfl
@[simp] theorem State.wrapAdd_openWrites (s : State) (f : Fld) (i n : Nat) : (s.wrapAdd f i n).openWrites = s.openWrites := by rfl
@[simp] theorem State.wrapAdd_gates (s : State) (f : Fld) (i n : Nat) : (s.wrapAdd f i n).gates = s.gates := by rfl
@[simp] theorem State.wrapAdd_stored (s : State) (f : Fld) (i n : Nat) : (s.wrapAdd f i n).stored = s.stored := by rfl
@[simp] theorem State.wrapAdd_tags (s : State) (f : Fld) (i n : Nat) : (s.wrapAdd f i n).tags = s.tags := by rfl
@[simp] theorem State.wrapAdd_lastGang (s : State) (f : Fld) (i n : Nat) : (s.wrapAdd f i n).lastGang = s.lastGang := by rfl
@[simp] theorem State.wrapAdd_objects (s : State) (f : Fld) (i n : Nat) : (s.wrapAdd f i n).objects = s.objects := by rfl
@[simp] theorem State.wrapAdd_homes (s : State) (f : Fld) (i n : Nat) : (s.wrapAdd f i n).homes = s.homes := by rfl
@[simp] theorem State.wrapAdd_windows (s : State) (f : Fld) (i n : Nat) : (s.wrapAdd f i n).windows = s.windows := by rfl
@[simp] theorem State.wrapAdd_startEpoch (s : State) (f : Fld) (i n : Nat) : (s.wrapAdd f i n).startEpoch = s.startEpoch := by rfl
@[simp] theorem State.wrapAdd_poolCfg (s : State) (f : Fld) (i n : Nat) : (s.wrapAdd f i n).poolCfg = s.poolCfg := by rfl
@[simp] theorem State.wrapAdd_moves (s : State) (f : Fld) (i n : Nat) : (s.wrapAdd f i n).moves = s.moves := by rfl
@[simp] theorem State.wrapAdd_bringUps (s : State) (f : Fld) (i n : Nat) : (s.wrapAdd f i n).bringUps = s.bringUps := by rfl
@[simp] theorem State.wrapAdd_runs (s : State) (f : Fld) (i n : Nat) : (s.wrapAdd f i n).runs = s.runs := by rfl
@[simp] theorem State.wrapAdd_parapets (s : State) (f : Fld) (i n : Nat) : (s.wrapAdd f i n).parapets = s.parapets := by rfl
@[simp] theorem State.wrapAdd_links (s : State) (f : Fld) (i n : Nat) : (s.wrapAdd f i n).links = s.links := by rfl
@[simp] theorem State.wrapAdd_cuts (s : State) (f : Fld) (i n : Nat) : (s.wrapAdd f i n).cuts = s.cuts := by rfl
@[simp] theorem State.wrapAdd_ringTiles (s : State) (f : Fld) (i n : Nat) : (s.wrapAdd f i n).ringTiles = s.ringTiles := by rfl
@[simp] theorem State.wrapAdd_selfMsgs (s : State) (f : Fld) (i n : Nat) : (s.wrapAdd f i n).selfMsgs = s.selfMsgs := by rfl
@[simp] theorem State.wrapAdd_nextRemote (s : State) (f : Fld) (i n : Nat) : (s.wrapAdd f i n).nextRemote = s.nextRemote := by rfl
@[simp] theorem State.wrapAdd_remotes (s : State) (f : Fld) (i n : Nat) : (s.wrapAdd f i n).remotes = s.remotes := by rfl
@[simp] theorem State.wrapAdd_windowWaits (s : State) (f : Fld) (i n : Nat) : (s.wrapAdd f i n).windowWaits = s.windowWaits := by rfl
@[simp] theorem State.wrapAdd_mirrorLog (s : State) (f : Fld) (i n : Nat) : (s.wrapAdd f i n).mirrorLog = s.mirrorLog := by rfl
@[simp] theorem State.wrapAdd_rejoinSender (s : State) (f : Fld) (i n : Nat) : (s.wrapAdd f i n).rejoinSender = s.rejoinSender := by rfl
@[simp] theorem State.wrapAdd_promoted (s : State) (f : Fld) (i n : Nat) : (s.wrapAdd f i n).promoted = s.promoted := by rfl
@[simp] theorem State.wrapAdd_mirrorWaits (s : State) (f : Fld) (i n : Nat) : (s.wrapAdd f i n).mirrorWaits = s.mirrorWaits := by rfl
@[simp] theorem State.wrapAdd_ring (s : State) (f : Fld) (i n : Nat) : (s.wrapAdd f i n).ring = s.ring := by rfl
@[simp] theorem State.wrapAdd_notices (s : State) (f : Fld) (i n : Nat) : (s.wrapAdd f i n).notices = s.notices := by rfl
@[simp] theorem State.wrapAdd_taken (s : State) (f : Fld) (i n : Nat) : (s.wrapAdd f i n).taken = s.taken := by rfl
@[simp] theorem State.wrapAdd_journalWrites (s : State) (f : Fld) (i n : Nat) : (s.wrapAdd f i n).journalWrites = s.journalWrites := by rfl
@[simp] theorem State.wrapAdd_journal (s : State) (f : Fld) (i n : Nat) : (s.wrapAdd f i n).journal = s.journal := by rfl
@[simp] theorem State.wrapAdd_phase (s : State) (f : Fld) (i n : Nat) : (s.wrapAdd f i n).phase = s.phase := by rfl
@[simp] theorem State.wrapAdd_failed (s : State) (f : Fld) (i n : Nat) : (s.wrapAdd f i n).failed = s.failed := by rfl
@[simp] theorem State.wrapAdd_deckMap (s : State) (f : Fld) (i n : Nat) : (s.wrapAdd f i n).deckMap = s.deckMap := by rfl
@[simp] theorem State.wrapAdd_pairing (s : State) (f : Fld) (i n : Nat) : (s.wrapAdd f i n).pairing = s.pairing := by rfl
@[simp] theorem State.wrapAdd_journalOff (s : State) (f : Fld) (i n : Nat) : (s.wrapAdd f i n).journalOff = s.journalOff := by rfl
@[simp] theorem State.wrapAdd_launchedOnce (s : State) (f : Fld) (i n : Nat) : (s.wrapAdd f i n).launchedOnce = s.launchedOnce := by rfl
@[simp] theorem State.wrapAdd_queue (s : State) (f : Fld) (i n : Nat) : (s.wrapAdd f i n).queue = s.queue := by rfl
@[simp] theorem State.wrapAdd_posted (s : State) (f : Fld) (i n : Nat) : (s.wrapAdd f i n).posted = s.posted := by rfl
@[simp] theorem State.wrapAdd_bootWait (s : State) (f : Fld) (i n : Nat) : (s.wrapAdd f i n).bootWait = s.bootWait := by rfl
@[simp] theorem State.wrapAdd_recordOut (s : State) (f : Fld) (i n : Nat) : (s.wrapAdd f i n).recordOut = s.recordOut := by rfl
@[simp] theorem State.wrapAdd_lostRecords (s : State) (f : Fld) (i n : Nat) : (s.wrapAdd f i n).lostRecords = s.lostRecords := by rfl
@[simp] theorem State.wrapAdd_junction (s : State) (f : Fld) (i n : Nat) : (s.wrapAdd f i n).junction = s.junction := by rfl
@[simp] theorem State.wrapAdd_coolReads (s : State) (f : Fld) (i n : Nat) : (s.wrapAdd f i n).coolReads = s.coolReads := by rfl
@[simp] theorem State.wrapAdd_hotTemps (s : State) (f : Fld) (i n : Nat) : (s.wrapAdd f i n).hotTemps = s.hotTemps := by rfl
@[simp] theorem State.wrapAdd_coolTemps (s : State) (f : Fld) (i n : Nat) : (s.wrapAdd f i n).coolTemps = s.coolTemps := by rfl
@[simp] theorem State.wrapAdd_coolWindows (s : State) (f : Fld) (i n : Nat) : (s.wrapAdd f i n).coolWindows = s.coolWindows := by rfl
@[simp] theorem State.wrapAdd_measureWanted (s : State) (f : Fld) (i n : Nat) : (s.wrapAdd f i n).measureWanted = s.measureWanted := by rfl
@[simp] theorem State.wrapAdd_tests (s : State) (f : Fld) (i n : Nat) : (s.wrapAdd f i n).tests = s.tests := by rfl
@[simp] theorem State.wrapAdd_bist (s : State) (f : Fld) (i n : Nat) : (s.wrapAdd f i n).bist = s.bist := by rfl
@[simp] theorem State.wrapAdd_parked (s : State) (f : Fld) (i n : Nat) : (s.wrapAdd f i n).parked = s.parked := by rfl
@[simp] theorem State.wrapAdd_wakeWanted (s : State) (f : Fld) (i n : Nat) : (s.wrapAdd f i n).wakeWanted = s.wakeWanted := by rfl
@[simp] theorem State.wrapAdd_openGates (s : State) (f : Fld) (i n : Nat) : (s.wrapAdd f i n).openGates = s.openGates := by rfl
@[simp] theorem State.wrapAdd_braceAt (s : State) (f : Fld) (i n : Nat) : (s.wrapAdd f i n).braceAt = s.braceAt := by rfl
@[simp] theorem State.wrapAdd_recovering (s : State) (f : Fld) (i n : Nat) : (s.wrapAdd f i n).recovering = s.recovering := by rfl
@[simp] theorem State.wrapAdd_nor (s : State) (f : Fld) (i n : Nat) : (s.wrapAdd f i n).nor = s.nor := by rfl
@[simp] theorem State.wrapAdd_running (s : State) (f : Fld) (i n : Nat) : (s.wrapAdd f i n).running = s.running := by rfl
@[simp] theorem State.wrapAdd_noPorts (s : State) (f : Fld) (i n : Nat) : (s.wrapAdd f i n).noPorts = s.noPorts := by rfl
@[simp] theorem State.wrapAdd_firmwareKeys (s : State) (f : Fld) (i n : Nat) : (s.wrapAdd f i n).firmwareKeys = s.firmwareKeys := by rfl
@[simp] theorem State.wrapAdd_programKeys (s : State) (f : Fld) (i n : Nat) : (s.wrapAdd f i n).programKeys = s.programKeys := by rfl
@[simp] theorem State.wrapAdd_passwords (s : State) (f : Fld) (i n : Nat) : (s.wrapAdd f i n).passwords = s.passwords := by rfl
@[simp] theorem State.wrapAdd_debugKeys (s : State) (f : Fld) (i n : Nat) : (s.wrapAdd f i n).debugKeys = s.debugKeys := by rfl
@[simp] theorem State.wrapAdd_challenge (s : State) (f : Fld) (i n : Nat) : (s.wrapAdd f i n).challenge = s.challenge := by rfl
@[simp] theorem State.wrapAdd_authFails (s : State) (f : Fld) (i n : Nat) : (s.wrapAdd f i n).authFails = s.authFails := by rfl
@[simp] theorem State.wrapAdd_authBarred (s : State) (f : Fld) (i n : Nat) : (s.wrapAdd f i n).authBarred = s.authBarred := by rfl
@[simp] theorem State.wrapAdd_opened (s : State) (f : Fld) (i n : Nat) : (s.wrapAdd f i n).opened = s.opened := by rfl
@[simp] theorem State.wrapAdd_probes (s : State) (f : Fld) (i n : Nat) : (s.wrapAdd f i n).probes = s.probes := by rfl
@[simp] theorem State.wrapAdd_hostWaits (s : State) (f : Fld) (i n : Nat) : (s.wrapAdd f i n).hostWaits = s.hostWaits := by rfl
@[simp] theorem State.wrapAdd_routerFails (s : State) (f : Fld) (i n : Nat) : (s.wrapAdd f i n).routerFails = s.routerFails := by rfl
@[simp] theorem State.wrapAdd_sbAddress (s : State) (f : Fld) (i n : Nat) : (s.wrapAdd f i n).sbAddress = s.sbAddress := by rfl
@[simp] theorem State.wrapAdd_flaws (s : State) (f : Fld) (i n : Nat) : (s.wrapAdd f i n).flaws = s.flaws := by rfl
@[simp] theorem State.wrapAdd_madeImages (s : State) (f : Fld) (i n : Nat) : (s.wrapAdd f i n).madeImages = s.madeImages := by rfl
@[simp] theorem State.wrapAdd_bootRecords (s : State) (f : Fld) (i n : Nat) : (s.wrapAdd f i n).bootRecords = s.bootRecords := by rfl
@[simp] theorem State.wrapAdd_deltas (s : State) (f : Fld) (i n : Nat) : (s.wrapAdd f i n).deltas = s.deltas := by rfl
@[simp] theorem State.wrapAdd_refLost (s : State) (f : Fld) (i n : Nat) : (s.wrapAdd f i n).refLost = s.refLost := by rfl
@[simp] theorem State.wrapAdd_unnumbered (s : State) (f : Fld) (i n : Nat) : (s.wrapAdd f i n).unnumbered = s.unnumbered := by rfl
@[simp] theorem State.wrapAdd_retired (s : State) (f : Fld) (i n : Nat) : (s.wrapAdd f i n).retired = s.retired := by rfl
@[simp] theorem State.wrapAdd_jwAsleep (s : State) (f : Fld) (i n : Nat) : (s.wrapAdd f i n).jwAsleep = s.jwAsleep := by rfl
@[simp] theorem State.wrapAdd_warmReset (s : State) (f : Fld) (i n : Nat) : (s.wrapAdd f i n).warmReset = s.warmReset := by rfl
@[simp] theorem State.wrapAdd_straps (s : State) (f : Fld) (i n : Nat) : (s.wrapAdd f i n).straps = s.straps := by rfl

@[simp] theorem State.writeBytes_pending (s : State) (a : Nat) (bs : List Byte) : (s.writeBytes a bs).pending = s.pending := by rfl
@[simp] theorem State.writeBytes_outbox (s : State) (a : Nat) (bs : List Byte) : (s.writeBytes a bs).outbox = s.outbox := by rfl
@[simp] theorem State.writeBytes_freeCtr (s : State) (a : Nat) (bs : List Byte) : (s.writeBytes a bs).freeCtr = s.freeCtr := by rfl
@[simp] theorem State.writeBytes_regs (s : State) (a : Nat) (bs : List Byte) : (s.writeBytes a bs).regs = s.regs := by rfl
@[simp] theorem State.writeBytes_held (s : State) (a : Nat) (bs : List Byte) : (s.writeBytes a bs).held = s.held := by rfl
@[simp] theorem State.writeBytes_flight (s : State) (a : Nat) (bs : List Byte) : (s.writeBytes a bs).flight = s.flight := by rfl
@[simp] theorem State.writeBytes_binding (s : State) (a : Nat) (bs : List Byte) : (s.writeBytes a bs).binding = s.binding := by rfl
@[simp] theorem State.writeBytes_launchStep (s : State) (a : Nat) (bs : List Byte) : (s.writeBytes a bs).launchStep = s.launchStep := by rfl
@[simp] theorem State.writeBytes_factorT (s : State) (a : Nat) (bs : List Byte) : (s.writeBytes a bs).factorT = s.factorT := by rfl
@[simp] theorem State.writeBytes_factorP (s : State) (a : Nat) (bs : List Byte) : (s.writeBytes a bs).factorP = s.factorP := by rfl
@[simp] theorem State.writeBytes_ramp (s : State) (a : Nat) (bs : List Byte) : (s.writeBytes a bs).ramp = s.ramp := by rfl
@[simp] theorem State.writeBytes_imageBudget (s : State) (a : Nat) (bs : List Byte) : (s.writeBytes a bs).imageBudget = s.imageBudget := by rfl
@[simp] theorem State.writeBytes_imageObject (s : State) (a : Nat) (bs : List Byte) : (s.writeBytes a bs).imageObject = s.imageObject := by rfl
@[simp] theorem State.writeBytes_saves (s : State) (a : Nat) (bs : List Byte) : (s.writeBytes a bs).saves = s.saves := by rfl
@[simp] theorem State.writeBytes_evaluating (s : State) (a : Nat) (bs : List Byte) : (s.writeBytes a bs).evaluating = s.evaluating := by rfl
@[simp] theorem State.writeBytes_commitBarred (s : State) (a : Nat) (bs : List Byte) : (s.writeBytes a bs).commitBarred = s.commitBarred := by rfl
@[simp] theorem State.writeBytes_loopbacks (s : State) (a : Nat) (bs : List Byte) : (s.writeBytes a bs).loopbacks = s.loopbacks := by rfl
@[simp] theorem State.writeBytes_mail (s : State) (a : Nat) (bs : List Byte) : (s.writeBytes a bs).mail = s.mail := by rfl
@[simp] theorem State.writeBytes_jwBusy (s : State) (a : Nat) (bs : List Byte) : (s.writeBytes a bs).jwBusy = s.jwBusy := by rfl
@[simp] theorem State.writeBytes_jwTag (s : State) (a : Nat) (bs : List Byte) : (s.writeBytes a bs).jwTag = s.jwTag := by rfl
@[simp] theorem State.writeBytes_jwHeld (s : State) (a : Nat) (bs : List Byte) : (s.writeBytes a bs).jwHeld = s.jwHeld := by rfl
@[simp] theorem State.writeBytes_mailOrder (s : State) (a : Nat) (bs : List Byte) : (s.writeBytes a bs).mailOrder = s.mailOrder := by rfl
@[simp] theorem State.writeBytes_cmdOrder (s : State) (a : Nat) (bs : List Byte) : (s.writeBytes a bs).cmdOrder = s.cmdOrder := by rfl
@[simp] theorem State.writeBytes_tokenMoves (s : State) (a : Nat) (bs : List Byte) : (s.writeBytes a bs).tokenMoves = s.tokenMoves := by rfl
@[simp] theorem State.writeBytes_admitted (s : State) (a : Nat) (bs : List Byte) : (s.writeBytes a bs).admitted = s.admitted := by rfl
@[simp] theorem State.writeBytes_fenced (s : State) (a : Nat) (bs : List Byte) : (s.writeBytes a bs).fenced = s.fenced := by rfl
@[simp] theorem State.writeBytes_fenceDue (s : State) (a : Nat) (bs : List Byte) : (s.writeBytes a bs).fenceDue = s.fenceDue := by rfl
@[simp] theorem State.writeBytes_piers (s : State) (a : Nat) (bs : List Byte) : (s.writeBytes a bs).piers = s.piers := by rfl
@[simp] theorem State.writeBytes_archs (s : State) (a : Nat) (bs : List Byte) : (s.writeBytes a bs).archs = s.archs := by rfl
@[simp] theorem State.writeBytes_spandrel (s : State) (a : Nat) (bs : List Byte) : (s.writeBytes a bs).spandrel = s.spandrel := by rfl
@[simp] theorem State.writeBytes_regions (s : State) (a : Nat) (bs : List Byte) : (s.writeBytes a bs).regions = s.regions := by rfl
@[simp] theorem State.writeBytes_slots (s : State) (a : Nat) (bs : List Byte) : (s.writeBytes a bs).slots = s.slots := by rfl
@[simp] theorem State.writeBytes_gangs (s : State) (a : Nat) (bs : List Byte) : (s.writeBytes a bs).gangs = s.gangs := by rfl
@[simp] theorem State.writeBytes_refetches (s : State) (a : Nat) (bs : List Byte) : (s.writeBytes a bs).refetches = s.refetches := by rfl
@[simp] theorem State.writeBytes_watch (s : State) (a : Nat) (bs : List Byte) : (s.writeBytes a bs).watch = s.watch := by rfl
@[simp] theorem State.writeBytes_staleNotices (s : State) (a : Nat) (bs : List Byte) : (s.writeBytes a bs).staleNotices = s.staleNotices := by rfl
@[simp] theorem State.writeBytes_openWrites (s : State) (a : Nat) (bs : List Byte) : (s.writeBytes a bs).openWrites = s.openWrites := by rfl
@[simp] theorem State.writeBytes_gates (s : State) (a : Nat) (bs : List Byte) : (s.writeBytes a bs).gates = s.gates := by rfl
@[simp] theorem State.writeBytes_stored (s : State) (a : Nat) (bs : List Byte) : (s.writeBytes a bs).stored = s.stored := by rfl
@[simp] theorem State.writeBytes_tags (s : State) (a : Nat) (bs : List Byte) : (s.writeBytes a bs).tags = s.tags := by rfl
@[simp] theorem State.writeBytes_lastGang (s : State) (a : Nat) (bs : List Byte) : (s.writeBytes a bs).lastGang = s.lastGang := by rfl
@[simp] theorem State.writeBytes_objects (s : State) (a : Nat) (bs : List Byte) : (s.writeBytes a bs).objects = s.objects := by rfl
@[simp] theorem State.writeBytes_homes (s : State) (a : Nat) (bs : List Byte) : (s.writeBytes a bs).homes = s.homes := by rfl
@[simp] theorem State.writeBytes_windows (s : State) (a : Nat) (bs : List Byte) : (s.writeBytes a bs).windows = s.windows := by rfl
@[simp] theorem State.writeBytes_startEpoch (s : State) (a : Nat) (bs : List Byte) : (s.writeBytes a bs).startEpoch = s.startEpoch := by rfl
@[simp] theorem State.writeBytes_poolCfg (s : State) (a : Nat) (bs : List Byte) : (s.writeBytes a bs).poolCfg = s.poolCfg := by rfl
@[simp] theorem State.writeBytes_moves (s : State) (a : Nat) (bs : List Byte) : (s.writeBytes a bs).moves = s.moves := by rfl
@[simp] theorem State.writeBytes_bringUps (s : State) (a : Nat) (bs : List Byte) : (s.writeBytes a bs).bringUps = s.bringUps := by rfl
@[simp] theorem State.writeBytes_runs (s : State) (a : Nat) (bs : List Byte) : (s.writeBytes a bs).runs = s.runs := by rfl
@[simp] theorem State.writeBytes_parapets (s : State) (a : Nat) (bs : List Byte) : (s.writeBytes a bs).parapets = s.parapets := by rfl
@[simp] theorem State.writeBytes_links (s : State) (a : Nat) (bs : List Byte) : (s.writeBytes a bs).links = s.links := by rfl
@[simp] theorem State.writeBytes_cuts (s : State) (a : Nat) (bs : List Byte) : (s.writeBytes a bs).cuts = s.cuts := by rfl
@[simp] theorem State.writeBytes_ringTiles (s : State) (a : Nat) (bs : List Byte) : (s.writeBytes a bs).ringTiles = s.ringTiles := by rfl
@[simp] theorem State.writeBytes_selfMsgs (s : State) (a : Nat) (bs : List Byte) : (s.writeBytes a bs).selfMsgs = s.selfMsgs := by rfl
@[simp] theorem State.writeBytes_nextRemote (s : State) (a : Nat) (bs : List Byte) : (s.writeBytes a bs).nextRemote = s.nextRemote := by rfl
@[simp] theorem State.writeBytes_remotes (s : State) (a : Nat) (bs : List Byte) : (s.writeBytes a bs).remotes = s.remotes := by rfl
@[simp] theorem State.writeBytes_windowWaits (s : State) (a : Nat) (bs : List Byte) : (s.writeBytes a bs).windowWaits = s.windowWaits := by rfl
@[simp] theorem State.writeBytes_mirrorLog (s : State) (a : Nat) (bs : List Byte) : (s.writeBytes a bs).mirrorLog = s.mirrorLog := by rfl
@[simp] theorem State.writeBytes_rejoinSender (s : State) (a : Nat) (bs : List Byte) : (s.writeBytes a bs).rejoinSender = s.rejoinSender := by rfl
@[simp] theorem State.writeBytes_promoted (s : State) (a : Nat) (bs : List Byte) : (s.writeBytes a bs).promoted = s.promoted := by rfl
@[simp] theorem State.writeBytes_mirrorWaits (s : State) (a : Nat) (bs : List Byte) : (s.writeBytes a bs).mirrorWaits = s.mirrorWaits := by rfl
@[simp] theorem State.writeBytes_ring (s : State) (a : Nat) (bs : List Byte) : (s.writeBytes a bs).ring = s.ring := by rfl
@[simp] theorem State.writeBytes_notices (s : State) (a : Nat) (bs : List Byte) : (s.writeBytes a bs).notices = s.notices := by rfl
@[simp] theorem State.writeBytes_taken (s : State) (a : Nat) (bs : List Byte) : (s.writeBytes a bs).taken = s.taken := by rfl
@[simp] theorem State.writeBytes_journalWrites (s : State) (a : Nat) (bs : List Byte) : (s.writeBytes a bs).journalWrites = s.journalWrites := by rfl
@[simp] theorem State.writeBytes_journal (s : State) (a : Nat) (bs : List Byte) : (s.writeBytes a bs).journal = s.journal := by rfl
@[simp] theorem State.writeBytes_phase (s : State) (a : Nat) (bs : List Byte) : (s.writeBytes a bs).phase = s.phase := by rfl
@[simp] theorem State.writeBytes_failed (s : State) (a : Nat) (bs : List Byte) : (s.writeBytes a bs).failed = s.failed := by rfl
@[simp] theorem State.writeBytes_deckMap (s : State) (a : Nat) (bs : List Byte) : (s.writeBytes a bs).deckMap = s.deckMap := by rfl
@[simp] theorem State.writeBytes_pairing (s : State) (a : Nat) (bs : List Byte) : (s.writeBytes a bs).pairing = s.pairing := by rfl
@[simp] theorem State.writeBytes_journalOff (s : State) (a : Nat) (bs : List Byte) : (s.writeBytes a bs).journalOff = s.journalOff := by rfl
@[simp] theorem State.writeBytes_launchedOnce (s : State) (a : Nat) (bs : List Byte) : (s.writeBytes a bs).launchedOnce = s.launchedOnce := by rfl
@[simp] theorem State.writeBytes_queue (s : State) (a : Nat) (bs : List Byte) : (s.writeBytes a bs).queue = s.queue := by rfl
@[simp] theorem State.writeBytes_posted (s : State) (a : Nat) (bs : List Byte) : (s.writeBytes a bs).posted = s.posted := by rfl
@[simp] theorem State.writeBytes_bootWait (s : State) (a : Nat) (bs : List Byte) : (s.writeBytes a bs).bootWait = s.bootWait := by rfl
@[simp] theorem State.writeBytes_recordOut (s : State) (a : Nat) (bs : List Byte) : (s.writeBytes a bs).recordOut = s.recordOut := by rfl
@[simp] theorem State.writeBytes_lostRecords (s : State) (a : Nat) (bs : List Byte) : (s.writeBytes a bs).lostRecords = s.lostRecords := by rfl
@[simp] theorem State.writeBytes_junction (s : State) (a : Nat) (bs : List Byte) : (s.writeBytes a bs).junction = s.junction := by rfl
@[simp] theorem State.writeBytes_coolReads (s : State) (a : Nat) (bs : List Byte) : (s.writeBytes a bs).coolReads = s.coolReads := by rfl
@[simp] theorem State.writeBytes_hotTemps (s : State) (a : Nat) (bs : List Byte) : (s.writeBytes a bs).hotTemps = s.hotTemps := by rfl
@[simp] theorem State.writeBytes_coolTemps (s : State) (a : Nat) (bs : List Byte) : (s.writeBytes a bs).coolTemps = s.coolTemps := by rfl
@[simp] theorem State.writeBytes_coolWindows (s : State) (a : Nat) (bs : List Byte) : (s.writeBytes a bs).coolWindows = s.coolWindows := by rfl
@[simp] theorem State.writeBytes_measureWanted (s : State) (a : Nat) (bs : List Byte) : (s.writeBytes a bs).measureWanted = s.measureWanted := by rfl
@[simp] theorem State.writeBytes_tests (s : State) (a : Nat) (bs : List Byte) : (s.writeBytes a bs).tests = s.tests := by rfl
@[simp] theorem State.writeBytes_bist (s : State) (a : Nat) (bs : List Byte) : (s.writeBytes a bs).bist = s.bist := by rfl
@[simp] theorem State.writeBytes_parked (s : State) (a : Nat) (bs : List Byte) : (s.writeBytes a bs).parked = s.parked := by rfl
@[simp] theorem State.writeBytes_wakeWanted (s : State) (a : Nat) (bs : List Byte) : (s.writeBytes a bs).wakeWanted = s.wakeWanted := by rfl
@[simp] theorem State.writeBytes_openGates (s : State) (a : Nat) (bs : List Byte) : (s.writeBytes a bs).openGates = s.openGates := by rfl
@[simp] theorem State.writeBytes_braceAt (s : State) (a : Nat) (bs : List Byte) : (s.writeBytes a bs).braceAt = s.braceAt := by rfl
@[simp] theorem State.writeBytes_recovering (s : State) (a : Nat) (bs : List Byte) : (s.writeBytes a bs).recovering = s.recovering := by rfl
@[simp] theorem State.writeBytes_nor (s : State) (a : Nat) (bs : List Byte) : (s.writeBytes a bs).nor = s.nor := by rfl
@[simp] theorem State.writeBytes_running (s : State) (a : Nat) (bs : List Byte) : (s.writeBytes a bs).running = s.running := by rfl
@[simp] theorem State.writeBytes_noPorts (s : State) (a : Nat) (bs : List Byte) : (s.writeBytes a bs).noPorts = s.noPorts := by rfl
@[simp] theorem State.writeBytes_firmwareKeys (s : State) (a : Nat) (bs : List Byte) : (s.writeBytes a bs).firmwareKeys = s.firmwareKeys := by rfl
@[simp] theorem State.writeBytes_programKeys (s : State) (a : Nat) (bs : List Byte) : (s.writeBytes a bs).programKeys = s.programKeys := by rfl
@[simp] theorem State.writeBytes_passwords (s : State) (a : Nat) (bs : List Byte) : (s.writeBytes a bs).passwords = s.passwords := by rfl
@[simp] theorem State.writeBytes_debugKeys (s : State) (a : Nat) (bs : List Byte) : (s.writeBytes a bs).debugKeys = s.debugKeys := by rfl
@[simp] theorem State.writeBytes_challenge (s : State) (a : Nat) (bs : List Byte) : (s.writeBytes a bs).challenge = s.challenge := by rfl
@[simp] theorem State.writeBytes_authFails (s : State) (a : Nat) (bs : List Byte) : (s.writeBytes a bs).authFails = s.authFails := by rfl
@[simp] theorem State.writeBytes_authBarred (s : State) (a : Nat) (bs : List Byte) : (s.writeBytes a bs).authBarred = s.authBarred := by rfl
@[simp] theorem State.writeBytes_opened (s : State) (a : Nat) (bs : List Byte) : (s.writeBytes a bs).opened = s.opened := by rfl
@[simp] theorem State.writeBytes_probes (s : State) (a : Nat) (bs : List Byte) : (s.writeBytes a bs).probes = s.probes := by rfl
@[simp] theorem State.writeBytes_hostWaits (s : State) (a : Nat) (bs : List Byte) : (s.writeBytes a bs).hostWaits = s.hostWaits := by rfl
@[simp] theorem State.writeBytes_routerFails (s : State) (a : Nat) (bs : List Byte) : (s.writeBytes a bs).routerFails = s.routerFails := by rfl
@[simp] theorem State.writeBytes_sbAddress (s : State) (a : Nat) (bs : List Byte) : (s.writeBytes a bs).sbAddress = s.sbAddress := by rfl
@[simp] theorem State.writeBytes_flaws (s : State) (a : Nat) (bs : List Byte) : (s.writeBytes a bs).flaws = s.flaws := by rfl
@[simp] theorem State.writeBytes_madeImages (s : State) (a : Nat) (bs : List Byte) : (s.writeBytes a bs).madeImages = s.madeImages := by rfl
@[simp] theorem State.writeBytes_bootRecords (s : State) (a : Nat) (bs : List Byte) : (s.writeBytes a bs).bootRecords = s.bootRecords := by rfl
@[simp] theorem State.writeBytes_deltas (s : State) (a : Nat) (bs : List Byte) : (s.writeBytes a bs).deltas = s.deltas := by rfl
@[simp] theorem State.writeBytes_refLost (s : State) (a : Nat) (bs : List Byte) : (s.writeBytes a bs).refLost = s.refLost := by rfl
@[simp] theorem State.writeBytes_unnumbered (s : State) (a : Nat) (bs : List Byte) : (s.writeBytes a bs).unnumbered = s.unnumbered := by rfl
@[simp] theorem State.writeBytes_retired (s : State) (a : Nat) (bs : List Byte) : (s.writeBytes a bs).retired = s.retired := by rfl
@[simp] theorem State.writeBytes_jwAsleep (s : State) (a : Nat) (bs : List Byte) : (s.writeBytes a bs).jwAsleep = s.jwAsleep := by rfl
@[simp] theorem State.writeBytes_warmReset (s : State) (a : Nat) (bs : List Byte) : (s.writeBytes a bs).warmReset = s.warmReset := by rfl
@[simp] theorem State.writeBytes_straps (s : State) (a : Nat) (bs : List Byte) : (s.writeBytes a bs).straps = s.straps := by rfl

@[simp] theorem State.send_pending (s : State) (m : OutMsg) : (s.send m).pending = s.pending := by rfl
@[simp] theorem State.send_freeCtr (s : State) (m : OutMsg) : (s.send m).freeCtr = s.freeCtr := by rfl
@[simp] theorem State.send_regs (s : State) (m : OutMsg) : (s.send m).regs = s.regs := by rfl
@[simp] theorem State.send_mem (s : State) (m : OutMsg) : (s.send m).mem = s.mem := by rfl
@[simp] theorem State.send_held (s : State) (m : OutMsg) : (s.send m).held = s.held := by rfl
@[simp] theorem State.send_flight (s : State) (m : OutMsg) : (s.send m).flight = s.flight := by rfl
@[simp] theorem State.send_binding (s : State) (m : OutMsg) : (s.send m).binding = s.binding := by rfl
@[simp] theorem State.send_launchStep (s : State) (m : OutMsg) : (s.send m).launchStep = s.launchStep := by rfl
@[simp] theorem State.send_factorT (s : State) (m : OutMsg) : (s.send m).factorT = s.factorT := by rfl
@[simp] theorem State.send_factorP (s : State) (m : OutMsg) : (s.send m).factorP = s.factorP := by rfl
@[simp] theorem State.send_ramp (s : State) (m : OutMsg) : (s.send m).ramp = s.ramp := by rfl
@[simp] theorem State.send_imageBudget (s : State) (m : OutMsg) : (s.send m).imageBudget = s.imageBudget := by rfl
@[simp] theorem State.send_imageObject (s : State) (m : OutMsg) : (s.send m).imageObject = s.imageObject := by rfl
@[simp] theorem State.send_saves (s : State) (m : OutMsg) : (s.send m).saves = s.saves := by rfl
@[simp] theorem State.send_evaluating (s : State) (m : OutMsg) : (s.send m).evaluating = s.evaluating := by rfl
@[simp] theorem State.send_commitBarred (s : State) (m : OutMsg) : (s.send m).commitBarred = s.commitBarred := by rfl
@[simp] theorem State.send_loopbacks (s : State) (m : OutMsg) : (s.send m).loopbacks = s.loopbacks := by rfl
@[simp] theorem State.send_mail (s : State) (m : OutMsg) : (s.send m).mail = s.mail := by rfl
@[simp] theorem State.send_jwBusy (s : State) (m : OutMsg) : (s.send m).jwBusy = s.jwBusy := by rfl
@[simp] theorem State.send_jwTag (s : State) (m : OutMsg) : (s.send m).jwTag = s.jwTag := by rfl
@[simp] theorem State.send_jwHeld (s : State) (m : OutMsg) : (s.send m).jwHeld = s.jwHeld := by rfl
@[simp] theorem State.send_mailOrder (s : State) (m : OutMsg) : (s.send m).mailOrder = s.mailOrder := by rfl
@[simp] theorem State.send_cmdOrder (s : State) (m : OutMsg) : (s.send m).cmdOrder = s.cmdOrder := by rfl
@[simp] theorem State.send_tokenMoves (s : State) (m : OutMsg) : (s.send m).tokenMoves = s.tokenMoves := by rfl
@[simp] theorem State.send_admitted (s : State) (m : OutMsg) : (s.send m).admitted = s.admitted := by rfl
@[simp] theorem State.send_fenced (s : State) (m : OutMsg) : (s.send m).fenced = s.fenced := by rfl
@[simp] theorem State.send_fenceDue (s : State) (m : OutMsg) : (s.send m).fenceDue = s.fenceDue := by rfl
@[simp] theorem State.send_piers (s : State) (m : OutMsg) : (s.send m).piers = s.piers := by rfl
@[simp] theorem State.send_archs (s : State) (m : OutMsg) : (s.send m).archs = s.archs := by rfl
@[simp] theorem State.send_spandrel (s : State) (m : OutMsg) : (s.send m).spandrel = s.spandrel := by rfl
@[simp] theorem State.send_regions (s : State) (m : OutMsg) : (s.send m).regions = s.regions := by rfl
@[simp] theorem State.send_deckFlips (s : State) (m : OutMsg) : (s.send m).deckFlips = s.deckFlips := by rfl
@[simp] theorem State.send_slots (s : State) (m : OutMsg) : (s.send m).slots = s.slots := by rfl
@[simp] theorem State.send_gangs (s : State) (m : OutMsg) : (s.send m).gangs = s.gangs := by rfl
@[simp] theorem State.send_refetches (s : State) (m : OutMsg) : (s.send m).refetches = s.refetches := by rfl
@[simp] theorem State.send_watch (s : State) (m : OutMsg) : (s.send m).watch = s.watch := by rfl
@[simp] theorem State.send_staleNotices (s : State) (m : OutMsg) : (s.send m).staleNotices = s.staleNotices := by rfl
@[simp] theorem State.send_openWrites (s : State) (m : OutMsg) : (s.send m).openWrites = s.openWrites := by rfl
@[simp] theorem State.send_gates (s : State) (m : OutMsg) : (s.send m).gates = s.gates := by rfl
@[simp] theorem State.send_stored (s : State) (m : OutMsg) : (s.send m).stored = s.stored := by rfl
@[simp] theorem State.send_tags (s : State) (m : OutMsg) : (s.send m).tags = s.tags := by rfl
@[simp] theorem State.send_lastGang (s : State) (m : OutMsg) : (s.send m).lastGang = s.lastGang := by rfl
@[simp] theorem State.send_objects (s : State) (m : OutMsg) : (s.send m).objects = s.objects := by rfl
@[simp] theorem State.send_homes (s : State) (m : OutMsg) : (s.send m).homes = s.homes := by rfl
@[simp] theorem State.send_windows (s : State) (m : OutMsg) : (s.send m).windows = s.windows := by rfl
@[simp] theorem State.send_startEpoch (s : State) (m : OutMsg) : (s.send m).startEpoch = s.startEpoch := by rfl
@[simp] theorem State.send_poolCfg (s : State) (m : OutMsg) : (s.send m).poolCfg = s.poolCfg := by rfl
@[simp] theorem State.send_moves (s : State) (m : OutMsg) : (s.send m).moves = s.moves := by rfl
@[simp] theorem State.send_bringUps (s : State) (m : OutMsg) : (s.send m).bringUps = s.bringUps := by rfl
@[simp] theorem State.send_runs (s : State) (m : OutMsg) : (s.send m).runs = s.runs := by rfl
@[simp] theorem State.send_parapets (s : State) (m : OutMsg) : (s.send m).parapets = s.parapets := by rfl
@[simp] theorem State.send_links (s : State) (m : OutMsg) : (s.send m).links = s.links := by rfl
@[simp] theorem State.send_cuts (s : State) (m : OutMsg) : (s.send m).cuts = s.cuts := by rfl
@[simp] theorem State.send_ringTiles (s : State) (m : OutMsg) : (s.send m).ringTiles = s.ringTiles := by rfl
@[simp] theorem State.send_selfMsgs (s : State) (m : OutMsg) : (s.send m).selfMsgs = s.selfMsgs := by rfl
@[simp] theorem State.send_nextRemote (s : State) (m : OutMsg) : (s.send m).nextRemote = s.nextRemote := by rfl
@[simp] theorem State.send_remotes (s : State) (m : OutMsg) : (s.send m).remotes = s.remotes := by rfl
@[simp] theorem State.send_windowWaits (s : State) (m : OutMsg) : (s.send m).windowWaits = s.windowWaits := by rfl
@[simp] theorem State.send_mirrorLog (s : State) (m : OutMsg) : (s.send m).mirrorLog = s.mirrorLog := by rfl
@[simp] theorem State.send_rejoinSender (s : State) (m : OutMsg) : (s.send m).rejoinSender = s.rejoinSender := by rfl
@[simp] theorem State.send_promoted (s : State) (m : OutMsg) : (s.send m).promoted = s.promoted := by rfl
@[simp] theorem State.send_mirrorWaits (s : State) (m : OutMsg) : (s.send m).mirrorWaits = s.mirrorWaits := by rfl
@[simp] theorem State.send_ring (s : State) (m : OutMsg) : (s.send m).ring = s.ring := by rfl
@[simp] theorem State.send_notices (s : State) (m : OutMsg) : (s.send m).notices = s.notices := by rfl
@[simp] theorem State.send_taken (s : State) (m : OutMsg) : (s.send m).taken = s.taken := by rfl
@[simp] theorem State.send_journalWrites (s : State) (m : OutMsg) : (s.send m).journalWrites = s.journalWrites := by rfl
@[simp] theorem State.send_journal (s : State) (m : OutMsg) : (s.send m).journal = s.journal := by rfl
@[simp] theorem State.send_phase (s : State) (m : OutMsg) : (s.send m).phase = s.phase := by rfl
@[simp] theorem State.send_failed (s : State) (m : OutMsg) : (s.send m).failed = s.failed := by rfl
@[simp] theorem State.send_deckMap (s : State) (m : OutMsg) : (s.send m).deckMap = s.deckMap := by rfl
@[simp] theorem State.send_pairing (s : State) (m : OutMsg) : (s.send m).pairing = s.pairing := by rfl
@[simp] theorem State.send_journalOff (s : State) (m : OutMsg) : (s.send m).journalOff = s.journalOff := by rfl
@[simp] theorem State.send_launchedOnce (s : State) (m : OutMsg) : (s.send m).launchedOnce = s.launchedOnce := by rfl
@[simp] theorem State.send_queue (s : State) (m : OutMsg) : (s.send m).queue = s.queue := by rfl
@[simp] theorem State.send_posted (s : State) (m : OutMsg) : (s.send m).posted = s.posted := by rfl
@[simp] theorem State.send_bootWait (s : State) (m : OutMsg) : (s.send m).bootWait = s.bootWait := by rfl
@[simp] theorem State.send_recordOut (s : State) (m : OutMsg) : (s.send m).recordOut = s.recordOut := by rfl
@[simp] theorem State.send_lostRecords (s : State) (m : OutMsg) : (s.send m).lostRecords = s.lostRecords := by rfl
@[simp] theorem State.send_junction (s : State) (m : OutMsg) : (s.send m).junction = s.junction := by rfl
@[simp] theorem State.send_coolReads (s : State) (m : OutMsg) : (s.send m).coolReads = s.coolReads := by rfl
@[simp] theorem State.send_hotTemps (s : State) (m : OutMsg) : (s.send m).hotTemps = s.hotTemps := by rfl
@[simp] theorem State.send_coolTemps (s : State) (m : OutMsg) : (s.send m).coolTemps = s.coolTemps := by rfl
@[simp] theorem State.send_coolWindows (s : State) (m : OutMsg) : (s.send m).coolWindows = s.coolWindows := by rfl
@[simp] theorem State.send_measureWanted (s : State) (m : OutMsg) : (s.send m).measureWanted = s.measureWanted := by rfl
@[simp] theorem State.send_tests (s : State) (m : OutMsg) : (s.send m).tests = s.tests := by rfl
@[simp] theorem State.send_bist (s : State) (m : OutMsg) : (s.send m).bist = s.bist := by rfl
@[simp] theorem State.send_parked (s : State) (m : OutMsg) : (s.send m).parked = s.parked := by rfl
@[simp] theorem State.send_wakeWanted (s : State) (m : OutMsg) : (s.send m).wakeWanted = s.wakeWanted := by rfl
@[simp] theorem State.send_openGates (s : State) (m : OutMsg) : (s.send m).openGates = s.openGates := by rfl
@[simp] theorem State.send_braceAt (s : State) (m : OutMsg) : (s.send m).braceAt = s.braceAt := by rfl
@[simp] theorem State.send_recovering (s : State) (m : OutMsg) : (s.send m).recovering = s.recovering := by rfl
@[simp] theorem State.send_nor (s : State) (m : OutMsg) : (s.send m).nor = s.nor := by rfl
@[simp] theorem State.send_running (s : State) (m : OutMsg) : (s.send m).running = s.running := by rfl
@[simp] theorem State.send_noPorts (s : State) (m : OutMsg) : (s.send m).noPorts = s.noPorts := by rfl
@[simp] theorem State.send_firmwareKeys (s : State) (m : OutMsg) : (s.send m).firmwareKeys = s.firmwareKeys := by rfl
@[simp] theorem State.send_programKeys (s : State) (m : OutMsg) : (s.send m).programKeys = s.programKeys := by rfl
@[simp] theorem State.send_passwords (s : State) (m : OutMsg) : (s.send m).passwords = s.passwords := by rfl
@[simp] theorem State.send_debugKeys (s : State) (m : OutMsg) : (s.send m).debugKeys = s.debugKeys := by rfl
@[simp] theorem State.send_challenge (s : State) (m : OutMsg) : (s.send m).challenge = s.challenge := by rfl
@[simp] theorem State.send_authFails (s : State) (m : OutMsg) : (s.send m).authFails = s.authFails := by rfl
@[simp] theorem State.send_authBarred (s : State) (m : OutMsg) : (s.send m).authBarred = s.authBarred := by rfl
@[simp] theorem State.send_opened (s : State) (m : OutMsg) : (s.send m).opened = s.opened := by rfl
@[simp] theorem State.send_probes (s : State) (m : OutMsg) : (s.send m).probes = s.probes := by rfl
@[simp] theorem State.send_hostWaits (s : State) (m : OutMsg) : (s.send m).hostWaits = s.hostWaits := by rfl
@[simp] theorem State.send_routerFails (s : State) (m : OutMsg) : (s.send m).routerFails = s.routerFails := by rfl
@[simp] theorem State.send_sbAddress (s : State) (m : OutMsg) : (s.send m).sbAddress = s.sbAddress := by rfl
@[simp] theorem State.send_flaws (s : State) (m : OutMsg) : (s.send m).flaws = s.flaws := by rfl
@[simp] theorem State.send_madeImages (s : State) (m : OutMsg) : (s.send m).madeImages = s.madeImages := by rfl
@[simp] theorem State.send_bootRecords (s : State) (m : OutMsg) : (s.send m).bootRecords = s.bootRecords := by rfl
@[simp] theorem State.send_deltas (s : State) (m : OutMsg) : (s.send m).deltas = s.deltas := by rfl
@[simp] theorem State.send_refLost (s : State) (m : OutMsg) : (s.send m).refLost = s.refLost := by rfl
@[simp] theorem State.send_unnumbered (s : State) (m : OutMsg) : (s.send m).unnumbered = s.unnumbered := by rfl
@[simp] theorem State.send_retired (s : State) (m : OutMsg) : (s.send m).retired = s.retired := by rfl
@[simp] theorem State.send_jwAsleep (s : State) (m : OutMsg) : (s.send m).jwAsleep = s.jwAsleep := by rfl
@[simp] theorem State.send_warmReset (s : State) (m : OutMsg) : (s.send m).warmReset = s.warmReset := by rfl
@[simp] theorem State.send_straps (s : State) (m : OutMsg) : (s.send m).straps = s.straps := by rfl

@[simp] theorem State.setPier_pending (s : State) (p : PierIx) (x : Pier) : (s.setPier p x).pending = s.pending := by rfl
@[simp] theorem State.setPier_outbox (s : State) (p : PierIx) (x : Pier) : (s.setPier p x).outbox = s.outbox := by rfl
@[simp] theorem State.setPier_freeCtr (s : State) (p : PierIx) (x : Pier) : (s.setPier p x).freeCtr = s.freeCtr := by rfl
@[simp] theorem State.setPier_regs (s : State) (p : PierIx) (x : Pier) : (s.setPier p x).regs = s.regs := by rfl
@[simp] theorem State.setPier_mem (s : State) (p : PierIx) (x : Pier) : (s.setPier p x).mem = s.mem := by rfl
@[simp] theorem State.setPier_held (s : State) (p : PierIx) (x : Pier) : (s.setPier p x).held = s.held := by rfl
@[simp] theorem State.setPier_flight (s : State) (p : PierIx) (x : Pier) : (s.setPier p x).flight = s.flight := by rfl
@[simp] theorem State.setPier_binding (s : State) (p : PierIx) (x : Pier) : (s.setPier p x).binding = s.binding := by rfl
@[simp] theorem State.setPier_launchStep (s : State) (p : PierIx) (x : Pier) : (s.setPier p x).launchStep = s.launchStep := by rfl
@[simp] theorem State.setPier_factorT (s : State) (p : PierIx) (x : Pier) : (s.setPier p x).factorT = s.factorT := by rfl
@[simp] theorem State.setPier_factorP (s : State) (p : PierIx) (x : Pier) : (s.setPier p x).factorP = s.factorP := by rfl
@[simp] theorem State.setPier_ramp (s : State) (p : PierIx) (x : Pier) : (s.setPier p x).ramp = s.ramp := by rfl
@[simp] theorem State.setPier_imageBudget (s : State) (p : PierIx) (x : Pier) : (s.setPier p x).imageBudget = s.imageBudget := by rfl
@[simp] theorem State.setPier_imageObject (s : State) (p : PierIx) (x : Pier) : (s.setPier p x).imageObject = s.imageObject := by rfl
@[simp] theorem State.setPier_saves (s : State) (p : PierIx) (x : Pier) : (s.setPier p x).saves = s.saves := by rfl
@[simp] theorem State.setPier_evaluating (s : State) (p : PierIx) (x : Pier) : (s.setPier p x).evaluating = s.evaluating := by rfl
@[simp] theorem State.setPier_commitBarred (s : State) (p : PierIx) (x : Pier) : (s.setPier p x).commitBarred = s.commitBarred := by rfl
@[simp] theorem State.setPier_loopbacks (s : State) (p : PierIx) (x : Pier) : (s.setPier p x).loopbacks = s.loopbacks := by rfl
@[simp] theorem State.setPier_mail (s : State) (p : PierIx) (x : Pier) : (s.setPier p x).mail = s.mail := by rfl
@[simp] theorem State.setPier_jwBusy (s : State) (p : PierIx) (x : Pier) : (s.setPier p x).jwBusy = s.jwBusy := by rfl
@[simp] theorem State.setPier_jwTag (s : State) (p : PierIx) (x : Pier) : (s.setPier p x).jwTag = s.jwTag := by rfl
@[simp] theorem State.setPier_jwHeld (s : State) (p : PierIx) (x : Pier) : (s.setPier p x).jwHeld = s.jwHeld := by rfl
@[simp] theorem State.setPier_mailOrder (s : State) (p : PierIx) (x : Pier) : (s.setPier p x).mailOrder = s.mailOrder := by rfl
@[simp] theorem State.setPier_cmdOrder (s : State) (p : PierIx) (x : Pier) : (s.setPier p x).cmdOrder = s.cmdOrder := by rfl
@[simp] theorem State.setPier_tokenMoves (s : State) (p : PierIx) (x : Pier) : (s.setPier p x).tokenMoves = s.tokenMoves := by rfl
@[simp] theorem State.setPier_admitted (s : State) (p : PierIx) (x : Pier) : (s.setPier p x).admitted = s.admitted := by rfl
@[simp] theorem State.setPier_fenced (s : State) (p : PierIx) (x : Pier) : (s.setPier p x).fenced = s.fenced := by rfl
@[simp] theorem State.setPier_fenceDue (s : State) (p : PierIx) (x : Pier) : (s.setPier p x).fenceDue = s.fenceDue := by rfl
@[simp] theorem State.setPier_archs (s : State) (p : PierIx) (x : Pier) : (s.setPier p x).archs = s.archs := by rfl
@[simp] theorem State.setPier_spandrel (s : State) (p : PierIx) (x : Pier) : (s.setPier p x).spandrel = s.spandrel := by rfl
@[simp] theorem State.setPier_regions (s : State) (p : PierIx) (x : Pier) : (s.setPier p x).regions = s.regions := by rfl
@[simp] theorem State.setPier_deckFlips (s : State) (p : PierIx) (x : Pier) : (s.setPier p x).deckFlips = s.deckFlips := by rfl
@[simp] theorem State.setPier_slots (s : State) (p : PierIx) (x : Pier) : (s.setPier p x).slots = s.slots := by rfl
@[simp] theorem State.setPier_gangs (s : State) (p : PierIx) (x : Pier) : (s.setPier p x).gangs = s.gangs := by rfl
@[simp] theorem State.setPier_refetches (s : State) (p : PierIx) (x : Pier) : (s.setPier p x).refetches = s.refetches := by rfl
@[simp] theorem State.setPier_watch (s : State) (p : PierIx) (x : Pier) : (s.setPier p x).watch = s.watch := by rfl
@[simp] theorem State.setPier_staleNotices (s : State) (p : PierIx) (x : Pier) : (s.setPier p x).staleNotices = s.staleNotices := by rfl
@[simp] theorem State.setPier_openWrites (s : State) (p : PierIx) (x : Pier) : (s.setPier p x).openWrites = s.openWrites := by rfl
@[simp] theorem State.setPier_gates (s : State) (p : PierIx) (x : Pier) : (s.setPier p x).gates = s.gates := by rfl
@[simp] theorem State.setPier_stored (s : State) (p : PierIx) (x : Pier) : (s.setPier p x).stored = s.stored := by rfl
@[simp] theorem State.setPier_tags (s : State) (p : PierIx) (x : Pier) : (s.setPier p x).tags = s.tags := by rfl
@[simp] theorem State.setPier_lastGang (s : State) (p : PierIx) (x : Pier) : (s.setPier p x).lastGang = s.lastGang := by rfl
@[simp] theorem State.setPier_objects (s : State) (p : PierIx) (x : Pier) : (s.setPier p x).objects = s.objects := by rfl
@[simp] theorem State.setPier_homes (s : State) (p : PierIx) (x : Pier) : (s.setPier p x).homes = s.homes := by rfl
@[simp] theorem State.setPier_windows (s : State) (p : PierIx) (x : Pier) : (s.setPier p x).windows = s.windows := by rfl
@[simp] theorem State.setPier_startEpoch (s : State) (p : PierIx) (x : Pier) : (s.setPier p x).startEpoch = s.startEpoch := by rfl
@[simp] theorem State.setPier_poolCfg (s : State) (p : PierIx) (x : Pier) : (s.setPier p x).poolCfg = s.poolCfg := by rfl
@[simp] theorem State.setPier_moves (s : State) (p : PierIx) (x : Pier) : (s.setPier p x).moves = s.moves := by rfl
@[simp] theorem State.setPier_bringUps (s : State) (p : PierIx) (x : Pier) : (s.setPier p x).bringUps = s.bringUps := by rfl
@[simp] theorem State.setPier_runs (s : State) (p : PierIx) (x : Pier) : (s.setPier p x).runs = s.runs := by rfl
@[simp] theorem State.setPier_parapets (s : State) (p : PierIx) (x : Pier) : (s.setPier p x).parapets = s.parapets := by rfl
@[simp] theorem State.setPier_links (s : State) (p : PierIx) (x : Pier) : (s.setPier p x).links = s.links := by rfl
@[simp] theorem State.setPier_cuts (s : State) (p : PierIx) (x : Pier) : (s.setPier p x).cuts = s.cuts := by rfl
@[simp] theorem State.setPier_ringTiles (s : State) (p : PierIx) (x : Pier) : (s.setPier p x).ringTiles = s.ringTiles := by rfl
@[simp] theorem State.setPier_selfMsgs (s : State) (p : PierIx) (x : Pier) : (s.setPier p x).selfMsgs = s.selfMsgs := by rfl
@[simp] theorem State.setPier_nextRemote (s : State) (p : PierIx) (x : Pier) : (s.setPier p x).nextRemote = s.nextRemote := by rfl
@[simp] theorem State.setPier_remotes (s : State) (p : PierIx) (x : Pier) : (s.setPier p x).remotes = s.remotes := by rfl
@[simp] theorem State.setPier_windowWaits (s : State) (p : PierIx) (x : Pier) : (s.setPier p x).windowWaits = s.windowWaits := by rfl
@[simp] theorem State.setPier_mirrorLog (s : State) (p : PierIx) (x : Pier) : (s.setPier p x).mirrorLog = s.mirrorLog := by rfl
@[simp] theorem State.setPier_rejoinSender (s : State) (p : PierIx) (x : Pier) : (s.setPier p x).rejoinSender = s.rejoinSender := by rfl
@[simp] theorem State.setPier_promoted (s : State) (p : PierIx) (x : Pier) : (s.setPier p x).promoted = s.promoted := by rfl
@[simp] theorem State.setPier_mirrorWaits (s : State) (p : PierIx) (x : Pier) : (s.setPier p x).mirrorWaits = s.mirrorWaits := by rfl
@[simp] theorem State.setPier_ring (s : State) (p : PierIx) (x : Pier) : (s.setPier p x).ring = s.ring := by rfl
@[simp] theorem State.setPier_notices (s : State) (p : PierIx) (x : Pier) : (s.setPier p x).notices = s.notices := by rfl
@[simp] theorem State.setPier_taken (s : State) (p : PierIx) (x : Pier) : (s.setPier p x).taken = s.taken := by rfl
@[simp] theorem State.setPier_journalWrites (s : State) (p : PierIx) (x : Pier) : (s.setPier p x).journalWrites = s.journalWrites := by rfl
@[simp] theorem State.setPier_journal (s : State) (p : PierIx) (x : Pier) : (s.setPier p x).journal = s.journal := by rfl
@[simp] theorem State.setPier_phase (s : State) (p : PierIx) (x : Pier) : (s.setPier p x).phase = s.phase := by rfl
@[simp] theorem State.setPier_failed (s : State) (p : PierIx) (x : Pier) : (s.setPier p x).failed = s.failed := by rfl
@[simp] theorem State.setPier_deckMap (s : State) (p : PierIx) (x : Pier) : (s.setPier p x).deckMap = s.deckMap := by rfl
@[simp] theorem State.setPier_pairing (s : State) (p : PierIx) (x : Pier) : (s.setPier p x).pairing = s.pairing := by rfl
@[simp] theorem State.setPier_journalOff (s : State) (p : PierIx) (x : Pier) : (s.setPier p x).journalOff = s.journalOff := by rfl
@[simp] theorem State.setPier_launchedOnce (s : State) (p : PierIx) (x : Pier) : (s.setPier p x).launchedOnce = s.launchedOnce := by rfl
@[simp] theorem State.setPier_queue (s : State) (p : PierIx) (x : Pier) : (s.setPier p x).queue = s.queue := by rfl
@[simp] theorem State.setPier_posted (s : State) (p : PierIx) (x : Pier) : (s.setPier p x).posted = s.posted := by rfl
@[simp] theorem State.setPier_bootWait (s : State) (p : PierIx) (x : Pier) : (s.setPier p x).bootWait = s.bootWait := by rfl
@[simp] theorem State.setPier_recordOut (s : State) (p : PierIx) (x : Pier) : (s.setPier p x).recordOut = s.recordOut := by rfl
@[simp] theorem State.setPier_lostRecords (s : State) (p : PierIx) (x : Pier) : (s.setPier p x).lostRecords = s.lostRecords := by rfl
@[simp] theorem State.setPier_junction (s : State) (p : PierIx) (x : Pier) : (s.setPier p x).junction = s.junction := by rfl
@[simp] theorem State.setPier_coolReads (s : State) (p : PierIx) (x : Pier) : (s.setPier p x).coolReads = s.coolReads := by rfl
@[simp] theorem State.setPier_hotTemps (s : State) (p : PierIx) (x : Pier) : (s.setPier p x).hotTemps = s.hotTemps := by rfl
@[simp] theorem State.setPier_coolTemps (s : State) (p : PierIx) (x : Pier) : (s.setPier p x).coolTemps = s.coolTemps := by rfl
@[simp] theorem State.setPier_coolWindows (s : State) (p : PierIx) (x : Pier) : (s.setPier p x).coolWindows = s.coolWindows := by rfl
@[simp] theorem State.setPier_measureWanted (s : State) (p : PierIx) (x : Pier) : (s.setPier p x).measureWanted = s.measureWanted := by rfl
@[simp] theorem State.setPier_tests (s : State) (p : PierIx) (x : Pier) : (s.setPier p x).tests = s.tests := by rfl
@[simp] theorem State.setPier_bist (s : State) (p : PierIx) (x : Pier) : (s.setPier p x).bist = s.bist := by rfl
@[simp] theorem State.setPier_parked (s : State) (p : PierIx) (x : Pier) : (s.setPier p x).parked = s.parked := by rfl
@[simp] theorem State.setPier_wakeWanted (s : State) (p : PierIx) (x : Pier) : (s.setPier p x).wakeWanted = s.wakeWanted := by rfl
@[simp] theorem State.setPier_openGates (s : State) (p : PierIx) (x : Pier) : (s.setPier p x).openGates = s.openGates := by rfl
@[simp] theorem State.setPier_braceAt (s : State) (p : PierIx) (x : Pier) : (s.setPier p x).braceAt = s.braceAt := by rfl
@[simp] theorem State.setPier_recovering (s : State) (p : PierIx) (x : Pier) : (s.setPier p x).recovering = s.recovering := by rfl
@[simp] theorem State.setPier_nor (s : State) (p : PierIx) (x : Pier) : (s.setPier p x).nor = s.nor := by rfl
@[simp] theorem State.setPier_running (s : State) (p : PierIx) (x : Pier) : (s.setPier p x).running = s.running := by rfl
@[simp] theorem State.setPier_noPorts (s : State) (p : PierIx) (x : Pier) : (s.setPier p x).noPorts = s.noPorts := by rfl
@[simp] theorem State.setPier_firmwareKeys (s : State) (p : PierIx) (x : Pier) : (s.setPier p x).firmwareKeys = s.firmwareKeys := by rfl
@[simp] theorem State.setPier_programKeys (s : State) (p : PierIx) (x : Pier) : (s.setPier p x).programKeys = s.programKeys := by rfl
@[simp] theorem State.setPier_passwords (s : State) (p : PierIx) (x : Pier) : (s.setPier p x).passwords = s.passwords := by rfl
@[simp] theorem State.setPier_debugKeys (s : State) (p : PierIx) (x : Pier) : (s.setPier p x).debugKeys = s.debugKeys := by rfl
@[simp] theorem State.setPier_challenge (s : State) (p : PierIx) (x : Pier) : (s.setPier p x).challenge = s.challenge := by rfl
@[simp] theorem State.setPier_authFails (s : State) (p : PierIx) (x : Pier) : (s.setPier p x).authFails = s.authFails := by rfl
@[simp] theorem State.setPier_authBarred (s : State) (p : PierIx) (x : Pier) : (s.setPier p x).authBarred = s.authBarred := by rfl
@[simp] theorem State.setPier_opened (s : State) (p : PierIx) (x : Pier) : (s.setPier p x).opened = s.opened := by rfl
@[simp] theorem State.setPier_probes (s : State) (p : PierIx) (x : Pier) : (s.setPier p x).probes = s.probes := by rfl
@[simp] theorem State.setPier_hostWaits (s : State) (p : PierIx) (x : Pier) : (s.setPier p x).hostWaits = s.hostWaits := by rfl
@[simp] theorem State.setPier_routerFails (s : State) (p : PierIx) (x : Pier) : (s.setPier p x).routerFails = s.routerFails := by rfl
@[simp] theorem State.setPier_sbAddress (s : State) (p : PierIx) (x : Pier) : (s.setPier p x).sbAddress = s.sbAddress := by rfl
@[simp] theorem State.setPier_flaws (s : State) (p : PierIx) (x : Pier) : (s.setPier p x).flaws = s.flaws := by rfl
@[simp] theorem State.setPier_madeImages (s : State) (p : PierIx) (x : Pier) : (s.setPier p x).madeImages = s.madeImages := by rfl
@[simp] theorem State.setPier_bootRecords (s : State) (p : PierIx) (x : Pier) : (s.setPier p x).bootRecords = s.bootRecords := by rfl
@[simp] theorem State.setPier_deltas (s : State) (p : PierIx) (x : Pier) : (s.setPier p x).deltas = s.deltas := by rfl
@[simp] theorem State.setPier_refLost (s : State) (p : PierIx) (x : Pier) : (s.setPier p x).refLost = s.refLost := by rfl
@[simp] theorem State.setPier_unnumbered (s : State) (p : PierIx) (x : Pier) : (s.setPier p x).unnumbered = s.unnumbered := by rfl
@[simp] theorem State.setPier_retired (s : State) (p : PierIx) (x : Pier) : (s.setPier p x).retired = s.retired := by rfl
@[simp] theorem State.setPier_jwAsleep (s : State) (p : PierIx) (x : Pier) : (s.setPier p x).jwAsleep = s.jwAsleep := by rfl
@[simp] theorem State.setPier_warmReset (s : State) (p : PierIx) (x : Pier) : (s.setPier p x).warmReset = s.warmReset := by rfl
@[simp] theorem State.setPier_straps (s : State) (p : PierIx) (x : Pier) : (s.setPier p x).straps = s.straps := by rfl

@[simp] theorem State.setArch_pending (s : State) (p : PierIx) (a : ArchIx) (x : Arch) : (s.setArch p a x).pending = s.pending := by rfl
@[simp] theorem State.setArch_outbox (s : State) (p : PierIx) (a : ArchIx) (x : Arch) : (s.setArch p a x).outbox = s.outbox := by rfl
@[simp] theorem State.setArch_freeCtr (s : State) (p : PierIx) (a : ArchIx) (x : Arch) : (s.setArch p a x).freeCtr = s.freeCtr := by rfl
@[simp] theorem State.setArch_regs (s : State) (p : PierIx) (a : ArchIx) (x : Arch) : (s.setArch p a x).regs = s.regs := by rfl
@[simp] theorem State.setArch_mem (s : State) (p : PierIx) (a : ArchIx) (x : Arch) : (s.setArch p a x).mem = s.mem := by rfl
@[simp] theorem State.setArch_held (s : State) (p : PierIx) (a : ArchIx) (x : Arch) : (s.setArch p a x).held = s.held := by rfl
@[simp] theorem State.setArch_flight (s : State) (p : PierIx) (a : ArchIx) (x : Arch) : (s.setArch p a x).flight = s.flight := by rfl
@[simp] theorem State.setArch_binding (s : State) (p : PierIx) (a : ArchIx) (x : Arch) : (s.setArch p a x).binding = s.binding := by rfl
@[simp] theorem State.setArch_launchStep (s : State) (p : PierIx) (a : ArchIx) (x : Arch) : (s.setArch p a x).launchStep = s.launchStep := by rfl
@[simp] theorem State.setArch_factorT (s : State) (p : PierIx) (a : ArchIx) (x : Arch) : (s.setArch p a x).factorT = s.factorT := by rfl
@[simp] theorem State.setArch_factorP (s : State) (p : PierIx) (a : ArchIx) (x : Arch) : (s.setArch p a x).factorP = s.factorP := by rfl
@[simp] theorem State.setArch_ramp (s : State) (p : PierIx) (a : ArchIx) (x : Arch) : (s.setArch p a x).ramp = s.ramp := by rfl
@[simp] theorem State.setArch_imageBudget (s : State) (p : PierIx) (a : ArchIx) (x : Arch) : (s.setArch p a x).imageBudget = s.imageBudget := by rfl
@[simp] theorem State.setArch_imageObject (s : State) (p : PierIx) (a : ArchIx) (x : Arch) : (s.setArch p a x).imageObject = s.imageObject := by rfl
@[simp] theorem State.setArch_saves (s : State) (p : PierIx) (a : ArchIx) (x : Arch) : (s.setArch p a x).saves = s.saves := by rfl
@[simp] theorem State.setArch_evaluating (s : State) (p : PierIx) (a : ArchIx) (x : Arch) : (s.setArch p a x).evaluating = s.evaluating := by rfl
@[simp] theorem State.setArch_commitBarred (s : State) (p : PierIx) (a : ArchIx) (x : Arch) : (s.setArch p a x).commitBarred = s.commitBarred := by rfl
@[simp] theorem State.setArch_loopbacks (s : State) (p : PierIx) (a : ArchIx) (x : Arch) : (s.setArch p a x).loopbacks = s.loopbacks := by rfl
@[simp] theorem State.setArch_mail (s : State) (p : PierIx) (a : ArchIx) (x : Arch) : (s.setArch p a x).mail = s.mail := by rfl
@[simp] theorem State.setArch_jwBusy (s : State) (p : PierIx) (a : ArchIx) (x : Arch) : (s.setArch p a x).jwBusy = s.jwBusy := by rfl
@[simp] theorem State.setArch_jwTag (s : State) (p : PierIx) (a : ArchIx) (x : Arch) : (s.setArch p a x).jwTag = s.jwTag := by rfl
@[simp] theorem State.setArch_jwHeld (s : State) (p : PierIx) (a : ArchIx) (x : Arch) : (s.setArch p a x).jwHeld = s.jwHeld := by rfl
@[simp] theorem State.setArch_mailOrder (s : State) (p : PierIx) (a : ArchIx) (x : Arch) : (s.setArch p a x).mailOrder = s.mailOrder := by rfl
@[simp] theorem State.setArch_cmdOrder (s : State) (p : PierIx) (a : ArchIx) (x : Arch) : (s.setArch p a x).cmdOrder = s.cmdOrder := by rfl
@[simp] theorem State.setArch_tokenMoves (s : State) (p : PierIx) (a : ArchIx) (x : Arch) : (s.setArch p a x).tokenMoves = s.tokenMoves := by rfl
@[simp] theorem State.setArch_admitted (s : State) (p : PierIx) (a : ArchIx) (x : Arch) : (s.setArch p a x).admitted = s.admitted := by rfl
@[simp] theorem State.setArch_fenced (s : State) (p : PierIx) (a : ArchIx) (x : Arch) : (s.setArch p a x).fenced = s.fenced := by rfl
@[simp] theorem State.setArch_fenceDue (s : State) (p : PierIx) (a : ArchIx) (x : Arch) : (s.setArch p a x).fenceDue = s.fenceDue := by rfl
@[simp] theorem State.setArch_piers (s : State) (p : PierIx) (a : ArchIx) (x : Arch) : (s.setArch p a x).piers = s.piers := by rfl
@[simp] theorem State.setArch_spandrel (s : State) (p : PierIx) (a : ArchIx) (x : Arch) : (s.setArch p a x).spandrel = s.spandrel := by rfl
@[simp] theorem State.setArch_regions (s : State) (p : PierIx) (a : ArchIx) (x : Arch) : (s.setArch p a x).regions = s.regions := by rfl
@[simp] theorem State.setArch_deckFlips (s : State) (p : PierIx) (a : ArchIx) (x : Arch) : (s.setArch p a x).deckFlips = s.deckFlips := by rfl
@[simp] theorem State.setArch_slots (s : State) (p : PierIx) (a : ArchIx) (x : Arch) : (s.setArch p a x).slots = s.slots := by rfl
@[simp] theorem State.setArch_gangs (s : State) (p : PierIx) (a : ArchIx) (x : Arch) : (s.setArch p a x).gangs = s.gangs := by rfl
@[simp] theorem State.setArch_refetches (s : State) (p : PierIx) (a : ArchIx) (x : Arch) : (s.setArch p a x).refetches = s.refetches := by rfl
@[simp] theorem State.setArch_watch (s : State) (p : PierIx) (a : ArchIx) (x : Arch) : (s.setArch p a x).watch = s.watch := by rfl
@[simp] theorem State.setArch_staleNotices (s : State) (p : PierIx) (a : ArchIx) (x : Arch) : (s.setArch p a x).staleNotices = s.staleNotices := by rfl
@[simp] theorem State.setArch_openWrites (s : State) (p : PierIx) (a : ArchIx) (x : Arch) : (s.setArch p a x).openWrites = s.openWrites := by rfl
@[simp] theorem State.setArch_gates (s : State) (p : PierIx) (a : ArchIx) (x : Arch) : (s.setArch p a x).gates = s.gates := by rfl
@[simp] theorem State.setArch_stored (s : State) (p : PierIx) (a : ArchIx) (x : Arch) : (s.setArch p a x).stored = s.stored := by rfl
@[simp] theorem State.setArch_tags (s : State) (p : PierIx) (a : ArchIx) (x : Arch) : (s.setArch p a x).tags = s.tags := by rfl
@[simp] theorem State.setArch_lastGang (s : State) (p : PierIx) (a : ArchIx) (x : Arch) : (s.setArch p a x).lastGang = s.lastGang := by rfl
@[simp] theorem State.setArch_objects (s : State) (p : PierIx) (a : ArchIx) (x : Arch) : (s.setArch p a x).objects = s.objects := by rfl
@[simp] theorem State.setArch_homes (s : State) (p : PierIx) (a : ArchIx) (x : Arch) : (s.setArch p a x).homes = s.homes := by rfl
@[simp] theorem State.setArch_windows (s : State) (p : PierIx) (a : ArchIx) (x : Arch) : (s.setArch p a x).windows = s.windows := by rfl
@[simp] theorem State.setArch_startEpoch (s : State) (p : PierIx) (a : ArchIx) (x : Arch) : (s.setArch p a x).startEpoch = s.startEpoch := by rfl
@[simp] theorem State.setArch_poolCfg (s : State) (p : PierIx) (a : ArchIx) (x : Arch) : (s.setArch p a x).poolCfg = s.poolCfg := by rfl
@[simp] theorem State.setArch_moves (s : State) (p : PierIx) (a : ArchIx) (x : Arch) : (s.setArch p a x).moves = s.moves := by rfl
@[simp] theorem State.setArch_bringUps (s : State) (p : PierIx) (a : ArchIx) (x : Arch) : (s.setArch p a x).bringUps = s.bringUps := by rfl
@[simp] theorem State.setArch_runs (s : State) (p : PierIx) (a : ArchIx) (x : Arch) : (s.setArch p a x).runs = s.runs := by rfl
@[simp] theorem State.setArch_parapets (s : State) (p : PierIx) (a : ArchIx) (x : Arch) : (s.setArch p a x).parapets = s.parapets := by rfl
@[simp] theorem State.setArch_links (s : State) (p : PierIx) (a : ArchIx) (x : Arch) : (s.setArch p a x).links = s.links := by rfl
@[simp] theorem State.setArch_cuts (s : State) (p : PierIx) (a : ArchIx) (x : Arch) : (s.setArch p a x).cuts = s.cuts := by rfl
@[simp] theorem State.setArch_ringTiles (s : State) (p : PierIx) (a : ArchIx) (x : Arch) : (s.setArch p a x).ringTiles = s.ringTiles := by rfl
@[simp] theorem State.setArch_selfMsgs (s : State) (p : PierIx) (a : ArchIx) (x : Arch) : (s.setArch p a x).selfMsgs = s.selfMsgs := by rfl
@[simp] theorem State.setArch_nextRemote (s : State) (p : PierIx) (a : ArchIx) (x : Arch) : (s.setArch p a x).nextRemote = s.nextRemote := by rfl
@[simp] theorem State.setArch_remotes (s : State) (p : PierIx) (a : ArchIx) (x : Arch) : (s.setArch p a x).remotes = s.remotes := by rfl
@[simp] theorem State.setArch_windowWaits (s : State) (p : PierIx) (a : ArchIx) (x : Arch) : (s.setArch p a x).windowWaits = s.windowWaits := by rfl
@[simp] theorem State.setArch_mirrorLog (s : State) (p : PierIx) (a : ArchIx) (x : Arch) : (s.setArch p a x).mirrorLog = s.mirrorLog := by rfl
@[simp] theorem State.setArch_rejoinSender (s : State) (p : PierIx) (a : ArchIx) (x : Arch) : (s.setArch p a x).rejoinSender = s.rejoinSender := by rfl
@[simp] theorem State.setArch_promoted (s : State) (p : PierIx) (a : ArchIx) (x : Arch) : (s.setArch p a x).promoted = s.promoted := by rfl
@[simp] theorem State.setArch_mirrorWaits (s : State) (p : PierIx) (a : ArchIx) (x : Arch) : (s.setArch p a x).mirrorWaits = s.mirrorWaits := by rfl
@[simp] theorem State.setArch_ring (s : State) (p : PierIx) (a : ArchIx) (x : Arch) : (s.setArch p a x).ring = s.ring := by rfl
@[simp] theorem State.setArch_notices (s : State) (p : PierIx) (a : ArchIx) (x : Arch) : (s.setArch p a x).notices = s.notices := by rfl
@[simp] theorem State.setArch_taken (s : State) (p : PierIx) (a : ArchIx) (x : Arch) : (s.setArch p a x).taken = s.taken := by rfl
@[simp] theorem State.setArch_journalWrites (s : State) (p : PierIx) (a : ArchIx) (x : Arch) : (s.setArch p a x).journalWrites = s.journalWrites := by rfl
@[simp] theorem State.setArch_journal (s : State) (p : PierIx) (a : ArchIx) (x : Arch) : (s.setArch p a x).journal = s.journal := by rfl
@[simp] theorem State.setArch_phase (s : State) (p : PierIx) (a : ArchIx) (x : Arch) : (s.setArch p a x).phase = s.phase := by rfl
@[simp] theorem State.setArch_failed (s : State) (p : PierIx) (a : ArchIx) (x : Arch) : (s.setArch p a x).failed = s.failed := by rfl
@[simp] theorem State.setArch_deckMap (s : State) (p : PierIx) (a : ArchIx) (x : Arch) : (s.setArch p a x).deckMap = s.deckMap := by rfl
@[simp] theorem State.setArch_pairing (s : State) (p : PierIx) (a : ArchIx) (x : Arch) : (s.setArch p a x).pairing = s.pairing := by rfl
@[simp] theorem State.setArch_journalOff (s : State) (p : PierIx) (a : ArchIx) (x : Arch) : (s.setArch p a x).journalOff = s.journalOff := by rfl
@[simp] theorem State.setArch_launchedOnce (s : State) (p : PierIx) (a : ArchIx) (x : Arch) : (s.setArch p a x).launchedOnce = s.launchedOnce := by rfl
@[simp] theorem State.setArch_queue (s : State) (p : PierIx) (a : ArchIx) (x : Arch) : (s.setArch p a x).queue = s.queue := by rfl
@[simp] theorem State.setArch_posted (s : State) (p : PierIx) (a : ArchIx) (x : Arch) : (s.setArch p a x).posted = s.posted := by rfl
@[simp] theorem State.setArch_bootWait (s : State) (p : PierIx) (a : ArchIx) (x : Arch) : (s.setArch p a x).bootWait = s.bootWait := by rfl
@[simp] theorem State.setArch_recordOut (s : State) (p : PierIx) (a : ArchIx) (x : Arch) : (s.setArch p a x).recordOut = s.recordOut := by rfl
@[simp] theorem State.setArch_lostRecords (s : State) (p : PierIx) (a : ArchIx) (x : Arch) : (s.setArch p a x).lostRecords = s.lostRecords := by rfl
@[simp] theorem State.setArch_junction (s : State) (p : PierIx) (a : ArchIx) (x : Arch) : (s.setArch p a x).junction = s.junction := by rfl
@[simp] theorem State.setArch_coolReads (s : State) (p : PierIx) (a : ArchIx) (x : Arch) : (s.setArch p a x).coolReads = s.coolReads := by rfl
@[simp] theorem State.setArch_hotTemps (s : State) (p : PierIx) (a : ArchIx) (x : Arch) : (s.setArch p a x).hotTemps = s.hotTemps := by rfl
@[simp] theorem State.setArch_coolTemps (s : State) (p : PierIx) (a : ArchIx) (x : Arch) : (s.setArch p a x).coolTemps = s.coolTemps := by rfl
@[simp] theorem State.setArch_coolWindows (s : State) (p : PierIx) (a : ArchIx) (x : Arch) : (s.setArch p a x).coolWindows = s.coolWindows := by rfl
@[simp] theorem State.setArch_measureWanted (s : State) (p : PierIx) (a : ArchIx) (x : Arch) : (s.setArch p a x).measureWanted = s.measureWanted := by rfl
@[simp] theorem State.setArch_tests (s : State) (p : PierIx) (a : ArchIx) (x : Arch) : (s.setArch p a x).tests = s.tests := by rfl
@[simp] theorem State.setArch_bist (s : State) (p : PierIx) (a : ArchIx) (x : Arch) : (s.setArch p a x).bist = s.bist := by rfl
@[simp] theorem State.setArch_parked (s : State) (p : PierIx) (a : ArchIx) (x : Arch) : (s.setArch p a x).parked = s.parked := by rfl
@[simp] theorem State.setArch_wakeWanted (s : State) (p : PierIx) (a : ArchIx) (x : Arch) : (s.setArch p a x).wakeWanted = s.wakeWanted := by rfl
@[simp] theorem State.setArch_openGates (s : State) (p : PierIx) (a : ArchIx) (x : Arch) : (s.setArch p a x).openGates = s.openGates := by rfl
@[simp] theorem State.setArch_braceAt (s : State) (p : PierIx) (a : ArchIx) (x : Arch) : (s.setArch p a x).braceAt = s.braceAt := by rfl
@[simp] theorem State.setArch_recovering (s : State) (p : PierIx) (a : ArchIx) (x : Arch) : (s.setArch p a x).recovering = s.recovering := by rfl
@[simp] theorem State.setArch_nor (s : State) (p : PierIx) (a : ArchIx) (x : Arch) : (s.setArch p a x).nor = s.nor := by rfl
@[simp] theorem State.setArch_running (s : State) (p : PierIx) (a : ArchIx) (x : Arch) : (s.setArch p a x).running = s.running := by rfl
@[simp] theorem State.setArch_noPorts (s : State) (p : PierIx) (a : ArchIx) (x : Arch) : (s.setArch p a x).noPorts = s.noPorts := by rfl
@[simp] theorem State.setArch_firmwareKeys (s : State) (p : PierIx) (a : ArchIx) (x : Arch) : (s.setArch p a x).firmwareKeys = s.firmwareKeys := by rfl
@[simp] theorem State.setArch_programKeys (s : State) (p : PierIx) (a : ArchIx) (x : Arch) : (s.setArch p a x).programKeys = s.programKeys := by rfl
@[simp] theorem State.setArch_passwords (s : State) (p : PierIx) (a : ArchIx) (x : Arch) : (s.setArch p a x).passwords = s.passwords := by rfl
@[simp] theorem State.setArch_debugKeys (s : State) (p : PierIx) (a : ArchIx) (x : Arch) : (s.setArch p a x).debugKeys = s.debugKeys := by rfl
@[simp] theorem State.setArch_challenge (s : State) (p : PierIx) (a : ArchIx) (x : Arch) : (s.setArch p a x).challenge = s.challenge := by rfl
@[simp] theorem State.setArch_authFails (s : State) (p : PierIx) (a : ArchIx) (x : Arch) : (s.setArch p a x).authFails = s.authFails := by rfl
@[simp] theorem State.setArch_authBarred (s : State) (p : PierIx) (a : ArchIx) (x : Arch) : (s.setArch p a x).authBarred = s.authBarred := by rfl
@[simp] theorem State.setArch_opened (s : State) (p : PierIx) (a : ArchIx) (x : Arch) : (s.setArch p a x).opened = s.opened := by rfl
@[simp] theorem State.setArch_probes (s : State) (p : PierIx) (a : ArchIx) (x : Arch) : (s.setArch p a x).probes = s.probes := by rfl
@[simp] theorem State.setArch_hostWaits (s : State) (p : PierIx) (a : ArchIx) (x : Arch) : (s.setArch p a x).hostWaits = s.hostWaits := by rfl
@[simp] theorem State.setArch_routerFails (s : State) (p : PierIx) (a : ArchIx) (x : Arch) : (s.setArch p a x).routerFails = s.routerFails := by rfl
@[simp] theorem State.setArch_sbAddress (s : State) (p : PierIx) (a : ArchIx) (x : Arch) : (s.setArch p a x).sbAddress = s.sbAddress := by rfl
@[simp] theorem State.setArch_flaws (s : State) (p : PierIx) (a : ArchIx) (x : Arch) : (s.setArch p a x).flaws = s.flaws := by rfl
@[simp] theorem State.setArch_madeImages (s : State) (p : PierIx) (a : ArchIx) (x : Arch) : (s.setArch p a x).madeImages = s.madeImages := by rfl
@[simp] theorem State.setArch_bootRecords (s : State) (p : PierIx) (a : ArchIx) (x : Arch) : (s.setArch p a x).bootRecords = s.bootRecords := by rfl
@[simp] theorem State.setArch_deltas (s : State) (p : PierIx) (a : ArchIx) (x : Arch) : (s.setArch p a x).deltas = s.deltas := by rfl
@[simp] theorem State.setArch_refLost (s : State) (p : PierIx) (a : ArchIx) (x : Arch) : (s.setArch p a x).refLost = s.refLost := by rfl
@[simp] theorem State.setArch_unnumbered (s : State) (p : PierIx) (a : ArchIx) (x : Arch) : (s.setArch p a x).unnumbered = s.unnumbered := by rfl
@[simp] theorem State.setArch_retired (s : State) (p : PierIx) (a : ArchIx) (x : Arch) : (s.setArch p a x).retired = s.retired := by rfl
@[simp] theorem State.setArch_jwAsleep (s : State) (p : PierIx) (a : ArchIx) (x : Arch) : (s.setArch p a x).jwAsleep = s.jwAsleep := by rfl
@[simp] theorem State.setArch_warmReset (s : State) (p : PierIx) (a : ArchIx) (x : Arch) : (s.setArch p a x).warmReset = s.warmReset := by rfl
@[simp] theorem State.setArch_straps (s : State) (p : PierIx) (a : ArchIx) (x : Arch) : (s.setArch p a x).straps = s.straps := by rfl

@[simp] theorem State.setEntry_pending (s : State) (p : PierIx) (a : ArchIx) (i : Nat) (e : Entry) : (s.setEntry p a i e).pending = s.pending := by rfl
@[simp] theorem State.setEntry_outbox (s : State) (p : PierIx) (a : ArchIx) (i : Nat) (e : Entry) : (s.setEntry p a i e).outbox = s.outbox := by rfl
@[simp] theorem State.setEntry_freeCtr (s : State) (p : PierIx) (a : ArchIx) (i : Nat) (e : Entry) : (s.setEntry p a i e).freeCtr = s.freeCtr := by rfl
@[simp] theorem State.setEntry_regs (s : State) (p : PierIx) (a : ArchIx) (i : Nat) (e : Entry) : (s.setEntry p a i e).regs = s.regs := by rfl
@[simp] theorem State.setEntry_mem (s : State) (p : PierIx) (a : ArchIx) (i : Nat) (e : Entry) : (s.setEntry p a i e).mem = s.mem := by rfl
@[simp] theorem State.setEntry_held (s : State) (p : PierIx) (a : ArchIx) (i : Nat) (e : Entry) : (s.setEntry p a i e).held = s.held := by rfl
@[simp] theorem State.setEntry_flight (s : State) (p : PierIx) (a : ArchIx) (i : Nat) (e : Entry) : (s.setEntry p a i e).flight = s.flight := by rfl
@[simp] theorem State.setEntry_binding (s : State) (p : PierIx) (a : ArchIx) (i : Nat) (e : Entry) : (s.setEntry p a i e).binding = s.binding := by rfl
@[simp] theorem State.setEntry_launchStep (s : State) (p : PierIx) (a : ArchIx) (i : Nat) (e : Entry) : (s.setEntry p a i e).launchStep = s.launchStep := by rfl
@[simp] theorem State.setEntry_factorT (s : State) (p : PierIx) (a : ArchIx) (i : Nat) (e : Entry) : (s.setEntry p a i e).factorT = s.factorT := by rfl
@[simp] theorem State.setEntry_factorP (s : State) (p : PierIx) (a : ArchIx) (i : Nat) (e : Entry) : (s.setEntry p a i e).factorP = s.factorP := by rfl
@[simp] theorem State.setEntry_ramp (s : State) (p : PierIx) (a : ArchIx) (i : Nat) (e : Entry) : (s.setEntry p a i e).ramp = s.ramp := by rfl
@[simp] theorem State.setEntry_imageBudget (s : State) (p : PierIx) (a : ArchIx) (i : Nat) (e : Entry) : (s.setEntry p a i e).imageBudget = s.imageBudget := by rfl
@[simp] theorem State.setEntry_imageObject (s : State) (p : PierIx) (a : ArchIx) (i : Nat) (e : Entry) : (s.setEntry p a i e).imageObject = s.imageObject := by rfl
@[simp] theorem State.setEntry_saves (s : State) (p : PierIx) (a : ArchIx) (i : Nat) (e : Entry) : (s.setEntry p a i e).saves = s.saves := by rfl
@[simp] theorem State.setEntry_evaluating (s : State) (p : PierIx) (a : ArchIx) (i : Nat) (e : Entry) : (s.setEntry p a i e).evaluating = s.evaluating := by rfl
@[simp] theorem State.setEntry_commitBarred (s : State) (p : PierIx) (a : ArchIx) (i : Nat) (e : Entry) : (s.setEntry p a i e).commitBarred = s.commitBarred := by rfl
@[simp] theorem State.setEntry_loopbacks (s : State) (p : PierIx) (a : ArchIx) (i : Nat) (e : Entry) : (s.setEntry p a i e).loopbacks = s.loopbacks := by rfl
@[simp] theorem State.setEntry_mail (s : State) (p : PierIx) (a : ArchIx) (i : Nat) (e : Entry) : (s.setEntry p a i e).mail = s.mail := by rfl
@[simp] theorem State.setEntry_jwBusy (s : State) (p : PierIx) (a : ArchIx) (i : Nat) (e : Entry) : (s.setEntry p a i e).jwBusy = s.jwBusy := by rfl
@[simp] theorem State.setEntry_jwTag (s : State) (p : PierIx) (a : ArchIx) (i : Nat) (e : Entry) : (s.setEntry p a i e).jwTag = s.jwTag := by rfl
@[simp] theorem State.setEntry_jwHeld (s : State) (p : PierIx) (a : ArchIx) (i : Nat) (e : Entry) : (s.setEntry p a i e).jwHeld = s.jwHeld := by rfl
@[simp] theorem State.setEntry_mailOrder (s : State) (p : PierIx) (a : ArchIx) (i : Nat) (e : Entry) : (s.setEntry p a i e).mailOrder = s.mailOrder := by rfl
@[simp] theorem State.setEntry_cmdOrder (s : State) (p : PierIx) (a : ArchIx) (i : Nat) (e : Entry) : (s.setEntry p a i e).cmdOrder = s.cmdOrder := by rfl
@[simp] theorem State.setEntry_tokenMoves (s : State) (p : PierIx) (a : ArchIx) (i : Nat) (e : Entry) : (s.setEntry p a i e).tokenMoves = s.tokenMoves := by rfl
@[simp] theorem State.setEntry_admitted (s : State) (p : PierIx) (a : ArchIx) (i : Nat) (e : Entry) : (s.setEntry p a i e).admitted = s.admitted := by rfl
@[simp] theorem State.setEntry_fenced (s : State) (p : PierIx) (a : ArchIx) (i : Nat) (e : Entry) : (s.setEntry p a i e).fenced = s.fenced := by rfl
@[simp] theorem State.setEntry_fenceDue (s : State) (p : PierIx) (a : ArchIx) (i : Nat) (e : Entry) : (s.setEntry p a i e).fenceDue = s.fenceDue := by rfl
@[simp] theorem State.setEntry_piers (s : State) (p : PierIx) (a : ArchIx) (i : Nat) (e : Entry) : (s.setEntry p a i e).piers = s.piers := by rfl
@[simp] theorem State.setEntry_archs (s : State) (p : PierIx) (a : ArchIx) (i : Nat) (e : Entry) : (s.setEntry p a i e).archs = s.archs := by rfl
@[simp] theorem State.setEntry_regions (s : State) (p : PierIx) (a : ArchIx) (i : Nat) (e : Entry) : (s.setEntry p a i e).regions = s.regions := by rfl
@[simp] theorem State.setEntry_deckFlips (s : State) (p : PierIx) (a : ArchIx) (i : Nat) (e : Entry) : (s.setEntry p a i e).deckFlips = s.deckFlips := by rfl
@[simp] theorem State.setEntry_slots (s : State) (p : PierIx) (a : ArchIx) (i : Nat) (e : Entry) : (s.setEntry p a i e).slots = s.slots := by rfl
@[simp] theorem State.setEntry_gangs (s : State) (p : PierIx) (a : ArchIx) (i : Nat) (e : Entry) : (s.setEntry p a i e).gangs = s.gangs := by rfl
@[simp] theorem State.setEntry_refetches (s : State) (p : PierIx) (a : ArchIx) (i : Nat) (e : Entry) : (s.setEntry p a i e).refetches = s.refetches := by rfl
@[simp] theorem State.setEntry_watch (s : State) (p : PierIx) (a : ArchIx) (i : Nat) (e : Entry) : (s.setEntry p a i e).watch = s.watch := by rfl
@[simp] theorem State.setEntry_staleNotices (s : State) (p : PierIx) (a : ArchIx) (i : Nat) (e : Entry) : (s.setEntry p a i e).staleNotices = s.staleNotices := by rfl
@[simp] theorem State.setEntry_openWrites (s : State) (p : PierIx) (a : ArchIx) (i : Nat) (e : Entry) : (s.setEntry p a i e).openWrites = s.openWrites := by rfl
@[simp] theorem State.setEntry_gates (s : State) (p : PierIx) (a : ArchIx) (i : Nat) (e : Entry) : (s.setEntry p a i e).gates = s.gates := by rfl
@[simp] theorem State.setEntry_stored (s : State) (p : PierIx) (a : ArchIx) (i : Nat) (e : Entry) : (s.setEntry p a i e).stored = s.stored := by rfl
@[simp] theorem State.setEntry_tags (s : State) (p : PierIx) (a : ArchIx) (i : Nat) (e : Entry) : (s.setEntry p a i e).tags = s.tags := by rfl
@[simp] theorem State.setEntry_lastGang (s : State) (p : PierIx) (a : ArchIx) (i : Nat) (e : Entry) : (s.setEntry p a i e).lastGang = s.lastGang := by rfl
@[simp] theorem State.setEntry_objects (s : State) (p : PierIx) (a : ArchIx) (i : Nat) (e : Entry) : (s.setEntry p a i e).objects = s.objects := by rfl
@[simp] theorem State.setEntry_homes (s : State) (p : PierIx) (a : ArchIx) (i : Nat) (e : Entry) : (s.setEntry p a i e).homes = s.homes := by rfl
@[simp] theorem State.setEntry_windows (s : State) (p : PierIx) (a : ArchIx) (i : Nat) (e : Entry) : (s.setEntry p a i e).windows = s.windows := by rfl
@[simp] theorem State.setEntry_startEpoch (s : State) (p : PierIx) (a : ArchIx) (i : Nat) (e : Entry) : (s.setEntry p a i e).startEpoch = s.startEpoch := by rfl
@[simp] theorem State.setEntry_poolCfg (s : State) (p : PierIx) (a : ArchIx) (i : Nat) (e : Entry) : (s.setEntry p a i e).poolCfg = s.poolCfg := by rfl
@[simp] theorem State.setEntry_moves (s : State) (p : PierIx) (a : ArchIx) (i : Nat) (e : Entry) : (s.setEntry p a i e).moves = s.moves := by rfl
@[simp] theorem State.setEntry_bringUps (s : State) (p : PierIx) (a : ArchIx) (i : Nat) (e : Entry) : (s.setEntry p a i e).bringUps = s.bringUps := by rfl
@[simp] theorem State.setEntry_runs (s : State) (p : PierIx) (a : ArchIx) (i : Nat) (e : Entry) : (s.setEntry p a i e).runs = s.runs := by rfl
@[simp] theorem State.setEntry_parapets (s : State) (p : PierIx) (a : ArchIx) (i : Nat) (e : Entry) : (s.setEntry p a i e).parapets = s.parapets := by rfl
@[simp] theorem State.setEntry_links (s : State) (p : PierIx) (a : ArchIx) (i : Nat) (e : Entry) : (s.setEntry p a i e).links = s.links := by rfl
@[simp] theorem State.setEntry_cuts (s : State) (p : PierIx) (a : ArchIx) (i : Nat) (e : Entry) : (s.setEntry p a i e).cuts = s.cuts := by rfl
@[simp] theorem State.setEntry_ringTiles (s : State) (p : PierIx) (a : ArchIx) (i : Nat) (e : Entry) : (s.setEntry p a i e).ringTiles = s.ringTiles := by rfl
@[simp] theorem State.setEntry_selfMsgs (s : State) (p : PierIx) (a : ArchIx) (i : Nat) (e : Entry) : (s.setEntry p a i e).selfMsgs = s.selfMsgs := by rfl
@[simp] theorem State.setEntry_nextRemote (s : State) (p : PierIx) (a : ArchIx) (i : Nat) (e : Entry) : (s.setEntry p a i e).nextRemote = s.nextRemote := by rfl
@[simp] theorem State.setEntry_remotes (s : State) (p : PierIx) (a : ArchIx) (i : Nat) (e : Entry) : (s.setEntry p a i e).remotes = s.remotes := by rfl
@[simp] theorem State.setEntry_windowWaits (s : State) (p : PierIx) (a : ArchIx) (i : Nat) (e : Entry) : (s.setEntry p a i e).windowWaits = s.windowWaits := by rfl
@[simp] theorem State.setEntry_mirrorLog (s : State) (p : PierIx) (a : ArchIx) (i : Nat) (e : Entry) : (s.setEntry p a i e).mirrorLog = s.mirrorLog := by rfl
@[simp] theorem State.setEntry_rejoinSender (s : State) (p : PierIx) (a : ArchIx) (i : Nat) (e : Entry) : (s.setEntry p a i e).rejoinSender = s.rejoinSender := by rfl
@[simp] theorem State.setEntry_promoted (s : State) (p : PierIx) (a : ArchIx) (i : Nat) (e : Entry) : (s.setEntry p a i e).promoted = s.promoted := by rfl
@[simp] theorem State.setEntry_mirrorWaits (s : State) (p : PierIx) (a : ArchIx) (i : Nat) (e : Entry) : (s.setEntry p a i e).mirrorWaits = s.mirrorWaits := by rfl
@[simp] theorem State.setEntry_ring (s : State) (p : PierIx) (a : ArchIx) (i : Nat) (e : Entry) : (s.setEntry p a i e).ring = s.ring := by rfl
@[simp] theorem State.setEntry_notices (s : State) (p : PierIx) (a : ArchIx) (i : Nat) (e : Entry) : (s.setEntry p a i e).notices = s.notices := by rfl
@[simp] theorem State.setEntry_taken (s : State) (p : PierIx) (a : ArchIx) (i : Nat) (e : Entry) : (s.setEntry p a i e).taken = s.taken := by rfl
@[simp] theorem State.setEntry_journalWrites (s : State) (p : PierIx) (a : ArchIx) (i : Nat) (e : Entry) : (s.setEntry p a i e).journalWrites = s.journalWrites := by rfl
@[simp] theorem State.setEntry_journal (s : State) (p : PierIx) (a : ArchIx) (i : Nat) (e : Entry) : (s.setEntry p a i e).journal = s.journal := by rfl
@[simp] theorem State.setEntry_phase (s : State) (p : PierIx) (a : ArchIx) (i : Nat) (e : Entry) : (s.setEntry p a i e).phase = s.phase := by rfl
@[simp] theorem State.setEntry_failed (s : State) (p : PierIx) (a : ArchIx) (i : Nat) (e : Entry) : (s.setEntry p a i e).failed = s.failed := by rfl
@[simp] theorem State.setEntry_deckMap (s : State) (p : PierIx) (a : ArchIx) (i : Nat) (e : Entry) : (s.setEntry p a i e).deckMap = s.deckMap := by rfl
@[simp] theorem State.setEntry_pairing (s : State) (p : PierIx) (a : ArchIx) (i : Nat) (e : Entry) : (s.setEntry p a i e).pairing = s.pairing := by rfl
@[simp] theorem State.setEntry_journalOff (s : State) (p : PierIx) (a : ArchIx) (i : Nat) (e : Entry) : (s.setEntry p a i e).journalOff = s.journalOff := by rfl
@[simp] theorem State.setEntry_launchedOnce (s : State) (p : PierIx) (a : ArchIx) (i : Nat) (e : Entry) : (s.setEntry p a i e).launchedOnce = s.launchedOnce := by rfl
@[simp] theorem State.setEntry_queue (s : State) (p : PierIx) (a : ArchIx) (i : Nat) (e : Entry) : (s.setEntry p a i e).queue = s.queue := by rfl
@[simp] theorem State.setEntry_posted (s : State) (p : PierIx) (a : ArchIx) (i : Nat) (e : Entry) : (s.setEntry p a i e).posted = s.posted := by rfl
@[simp] theorem State.setEntry_bootWait (s : State) (p : PierIx) (a : ArchIx) (i : Nat) (e : Entry) : (s.setEntry p a i e).bootWait = s.bootWait := by rfl
@[simp] theorem State.setEntry_recordOut (s : State) (p : PierIx) (a : ArchIx) (i : Nat) (e : Entry) : (s.setEntry p a i e).recordOut = s.recordOut := by rfl
@[simp] theorem State.setEntry_lostRecords (s : State) (p : PierIx) (a : ArchIx) (i : Nat) (e : Entry) : (s.setEntry p a i e).lostRecords = s.lostRecords := by rfl
@[simp] theorem State.setEntry_junction (s : State) (p : PierIx) (a : ArchIx) (i : Nat) (e : Entry) : (s.setEntry p a i e).junction = s.junction := by rfl
@[simp] theorem State.setEntry_coolReads (s : State) (p : PierIx) (a : ArchIx) (i : Nat) (e : Entry) : (s.setEntry p a i e).coolReads = s.coolReads := by rfl
@[simp] theorem State.setEntry_hotTemps (s : State) (p : PierIx) (a : ArchIx) (i : Nat) (e : Entry) : (s.setEntry p a i e).hotTemps = s.hotTemps := by rfl
@[simp] theorem State.setEntry_coolTemps (s : State) (p : PierIx) (a : ArchIx) (i : Nat) (e : Entry) : (s.setEntry p a i e).coolTemps = s.coolTemps := by rfl
@[simp] theorem State.setEntry_coolWindows (s : State) (p : PierIx) (a : ArchIx) (i : Nat) (e : Entry) : (s.setEntry p a i e).coolWindows = s.coolWindows := by rfl
@[simp] theorem State.setEntry_measureWanted (s : State) (p : PierIx) (a : ArchIx) (i : Nat) (e : Entry) : (s.setEntry p a i e).measureWanted = s.measureWanted := by rfl
@[simp] theorem State.setEntry_tests (s : State) (p : PierIx) (a : ArchIx) (i : Nat) (e : Entry) : (s.setEntry p a i e).tests = s.tests := by rfl
@[simp] theorem State.setEntry_bist (s : State) (p : PierIx) (a : ArchIx) (i : Nat) (e : Entry) : (s.setEntry p a i e).bist = s.bist := by rfl
@[simp] theorem State.setEntry_parked (s : State) (p : PierIx) (a : ArchIx) (i : Nat) (e : Entry) : (s.setEntry p a i e).parked = s.parked := by rfl
@[simp] theorem State.setEntry_wakeWanted (s : State) (p : PierIx) (a : ArchIx) (i : Nat) (e : Entry) : (s.setEntry p a i e).wakeWanted = s.wakeWanted := by rfl
@[simp] theorem State.setEntry_openGates (s : State) (p : PierIx) (a : ArchIx) (i : Nat) (e : Entry) : (s.setEntry p a i e).openGates = s.openGates := by rfl
@[simp] theorem State.setEntry_braceAt (s : State) (p : PierIx) (a : ArchIx) (i : Nat) (e : Entry) : (s.setEntry p a i e).braceAt = s.braceAt := by rfl
@[simp] theorem State.setEntry_recovering (s : State) (p : PierIx) (a : ArchIx) (i : Nat) (e : Entry) : (s.setEntry p a i e).recovering = s.recovering := by rfl
@[simp] theorem State.setEntry_nor (s : State) (p : PierIx) (a : ArchIx) (i : Nat) (e : Entry) : (s.setEntry p a i e).nor = s.nor := by rfl
@[simp] theorem State.setEntry_running (s : State) (p : PierIx) (a : ArchIx) (i : Nat) (e : Entry) : (s.setEntry p a i e).running = s.running := by rfl
@[simp] theorem State.setEntry_noPorts (s : State) (p : PierIx) (a : ArchIx) (i : Nat) (e : Entry) : (s.setEntry p a i e).noPorts = s.noPorts := by rfl
@[simp] theorem State.setEntry_firmwareKeys (s : State) (p : PierIx) (a : ArchIx) (i : Nat) (e : Entry) : (s.setEntry p a i e).firmwareKeys = s.firmwareKeys := by rfl
@[simp] theorem State.setEntry_programKeys (s : State) (p : PierIx) (a : ArchIx) (i : Nat) (e : Entry) : (s.setEntry p a i e).programKeys = s.programKeys := by rfl
@[simp] theorem State.setEntry_passwords (s : State) (p : PierIx) (a : ArchIx) (i : Nat) (e : Entry) : (s.setEntry p a i e).passwords = s.passwords := by rfl
@[simp] theorem State.setEntry_debugKeys (s : State) (p : PierIx) (a : ArchIx) (i : Nat) (e : Entry) : (s.setEntry p a i e).debugKeys = s.debugKeys := by rfl
@[simp] theorem State.setEntry_challenge (s : State) (p : PierIx) (a : ArchIx) (i : Nat) (e : Entry) : (s.setEntry p a i e).challenge = s.challenge := by rfl
@[simp] theorem State.setEntry_authFails (s : State) (p : PierIx) (a : ArchIx) (i : Nat) (e : Entry) : (s.setEntry p a i e).authFails = s.authFails := by rfl
@[simp] theorem State.setEntry_authBarred (s : State) (p : PierIx) (a : ArchIx) (i : Nat) (e : Entry) : (s.setEntry p a i e).authBarred = s.authBarred := by rfl
@[simp] theorem State.setEntry_opened (s : State) (p : PierIx) (a : ArchIx) (i : Nat) (e : Entry) : (s.setEntry p a i e).opened = s.opened := by rfl
@[simp] theorem State.setEntry_probes (s : State) (p : PierIx) (a : ArchIx) (i : Nat) (e : Entry) : (s.setEntry p a i e).probes = s.probes := by rfl
@[simp] theorem State.setEntry_hostWaits (s : State) (p : PierIx) (a : ArchIx) (i : Nat) (e : Entry) : (s.setEntry p a i e).hostWaits = s.hostWaits := by rfl
@[simp] theorem State.setEntry_routerFails (s : State) (p : PierIx) (a : ArchIx) (i : Nat) (e : Entry) : (s.setEntry p a i e).routerFails = s.routerFails := by rfl
@[simp] theorem State.setEntry_sbAddress (s : State) (p : PierIx) (a : ArchIx) (i : Nat) (e : Entry) : (s.setEntry p a i e).sbAddress = s.sbAddress := by rfl
@[simp] theorem State.setEntry_flaws (s : State) (p : PierIx) (a : ArchIx) (i : Nat) (e : Entry) : (s.setEntry p a i e).flaws = s.flaws := by rfl
@[simp] theorem State.setEntry_madeImages (s : State) (p : PierIx) (a : ArchIx) (i : Nat) (e : Entry) : (s.setEntry p a i e).madeImages = s.madeImages := by rfl
@[simp] theorem State.setEntry_bootRecords (s : State) (p : PierIx) (a : ArchIx) (i : Nat) (e : Entry) : (s.setEntry p a i e).bootRecords = s.bootRecords := by rfl
@[simp] theorem State.setEntry_deltas (s : State) (p : PierIx) (a : ArchIx) (i : Nat) (e : Entry) : (s.setEntry p a i e).deltas = s.deltas := by rfl
@[simp] theorem State.setEntry_refLost (s : State) (p : PierIx) (a : ArchIx) (i : Nat) (e : Entry) : (s.setEntry p a i e).refLost = s.refLost := by rfl
@[simp] theorem State.setEntry_unnumbered (s : State) (p : PierIx) (a : ArchIx) (i : Nat) (e : Entry) : (s.setEntry p a i e).unnumbered = s.unnumbered := by rfl
@[simp] theorem State.setEntry_retired (s : State) (p : PierIx) (a : ArchIx) (i : Nat) (e : Entry) : (s.setEntry p a i e).retired = s.retired := by rfl
@[simp] theorem State.setEntry_jwAsleep (s : State) (p : PierIx) (a : ArchIx) (i : Nat) (e : Entry) : (s.setEntry p a i e).jwAsleep = s.jwAsleep := by rfl
@[simp] theorem State.setEntry_warmReset (s : State) (p : PierIx) (a : ArchIx) (i : Nat) (e : Entry) : (s.setEntry p a i e).warmReset = s.warmReset := by rfl
@[simp] theorem State.setEntry_straps (s : State) (p : PierIx) (a : ArchIx) (i : Nat) (e : Entry) : (s.setEntry p a i e).straps = s.straps := by rfl

@[simp] theorem State.setRegion_pending (s : State) (p : PierIx) (r : RegionIx) (x : Region) : (s.setRegion p r x).pending = s.pending := by rfl
@[simp] theorem State.setRegion_outbox (s : State) (p : PierIx) (r : RegionIx) (x : Region) : (s.setRegion p r x).outbox = s.outbox := by rfl
@[simp] theorem State.setRegion_freeCtr (s : State) (p : PierIx) (r : RegionIx) (x : Region) : (s.setRegion p r x).freeCtr = s.freeCtr := by rfl
@[simp] theorem State.setRegion_regs (s : State) (p : PierIx) (r : RegionIx) (x : Region) : (s.setRegion p r x).regs = s.regs := by rfl
@[simp] theorem State.setRegion_mem (s : State) (p : PierIx) (r : RegionIx) (x : Region) : (s.setRegion p r x).mem = s.mem := by rfl
@[simp] theorem State.setRegion_held (s : State) (p : PierIx) (r : RegionIx) (x : Region) : (s.setRegion p r x).held = s.held := by rfl
@[simp] theorem State.setRegion_flight (s : State) (p : PierIx) (r : RegionIx) (x : Region) : (s.setRegion p r x).flight = s.flight := by rfl
@[simp] theorem State.setRegion_binding (s : State) (p : PierIx) (r : RegionIx) (x : Region) : (s.setRegion p r x).binding = s.binding := by rfl
@[simp] theorem State.setRegion_launchStep (s : State) (p : PierIx) (r : RegionIx) (x : Region) : (s.setRegion p r x).launchStep = s.launchStep := by rfl
@[simp] theorem State.setRegion_factorT (s : State) (p : PierIx) (r : RegionIx) (x : Region) : (s.setRegion p r x).factorT = s.factorT := by rfl
@[simp] theorem State.setRegion_factorP (s : State) (p : PierIx) (r : RegionIx) (x : Region) : (s.setRegion p r x).factorP = s.factorP := by rfl
@[simp] theorem State.setRegion_ramp (s : State) (p : PierIx) (r : RegionIx) (x : Region) : (s.setRegion p r x).ramp = s.ramp := by rfl
@[simp] theorem State.setRegion_imageBudget (s : State) (p : PierIx) (r : RegionIx) (x : Region) : (s.setRegion p r x).imageBudget = s.imageBudget := by rfl
@[simp] theorem State.setRegion_imageObject (s : State) (p : PierIx) (r : RegionIx) (x : Region) : (s.setRegion p r x).imageObject = s.imageObject := by rfl
@[simp] theorem State.setRegion_saves (s : State) (p : PierIx) (r : RegionIx) (x : Region) : (s.setRegion p r x).saves = s.saves := by rfl
@[simp] theorem State.setRegion_evaluating (s : State) (p : PierIx) (r : RegionIx) (x : Region) : (s.setRegion p r x).evaluating = s.evaluating := by rfl
@[simp] theorem State.setRegion_commitBarred (s : State) (p : PierIx) (r : RegionIx) (x : Region) : (s.setRegion p r x).commitBarred = s.commitBarred := by rfl
@[simp] theorem State.setRegion_loopbacks (s : State) (p : PierIx) (r : RegionIx) (x : Region) : (s.setRegion p r x).loopbacks = s.loopbacks := by rfl
@[simp] theorem State.setRegion_mail (s : State) (p : PierIx) (r : RegionIx) (x : Region) : (s.setRegion p r x).mail = s.mail := by rfl
@[simp] theorem State.setRegion_jwBusy (s : State) (p : PierIx) (r : RegionIx) (x : Region) : (s.setRegion p r x).jwBusy = s.jwBusy := by rfl
@[simp] theorem State.setRegion_jwTag (s : State) (p : PierIx) (r : RegionIx) (x : Region) : (s.setRegion p r x).jwTag = s.jwTag := by rfl
@[simp] theorem State.setRegion_jwHeld (s : State) (p : PierIx) (r : RegionIx) (x : Region) : (s.setRegion p r x).jwHeld = s.jwHeld := by rfl
@[simp] theorem State.setRegion_mailOrder (s : State) (p : PierIx) (r : RegionIx) (x : Region) : (s.setRegion p r x).mailOrder = s.mailOrder := by rfl
@[simp] theorem State.setRegion_cmdOrder (s : State) (p : PierIx) (r : RegionIx) (x : Region) : (s.setRegion p r x).cmdOrder = s.cmdOrder := by rfl
@[simp] theorem State.setRegion_tokenMoves (s : State) (p : PierIx) (r : RegionIx) (x : Region) : (s.setRegion p r x).tokenMoves = s.tokenMoves := by rfl
@[simp] theorem State.setRegion_admitted (s : State) (p : PierIx) (r : RegionIx) (x : Region) : (s.setRegion p r x).admitted = s.admitted := by rfl
@[simp] theorem State.setRegion_fenced (s : State) (p : PierIx) (r : RegionIx) (x : Region) : (s.setRegion p r x).fenced = s.fenced := by rfl
@[simp] theorem State.setRegion_fenceDue (s : State) (p : PierIx) (r : RegionIx) (x : Region) : (s.setRegion p r x).fenceDue = s.fenceDue := by rfl
@[simp] theorem State.setRegion_piers (s : State) (p : PierIx) (r : RegionIx) (x : Region) : (s.setRegion p r x).piers = s.piers := by rfl
@[simp] theorem State.setRegion_archs (s : State) (p : PierIx) (r : RegionIx) (x : Region) : (s.setRegion p r x).archs = s.archs := by rfl
@[simp] theorem State.setRegion_spandrel (s : State) (p : PierIx) (r : RegionIx) (x : Region) : (s.setRegion p r x).spandrel = s.spandrel := by rfl
@[simp] theorem State.setRegion_deckFlips (s : State) (p : PierIx) (r : RegionIx) (x : Region) : (s.setRegion p r x).deckFlips = s.deckFlips := by rfl
@[simp] theorem State.setRegion_slots (s : State) (p : PierIx) (r : RegionIx) (x : Region) : (s.setRegion p r x).slots = s.slots := by rfl
@[simp] theorem State.setRegion_gangs (s : State) (p : PierIx) (r : RegionIx) (x : Region) : (s.setRegion p r x).gangs = s.gangs := by rfl
@[simp] theorem State.setRegion_refetches (s : State) (p : PierIx) (r : RegionIx) (x : Region) : (s.setRegion p r x).refetches = s.refetches := by rfl
@[simp] theorem State.setRegion_watch (s : State) (p : PierIx) (r : RegionIx) (x : Region) : (s.setRegion p r x).watch = s.watch := by rfl
@[simp] theorem State.setRegion_staleNotices (s : State) (p : PierIx) (r : RegionIx) (x : Region) : (s.setRegion p r x).staleNotices = s.staleNotices := by rfl
@[simp] theorem State.setRegion_openWrites (s : State) (p : PierIx) (r : RegionIx) (x : Region) : (s.setRegion p r x).openWrites = s.openWrites := by rfl
@[simp] theorem State.setRegion_gates (s : State) (p : PierIx) (r : RegionIx) (x : Region) : (s.setRegion p r x).gates = s.gates := by rfl
@[simp] theorem State.setRegion_stored (s : State) (p : PierIx) (r : RegionIx) (x : Region) : (s.setRegion p r x).stored = s.stored := by rfl
@[simp] theorem State.setRegion_tags (s : State) (p : PierIx) (r : RegionIx) (x : Region) : (s.setRegion p r x).tags = s.tags := by rfl
@[simp] theorem State.setRegion_lastGang (s : State) (p : PierIx) (r : RegionIx) (x : Region) : (s.setRegion p r x).lastGang = s.lastGang := by rfl
@[simp] theorem State.setRegion_objects (s : State) (p : PierIx) (r : RegionIx) (x : Region) : (s.setRegion p r x).objects = s.objects := by rfl
@[simp] theorem State.setRegion_homes (s : State) (p : PierIx) (r : RegionIx) (x : Region) : (s.setRegion p r x).homes = s.homes := by rfl
@[simp] theorem State.setRegion_windows (s : State) (p : PierIx) (r : RegionIx) (x : Region) : (s.setRegion p r x).windows = s.windows := by rfl
@[simp] theorem State.setRegion_startEpoch (s : State) (p : PierIx) (r : RegionIx) (x : Region) : (s.setRegion p r x).startEpoch = s.startEpoch := by rfl
@[simp] theorem State.setRegion_poolCfg (s : State) (p : PierIx) (r : RegionIx) (x : Region) : (s.setRegion p r x).poolCfg = s.poolCfg := by rfl
@[simp] theorem State.setRegion_moves (s : State) (p : PierIx) (r : RegionIx) (x : Region) : (s.setRegion p r x).moves = s.moves := by rfl
@[simp] theorem State.setRegion_bringUps (s : State) (p : PierIx) (r : RegionIx) (x : Region) : (s.setRegion p r x).bringUps = s.bringUps := by rfl
@[simp] theorem State.setRegion_runs (s : State) (p : PierIx) (r : RegionIx) (x : Region) : (s.setRegion p r x).runs = s.runs := by rfl
@[simp] theorem State.setRegion_parapets (s : State) (p : PierIx) (r : RegionIx) (x : Region) : (s.setRegion p r x).parapets = s.parapets := by rfl
@[simp] theorem State.setRegion_links (s : State) (p : PierIx) (r : RegionIx) (x : Region) : (s.setRegion p r x).links = s.links := by rfl
@[simp] theorem State.setRegion_cuts (s : State) (p : PierIx) (r : RegionIx) (x : Region) : (s.setRegion p r x).cuts = s.cuts := by rfl
@[simp] theorem State.setRegion_ringTiles (s : State) (p : PierIx) (r : RegionIx) (x : Region) : (s.setRegion p r x).ringTiles = s.ringTiles := by rfl
@[simp] theorem State.setRegion_selfMsgs (s : State) (p : PierIx) (r : RegionIx) (x : Region) : (s.setRegion p r x).selfMsgs = s.selfMsgs := by rfl
@[simp] theorem State.setRegion_nextRemote (s : State) (p : PierIx) (r : RegionIx) (x : Region) : (s.setRegion p r x).nextRemote = s.nextRemote := by rfl
@[simp] theorem State.setRegion_remotes (s : State) (p : PierIx) (r : RegionIx) (x : Region) : (s.setRegion p r x).remotes = s.remotes := by rfl
@[simp] theorem State.setRegion_windowWaits (s : State) (p : PierIx) (r : RegionIx) (x : Region) : (s.setRegion p r x).windowWaits = s.windowWaits := by rfl
@[simp] theorem State.setRegion_mirrorLog (s : State) (p : PierIx) (r : RegionIx) (x : Region) : (s.setRegion p r x).mirrorLog = s.mirrorLog := by rfl
@[simp] theorem State.setRegion_rejoinSender (s : State) (p : PierIx) (r : RegionIx) (x : Region) : (s.setRegion p r x).rejoinSender = s.rejoinSender := by rfl
@[simp] theorem State.setRegion_promoted (s : State) (p : PierIx) (r : RegionIx) (x : Region) : (s.setRegion p r x).promoted = s.promoted := by rfl
@[simp] theorem State.setRegion_mirrorWaits (s : State) (p : PierIx) (r : RegionIx) (x : Region) : (s.setRegion p r x).mirrorWaits = s.mirrorWaits := by rfl
@[simp] theorem State.setRegion_ring (s : State) (p : PierIx) (r : RegionIx) (x : Region) : (s.setRegion p r x).ring = s.ring := by rfl
@[simp] theorem State.setRegion_notices (s : State) (p : PierIx) (r : RegionIx) (x : Region) : (s.setRegion p r x).notices = s.notices := by rfl
@[simp] theorem State.setRegion_taken (s : State) (p : PierIx) (r : RegionIx) (x : Region) : (s.setRegion p r x).taken = s.taken := by rfl
@[simp] theorem State.setRegion_journalWrites (s : State) (p : PierIx) (r : RegionIx) (x : Region) : (s.setRegion p r x).journalWrites = s.journalWrites := by rfl
@[simp] theorem State.setRegion_journal (s : State) (p : PierIx) (r : RegionIx) (x : Region) : (s.setRegion p r x).journal = s.journal := by rfl
@[simp] theorem State.setRegion_phase (s : State) (p : PierIx) (r : RegionIx) (x : Region) : (s.setRegion p r x).phase = s.phase := by rfl
@[simp] theorem State.setRegion_failed (s : State) (p : PierIx) (r : RegionIx) (x : Region) : (s.setRegion p r x).failed = s.failed := by rfl
@[simp] theorem State.setRegion_deckMap (s : State) (p : PierIx) (r : RegionIx) (x : Region) : (s.setRegion p r x).deckMap = s.deckMap := by rfl
@[simp] theorem State.setRegion_pairing (s : State) (p : PierIx) (r : RegionIx) (x : Region) : (s.setRegion p r x).pairing = s.pairing := by rfl
@[simp] theorem State.setRegion_journalOff (s : State) (p : PierIx) (r : RegionIx) (x : Region) : (s.setRegion p r x).journalOff = s.journalOff := by rfl
@[simp] theorem State.setRegion_launchedOnce (s : State) (p : PierIx) (r : RegionIx) (x : Region) : (s.setRegion p r x).launchedOnce = s.launchedOnce := by rfl
@[simp] theorem State.setRegion_queue (s : State) (p : PierIx) (r : RegionIx) (x : Region) : (s.setRegion p r x).queue = s.queue := by rfl
@[simp] theorem State.setRegion_posted (s : State) (p : PierIx) (r : RegionIx) (x : Region) : (s.setRegion p r x).posted = s.posted := by rfl
@[simp] theorem State.setRegion_bootWait (s : State) (p : PierIx) (r : RegionIx) (x : Region) : (s.setRegion p r x).bootWait = s.bootWait := by rfl
@[simp] theorem State.setRegion_recordOut (s : State) (p : PierIx) (r : RegionIx) (x : Region) : (s.setRegion p r x).recordOut = s.recordOut := by rfl
@[simp] theorem State.setRegion_lostRecords (s : State) (p : PierIx) (r : RegionIx) (x : Region) : (s.setRegion p r x).lostRecords = s.lostRecords := by rfl
@[simp] theorem State.setRegion_junction (s : State) (p : PierIx) (r : RegionIx) (x : Region) : (s.setRegion p r x).junction = s.junction := by rfl
@[simp] theorem State.setRegion_coolReads (s : State) (p : PierIx) (r : RegionIx) (x : Region) : (s.setRegion p r x).coolReads = s.coolReads := by rfl
@[simp] theorem State.setRegion_hotTemps (s : State) (p : PierIx) (r : RegionIx) (x : Region) : (s.setRegion p r x).hotTemps = s.hotTemps := by rfl
@[simp] theorem State.setRegion_coolTemps (s : State) (p : PierIx) (r : RegionIx) (x : Region) : (s.setRegion p r x).coolTemps = s.coolTemps := by rfl
@[simp] theorem State.setRegion_coolWindows (s : State) (p : PierIx) (r : RegionIx) (x : Region) : (s.setRegion p r x).coolWindows = s.coolWindows := by rfl
@[simp] theorem State.setRegion_measureWanted (s : State) (p : PierIx) (r : RegionIx) (x : Region) : (s.setRegion p r x).measureWanted = s.measureWanted := by rfl
@[simp] theorem State.setRegion_tests (s : State) (p : PierIx) (r : RegionIx) (x : Region) : (s.setRegion p r x).tests = s.tests := by rfl
@[simp] theorem State.setRegion_bist (s : State) (p : PierIx) (r : RegionIx) (x : Region) : (s.setRegion p r x).bist = s.bist := by rfl
@[simp] theorem State.setRegion_parked (s : State) (p : PierIx) (r : RegionIx) (x : Region) : (s.setRegion p r x).parked = s.parked := by rfl
@[simp] theorem State.setRegion_wakeWanted (s : State) (p : PierIx) (r : RegionIx) (x : Region) : (s.setRegion p r x).wakeWanted = s.wakeWanted := by rfl
@[simp] theorem State.setRegion_openGates (s : State) (p : PierIx) (r : RegionIx) (x : Region) : (s.setRegion p r x).openGates = s.openGates := by rfl
@[simp] theorem State.setRegion_braceAt (s : State) (p : PierIx) (r : RegionIx) (x : Region) : (s.setRegion p r x).braceAt = s.braceAt := by rfl
@[simp] theorem State.setRegion_recovering (s : State) (p : PierIx) (r : RegionIx) (x : Region) : (s.setRegion p r x).recovering = s.recovering := by rfl
@[simp] theorem State.setRegion_nor (s : State) (p : PierIx) (r : RegionIx) (x : Region) : (s.setRegion p r x).nor = s.nor := by rfl
@[simp] theorem State.setRegion_running (s : State) (p : PierIx) (r : RegionIx) (x : Region) : (s.setRegion p r x).running = s.running := by rfl
@[simp] theorem State.setRegion_noPorts (s : State) (p : PierIx) (r : RegionIx) (x : Region) : (s.setRegion p r x).noPorts = s.noPorts := by rfl
@[simp] theorem State.setRegion_firmwareKeys (s : State) (p : PierIx) (r : RegionIx) (x : Region) : (s.setRegion p r x).firmwareKeys = s.firmwareKeys := by rfl
@[simp] theorem State.setRegion_programKeys (s : State) (p : PierIx) (r : RegionIx) (x : Region) : (s.setRegion p r x).programKeys = s.programKeys := by rfl
@[simp] theorem State.setRegion_passwords (s : State) (p : PierIx) (r : RegionIx) (x : Region) : (s.setRegion p r x).passwords = s.passwords := by rfl
@[simp] theorem State.setRegion_debugKeys (s : State) (p : PierIx) (r : RegionIx) (x : Region) : (s.setRegion p r x).debugKeys = s.debugKeys := by rfl
@[simp] theorem State.setRegion_challenge (s : State) (p : PierIx) (r : RegionIx) (x : Region) : (s.setRegion p r x).challenge = s.challenge := by rfl
@[simp] theorem State.setRegion_authFails (s : State) (p : PierIx) (r : RegionIx) (x : Region) : (s.setRegion p r x).authFails = s.authFails := by rfl
@[simp] theorem State.setRegion_authBarred (s : State) (p : PierIx) (r : RegionIx) (x : Region) : (s.setRegion p r x).authBarred = s.authBarred := by rfl
@[simp] theorem State.setRegion_opened (s : State) (p : PierIx) (r : RegionIx) (x : Region) : (s.setRegion p r x).opened = s.opened := by rfl
@[simp] theorem State.setRegion_probes (s : State) (p : PierIx) (r : RegionIx) (x : Region) : (s.setRegion p r x).probes = s.probes := by rfl
@[simp] theorem State.setRegion_hostWaits (s : State) (p : PierIx) (r : RegionIx) (x : Region) : (s.setRegion p r x).hostWaits = s.hostWaits := by rfl
@[simp] theorem State.setRegion_routerFails (s : State) (p : PierIx) (r : RegionIx) (x : Region) : (s.setRegion p r x).routerFails = s.routerFails := by rfl
@[simp] theorem State.setRegion_sbAddress (s : State) (p : PierIx) (r : RegionIx) (x : Region) : (s.setRegion p r x).sbAddress = s.sbAddress := by rfl
@[simp] theorem State.setRegion_flaws (s : State) (p : PierIx) (r : RegionIx) (x : Region) : (s.setRegion p r x).flaws = s.flaws := by rfl
@[simp] theorem State.setRegion_madeImages (s : State) (p : PierIx) (r : RegionIx) (x : Region) : (s.setRegion p r x).madeImages = s.madeImages := by rfl
@[simp] theorem State.setRegion_bootRecords (s : State) (p : PierIx) (r : RegionIx) (x : Region) : (s.setRegion p r x).bootRecords = s.bootRecords := by rfl
@[simp] theorem State.setRegion_deltas (s : State) (p : PierIx) (r : RegionIx) (x : Region) : (s.setRegion p r x).deltas = s.deltas := by rfl
@[simp] theorem State.setRegion_refLost (s : State) (p : PierIx) (r : RegionIx) (x : Region) : (s.setRegion p r x).refLost = s.refLost := by rfl
@[simp] theorem State.setRegion_unnumbered (s : State) (p : PierIx) (r : RegionIx) (x : Region) : (s.setRegion p r x).unnumbered = s.unnumbered := by rfl
@[simp] theorem State.setRegion_retired (s : State) (p : PierIx) (r : RegionIx) (x : Region) : (s.setRegion p r x).retired = s.retired := by rfl
@[simp] theorem State.setRegion_jwAsleep (s : State) (p : PierIx) (r : RegionIx) (x : Region) : (s.setRegion p r x).jwAsleep = s.jwAsleep := by rfl
@[simp] theorem State.setRegion_warmReset (s : State) (p : PierIx) (r : RegionIx) (x : Region) : (s.setRegion p r x).warmReset = s.warmReset := by rfl
@[simp] theorem State.setRegion_straps (s : State) (p : PierIx) (r : RegionIx) (x : Region) : (s.setRegion p r x).straps = s.straps := by rfl

@[simp] theorem State.setSlot_pending (s : State) (p : PierIx) (k : Nat) (x : SlotRec) : (s.setSlot p k x).pending = s.pending := by rfl
@[simp] theorem State.setSlot_outbox (s : State) (p : PierIx) (k : Nat) (x : SlotRec) : (s.setSlot p k x).outbox = s.outbox := by rfl
@[simp] theorem State.setSlot_freeCtr (s : State) (p : PierIx) (k : Nat) (x : SlotRec) : (s.setSlot p k x).freeCtr = s.freeCtr := by rfl
@[simp] theorem State.setSlot_regs (s : State) (p : PierIx) (k : Nat) (x : SlotRec) : (s.setSlot p k x).regs = s.regs := by rfl
@[simp] theorem State.setSlot_mem (s : State) (p : PierIx) (k : Nat) (x : SlotRec) : (s.setSlot p k x).mem = s.mem := by rfl
@[simp] theorem State.setSlot_held (s : State) (p : PierIx) (k : Nat) (x : SlotRec) : (s.setSlot p k x).held = s.held := by rfl
@[simp] theorem State.setSlot_flight (s : State) (p : PierIx) (k : Nat) (x : SlotRec) : (s.setSlot p k x).flight = s.flight := by rfl
@[simp] theorem State.setSlot_binding (s : State) (p : PierIx) (k : Nat) (x : SlotRec) : (s.setSlot p k x).binding = s.binding := by rfl
@[simp] theorem State.setSlot_launchStep (s : State) (p : PierIx) (k : Nat) (x : SlotRec) : (s.setSlot p k x).launchStep = s.launchStep := by rfl
@[simp] theorem State.setSlot_factorT (s : State) (p : PierIx) (k : Nat) (x : SlotRec) : (s.setSlot p k x).factorT = s.factorT := by rfl
@[simp] theorem State.setSlot_factorP (s : State) (p : PierIx) (k : Nat) (x : SlotRec) : (s.setSlot p k x).factorP = s.factorP := by rfl
@[simp] theorem State.setSlot_ramp (s : State) (p : PierIx) (k : Nat) (x : SlotRec) : (s.setSlot p k x).ramp = s.ramp := by rfl
@[simp] theorem State.setSlot_imageBudget (s : State) (p : PierIx) (k : Nat) (x : SlotRec) : (s.setSlot p k x).imageBudget = s.imageBudget := by rfl
@[simp] theorem State.setSlot_imageObject (s : State) (p : PierIx) (k : Nat) (x : SlotRec) : (s.setSlot p k x).imageObject = s.imageObject := by rfl
@[simp] theorem State.setSlot_saves (s : State) (p : PierIx) (k : Nat) (x : SlotRec) : (s.setSlot p k x).saves = s.saves := by rfl
@[simp] theorem State.setSlot_evaluating (s : State) (p : PierIx) (k : Nat) (x : SlotRec) : (s.setSlot p k x).evaluating = s.evaluating := by rfl
@[simp] theorem State.setSlot_commitBarred (s : State) (p : PierIx) (k : Nat) (x : SlotRec) : (s.setSlot p k x).commitBarred = s.commitBarred := by rfl
@[simp] theorem State.setSlot_loopbacks (s : State) (p : PierIx) (k : Nat) (x : SlotRec) : (s.setSlot p k x).loopbacks = s.loopbacks := by rfl
@[simp] theorem State.setSlot_mail (s : State) (p : PierIx) (k : Nat) (x : SlotRec) : (s.setSlot p k x).mail = s.mail := by rfl
@[simp] theorem State.setSlot_jwBusy (s : State) (p : PierIx) (k : Nat) (x : SlotRec) : (s.setSlot p k x).jwBusy = s.jwBusy := by rfl
@[simp] theorem State.setSlot_jwTag (s : State) (p : PierIx) (k : Nat) (x : SlotRec) : (s.setSlot p k x).jwTag = s.jwTag := by rfl
@[simp] theorem State.setSlot_jwHeld (s : State) (p : PierIx) (k : Nat) (x : SlotRec) : (s.setSlot p k x).jwHeld = s.jwHeld := by rfl
@[simp] theorem State.setSlot_mailOrder (s : State) (p : PierIx) (k : Nat) (x : SlotRec) : (s.setSlot p k x).mailOrder = s.mailOrder := by rfl
@[simp] theorem State.setSlot_cmdOrder (s : State) (p : PierIx) (k : Nat) (x : SlotRec) : (s.setSlot p k x).cmdOrder = s.cmdOrder := by rfl
@[simp] theorem State.setSlot_tokenMoves (s : State) (p : PierIx) (k : Nat) (x : SlotRec) : (s.setSlot p k x).tokenMoves = s.tokenMoves := by rfl
@[simp] theorem State.setSlot_admitted (s : State) (p : PierIx) (k : Nat) (x : SlotRec) : (s.setSlot p k x).admitted = s.admitted := by rfl
@[simp] theorem State.setSlot_fenced (s : State) (p : PierIx) (k : Nat) (x : SlotRec) : (s.setSlot p k x).fenced = s.fenced := by rfl
@[simp] theorem State.setSlot_fenceDue (s : State) (p : PierIx) (k : Nat) (x : SlotRec) : (s.setSlot p k x).fenceDue = s.fenceDue := by rfl
@[simp] theorem State.setSlot_piers (s : State) (p : PierIx) (k : Nat) (x : SlotRec) : (s.setSlot p k x).piers = s.piers := by rfl
@[simp] theorem State.setSlot_archs (s : State) (p : PierIx) (k : Nat) (x : SlotRec) : (s.setSlot p k x).archs = s.archs := by rfl
@[simp] theorem State.setSlot_spandrel (s : State) (p : PierIx) (k : Nat) (x : SlotRec) : (s.setSlot p k x).spandrel = s.spandrel := by rfl
@[simp] theorem State.setSlot_regions (s : State) (p : PierIx) (k : Nat) (x : SlotRec) : (s.setSlot p k x).regions = s.regions := by rfl
@[simp] theorem State.setSlot_deckFlips (s : State) (p : PierIx) (k : Nat) (x : SlotRec) : (s.setSlot p k x).deckFlips = s.deckFlips := by rfl
@[simp] theorem State.setSlot_gangs (s : State) (p : PierIx) (k : Nat) (x : SlotRec) : (s.setSlot p k x).gangs = s.gangs := by rfl
@[simp] theorem State.setSlot_refetches (s : State) (p : PierIx) (k : Nat) (x : SlotRec) : (s.setSlot p k x).refetches = s.refetches := by rfl
@[simp] theorem State.setSlot_watch (s : State) (p : PierIx) (k : Nat) (x : SlotRec) : (s.setSlot p k x).watch = s.watch := by rfl
@[simp] theorem State.setSlot_staleNotices (s : State) (p : PierIx) (k : Nat) (x : SlotRec) : (s.setSlot p k x).staleNotices = s.staleNotices := by rfl
@[simp] theorem State.setSlot_openWrites (s : State) (p : PierIx) (k : Nat) (x : SlotRec) : (s.setSlot p k x).openWrites = s.openWrites := by rfl
@[simp] theorem State.setSlot_gates (s : State) (p : PierIx) (k : Nat) (x : SlotRec) : (s.setSlot p k x).gates = s.gates := by rfl
@[simp] theorem State.setSlot_stored (s : State) (p : PierIx) (k : Nat) (x : SlotRec) : (s.setSlot p k x).stored = s.stored := by rfl
@[simp] theorem State.setSlot_tags (s : State) (p : PierIx) (k : Nat) (x : SlotRec) : (s.setSlot p k x).tags = s.tags := by rfl
@[simp] theorem State.setSlot_lastGang (s : State) (p : PierIx) (k : Nat) (x : SlotRec) : (s.setSlot p k x).lastGang = s.lastGang := by rfl
@[simp] theorem State.setSlot_objects (s : State) (p : PierIx) (k : Nat) (x : SlotRec) : (s.setSlot p k x).objects = s.objects := by rfl
@[simp] theorem State.setSlot_homes (s : State) (p : PierIx) (k : Nat) (x : SlotRec) : (s.setSlot p k x).homes = s.homes := by rfl
@[simp] theorem State.setSlot_windows (s : State) (p : PierIx) (k : Nat) (x : SlotRec) : (s.setSlot p k x).windows = s.windows := by rfl
@[simp] theorem State.setSlot_startEpoch (s : State) (p : PierIx) (k : Nat) (x : SlotRec) : (s.setSlot p k x).startEpoch = s.startEpoch := by rfl
@[simp] theorem State.setSlot_poolCfg (s : State) (p : PierIx) (k : Nat) (x : SlotRec) : (s.setSlot p k x).poolCfg = s.poolCfg := by rfl
@[simp] theorem State.setSlot_moves (s : State) (p : PierIx) (k : Nat) (x : SlotRec) : (s.setSlot p k x).moves = s.moves := by rfl
@[simp] theorem State.setSlot_bringUps (s : State) (p : PierIx) (k : Nat) (x : SlotRec) : (s.setSlot p k x).bringUps = s.bringUps := by rfl
@[simp] theorem State.setSlot_runs (s : State) (p : PierIx) (k : Nat) (x : SlotRec) : (s.setSlot p k x).runs = s.runs := by rfl
@[simp] theorem State.setSlot_parapets (s : State) (p : PierIx) (k : Nat) (x : SlotRec) : (s.setSlot p k x).parapets = s.parapets := by rfl
@[simp] theorem State.setSlot_links (s : State) (p : PierIx) (k : Nat) (x : SlotRec) : (s.setSlot p k x).links = s.links := by rfl
@[simp] theorem State.setSlot_cuts (s : State) (p : PierIx) (k : Nat) (x : SlotRec) : (s.setSlot p k x).cuts = s.cuts := by rfl
@[simp] theorem State.setSlot_ringTiles (s : State) (p : PierIx) (k : Nat) (x : SlotRec) : (s.setSlot p k x).ringTiles = s.ringTiles := by rfl
@[simp] theorem State.setSlot_selfMsgs (s : State) (p : PierIx) (k : Nat) (x : SlotRec) : (s.setSlot p k x).selfMsgs = s.selfMsgs := by rfl
@[simp] theorem State.setSlot_nextRemote (s : State) (p : PierIx) (k : Nat) (x : SlotRec) : (s.setSlot p k x).nextRemote = s.nextRemote := by rfl
@[simp] theorem State.setSlot_remotes (s : State) (p : PierIx) (k : Nat) (x : SlotRec) : (s.setSlot p k x).remotes = s.remotes := by rfl
@[simp] theorem State.setSlot_windowWaits (s : State) (p : PierIx) (k : Nat) (x : SlotRec) : (s.setSlot p k x).windowWaits = s.windowWaits := by rfl
@[simp] theorem State.setSlot_mirrorLog (s : State) (p : PierIx) (k : Nat) (x : SlotRec) : (s.setSlot p k x).mirrorLog = s.mirrorLog := by rfl
@[simp] theorem State.setSlot_rejoinSender (s : State) (p : PierIx) (k : Nat) (x : SlotRec) : (s.setSlot p k x).rejoinSender = s.rejoinSender := by rfl
@[simp] theorem State.setSlot_promoted (s : State) (p : PierIx) (k : Nat) (x : SlotRec) : (s.setSlot p k x).promoted = s.promoted := by rfl
@[simp] theorem State.setSlot_mirrorWaits (s : State) (p : PierIx) (k : Nat) (x : SlotRec) : (s.setSlot p k x).mirrorWaits = s.mirrorWaits := by rfl
@[simp] theorem State.setSlot_ring (s : State) (p : PierIx) (k : Nat) (x : SlotRec) : (s.setSlot p k x).ring = s.ring := by rfl
@[simp] theorem State.setSlot_notices (s : State) (p : PierIx) (k : Nat) (x : SlotRec) : (s.setSlot p k x).notices = s.notices := by rfl
@[simp] theorem State.setSlot_taken (s : State) (p : PierIx) (k : Nat) (x : SlotRec) : (s.setSlot p k x).taken = s.taken := by rfl
@[simp] theorem State.setSlot_journalWrites (s : State) (p : PierIx) (k : Nat) (x : SlotRec) : (s.setSlot p k x).journalWrites = s.journalWrites := by rfl
@[simp] theorem State.setSlot_journal (s : State) (p : PierIx) (k : Nat) (x : SlotRec) : (s.setSlot p k x).journal = s.journal := by rfl
@[simp] theorem State.setSlot_phase (s : State) (p : PierIx) (k : Nat) (x : SlotRec) : (s.setSlot p k x).phase = s.phase := by rfl
@[simp] theorem State.setSlot_failed (s : State) (p : PierIx) (k : Nat) (x : SlotRec) : (s.setSlot p k x).failed = s.failed := by rfl
@[simp] theorem State.setSlot_deckMap (s : State) (p : PierIx) (k : Nat) (x : SlotRec) : (s.setSlot p k x).deckMap = s.deckMap := by rfl
@[simp] theorem State.setSlot_pairing (s : State) (p : PierIx) (k : Nat) (x : SlotRec) : (s.setSlot p k x).pairing = s.pairing := by rfl
@[simp] theorem State.setSlot_journalOff (s : State) (p : PierIx) (k : Nat) (x : SlotRec) : (s.setSlot p k x).journalOff = s.journalOff := by rfl
@[simp] theorem State.setSlot_launchedOnce (s : State) (p : PierIx) (k : Nat) (x : SlotRec) : (s.setSlot p k x).launchedOnce = s.launchedOnce := by rfl
@[simp] theorem State.setSlot_queue (s : State) (p : PierIx) (k : Nat) (x : SlotRec) : (s.setSlot p k x).queue = s.queue := by rfl
@[simp] theorem State.setSlot_posted (s : State) (p : PierIx) (k : Nat) (x : SlotRec) : (s.setSlot p k x).posted = s.posted := by rfl
@[simp] theorem State.setSlot_bootWait (s : State) (p : PierIx) (k : Nat) (x : SlotRec) : (s.setSlot p k x).bootWait = s.bootWait := by rfl
@[simp] theorem State.setSlot_recordOut (s : State) (p : PierIx) (k : Nat) (x : SlotRec) : (s.setSlot p k x).recordOut = s.recordOut := by rfl
@[simp] theorem State.setSlot_lostRecords (s : State) (p : PierIx) (k : Nat) (x : SlotRec) : (s.setSlot p k x).lostRecords = s.lostRecords := by rfl
@[simp] theorem State.setSlot_junction (s : State) (p : PierIx) (k : Nat) (x : SlotRec) : (s.setSlot p k x).junction = s.junction := by rfl
@[simp] theorem State.setSlot_coolReads (s : State) (p : PierIx) (k : Nat) (x : SlotRec) : (s.setSlot p k x).coolReads = s.coolReads := by rfl
@[simp] theorem State.setSlot_hotTemps (s : State) (p : PierIx) (k : Nat) (x : SlotRec) : (s.setSlot p k x).hotTemps = s.hotTemps := by rfl
@[simp] theorem State.setSlot_coolTemps (s : State) (p : PierIx) (k : Nat) (x : SlotRec) : (s.setSlot p k x).coolTemps = s.coolTemps := by rfl
@[simp] theorem State.setSlot_coolWindows (s : State) (p : PierIx) (k : Nat) (x : SlotRec) : (s.setSlot p k x).coolWindows = s.coolWindows := by rfl
@[simp] theorem State.setSlot_measureWanted (s : State) (p : PierIx) (k : Nat) (x : SlotRec) : (s.setSlot p k x).measureWanted = s.measureWanted := by rfl
@[simp] theorem State.setSlot_tests (s : State) (p : PierIx) (k : Nat) (x : SlotRec) : (s.setSlot p k x).tests = s.tests := by rfl
@[simp] theorem State.setSlot_bist (s : State) (p : PierIx) (k : Nat) (x : SlotRec) : (s.setSlot p k x).bist = s.bist := by rfl
@[simp] theorem State.setSlot_parked (s : State) (p : PierIx) (k : Nat) (x : SlotRec) : (s.setSlot p k x).parked = s.parked := by rfl
@[simp] theorem State.setSlot_wakeWanted (s : State) (p : PierIx) (k : Nat) (x : SlotRec) : (s.setSlot p k x).wakeWanted = s.wakeWanted := by rfl
@[simp] theorem State.setSlot_openGates (s : State) (p : PierIx) (k : Nat) (x : SlotRec) : (s.setSlot p k x).openGates = s.openGates := by rfl
@[simp] theorem State.setSlot_braceAt (s : State) (p : PierIx) (k : Nat) (x : SlotRec) : (s.setSlot p k x).braceAt = s.braceAt := by rfl
@[simp] theorem State.setSlot_recovering (s : State) (p : PierIx) (k : Nat) (x : SlotRec) : (s.setSlot p k x).recovering = s.recovering := by rfl
@[simp] theorem State.setSlot_nor (s : State) (p : PierIx) (k : Nat) (x : SlotRec) : (s.setSlot p k x).nor = s.nor := by rfl
@[simp] theorem State.setSlot_running (s : State) (p : PierIx) (k : Nat) (x : SlotRec) : (s.setSlot p k x).running = s.running := by rfl
@[simp] theorem State.setSlot_noPorts (s : State) (p : PierIx) (k : Nat) (x : SlotRec) : (s.setSlot p k x).noPorts = s.noPorts := by rfl
@[simp] theorem State.setSlot_firmwareKeys (s : State) (p : PierIx) (k : Nat) (x : SlotRec) : (s.setSlot p k x).firmwareKeys = s.firmwareKeys := by rfl
@[simp] theorem State.setSlot_programKeys (s : State) (p : PierIx) (k : Nat) (x : SlotRec) : (s.setSlot p k x).programKeys = s.programKeys := by rfl
@[simp] theorem State.setSlot_passwords (s : State) (p : PierIx) (k : Nat) (x : SlotRec) : (s.setSlot p k x).passwords = s.passwords := by rfl
@[simp] theorem State.setSlot_debugKeys (s : State) (p : PierIx) (k : Nat) (x : SlotRec) : (s.setSlot p k x).debugKeys = s.debugKeys := by rfl
@[simp] theorem State.setSlot_challenge (s : State) (p : PierIx) (k : Nat) (x : SlotRec) : (s.setSlot p k x).challenge = s.challenge := by rfl
@[simp] theorem State.setSlot_authFails (s : State) (p : PierIx) (k : Nat) (x : SlotRec) : (s.setSlot p k x).authFails = s.authFails := by rfl
@[simp] theorem State.setSlot_authBarred (s : State) (p : PierIx) (k : Nat) (x : SlotRec) : (s.setSlot p k x).authBarred = s.authBarred := by rfl
@[simp] theorem State.setSlot_opened (s : State) (p : PierIx) (k : Nat) (x : SlotRec) : (s.setSlot p k x).opened = s.opened := by rfl
@[simp] theorem State.setSlot_probes (s : State) (p : PierIx) (k : Nat) (x : SlotRec) : (s.setSlot p k x).probes = s.probes := by rfl
@[simp] theorem State.setSlot_hostWaits (s : State) (p : PierIx) (k : Nat) (x : SlotRec) : (s.setSlot p k x).hostWaits = s.hostWaits := by rfl
@[simp] theorem State.setSlot_routerFails (s : State) (p : PierIx) (k : Nat) (x : SlotRec) : (s.setSlot p k x).routerFails = s.routerFails := by rfl
@[simp] theorem State.setSlot_sbAddress (s : State) (p : PierIx) (k : Nat) (x : SlotRec) : (s.setSlot p k x).sbAddress = s.sbAddress := by rfl
@[simp] theorem State.setSlot_flaws (s : State) (p : PierIx) (k : Nat) (x : SlotRec) : (s.setSlot p k x).flaws = s.flaws := by rfl
@[simp] theorem State.setSlot_madeImages (s : State) (p : PierIx) (k : Nat) (x : SlotRec) : (s.setSlot p k x).madeImages = s.madeImages := by rfl
@[simp] theorem State.setSlot_bootRecords (s : State) (p : PierIx) (k : Nat) (x : SlotRec) : (s.setSlot p k x).bootRecords = s.bootRecords := by rfl
@[simp] theorem State.setSlot_deltas (s : State) (p : PierIx) (k : Nat) (x : SlotRec) : (s.setSlot p k x).deltas = s.deltas := by rfl
@[simp] theorem State.setSlot_refLost (s : State) (p : PierIx) (k : Nat) (x : SlotRec) : (s.setSlot p k x).refLost = s.refLost := by rfl
@[simp] theorem State.setSlot_unnumbered (s : State) (p : PierIx) (k : Nat) (x : SlotRec) : (s.setSlot p k x).unnumbered = s.unnumbered := by rfl
@[simp] theorem State.setSlot_retired (s : State) (p : PierIx) (k : Nat) (x : SlotRec) : (s.setSlot p k x).retired = s.retired := by rfl
@[simp] theorem State.setSlot_jwAsleep (s : State) (p : PierIx) (k : Nat) (x : SlotRec) : (s.setSlot p k x).jwAsleep = s.jwAsleep := by rfl
@[simp] theorem State.setSlot_warmReset (s : State) (p : PierIx) (k : Nat) (x : SlotRec) : (s.setSlot p k x).warmReset = s.warmReset := by rfl
@[simp] theorem State.setSlot_straps (s : State) (p : PierIx) (k : Nat) (x : SlotRec) : (s.setSlot p k x).straps = s.straps := by rfl

@[simp] theorem State.addWork_pending (s : State) (w : Work) : (s.addWork w).pending = s.pending := by rfl
@[simp] theorem State.addWork_outbox (s : State) (w : Work) : (s.addWork w).outbox = s.outbox := by rfl
@[simp] theorem State.addWork_freeCtr (s : State) (w : Work) : (s.addWork w).freeCtr = s.freeCtr := by rfl
@[simp] theorem State.addWork_regs (s : State) (w : Work) : (s.addWork w).regs = s.regs := by rfl
@[simp] theorem State.addWork_mem (s : State) (w : Work) : (s.addWork w).mem = s.mem := by rfl
@[simp] theorem State.addWork_held (s : State) (w : Work) : (s.addWork w).held = s.held := by rfl
@[simp] theorem State.addWork_binding (s : State) (w : Work) : (s.addWork w).binding = s.binding := by rfl
@[simp] theorem State.addWork_launchStep (s : State) (w : Work) : (s.addWork w).launchStep = s.launchStep := by rfl
@[simp] theorem State.addWork_factorT (s : State) (w : Work) : (s.addWork w).factorT = s.factorT := by rfl
@[simp] theorem State.addWork_factorP (s : State) (w : Work) : (s.addWork w).factorP = s.factorP := by rfl
@[simp] theorem State.addWork_ramp (s : State) (w : Work) : (s.addWork w).ramp = s.ramp := by rfl
@[simp] theorem State.addWork_imageBudget (s : State) (w : Work) : (s.addWork w).imageBudget = s.imageBudget := by rfl
@[simp] theorem State.addWork_imageObject (s : State) (w : Work) : (s.addWork w).imageObject = s.imageObject := by rfl
@[simp] theorem State.addWork_saves (s : State) (w : Work) : (s.addWork w).saves = s.saves := by rfl
@[simp] theorem State.addWork_evaluating (s : State) (w : Work) : (s.addWork w).evaluating = s.evaluating := by rfl
@[simp] theorem State.addWork_commitBarred (s : State) (w : Work) : (s.addWork w).commitBarred = s.commitBarred := by rfl
@[simp] theorem State.addWork_loopbacks (s : State) (w : Work) : (s.addWork w).loopbacks = s.loopbacks := by rfl
@[simp] theorem State.addWork_mail (s : State) (w : Work) : (s.addWork w).mail = s.mail := by rfl
@[simp] theorem State.addWork_jwBusy (s : State) (w : Work) : (s.addWork w).jwBusy = s.jwBusy := by rfl
@[simp] theorem State.addWork_jwTag (s : State) (w : Work) : (s.addWork w).jwTag = s.jwTag := by rfl
@[simp] theorem State.addWork_jwHeld (s : State) (w : Work) : (s.addWork w).jwHeld = s.jwHeld := by rfl
@[simp] theorem State.addWork_mailOrder (s : State) (w : Work) : (s.addWork w).mailOrder = s.mailOrder := by rfl
@[simp] theorem State.addWork_cmdOrder (s : State) (w : Work) : (s.addWork w).cmdOrder = s.cmdOrder := by rfl
@[simp] theorem State.addWork_tokenMoves (s : State) (w : Work) : (s.addWork w).tokenMoves = s.tokenMoves := by rfl
@[simp] theorem State.addWork_admitted (s : State) (w : Work) : (s.addWork w).admitted = s.admitted := by rfl
@[simp] theorem State.addWork_fenced (s : State) (w : Work) : (s.addWork w).fenced = s.fenced := by rfl
@[simp] theorem State.addWork_fenceDue (s : State) (w : Work) : (s.addWork w).fenceDue = s.fenceDue := by rfl
@[simp] theorem State.addWork_piers (s : State) (w : Work) : (s.addWork w).piers = s.piers := by rfl
@[simp] theorem State.addWork_archs (s : State) (w : Work) : (s.addWork w).archs = s.archs := by rfl
@[simp] theorem State.addWork_spandrel (s : State) (w : Work) : (s.addWork w).spandrel = s.spandrel := by rfl
@[simp] theorem State.addWork_regions (s : State) (w : Work) : (s.addWork w).regions = s.regions := by rfl
@[simp] theorem State.addWork_deckFlips (s : State) (w : Work) : (s.addWork w).deckFlips = s.deckFlips := by rfl
@[simp] theorem State.addWork_slots (s : State) (w : Work) : (s.addWork w).slots = s.slots := by rfl
@[simp] theorem State.addWork_gangs (s : State) (w : Work) : (s.addWork w).gangs = s.gangs := by rfl
@[simp] theorem State.addWork_refetches (s : State) (w : Work) : (s.addWork w).refetches = s.refetches := by rfl
@[simp] theorem State.addWork_watch (s : State) (w : Work) : (s.addWork w).watch = s.watch := by rfl
@[simp] theorem State.addWork_staleNotices (s : State) (w : Work) : (s.addWork w).staleNotices = s.staleNotices := by rfl
@[simp] theorem State.addWork_openWrites (s : State) (w : Work) : (s.addWork w).openWrites = s.openWrites := by rfl
@[simp] theorem State.addWork_gates (s : State) (w : Work) : (s.addWork w).gates = s.gates := by rfl
@[simp] theorem State.addWork_stored (s : State) (w : Work) : (s.addWork w).stored = s.stored := by rfl
@[simp] theorem State.addWork_tags (s : State) (w : Work) : (s.addWork w).tags = s.tags := by rfl
@[simp] theorem State.addWork_lastGang (s : State) (w : Work) : (s.addWork w).lastGang = s.lastGang := by rfl
@[simp] theorem State.addWork_objects (s : State) (w : Work) : (s.addWork w).objects = s.objects := by rfl
@[simp] theorem State.addWork_homes (s : State) (w : Work) : (s.addWork w).homes = s.homes := by rfl
@[simp] theorem State.addWork_windows (s : State) (w : Work) : (s.addWork w).windows = s.windows := by rfl
@[simp] theorem State.addWork_startEpoch (s : State) (w : Work) : (s.addWork w).startEpoch = s.startEpoch := by rfl
@[simp] theorem State.addWork_poolCfg (s : State) (w : Work) : (s.addWork w).poolCfg = s.poolCfg := by rfl
@[simp] theorem State.addWork_moves (s : State) (w : Work) : (s.addWork w).moves = s.moves := by rfl
@[simp] theorem State.addWork_bringUps (s : State) (w : Work) : (s.addWork w).bringUps = s.bringUps := by rfl
@[simp] theorem State.addWork_runs (s : State) (w : Work) : (s.addWork w).runs = s.runs := by rfl
@[simp] theorem State.addWork_parapets (s : State) (w : Work) : (s.addWork w).parapets = s.parapets := by rfl
@[simp] theorem State.addWork_links (s : State) (w : Work) : (s.addWork w).links = s.links := by rfl
@[simp] theorem State.addWork_cuts (s : State) (w : Work) : (s.addWork w).cuts = s.cuts := by rfl
@[simp] theorem State.addWork_ringTiles (s : State) (w : Work) : (s.addWork w).ringTiles = s.ringTiles := by rfl
@[simp] theorem State.addWork_selfMsgs (s : State) (w : Work) : (s.addWork w).selfMsgs = s.selfMsgs := by rfl
@[simp] theorem State.addWork_nextRemote (s : State) (w : Work) : (s.addWork w).nextRemote = s.nextRemote := by rfl
@[simp] theorem State.addWork_remotes (s : State) (w : Work) : (s.addWork w).remotes = s.remotes := by rfl
@[simp] theorem State.addWork_windowWaits (s : State) (w : Work) : (s.addWork w).windowWaits = s.windowWaits := by rfl
@[simp] theorem State.addWork_mirrorLog (s : State) (w : Work) : (s.addWork w).mirrorLog = s.mirrorLog := by rfl
@[simp] theorem State.addWork_rejoinSender (s : State) (w : Work) : (s.addWork w).rejoinSender = s.rejoinSender := by rfl
@[simp] theorem State.addWork_promoted (s : State) (w : Work) : (s.addWork w).promoted = s.promoted := by rfl
@[simp] theorem State.addWork_mirrorWaits (s : State) (w : Work) : (s.addWork w).mirrorWaits = s.mirrorWaits := by rfl
@[simp] theorem State.addWork_ring (s : State) (w : Work) : (s.addWork w).ring = s.ring := by rfl
@[simp] theorem State.addWork_notices (s : State) (w : Work) : (s.addWork w).notices = s.notices := by rfl
@[simp] theorem State.addWork_taken (s : State) (w : Work) : (s.addWork w).taken = s.taken := by rfl
@[simp] theorem State.addWork_journalWrites (s : State) (w : Work) : (s.addWork w).journalWrites = s.journalWrites := by rfl
@[simp] theorem State.addWork_journal (s : State) (w : Work) : (s.addWork w).journal = s.journal := by rfl
@[simp] theorem State.addWork_phase (s : State) (w : Work) : (s.addWork w).phase = s.phase := by rfl
@[simp] theorem State.addWork_failed (s : State) (w : Work) : (s.addWork w).failed = s.failed := by rfl
@[simp] theorem State.addWork_deckMap (s : State) (w : Work) : (s.addWork w).deckMap = s.deckMap := by rfl
@[simp] theorem State.addWork_pairing (s : State) (w : Work) : (s.addWork w).pairing = s.pairing := by rfl
@[simp] theorem State.addWork_journalOff (s : State) (w : Work) : (s.addWork w).journalOff = s.journalOff := by rfl
@[simp] theorem State.addWork_launchedOnce (s : State) (w : Work) : (s.addWork w).launchedOnce = s.launchedOnce := by rfl
@[simp] theorem State.addWork_queue (s : State) (w : Work) : (s.addWork w).queue = s.queue := by rfl
@[simp] theorem State.addWork_posted (s : State) (w : Work) : (s.addWork w).posted = s.posted := by rfl
@[simp] theorem State.addWork_bootWait (s : State) (w : Work) : (s.addWork w).bootWait = s.bootWait := by rfl
@[simp] theorem State.addWork_recordOut (s : State) (w : Work) : (s.addWork w).recordOut = s.recordOut := by rfl
@[simp] theorem State.addWork_lostRecords (s : State) (w : Work) : (s.addWork w).lostRecords = s.lostRecords := by rfl
@[simp] theorem State.addWork_junction (s : State) (w : Work) : (s.addWork w).junction = s.junction := by rfl
@[simp] theorem State.addWork_coolReads (s : State) (w : Work) : (s.addWork w).coolReads = s.coolReads := by rfl
@[simp] theorem State.addWork_hotTemps (s : State) (w : Work) : (s.addWork w).hotTemps = s.hotTemps := by rfl
@[simp] theorem State.addWork_coolTemps (s : State) (w : Work) : (s.addWork w).coolTemps = s.coolTemps := by rfl
@[simp] theorem State.addWork_coolWindows (s : State) (w : Work) : (s.addWork w).coolWindows = s.coolWindows := by rfl
@[simp] theorem State.addWork_measureWanted (s : State) (w : Work) : (s.addWork w).measureWanted = s.measureWanted := by rfl
@[simp] theorem State.addWork_tests (s : State) (w : Work) : (s.addWork w).tests = s.tests := by rfl
@[simp] theorem State.addWork_bist (s : State) (w : Work) : (s.addWork w).bist = s.bist := by rfl
@[simp] theorem State.addWork_parked (s : State) (w : Work) : (s.addWork w).parked = s.parked := by rfl
@[simp] theorem State.addWork_wakeWanted (s : State) (w : Work) : (s.addWork w).wakeWanted = s.wakeWanted := by rfl
@[simp] theorem State.addWork_openGates (s : State) (w : Work) : (s.addWork w).openGates = s.openGates := by rfl
@[simp] theorem State.addWork_braceAt (s : State) (w : Work) : (s.addWork w).braceAt = s.braceAt := by rfl
@[simp] theorem State.addWork_recovering (s : State) (w : Work) : (s.addWork w).recovering = s.recovering := by rfl
@[simp] theorem State.addWork_nor (s : State) (w : Work) : (s.addWork w).nor = s.nor := by rfl
@[simp] theorem State.addWork_running (s : State) (w : Work) : (s.addWork w).running = s.running := by rfl
@[simp] theorem State.addWork_noPorts (s : State) (w : Work) : (s.addWork w).noPorts = s.noPorts := by rfl
@[simp] theorem State.addWork_firmwareKeys (s : State) (w : Work) : (s.addWork w).firmwareKeys = s.firmwareKeys := by rfl
@[simp] theorem State.addWork_programKeys (s : State) (w : Work) : (s.addWork w).programKeys = s.programKeys := by rfl
@[simp] theorem State.addWork_passwords (s : State) (w : Work) : (s.addWork w).passwords = s.passwords := by rfl
@[simp] theorem State.addWork_debugKeys (s : State) (w : Work) : (s.addWork w).debugKeys = s.debugKeys := by rfl
@[simp] theorem State.addWork_challenge (s : State) (w : Work) : (s.addWork w).challenge = s.challenge := by rfl
@[simp] theorem State.addWork_authFails (s : State) (w : Work) : (s.addWork w).authFails = s.authFails := by rfl
@[simp] theorem State.addWork_authBarred (s : State) (w : Work) : (s.addWork w).authBarred = s.authBarred := by rfl
@[simp] theorem State.addWork_opened (s : State) (w : Work) : (s.addWork w).opened = s.opened := by rfl
@[simp] theorem State.addWork_probes (s : State) (w : Work) : (s.addWork w).probes = s.probes := by rfl
@[simp] theorem State.addWork_hostWaits (s : State) (w : Work) : (s.addWork w).hostWaits = s.hostWaits := by rfl
@[simp] theorem State.addWork_routerFails (s : State) (w : Work) : (s.addWork w).routerFails = s.routerFails := by rfl
@[simp] theorem State.addWork_sbAddress (s : State) (w : Work) : (s.addWork w).sbAddress = s.sbAddress := by rfl
@[simp] theorem State.addWork_flaws (s : State) (w : Work) : (s.addWork w).flaws = s.flaws := by rfl
@[simp] theorem State.addWork_madeImages (s : State) (w : Work) : (s.addWork w).madeImages = s.madeImages := by rfl
@[simp] theorem State.addWork_bootRecords (s : State) (w : Work) : (s.addWork w).bootRecords = s.bootRecords := by rfl
@[simp] theorem State.addWork_deltas (s : State) (w : Work) : (s.addWork w).deltas = s.deltas := by rfl
@[simp] theorem State.addWork_refLost (s : State) (w : Work) : (s.addWork w).refLost = s.refLost := by rfl
@[simp] theorem State.addWork_unnumbered (s : State) (w : Work) : (s.addWork w).unnumbered = s.unnumbered := by rfl
@[simp] theorem State.addWork_retired (s : State) (w : Work) : (s.addWork w).retired = s.retired := by rfl
@[simp] theorem State.addWork_jwAsleep (s : State) (w : Work) : (s.addWork w).jwAsleep = s.jwAsleep := by rfl
@[simp] theorem State.addWork_warmReset (s : State) (w : Work) : (s.addWork w).warmReset = s.warmReset := by rfl
@[simp] theorem State.addWork_straps (s : State) (w : Work) : (s.addWork w).straps = s.straps := by rfl

@[simp] theorem State.journalise_pending (s : State) (r : JRecord) : (s.journalise r).pending = s.pending := by rfl
@[simp] theorem State.journalise_outbox (s : State) (r : JRecord) : (s.journalise r).outbox = s.outbox := by rfl
@[simp] theorem State.journalise_freeCtr (s : State) (r : JRecord) : (s.journalise r).freeCtr = s.freeCtr := by rfl
@[simp] theorem State.journalise_regs (s : State) (r : JRecord) : (s.journalise r).regs = s.regs := by rfl
@[simp] theorem State.journalise_mem (s : State) (r : JRecord) : (s.journalise r).mem = s.mem := by rfl
@[simp] theorem State.journalise_held (s : State) (r : JRecord) : (s.journalise r).held = s.held := by rfl
@[simp] theorem State.journalise_flight (s : State) (r : JRecord) : (s.journalise r).flight = s.flight := by rfl
@[simp] theorem State.journalise_binding (s : State) (r : JRecord) : (s.journalise r).binding = s.binding := by rfl
@[simp] theorem State.journalise_launchStep (s : State) (r : JRecord) : (s.journalise r).launchStep = s.launchStep := by rfl
@[simp] theorem State.journalise_factorT (s : State) (r : JRecord) : (s.journalise r).factorT = s.factorT := by rfl
@[simp] theorem State.journalise_factorP (s : State) (r : JRecord) : (s.journalise r).factorP = s.factorP := by rfl
@[simp] theorem State.journalise_ramp (s : State) (r : JRecord) : (s.journalise r).ramp = s.ramp := by rfl
@[simp] theorem State.journalise_imageBudget (s : State) (r : JRecord) : (s.journalise r).imageBudget = s.imageBudget := by rfl
@[simp] theorem State.journalise_imageObject (s : State) (r : JRecord) : (s.journalise r).imageObject = s.imageObject := by rfl
@[simp] theorem State.journalise_saves (s : State) (r : JRecord) : (s.journalise r).saves = s.saves := by rfl
@[simp] theorem State.journalise_evaluating (s : State) (r : JRecord) : (s.journalise r).evaluating = s.evaluating := by rfl
@[simp] theorem State.journalise_commitBarred (s : State) (r : JRecord) : (s.journalise r).commitBarred = s.commitBarred := by rfl
@[simp] theorem State.journalise_loopbacks (s : State) (r : JRecord) : (s.journalise r).loopbacks = s.loopbacks := by rfl
@[simp] theorem State.journalise_mail (s : State) (r : JRecord) : (s.journalise r).mail = s.mail := by rfl
@[simp] theorem State.journalise_jwBusy (s : State) (r : JRecord) : (s.journalise r).jwBusy = s.jwBusy := by rfl
@[simp] theorem State.journalise_jwTag (s : State) (r : JRecord) : (s.journalise r).jwTag = s.jwTag := by rfl
@[simp] theorem State.journalise_jwHeld (s : State) (r : JRecord) : (s.journalise r).jwHeld = s.jwHeld := by rfl
@[simp] theorem State.journalise_mailOrder (s : State) (r : JRecord) : (s.journalise r).mailOrder = s.mailOrder := by rfl
@[simp] theorem State.journalise_cmdOrder (s : State) (r : JRecord) : (s.journalise r).cmdOrder = s.cmdOrder := by rfl
@[simp] theorem State.journalise_tokenMoves (s : State) (r : JRecord) : (s.journalise r).tokenMoves = s.tokenMoves := by rfl
@[simp] theorem State.journalise_admitted (s : State) (r : JRecord) : (s.journalise r).admitted = s.admitted := by rfl
@[simp] theorem State.journalise_fenced (s : State) (r : JRecord) : (s.journalise r).fenced = s.fenced := by rfl
@[simp] theorem State.journalise_fenceDue (s : State) (r : JRecord) : (s.journalise r).fenceDue = s.fenceDue := by rfl
@[simp] theorem State.journalise_piers (s : State) (r : JRecord) : (s.journalise r).piers = s.piers := by rfl
@[simp] theorem State.journalise_archs (s : State) (r : JRecord) : (s.journalise r).archs = s.archs := by rfl
@[simp] theorem State.journalise_spandrel (s : State) (r : JRecord) : (s.journalise r).spandrel = s.spandrel := by rfl
@[simp] theorem State.journalise_regions (s : State) (r : JRecord) : (s.journalise r).regions = s.regions := by rfl
@[simp] theorem State.journalise_deckFlips (s : State) (r : JRecord) : (s.journalise r).deckFlips = s.deckFlips := by rfl
@[simp] theorem State.journalise_slots (s : State) (r : JRecord) : (s.journalise r).slots = s.slots := by rfl
@[simp] theorem State.journalise_gangs (s : State) (r : JRecord) : (s.journalise r).gangs = s.gangs := by rfl
@[simp] theorem State.journalise_refetches (s : State) (r : JRecord) : (s.journalise r).refetches = s.refetches := by rfl
@[simp] theorem State.journalise_watch (s : State) (r : JRecord) : (s.journalise r).watch = s.watch := by rfl
@[simp] theorem State.journalise_staleNotices (s : State) (r : JRecord) : (s.journalise r).staleNotices = s.staleNotices := by rfl
@[simp] theorem State.journalise_openWrites (s : State) (r : JRecord) : (s.journalise r).openWrites = s.openWrites := by rfl
@[simp] theorem State.journalise_gates (s : State) (r : JRecord) : (s.journalise r).gates = s.gates := by rfl
@[simp] theorem State.journalise_stored (s : State) (r : JRecord) : (s.journalise r).stored = s.stored := by rfl
@[simp] theorem State.journalise_tags (s : State) (r : JRecord) : (s.journalise r).tags = s.tags := by rfl
@[simp] theorem State.journalise_lastGang (s : State) (r : JRecord) : (s.journalise r).lastGang = s.lastGang := by rfl
@[simp] theorem State.journalise_objects (s : State) (r : JRecord) : (s.journalise r).objects = s.objects := by rfl
@[simp] theorem State.journalise_homes (s : State) (r : JRecord) : (s.journalise r).homes = s.homes := by rfl
@[simp] theorem State.journalise_windows (s : State) (r : JRecord) : (s.journalise r).windows = s.windows := by rfl
@[simp] theorem State.journalise_startEpoch (s : State) (r : JRecord) : (s.journalise r).startEpoch = s.startEpoch := by rfl
@[simp] theorem State.journalise_poolCfg (s : State) (r : JRecord) : (s.journalise r).poolCfg = s.poolCfg := by rfl
@[simp] theorem State.journalise_moves (s : State) (r : JRecord) : (s.journalise r).moves = s.moves := by rfl
@[simp] theorem State.journalise_bringUps (s : State) (r : JRecord) : (s.journalise r).bringUps = s.bringUps := by rfl
@[simp] theorem State.journalise_runs (s : State) (r : JRecord) : (s.journalise r).runs = s.runs := by rfl
@[simp] theorem State.journalise_parapets (s : State) (r : JRecord) : (s.journalise r).parapets = s.parapets := by rfl
@[simp] theorem State.journalise_links (s : State) (r : JRecord) : (s.journalise r).links = s.links := by rfl
@[simp] theorem State.journalise_cuts (s : State) (r : JRecord) : (s.journalise r).cuts = s.cuts := by rfl
@[simp] theorem State.journalise_ringTiles (s : State) (r : JRecord) : (s.journalise r).ringTiles = s.ringTiles := by rfl
@[simp] theorem State.journalise_selfMsgs (s : State) (r : JRecord) : (s.journalise r).selfMsgs = s.selfMsgs := by rfl
@[simp] theorem State.journalise_nextRemote (s : State) (r : JRecord) : (s.journalise r).nextRemote = s.nextRemote := by rfl
@[simp] theorem State.journalise_remotes (s : State) (r : JRecord) : (s.journalise r).remotes = s.remotes := by rfl
@[simp] theorem State.journalise_windowWaits (s : State) (r : JRecord) : (s.journalise r).windowWaits = s.windowWaits := by rfl
@[simp] theorem State.journalise_mirrorLog (s : State) (r : JRecord) : (s.journalise r).mirrorLog = s.mirrorLog := by rfl
@[simp] theorem State.journalise_rejoinSender (s : State) (r : JRecord) : (s.journalise r).rejoinSender = s.rejoinSender := by rfl
@[simp] theorem State.journalise_promoted (s : State) (r : JRecord) : (s.journalise r).promoted = s.promoted := by rfl
@[simp] theorem State.journalise_mirrorWaits (s : State) (r : JRecord) : (s.journalise r).mirrorWaits = s.mirrorWaits := by rfl
@[simp] theorem State.journalise_ring (s : State) (r : JRecord) : (s.journalise r).ring = s.ring := by rfl
@[simp] theorem State.journalise_notices (s : State) (r : JRecord) : (s.journalise r).notices = s.notices := by rfl
@[simp] theorem State.journalise_taken (s : State) (r : JRecord) : (s.journalise r).taken = s.taken := by rfl
@[simp] theorem State.journalise_journal (s : State) (r : JRecord) : (s.journalise r).journal = s.journal := by rfl
@[simp] theorem State.journalise_phase (s : State) (r : JRecord) : (s.journalise r).phase = s.phase := by rfl
@[simp] theorem State.journalise_failed (s : State) (r : JRecord) : (s.journalise r).failed = s.failed := by rfl
@[simp] theorem State.journalise_deckMap (s : State) (r : JRecord) : (s.journalise r).deckMap = s.deckMap := by rfl
@[simp] theorem State.journalise_pairing (s : State) (r : JRecord) : (s.journalise r).pairing = s.pairing := by rfl
@[simp] theorem State.journalise_journalOff (s : State) (r : JRecord) : (s.journalise r).journalOff = s.journalOff := by rfl
@[simp] theorem State.journalise_launchedOnce (s : State) (r : JRecord) : (s.journalise r).launchedOnce = s.launchedOnce := by rfl
@[simp] theorem State.journalise_queue (s : State) (r : JRecord) : (s.journalise r).queue = s.queue := by rfl
@[simp] theorem State.journalise_posted (s : State) (r : JRecord) : (s.journalise r).posted = s.posted := by rfl
@[simp] theorem State.journalise_bootWait (s : State) (r : JRecord) : (s.journalise r).bootWait = s.bootWait := by rfl
@[simp] theorem State.journalise_recordOut (s : State) (r : JRecord) : (s.journalise r).recordOut = s.recordOut := by rfl
@[simp] theorem State.journalise_lostRecords (s : State) (r : JRecord) : (s.journalise r).lostRecords = s.lostRecords := by rfl
@[simp] theorem State.journalise_junction (s : State) (r : JRecord) : (s.journalise r).junction = s.junction := by rfl
@[simp] theorem State.journalise_coolReads (s : State) (r : JRecord) : (s.journalise r).coolReads = s.coolReads := by rfl
@[simp] theorem State.journalise_hotTemps (s : State) (r : JRecord) : (s.journalise r).hotTemps = s.hotTemps := by rfl
@[simp] theorem State.journalise_coolTemps (s : State) (r : JRecord) : (s.journalise r).coolTemps = s.coolTemps := by rfl
@[simp] theorem State.journalise_coolWindows (s : State) (r : JRecord) : (s.journalise r).coolWindows = s.coolWindows := by rfl
@[simp] theorem State.journalise_measureWanted (s : State) (r : JRecord) : (s.journalise r).measureWanted = s.measureWanted := by rfl
@[simp] theorem State.journalise_tests (s : State) (r : JRecord) : (s.journalise r).tests = s.tests := by rfl
@[simp] theorem State.journalise_bist (s : State) (r : JRecord) : (s.journalise r).bist = s.bist := by rfl
@[simp] theorem State.journalise_parked (s : State) (r : JRecord) : (s.journalise r).parked = s.parked := by rfl
@[simp] theorem State.journalise_wakeWanted (s : State) (r : JRecord) : (s.journalise r).wakeWanted = s.wakeWanted := by rfl
@[simp] theorem State.journalise_openGates (s : State) (r : JRecord) : (s.journalise r).openGates = s.openGates := by rfl
@[simp] theorem State.journalise_braceAt (s : State) (r : JRecord) : (s.journalise r).braceAt = s.braceAt := by rfl
@[simp] theorem State.journalise_recovering (s : State) (r : JRecord) : (s.journalise r).recovering = s.recovering := by rfl
@[simp] theorem State.journalise_nor (s : State) (r : JRecord) : (s.journalise r).nor = s.nor := by rfl
@[simp] theorem State.journalise_running (s : State) (r : JRecord) : (s.journalise r).running = s.running := by rfl
@[simp] theorem State.journalise_noPorts (s : State) (r : JRecord) : (s.journalise r).noPorts = s.noPorts := by rfl
@[simp] theorem State.journalise_firmwareKeys (s : State) (r : JRecord) : (s.journalise r).firmwareKeys = s.firmwareKeys := by rfl
@[simp] theorem State.journalise_programKeys (s : State) (r : JRecord) : (s.journalise r).programKeys = s.programKeys := by rfl
@[simp] theorem State.journalise_passwords (s : State) (r : JRecord) : (s.journalise r).passwords = s.passwords := by rfl
@[simp] theorem State.journalise_debugKeys (s : State) (r : JRecord) : (s.journalise r).debugKeys = s.debugKeys := by rfl
@[simp] theorem State.journalise_challenge (s : State) (r : JRecord) : (s.journalise r).challenge = s.challenge := by rfl
@[simp] theorem State.journalise_authFails (s : State) (r : JRecord) : (s.journalise r).authFails = s.authFails := by rfl
@[simp] theorem State.journalise_authBarred (s : State) (r : JRecord) : (s.journalise r).authBarred = s.authBarred := by rfl
@[simp] theorem State.journalise_opened (s : State) (r : JRecord) : (s.journalise r).opened = s.opened := by rfl
@[simp] theorem State.journalise_probes (s : State) (r : JRecord) : (s.journalise r).probes = s.probes := by rfl
@[simp] theorem State.journalise_hostWaits (s : State) (r : JRecord) : (s.journalise r).hostWaits = s.hostWaits := by rfl
@[simp] theorem State.journalise_routerFails (s : State) (r : JRecord) : (s.journalise r).routerFails = s.routerFails := by rfl
@[simp] theorem State.journalise_sbAddress (s : State) (r : JRecord) : (s.journalise r).sbAddress = s.sbAddress := by rfl
@[simp] theorem State.journalise_flaws (s : State) (r : JRecord) : (s.journalise r).flaws = s.flaws := by rfl
@[simp] theorem State.journalise_madeImages (s : State) (r : JRecord) : (s.journalise r).madeImages = s.madeImages := by rfl
@[simp] theorem State.journalise_bootRecords (s : State) (r : JRecord) : (s.journalise r).bootRecords = s.bootRecords := by rfl
@[simp] theorem State.journalise_deltas (s : State) (r : JRecord) : (s.journalise r).deltas = s.deltas := by rfl
@[simp] theorem State.journalise_refLost (s : State) (r : JRecord) : (s.journalise r).refLost = s.refLost := by rfl
@[simp] theorem State.journalise_unnumbered (s : State) (r : JRecord) : (s.journalise r).unnumbered = s.unnumbered := by rfl
@[simp] theorem State.journalise_retired (s : State) (r : JRecord) : (s.journalise r).retired = s.retired := by rfl
@[simp] theorem State.journalise_jwAsleep (s : State) (r : JRecord) : (s.journalise r).jwAsleep = s.jwAsleep := by rfl
@[simp] theorem State.journalise_warmReset (s : State) (r : JRecord) : (s.journalise r).warmReset = s.warmReset := by rfl
@[simp] theorem State.journalise_straps (s : State) (r : JRecord) : (s.journalise r).straps = s.straps := by rfl

@[simp] theorem State.hold_pending (s : State) (y : Bool) (i : Instr) : (s.hold y i).pending = s.pending := by rfl
@[simp] theorem State.hold_outbox (s : State) (y : Bool) (i : Instr) : (s.hold y i).outbox = s.outbox := by rfl
@[simp] theorem State.hold_freeCtr (s : State) (y : Bool) (i : Instr) : (s.hold y i).freeCtr = s.freeCtr := by rfl
@[simp] theorem State.hold_regs (s : State) (y : Bool) (i : Instr) : (s.hold y i).regs = s.regs := by rfl
@[simp] theorem State.hold_mem (s : State) (y : Bool) (i : Instr) : (s.hold y i).mem = s.mem := by rfl
@[simp] theorem State.hold_flight (s : State) (y : Bool) (i : Instr) : (s.hold y i).flight = s.flight := by rfl
@[simp] theorem State.hold_binding (s : State) (y : Bool) (i : Instr) : (s.hold y i).binding = s.binding := by rfl
@[simp] theorem State.hold_launchStep (s : State) (y : Bool) (i : Instr) : (s.hold y i).launchStep = s.launchStep := by rfl
@[simp] theorem State.hold_factorT (s : State) (y : Bool) (i : Instr) : (s.hold y i).factorT = s.factorT := by rfl
@[simp] theorem State.hold_factorP (s : State) (y : Bool) (i : Instr) : (s.hold y i).factorP = s.factorP := by rfl
@[simp] theorem State.hold_ramp (s : State) (y : Bool) (i : Instr) : (s.hold y i).ramp = s.ramp := by rfl
@[simp] theorem State.hold_imageBudget (s : State) (y : Bool) (i : Instr) : (s.hold y i).imageBudget = s.imageBudget := by rfl
@[simp] theorem State.hold_imageObject (s : State) (y : Bool) (i : Instr) : (s.hold y i).imageObject = s.imageObject := by rfl
@[simp] theorem State.hold_saves (s : State) (y : Bool) (i : Instr) : (s.hold y i).saves = s.saves := by rfl
@[simp] theorem State.hold_evaluating (s : State) (y : Bool) (i : Instr) : (s.hold y i).evaluating = s.evaluating := by rfl
@[simp] theorem State.hold_commitBarred (s : State) (y : Bool) (i : Instr) : (s.hold y i).commitBarred = s.commitBarred := by rfl
@[simp] theorem State.hold_loopbacks (s : State) (y : Bool) (i : Instr) : (s.hold y i).loopbacks = s.loopbacks := by rfl
@[simp] theorem State.hold_mail (s : State) (y : Bool) (i : Instr) : (s.hold y i).mail = s.mail := by rfl
@[simp] theorem State.hold_jwBusy (s : State) (y : Bool) (i : Instr) : (s.hold y i).jwBusy = s.jwBusy := by rfl
@[simp] theorem State.hold_jwTag (s : State) (y : Bool) (i : Instr) : (s.hold y i).jwTag = s.jwTag := by rfl
@[simp] theorem State.hold_jwHeld (s : State) (y : Bool) (i : Instr) : (s.hold y i).jwHeld = s.jwHeld := by rfl
@[simp] theorem State.hold_mailOrder (s : State) (y : Bool) (i : Instr) : (s.hold y i).mailOrder = s.mailOrder := by rfl
@[simp] theorem State.hold_cmdOrder (s : State) (y : Bool) (i : Instr) : (s.hold y i).cmdOrder = s.cmdOrder := by rfl
@[simp] theorem State.hold_tokenMoves (s : State) (y : Bool) (i : Instr) : (s.hold y i).tokenMoves = s.tokenMoves := by rfl
@[simp] theorem State.hold_admitted (s : State) (y : Bool) (i : Instr) : (s.hold y i).admitted = s.admitted := by rfl
@[simp] theorem State.hold_fenced (s : State) (y : Bool) (i : Instr) : (s.hold y i).fenced = s.fenced := by rfl
@[simp] theorem State.hold_fenceDue (s : State) (y : Bool) (i : Instr) : (s.hold y i).fenceDue = s.fenceDue := by rfl
@[simp] theorem State.hold_piers (s : State) (y : Bool) (i : Instr) : (s.hold y i).piers = s.piers := by rfl
@[simp] theorem State.hold_archs (s : State) (y : Bool) (i : Instr) : (s.hold y i).archs = s.archs := by rfl
@[simp] theorem State.hold_spandrel (s : State) (y : Bool) (i : Instr) : (s.hold y i).spandrel = s.spandrel := by rfl
@[simp] theorem State.hold_regions (s : State) (y : Bool) (i : Instr) : (s.hold y i).regions = s.regions := by rfl
@[simp] theorem State.hold_deckFlips (s : State) (y : Bool) (i : Instr) : (s.hold y i).deckFlips = s.deckFlips := by rfl
@[simp] theorem State.hold_slots (s : State) (y : Bool) (i : Instr) : (s.hold y i).slots = s.slots := by rfl
@[simp] theorem State.hold_gangs (s : State) (y : Bool) (i : Instr) : (s.hold y i).gangs = s.gangs := by rfl
@[simp] theorem State.hold_refetches (s : State) (y : Bool) (i : Instr) : (s.hold y i).refetches = s.refetches := by rfl
@[simp] theorem State.hold_watch (s : State) (y : Bool) (i : Instr) : (s.hold y i).watch = s.watch := by rfl
@[simp] theorem State.hold_staleNotices (s : State) (y : Bool) (i : Instr) : (s.hold y i).staleNotices = s.staleNotices := by rfl
@[simp] theorem State.hold_openWrites (s : State) (y : Bool) (i : Instr) : (s.hold y i).openWrites = s.openWrites := by rfl
@[simp] theorem State.hold_gates (s : State) (y : Bool) (i : Instr) : (s.hold y i).gates = s.gates := by rfl
@[simp] theorem State.hold_stored (s : State) (y : Bool) (i : Instr) : (s.hold y i).stored = s.stored := by rfl
@[simp] theorem State.hold_tags (s : State) (y : Bool) (i : Instr) : (s.hold y i).tags = s.tags := by rfl
@[simp] theorem State.hold_lastGang (s : State) (y : Bool) (i : Instr) : (s.hold y i).lastGang = s.lastGang := by rfl
@[simp] theorem State.hold_objects (s : State) (y : Bool) (i : Instr) : (s.hold y i).objects = s.objects := by rfl
@[simp] theorem State.hold_homes (s : State) (y : Bool) (i : Instr) : (s.hold y i).homes = s.homes := by rfl
@[simp] theorem State.hold_windows (s : State) (y : Bool) (i : Instr) : (s.hold y i).windows = s.windows := by rfl
@[simp] theorem State.hold_startEpoch (s : State) (y : Bool) (i : Instr) : (s.hold y i).startEpoch = s.startEpoch := by rfl
@[simp] theorem State.hold_poolCfg (s : State) (y : Bool) (i : Instr) : (s.hold y i).poolCfg = s.poolCfg := by rfl
@[simp] theorem State.hold_moves (s : State) (y : Bool) (i : Instr) : (s.hold y i).moves = s.moves := by rfl
@[simp] theorem State.hold_bringUps (s : State) (y : Bool) (i : Instr) : (s.hold y i).bringUps = s.bringUps := by rfl
@[simp] theorem State.hold_runs (s : State) (y : Bool) (i : Instr) : (s.hold y i).runs = s.runs := by rfl
@[simp] theorem State.hold_parapets (s : State) (y : Bool) (i : Instr) : (s.hold y i).parapets = s.parapets := by rfl
@[simp] theorem State.hold_links (s : State) (y : Bool) (i : Instr) : (s.hold y i).links = s.links := by rfl
@[simp] theorem State.hold_cuts (s : State) (y : Bool) (i : Instr) : (s.hold y i).cuts = s.cuts := by rfl
@[simp] theorem State.hold_ringTiles (s : State) (y : Bool) (i : Instr) : (s.hold y i).ringTiles = s.ringTiles := by rfl
@[simp] theorem State.hold_selfMsgs (s : State) (y : Bool) (i : Instr) : (s.hold y i).selfMsgs = s.selfMsgs := by rfl
@[simp] theorem State.hold_nextRemote (s : State) (y : Bool) (i : Instr) : (s.hold y i).nextRemote = s.nextRemote := by rfl
@[simp] theorem State.hold_remotes (s : State) (y : Bool) (i : Instr) : (s.hold y i).remotes = s.remotes := by rfl
@[simp] theorem State.hold_windowWaits (s : State) (y : Bool) (i : Instr) : (s.hold y i).windowWaits = s.windowWaits := by rfl
@[simp] theorem State.hold_mirrorLog (s : State) (y : Bool) (i : Instr) : (s.hold y i).mirrorLog = s.mirrorLog := by rfl
@[simp] theorem State.hold_rejoinSender (s : State) (y : Bool) (i : Instr) : (s.hold y i).rejoinSender = s.rejoinSender := by rfl
@[simp] theorem State.hold_promoted (s : State) (y : Bool) (i : Instr) : (s.hold y i).promoted = s.promoted := by rfl
@[simp] theorem State.hold_mirrorWaits (s : State) (y : Bool) (i : Instr) : (s.hold y i).mirrorWaits = s.mirrorWaits := by rfl
@[simp] theorem State.hold_ring (s : State) (y : Bool) (i : Instr) : (s.hold y i).ring = s.ring := by rfl
@[simp] theorem State.hold_notices (s : State) (y : Bool) (i : Instr) : (s.hold y i).notices = s.notices := by rfl
@[simp] theorem State.hold_taken (s : State) (y : Bool) (i : Instr) : (s.hold y i).taken = s.taken := by rfl
@[simp] theorem State.hold_journalWrites (s : State) (y : Bool) (i : Instr) : (s.hold y i).journalWrites = s.journalWrites := by rfl
@[simp] theorem State.hold_journal (s : State) (y : Bool) (i : Instr) : (s.hold y i).journal = s.journal := by rfl
@[simp] theorem State.hold_phase (s : State) (y : Bool) (i : Instr) : (s.hold y i).phase = s.phase := by rfl
@[simp] theorem State.hold_failed (s : State) (y : Bool) (i : Instr) : (s.hold y i).failed = s.failed := by rfl
@[simp] theorem State.hold_deckMap (s : State) (y : Bool) (i : Instr) : (s.hold y i).deckMap = s.deckMap := by rfl
@[simp] theorem State.hold_pairing (s : State) (y : Bool) (i : Instr) : (s.hold y i).pairing = s.pairing := by rfl
@[simp] theorem State.hold_journalOff (s : State) (y : Bool) (i : Instr) : (s.hold y i).journalOff = s.journalOff := by rfl
@[simp] theorem State.hold_launchedOnce (s : State) (y : Bool) (i : Instr) : (s.hold y i).launchedOnce = s.launchedOnce := by rfl
@[simp] theorem State.hold_queue (s : State) (y : Bool) (i : Instr) : (s.hold y i).queue = s.queue := by rfl
@[simp] theorem State.hold_posted (s : State) (y : Bool) (i : Instr) : (s.hold y i).posted = s.posted := by rfl
@[simp] theorem State.hold_bootWait (s : State) (y : Bool) (i : Instr) : (s.hold y i).bootWait = s.bootWait := by rfl
@[simp] theorem State.hold_recordOut (s : State) (y : Bool) (i : Instr) : (s.hold y i).recordOut = s.recordOut := by rfl
@[simp] theorem State.hold_lostRecords (s : State) (y : Bool) (i : Instr) : (s.hold y i).lostRecords = s.lostRecords := by rfl
@[simp] theorem State.hold_junction (s : State) (y : Bool) (i : Instr) : (s.hold y i).junction = s.junction := by rfl
@[simp] theorem State.hold_coolReads (s : State) (y : Bool) (i : Instr) : (s.hold y i).coolReads = s.coolReads := by rfl
@[simp] theorem State.hold_hotTemps (s : State) (y : Bool) (i : Instr) : (s.hold y i).hotTemps = s.hotTemps := by rfl
@[simp] theorem State.hold_coolTemps (s : State) (y : Bool) (i : Instr) : (s.hold y i).coolTemps = s.coolTemps := by rfl
@[simp] theorem State.hold_coolWindows (s : State) (y : Bool) (i : Instr) : (s.hold y i).coolWindows = s.coolWindows := by rfl
@[simp] theorem State.hold_measureWanted (s : State) (y : Bool) (i : Instr) : (s.hold y i).measureWanted = s.measureWanted := by rfl
@[simp] theorem State.hold_tests (s : State) (y : Bool) (i : Instr) : (s.hold y i).tests = s.tests := by rfl
@[simp] theorem State.hold_bist (s : State) (y : Bool) (i : Instr) : (s.hold y i).bist = s.bist := by rfl
@[simp] theorem State.hold_parked (s : State) (y : Bool) (i : Instr) : (s.hold y i).parked = s.parked := by rfl
@[simp] theorem State.hold_wakeWanted (s : State) (y : Bool) (i : Instr) : (s.hold y i).wakeWanted = s.wakeWanted := by rfl
@[simp] theorem State.hold_openGates (s : State) (y : Bool) (i : Instr) : (s.hold y i).openGates = s.openGates := by rfl
@[simp] theorem State.hold_braceAt (s : State) (y : Bool) (i : Instr) : (s.hold y i).braceAt = s.braceAt := by rfl
@[simp] theorem State.hold_recovering (s : State) (y : Bool) (i : Instr) : (s.hold y i).recovering = s.recovering := by rfl
@[simp] theorem State.hold_nor (s : State) (y : Bool) (i : Instr) : (s.hold y i).nor = s.nor := by rfl
@[simp] theorem State.hold_running (s : State) (y : Bool) (i : Instr) : (s.hold y i).running = s.running := by rfl
@[simp] theorem State.hold_noPorts (s : State) (y : Bool) (i : Instr) : (s.hold y i).noPorts = s.noPorts := by rfl
@[simp] theorem State.hold_firmwareKeys (s : State) (y : Bool) (i : Instr) : (s.hold y i).firmwareKeys = s.firmwareKeys := by rfl
@[simp] theorem State.hold_programKeys (s : State) (y : Bool) (i : Instr) : (s.hold y i).programKeys = s.programKeys := by rfl
@[simp] theorem State.hold_passwords (s : State) (y : Bool) (i : Instr) : (s.hold y i).passwords = s.passwords := by rfl
@[simp] theorem State.hold_debugKeys (s : State) (y : Bool) (i : Instr) : (s.hold y i).debugKeys = s.debugKeys := by rfl
@[simp] theorem State.hold_challenge (s : State) (y : Bool) (i : Instr) : (s.hold y i).challenge = s.challenge := by rfl
@[simp] theorem State.hold_authFails (s : State) (y : Bool) (i : Instr) : (s.hold y i).authFails = s.authFails := by rfl
@[simp] theorem State.hold_authBarred (s : State) (y : Bool) (i : Instr) : (s.hold y i).authBarred = s.authBarred := by rfl
@[simp] theorem State.hold_opened (s : State) (y : Bool) (i : Instr) : (s.hold y i).opened = s.opened := by rfl
@[simp] theorem State.hold_probes (s : State) (y : Bool) (i : Instr) : (s.hold y i).probes = s.probes := by rfl
@[simp] theorem State.hold_hostWaits (s : State) (y : Bool) (i : Instr) : (s.hold y i).hostWaits = s.hostWaits := by rfl
@[simp] theorem State.hold_routerFails (s : State) (y : Bool) (i : Instr) : (s.hold y i).routerFails = s.routerFails := by rfl
@[simp] theorem State.hold_sbAddress (s : State) (y : Bool) (i : Instr) : (s.hold y i).sbAddress = s.sbAddress := by rfl
@[simp] theorem State.hold_flaws (s : State) (y : Bool) (i : Instr) : (s.hold y i).flaws = s.flaws := by rfl
@[simp] theorem State.hold_madeImages (s : State) (y : Bool) (i : Instr) : (s.hold y i).madeImages = s.madeImages := by rfl
@[simp] theorem State.hold_bootRecords (s : State) (y : Bool) (i : Instr) : (s.hold y i).bootRecords = s.bootRecords := by rfl
@[simp] theorem State.hold_deltas (s : State) (y : Bool) (i : Instr) : (s.hold y i).deltas = s.deltas := by rfl
@[simp] theorem State.hold_refLost (s : State) (y : Bool) (i : Instr) : (s.hold y i).refLost = s.refLost := by rfl
@[simp] theorem State.hold_unnumbered (s : State) (y : Bool) (i : Instr) : (s.hold y i).unnumbered = s.unnumbered := by rfl
@[simp] theorem State.hold_retired (s : State) (y : Bool) (i : Instr) : (s.hold y i).retired = s.retired := by rfl
@[simp] theorem State.hold_jwAsleep (s : State) (y : Bool) (i : Instr) : (s.hold y i).jwAsleep = s.jwAsleep := by rfl
@[simp] theorem State.hold_warmReset (s : State) (y : Bool) (i : Instr) : (s.hold y i).warmReset = s.warmReset := by rfl
@[simp] theorem State.hold_straps (s : State) (y : Bool) (i : Instr) : (s.hold y i).straps = s.straps := by rfl

@[simp] theorem State.byte_setReg (s : State) (r : RegName) (i : Nat) (w : Word) (b : Nat) : (s.setReg r i w).byte b = s.byte b := by rfl
@[simp] theorem State.pier_setReg (s : State) (r : RegName) (i : Nat) (w : Word) (q : PierIx) : (s.setReg r i w).pier q = s.pier q := by rfl
@[simp] theorem State.arch_setReg (s : State) (r : RegName) (i : Nat) (w : Word) (q : PierIx) (c : ArchIx) : (s.setReg r i w).arch q c = s.arch q c := by rfl
@[simp] theorem State.entry_setReg (s : State) (r : RegName) (i : Nat) (w : Word) (q : PierIx) (c : ArchIx) (j : Nat) : (s.setReg r i w).entry q c j = s.entry q c j := by rfl
@[simp] theorem State.region_setReg (s : State) (r : RegName) (i : Nat) (w : Word) (q : PierIx) (k : RegionIx) : (s.setReg r i w).region q k = s.region q k := by rfl
@[simp] theorem State.slot_setReg (s : State) (r : RegName) (i : Nat) (w : Word) (q : PierIx) (j : Nat) : (s.setReg r i w).slot q j = s.slot q j := by rfl

@[simp] theorem State.byte_setFld (s : State) (f : Fld) (i v : Nat) (b : Nat) : (s.setFld f i v).byte b = s.byte b := by rfl
@[simp] theorem State.pier_setFld (s : State) (f : Fld) (i v : Nat) (q : PierIx) : (s.setFld f i v).pier q = s.pier q := by rfl
@[simp] theorem State.arch_setFld (s : State) (f : Fld) (i v : Nat) (q : PierIx) (c : ArchIx) : (s.setFld f i v).arch q c = s.arch q c := by rfl
@[simp] theorem State.entry_setFld (s : State) (f : Fld) (i v : Nat) (q : PierIx) (c : ArchIx) (j : Nat) : (s.setFld f i v).entry q c j = s.entry q c j := by rfl
@[simp] theorem State.region_setFld (s : State) (f : Fld) (i v : Nat) (q : PierIx) (k : RegionIx) : (s.setFld f i v).region q k = s.region q k := by rfl
@[simp] theorem State.slot_setFld (s : State) (f : Fld) (i v : Nat) (q : PierIx) (j : Nat) : (s.setFld f i v).slot q j = s.slot q j := by rfl

@[simp] theorem State.byte_bump (s : State) (f : Fld) (i n : Nat) (b : Nat) : (s.bump f i n).byte b = s.byte b := by rfl
@[simp] theorem State.pier_bump (s : State) (f : Fld) (i n : Nat) (q : PierIx) : (s.bump f i n).pier q = s.pier q := by rfl
@[simp] theorem State.arch_bump (s : State) (f : Fld) (i n : Nat) (q : PierIx) (c : ArchIx) : (s.bump f i n).arch q c = s.arch q c := by rfl
@[simp] theorem State.entry_bump (s : State) (f : Fld) (i n : Nat) (q : PierIx) (c : ArchIx) (j : Nat) : (s.bump f i n).entry q c j = s.entry q c j := by rfl
@[simp] theorem State.region_bump (s : State) (f : Fld) (i n : Nat) (q : PierIx) (k : RegionIx) : (s.bump f i n).region q k = s.region q k := by rfl
@[simp] theorem State.slot_bump (s : State) (f : Fld) (i n : Nat) (q : PierIx) (j : Nat) : (s.bump f i n).slot q j = s.slot q j := by rfl

@[simp] theorem State.byte_wrapAdd (s : State) (f : Fld) (i n : Nat) (b : Nat) : (s.wrapAdd f i n).byte b = s.byte b := by rfl
@[simp] theorem State.pier_wrapAdd (s : State) (f : Fld) (i n : Nat) (q : PierIx) : (s.wrapAdd f i n).pier q = s.pier q := by rfl
@[simp] theorem State.arch_wrapAdd (s : State) (f : Fld) (i n : Nat) (q : PierIx) (c : ArchIx) : (s.wrapAdd f i n).arch q c = s.arch q c := by rfl
@[simp] theorem State.entry_wrapAdd (s : State) (f : Fld) (i n : Nat) (q : PierIx) (c : ArchIx) (j : Nat) : (s.wrapAdd f i n).entry q c j = s.entry q c j := by rfl
@[simp] theorem State.region_wrapAdd (s : State) (f : Fld) (i n : Nat) (q : PierIx) (k : RegionIx) : (s.wrapAdd f i n).region q k = s.region q k := by rfl
@[simp] theorem State.slot_wrapAdd (s : State) (f : Fld) (i n : Nat) (q : PierIx) (j : Nat) : (s.wrapAdd f i n).slot q j = s.slot q j := by rfl

@[simp] theorem State.reg_writeBytes (s : State) (a : Nat) (bs : List Byte) (q : RegName) (j : Nat) : (s.writeBytes a bs).reg q j = s.reg q j := by rfl
@[simp] theorem State.fld_writeBytes (s : State) (a : Nat) (bs : List Byte) (g : Fld) (j : Nat) : (s.writeBytes a bs).fld g j = s.fld g j := by rfl
@[simp] theorem State.flag_writeBytes (s : State) (a : Nat) (bs : List Byte) (g : Fld) (j : Nat) : (s.writeBytes a bs).flag g j = s.flag g j := by rfl
@[simp] theorem State.now_writeBytes (s : State) (a : Nat) (bs : List Byte)  : (s.writeBytes a bs).now  = s.now  := by rfl
@[simp] theorem State.stepNo_writeBytes (s : State) (a : Nat) (bs : List Byte)  : (s.writeBytes a bs).stepNo  = s.stepNo  := by rfl
@[simp] theorem State.domOf_writeBytes (s : State) (a : Nat) (bs : List Byte) (q : PierIx) : (s.writeBytes a bs).domOf q = s.domOf q := by rfl
@[simp] theorem State.issuing_writeBytes (s : State) (a : Nat) (bs : List Byte) (q : PierIx) : (s.writeBytes a bs).issuing q = s.issuing q := by rfl
@[simp] theorem State.stalled_writeBytes (s : State) (a : Nat) (bs : List Byte) (q : PierIx) : (s.writeBytes a bs).stalled q = s.stalled q := by rfl
@[simp] theorem State.pier_writeBytes (s : State) (a : Nat) (bs : List Byte) (q : PierIx) : (s.writeBytes a bs).pier q = s.pier q := by rfl
@[simp] theorem State.arch_writeBytes (s : State) (a : Nat) (bs : List Byte) (q : PierIx) (c : ArchIx) : (s.writeBytes a bs).arch q c = s.arch q c := by rfl
@[simp] theorem State.entry_writeBytes (s : State) (a : Nat) (bs : List Byte) (q : PierIx) (c : ArchIx) (j : Nat) : (s.writeBytes a bs).entry q c j = s.entry q c j := by rfl
@[simp] theorem State.region_writeBytes (s : State) (a : Nat) (bs : List Byte) (q : PierIx) (k : RegionIx) : (s.writeBytes a bs).region q k = s.region q k := by rfl
@[simp] theorem State.slot_writeBytes (s : State) (a : Nat) (bs : List Byte) (q : PierIx) (j : Nat) : (s.writeBytes a bs).slot q j = s.slot q j := by rfl

@[simp] theorem State.reg_send (s : State) (m : OutMsg) (q : RegName) (j : Nat) : (s.send m).reg q j = s.reg q j := by rfl
@[simp] theorem State.fld_send (s : State) (m : OutMsg) (g : Fld) (j : Nat) : (s.send m).fld g j = s.fld g j := by rfl
@[simp] theorem State.flag_send (s : State) (m : OutMsg) (g : Fld) (j : Nat) : (s.send m).flag g j = s.flag g j := by rfl
@[simp] theorem State.now_send (s : State) (m : OutMsg)  : (s.send m).now  = s.now  := by rfl
@[simp] theorem State.stepNo_send (s : State) (m : OutMsg)  : (s.send m).stepNo  = s.stepNo  := by rfl
@[simp] theorem State.domOf_send (s : State) (m : OutMsg) (q : PierIx) : (s.send m).domOf q = s.domOf q := by rfl
@[simp] theorem State.issuing_send (s : State) (m : OutMsg) (q : PierIx) : (s.send m).issuing q = s.issuing q := by rfl
@[simp] theorem State.stalled_send (s : State) (m : OutMsg) (q : PierIx) : (s.send m).stalled q = s.stalled q := by rfl
@[simp] theorem State.byte_send (s : State) (m : OutMsg) (b : Nat) : (s.send m).byte b = s.byte b := by rfl
@[simp] theorem State.pier_send (s : State) (m : OutMsg) (q : PierIx) : (s.send m).pier q = s.pier q := by rfl
@[simp] theorem State.arch_send (s : State) (m : OutMsg) (q : PierIx) (c : ArchIx) : (s.send m).arch q c = s.arch q c := by rfl
@[simp] theorem State.entry_send (s : State) (m : OutMsg) (q : PierIx) (c : ArchIx) (j : Nat) : (s.send m).entry q c j = s.entry q c j := by rfl
@[simp] theorem State.region_send (s : State) (m : OutMsg) (q : PierIx) (k : RegionIx) : (s.send m).region q k = s.region q k := by rfl
@[simp] theorem State.slot_send (s : State) (m : OutMsg) (q : PierIx) (j : Nat) : (s.send m).slot q j = s.slot q j := by rfl

@[simp] theorem State.reg_setPier (s : State) (p : PierIx) (x : Pier) (q : RegName) (j : Nat) : (s.setPier p x).reg q j = s.reg q j := by rfl
@[simp] theorem State.fld_setPier (s : State) (p : PierIx) (x : Pier) (g : Fld) (j : Nat) : (s.setPier p x).fld g j = s.fld g j := by rfl
@[simp] theorem State.flag_setPier (s : State) (p : PierIx) (x : Pier) (g : Fld) (j : Nat) : (s.setPier p x).flag g j = s.flag g j := by rfl
@[simp] theorem State.now_setPier (s : State) (p : PierIx) (x : Pier)  : (s.setPier p x).now  = s.now  := by rfl
@[simp] theorem State.stepNo_setPier (s : State) (p : PierIx) (x : Pier)  : (s.setPier p x).stepNo  = s.stepNo  := by rfl
@[simp] theorem State.domOf_setPier (s : State) (p : PierIx) (x : Pier) (q : PierIx) : (s.setPier p x).domOf q = s.domOf q := by rfl
@[simp] theorem State.issuing_setPier (s : State) (p : PierIx) (x : Pier) (q : PierIx) : (s.setPier p x).issuing q = s.issuing q := by rfl
@[simp] theorem State.stalled_setPier (s : State) (p : PierIx) (x : Pier) (q : PierIx) : (s.setPier p x).stalled q = s.stalled q := by rfl
@[simp] theorem State.byte_setPier (s : State) (p : PierIx) (x : Pier) (b : Nat) : (s.setPier p x).byte b = s.byte b := by rfl
@[simp] theorem State.arch_setPier (s : State) (p : PierIx) (x : Pier) (q : PierIx) (c : ArchIx) : (s.setPier p x).arch q c = s.arch q c := by rfl
@[simp] theorem State.entry_setPier (s : State) (p : PierIx) (x : Pier) (q : PierIx) (c : ArchIx) (j : Nat) : (s.setPier p x).entry q c j = s.entry q c j := by rfl
@[simp] theorem State.region_setPier (s : State) (p : PierIx) (x : Pier) (q : PierIx) (k : RegionIx) : (s.setPier p x).region q k = s.region q k := by rfl
@[simp] theorem State.slot_setPier (s : State) (p : PierIx) (x : Pier) (q : PierIx) (j : Nat) : (s.setPier p x).slot q j = s.slot q j := by rfl

@[simp] theorem State.reg_setArch (s : State) (p : PierIx) (a : ArchIx) (x : Arch) (q : RegName) (j : Nat) : (s.setArch p a x).reg q j = s.reg q j := by rfl
@[simp] theorem State.fld_setArch (s : State) (p : PierIx) (a : ArchIx) (x : Arch) (g : Fld) (j : Nat) : (s.setArch p a x).fld g j = s.fld g j := by rfl
@[simp] theorem State.flag_setArch (s : State) (p : PierIx) (a : ArchIx) (x : Arch) (g : Fld) (j : Nat) : (s.setArch p a x).flag g j = s.flag g j := by rfl
@[simp] theorem State.now_setArch (s : State) (p : PierIx) (a : ArchIx) (x : Arch)  : (s.setArch p a x).now  = s.now  := by rfl
@[simp] theorem State.stepNo_setArch (s : State) (p : PierIx) (a : ArchIx) (x : Arch)  : (s.setArch p a x).stepNo  = s.stepNo  := by rfl
@[simp] theorem State.domOf_setArch (s : State) (p : PierIx) (a : ArchIx) (x : Arch) (q : PierIx) : (s.setArch p a x).domOf q = s.domOf q := by rfl
@[simp] theorem State.issuing_setArch (s : State) (p : PierIx) (a : ArchIx) (x : Arch) (q : PierIx) : (s.setArch p a x).issuing q = s.issuing q := by rfl
@[simp] theorem State.stalled_setArch (s : State) (p : PierIx) (a : ArchIx) (x : Arch) (q : PierIx) : (s.setArch p a x).stalled q = s.stalled q := by rfl
@[simp] theorem State.byte_setArch (s : State) (p : PierIx) (a : ArchIx) (x : Arch) (b : Nat) : (s.setArch p a x).byte b = s.byte b := by rfl
@[simp] theorem State.pier_setArch (s : State) (p : PierIx) (a : ArchIx) (x : Arch) (q : PierIx) : (s.setArch p a x).pier q = s.pier q := by rfl
@[simp] theorem State.entry_setArch (s : State) (p : PierIx) (a : ArchIx) (x : Arch) (q : PierIx) (c : ArchIx) (j : Nat) : (s.setArch p a x).entry q c j = s.entry q c j := by rfl
@[simp] theorem State.region_setArch (s : State) (p : PierIx) (a : ArchIx) (x : Arch) (q : PierIx) (k : RegionIx) : (s.setArch p a x).region q k = s.region q k := by rfl
@[simp] theorem State.slot_setArch (s : State) (p : PierIx) (a : ArchIx) (x : Arch) (q : PierIx) (j : Nat) : (s.setArch p a x).slot q j = s.slot q j := by rfl

@[simp] theorem State.reg_setEntry (s : State) (p : PierIx) (a : ArchIx) (i : Nat) (e : Entry) (q : RegName) (j : Nat) : (s.setEntry p a i e).reg q j = s.reg q j := by rfl
@[simp] theorem State.fld_setEntry (s : State) (p : PierIx) (a : ArchIx) (i : Nat) (e : Entry) (g : Fld) (j : Nat) : (s.setEntry p a i e).fld g j = s.fld g j := by rfl
@[simp] theorem State.flag_setEntry (s : State) (p : PierIx) (a : ArchIx) (i : Nat) (e : Entry) (g : Fld) (j : Nat) : (s.setEntry p a i e).flag g j = s.flag g j := by rfl
@[simp] theorem State.now_setEntry (s : State) (p : PierIx) (a : ArchIx) (i : Nat) (e : Entry)  : (s.setEntry p a i e).now  = s.now  := by rfl
@[simp] theorem State.stepNo_setEntry (s : State) (p : PierIx) (a : ArchIx) (i : Nat) (e : Entry)  : (s.setEntry p a i e).stepNo  = s.stepNo  := by rfl
@[simp] theorem State.domOf_setEntry (s : State) (p : PierIx) (a : ArchIx) (i : Nat) (e : Entry) (q : PierIx) : (s.setEntry p a i e).domOf q = s.domOf q := by rfl
@[simp] theorem State.issuing_setEntry (s : State) (p : PierIx) (a : ArchIx) (i : Nat) (e : Entry) (q : PierIx) : (s.setEntry p a i e).issuing q = s.issuing q := by rfl
@[simp] theorem State.stalled_setEntry (s : State) (p : PierIx) (a : ArchIx) (i : Nat) (e : Entry) (q : PierIx) : (s.setEntry p a i e).stalled q = s.stalled q := by rfl
@[simp] theorem State.byte_setEntry (s : State) (p : PierIx) (a : ArchIx) (i : Nat) (e : Entry) (b : Nat) : (s.setEntry p a i e).byte b = s.byte b := by rfl
@[simp] theorem State.pier_setEntry (s : State) (p : PierIx) (a : ArchIx) (i : Nat) (e : Entry) (q : PierIx) : (s.setEntry p a i e).pier q = s.pier q := by rfl
@[simp] theorem State.arch_setEntry (s : State) (p : PierIx) (a : ArchIx) (i : Nat) (e : Entry) (q : PierIx) (c : ArchIx) : (s.setEntry p a i e).arch q c = s.arch q c := by rfl
@[simp] theorem State.region_setEntry (s : State) (p : PierIx) (a : ArchIx) (i : Nat) (e : Entry) (q : PierIx) (k : RegionIx) : (s.setEntry p a i e).region q k = s.region q k := by rfl
@[simp] theorem State.slot_setEntry (s : State) (p : PierIx) (a : ArchIx) (i : Nat) (e : Entry) (q : PierIx) (j : Nat) : (s.setEntry p a i e).slot q j = s.slot q j := by rfl

@[simp] theorem State.reg_setRegion (s : State) (p : PierIx) (r : RegionIx) (x : Region) (q : RegName) (j : Nat) : (s.setRegion p r x).reg q j = s.reg q j := by rfl
@[simp] theorem State.fld_setRegion (s : State) (p : PierIx) (r : RegionIx) (x : Region) (g : Fld) (j : Nat) : (s.setRegion p r x).fld g j = s.fld g j := by rfl
@[simp] theorem State.flag_setRegion (s : State) (p : PierIx) (r : RegionIx) (x : Region) (g : Fld) (j : Nat) : (s.setRegion p r x).flag g j = s.flag g j := by rfl
@[simp] theorem State.now_setRegion (s : State) (p : PierIx) (r : RegionIx) (x : Region)  : (s.setRegion p r x).now  = s.now  := by rfl
@[simp] theorem State.stepNo_setRegion (s : State) (p : PierIx) (r : RegionIx) (x : Region)  : (s.setRegion p r x).stepNo  = s.stepNo  := by rfl
@[simp] theorem State.domOf_setRegion (s : State) (p : PierIx) (r : RegionIx) (x : Region) (q : PierIx) : (s.setRegion p r x).domOf q = s.domOf q := by rfl
@[simp] theorem State.issuing_setRegion (s : State) (p : PierIx) (r : RegionIx) (x : Region) (q : PierIx) : (s.setRegion p r x).issuing q = s.issuing q := by rfl
@[simp] theorem State.stalled_setRegion (s : State) (p : PierIx) (r : RegionIx) (x : Region) (q : PierIx) : (s.setRegion p r x).stalled q = s.stalled q := by rfl
@[simp] theorem State.byte_setRegion (s : State) (p : PierIx) (r : RegionIx) (x : Region) (b : Nat) : (s.setRegion p r x).byte b = s.byte b := by rfl
@[simp] theorem State.pier_setRegion (s : State) (p : PierIx) (r : RegionIx) (x : Region) (q : PierIx) : (s.setRegion p r x).pier q = s.pier q := by rfl
@[simp] theorem State.arch_setRegion (s : State) (p : PierIx) (r : RegionIx) (x : Region) (q : PierIx) (c : ArchIx) : (s.setRegion p r x).arch q c = s.arch q c := by rfl
@[simp] theorem State.entry_setRegion (s : State) (p : PierIx) (r : RegionIx) (x : Region) (q : PierIx) (c : ArchIx) (j : Nat) : (s.setRegion p r x).entry q c j = s.entry q c j := by rfl
@[simp] theorem State.slot_setRegion (s : State) (p : PierIx) (r : RegionIx) (x : Region) (q : PierIx) (j : Nat) : (s.setRegion p r x).slot q j = s.slot q j := by rfl

@[simp] theorem State.reg_setSlot (s : State) (p : PierIx) (n : Nat) (x : SlotRec) (q : RegName) (j : Nat) : (s.setSlot p n x).reg q j = s.reg q j := by rfl
@[simp] theorem State.fld_setSlot (s : State) (p : PierIx) (n : Nat) (x : SlotRec) (g : Fld) (j : Nat) : (s.setSlot p n x).fld g j = s.fld g j := by rfl
@[simp] theorem State.flag_setSlot (s : State) (p : PierIx) (n : Nat) (x : SlotRec) (g : Fld) (j : Nat) : (s.setSlot p n x).flag g j = s.flag g j := by rfl
@[simp] theorem State.now_setSlot (s : State) (p : PierIx) (n : Nat) (x : SlotRec)  : (s.setSlot p n x).now  = s.now  := by rfl
@[simp] theorem State.stepNo_setSlot (s : State) (p : PierIx) (n : Nat) (x : SlotRec)  : (s.setSlot p n x).stepNo  = s.stepNo  := by rfl
@[simp] theorem State.domOf_setSlot (s : State) (p : PierIx) (n : Nat) (x : SlotRec) (q : PierIx) : (s.setSlot p n x).domOf q = s.domOf q := by rfl
@[simp] theorem State.issuing_setSlot (s : State) (p : PierIx) (n : Nat) (x : SlotRec) (q : PierIx) : (s.setSlot p n x).issuing q = s.issuing q := by rfl
@[simp] theorem State.stalled_setSlot (s : State) (p : PierIx) (n : Nat) (x : SlotRec) (q : PierIx) : (s.setSlot p n x).stalled q = s.stalled q := by rfl
@[simp] theorem State.byte_setSlot (s : State) (p : PierIx) (n : Nat) (x : SlotRec) (b : Nat) : (s.setSlot p n x).byte b = s.byte b := by rfl
@[simp] theorem State.pier_setSlot (s : State) (p : PierIx) (n : Nat) (x : SlotRec) (q : PierIx) : (s.setSlot p n x).pier q = s.pier q := by rfl
@[simp] theorem State.arch_setSlot (s : State) (p : PierIx) (n : Nat) (x : SlotRec) (q : PierIx) (c : ArchIx) : (s.setSlot p n x).arch q c = s.arch q c := by rfl
@[simp] theorem State.entry_setSlot (s : State) (p : PierIx) (n : Nat) (x : SlotRec) (q : PierIx) (c : ArchIx) (j : Nat) : (s.setSlot p n x).entry q c j = s.entry q c j := by rfl
@[simp] theorem State.region_setSlot (s : State) (p : PierIx) (n : Nat) (x : SlotRec) (q : PierIx) (k : RegionIx) : (s.setSlot p n x).region q k = s.region q k := by rfl

@[simp] theorem State.reg_addWork (s : State) (w : Work) (q : RegName) (j : Nat) : (s.addWork w).reg q j = s.reg q j := by rfl
@[simp] theorem State.fld_addWork (s : State) (w : Work) (g : Fld) (j : Nat) : (s.addWork w).fld g j = s.fld g j := by rfl
@[simp] theorem State.flag_addWork (s : State) (w : Work) (g : Fld) (j : Nat) : (s.addWork w).flag g j = s.flag g j := by rfl
@[simp] theorem State.now_addWork (s : State) (w : Work)  : (s.addWork w).now  = s.now  := by rfl
@[simp] theorem State.stepNo_addWork (s : State) (w : Work)  : (s.addWork w).stepNo  = s.stepNo  := by rfl
@[simp] theorem State.domOf_addWork (s : State) (w : Work) (q : PierIx) : (s.addWork w).domOf q = s.domOf q := by rfl
@[simp] theorem State.issuing_addWork (s : State) (w : Work) (q : PierIx) : (s.addWork w).issuing q = s.issuing q := by rfl
@[simp] theorem State.stalled_addWork (s : State) (w : Work) (q : PierIx) : (s.addWork w).stalled q = s.stalled q := by rfl
@[simp] theorem State.byte_addWork (s : State) (w : Work) (b : Nat) : (s.addWork w).byte b = s.byte b := by rfl
@[simp] theorem State.pier_addWork (s : State) (w : Work) (q : PierIx) : (s.addWork w).pier q = s.pier q := by rfl
@[simp] theorem State.arch_addWork (s : State) (w : Work) (q : PierIx) (c : ArchIx) : (s.addWork w).arch q c = s.arch q c := by rfl
@[simp] theorem State.entry_addWork (s : State) (w : Work) (q : PierIx) (c : ArchIx) (j : Nat) : (s.addWork w).entry q c j = s.entry q c j := by rfl
@[simp] theorem State.region_addWork (s : State) (w : Work) (q : PierIx) (k : RegionIx) : (s.addWork w).region q k = s.region q k := by rfl
@[simp] theorem State.slot_addWork (s : State) (w : Work) (q : PierIx) (j : Nat) : (s.addWork w).slot q j = s.slot q j := by rfl

@[simp] theorem State.reg_journalise (s : State) (r : JRecord) (q : RegName) (j : Nat) : (s.journalise r).reg q j = s.reg q j := by rfl
@[simp] theorem State.fld_journalise (s : State) (r : JRecord) (g : Fld) (j : Nat) : (s.journalise r).fld g j = s.fld g j := by rfl
@[simp] theorem State.flag_journalise (s : State) (r : JRecord) (g : Fld) (j : Nat) : (s.journalise r).flag g j = s.flag g j := by rfl
@[simp] theorem State.now_journalise (s : State) (r : JRecord)  : (s.journalise r).now  = s.now  := by rfl
@[simp] theorem State.stepNo_journalise (s : State) (r : JRecord)  : (s.journalise r).stepNo  = s.stepNo  := by rfl
@[simp] theorem State.domOf_journalise (s : State) (r : JRecord) (q : PierIx) : (s.journalise r).domOf q = s.domOf q := by rfl
@[simp] theorem State.issuing_journalise (s : State) (r : JRecord) (q : PierIx) : (s.journalise r).issuing q = s.issuing q := by rfl
@[simp] theorem State.stalled_journalise (s : State) (r : JRecord) (q : PierIx) : (s.journalise r).stalled q = s.stalled q := by rfl
@[simp] theorem State.byte_journalise (s : State) (r : JRecord) (b : Nat) : (s.journalise r).byte b = s.byte b := by rfl
@[simp] theorem State.pier_journalise (s : State) (r : JRecord) (q : PierIx) : (s.journalise r).pier q = s.pier q := by rfl
@[simp] theorem State.arch_journalise (s : State) (r : JRecord) (q : PierIx) (c : ArchIx) : (s.journalise r).arch q c = s.arch q c := by rfl
@[simp] theorem State.entry_journalise (s : State) (r : JRecord) (q : PierIx) (c : ArchIx) (j : Nat) : (s.journalise r).entry q c j = s.entry q c j := by rfl
@[simp] theorem State.region_journalise (s : State) (r : JRecord) (q : PierIx) (k : RegionIx) : (s.journalise r).region q k = s.region q k := by rfl
@[simp] theorem State.slot_journalise (s : State) (r : JRecord) (q : PierIx) (j : Nat) : (s.journalise r).slot q j = s.slot q j := by rfl

@[simp] theorem State.reg_hold (s : State) (y : Bool) (i : Instr) (q : RegName) (j : Nat) : (s.hold y i).reg q j = s.reg q j := by rfl
@[simp] theorem State.fld_hold (s : State) (y : Bool) (i : Instr) (g : Fld) (j : Nat) : (s.hold y i).fld g j = s.fld g j := by rfl
@[simp] theorem State.flag_hold (s : State) (y : Bool) (i : Instr) (g : Fld) (j : Nat) : (s.hold y i).flag g j = s.flag g j := by rfl
@[simp] theorem State.now_hold (s : State) (y : Bool) (i : Instr)  : (s.hold y i).now  = s.now  := by rfl
@[simp] theorem State.stepNo_hold (s : State) (y : Bool) (i : Instr)  : (s.hold y i).stepNo  = s.stepNo  := by rfl
@[simp] theorem State.domOf_hold (s : State) (y : Bool) (i : Instr) (q : PierIx) : (s.hold y i).domOf q = s.domOf q := by rfl
@[simp] theorem State.issuing_hold (s : State) (y : Bool) (i : Instr) (q : PierIx) : (s.hold y i).issuing q = s.issuing q := by rfl
@[simp] theorem State.stalled_hold (s : State) (y : Bool) (i : Instr) (q : PierIx) : (s.hold y i).stalled q = s.stalled q := by rfl
@[simp] theorem State.byte_hold (s : State) (y : Bool) (i : Instr) (b : Nat) : (s.hold y i).byte b = s.byte b := by rfl
@[simp] theorem State.pier_hold (s : State) (y : Bool) (i : Instr) (q : PierIx) : (s.hold y i).pier q = s.pier q := by rfl
@[simp] theorem State.arch_hold (s : State) (y : Bool) (i : Instr) (q : PierIx) (c : ArchIx) : (s.hold y i).arch q c = s.arch q c := by rfl
@[simp] theorem State.entry_hold (s : State) (y : Bool) (i : Instr) (q : PierIx) (c : ArchIx) (j : Nat) : (s.hold y i).entry q c j = s.entry q c j := by rfl
@[simp] theorem State.region_hold (s : State) (y : Bool) (i : Instr) (q : PierIx) (k : RegionIx) : (s.hold y i).region q k = s.region q k := by rfl
@[simp] theorem State.slot_hold (s : State) (y : Bool) (i : Instr) (q : PierIx) (j : Nat) : (s.hold y i).slot q j = s.slot q j := by rfl

@[simp] theorem State.pier_setPier_same (s : State) (p : PierIx) (x : Pier) : (s.setPier p x).pier p = x :=
  NMap.look_put_same _ _ _ _

@[simp] theorem State.arch_setArch_same (s : State) (p : PierIx) (a : ArchIx) (x : Arch) : (s.setArch p a x).arch p a = x :=
  NMap.look_put_same _ _ _ _

@[simp] theorem State.entry_setEntry_same (s : State) (p : PierIx) (a : ArchIx) (i : Nat) (e : Entry) :
    (s.setEntry p a i e).entry p a i = e := NMap.look_put_same _ _ _ _

@[simp] theorem State.region_setRegion_same (s : State) (p : PierIx) (r : RegionIx) (x : Region) :
    (s.setRegion p r x).region p r = x := NMap.look_put_same _ _ _ _

@[simp] theorem State.slot_setSlot_same (s : State) (p : PierIx) (k : Nat) (x : SlotRec) : (s.setSlot p k x).slot p k = x :=
  NMap.look_put_same _ _ _ _

end Sys2Proof.Machine
end

