-- ==== Sys2Proof/Laws/Canon.lean ====
section
/-! SUPPORT. Laws of the canonical forms and of the priority stack: every operation that sets memory, the register file, a save, the
notices or the stack keeps what State.Inv says of it. -/
namespace Sys2Proof.Machine

variable {α : Type}

/-- Keys that are moved by a strictly rising function keep their order, and with a constant default no entry comes to equal it. -/
theorem NMap.wf_map_key [DecidableEq α] (v : α) {m : NMap α} (f : Nat → Nat)
    (hf : ∀ x ∈ m, ∀ y ∈ m, x.1 < y.1 → f x.1 < f y.1) (h : NMap.wf (fun _ => v) m = true) :
    NMap.wf (fun _ => v) (m.map (fun e => (f e.1, e.2))) = true := by
  rw [NMap.wf_iff] at *
  refine ⟨?_, fun e he => ?_⟩
  · rw [List.pairwise_map]
    exact h.1.imp_of_mem (fun hx hy hxy => hf _ hx _ hy hxy)
  · obtain ⟨x, hx, rfl⟩ := List.mem_map.1 he
    exact h.2 x hx

/-- What is cut out is in the canonical form. -/
theorem NMap.wf_cut [DecidableEq α] (v : α) {m : NMap α} (lo n : Nat) (h : NMap.wf (fun _ => v) m = true) :
    NMap.wf (fun _ => v) (m.cut lo n) = true := by
  refine NMap.wf_map_key v (· - lo) (fun x hx y hy hxy => ?_) (NMap.wf_filter _ _ h)
  have := (List.mem_filter.1 hx).2
  have := (List.mem_filter.1 hy).2
  simp only [Bool.and_eq_true, decide_eq_true_eq] at *
  omega

/-- A canonical part pasted into a canonical table leaves a canonical table. -/
theorem NMap.wf_paste [DecidableEq α] (v : α) {m part : NMap α} (lo n : Nat) (h : NMap.wf (fun _ => v) m = true)
    (hp : NMap.wf (fun _ => v) part = true) : NMap.wf (fun _ => v) (m.paste lo n part) = true := by
  have hq : NMap.wf (fun _ => v) ((part.filter (fun e => e.1 < n)).map (fun e => (e.1 + lo, e.2))) = true :=
    NMap.wf_map_key v (· + lo) (fun x _ y _ hxy => Nat.add_lt_add_right hxy lo) (NMap.wf_filter _ _ hp)
  have hk : ∀ e ∈ (part.filter (fun e => e.1 < n)).map (fun e => (e.1 + lo, e.2)), lo ≤ e.1 ∧ e.1 < lo + n := by
    intro e he
    obtain ⟨x, hx, rfl⟩ := List.mem_map.1 he
    have := (List.mem_filter.1 hx).2
    simp only [decide_eq_true_eq] at *
    omega
  rw [NMap.wf_iff] at h hq ⊢
  unfold NMap.paste
  refine ⟨?_, fun e he => ?_⟩
  · rw [List.pairwise_append, List.pairwise_append]
    refine ⟨⟨h.1.filter _, hq.1, fun x hx y hy => ?_⟩, h.1.filter _, fun x hx y hy => ?_⟩
    · have h1 := (List.mem_filter.1 hx).2
      have h2 := (hk y hy).1
      simp only [decide_eq_true_eq] at h1
      omega
    · have h2 := (List.mem_filter.1 hy).2
      simp only [decide_eq_true_eq] at h2
      rcases List.mem_append.1 hx with hx | hx
      · have h1 := (List.mem_filter.1 hx).2
        simp only [decide_eq_true_eq] at h1
        omega
      · have h1 := (hk x hx).2
        omega
  · rcases List.mem_append.1 he with he | he
    · rcases List.mem_append.1 he with he | he
      · exact h.2 e ((List.mem_filter.1 he).1)
      · exact hq.2 e he
    · exact h.2 e ((List.mem_filter.1 he).1)

/-- A pass that drops entries and gives the others new values, none of them the default, keeps the canonical form. -/
theorem NMap.wf_filterMap [DecidableEq α] (d : Nat → α) {m : NMap α} (f : Nat × α → Option (Nat × α))
    (hf : ∀ e ∈ m, ∀ x, f e = some x → x.1 = e.1 ∧ x.2 ≠ d x.1) (h : NMap.wf d m = true) :
    NMap.wf d (m.filterMap f) = true := by
  rw [NMap.wf_iff] at *
  refine ⟨?_, fun x hx => ?_⟩
  · rw [List.pairwise_filterMap]
    refine h.1.imp_of_mem (fun hx hy hxy a ha b hb => ?_)
    have := (hf _ hx _ ha).1
    have := (hf _ hy _ hb).1
    omega
  · obtain ⟨e, he, hx⟩ := List.mem_filterMap.1 hx
    exact (hf e he x hx).2

/-- Writes one after another keep the canonical form. -/
theorem NMap.wf_foldl_put [DecidableEq α] {β : Type} (d : Nat → α) (k : β → Nat) (v : β → α) (es : List β) :
    ∀ {m : NMap α}, NMap.wf d m = true →
      NMap.wf d (es.foldl (fun (x : NMap α) (e : β) => x.put d (k e) (v e)) m) = true := by
  induction es with
  | nil => exact fun h => h
  | cons e t ih => exact fun h => ih (NMap.wf_put d _ _ h)

/-- A change of a block's storage mode keeps memory's canonical form (R34). -/
theorem State.mem_wf_setMode (s : State) (b : Nat) (loc : Bool) (h : Memory.wf s) : Memory.wf (s.setMode b loc) := by
  unfold State.setMode
  split
  · exact h
  · exact NMap.wf_foldl_put memDflt _ _ _ (NMap.wf_filter _ _ h)

/-- The deck stores of piers that lose their power leave memory in its canonical form (R521). -/
theorem State.mem_wf_clearCompute (s : State) (f : Nat → Bool) (h : Memory.wf s) : Memory.wf (s.clearCompute f) :=
  NMap.wf_filter _ _ h

/-- A restored pier leaves memory in its canonical form, the saved bytes being in theirs. -/
theorem State.mem_wf_restorePier (s : State) (p : PierIx) (x : SavedPier) (h : Memory.wf s)
    (hx : NMap.wf memDflt x.bytes = true) : Memory.wf (s.restorePier p x) := NMap.wf_paste 0 _ _ h hx

/-- The bytes of a saved pier are in the canonical form. -/
theorem State.bytes_wf_savePier (s : State) (p : PierIx) (h : Memory.wf s) :
    NMap.wf memDflt (s.savePier p).bytes = true := NMap.wf_cut 0 _ _ h

theorem clearSpares_some {f : Nat → Bool} {e x : Nat × Word} (he : e.2 ≠ regDflt e.1) (h : clearSpares f e = some x) :
    x.1 = e.1 ∧ x.2 ≠ regDflt x.1 := by
  simp only [clearSpares] at h
  split at h
  · split at h
    · simp at h
    · next hw => obtain rfl := Option.some.inj h; exact ⟨rfl, hw⟩
  · obtain rfl := Option.some.inj h; exact ⟨rfl, he⟩

theorem dropSoftUnits_some {e x : Nat × Word} (he : e.2 ≠ regDflt e.1) (h : dropSoftUnits e = some x) :
    x.1 = e.1 ∧ x.2 ≠ regDflt x.1 := by
  simp only [dropSoftUnits] at h
  split at h
  · split at h
    · simp at h
    · next hw => obtain rfl := Option.some.inj h; exact ⟨rfl, hw⟩
  · obtain rfl := Option.some.inj h; exact ⟨rfl, he⟩

/-- The registers of piers that lose their power keep the register file's canonical form. -/
theorem State.regs_wf_clearCompute (s : State) (f : Nat → Bool) (h : Regs.wf s) : Regs.wf (s.clearCompute f) := by
  have h1 := NMap.wf_filter regDflt (fun e => !computeKey f e.1) h
  exact NMap.wf_filterMap _ _ (fun e he x hx => clearSpares_some (((NMap.wf_iff _ _).1 h1).2 e he) hx) h1

/-- Registers that go back to their reset values keep the register file's canonical form. -/
theorem State.regs_wf_dropRegs (s : State) (rs : List RegName) (h : Regs.wf s) : Regs.wf (s.dropRegs rs) :=
  NMap.wf_filter _ _ h

/-- A field that is set keeps the register file's canonical form. -/
theorem State.regs_wf_setFld (s : State) (f : Fld) (i v : Nat) (h : Regs.wf s) : Regs.wf (s.setFld f i v) :=
  State.regs_wf_setReg s _ _ _ h

/-- A reset keeps the register file's canonical form. -/
theorem State.regs_wf_resetRegs (s : State) (cause : Nat) (h : Regs.wf s) : Regs.wf (s.resetRegs cause) := by
  unfold State.resetRegs
  have hf : ∀ (g : Fld → Nat) (l : List Fld) (t : State), Regs.wf t → Regs.wf (l.foldl (fun t f => t.setFld f 0 (g f)) t) := by
    intro g l
    induction l with
    | nil => exact fun _ ht => ht
    | cons f l ih => exact fun t ht => ih _ (State.regs_wf_setFld _ _ _ _ ht)
  exact hf (fun _ => 0) _ _ (hf _ _ _ (NMap.wf_filter _ _ h))

/-- The soft repairs that a new journal replay drops leave the register file in its canonical form. -/
theorem regs_wf_dropSoftUnits {m : NMap Word} (h : NMap.wf regDflt m = true) :
    NMap.wf regDflt (m.filterMap dropSoftUnits) = true :=
  NMap.wf_filterMap _ _ (fun e he _ hx => dropSoftUnits_some (((NMap.wf_iff _ _).1 h).2 e he) hx) h

/-- Every event code has a level from 0 to 7 (R480). -/
theorem Code.level_le (c : Code) : c.level ≤ 7 := by cases c <;> decide

/-- A notice of a level from 0 to 7 keeps the priority stack in order. -/
theorem State.stackOk_notify (s : State) (c : Code) (cls level srcKind srcIndex detail : Nat) (h : s.stackOk)
    (hl : level ≤ 7) : (s.notify c cls level srcKind srcIndex detail).stackOk := by
  unfold State.notify
  have key : ∀ t : State, t.stackOk → ∀ r, (t.journalise r).stackOk := fun t ht r => ht
  have h1 : ∀ n : Notice, n.level = level → (if (s.notices.filter (fun m => m.level = level)).length < 256 then
      { s with notices := s.notices ++ [n] } else s.bump Fld.EVT_COUNT_MERGED 0 1).stackOk := by
    intro n hn
    split
    · refine ⟨h.1, fun m hm => ?_⟩
      simp only [List.mem_append, List.mem_singleton] at hm
      rcases hm with hm | hm | rfl
      · exact h.2 m (List.mem_append.2 (.inl hm))
      · exact h.2 m (List.mem_append.2 (.inr hm))
      · omega
    · exact h
  simp only
  split
  · exact key _ (h1 _ rfl) _
  · exact h1 _ rfl

/-- An event keeps the priority stack in order. -/
theorem State.stackOk_event (s : State) (c : Code) (srcKind srcIndex detail : Nat) (h : s.stackOk) :
    (s.event c srcKind srcIndex detail).stackOk := State.stackOk_notify s _ _ _ _ _ _ h c.level_le

/-- The stack emptied is in order (R472). -/
theorem State.stackOk_flushStack (s : State) (h : s.stackOk) : s.flushStack.stackOk := by
  refine ⟨List.Pairwise.nil, fun n hn => ?_⟩
  simp only [State.flushStack, List.nil_append] at hn
  exact h.2 n hn

/-- A notice is presented only above the top of the stack, so the stack stays in order (R471). -/
theorem State.stackOk_present (s : State) (h : s.stackOk) : s.present.stackOk := by
  unfold State.present
  split
  · next n hn =>
    have hmem : n ∈ s.notices ∧ s.topLevel.all (fun t => t < n.level) = true := by
      simp only [State.presented] at hn
      split at hn
      · next hl =>
        have hp := List.find?_some hn
        simp only [decide_eq_true_eq] at hp
        rw [hp]
        exact ⟨List.mem_of_find?_eq_some hn, hl⟩
      · simp at hn
    refine ⟨?_, fun m hm => ?_⟩
    · simp only [List.map_append, List.map_cons, List.map_nil]
      rw [List.pairwise_append]
      refine ⟨h.1, List.pairwise_singleton _ _, fun a ha b hb => ?_⟩
      obtain rfl := List.mem_singleton.1 hb
      have htop := hmem.2
      have hpw := h.1
      unfold State.topLevel at htop
      rcases List.eq_nil_or_concat s.taken with he | ⟨L, x, he⟩
      · rw [he] at ha; simp at ha
      · rw [he] at htop ha hpw
        simp only [List.concat_eq_append, List.getLast?_append, List.getLast?_singleton, Option.some_or, Option.map_some,
          Option.all_some, decide_eq_true_eq, List.map_append, List.map_cons, List.map_nil,
          List.mem_append, List.mem_singleton] at htop ha hpw
        rcases ha with ha | rfl
        · have := (List.pairwise_append.1 hpw).2.2 a ha x.level (List.mem_singleton.2 rfl)
          omega
        · exact htop
    · simp only [List.mem_append, List.mem_singleton] at hm
      rcases hm with (hm | rfl) | hm
      · exact h.2 m (List.mem_append.2 (.inl hm))
      · exact h.2 m (List.mem_append.2 (.inr hmem.1))
      · exact h.2 m (List.mem_append.2 (.inr (List.mem_of_mem_erase hm)))
  · exact h

/-- What firmware completes is popped, and what is left of the stack is in order (R471). -/
theorem State.stackOk_pop (s : State) (h : s.stackOk) : State.stackOk { s with taken := s.taken.dropLast } := by
  refine ⟨?_, fun n hn => ?_⟩
  · rw [show ({ s with taken := s.taken.dropLast } : State).taken.map Notice.level =
      (s.taken.map Notice.level).dropLast from List.map_dropLast]
    exact h.1.sublist (List.dropLast_sublist _)
  · rcases List.mem_append.1 hn with hn | hn
    · exact h.2 n (List.mem_append.2 (.inl ((List.dropLast_sublist _).subset hn)))
    · exact h.2 n (List.mem_append.2 (.inr hn))

/-- A register that is written keeps the invariant. -/
theorem State.Inv_setReg (s : State) (r : RegName) (i : Nat) (w : Word) (h : s.Inv) : (s.setReg r i w).Inv :=
  ⟨h.1, State.regs_wf_setReg s r i w h.2.1, h.2.2⟩

/-- A field that is set keeps the invariant. -/
theorem State.Inv_setFld (s : State) (f : Fld) (i v : Nat) (h : s.Inv) : (s.setFld f i v).Inv := State.Inv_setReg s _ _ _ h

/-- Bytes that are written keep the invariant. -/
theorem State.Inv_writeBytes (s : State) (a : Nat) (bs : List Byte) (h : s.Inv) : (s.writeBytes a bs).Inv :=
  ⟨State.mem_wf_writeBytes s a bs h.1, h.2⟩

/-- A pass over a list whose every step keeps the invariant keeps it. -/
theorem State.Inv_foldl {β : Type} (f : State → β → State) (hf : ∀ s b, s.Inv → (f s b).Inv) (l : List β) :
    ∀ s : State, s.Inv → (l.foldl f s).Inv := by
  induction l with
  | nil => exact fun _ h => h
  | cons b l ih => exact fun s h => ih _ (hf s b h)

/-- An event keeps the invariant (R463, R470). -/
theorem State.Inv_event (s : State) (c : Code) (srcKind srcIndex detail : Nat) (h : s.Inv) :
    (s.event c srcKind srcIndex detail).Inv := by
  have hs := State.stackOk_event s c srcKind srcIndex detail h.2.2.2
  have hb := State.Inv_setFld s Fld.EVT_COUNT_MERGED 0
    (min (s.fld Fld.EVT_COUNT_MERGED 0 + 1) (2 ^ Fld.EVT_COUNT_MERGED.width - 1)) h
  revert hs
  simp only [State.event, State.notify, State.bump]
  split <;> split <;> intro hs
  · exact ⟨h.1, h.2.1, h.2.2.1, hs⟩
  · exact ⟨hb.1, hb.2.1, hb.2.2.1, hs⟩
  · exact ⟨h.1, h.2.1, h.2.2.1, hs⟩
  · exact ⟨hb.1, hb.2.1, hb.2.2.1, hs⟩

/-- A flag with its event keeps the invariant (R463). -/
theorem State.Inv_flagEvent (s : State) (f : Fld) (i : Nat) (c : Code) (srcKind srcIndex detail : Nat) (h : s.Inv) :
    (s.flagEvent f i c srcKind srcIndex detail).Inv := by
  unfold State.flagEvent
  split
  · exact h
  · exact State.Inv_event _ _ _ _ _ (State.Inv_setFld s f i 1 h)

/-- A pass over a list whose every step leaves memory alone leaves it alone. -/
theorem State.mem_foldl {β : Type} (f : State → β → State) (hf : ∀ s b, (f s b).mem = s.mem) (l : List β) :
    ∀ s : State, (l.foldl f s).mem = s.mem := by
  induction l with
  | nil => exact fun _ => rfl
  | cons b l ih => exact fun s => (ih _).trans (hf s b)

@[simp] theorem State.mem_regrantAll (s : State) : s.regrantAll.mem = s.mem := by
  unfold State.regrantAll
  exact State.mem_foldl _ (fun s sp => by simp only [State.regrant, State.setFld_mem]) _ _

@[simp] theorem State.mem_rebudget (s : State) : s.rebudget.mem = s.mem := by
  simp only [State.rebudget, State.mem_regrantAll]
  rw [State.mem_foldl _ (fun s sp => by simp only [State.setFld_mem]), State.setFld_mem]

@[simp] theorem State.mem_retoken (s : State) : s.retoken.mem = s.mem := by
  simp only [State.retoken, State.mem_regrantAll, State.setFld_mem, State.setReg_mem]

@[simp] theorem State.mem_unbindPier (s : State) (p : Nat) : (s.unbindPier p).mem = s.mem := by
  simp only [State.unbindPier, State.setFld_mem, State.setReg_mem]

@[simp] theorem State.mem_unbind (s : State) : s.unbind.mem = s.mem := by
  simp only [State.unbind, State.mem_rebudget, State.setFld_mem, State.setReg_mem,
    State.mem_foldl State.unbindPier State.mem_unbindPier]

@[simp] theorem State.mem_countBreaks (s : State) : s.countBreaks.mem = s.mem := by
  simp only [State.countBreaks, State.setFld_mem]

@[simp] theorem State.mem_countHard (s : State) : s.countHard.mem = s.mem := by
  unfold State.countHard
  exact State.mem_foldl _ (fun s g => by simp only [State.setFld_mem]) _ _

theorem State.mem_wf_clearPiers_dropRegs (s : State) (rs : List RegName) (h : Memory.wf s) :
    Memory.wf (s.clearPiers.dropRegs rs) := State.mem_wf_clearCompute s _ h

/-- Of memory, the loss of the fabric's power leaves host memory, and the table in its canonical form (R498, R521). -/
theorem State.mem_wf_loseFabric (s : State) (h : Memory.wf s) : Memory.wf s.loseFabric := by
  have h1 : Memory.wf s.unbind := by unfold Memory.wf; rw [State.mem_unbind]; exact h
  unfold Memory.wf State.loseFabric
  generalize s.unbind = u at h1
  have h2 := State.mem_wf_clearPiers_dropRegs u fabricRegs h1
  generalize u.clearPiers.dropRegs fabricRegs = t at h2
  rw [State.mem_retoken, State.mem_countBreaks, State.mem_countHard]
  exact NMap.wf_filter memDflt _ h2

end Sys2Proof.Machine
end

