-- ==== Sys2Proof/Laws/Issue.lean ====
section
/-! SUPPORT. Laws of the issue of a slot: with no work due, the advance of a domain does nothing, and an instruction whose items are
ready has its effect on the state whose slot has issued; what the count of a slot leaves alone. -/
namespace Sys2Proof.Machine

theorem firstWork_fold_mem (l : List (Work × Nat)) (b : Option (Nat × Work)) {i : Nat} {w : Work}
    (h : l.foldl (fun b e => match b with
      | none => some (e.2, e.1)
      | some (i, w) => if e.1.key < w.key then some (e.2, e.1) else some (i, w)) b = some (i, w)) :
    b = some (i, w) ∨ (w, i) ∈ l := by
  induction l generalizing b with
  | nil => exact .inl h
  | cons x t ih =>
    rw [List.foldl_cons] at h
    rcases ih _ h with hb | ht
    · cases b with
      | none =>
        simp only [Option.some.injEq, Prod.mk.injEq] at hb
        obtain ⟨rfl, rfl⟩ := hb
        exact .inr (List.mem_cons_self ..)
      | some y =>
        simp only at hb
        split at hb
        · simp only [Option.some.injEq, Prod.mk.injEq] at hb
          obtain ⟨rfl, rfl⟩ := hb
          exact .inr (List.mem_cons_self ..)
        · exact .inl hb
    · exact .inr (List.mem_cons_of_mem _ ht)

/-- The work whose event comes first is work in progress of the domain. -/
theorem State.firstWork_mem {s : State} {d : Dom} {i : Nat} {w : Work} (h : s.firstWork d = some (i, w)) :
    w ∈ s.flight ∧ s.domOf w.pier = d := by
  unfold State.firstWork at h
  rcases firstWork_fold_mem _ _ h with h | h
  · exact absurd h (by simp)
  · have := List.mem_filter.1 h
    refine ⟨?_, by simpa using this.2⟩
    have h2 := List.mem_zipIdx this.1
    exact h2.2.2 ▸ List.getElem_mem _

/-- With no event due, the work of a domain stands still. -/
theorem State.settle_idle (s : State) (d : Dom) (k : Nat) (h : ∀ w ∈ s.flight, s.domOf w.pier = d → k < w.key) :
    s.settle d k = s := by
  unfold State.settle
  cases hf : s.fuel with
  | zero => rfl
  | succ n =>
    simp only [State.advance]
    cases hw : s.firstWork d with
    | none => rfl
    | some x =>
      obtain ⟨i, w⟩ := x
      have := State.firstWork_mem hw
      simp [h w this.1 this.2]

/-- A pier that issues slots is not stalled. -/
theorem State.stalled_of_issuing {s : State} {p : PierIx} (h : s.issuing p = true) : s.stalled p = false := by
  simp only [State.issuing, State.stalled, decide_eq_true_eq, decide_eq_false_iff_not] at *
  omega

/-- A pier that is ready has no event of its domain due up to its slot. -/
theorem State.settle_ready {s : State} {p : PierIx} {t k : Nat} (hr : s.readyAt p t) (hk : k ≤ max (32 * t) 31) :
    s.settle (s.domOf p) k = s :=
  State.settle_idle s _ _ (fun w hw hd => Nat.lt_of_le_of_lt hk (hr.2.1 w hw hd))

/-- Where the items of an instruction are ready and its beats can be claimed, its check finds nothing late. -/
theorem State.needLate_met {s : State} {p : PierIx} {t : Nat} (hr : s.readyAt p t) {x : Needs} (hx : x.met s p t) :
    s.needLate false p t x = none := by
  simp [State.needLate, firstLate, hr.2.2.2.1, hx.1, hx.2]

/-- A beat that comes before no claim on its ports displaces nothing. -/
theorem State.displace_id {s : State} {p : PierIx} {t o : Nat} {ports : List Nat} (h : s.outranks p t o ports = false) :
    s.displace p t o ports = s := by
  simp [State.displace, h]

/-- The issue of an instruction of a pier that is ready: the slot issues and the instruction has its effect. -/
theorem State.issue_ready {s : State} {p : PierIx} {t : Nat} (hr : s.readyAt p t) (i : Instr) {needs : State → Needs}
    (hn : (needs s).met s p t) (effect : State → State) (ramp : State → Bool) :
    s.issue false i p t needs effect ramp = effect (s.issuedFor p t (needs s)) := by
  have hs := State.stalled_of_issuing hr.1
  have h1 : s.settle (s.domOf p) (32 * (t - 2) + 27) = s := State.settle_ready hr (by omega)
  have h2 : s.settle (s.domOf p) (32 * (t - 1) + 31) = s := State.settle_ready hr (by omega)
  have h3 : s.settle (s.domOf p) (32 * t) = s := State.settle_ready hr (by omega)
  simp [State.issue, hr.1, hs, hr.2.2.2.2, h1, h2, h3, State.needLate_met hr hn, hn.2.1, State.displace_id hn.2.2, hr.2.2.1,
    State.issuedFor]

/-- The issue of an instruction that needs nothing. -/
theorem State.issue_free {s : State} {p : PierIx} {t : Nat} (hr : s.readyAt p t) (i : Instr) (effect : State → State) (ramp : State → Bool) :
    s.issue false i p t (fun _ => Needs.nothing) effect ramp = effect (s.issuedAt p t) :=
  State.issue_ready hr i ⟨rfl, rfl, rfl⟩ effect ramp

/-- The issue of an instruction that needs one item and no beat. -/
theorem State.issue_item {s : State} {p : PierIx} {t : Nat} (hr : s.readyAt p t) (i : Instr) {late : State → Option Late}
    (hl : late s = none) (effect : State → State) (ramp : State → Bool) :
    s.issue false i p t (fun s => Needs.item (late s)) effect ramp = effect (s.issuedAt p t) :=
  State.issue_ready hr i ⟨hl, rfl, rfl⟩ effect ramp

/-- Where an item of an instruction is late, so is its check, with that item first. -/
theorem State.needLate_late {s : State} {p : PierIx} {t : Nat} (hr : s.readyAt p t) {x : Needs} {l : Late} (hl : x.late = some l) :
    s.needLate false p t x = some l := by
  rw [State.needLate, hr.2.2.2.1, hl]
  split <;> simp [firstLate, lateBeat]

/-- The issue of an instruction whose items are not ready: its domain stalls and holds it. -/
theorem State.issue_late {s : State} {p : PierIx} {t : Nat} (hr : s.readyAt p t) (i : Instr) {needs : State → Needs}
    {l : Late} (hl : (needs s).late = some l) (effect : State → State) (ramp : State → Bool) :
    s.issue false i p t needs effect ramp = (if ramp s then (s.stallSlot (s.domOf p) t [(p, l, false)]).countRamp p t
        else s.stallSlot (s.domOf p) t [(p, l, false)]).hold true i := by
  have hs := State.stalled_of_issuing hr.1
  have h1 : s.settle (s.domOf p) (32 * (t - 2) + 27) = s := State.settle_ready hr (by omega)
  have h2 : s.settle (s.domOf p) (32 * (t - 1) + 31) = s := State.settle_ready hr (by omega)
  simp [State.issue, hr.1, hs, hr.2.2.2.2, h1, h2, State.needLate_late hr hl, hr.2.2.1]

/-- What a predicate of the state keeps under every member, a fold of it keeps. -/
theorem foldl_keeps {α : Type} (P : State → Prop) (f : State → α → State) (h : ∀ s x, P s → P (f s x)) (l : List α)
    (s : State) (hs : P s) : P (l.foldl f s) := by
  induction l generalizing s with
  | nil => exact hs
  | cons x t ih => exact ih _ (h s x hs)

/-- The count of a slot changes registers and piers, nothing else of the state. -/
theorem State.slotIssued_eq (s : State) (d : Dom) (t : Nat) :
    s.slotIssued d t = { s with regs := (s.slotIssued d t).regs, piers := (s.slotIssued d t).piers } := by
  unfold State.slotIssued
  exact foldl_keeps (fun u => u = { s with regs := u.regs, piers := u.piers }) _ (fun u x h => by
    rw [h]; rfl) _ _ rfl

/-- The grant of beats changes registers and piers, nothing else of the state. -/
theorem State.grantPorts_eq (s : State) (p : PierIx) (req : Nat) (ports : List Nat) :
    s.grantPorts p req ports =
      { s with regs := (s.grantPorts p req ports).regs, piers := (s.grantPorts p req ports).piers } := by
  unfold State.grantPorts
  refine foldl_keeps (fun u => u = { s with regs := u.regs, piers := u.piers }) _ (fun u x h => ?_) _ _ rfl
  unfold State.grantPort
  split
  · exact h
  · dsimp only
    split
    · rw [h]; rfl
    · rw [h]; rfl

/-- A claim changes piers, nothing else of the state. -/
theorem State.claim_eq (s : State) (p : PierIx) (slot order : Nat) (ports : List Nat) (issued : Bool) :
    s.claim p slot order ports issued = { s with piers := (s.claim p slot order ports issued).piers } := by
  unfold State.claim
  split <;> rfl

/-- The issue of a slot with its beats changes registers and piers, nothing else of the state. -/
theorem State.issuedFor_eq (s : State) (p : PierIx) (t : Nat) (x : Needs) :
    s.issuedFor p t x = { s with regs := (s.issuedFor p t x).regs, piers := (s.issuedFor p t x).piers } := by
  unfold State.issuedFor
  rw [State.slotIssued_eq, State.grantPorts_eq, State.claim_eq]

/-- The issue of a slot without a beat is the count of the slot. -/
theorem State.issuedFor_nothing (s : State) (p : PierIx) (t : Nat) : s.issuedFor p t Needs.nothing = s.issuedAt p t := rfl

/-- The count of a slot changes registers and piers, nothing else of the state. -/
theorem State.issuedAt_eq (s : State) (p : PierIx) (t : Nat) :
    s.issuedAt p t = { s with regs := (s.issuedAt p t).regs, piers := (s.issuedAt p t).piers } :=
  State.slotIssued_eq s _ t

@[simp] theorem State.issuedAt_pending (s : State) (p : PierIx) (t : Nat) : (s.issuedAt p t).pending = s.pending := by rw [State.issuedAt_eq]
@[simp] theorem State.issuedAt_outbox (s : State) (p : PierIx) (t : Nat) : (s.issuedAt p t).outbox = s.outbox := by rw [State.issuedAt_eq]
@[simp] theorem State.issuedAt_freeCtr (s : State) (p : PierIx) (t : Nat) : (s.issuedAt p t).freeCtr = s.freeCtr := by rw [State.issuedAt_eq]
@[simp] theorem State.issuedAt_mem (s : State) (p : PierIx) (t : Nat) : (s.issuedAt p t).mem = s.mem := by rw [State.issuedAt_eq]
@[simp] theorem State.issuedAt_held (s : State) (p : PierIx) (t : Nat) : (s.issuedAt p t).held = s.held := by rw [State.issuedAt_eq]
@[simp] theorem State.issuedAt_flight (s : State) (p : PierIx) (t : Nat) : (s.issuedAt p t).flight = s.flight := by rw [State.issuedAt_eq]
@[simp] theorem State.issuedAt_binding (s : State) (p : PierIx) (t : Nat) : (s.issuedAt p t).binding = s.binding := by rw [State.issuedAt_eq]
@[simp] theorem State.issuedAt_launchStep (s : State) (p : PierIx) (t : Nat) : (s.issuedAt p t).launchStep = s.launchStep := by rw [State.issuedAt_eq]
@[simp] theorem State.issuedAt_factorT (s : State) (p : PierIx) (t : Nat) : (s.issuedAt p t).factorT = s.factorT := by rw [State.issuedAt_eq]
@[simp] theorem State.issuedAt_factorP (s : State) (p : PierIx) (t : Nat) : (s.issuedAt p t).factorP = s.factorP := by rw [State.issuedAt_eq]
@[simp] theorem State.issuedAt_ramp (s : State) (p : PierIx) (t : Nat) : (s.issuedAt p t).ramp = s.ramp := by rw [State.issuedAt_eq]
@[simp] theorem State.issuedAt_imageBudget (s : State) (p : PierIx) (t : Nat) : (s.issuedAt p t).imageBudget = s.imageBudget := by rw [State.issuedAt_eq]
@[simp] theorem State.issuedAt_imageObject (s : State) (p : PierIx) (t : Nat) : (s.issuedAt p t).imageObject = s.imageObject := by rw [State.issuedAt_eq]
@[simp] theorem State.issuedAt_saves (s : State) (p : PierIx) (t : Nat) : (s.issuedAt p t).saves = s.saves := by rw [State.issuedAt_eq]
@[simp] theorem State.issuedAt_evaluating (s : State) (p : PierIx) (t : Nat) : (s.issuedAt p t).evaluating = s.evaluating := by rw [State.issuedAt_eq]
@[simp] theorem State.issuedAt_commitBarred (s : State) (p : PierIx) (t : Nat) : (s.issuedAt p t).commitBarred = s.commitBarred := by rw [State.issuedAt_eq]
@[simp] theorem State.issuedAt_loopbacks (s : State) (p : PierIx) (t : Nat) : (s.issuedAt p t).loopbacks = s.loopbacks := by rw [State.issuedAt_eq]
@[simp] theorem State.issuedAt_mail (s : State) (p : PierIx) (t : Nat) : (s.issuedAt p t).mail = s.mail := by rw [State.issuedAt_eq]
@[simp] theorem State.issuedAt_jwBusy (s : State) (p : PierIx) (t : Nat) : (s.issuedAt p t).jwBusy = s.jwBusy := by rw [State.issuedAt_eq]
@[simp] theorem State.issuedAt_jwTag (s : State) (p : PierIx) (t : Nat) : (s.issuedAt p t).jwTag = s.jwTag := by rw [State.issuedAt_eq]
@[simp] theorem State.issuedAt_jwHeld (s : State) (p : PierIx) (t : Nat) : (s.issuedAt p t).jwHeld = s.jwHeld := by rw [State.issuedAt_eq]
@[simp] theorem State.issuedAt_mailOrder (s : State) (p : PierIx) (t : Nat) : (s.issuedAt p t).mailOrder = s.mailOrder := by rw [State.issuedAt_eq]
@[simp] theorem State.issuedAt_cmdOrder (s : State) (p : PierIx) (t : Nat) : (s.issuedAt p t).cmdOrder = s.cmdOrder := by rw [State.issuedAt_eq]
@[simp] theorem State.issuedAt_tokenMoves (s : State) (p : PierIx) (t : Nat) : (s.issuedAt p t).tokenMoves = s.tokenMoves := by rw [State.issuedAt_eq]
@[simp] theorem State.issuedAt_admitted (s : State) (p : PierIx) (t : Nat) : (s.issuedAt p t).admitted = s.admitted := by rw [State.issuedAt_eq]
@[simp] theorem State.issuedAt_fenced (s : State) (p : PierIx) (t : Nat) : (s.issuedAt p t).fenced = s.fenced := by rw [State.issuedAt_eq]
@[simp] theorem State.issuedAt_fenceDue (s : State) (p : PierIx) (t : Nat) : (s.issuedAt p t).fenceDue = s.fenceDue := by rw [State.issuedAt_eq]
@[simp] theorem State.issuedAt_archs (s : State) (p : PierIx) (t : Nat) : (s.issuedAt p t).archs = s.archs := by rw [State.issuedAt_eq]
@[simp] theorem State.issuedAt_spandrel (s : State) (p : PierIx) (t : Nat) : (s.issuedAt p t).spandrel = s.spandrel := by rw [State.issuedAt_eq]
@[simp] theorem State.issuedAt_regions (s : State) (p : PierIx) (t : Nat) : (s.issuedAt p t).regions = s.regions := by rw [State.issuedAt_eq]
@[simp] theorem State.issuedAt_deckFlips (s : State) (p : PierIx) (t : Nat) : (s.issuedAt p t).deckFlips = s.deckFlips := by rw [State.issuedAt_eq]
@[simp] theorem State.issuedAt_slots (s : State) (p : PierIx) (t : Nat) : (s.issuedAt p t).slots = s.slots := by rw [State.issuedAt_eq]
@[simp] theorem State.issuedAt_gangs (s : State) (p : PierIx) (t : Nat) : (s.issuedAt p t).gangs = s.gangs := by rw [State.issuedAt_eq]
@[simp] theorem State.issuedAt_refetches (s : State) (p : PierIx) (t : Nat) : (s.issuedAt p t).refetches = s.refetches := by rw [State.issuedAt_eq]
@[simp] theorem State.issuedAt_watch (s : State) (p : PierIx) (t : Nat) : (s.issuedAt p t).watch = s.watch := by rw [State.issuedAt_eq]
@[simp] theorem State.issuedAt_staleNotices (s : State) (p : PierIx) (t : Nat) : (s.issuedAt p t).staleNotices = s.staleNotices := by rw [State.issuedAt_eq]
@[simp] theorem State.issuedAt_openWrites (s : State) (p : PierIx) (t : Nat) : (s.issuedAt p t).openWrites = s.openWrites := by rw [State.issuedAt_eq]
@[simp] theorem State.issuedAt_gates (s : State) (p : PierIx) (t : Nat) : (s.issuedAt p t).gates = s.gates := by rw [State.issuedAt_eq]
@[simp] theorem State.issuedAt_stored (s : State) (p : PierIx) (t : Nat) : (s.issuedAt p t).stored = s.stored := by rw [State.issuedAt_eq]
@[simp] theorem State.issuedAt_tags (s : State) (p : PierIx) (t : Nat) : (s.issuedAt p t).tags = s.tags := by rw [State.issuedAt_eq]
@[simp] theorem State.issuedAt_lastGang (s : State) (p : PierIx) (t : Nat) : (s.issuedAt p t).lastGang = s.lastGang := by rw [State.issuedAt_eq]
@[simp] theorem State.issuedAt_objects (s : State) (p : PierIx) (t : Nat) : (s.issuedAt p t).objects = s.objects := by rw [State.issuedAt_eq]
@[simp] theorem State.issuedAt_homes (s : State) (p : PierIx) (t : Nat) : (s.issuedAt p t).homes = s.homes := by rw [State.issuedAt_eq]
@[simp] theorem State.issuedAt_windows (s : State) (p : PierIx) (t : Nat) : (s.issuedAt p t).windows = s.windows := by rw [State.issuedAt_eq]
@[simp] theorem State.issuedAt_startEpoch (s : State) (p : PierIx) (t : Nat) : (s.issuedAt p t).startEpoch = s.startEpoch := by rw [State.issuedAt_eq]
@[simp] theorem State.issuedAt_poolCfg (s : State) (p : PierIx) (t : Nat) : (s.issuedAt p t).poolCfg = s.poolCfg := by rw [State.issuedAt_eq]
@[simp] theorem State.issuedAt_moves (s : State) (p : PierIx) (t : Nat) : (s.issuedAt p t).moves = s.moves := by rw [State.issuedAt_eq]
@[simp] theorem State.issuedAt_bringUps (s : State) (p : PierIx) (t : Nat) : (s.issuedAt p t).bringUps = s.bringUps := by rw [State.issuedAt_eq]
@[simp] theorem State.issuedAt_runs (s : State) (p : PierIx) (t : Nat) : (s.issuedAt p t).runs = s.runs := by rw [State.issuedAt_eq]
@[simp] theorem State.issuedAt_parapets (s : State) (p : PierIx) (t : Nat) : (s.issuedAt p t).parapets = s.parapets := by rw [State.issuedAt_eq]
@[simp] theorem State.issuedAt_links (s : State) (p : PierIx) (t : Nat) : (s.issuedAt p t).links = s.links := by rw [State.issuedAt_eq]
@[simp] theorem State.issuedAt_cuts (s : State) (p : PierIx) (t : Nat) : (s.issuedAt p t).cuts = s.cuts := by rw [State.issuedAt_eq]
@[simp] theorem State.issuedAt_ringTiles (s : State) (p : PierIx) (t : Nat) : (s.issuedAt p t).ringTiles = s.ringTiles := by rw [State.issuedAt_eq]
@[simp] theorem State.issuedAt_selfMsgs (s : State) (p : PierIx) (t : Nat) : (s.issuedAt p t).selfMsgs = s.selfMsgs := by rw [State.issuedAt_eq]
@[simp] theorem State.issuedAt_nextRemote (s : State) (p : PierIx) (t : Nat) : (s.issuedAt p t).nextRemote = s.nextRemote := by rw [State.issuedAt_eq]
@[simp] theorem State.issuedAt_remotes (s : State) (p : PierIx) (t : Nat) : (s.issuedAt p t).remotes = s.remotes := by rw [State.issuedAt_eq]
@[simp] theorem State.issuedAt_windowWaits (s : State) (p : PierIx) (t : Nat) : (s.issuedAt p t).windowWaits = s.windowWaits := by rw [State.issuedAt_eq]
@[simp] theorem State.issuedAt_mirrorLog (s : State) (p : PierIx) (t : Nat) : (s.issuedAt p t).mirrorLog = s.mirrorLog := by rw [State.issuedAt_eq]
@[simp] theorem State.issuedAt_rejoinSender (s : State) (p : PierIx) (t : Nat) : (s.issuedAt p t).rejoinSender = s.rejoinSender := by rw [State.issuedAt_eq]
@[simp] theorem State.issuedAt_promoted (s : State) (p : PierIx) (t : Nat) : (s.issuedAt p t).promoted = s.promoted := by rw [State.issuedAt_eq]
@[simp] theorem State.issuedAt_mirrorWaits (s : State) (p : PierIx) (t : Nat) : (s.issuedAt p t).mirrorWaits = s.mirrorWaits := by rw [State.issuedAt_eq]
@[simp] theorem State.issuedAt_ring (s : State) (p : PierIx) (t : Nat) : (s.issuedAt p t).ring = s.ring := by rw [State.issuedAt_eq]
@[simp] theorem State.issuedAt_notices (s : State) (p : PierIx) (t : Nat) : (s.issuedAt p t).notices = s.notices := by rw [State.issuedAt_eq]
@[simp] theorem State.issuedAt_taken (s : State) (p : PierIx) (t : Nat) : (s.issuedAt p t).taken = s.taken := by rw [State.issuedAt_eq]
@[simp] theorem State.issuedAt_journalWrites (s : State) (p : PierIx) (t : Nat) : (s.issuedAt p t).journalWrites = s.journalWrites := by rw [State.issuedAt_eq]
@[simp] theorem State.issuedAt_journal (s : State) (p : PierIx) (t : Nat) : (s.issuedAt p t).journal = s.journal := by rw [State.issuedAt_eq]
@[simp] theorem State.issuedAt_phase (s : State) (p : PierIx) (t : Nat) : (s.issuedAt p t).phase = s.phase := by rw [State.issuedAt_eq]
@[simp] theorem State.issuedAt_failed (s : State) (p : PierIx) (t : Nat) : (s.issuedAt p t).failed = s.failed := by rw [State.issuedAt_eq]
@[simp] theorem State.issuedAt_deckMap (s : State) (p : PierIx) (t : Nat) : (s.issuedAt p t).deckMap = s.deckMap := by rw [State.issuedAt_eq]
@[simp] theorem State.issuedAt_pairing (s : State) (p : PierIx) (t : Nat) : (s.issuedAt p t).pairing = s.pairing := by rw [State.issuedAt_eq]
@[simp] theorem State.issuedAt_journalOff (s : State) (p : PierIx) (t : Nat) : (s.issuedAt p t).journalOff = s.journalOff := by rw [State.issuedAt_eq]
@[simp] theorem State.issuedAt_launchedOnce (s : State) (p : PierIx) (t : Nat) : (s.issuedAt p t).launchedOnce = s.launchedOnce := by rw [State.issuedAt_eq]
@[simp] theorem State.issuedAt_queue (s : State) (p : PierIx) (t : Nat) : (s.issuedAt p t).queue = s.queue := by rw [State.issuedAt_eq]
@[simp] theorem State.issuedAt_posted (s : State) (p : PierIx) (t : Nat) : (s.issuedAt p t).posted = s.posted := by rw [State.issuedAt_eq]
@[simp] theorem State.issuedAt_bootWait (s : State) (p : PierIx) (t : Nat) : (s.issuedAt p t).bootWait = s.bootWait := by rw [State.issuedAt_eq]
@[simp] theorem State.issuedAt_recordOut (s : State) (p : PierIx) (t : Nat) : (s.issuedAt p t).recordOut = s.recordOut := by rw [State.issuedAt_eq]
@[simp] theorem State.issuedAt_lostRecords (s : State) (p : PierIx) (t : Nat) : (s.issuedAt p t).lostRecords = s.lostRecords := by rw [State.issuedAt_eq]
@[simp] theorem State.issuedAt_junction (s : State) (p : PierIx) (t : Nat) : (s.issuedAt p t).junction = s.junction := by rw [State.issuedAt_eq]
@[simp] theorem State.issuedAt_coolReads (s : State) (p : PierIx) (t : Nat) : (s.issuedAt p t).coolReads = s.coolReads := by rw [State.issuedAt_eq]
@[simp] theorem State.issuedAt_hotTemps (s : State) (p : PierIx) (t : Nat) : (s.issuedAt p t).hotTemps = s.hotTemps := by rw [State.issuedAt_eq]
@[simp] theorem State.issuedAt_coolTemps (s : State) (p : PierIx) (t : Nat) : (s.issuedAt p t).coolTemps = s.coolTemps := by rw [State.issuedAt_eq]
@[simp] theorem State.issuedAt_coolWindows (s : State) (p : PierIx) (t : Nat) : (s.issuedAt p t).coolWindows = s.coolWindows := by rw [State.issuedAt_eq]
@[simp] theorem State.issuedAt_measureWanted (s : State) (p : PierIx) (t : Nat) : (s.issuedAt p t).measureWanted = s.measureWanted := by rw [State.issuedAt_eq]
@[simp] theorem State.issuedAt_tests (s : State) (p : PierIx) (t : Nat) : (s.issuedAt p t).tests = s.tests := by rw [State.issuedAt_eq]
@[simp] theorem State.issuedAt_bist (s : State) (p : PierIx) (t : Nat) : (s.issuedAt p t).bist = s.bist := by rw [State.issuedAt_eq]
@[simp] theorem State.issuedAt_parked (s : State) (p : PierIx) (t : Nat) : (s.issuedAt p t).parked = s.parked := by rw [State.issuedAt_eq]
@[simp] theorem State.issuedAt_wakeWanted (s : State) (p : PierIx) (t : Nat) : (s.issuedAt p t).wakeWanted = s.wakeWanted := by rw [State.issuedAt_eq]
@[simp] theorem State.issuedAt_openGates (s : State) (p : PierIx) (t : Nat) : (s.issuedAt p t).openGates = s.openGates := by rw [State.issuedAt_eq]
@[simp] theorem State.issuedAt_braceAt (s : State) (p : PierIx) (t : Nat) : (s.issuedAt p t).braceAt = s.braceAt := by rw [State.issuedAt_eq]
@[simp] theorem State.issuedAt_recovering (s : State) (p : PierIx) (t : Nat) : (s.issuedAt p t).recovering = s.recovering := by rw [State.issuedAt_eq]
@[simp] theorem State.issuedAt_nor (s : State) (p : PierIx) (t : Nat) : (s.issuedAt p t).nor = s.nor := by rw [State.issuedAt_eq]
@[simp] theorem State.issuedAt_running (s : State) (p : PierIx) (t : Nat) : (s.issuedAt p t).running = s.running := by rw [State.issuedAt_eq]
@[simp] theorem State.issuedAt_noPorts (s : State) (p : PierIx) (t : Nat) : (s.issuedAt p t).noPorts = s.noPorts := by rw [State.issuedAt_eq]
@[simp] theorem State.issuedAt_firmwareKeys (s : State) (p : PierIx) (t : Nat) : (s.issuedAt p t).firmwareKeys = s.firmwareKeys := by rw [State.issuedAt_eq]
@[simp] theorem State.issuedAt_programKeys (s : State) (p : PierIx) (t : Nat) : (s.issuedAt p t).programKeys = s.programKeys := by rw [State.issuedAt_eq]
@[simp] theorem State.issuedAt_passwords (s : State) (p : PierIx) (t : Nat) : (s.issuedAt p t).passwords = s.passwords := by rw [State.issuedAt_eq]
@[simp] theorem State.issuedAt_debugKeys (s : State) (p : PierIx) (t : Nat) : (s.issuedAt p t).debugKeys = s.debugKeys := by rw [State.issuedAt_eq]
@[simp] theorem State.issuedAt_challenge (s : State) (p : PierIx) (t : Nat) : (s.issuedAt p t).challenge = s.challenge := by rw [State.issuedAt_eq]
@[simp] theorem State.issuedAt_authFails (s : State) (p : PierIx) (t : Nat) : (s.issuedAt p t).authFails = s.authFails := by rw [State.issuedAt_eq]
@[simp] theorem State.issuedAt_authBarred (s : State) (p : PierIx) (t : Nat) : (s.issuedAt p t).authBarred = s.authBarred := by rw [State.issuedAt_eq]
@[simp] theorem State.issuedAt_opened (s : State) (p : PierIx) (t : Nat) : (s.issuedAt p t).opened = s.opened := by rw [State.issuedAt_eq]
@[simp] theorem State.issuedAt_probes (s : State) (p : PierIx) (t : Nat) : (s.issuedAt p t).probes = s.probes := by rw [State.issuedAt_eq]
@[simp] theorem State.issuedAt_hostWaits (s : State) (p : PierIx) (t : Nat) : (s.issuedAt p t).hostWaits = s.hostWaits := by rw [State.issuedAt_eq]
@[simp] theorem State.issuedAt_routerFails (s : State) (p : PierIx) (t : Nat) : (s.issuedAt p t).routerFails = s.routerFails := by rw [State.issuedAt_eq]
@[simp] theorem State.issuedAt_sbAddress (s : State) (p : PierIx) (t : Nat) : (s.issuedAt p t).sbAddress = s.sbAddress := by rw [State.issuedAt_eq]
@[simp] theorem State.issuedAt_flaws (s : State) (p : PierIx) (t : Nat) : (s.issuedAt p t).flaws = s.flaws := by rw [State.issuedAt_eq]
@[simp] theorem State.issuedAt_madeImages (s : State) (p : PierIx) (t : Nat) : (s.issuedAt p t).madeImages = s.madeImages := by rw [State.issuedAt_eq]
@[simp] theorem State.issuedAt_bootRecords (s : State) (p : PierIx) (t : Nat) : (s.issuedAt p t).bootRecords = s.bootRecords := by rw [State.issuedAt_eq]
@[simp] theorem State.issuedAt_deltas (s : State) (p : PierIx) (t : Nat) : (s.issuedAt p t).deltas = s.deltas := by rw [State.issuedAt_eq]
@[simp] theorem State.issuedAt_refLost (s : State) (p : PierIx) (t : Nat) : (s.issuedAt p t).refLost = s.refLost := by rw [State.issuedAt_eq]
@[simp] theorem State.issuedAt_unnumbered (s : State) (p : PierIx) (t : Nat) : (s.issuedAt p t).unnumbered = s.unnumbered := by rw [State.issuedAt_eq]
@[simp] theorem State.issuedAt_retired (s : State) (p : PierIx) (t : Nat) : (s.issuedAt p t).retired = s.retired := by rw [State.issuedAt_eq]
@[simp] theorem State.issuedAt_jwAsleep (s : State) (p : PierIx) (t : Nat) : (s.issuedAt p t).jwAsleep = s.jwAsleep := by rw [State.issuedAt_eq]
@[simp] theorem State.issuedAt_warmReset (s : State) (p : PierIx) (t : Nat) : (s.issuedAt p t).warmReset = s.warmReset := by rw [State.issuedAt_eq]
@[simp] theorem State.issuedAt_straps (s : State) (p : PierIx) (t : Nat) : (s.issuedAt p t).straps = s.straps := by rw [State.issuedAt_eq]

@[simp] theorem State.issuedFor_pending (s : State) (p : PierIx) (t : Nat) (x : Needs) : (s.issuedFor p t x).pending = s.pending := by rw [State.issuedFor_eq]
@[simp] theorem State.issuedFor_outbox (s : State) (p : PierIx) (t : Nat) (x : Needs) : (s.issuedFor p t x).outbox = s.outbox := by rw [State.issuedFor_eq]
@[simp] theorem State.issuedFor_freeCtr (s : State) (p : PierIx) (t : Nat) (x : Needs) : (s.issuedFor p t x).freeCtr = s.freeCtr := by rw [State.issuedFor_eq]
@[simp] theorem State.issuedFor_mem (s : State) (p : PierIx) (t : Nat) (x : Needs) : (s.issuedFor p t x).mem = s.mem := by rw [State.issuedFor_eq]
@[simp] theorem State.issuedFor_held (s : State) (p : PierIx) (t : Nat) (x : Needs) : (s.issuedFor p t x).held = s.held := by rw [State.issuedFor_eq]
@[simp] theorem State.issuedFor_flight (s : State) (p : PierIx) (t : Nat) (x : Needs) : (s.issuedFor p t x).flight = s.flight := by rw [State.issuedFor_eq]
@[simp] theorem State.issuedFor_binding (s : State) (p : PierIx) (t : Nat) (x : Needs) : (s.issuedFor p t x).binding = s.binding := by rw [State.issuedFor_eq]
@[simp] theorem State.issuedFor_launchStep (s : State) (p : PierIx) (t : Nat) (x : Needs) : (s.issuedFor p t x).launchStep = s.launchStep := by rw [State.issuedFor_eq]
@[simp] theorem State.issuedFor_factorT (s : State) (p : PierIx) (t : Nat) (x : Needs) : (s.issuedFor p t x).factorT = s.factorT := by rw [State.issuedFor_eq]
@[simp] theorem State.issuedFor_factorP (s : State) (p : PierIx) (t : Nat) (x : Needs) : (s.issuedFor p t x).factorP = s.factorP := by rw [State.issuedFor_eq]
@[simp] theorem State.issuedFor_ramp (s : State) (p : PierIx) (t : Nat) (x : Needs) : (s.issuedFor p t x).ramp = s.ramp := by rw [State.issuedFor_eq]
@[simp] theorem State.issuedFor_imageBudget (s : State) (p : PierIx) (t : Nat) (x : Needs) : (s.issuedFor p t x).imageBudget = s.imageBudget := by rw [State.issuedFor_eq]
@[simp] theorem State.issuedFor_imageObject (s : State) (p : PierIx) (t : Nat) (x : Needs) : (s.issuedFor p t x).imageObject = s.imageObject := by rw [State.issuedFor_eq]
@[simp] theorem State.issuedFor_saves (s : State) (p : PierIx) (t : Nat) (x : Needs) : (s.issuedFor p t x).saves = s.saves := by rw [State.issuedFor_eq]
@[simp] theorem State.issuedFor_evaluating (s : State) (p : PierIx) (t : Nat) (x : Needs) : (s.issuedFor p t x).evaluating = s.evaluating := by rw [State.issuedFor_eq]
@[simp] theorem State.issuedFor_commitBarred (s : State) (p : PierIx) (t : Nat) (x : Needs) : (s.issuedFor p t x).commitBarred = s.commitBarred := by rw [State.issuedFor_eq]
@[simp] theorem State.issuedFor_loopbacks (s : State) (p : PierIx) (t : Nat) (x : Needs) : (s.issuedFor p t x).loopbacks = s.loopbacks := by rw [State.issuedFor_eq]
@[simp] theorem State.issuedFor_mail (s : State) (p : PierIx) (t : Nat) (x : Needs) : (s.issuedFor p t x).mail = s.mail := by rw [State.issuedFor_eq]
@[simp] theorem State.issuedFor_jwBusy (s : State) (p : PierIx) (t : Nat) (x : Needs) : (s.issuedFor p t x).jwBusy = s.jwBusy := by rw [State.issuedFor_eq]
@[simp] theorem State.issuedFor_jwTag (s : State) (p : PierIx) (t : Nat) (x : Needs) : (s.issuedFor p t x).jwTag = s.jwTag := by rw [State.issuedFor_eq]
@[simp] theorem State.issuedFor_jwHeld (s : State) (p : PierIx) (t : Nat) (x : Needs) : (s.issuedFor p t x).jwHeld = s.jwHeld := by rw [State.issuedFor_eq]
@[simp] theorem State.issuedFor_mailOrder (s : State) (p : PierIx) (t : Nat) (x : Needs) : (s.issuedFor p t x).mailOrder = s.mailOrder := by rw [State.issuedFor_eq]
@[simp] theorem State.issuedFor_cmdOrder (s : State) (p : PierIx) (t : Nat) (x : Needs) : (s.issuedFor p t x).cmdOrder = s.cmdOrder := by rw [State.issuedFor_eq]
@[simp] theorem State.issuedFor_tokenMoves (s : State) (p : PierIx) (t : Nat) (x : Needs) : (s.issuedFor p t x).tokenMoves = s.tokenMoves := by rw [State.issuedFor_eq]
@[simp] theorem State.issuedFor_admitted (s : State) (p : PierIx) (t : Nat) (x : Needs) : (s.issuedFor p t x).admitted = s.admitted := by rw [State.issuedFor_eq]
@[simp] theorem State.issuedFor_fenced (s : State) (p : PierIx) (t : Nat) (x : Needs) : (s.issuedFor p t x).fenced = s.fenced := by rw [State.issuedFor_eq]
@[simp] theorem State.issuedFor_fenceDue (s : State) (p : PierIx) (t : Nat) (x : Needs) : (s.issuedFor p t x).fenceDue = s.fenceDue := by rw [State.issuedFor_eq]
@[simp] theorem State.issuedFor_archs (s : State) (p : PierIx) (t : Nat) (x : Needs) : (s.issuedFor p t x).archs = s.archs := by rw [State.issuedFor_eq]
@[simp] theorem State.issuedFor_spandrel (s : State) (p : PierIx) (t : Nat) (x : Needs) : (s.issuedFor p t x).spandrel = s.spandrel := by rw [State.issuedFor_eq]
@[simp] theorem State.issuedFor_regions (s : State) (p : PierIx) (t : Nat) (x : Needs) : (s.issuedFor p t x).regions = s.regions := by rw [State.issuedFor_eq]
@[simp] theorem State.issuedFor_deckFlips (s : State) (p : PierIx) (t : Nat) (x : Needs) : (s.issuedFor p t x).deckFlips = s.deckFlips := by rw [State.issuedFor_eq]
@[simp] theorem State.issuedFor_slots (s : State) (p : PierIx) (t : Nat) (x : Needs) : (s.issuedFor p t x).slots = s.slots := by rw [State.issuedFor_eq]
@[simp] theorem State.issuedFor_gangs (s : State) (p : PierIx) (t : Nat) (x : Needs) : (s.issuedFor p t x).gangs = s.gangs := by rw [State.issuedFor_eq]
@[simp] theorem State.issuedFor_refetches (s : State) (p : PierIx) (t : Nat) (x : Needs) : (s.issuedFor p t x).refetches = s.refetches := by rw [State.issuedFor_eq]
@[simp] theorem State.issuedFor_watch (s : State) (p : PierIx) (t : Nat) (x : Needs) : (s.issuedFor p t x).watch = s.watch := by rw [State.issuedFor_eq]
@[simp] theorem State.issuedFor_staleNotices (s : State) (p : PierIx) (t : Nat) (x : Needs) : (s.issuedFor p t x).staleNotices = s.staleNotices := by rw [State.issuedFor_eq]
@[simp] theorem State.issuedFor_openWrites (s : State) (p : PierIx) (t : Nat) (x : Needs) : (s.issuedFor p t x).openWrites = s.openWrites := by rw [State.issuedFor_eq]
@[simp] theorem State.issuedFor_gates (s : State) (p : PierIx) (t : Nat) (x : Needs) : (s.issuedFor p t x).gates = s.gates := by rw [State.issuedFor_eq]
@[simp] theorem State.issuedFor_stored (s : State) (p : PierIx) (t : Nat) (x : Needs) : (s.issuedFor p t x).stored = s.stored := by rw [State.issuedFor_eq]
@[simp] theorem State.issuedFor_tags (s : State) (p : PierIx) (t : Nat) (x : Needs) : (s.issuedFor p t x).tags = s.tags := by rw [State.issuedFor_eq]
@[simp] theorem State.issuedFor_lastGang (s : State) (p : PierIx) (t : Nat) (x : Needs) : (s.issuedFor p t x).lastGang = s.lastGang := by rw [State.issuedFor_eq]
@[simp] theorem State.issuedFor_objects (s : State) (p : PierIx) (t : Nat) (x : Needs) : (s.issuedFor p t x).objects = s.objects := by rw [State.issuedFor_eq]
@[simp] theorem State.issuedFor_homes (s : State) (p : PierIx) (t : Nat) (x : Needs) : (s.issuedFor p t x).homes = s.homes := by rw [State.issuedFor_eq]
@[simp] theorem State.issuedFor_windows (s : State) (p : PierIx) (t : Nat) (x : Needs) : (s.issuedFor p t x).windows = s.windows := by rw [State.issuedFor_eq]
@[simp] theorem State.issuedFor_startEpoch (s : State) (p : PierIx) (t : Nat) (x : Needs) : (s.issuedFor p t x).startEpoch = s.startEpoch := by rw [State.issuedFor_eq]
@[simp] theorem State.issuedFor_poolCfg (s : State) (p : PierIx) (t : Nat) (x : Needs) : (s.issuedFor p t x).poolCfg = s.poolCfg := by rw [State.issuedFor_eq]
@[simp] theorem State.issuedFor_moves (s : State) (p : PierIx) (t : Nat) (x : Needs) : (s.issuedFor p t x).moves = s.moves := by rw [State.issuedFor_eq]
@[simp] theorem State.issuedFor_bringUps (s : State) (p : PierIx) (t : Nat) (x : Needs) : (s.issuedFor p t x).bringUps = s.bringUps := by rw [State.issuedFor_eq]
@[simp] theorem State.issuedFor_runs (s : State) (p : PierIx) (t : Nat) (x : Needs) : (s.issuedFor p t x).runs = s.runs := by rw [State.issuedFor_eq]
@[simp] theorem State.issuedFor_parapets (s : State) (p : PierIx) (t : Nat) (x : Needs) : (s.issuedFor p t x).parapets = s.parapets := by rw [State.issuedFor_eq]
@[simp] theorem State.issuedFor_links (s : State) (p : PierIx) (t : Nat) (x : Needs) : (s.issuedFor p t x).links = s.links := by rw [State.issuedFor_eq]
@[simp] theorem State.issuedFor_cuts (s : State) (p : PierIx) (t : Nat) (x : Needs) : (s.issuedFor p t x).cuts = s.cuts := by rw [State.issuedFor_eq]
@[simp] theorem State.issuedFor_ringTiles (s : State) (p : PierIx) (t : Nat) (x : Needs) : (s.issuedFor p t x).ringTiles = s.ringTiles := by rw [State.issuedFor_eq]
@[simp] theorem State.issuedFor_selfMsgs (s : State) (p : PierIx) (t : Nat) (x : Needs) : (s.issuedFor p t x).selfMsgs = s.selfMsgs := by rw [State.issuedFor_eq]
@[simp] theorem State.issuedFor_nextRemote (s : State) (p : PierIx) (t : Nat) (x : Needs) : (s.issuedFor p t x).nextRemote = s.nextRemote := by rw [State.issuedFor_eq]
@[simp] theorem State.issuedFor_remotes (s : State) (p : PierIx) (t : Nat) (x : Needs) : (s.issuedFor p t x).remotes = s.remotes := by rw [State.issuedFor_eq]
@[simp] theorem State.issuedFor_windowWaits (s : State) (p : PierIx) (t : Nat) (x : Needs) : (s.issuedFor p t x).windowWaits = s.windowWaits := by rw [State.issuedFor_eq]
@[simp] theorem State.issuedFor_mirrorLog (s : State) (p : PierIx) (t : Nat) (x : Needs) : (s.issuedFor p t x).mirrorLog = s.mirrorLog := by rw [State.issuedFor_eq]
@[simp] theorem State.issuedFor_rejoinSender (s : State) (p : PierIx) (t : Nat) (x : Needs) : (s.issuedFor p t x).rejoinSender = s.rejoinSender := by rw [State.issuedFor_eq]
@[simp] theorem State.issuedFor_promoted (s : State) (p : PierIx) (t : Nat) (x : Needs) : (s.issuedFor p t x).promoted = s.promoted := by rw [State.issuedFor_eq]
@[simp] theorem State.issuedFor_mirrorWaits (s : State) (p : PierIx) (t : Nat) (x : Needs) : (s.issuedFor p t x).mirrorWaits = s.mirrorWaits := by rw [State.issuedFor_eq]
@[simp] theorem State.issuedFor_ring (s : State) (p : PierIx) (t : Nat) (x : Needs) : (s.issuedFor p t x).ring = s.ring := by rw [State.issuedFor_eq]
@[simp] theorem State.issuedFor_notices (s : State) (p : PierIx) (t : Nat) (x : Needs) : (s.issuedFor p t x).notices = s.notices := by rw [State.issuedFor_eq]
@[simp] theorem State.issuedFor_taken (s : State) (p : PierIx) (t : Nat) (x : Needs) : (s.issuedFor p t x).taken = s.taken := by rw [State.issuedFor_eq]
@[simp] theorem State.issuedFor_journalWrites (s : State) (p : PierIx) (t : Nat) (x : Needs) : (s.issuedFor p t x).journalWrites = s.journalWrites := by rw [State.issuedFor_eq]
@[simp] theorem State.issuedFor_journal (s : State) (p : PierIx) (t : Nat) (x : Needs) : (s.issuedFor p t x).journal = s.journal := by rw [State.issuedFor_eq]
@[simp] theorem State.issuedFor_phase (s : State) (p : PierIx) (t : Nat) (x : Needs) : (s.issuedFor p t x).phase = s.phase := by rw [State.issuedFor_eq]
@[simp] theorem State.issuedFor_failed (s : State) (p : PierIx) (t : Nat) (x : Needs) : (s.issuedFor p t x).failed = s.failed := by rw [State.issuedFor_eq]
@[simp] theorem State.issuedFor_deckMap (s : State) (p : PierIx) (t : Nat) (x : Needs) : (s.issuedFor p t x).deckMap = s.deckMap := by rw [State.issuedFor_eq]
@[simp] theorem State.issuedFor_pairing (s : State) (p : PierIx) (t : Nat) (x : Needs) : (s.issuedFor p t x).pairing = s.pairing := by rw [State.issuedFor_eq]
@[simp] theorem State.issuedFor_journalOff (s : State) (p : PierIx) (t : Nat) (x : Needs) : (s.issuedFor p t x).journalOff = s.journalOff := by rw [State.issuedFor_eq]
@[simp] theorem State.issuedFor_launchedOnce (s : State) (p : PierIx) (t : Nat) (x : Needs) : (s.issuedFor p t x).launchedOnce = s.launchedOnce := by rw [State.issuedFor_eq]
@[simp] theorem State.issuedFor_queue (s : State) (p : PierIx) (t : Nat) (x : Needs) : (s.issuedFor p t x).queue = s.queue := by rw [State.issuedFor_eq]
@[simp] theorem State.issuedFor_posted (s : State) (p : PierIx) (t : Nat) (x : Needs) : (s.issuedFor p t x).posted = s.posted := by rw [State.issuedFor_eq]
@[simp] theorem State.issuedFor_bootWait (s : State) (p : PierIx) (t : Nat) (x : Needs) : (s.issuedFor p t x).bootWait = s.bootWait := by rw [State.issuedFor_eq]
@[simp] theorem State.issuedFor_recordOut (s : State) (p : PierIx) (t : Nat) (x : Needs) : (s.issuedFor p t x).recordOut = s.recordOut := by rw [State.issuedFor_eq]
@[simp] theorem State.issuedFor_lostRecords (s : State) (p : PierIx) (t : Nat) (x : Needs) : (s.issuedFor p t x).lostRecords = s.lostRecords := by rw [State.issuedFor_eq]
@[simp] theorem State.issuedFor_junction (s : State) (p : PierIx) (t : Nat) (x : Needs) : (s.issuedFor p t x).junction = s.junction := by rw [State.issuedFor_eq]
@[simp] theorem State.issuedFor_coolReads (s : State) (p : PierIx) (t : Nat) (x : Needs) : (s.issuedFor p t x).coolReads = s.coolReads := by rw [State.issuedFor_eq]
@[simp] theorem State.issuedFor_hotTemps (s : State) (p : PierIx) (t : Nat) (x : Needs) : (s.issuedFor p t x).hotTemps = s.hotTemps := by rw [State.issuedFor_eq]
@[simp] theorem State.issuedFor_coolTemps (s : State) (p : PierIx) (t : Nat) (x : Needs) : (s.issuedFor p t x).coolTemps = s.coolTemps := by rw [State.issuedFor_eq]
@[simp] theorem State.issuedFor_coolWindows (s : State) (p : PierIx) (t : Nat) (x : Needs) : (s.issuedFor p t x).coolWindows = s.coolWindows := by rw [State.issuedFor_eq]
@[simp] theorem State.issuedFor_measureWanted (s : State) (p : PierIx) (t : Nat) (x : Needs) : (s.issuedFor p t x).measureWanted = s.measureWanted := by rw [State.issuedFor_eq]
@[simp] theorem State.issuedFor_tests (s : State) (p : PierIx) (t : Nat) (x : Needs) : (s.issuedFor p t x).tests = s.tests := by rw [State.issuedFor_eq]
@[simp] theorem State.issuedFor_bist (s : State) (p : PierIx) (t : Nat) (x : Needs) : (s.issuedFor p t x).bist = s.bist := by rw [State.issuedFor_eq]
@[simp] theorem State.issuedFor_parked (s : State) (p : PierIx) (t : Nat) (x : Needs) : (s.issuedFor p t x).parked = s.parked := by rw [State.issuedFor_eq]
@[simp] theorem State.issuedFor_wakeWanted (s : State) (p : PierIx) (t : Nat) (x : Needs) : (s.issuedFor p t x).wakeWanted = s.wakeWanted := by rw [State.issuedFor_eq]
@[simp] theorem State.issuedFor_openGates (s : State) (p : PierIx) (t : Nat) (x : Needs) : (s.issuedFor p t x).openGates = s.openGates := by rw [State.issuedFor_eq]
@[simp] theorem State.issuedFor_braceAt (s : State) (p : PierIx) (t : Nat) (x : Needs) : (s.issuedFor p t x).braceAt = s.braceAt := by rw [State.issuedFor_eq]
@[simp] theorem State.issuedFor_recovering (s : State) (p : PierIx) (t : Nat) (x : Needs) : (s.issuedFor p t x).recovering = s.recovering := by rw [State.issuedFor_eq]
@[simp] theorem State.issuedFor_nor (s : State) (p : PierIx) (t : Nat) (x : Needs) : (s.issuedFor p t x).nor = s.nor := by rw [State.issuedFor_eq]
@[simp] theorem State.issuedFor_running (s : State) (p : PierIx) (t : Nat) (x : Needs) : (s.issuedFor p t x).running = s.running := by rw [State.issuedFor_eq]
@[simp] theorem State.issuedFor_noPorts (s : State) (p : PierIx) (t : Nat) (x : Needs) : (s.issuedFor p t x).noPorts = s.noPorts := by rw [State.issuedFor_eq]
@[simp] theorem State.issuedFor_firmwareKeys (s : State) (p : PierIx) (t : Nat) (x : Needs) : (s.issuedFor p t x).firmwareKeys = s.firmwareKeys := by rw [State.issuedFor_eq]
@[simp] theorem State.issuedFor_programKeys (s : State) (p : PierIx) (t : Nat) (x : Needs) : (s.issuedFor p t x).programKeys = s.programKeys := by rw [State.issuedFor_eq]
@[simp] theorem State.issuedFor_passwords (s : State) (p : PierIx) (t : Nat) (x : Needs) : (s.issuedFor p t x).passwords = s.passwords := by rw [State.issuedFor_eq]
@[simp] theorem State.issuedFor_debugKeys (s : State) (p : PierIx) (t : Nat) (x : Needs) : (s.issuedFor p t x).debugKeys = s.debugKeys := by rw [State.issuedFor_eq]
@[simp] theorem State.issuedFor_challenge (s : State) (p : PierIx) (t : Nat) (x : Needs) : (s.issuedFor p t x).challenge = s.challenge := by rw [State.issuedFor_eq]
@[simp] theorem State.issuedFor_authFails (s : State) (p : PierIx) (t : Nat) (x : Needs) : (s.issuedFor p t x).authFails = s.authFails := by rw [State.issuedFor_eq]
@[simp] theorem State.issuedFor_authBarred (s : State) (p : PierIx) (t : Nat) (x : Needs) : (s.issuedFor p t x).authBarred = s.authBarred := by rw [State.issuedFor_eq]
@[simp] theorem State.issuedFor_opened (s : State) (p : PierIx) (t : Nat) (x : Needs) : (s.issuedFor p t x).opened = s.opened := by rw [State.issuedFor_eq]
@[simp] theorem State.issuedFor_probes (s : State) (p : PierIx) (t : Nat) (x : Needs) : (s.issuedFor p t x).probes = s.probes := by rw [State.issuedFor_eq]
@[simp] theorem State.issuedFor_hostWaits (s : State) (p : PierIx) (t : Nat) (x : Needs) : (s.issuedFor p t x).hostWaits = s.hostWaits := by rw [State.issuedFor_eq]
@[simp] theorem State.issuedFor_routerFails (s : State) (p : PierIx) (t : Nat) (x : Needs) : (s.issuedFor p t x).routerFails = s.routerFails := by rw [State.issuedFor_eq]
@[simp] theorem State.issuedFor_sbAddress (s : State) (p : PierIx) (t : Nat) (x : Needs) : (s.issuedFor p t x).sbAddress = s.sbAddress := by rw [State.issuedFor_eq]
@[simp] theorem State.issuedFor_flaws (s : State) (p : PierIx) (t : Nat) (x : Needs) : (s.issuedFor p t x).flaws = s.flaws := by rw [State.issuedFor_eq]
@[simp] theorem State.issuedFor_madeImages (s : State) (p : PierIx) (t : Nat) (x : Needs) : (s.issuedFor p t x).madeImages = s.madeImages := by rw [State.issuedFor_eq]
@[simp] theorem State.issuedFor_bootRecords (s : State) (p : PierIx) (t : Nat) (x : Needs) : (s.issuedFor p t x).bootRecords = s.bootRecords := by rw [State.issuedFor_eq]
@[simp] theorem State.issuedFor_deltas (s : State) (p : PierIx) (t : Nat) (x : Needs) : (s.issuedFor p t x).deltas = s.deltas := by rw [State.issuedFor_eq]
@[simp] theorem State.issuedFor_refLost (s : State) (p : PierIx) (t : Nat) (x : Needs) : (s.issuedFor p t x).refLost = s.refLost := by rw [State.issuedFor_eq]
@[simp] theorem State.issuedFor_unnumbered (s : State) (p : PierIx) (t : Nat) (x : Needs) : (s.issuedFor p t x).unnumbered = s.unnumbered := by rw [State.issuedFor_eq]
@[simp] theorem State.issuedFor_retired (s : State) (p : PierIx) (t : Nat) (x : Needs) : (s.issuedFor p t x).retired = s.retired := by rw [State.issuedFor_eq]
@[simp] theorem State.issuedFor_jwAsleep (s : State) (p : PierIx) (t : Nat) (x : Needs) : (s.issuedFor p t x).jwAsleep = s.jwAsleep := by rw [State.issuedFor_eq]
@[simp] theorem State.issuedFor_warmReset (s : State) (p : PierIx) (t : Nat) (x : Needs) : (s.issuedFor p t x).warmReset = s.warmReset := by rw [State.issuedFor_eq]
@[simp] theorem State.issuedFor_straps (s : State) (p : PierIx) (t : Nat) (x : Needs) : (s.issuedFor p t x).straps = s.straps := by rw [State.issuedFor_eq]

/-- The count of a slot writes LOOP_DEPTH and PCTL_SLOT alone: a register but these two keeps its word. -/
theorem State.reg_slotIssued (s : State) (d : Dom) (t : Nat) {r : RegName} (i : Nat) (h1 : r ≠ .pctlStatus)
    (h2 : r ≠ .pctlSlot) : (s.slotIssued d t).reg r i = s.reg r i := by
  unfold State.slotIssued
  exact foldl_keeps (fun u => u.reg r i = s.reg r i) _ (fun u x h => by
    simp only [State.pierSlot]
    rw [State.reg_setFld, if_neg (by rintro ⟨rfl, -⟩; exact h2 rfl), State.reg_setFld,
      if_neg (by rintro ⟨rfl, -⟩; exact h1 rfl)]
    exact h) _ _ rfl

/-- A field of no register but those two keeps its value. -/
theorem State.fld_issuedAt (s : State) (p : PierIx) (t : Nat) {f : Fld} (i : Nat) (h1 : f.reg ≠ .pctlStatus)
    (h2 : f.reg ≠ .pctlSlot) : (s.issuedAt p t).fld f i = s.fld f i := by
  simp only [State.fld, State.issuedAt]
  rw [State.reg_slotIssued s _ t i h1 h2]

/-- The grant of beats writes MASKED alone: a register but DECK_ARB_COUNT keeps its word. -/
theorem State.reg_grantPorts (s : State) (p : PierIx) (req : Nat) (ports : List Nat) {r : RegName} (i : Nat)
    (h : r ≠ .deckArbCount) : (s.grantPorts p req ports).reg r i = s.reg r i := by
  unfold State.grantPorts
  refine foldl_keeps (fun u => u.reg r i = s.reg r i) _ (fun u x hu => ?_) _ _ rfl
  unfold State.grantPort
  split
  · exact hu
  · dsimp only
    split
    · unfold State.bump
      rw [State.reg_setFld, if_neg (by rintro ⟨e, -⟩; exact h e)]
      exact hu
    · exact hu

/-- A claim writes no register. -/
@[simp] theorem State.reg_claim (s : State) (p : PierIx) (slot order : Nat) (ports : List Nat) (issued : Bool) (r : RegName) (i : Nat) :
    (s.claim p slot order ports issued).reg r i = s.reg r i := by rw [State.claim_eq]; rfl

/-- A field of no register but PCTL_STATUS, PCTL_SLOT and DECK_ARB_COUNT keeps its value in a slot with beats. -/
theorem State.fld_issuedFor (s : State) (p : PierIx) (t : Nat) (x : Needs) {f : Fld} (i : Nat) (h1 : f.reg ≠ .pctlStatus)
    (h2 : f.reg ≠ .pctlSlot) (h3 : f.reg ≠ .deckArbCount) : (s.issuedFor p t x).fld f i = s.fld f i := by
  simp only [State.fld, State.issuedFor]
  rw [State.reg_slotIssued _ _ t i h1 h2, State.reg_grantPorts _ _ _ _ i h3, State.reg_claim]

/-- A field of no register but those two keeps its value in a slot with a vector instruction, but for the count of issues. -/
theorem State.fld_issuedV (s : State) (p : PierIx) (t : Nat) {f : Fld} (i : Nat) (h1 : f.reg ≠ .pctlStatus)
    (h2 : f.reg ≠ .pctlSlot) (h3 : f.reg ≠ .vecCount) : (s.issuedV p t).fld f i = s.fld f i := by
  unfold State.issuedV State.vecBusy State.wrapAdd
  rw [State.fld_setFld_reg _ _ (by rintro ⟨h, -⟩; exact h3 h), State.fld_issuedAt s p t i h1 h2]

theorem State.pier_setPier_other (s : State) {p q : PierIx} (x : Pier) (h : q ≠ p) : (s.setPier p x).pier q = s.pier q :=
  NMap.look_put_other _ _ _ (fun e => h (Fin.ext e))

/-- Of a pier, the count of a slot writes the open loops, the stall and the cursor alone. -/
theorem State.pier_slotIssued (s : State) (d : Dom) (t : Nat) (p : PierIx) :
    (s.slotIssued d t).pier p = { s.pier p with
      loops := ((s.slotIssued d t).pier p).loops
      stall := ((s.slotIssued d t).pier p).stall
      cursor := ((s.slotIssued d t).pier p).cursor } := by
  unfold State.slotIssued
  exact foldl_keeps (fun u => u.pier p = { s.pier p with
      loops := (u.pier p).loops
      stall := (u.pier p).stall
      cursor := (u.pier p).cursor }) _ (fun u x h => by
    simp only [State.pierSlot, State.pier_setFld]
    by_cases hp : p = x
    · subst hp
      rw [State.pier_setPier_same, h]
    · rw [State.pier_setPier_other _ _ hp, h]) _ _ rfl

/-- Of a pier, the count of a slot writes the open loops, the stall and the cursor alone. -/
theorem State.pier_issuedAt (s : State) (p : PierIx) (t : Nat) (q : PierIx) :
    (s.issuedAt p t).pier q = { s.pier q with
      loops := ((s.issuedAt p t).pier q).loops
      stall := ((s.issuedAt p t).pier q).stall
      cursor := ((s.issuedAt p t).pier q).cursor } := State.pier_slotIssued s _ t q

/-- The count of a slot leaves memory alone. -/
@[simp] theorem State.byte_issuedAt (s : State) (p : PierIx) (t a : Nat) : (s.issuedAt p t).byte a = s.byte a := by
  simp [State.byte]

@[simp] theorem State.byte_issuedFor (s : State) (p : PierIx) (t : Nat) (x : Needs) (a : Nat) : (s.issuedFor p t x).byte a = s.byte a := by
  simp [State.byte]

@[simp] theorem State.arch_issuedAt (s : State) (p : PierIx) (t : Nat) (q : PierIx) (c : ArchIx) : (s.issuedAt p t).arch q c = s.arch q c := by
  rw [State.issuedAt_eq]; rfl

@[simp] theorem State.arch_issuedFor (s : State) (p : PierIx) (t : Nat) (x : Needs) (q : PierIx) (c : ArchIx) : (s.issuedFor p t x).arch q c = s.arch q c := by
  rw [State.issuedFor_eq]; rfl

@[simp] theorem State.entry_issuedAt (s : State) (p : PierIx) (t : Nat) (q : PierIx) (c : ArchIx) (j : Nat) : (s.issuedAt p t).entry q c j = s.entry q c j := by
  rw [State.issuedAt_eq]; rfl

@[simp] theorem State.entry_issuedFor (s : State) (p : PierIx) (t : Nat) (x : Needs) (q : PierIx) (c : ArchIx) (j : Nat) : (s.issuedFor p t x).entry q c j = s.entry q c j := by
  rw [State.issuedFor_eq]; rfl

@[simp] theorem State.region_issuedAt (s : State) (p : PierIx) (t : Nat) (q : PierIx) (k : RegionIx) : (s.issuedAt p t).region q k = s.region q k := by
  rw [State.issuedAt_eq]; rfl

@[simp] theorem State.region_issuedFor (s : State) (p : PierIx) (t : Nat) (x : Needs) (q : PierIx) (k : RegionIx) : (s.issuedFor p t x).region q k = s.region q k := by
  rw [State.issuedFor_eq]; rfl

@[simp] theorem State.slot_issuedAt (s : State) (p : PierIx) (t : Nat) (q : PierIx) (j : Nat) : (s.issuedAt p t).slot q j = s.slot q j := by
  rw [State.issuedAt_eq]; rfl

@[simp] theorem State.slot_issuedFor (s : State) (p : PierIx) (t : Nat) (x : Needs) (q : PierIx) (j : Nat) : (s.issuedFor p t x).slot q j = s.slot q j := by
  rw [State.issuedFor_eq]; rfl

end Sys2Proof.Machine
end

