-- ==== Sys2Proof/Laws/Vec.lean ====
section
/-! SUPPORT. Laws of the vector registers: what a written register reads as once its latency has passed (R146). -/
namespace Sys2Proof.Machine

variable {α : Type}

theorem NMap.readRun_run [DecidableEq α] (d : Nat → α) (vs : List α) (k : Nat) :
    NMap.readRun d vs.length k (NMap.run d k vs) = vs := by
  induction vs generalizing k with
  | nil => rfl
  | cons v t ih =>
    simp only [NMap.run, List.length_cons]
    split
    · next hv =>
      have hr := NMap.run_spec d t (k + 1)
      cases hc : NMap.run d (k + 1) t with
      | nil => simp only [NMap.readRun]; rw [← hv, ← hc, ih]
      | cons e u =>
        obtain ⟨j, w⟩ := e
        have : k + 1 ≤ j := (hr.2 (j, w) (by rw [hc]; exact List.mem_cons_self ..)).2.1
        simp only [NMap.readRun]
        rw [if_neg (by omega), ← hv, ← hc, ih]
    · simp only [NMap.readRun, if_true]
      rw [ih]

/-- The run that was written reads back. -/
theorem NMap.slice_putRun_same [DecidableEq α] (d : Nat → α) (m : NMap α) (k : Nat) (vs : List α) :
    (m.putRun d k vs).slice d k vs.length = vs := by
  have hr := NMap.run_spec d vs k
  have hf : (m.putRun d k vs).filter (fun e => k ≤ e.1 && e.1 < k + vs.length) = NMap.run d k vs := by
    unfold NMap.putRun
    rw [List.filter_append, List.filter_append, List.filter_filter, List.filter_filter]
    have h1 : m.filter (fun e => (decide (k ≤ e.1) && decide (e.1 < k + vs.length)) && decide (e.1 < k)) = [] :=
      List.filter_eq_nil_iff.2 (fun e _ => by simp; intros; omega)
    have h2 : m.filter (fun e => (decide (k ≤ e.1) && decide (e.1 < k + vs.length)) && decide (k + vs.length ≤ e.1)) = [] :=
      List.filter_eq_nil_iff.2 (fun e _ => by simp; try omega)
    have h3 : (NMap.run d k vs).filter (fun e => decide (k ≤ e.1) && decide (e.1 < k + vs.length)) = NMap.run d k vs := by
      rw [List.filter_eq_self]
      intro e he
      have := (hr.2 e he).2
      simp; omega
    rw [h1, h2, h3, List.nil_append, List.append_nil]
  unfold NMap.slice
  rw [hf, NMap.readRun_run]

/-- The lanes that a write of a vector register leaves, once its latency has passed. -/
theorem State.readV_writeV (s : State) (p : PierIx) (t lat : Nat) (v : Fin 64) (en : BitVec 128) (xs : Lanes) :
    ((s.writeV p t lat v en xs).readV p (t + lat) v).1 = (List.range 128).map (fun l =>
      if en.getLsbD l then xs.getD l 0 else ((s.pier p).vregs.slice (fun _ => 0) (128 * v.val) 128).getD l 0) := by
  have hn : (s.writeV p t lat v en xs).notReady p (t + lat) v.val = false := by
    simp only [State.notReady, State.writeV, State.pier_setPier_same, Pier.await]
    simp
    intros; omega
  unfold State.readV
  rw [hn]
  simp only [State.writeV, State.pier_setPier_same, Bool.false_eq_true, if_false]
  have := NMap.slice_putRun_same (fun _ => (0 : F32)) (s.pier p).vregs (128 * v.val) ((List.range 128).map (fun l =>
      if en.getLsbD l then xs.getD l 0 else ((s.pier p).vregs.slice (fun _ => 0) (128 * v.val) 128).getD l 0))
  simpa using this

/-- The bits that a write of a mask register leaves, once its latency has passed. -/
theorem State.readM_writeM (s : State) (p : PierIx) (t lat : Nat) (m : Fin 8) (en bits : BitVec 128) :
    ((s.writeM p t lat m en bits).readM p (t + lat) m).1 =
      ((s.pier p).masks.look (fun _ => 0) m.val &&& ~~~en) ||| (bits &&& en) := by
  have hn : (s.writeM p t lat m en bits).notReady p (t + lat) (64 + m.val) = false := by
    simp only [State.notReady, State.writeM, State.pier_setPier_same, Pier.await]
    simp
    intros; omega
  unfold State.readM
  rw [hn]
  simp [State.writeM]

/-- A register whose results have arrived is read as it stands, and nothing else happens. -/
theorem State.readV_ready (s : State) (p : PierIx) (t : Nat) (v : Fin 64) (h : s.notReady p t v.val = false) :
    s.readV p t v = ((s.pier p).vregs.slice (fun _ => 0) (128 * v.val) 128, s) := by
  simp [State.readV, h]

theorem State.readM_ready (s : State) (p : PierIx) (t : Nat) (m : Fin 8) (h : s.notReady p t (64 + m.val) = false) :
    s.readM p t m = ((s.pier p).masks.look (fun _ => 0) m.val, s) := by
  simp [State.readM, h]

theorem State.enable_ready (s : State) (p : PierIx) (t : Nat) (m : Option (Fin 8))
    (h : ∀ k, m = some k → s.notReady p t (64 + k.val) = false) :
    s.enable p t m = ((m.map (fun k => (s.pier p).masks.look (fun _ => 0) k.val)).getD (BitVec.allOnes 128), s) := by
  cases m with
  | none => rfl
  | some k => simp [State.enable, State.readM_ready s p t k (h k rfl)]

end Sys2Proof.Machine
end

