-- ==== Sys2Proof/Tests/Slice0.lean ====
section
/-! SUPPORT. Tests of the model. The smoke test of `Instr.wf` shows for each of its checks a command that it refuses. A witness shows
that the hypotheses of a statement can hold together, for each of its clauses. The other tests show one step each, with the values
worked out from the rule that their docstring names. -/
namespace Sys2Proof.Tests
open Sys2Proof Sys2Proof.Machine
set_option Elab.async false

/-! ### Well-formedness -/

/-- A message head whose fields lie in their ranges. -/
def head0 : MsgHead := ⟨false, false, 0, 2, 1, 16⟩

/-- A HELLO whose fields lie in their ranges. -/
def hello0 : Hello := ⟨2, 3, 1, 1, 1, 255, List.replicate 8 64, 77⟩

/-- A pass of one tile. -/
def pass0 : PassDesc := ⟨.row, .feeder, 0, 0, 0, 1, .bf16, 0⟩

/-- A drain to BF16. -/
def drain0 : DrainDesc := ⟨.bf16, false, true, false, false, 0⟩

/-- An update of BF16 weights with neither momentum nor shadow. -/
def upd0 : UpdDesc := ⟨false, false, false, false, false, false, 0, false, false, 1, 2, 3, 0, 0, 0, 0, 5⟩

/-- A result of a self-test in which nothing fails. -/
def bist0 : BistResult := ⟨false, [], [], [], [], [], 0, 0⟩

/-- A start of the tollhouse whose first draw passes. -/
def boot0 : TollBoot := ⟨List.replicate 6 true, [(List.replicate 512 0, true)]⟩

/-- A boot of the module in which nothing fails. -/
def module0 : ModuleBoot := ⟨boot0, [], bist0, bist0, List.replicate 17 100, 5600⟩

/-- Schedule slots and operands (R96, R171, R174, R296, R314, R324): operands at the ends of their ranges are well formed, and one beyond each is not. -/
theorem test_wf_arch : (
    ([
      .loads 0 7 1 2 127 true .bf16, .pass 0 7 1 pass0 2 0 false, .zero 0 7 1 64 65536, .inject 0 7 .cw 2 1023 .bf16 true 0 false,
      .release 0 7 2 1024, .joint 0 7 (some 65534), .tacq 0 7 208, .trel 0 7 0 true, .loop 0 7 65536 1 8 9] : List Instr).all Instr.wf &&
    ([
      .loads 0 (2 ^ 48) 1 2 0 true .bf16, .loads 0 7 1 2 128 true .bf16, .loads 0 7 1 2 1 false .bf16, .loads 0 7 1 2 0 true .fp32,
      .pass 0 (2 ^ 48) 1 pass0 2 0 false, .pass 0 7 1 pass0 2 128 true, .pass 0 7 1 { pass0 with sel := 4 } 2 0 false,
      .pass 0 7 1 { pass0 with base := 32 } 2 0 false, .pass 0 7 1 { pass0 with base := 65536 } 2 0 false,
      .pass 0 7 1 { pass0 with pitch := 5 } 2 0 false, .pass 0 7 1 { pass0 with tiles := 0 } 2 0 false,
      .pass 0 7 1 { pass0 with tiles := 1024 } 2 0 false, .pass 0 7 1 { pass0 with sfmt := .fp32 } 2 0 false,
      .pass 0 7 1 { pass0 with tstride := 1 } 2 0 false, .drain 0 (2 ^ 48) 1 drain0 0 0 true 2, .drain 0 7 1 drain0 65536 0 true 2,
      .drain 0 7 1 drain0 0 5 true 2, .zero 0 (2 ^ 48) 1 0 64, .zero 0 7 1 1 64, .zero 0 7 1 0 0, .zero 0 7 1 0 65600, .zero 0 7 1 0 65,
      .inject 0 (2 ^ 48) .cw 2 1 .bf16 true 0 false, .inject 0 7 .cw 2 0 .bf16 true 0 false, .inject 0 7 .cw 2 1024 .bf16 true 0 false,
      .inject 0 7 .cw 2 1 .fp32 true 0 false, .inject 0 7 .cw 2 1 .bf16 true 1 false, .flip 0 (2 ^ 48) 2, .release 0 (2 ^ 48) 2 1,
      .release 0 7 2 0, .release 0 7 2 1025, .arm 0 (2 ^ 48) 3, .copy 0 (2 ^ 48) 3, .cwait 0 (2 ^ 48) 3] : List Instr).all (fun i => !i.wf)) = true := by decide +kernel

/-- Control instructions (R298, R305, R306, R324): operands at the ends of their ranges are well formed, and one beyond each is not. -/
theorem test_wf_control : (
    ([
      .jointComplete 5, .barrier 0 7 1 false, .halt 0 7, .stallRelease (.solo 0) 5, .pierCacheFill 0 (2 ^ 33 - 1) none] : List Instr).all Instr.wf &&
    ([
      .joint 0 (2 ^ 48) none, .joint 0 7 (some 65535), .jointComplete (2 ^ 48), .barrier 0 (2 ^ 48) 1 false,
      .barrierComplete 1 false (2 ^ 48), .tacq 0 (2 ^ 48) 1, .tacq 0 7 0, .tacq 0 7 209, .trel 0 (2 ^ 48) 1 false, .trel 0 7 209 false,
      .loop 0 (2 ^ 48) 1 1 8 9, .loop 0 7 65537 1 8 9, .loop 0 7 0 1 8 9, .loop 0 7 1 (2 ^ 24) 8 9, .loop 0 7 1 1 (2 ^ 48) 9, .loop 0 7 1 1 8 (2 ^ 48),
      .halt 0 (2 ^ 48), .stallRelease (.solo 0) (2 ^ 48), .pierCacheFill 0 (2 ^ 33) none, .pierCacheFill 0 0 (some (0, 73))] : List Instr).all (fun i => !i.wf)) = true := by decide +kernel

/-- Vector and update instructions (R147, R149, R150, R152, R155, R342, R353): operands at the ends of their ranges are well formed, and one beyond each is not. -/
theorem test_wf_vector : (
    ([
      .vld 0 7 1 2 31 true .fp32 none, .vst 0 7 1 2 31 true .bf16 none, .vstat 0 7 .norm 1 2 127 63 3, .vstatc 0 7 true 1 2 127 0 3 4,
      .vldc 0 7 1 0 .fp16, .upd 0 7 1023 upd0 1023, .uscal 0 7 1 0 9] : List Instr).all Instr.wf &&
    ([
      .vld 0 (2 ^ 48) 1 2 0 true .fp32 none, .vld 0 7 1 2 32 true .fp32 none, .vld 0 7 1 2 0 true .e4m3 none,
      .vst 0 (2 ^ 48) 1 2 0 true .fp32 none, .vst 0 7 1 2 32 true .fp32 none, .vst 0 7 1 2 0 true .ssf4 none,
      .varith 0 (2 ^ 48) .add 1 2 3 4 none, .vcmp 0 (2 ^ 48) .lt 1 2 3 none, .vsel 0 (2 ^ 48) 1 2 3 4, .vsfu 0 (2 ^ 48) .rcp 1 2 none,
      .vred 0 (2 ^ 48) true 1 2 none, .vtrans 0 (2 ^ 48) 1 2 0 true .fp32, .vtrans 0 7 1 2 1 false .fp32, .vtrans 0 7 1 2 0 true .mxInt8,
      .vstat 0 (2 ^ 48) .norm 1 2 0 1 3, .vstat 0 7 .norm 1 2 128 1 3, .vstat 0 7 .norm 1 2 0 64 3, .vstatc 0 (2 ^ 48) true 1 2 1 0 3 4,
      .vstatc 0 7 true 1 2 0 0 3 4, .vstatc 0 7 true 1 2 128 0 3 4, .vstatf 0 (2 ^ 48) 2, .vrng 0 (2 ^ 48) 0 1 2,
      .vldc 0 (2 ^ 48) 1 0 .fp32, .vldc 0 7 1 (2 ^ 34) .fp32, .vldc 0 7 1 0 .e5m2, .upd 0 (2 ^ 48) 0 upd0 1,
      .upd 0 7 0 { upd0 with object := 2 ^ 22 } 1, .upd 0 7 0 upd0 0, .upd 0 7 0 upd0 1024, .uscal 0 (2 ^ 48) 1 0 0, .uscal 0 7 1 0 10] : List Instr).all (fun i => !i.wf)) = true := by decide +kernel

/-- The memory system's commands (R195, R197, R224, R231, R234, R237, R240, R266, R271): operands at the ends of their ranges are well formed, and one beyond each is not. -/
theorem test_wf_memory : (
    ([
      .transferReply 0 63 9 7 (some (2 ^ 40 - 1, 72)), .gateAccess 1 0 0 (some [1]) false none, .scrubBurst 0 72, .bringUp 4194303 523775] : List Instr).all Instr.wf &&
    ([
      .ringLoopbackDone 0 [1, 1], .transferReply 0 64 0 0 none, .transferReply 0 0 0 8 none, .transferReply 0 0 0 0 (some (2 ^ 40, 1)),
      .transferReply 0 0 0 0 (some (0, 73)), .tagTimeout 0 true 64, .watchWaitTimeout 0 true 64, .copyTile 0 0 (some (2 ^ 40, 1)),
      .gateAccess 0 0 0 none false none, .gateAccess 1 0 5 (some []) false none, .gateAccess 0 (2 ^ 40) 1 none false none,
      .gateAccess 0 0 1 none false (some (0, 73)), .scrubBurst 0 73, .stackTempReading 0 151,
      .repairWindow 0 0 0 (List.replicate 17 0) false, .repairWindow 0 0 0 [73] false, .extentMove 4194304 [] none,
      .extentMove 0 [] (some (0, 73)), .bringUp 4194304 0, .bringUp 0 523776] : List Instr).all (fun i => !i.wf)) = true := by decide +kernel

/-- The commands of the tollhouse (R439, R494, R523, R542, R547): operands at the ends of their ranges are well formed, and one beyond each is not. -/
theorem test_wf_toll : (
    ([
      .bistDone bist0, .resetWarm 0 boot0, .resetRelease module0, .jwRd 65535 0 4096 false none, .snpInv ⟨65535, 2 ^ 48 - 1, false, 3⟩ [],
      .mailboxEnable 1 [], .mailboxDisable 0, .senseCfgWrite 0 [] 1200, .sbImageWrite 0 [1], .junctionReading (List.replicate 17 1020)] : List Instr).all Instr.wf &&
    ([
      .launch 0 6001 0 0, .launch 0 0 6001 0, .launch 0 0 0 6001, .resume 0 6001 0 0, .holdupMeasureDone 6001 0 0,
      .bistDone { bist0 with piers := [(1, ⟨0, [], [], true⟩), (1, ⟨1, [], [], true⟩)] }, .bistDone { bist0 with badGates := [1, 1] },
      .bistDone { bist0 with blocks := [2 ^ 40] }, .bistDone { bist0 with ms := 2 ^ 32 }, .bistDone { bist0 with vcore := 2048 },
      .pierTestDone 0 ⟨0, [], [], true⟩ (2 ^ 32), .tollhouseWdt (2 ^ 48), .resetWarm 0 { boot0 with made := [] },
      .resetWarm 0 { boot0 with draws := [] }, .resetWarm 0 { boot0 with draws := List.replicate 17 (List.replicate 512 0, false) },
      .resetWarm 0 { boot0 with draws := [([], true)] }, .resetWarm 0 { boot0 with draws := boot0.draws ++ boot0.draws },
      .supplyResetRelease { boot0 with made := [] }, .resetRelease { module0 with toll := { boot0 with made := [] } },
      .resetRelease { module0 with first := { bist0 with ms := 2 ^ 32 } },
      .resetRelease { module0 with again := { bist0 with ms := 2 ^ 32 } },
      .resetRelease { module0 with temps := [] }, .resetRelease { module0 with bank := 5549 }, .jwRd 65536 0 64 false none, .jwRd 0 (2 ^ 48) 64 false none,
      .jwRd 0 0 65536 false none, .jwRd 0 0 64 false (some (0, 73)), .jwWr 65536 0 [] false none, .jwWr 0 (2 ^ 48) [] false none,
      .jwWr 0 0 [] false (some (0, 73)), .jwCpl 65536 ⟨0, false⟩, .snpInv ⟨65536, 64, false, 0⟩ [], .snpInv ⟨0, 2 ^ 48, false, 0⟩ [],
      .snpInv ⟨0, 64, false, 0⟩ [(0, [1])], .snpInv ⟨0, 64, false, 0⟩ [(2 ^ 48 - 1, [1, 2])], .jwLinkUp 0 256 1 ⟨[], 0⟩, .jwLinkUp 0 1 256 ⟨[], 0⟩,
      .mailboxEnable 0 [], .mailboxDisable 1, .regWrite (2 ^ 48) 0, .senseCfgWrite 0 [(1, 5), (1, 6)] 0, .senseCfgWrite 0 [] 655360,
      .sbRegRead (2 ^ 48), .sbRegWrite (2 ^ 48) 0, .sbImageWrite (2 ^ 32) [1], .sbImageWrite 0 [],
      .sbImageWrite 0 (List.replicate 241 0), .sbServiceOp 3, .junctionReading [], .junctionReading (List.replicate 17 1021), .supplyWindowEnd 65536 0 ⟨0, 0⟩,
      .supplyWindowEnd 0 65536 ⟨0, 0⟩, .supplyWindowEnd 0 0 ⟨65536, 0⟩, .supplyWindowEnd 0 0 ⟨0, 6001⟩, .braceEnter 655360, .jwLinkDown (2 ^ 32) 0 ⟨0, .detect⟩, .jwLinkDown 0 65536 ⟨0, .detect⟩,
      .jwLinkDown 0 0 ⟨65536, .recovery⟩, .journalWriteDone [2 ^ 64], .hostRequestAbort 65536 false] : List Instr).all (fun i => !i.wf)) = true := by decide +kernel

/-- Flits and messages (R379, R382, R393, R394, R409, R416, R420, R421, R432): operands at the ends of their ranges are well formed, and one beyond each is not. -/
theorem test_wf_link : (
    ([
      .nullFlit 0 (List.replicate 256 0) false 0 0, .linkHello 0 ⟨hello0, ⟨some 65535, 7, 4096⟩⟩, .linkStart ⟨0, ⟨none, 0, 0⟩⟩, .remoteRead 0 0 head0 5 0 0 0 64, .syncMap 0 0 head0 1 (List.replicate 26 (5, 2 ^ 40 - 1))] : List Instr).all Instr.wf &&
    ([
      .dataFlit 0 [] false 0 0, .nullFlit 0 [] false 0 0, .retryReq 0 [] false 0 0, .linkHello 0 ⟨{ hello0 with module := 65536 }, ⟨none, 0, 0⟩⟩,
      .linkHello 0 ⟨{ hello0 with port := 12 }, ⟨none, 0, 0⟩⟩, .linkHello 0 ⟨{ hello0 with role := 4 }, ⟨none, 0, 0⟩⟩, .linkHello 0 ⟨{ hello0 with verMin := 256 }, ⟨none, 0, 0⟩⟩,
      .linkHello 0 ⟨{ hello0 with verMax := 256 }, ⟨none, 0, 0⟩⟩, .linkHello 0 ⟨{ hello0 with shares := [] }, ⟨none, 0, 0⟩⟩,
      .linkHello 0 ⟨{ hello0 with shares := List.replicate 8 4096 }, ⟨none, 0, 0⟩⟩, .linkHello 0 ⟨hello0, ⟨some 65536, 0, 0⟩⟩, .linkStart ⟨0, ⟨some 65536, 0, 0⟩⟩, .linkRecover ⟨0, ⟨none, 0, 4097⟩⟩,
      .routeMessage 0 0 ⟨head0, .remoteRead 5 0 0 0 0⟩,
      .remoteWrite 0 0 head0 (2 ^ 32) 0 0 0 0 (List.replicate 128 0), .remoteWrite 0 0 head0 0 (2 ^ 32) 0 0 0 (List.replicate 128 0),
      .remoteWrite 0 0 head0 0 0 (2 ^ 32) 0 0 (List.replicate 128 0), .remoteWrite 0 0 head0 0 0 0 (2 ^ 40) 0 (List.replicate 128 0),
      .remoteWrite 0 0 head0 0 0 0 0 (2 ^ 20) (List.replicate 128 0), .remoteWrite 0 0 head0 0 0 0 0 0 [1],
      .remoteWrite 0 0 head0 0 0 0 0 0 [], .remoteRead 0 0 { head0 with attempt := 8 } 0 0 0 0 1,
      .remoteRead 0 0 { head0 with dest := 65536 } 0 0 0 0 1, .remoteRead 0 0 { head0 with src := 65536 } 0 0 0 0 1,
      .remoteRead 0 0 { head0 with ttl := 0 } 0 0 0 0 1, .remoteRead 0 0 { head0 with ttl := 256 } 0 0 0 0 1,
      .remoteRead 0 0 head0 0 0 0 0 0, .remoteRead 0 0 head0 0 0 0 0 65, .remoteRead 0 0 head0 (2 ^ 32) 0 0 0 1,
      .remoteRead 0 0 head0 0 (2 ^ 32) 0 0 1, .remoteRead 0 0 head0 0 0 (2 ^ 40) 0 1, .remoteRead 0 0 head0 0 0 0 (2 ^ 20) 1,
      .readReply 0 0 head0 (2 ^ 32) 0 [], .readReply 0 0 head0 0 256 [], .readReply 0 0 head0 0 0 [1],
      .ringTile 0 0 head0 .cw 8 [] [] [], .ringTile 0 0 head0 .cw 0 [] [] [], .mirrorWrite 0 0 head0 (2 ^ 64) 0 0 [1],
      .mirrorWrite 0 0 head0 0 (2 ^ 22) 0 [1], .mirrorWrite 0 0 head0 0 0 (2 ^ 40) [1], .mirrorWrite 0 0 head0 0 0 0 [],
      .keystone 0 0 head0 (2 ^ 64) 0, .keystone 0 0 head0 0 (2 ^ 32), .keystoneAck 0 0 head0 (2 ^ 64) 0,
      .keystoneAck 0 0 head0 0 (2 ^ 32), .syncForm 0 0 head0 (2 ^ 32) 0 0 0, .syncForm 0 0 head0 0 (2 ^ 32) 0 0,
      .syncForm 0 0 head0 0 0 (2 ^ 32) 0, .syncForm 0 0 head0 0 0 0 256, .syncMap 0 0 head0 (2 ^ 32) [],
      .syncMap 0 0 head0 0 (List.replicate 27 (0, 0)), .syncMap 0 0 head0 0 [(2 ^ 22, 0)], .syncMap 0 0 head0 0 [(0, 2 ^ 40)],
      .ready 0 0 head0 (2 ^ 32) 0, .ready 0 0 head0 0 (2 ^ 64), .mirrorApplied 0 0 head0 (2 ^ 32) 0, .mirrorApplied 0 0 head0 0 (2 ^ 64),
      .mirrorResend 0 0 head0 (2 ^ 32) 0, .mirrorResend 0 0 head0 0 (2 ^ 64), .keystoneRefused 0 0 head0 (2 ^ 32) 0 0 1,
      .keystoneRefused 0 0 head0 0 (2 ^ 64) 0 1, .keystoneRefused 0 0 head0 0 0 (2 ^ 32) 1, .keystoneRefused 0 0 head0 0 0 0 256,
      .handover 0 0 head0 (2 ^ 32) 0, .handover 0 0 head0 0 (2 ^ 32), .probe 0 0 head0 false (2 ^ 32) 0 [],
      .probe 0 0 head0 false 0 (2 ^ 64) [], .probeReply 0 0 head0 false 0 0 (2 ^ 64) [] 0,
      .probe 0 0 head0 false 0 0 (List.replicate 65 ⟨0, 0, 0⟩), .bulkExtentCopy (some (0, 73))] : List Instr).all (fun i => !i.wf)) = true := by decide +kernel

/-! ### States for the witnesses -/

/-- The module released, with power at its default. -/
def up : State := { State.reset with phase := .released }

/-- Pier 0, alone in its domain, issues slots. -/
def live : State := { up.setFld Fld.PCTL_STATUS_STATE 0 2 with binding := [0] }

/-- A tile of a format whose side-band says nothing but its tag, its scale of 1 and its step. -/
def tile0 (f : Fmt) : Tile := vecTile f 0

/-- Region `r` of pier 0 holds one tile of format `f` in its slot 0, which has landed. -/
def withTile (s : State) (r : RegionIx) (f : Fmt) : State :=
  let t := ((s.setFld Fld.REGION_DESC_BASE (regionIx 0 r) r.val).setFld Fld.REGION_DESC_SIZE (regionIx 0 r) 4).setRegion 0 r
    ⟨0, 1, 1, false, 0, 1, []⟩
  (t.setSlot 0 r.val { SlotRec.init with full := true }).writeBytes (deckSide 0 r.val) (tile0 f).sideBytes

/-- Region 2 of pier 0 holds a BF16 tile. -/
def fed : State := withTile live 2 .bf16

/-- Region 2 of pier 0 holds a BF16 tile, and its arch 1 a BF16 grid. -/
def gridded : State :=
  (fed.setFld Fld.ARCH_STATUS_STAT_VALID (archIx 0 1) 1).setFld Fld.ARCH_STATUS_STAT_FMT (archIx 0 1) (Fmt.tag .bf16)

/-- The last slot of a program. -/
def lastSlot : Nat := 2 ^ 48 - 1

/-! ### Witnesses -/

/-- A pier that issues, with no work in progress, can issue every slot. -/
theorem witness_readyAt : live.readyAt 0 0 ∧ live.readyAt 0 lastSlot ∧ fed.readyAt 0 0 ∧ gridded.readyAt 0 0 := by
  unfold State.readyAt; decide +kernel

/-- A BF16 tile is there for LOADS, a grid and a tile for PASS, room for DRAIN, and entries for ZERO. -/
theorem witness_ArchInstructionsRun :
    (let v := fed.issuedFor 0 0 (fed.loadsNeeds 0 0 1 2 0 false)
     (fed.loadsNeeds 0 0 1 2 0 false).met fed 0 0 ∧ fed.noUe ∧ v.loadsBusy 0 1 0 = false ∧
      v.feed 0 2 (firstOff 0 false) .bf16 false (v.readStale 0 2 (firstOff 0 false) 0) = .tile 0 (v.readTile 0 2 0) false) ∧
    (let v := gridded.issuedFor 0 0 (gridded.passNeeds false 0 0 1 pass0 2 0 false)
     (gridded.passNeeds false 0 0 1 pass0 2 0 false).met gridded 0 0 ∧ pass0.src.onRing = false ∧
      v.gridTooEarly 0 1 0 = false ∧ v.passGrid 0 1 = some .bf16 ∧ Fmt.bf16.perCell = pass0.sfmt.perCell ∧
      lastEntry (pass0.base + (pass0.tiles - 1) * pass0.tstride) pass0.pitch (pass0.shape.width Fmt.bf16.perCell) < v.capacity 0 1) ∧
    (fed.roomLate false 0 2 1 0 = none ∧ ((fed.issuedAt 0 0).pier 0).pathTo ≤ 0 ∧
      ((fed.issuedAt 0 0).arch 0 1).portTo ≤ 0 ∧ lastEntry 0 0 drain0.outFmt.cols < (fed.issuedAt 0 0).capacity 0 1) ∧
    (((live.issuedAt 0 lastSlot).arch 0 1).portTo ≤ lastSlot ∧ 0 + 65536 ≤ (live.issuedAt 0 lastSlot).capacity 0 1) := by
  unfold Needs.met State.noUe; decide +kernel

/-- Pier 0 issues as a pier of segment 0, whose head it is on the clockwise carriageway. -/
def onSegment : State := (fed.setFld Fld.PCTL_STATUS_DOMAIN 0 0).setFld Fld.RING_CFG_ROLE 0 (headRole .cw)

/-- Region 2 of pier 0 is in halves, and may flip. -/
def halved : State := ((fed.setFld Fld.REGION_DESC_HALVES (regionIx 0 2) 1)).setRegion 0 2 ⟨0, 0, 0, false, 1, 0, []⟩

/-- A pass from a carriageway takes a segment. -/
theorem witness_ArchInstructionsRun_ring :
    onSegment.binding = [0] ∧ (PassSrc.carriageway .cw).onRing = true ∧
    (onSegment.issuedFor 0 0 (onSegment.passNeeds false 0 0 1 { pass0 with src := .carriageway .cw } 2 0 false)).noSegment 0 = false := by
  decide +kernel

/-- A tile and a free carriageway for INJECT, a region in halves for FLIP, a tile for RELEASE, and idle engines. -/
theorem witness_RegionAndEngineInstructionsRun : halved.readyAt 0 0 ∧ onSegment.readyAt 0 0 ∧
    (let needs := onSegment.workNeeds false (injectWork 0 0 0 .cw 2 1023 .bf16 true 0 true)
     let v := onSegment.issuedFor 0 0 needs
     needs.met onSegment 0 0 ∧ v.domOf 0 = .seg 0 ∧ v.fld Fld.RING_CFG_ROLE 0 = headRole .cw ∧ v.injectBusy 0 .cw 0 = false ∧
      0 < 1023 ∧ onSegment.noUe ∧
      v.feed 0 2 (firstOff 0 true) .bf16 true (v.readStale 0 2 (firstOff 0 true) 0) = .tile 0 (v.readTile 0 2 0) false) ∧
    (halved.flipLate false 0 2 0 = none ∧ halved.halves 0 2 = true) ∧
    fed.relLate 0 2 (fed.pendingRel 0 2 0) 0 = none ∧ (fed.issuedAt 0 0).streamBit Fld.APPROACH_STATUS_ARMED 0 15 = false ∧
    fed.runDone 0 7 = true ∧ (fed.run 0 7).fault = none := by
  unfold State.readyAt Needs.met State.noUe; decide +kernel

/-- Region 2 of pier 0 holds two FP32 tiles, region 3 has room, and a statistics tile is open there. -/
def collected : State :=
  let s := ((withTile live 2 .fp32).setRegion 0 2 ⟨0, 2, 2, false, 0, 2, []⟩).setSlot 0 3 { SlotRec.init with full := true }
  let t := (s.writeBytes (deckSide 0 3) (tile0 .fp32).sideBytes).setPier 0 { s.pier 0 with stats := [⟨3, []⟩] }
  (t.setFld Fld.REGION_DESC_BASE (regionIx 0 3) 8).setFld Fld.REGION_DESC_SIZE (regionIx 0 3) 4

/-- Tokens that are granted. -/
def granted : State := live.setFld Fld.SPAN_TOKEN_GRANTED 0 208

/-- Tokens are granted, the ramp has room, no loop is open, region 3 has room for an open statistics tile, and no other pier is at a barrier. -/
theorem witness_ControlInstructionsRun : granted.readyAt 0 0 ∧ granted.tacqLate false 0 0 208 = none ∧
    Instr.tacq 0 0 208 ∉ granted.held.map Held.instr ∧
    granted.rampFull (spanOf 0) (granted.cycleOf 0 0) (granted.trelAmount 0 208 false) = false ∧
    ((granted.issuedAt 0 0).pier 0).loops.length < 7 ∧ (collected.pier 0).stats = [⟨3, []⟩] ∧ collected.readyAt 0 0 ∧
    firstLate ((collected.pier 0).stats.map (fun e => collected.roomLate false 0 e.region 1 0)) = none ∧
    ((granted.issuedAt 0 0).firstMask 0 255 true).getD (255, true) = (255, true) := by
  unfold State.readyAt; decide +kernel

/-- No result of a vector instruction is on its way. -/
theorem witness_VectorArithmeticRuns : live.readyAt 0 lastSlot ∧
    ∀ k ∈ [63, 0, 1, 2, 64 + 7, 64 + 0], live.notReady 0 lastSlot k = false := by
  unfold State.readyAt; decide +kernel

/-- The lines of the constants at offset 0 are in the pier cache. -/
def cached : State := live.setPier 0 { live.pier 0 with cache := [⟨0, []⟩, ⟨1, []⟩, ⟨2, []⟩, ⟨3, []⟩] }

theorem witness_VectorSourcesRun : live.readyAt 0 0 ∧ 2 ≤ (3 : Fin 4).val ∧ cached.readyAt 0 0 ∧
    ∀ l ∈ vldcLines 0 .fp32, ((cached.pier 0).cacheLine l).isSome = true := by
  unfold State.readyAt; decide +kernel

/-- Region 2 of pier 0 holds a BF16 tile and region 3 has room. -/
def roomy : State := ((fed.setFld Fld.REGION_DESC_BASE (regionIx 0 3) 8).setFld Fld.REGION_DESC_SIZE (regionIx 0 3) 4)

/-- A weight tile and a gradient tile have landed. -/
def updReady : State := withTile (withTile live 1 .bf16) 3 .bf16

theorem witness_VectorTileInstructionsRun_parts : roomy.readyAt 0 0 ∧
    ((roomy.vldNeeds 0 0 2 31 .bf16).met roomy 0 0 ∧ roomy.noUe ∧
      (roomy.issuedVFor 0 0 (roomy.vldNeeds 0 0 2 31 .bf16)).vecFeed 0 2 0 .bf16 =
        .tile 0 ((roomy.issuedVFor 0 0 (roomy.vldNeeds 0 0 2 31 .bf16)).readTile 0 2 0) false) ∧
    (roomy.pier 0).build 3 = none ∧ roomy.roomLate false 0 3 1 0 = none ∧ roomy.notReady 0 0 63 = false ∧ roomy.notReady 0 0 (64 + 7) = false := by
  unfold State.readyAt Needs.met State.noUe; decide +kernel

theorem witness_VectorTileInstructionsRun_transpose :
    (let needs := roomy.vtransNeeds false 0 0 2 3 0 true .bf16
     needs.met roomy 0 0 ∧
      ((roomy.issuedVFor 0 0 needs).vecReads 0 0 2 .bf16 0 0 (offsets 0 (transTiles .bf16) true)).1.isSome = true) ∧
    (nowWork 0 0 64 (.transpose 2 3 .bf16 [0] [0] true [Tile.empty])).kind = .transpose 2 3 .bf16 [0] [0] true [Tile.empty] ∧
    { nowWork 0 0 64 (.transpose 2 3 .bf16 [0] [0] true [Tile.empty]) with done := 63 }.done = 63 ∧ roomy.noUe := by
  unfold Needs.met State.noUe; decide +kernel

theorem witness_StatisticsInstructionsRun : collected.readyAt 0 0 ∧ collected.noUe ∧
    (firstLate ((List.range (2 * 1)).map (fun j => collected.readLate 0 2 (0 + j) 0)) = none ∧ collected.notReady 0 0 5 = false ∧
      ((collected.issuedV 0 0).vecTiles 0 0 2 ((collected.issuedV 0 0).statFmt 0 2 0) ((List.range (2 * 1)).map (0 + ·))).1.isSome = true) ∧
    (firstLate ((List.range 2).map (fun j => collected.readLate 0 2 j 0)) = none ∧ collected.notReady 0 0 6 = false ∧
      ((collected.issuedV 0 0).vecTiles 0 0 2 .fp32 (List.range 2)).1.isSome = true) ∧
    (collected.pier 0).records 3 = some [] ∧ collected.roomLate false 0 3 1 0 = none ∧ (collected.pier 0).records 4 = none ∧
    (newWork 0 1 1 (.stat ⟨0, .stat 0 1, 2, .fp32, [0], 0, 64, 2, 3, 0, 0, 0, 300, []⟩)).left = 1 ∧
    ((collected.pier 0).atJoint = none ∧ ((collected.pier 0).records 3).getD [] ++ StatRun.records ⟨0, .stat 0 1, 2, .fp32, [0], 0, 64, 2, 3,
      0, 0, 0, 300, []⟩ ≠ List.replicate 1024 (0, 0)) := by
  unfold State.readyAt State.noUe; decide +kernel

theorem witness_VectorTileInstructionsRun_upd : updReady.readyAt 0 0 ∧
    (updReady.workNeeds false (updWork 0 0 upd0 1023 updReady.launchStep)).met updReady 0 0 := by
  unfold State.readyAt Needs.met; decide +kernel

/-- Pier 0 waits at a joint in a schedule that runs. -/
def atJoint : State :=
  let s := (live.setFld Fld.PCTL_STATUS_STATE 0 4).setFld Fld.SCHED_STATUS_STATE 0 3
  s.setPier 0 { s.pier 0 with atJoint := some none }

/-- Pier 0 waits at a joint of a step that is failing. -/
def failing : State := atJoint.setFld Fld.SCHED_STATUS_STATE 0 4

/-- Pier 0, in segment 7, waits at a barrier that names that segment. -/
def atBarrier : State :=
  let s := (live.setFld Fld.PCTL_STATUS_STATE 0 4).setFld Fld.PCTL_STATUS_DOMAIN 0 7
  s.setPier 0 { s.pier 0 with atBarrier := some (128, false) }

/-- Every gate stands at a STATE. -/
def allGates (v : Nat) : State := (List.range 8).foldl (fun s g => s.setFld Fld.GATE_STATUS_STATE g v) up

/-- Pier 0 is stalled. -/
def stalled : State := live.setFld Fld.PCTL_STATUS_STATE 0 3

/-- Pier 0 is stalled with an instruction that is late. -/
def holding : State := { stalled with held := [⟨true, .halt 0 9⟩] }

theorem witness_ScheduleEventsRun :
    (atJoint.settleAll.jointReady false = true ∧ atJoint.fld Fld.SCHED_STATUS_STATE 0 = 3 ∧
      atJoint.flag Fld.SCHED_STATUS_PREEMPT_PENDING 0 = false) ∧
    (failing.settleAll.jointReady false = true ∧ failing.fld Fld.SCHED_STATUS_STATE 0 = 4) ∧
    (atBarrier.flag Fld.TOKEN_STATUS_BRACE 0 = false ∧ atBarrier.waitersOf 128 false = [0] ∧
      ∀ p ∈ atBarrier.binding, atBarrier.barrierNames 128 false p = true → (atBarrier.pier p).atBarrier = some (128, false)) ∧
    (let s := atJoint.setFld Fld.SCHED_STATUS_PREEMPT_PENDING 0 1
     s.fld Fld.SCHED_STATUS_STATE 0 = 3 ∧ s.flag Fld.SCHED_STATUS_PREEMPT_PENDING 0 = true) := by
  decide +kernel

theorem witness_ScheduleEventsRun_stall :
    (stalled.flag Fld.TOKEN_STATUS_BRACE 0 = false ∧ (stalled.domPiers (.solo 0)).any (fun p => stalled.stalled p) = true ∧
      (∀ p ∈ stalled.domPiers (.solo 0), (stalled.pier p).owing = 0) ∧ stalled.binding.Nodup ∧
      stalled.held.filter (fun h => stalled.heldIn (.solo 0) h) = []) ∧
    (holding.flag Fld.TOKEN_STATUS_BRACE 0 = false ∧ (holding.domPiers (.solo 0)).any (fun p => holding.stalled p) = true ∧
      (∀ p ∈ holding.domPiers (.solo 0), (holding.pier p).owing = 0) ∧
      holding.held.filter (fun h => holding.heldIn (.solo 0) h) = [⟨true, .halt 0 9⟩]) := by
  decide +kernel

theorem witness_ScheduleEventsRun_line :
    (let s := { atJoint with imageObject := 5 }
     s.launched = true ∧ 0 ∈ s.binding ∧ s.objAddr s.imageObject 0 = none ∧ s.mayFetch 0 0 = true ∧ (s.readLine 0 none).1 = false) ∧
    (let s := { ((allGates 2).setObject 5 ⟨true, false, false, 3, 21, 0, 1, 2097152⟩).setHome 0 ⟨true, 0, false, false, 0, 0, 0, 0⟩ with
        imageObject := 5, binding := [0] }
     let t := s.setFld Fld.SCHED_STATUS_STATE 0 3
     t.launched = true ∧ 0 ∈ t.binding ∧ t.objAddr t.imageObject (128 * 16383) = some 2097024 ∧ t.blocked 2097024 128 = false ∧
       (t.readLine 16383 none).1 = false ∧ (t.readLine 16383 (some (2097024, 4))).1 = true) := by
  decide +kernel

/-- Pier 0 has halted in a schedule that runs. -/
def halted : State := (live.setFld Fld.PCTL_STATUS_STATE 0 5).setFld Fld.SCHED_STATUS_STATE 0 3

/-- Pier 0 has stopped in a failing step. -/
def stopped : State := (live.setFld Fld.PCTL_STATUS_STATE 0 6).setFld Fld.SCHED_STATUS_STATE 0 4

/-- Mailbox slot `k` runs a packet of opcode `op`. -/
def withPacket (s : State) (k op : Nat) (params : List Byte) (begun : Bool) : State :=
  s.setMail k ⟨1, true, false, false, some ⟨op, 7, 1, false, params, begun, 0⟩, [], true, true, false⟩

/-- Pier 0 waits at the joint after PREEMPT. -/
def preempting : State := withPacket (atJoint.setFld Fld.SCHED_STATUS_PREEMPT_PENDING 0 1) 63 0x0204 (leBytes 4 5) true

theorem witness_ScheduleEndsRun :
    (halted.fld Fld.SCHED_STATUS_STATE 0 = 3 ∧ halted.binding ≠ [] ∧
      (∀ p ∈ halted.settleAll.binding, halted.settleAll.fld Fld.PCTL_STATUS_STATE p.val = 5) ∧ halted.settleAll.workDone = true) ∧
    failing.fld Fld.SCHED_STATUS_STATE 0 = 4 ∧
    (stopped.fld Fld.SCHED_STATUS_STATE 0 = 4 ∧ ∀ p ∈ stopped.binding, stopped.fld Fld.PCTL_STATUS_STATE p.val = 6) ∧
    (preempting.settleAll.flag Fld.SCHED_STATUS_PREEMPT_PENDING 0 = true ∧ preempting.settleAll.fld Fld.SCHED_STATUS_STATE 0 = 3 ∧
      preempting.settleAll.jointReady true = true ∧
      preempting.settleAll.runningOp [preemptOp] = some (63, ⟨0x0204, 7, 1, false, leBytes 4 5, true, 0⟩) ∧
      preempting.settleAll.objectBlocked 5 = false) ∧
    (let s := stalled.setPier 0 { stalled.pier 0 with stall := some ⟨9, 6, false, [2], false, false, true⟩ }
     s.domPiers (.solo 0) = [0] ∧ s.fld Fld.DEADLOCK_CFG_LIMIT_LOG2 0 ≠ 0 ∧ s.deadlocked (.solo 0) = true ∧
       s.fld Fld.SCHED_FAULT_CODE 0 = 0) := by
  decide +kernel

/-- Segment 0 runs clockwise from pier 0 to pier 1, which sends its exit tiles on port 3. -/
def exiting : State :=
  let s := (withTile live 2 .bf16)
  let s := ((s.setFld Fld.REGION_DESC_VALID (regionIx 0 2) 1).setFld Fld.PCTL_STATUS_DOMAIN 0 0).setFld Fld.RING_CFG_ROLE 0 (tailRole .cw)
  let s := ((s.setFld Fld.RING_CFG_EXIT_CW 0 2).setFld Fld.VIADUCT_LAYOUT_SEG_COUNT 0 1).setFld (extFld true 0) 0 3
  { s.setFld Fld.PORT_STATUS_STATE 3 5 with loopbacks := [0] }

theorem witness_RingEventsRun : (0 : SegIx) ∈ exiting.loopbacks ∧
    (exiting.extPort 0 (Cwy.cw = .cw) = some 3 ∧ exiting.tailPier 0 .cw = some 0 ∧
      exiting.exitHead 0 (exiting.exitRegion 0 .cw) = some 0 ∧ exiting.portState 3 = 5 ∧
      (∀ f ∈ (exiting.link 3).queue, f.1.vc ≠ 4) ∧ exiting.canRelease 0 (exiting.exitRegion 0 .cw) = true) := by
  decide +kernel

/-- Stream 15 of pier 0 is armed, with room for its tiles, and slot 9 waits for a refetch in `refetching`. -/
def armed : State :=
  let s := (live.setFld Fld.APPROACH_STATUS_ARMED 0 (2 ^ 15)).setFld Fld.STREAM_DESC0_REGION (streamIx 0 15) 2
  s.setFld Fld.REGION_DESC_VALID (regionIx 0 2) 1

def refetching : State := { armed with refetches := [(0, 9)] }

/-- A tag of attempt 1 whose single request is not answered. -/
def tag0 : Tag := ⟨0, 63, .stream 15, 0, 2, 0, 0, 0, false, 1, false, [], [4194303], [⟨[], none, false⟩], none⟩

/-- A watch entry that a tag waits for. -/
def want0 : WatchEntry := ⟨0, 0, 0, 0, 0, 64⟩

def tagged : State := { live with tags := [tag0] }
def starved : State := { live with tags := [{ tag0 with wants := [(7, want0)] }] }
def limit : State := { live with tags := [{ tag0 with attempt := 3 }] }

/-- A notice that names the generation of its slot is on its way. -/
def noticed : State := { live with staleNotices := [⟨0, 1023, 0, .access 0, 64⟩] }

/-- Copy descriptor 7 of pier 0 runs. -/
def copying : State := live.setRun 0 7 ⟨true, 0, none⟩

theorem witness_ApproachEventsRun :
    (refetching.fetching 0 = true ∧ refetching.freeTagNum 0 false 64 = some 0 ∧
      refetching.refetches.find? (fun e => e.1 = 0) = some (0, 9)) ∧
    (armed.fetching 0 = true ∧ armed.freeTagNum 0 false 64 = some 0 ∧ armed.refetches.find? (fun e => e.1 = 0) = none ∧
      armed.invalidGangs 0 = [] ∧ (armed.gangOrder 0).find? (fun n => armed.gangMay 0 n) = some 15) ∧
    (tagged.tagOf 0 false 63 = some tag0 ∧ tag0.waits = false ∧ tag0.wants = [] ∧ 0 < tag0.attempt ∧
      tag0.requests[0]? = some ⟨[], none, false⟩ ∧ tagged.requestBlocked ⟨[], none, false⟩ = false ∧ tag0.attempt < tagged.fld Fld.APPROACH_CFG_RETRY_LIMIT 0) ∧
    (limit.tagOf 0 false 63 = some { tag0 with attempt := 3 } ∧ ¬ 3 < limit.fld Fld.APPROACH_CFG_RETRY_LIMIT 0) ∧
    (starved.tagOf 0 false 63 = some { tag0 with wants := [(7, want0)] }) ∧
    (noticed.staleNotices.find? (fun n => n.pier = 0) = some ⟨0, 1023, 0, .access 0, 64⟩ ∧ (noticed.slot 0 1023).gen = 0 ∧
      noticed.openWrites = [] ∧ noticed.moves = [] ∧ (noticed.slot 0 1022).gen ≠ 1) ∧
    ((copying.run 0 7).running = true ∧ copying.fld Fld.PCTL_STATUS_STATE 0 ≠ 6) := by
  decide +kernel

/-- Gate 7 is in operation, and the repair of a row of it waits. -/
def repairing : State := (up.setFld Fld.GATE_STATUS_STATE 7 2).setGate 7 { Gate.init with repair := some ⟨1, 31, 63, 65535⟩ }

/-- Gate 7 has a watch entry 255. -/
def watched : State := { up with watch := [(2047, want0)] }

theorem witness_GateCommandsRun :
    ((tollhouseBlock - 64) % 64 = 0 ∧ (List.replicate 64 (1 : Byte)).length = 64 ∧ tollhouseBlock - 64 + 64 ≤ tollhouseBlock) ∧
    up.fld Fld.GATE_CFG_SCRUB_HOURS 7 ≠ 0 ∧
    (2 ≤ repairing.fld Fld.GATE_STATUS_STATE 7 ∧ repairing.fld Fld.GATE_STATUS_STATE 7 ≠ 5 ∧
      (repairing.gate 7).heat < heatRow 86 ∧ (repairing.gate 7).heat < heatRow 110) ∧
    ((allGates 4).blocked 0 64 = true ∧ (allGates 2).blocked (tollhouseBlock - 64) 64 = false ∧ symbolsAt (some (tollhouseBlock - 64, 3)) (tollhouseBlock - 64) ≤ 3) ∧
    (let s := repairing.setGate 7 { Gate.init with repair := some ⟨2, 31, 63, 65535⟩ }
     (s.gate 7).repair = some ⟨2, 31, 63, 65535⟩ ∧ s.launched = false ∧ s.softOf 7 31 63 65535 = none ∧
      s.pickSpare 7 ⟨2, 31, 63, 65535⟩ 3 = some 3) ∧
    (up.flag Fld.REPAIR_STATUS_BUSY 7 = false ∧ up.launched = false ∧ atJoint.flag Fld.REPAIR_STATUS_BUSY 7 = false ∧
      atJoint.launched = true) ∧
    ((repairing.gate 7).repair = some ⟨1, 31, 63, 65535⟩ ∧ repairing.pickSpare 7 ⟨1, 31, 63, 65535⟩ 3 = some 3 ∧
      repairing.pickEntry 7 31 7 = some 7) ∧
    watched.watch.find? (fun e => e.1 = watchSize * 7 + 255) = some (watchSize * 7 + 255, want0) := by
  decide +kernel

/-- A pooled object of one extent: in tier 1 at entry 0, awaited by a translation. -/
def awaited : State :=
  let s := up.setObject 5 ⟨true, true, false, 3, 21, 0, 1, 2097152⟩
  { s.setHome 0 ⟨true, 1, false, false, 0, 2 ^ 47, 2 ^ 47, 0⟩ with bringUps := [0] }

/-- The same extent in a stack, where every block is stack-local but one. -/
def crowded : State :=
  let s := (List.range 16).foldl (fun s n => s.setReg .interleaveMode n (if n = 0 then 0xFFFFFFFFFFFFFFFE else 0xFFFFFFFFFFFFFFFF)) awaited
  { s with poolCfg := (s.setFld Fld.HOME_CFG_POOL_RESERVE 0 600).reg .homeCfg 0 }.setHome 0 ⟨true, 0, false, false, 0, 0, 2 ^ 47, 0⟩

/-- The extent is marked, and its move is in progress. -/
def moving : State :=
  { awaited.setHome 0 ⟨true, 1, true, false, 0, 2 ^ 47, 2 ^ 47, 0⟩ with moves := [⟨5, 0, 0, 2 ^ 21 * 523775, .bringUp, .marked, false⟩] }

theorem witness_PoolCommandsRun :
    (moving.moves.find? (fun m => moving.moveEntry m = 0 && m.stage != .queued) = some ⟨5, 0, 0, 2 ^ 21 * 523775, .bringUp, .marked, false⟩ ∧
      moving.entryBusy 0 = false ∧ moving.moveBlocked ⟨5, 0, 0, 2 ^ 21 * 523775, .bringUp, .marked, false⟩ = false) ∧
    { moving with moves := [⟨5, 0, 1, 2 ^ 47, .evict, .copied, false⟩] }.moves.find?
      (fun (m : Move) => moving.moveEntry m = 0 && m.stage != MoveStage.queued) = some ⟨5, 0, 1, 2 ^ 47, .evict, .copied, false⟩ ∧
    (crowded.freeFrames < crowded.reserveFrames ∧ crowded.freeFrames + crowded.leaving < 2 * crowded.reserveFrames ∧ crowded.oldest = some 0 ∧
      crowded.ownerOf 0 = some (5, 0)) ∧
    (0 ∈ awaited.bringUps ∧ (awaited.home 0).moving = false ∧ (awaited.home 0).tier = 1 ∧ awaited.ownerOf 0 = some (5, 0) ∧
      awaited.frameFree 523775 = true) ∧
    (let s := (List.range 16).foldl (fun s n => s.setReg .interleaveMode n 0xFFFFFFFFFFFFFFFF) awaited
     0 ∈ s.bringUps ∧ (s.home 0).moving = false ∧ (s.home 0).tier = 1 ∧ s.ownerOf 0 = some (5, 0) ∧ s.frameFree 523775 = false ∧
       s.freeFrames = 0 ∧ s.leaving = 0 ∧ s.evictable = [] ∧ s.flag Fld.HOME_STATUS_EXHAUSTED 0 = false) := by
  decide +kernel

/-- An image with one binding of one pier, whose program is HALT: its bytes that are not zero, at address 0. -/
def image0 : NMap Byte :=
  [(0, 71), (1, 84), (2, 73), (3, 57), (4, 1), (12, 1), (14, 3), (20, 1), (24, 232), (25, 3), (64, 1), (68, 40), (72, 112), (80, 2),
    (84, 64), (88, 192), (96, 15), (100, 112), (105, 1), (116, 1), (120, 255), (121, 255), (122, 255), (123, 255), (124, 255),
    (125, 255), (126, 255), (127, 255), (140, 1), (248, 69)]

/-- Its signature, as a key of the test's own gives it. -/
def sign0 : NMap Byte :=
  [(272, 76), (273, 169), (274, 181), (275, 54), (276, 145), (277, 250), (278, 131), (279, 83), (280, 33), (281, 245), (282, 242),
    (283, 221), (284, 238), (285, 153), (286, 185), (287, 175), (288, 33), (289, 61), (290, 161), (291, 31), (292, 166), (293, 204),
    (294, 46), (295, 252), (296, 42), (297, 126), (298, 249), (299, 250), (300, 73), (301, 27), (302, 187), (303, 84)] ++
  [(304, 233), (305, 23), (306, 229), (307, 90), (308, 32), (309, 71), (310, 110), (311, 85), (312, 180), (313, 239), (314, 160),
    (315, 144), (316, 250), (317, 157), (318, 166), (319, 59), (320, 76), (321, 169), (322, 181), (323, 54), (324, 145), (325, 250),
    (326, 131), (327, 83), (328, 33), (329, 245), (330, 242), (331, 221), (332, 238), (333, 153), (334, 185), (335, 175)] ++
  [(336, 33), (337, 61), (338, 161), (339, 31), (340, 166), (341, 204), (342, 46), (343, 252), (344, 42), (345, 126), (346, 249),
    (347, 250), (348, 73), (349, 27), (350, 187), (351, 84), (352, 233), (353, 23), (354, 229), (355, 90), (356, 32), (357, 71),
    (358, 110), (359, 85), (360, 180), (361, 239), (362, 160), (363, 144), (364, 250), (365, 157), (366, 166), (367, 59)]

/-- The hash of that key. -/
def key0 : List Byte := beBytes 48 0x5e2010fabbd63372119850af998085c963691ff491126509dd398c1d768f04b0de918a2640064c743ae981092a737c70

/-- Object 5 holds the image, and program slot 0 its key. -/
def imaged : State :=
  let s := (up.setObject 5 ⟨true, false, false, 3, 21, 0, 1, 2097152⟩).setHome 0 ⟨true, 0, false, false, 0, 0, 0, 0⟩
  { s.setFld Fld.KEY_STATUS_SLOTS 0 21 with mem := image0 ++ sign0, imageObject := 5, programKeys := [(0, key0)] }

/-- The only bundle of the image lies in line 1, and pier 0 has passed it. -/
theorem witness_ScheduleEventsRun_notFetched :
    let s := { imaged.setFld Fld.SCHED_STATUS_STATE 0 3 with binding := [0] }
    let t := s.setPier 0 { s.pier 0 with cursor := ⟨1, 5, []⟩ }
    s.mayFetch 0 1 = true ∧ t.launched = true ∧ 0 ∈ t.binding ∧ t.mayFetch 0 1 = false := by
  decide +kernel

/-- The little-endian bytes of fields, each with its length. -/
def pk (fs : List (Nat × Nat)) : List Byte := fs.flatMap (fun e => leBytes e.1 e.2)

/-- A packet as `withPacket` lets a slot run it. -/
def packet (op : Nat) (params : List Byte) (begun : Bool) : Packet := ⟨op, 7, 1, false, params, begun, 0⟩

theorem witness_ProgramCommandsRun_load :
    let s := withPacket { imaged with imageObject := 0 } 0 0x0201 (pk [(4, 5)]) false
    let p := packet 0x0201 (pk [(4, 5)]) false
    let s0 := { s with imageObject := p.le 0 4 }
    let x := s0.readObject (p.le 0 4) 0 s0.imageLength
    s.runsPacket 0 0x0201 p ∧ s.inProgram = false ∧ (s.object (p.le 0 4)).valid = true ∧ (s.object (p.le 0 4)).pooled = false ∧
      s.readWaits (p.le 0 4) 0 s0.imageLength = false ∧ x.1 = false ∧ x.2.imageSigned = true ∧ x.2.imageBad = none := by
  unfold State.runsPacket; decide +kernel

/-- The image is loaded, and pier 135 is admitted. -/
def loaded : State := { imaged.setFld Fld.SCHED_STATUS_STATE 0 1 with admitted := [135] }

/-- The image is bound to pier 135. -/
def bound0 : State :=
  { (loaded.setFld Fld.SCHED_STATUS_STATE 0 2).setFld Fld.PCTL_STATUS_LOGICAL 135 0 with binding := [135] }

/-- Object 6 is pinned and can hold a save of one pier. -/
def withSaveRoom (s : State) : State := s.setObject 6 ⟨true, false, false, 3, 24, 1, 1, 2 ^ 24⟩

/-- A save of one pier of the image. -/
def save0 : Save := ⟨6, bound0.imageCover, bound0.reg .viaductLayout 0, bound0.reg .viaductExt 0, [⟨[], [], [], [], [], [], [], [], Pier.init, 0⟩], 0, 0, 0, 0⟩

theorem witness_ProgramCommandsRun_bind :
    let s := withPacket loaded 63 0x0202 (pk [(1, 1)]) false
    let p := packet 0x0202 (pk [(1, 1)]) false
    s.runsPacket 63 0x0202 p ∧ s.bindRefusal (p.le 0 1) = none ∧ s.bindingFor (p.le 0 1) = some (0, 112) := by
  unfold State.runsPacket; decide +kernel

theorem witness_ProgramCommandsRun_launch :
    (∀ flags ∈ [0, 2],
     let q := pk [(4, 0), (2, 0), (1, flags), (1, 0), (2, 0)]
     let s := withPacket bound0 0 0x0203 q false
     let v := s.checkBank ((packet 0x0203 q false).le 6 1 / 2 = 0) 5400 5400 5330
     s.runsPacket 0 0x0203 (packet 0x0203 q false) ∧ s.launchRefusal v (packet 0x0203 q false) = none ∧
       s.placePiers.launchWaits (packet 0x0203 q false) = false ∧ v.holdupWaits = false) := by
  unfold State.runsPacket; decide +kernel

theorem witness_ProgramCommandsRun_preempt :
    let q := pk [(4, 6)]
    let p := packet 0x0204 q false
    let s := withPacket (withSaveRoom (bound0.setFld Fld.SCHED_STATUS_STATE 0 3)) 0 0x0204 q false
    s.runsPacket 0 0x0204 p ∧ s.launched = true ∧ s.pinned (p.le 0 4) (saveSize s.binding.length) = true := by
  unfold State.runsPacket; decide +kernel

theorem witness_ProgramCommandsRun_resume :
    let q := pk [(4, 6)]
    let p := packet 0x0205 q false
    let r := (withSaveRoom (bound0.setFld Fld.SCHED_STATUS_STATE 0 5)).setHome 1 ⟨true, 1, false, false, 0, 2 ^ 47, 2 ^ 47, 0⟩
    let s := withPacket { r with saves := [save0] } 0 0x0205 q false
    let v := s.checkBank (!s.journalOff) 5400 5400 5330
    s.runsPacket 0 0x0205 p ∧ s.fld Fld.SCHED_STATUS_STATE 0 = 5 ∧ s.bound = true ∧ s.cannotRun = false ∧
      s.saveFor (p.le 0 4) = some save0 ∧ s.journalOff = false ∧ v.objectBlocked 6 = false ∧ v.holdupWaits = false ∧ v.holdupOk = true := by
  unfold State.runsPacket; decide +kernel

/-- The step counter stands at its last value but one. -/
def lastStep : State := up.setFld Fld.STEP_COUNTER_STEP 0 0xFFFFFFFE

theorem witness_ProgramCommandsRun_commit :
    let q := pk [(4, 0xFFFFFFFE), (1, 0)]
    let p := packet 0x0206 q false
    let s := withPacket lastStep 0 0x0206 q false
    let t := withPacket (lastStep.setFld Fld.PAIR_STATUS_STATE 0 2) 0 0x0206 q false
    let u := withPacket { lastStep.setFld Fld.PAIR_STATUS_STATE 0 5 with rejoinSender := true } 0 0x0206 q false
    let v := { u with pairing := { u.pairing with sent := some 0 } }
    (s.runsPacket 0 0x0206 p ∧ p.le 4 1 = 0 ∧ s.evaluating = false ∧ s.commitBarred = false ∧ s.launched = false ∧ s.pairState = 0 ∧
      s.handoverDue = false ∧ p.le 0 4 = s.stepNo ∧ p.le 0 4 ≠ 0xFFFFFFFF) ∧
    (t.runsPacket 0 0x0206 p ∧ t.evaluating = false ∧ t.commitBarred = false ∧ t.launched = false ∧ t.pairState = 2 ∧
      p.le 0 4 = t.stepNo) ∧
    (u.runsPacket 0 0x0206 p ∧ u.evaluating = false ∧ u.commitBarred = false ∧ u.launched = false ∧ u.pairState = 5 ∧
      u.rejoinSender = true ∧ u.handoverDue = false ∧ p.le 0 4 = u.stepNo) ∧
    (v.runsPacket 0 0x0206 p ∧ v.evaluating = false ∧ v.commitBarred = false ∧ v.launched = false ∧ v.handoverDue = true ∧
      p.le 0 4 = v.stepNo) := by
  unfold State.runsPacket; decide +kernel

theorem witness_ProgramCommandsRun_set :
    let q := pk [(4, 0), (1, 1), (3, 0), (4, 0xFFFFFFFF)]
    let p := packet 0x0206 q false
    let s := withPacket lastStep 0 0x0206 q false
    s.runsPacket 0 0x0206 p ∧ p.le 4 1 = 1 ∧ s.evaluating = false ∧ s.commitBarred = false ∧ s.launched = false ∧ s.pairState = 0 := by
  unfold State.runsPacket; decide +kernel

theorem witness_ObjectCommandsRun_map :
    -- A pinned object of one extent of 2 MiB at address 0, its entry in the packet.
    let w := 1 + 3 * 8 + 21 * 2 ^ 5 + 4194303 * 2 ^ 11 + 2 ^ 33
    let q := pk [(4, 5), (1, 0), (3, 0), (8, w), (8, 2097152), (8, 0), (8, 1), (8, 0), (8, 0), (8, 0)]
    let p := packet 0x0301 q false
    let s := withPacket up 0 0x0301 q false
    let d := p.record
    let raw := s.homeEntries p
    s.runsPacket 0 0x0301 p ∧ d.valid = true ∧ d.pooled = false ∧ p.le 24 8 = 0 ∧ raw.all (homeOk d.pooled) = true ∧
      s.mapRefusal (p.le 0 4) (p.le 4 1 = 1) d (raw.map homeOf) = none ∧ s.coveredFrames (p.le 0 4) d (raw.map homeOf) = [] ∧
      s.coveredFills (p.le 0 4) d (raw.map homeOf) = false ∧ ∀ e ∈ s.entriesOf (p.le 0 4), s.entryBusy e.1 = false := by
  unfold State.runsPacket; decide +kernel

/-- Object 5 is one extent of 2 MiB, and object 6 is not valid. -/
def mapped : State := (up.setObject 5 ⟨true, false, false, 3, 21, 0, 1, 2097152⟩).setHome 0 ⟨true, 0, false, false, 0, 0, 0, 0⟩

theorem witness_ObjectCommandsRun :
    (let q := pk [(4, 5), (4, 0), (4, 1), (4, 0), (8, 2097152)]
     let p := packet 0x0302 q false
     let s := withPacket mapped 0 0x0302 q false
     s.runsPacket 0 0x0302 p ∧ s.moveRefusal (p.le 0 4) (p.le 4 4) (p.le 8 4) (p.le 12 1) (p.le 16 8) = none ∧ p.le 8 4 ≠ 0) ∧
    (let q := pk [(4, 5), (4, 0), (4, 0), (4, 0), (8, 2097152)]
     let p := packet 0x0302 q false
     let s := withPacket mapped 0 0x0302 q false
     s.runsPacket 0 0x0302 p ∧ s.moveRefusal (p.le 0 4) (p.le 4 4) (p.le 8 4) (p.le 12 1) (p.le 16 8) = none ∧ p.le 8 4 = 0) ∧
    (let q := pk [(4, 1048575), (2, 3), (2, 0xFFFF), (4, 5), (4, 0), (8, 0), (8, 2097152)]
     let p := packet 0x0303 q false
     let s := withPacket mapped 0 0x0303 q false
     s.runsPacket 0 0x0303 p ∧ (s.window (p.le 0 4)).isOpen = false ∧ (s.window (p.le 0 4)).retired = false ∧
       s.isMirrorCopy (p.le 8 4) = false ∧ (s.object (p.le 8 4)).valid = true ∧
       p.le 16 8 + p.le 24 8 ≤ (s.object (p.le 8 4)).size ∧ s.openWindows < 1048576) ∧
    (let q := pk [(4, 1048575)]
     let s := withPacket mapped 0 0x0304 q false
     s.runsPacket 0 0x0304 (packet 0x0304 q false) ∧ s.windowBusy ((packet 0x0304 q false).le 0 4) = false) ∧
    (let q := pk [(2, 2600)]
     (withPacket up 63 0x0401 q false).runsPacket 63 0x0401 (packet 0x0401 q false)) := by
  unfold State.runsPacket; decide +kernel

/-- The mailbox is enabled and Juwire is active. -/
def hosted : State :=
  ((up.setFld Fld.JW_STATUS_STATE 0 5).setFld Fld.MAILBOX_CFG_ENABLE 0 1).setFld Fld.POWER_STATUS_STATE 0 1

/-- The header of slot 63 has a new SEQ. -/
def submitted : State :=
  State.writeBytes { hosted.setMail 63 { MailSlot.init with notified := true } with mailOrder := [63] } (hosted.slotBase 63) (pk [(2, 0), (2, 0x0101), (4, 7), (2, 1)])

theorem witness_SessionCommandsRun :
    (let q := pk [(2, 1), (2, 1), (4, 0), (8, 2 ^ 47), (8, 0), (8, 2 ^ 47), (8, 2 ^ 47), (4, 1)]
     let p := packet 0x0101 q false
     (withPacket up 0 0x0101 q false).runsPacket 0 0x0101 p ∧ p.le 0 2 ≤ 1 ∧ 1 ≤ p.le 2 2) ∧
    ((withPacket up 0 0x0102 [0] false).runsPacket 0 0x0102 (packet 0x0102 [0] false) ∧ (packet 0x0102 [0] false).le 0 1 = 0) ∧
    (let q := pk [(1, 1), (7, 0), (8, 2 ^ 47), (4, 136)]
     (withPacket up 0 0x0102 q false).runsPacket 0 0x0102 (packet 0x0102 q false) ∧ (packet 0x0102 q false).le 0 1 = 1 ∧
       136 ≤ (packet 0x0102 q false).le 16 4) ∧
    (let q := pk [(1, 2), (3, 0), (2, 65535)]
     (withPacket up 0 0x0102 q false).runsPacket 0 0x0102 (packet 0x0102 q false) ∧ (packet 0x0102 q false).le 0 1 = 2) ∧
    (let s := { withPacket up 63 0x0102 [2] true with probes := [(9, 63, 0)] }
     (∃ e ∈ s.probes, e.2.1 = 63) ∧ (s.mailSlot 63).running = some (packet 0x0102 [2] true)) ∧
    (let v := submitted.jwRead (submitted.slotBase 63) 64 true
     submitted.flag Fld.MAILBOX_CFG_ENABLE 0 = true ∧ submitted.jwActive = true ∧ submitted.tollUp = true ∧ submitted.warmReset = none ∧
      submitted.nextSlot = some 63 ∧ (v.packetOf 63).seq ≠ (v.mailSlot 63).seen ∧ v.powerState < 2) ∧
    (let s := submitted.setMail 63 { MailSlot.init with notified := true, seen := 1 }
     let v := s.jwRead (s.slotBase 63) 64 true
     s.flag Fld.MAILBOX_CFG_ENABLE 0 = true ∧ s.jwActive = true ∧ s.tollUp = true ∧ s.nextSlot = some 63 ∧ s.warmReset = none ∧
       (v.packetOf 63).seq = (v.mailSlot 63).seen) := by
  unfold State.runsPacket; decide +kernel

/-- A public key of the test's own. -/
def fwKey : List Byte := beBytes 48 0x2282bc382a2f4dfcb95c3495d7b4fd590ad520b3eb6be4d6ec2f80c4e0f70df87c4ba74a09b553ebb427b58df9d59fca ++ beBytes 48 0x0edda83773ac68735768d14a24f37a57ce9bedbc170921ce4d89dd051728fc3eb4b4ea69ab64fc288f1b29502b6e1d30

/-- A firmware image of one byte for a target, with its signature by that key. -/
def fwImage (target : Nat) (sig : List Byte) : List Byte :=
  pk [(4, 0x46575447), (1, target), (1, 0), (1, 0), (1, 0), (4, 1), (4, 0), (8, 1)] ++ fwKey ++ List.replicate 40 0 ++ [0xA5] ++ sig

/-- Object 5 holds that image, and the firmware slot FW0 is enrolled with the key. -/
def withFirmware (target : Nat) (sig : List Byte) : State :=
  let s := (mapped.setFld Fld.KEY_STATUS_SLOTS 0 1).writeBytes 0 (fwImage target sig)
  withPacket { s with firmwareKeys := [(0, sha384 fwKey)] } 0 0x0604 (pk [(1, target), (1, 0), (2, 0), (4, 5)]) false

theorem witness_ServiceCommandsRun_firmware_0 :
    let s := withFirmware 0 (beBytes 48 0x7b63205bf00ddae73b17452b6a27ebf53df581348c6949f83ee1b6fcc7463bbe3c11ef6596a3b8897d7cc85b3035f11f ++
      beBytes 48 0x4e332271de0bf2dd8f5cb8ccbc848ca0c4a781c55071cd4a27b6493adf0fe28d26aee3f1dae7ea60010a6c380787e32d)
    let p := packet 0x0604 (pk [(1, 0), (1, 0), (2, 0), (4, 5)]) false
    s.runsPacket 0 0x0604 p ∧ (s.object (p.le 4 4)).valid = true ∧ p.le 0 1 = 0 ∧
      s.readWaits (p.le 4 4) 0 (s.firmwareLength 0 (p.le 4 4)) = false ∧
      (let x := s.readObject (p.le 4 4) 0 (s.firmwareLength 0 (p.le 4 4))
       x.1 = false ∧ x.2.firmwareFault 0 0 (s.object (p.le 4 4)).size (x.2.firmwareBytes 0 (p.le 4 4)) = none) := by
  unfold State.runsPacket; decide +kernel

theorem witness_ServiceCommandsRun_firmware_1 :
    let s := withFirmware 1 (beBytes 48 0x7b63205bf00ddae73b17452b6a27ebf53df581348c6949f83ee1b6fcc7463bbe3c11ef6596a3b8897d7cc85b3035f11f ++
      beBytes 48 0x5c5fdb747411c194eaf6010791057bac221d691d3f24363ce94357d44766ff0cc3281d263ca9b78aebc2bc63ca52d47e)
    let p := packet 0x0604 (pk [(1, 1), (1, 0), (2, 0), (4, 5)]) false
    s.runsPacket 0 0x0604 p ∧ (s.object (p.le 4 4)).valid = true ∧ p.le 0 1 = 1 ∧
      s.readWaits (p.le 4 4) 0 (s.firmwareLength 1 (p.le 4 4)) = false ∧
      (let x := s.readObject (p.le 4 4) 0 (s.firmwareLength 1 (p.le 4 4))
       x.1 = false ∧ x.2.firmwareFault 1 1 (s.object (p.le 4 4)).size (x.2.firmwareBytes 1 (p.le 4 4)) = none) := by
  unfold State.runsPacket; decide +kernel

theorem witness_ServiceCommandsRun_firmware_2 :
    let s := withFirmware 2 (beBytes 48 0x7b63205bf00ddae73b17452b6a27ebf53df581348c6949f83ee1b6fcc7463bbe3c11ef6596a3b8897d7cc85b3035f11f ++
      beBytes 48 0x3e477c14ed867087f008c16d6a2e85537093e35a69121bca438a9151974796289f5e2a1266a80c20c3734592ef31166b)
    let p := packet 0x0604 (pk [(1, 2), (1, 0), (2, 0), (4, 5)]) false
    s.runsPacket 0 0x0604 p ∧ (s.object (p.le 4 4)).valid = true ∧ p.le 0 1 = 2 ∧
      s.readWaits (p.le 4 4) 0 (s.firmwareLength 2 (p.le 4 4)) = false ∧
      (let x := s.readObject (p.le 4 4) 0 (s.firmwareLength 2 (p.le 4 4))
       x.1 = false ∧ x.2.firmwareFault 2 2 (s.object (p.le 4 4)).size (x.2.firmwareBytes 2 (p.le 4 4)) = none) := by
  unfold State.runsPacket; decide +kernel

/-- The key of a signed response to a challenge of bytes 0x11 where the boot nonce is zero, and the response's signature. -/
def debugKey : List Byte := beBytes 48 0x822121fe9d79647f305d01beea29b6d9a2c6c5b5abc29e3366d06286cb687077bb7e477856f193505276c08c9641d17a ++ beBytes 48 0x05a4ef2aa37e52e30b425ccccee99dc4d56967db7925228c5c6545a1c5b2a6c03d019a5811f68326ec299d0d2135c659
def debugSig : List Byte :=
  let r := beBytes 48 0x4ae6a81d47656c46e702fe9d9a0a8bbcc4528efdf9404966d03a81be9193ff832432985f618201f13d14dffed0b4039e
  r ++ r

theorem witness_ServiceCommandsRun_signed :
    let q := pk [(1, 3), (3, 0), (4, 192)] ++ debugKey ++ debugSig
    let p := packet 0x0702 q false
    let s := withPacket { up with debugKeys := [sha384 debugKey], challenge := some (List.replicate 32 0x11) } 0 0x0702 q false
    s.runsPacket 0 0x0702 p ∧ p.le 0 1 = 3 ∧ p.le 4 4 = 192 ∧ s.authBarred = false ∧ s.debugKeys.getLast? = some (sha384 debugKey) ∧
      s.challenge = some (List.replicate 32 0x11) ∧ sha384 ((p.params.drop 8).take 96) = sha384 debugKey ∧
      ecdsaVerify ((p.params.drop 8).take 96) (List.replicate 32 0x11 ++ s.nonceBytes) ((p.params.drop 104).take 96) = true := by
  unfold State.runsPacket; decide +kernel

/-- A password bank with the salt of zeros for the password of one byte. -/
def bank0 : List Byte := List.replicate 16 0 ++ sha384 (List.replicate 16 0 ++ [0x55])

theorem witness_ServiceCommandsRun_password :
    let s := withPacket { up with passwords := [bank0] } 0 0x0702
    (let q := pk [(1, 1), (3, 0), (4, 1), (1, 0x55)]
     let p := packet 0x0702 q false
     (s q false).runsPacket 0 0x0702 p ∧ p.le 0 1 = 1 ∧ 0 < p.le 4 4 ∧ p.le 4 4 ≤ 64 ∧ (s q false).authBarred = false ∧
       (s q false).passwords.getLast? = some bank0 ∧ sha384 (bank0.take 16 ++ (p.params.drop 8).take (p.le 4 4)) = bank0.drop 16) ∧
    (let q := pk [(1, 1), (3, 0), (4, 64), (64, 0x56)]
     let p := packet 0x0702 q false
     (s q false).runsPacket 0 0x0702 p ∧ p.le 0 1 = 1 ∧ p.le 4 4 = 64 ∧
       sha384 (bank0.take 16 ++ (p.params.drop 8).take (p.le 4 4)) ≠ bank0.drop 16) := by
  unfold State.runsPacket; decide +kernel

theorem witness_ServiceCommandsRun :
    (let q := pk [(1, 3), (3, 0), (4, 0), (8, 2 ^ 47), (4, 32)]
     let s := withPacket { up with journal := [⟨.time 1 2 3 4, 0⟩] } 0 0x0605 q false
     let p := packet 0x0605 q false
     s.runsPacket 0 0x0605 p ∧ ((s.inArea (p.le 0 1)).reverse.drop (p.le 4 4)).take (p.le 16 4 / recordSize (p.le 0 1)) = [.time 1 2 3 4]) ∧
    (let q := pk [(8, 5)]
     (withPacket up 0 0x0606 q false).runsPacket 0 0x0606 (packet 0x0606 q false)) ∧
    (let q := pk [(1, 2), (3, 0), (4, 0)]
     (withPacket up 0 0x0702 q false).runsPacket 0 0x0702 (packet 0x0702 q false) ∧ (packet 0x0702 q false).le 0 1 = 2 ∧
       (packet 0x0702 q false).le 4 4 = 0) ∧
    (∀ e ∈ [(1, 65), (2, 1), (3, 191)],
     let q := pk [(1, e.1), (3, 0), (4, e.2)]
     (withPacket up 0 0x0702 q false).runsPacket 0 0x0702 (packet 0x0702 q false) ∧ (packet 0x0702 q false).le 0 1 = e.1 ∧
       (packet 0x0702 q false).le 4 4 = e.2) := by
  unfold State.runsPacket; decide +kernel

theorem leBytes_length (n v : Nat) : (leBytes n v).length = n := by
  induction n generalizing v with
  | zero => rfl
  | succ n ih => simp [leBytes, ih]

/-- A signature is 96 bytes long where one is made. -/
theorem ecdsaSign_length (d : Nat) (ks : List Nat) (msg : List Byte) : (ecdsaSign d ks msg).length ≤ 96 := by
  unfold ecdsaSign
  cases h : ks.findSome? (fun k => signWith d k msg) with
  | none => simp
  | some b =>
    obtain ⟨k, -, hk⟩ := List.exists_of_findSome?_eq_some h
    unfold signWith at hk
    split at hk
    · cases hk
    · dsimp only at hk
      split at hk
      · cases hk
      · simp only [Option.some.injEq] at hk
        simp [← hk, beBytes, leBytes_length]

/-- A public key is 96 bytes long where it is a point. -/
theorem publicKey_length (d : Nat) : (publicKey d).length ≤ 96 := by
  unfold publicKey
  cases ecMul 384 d curveG <;> simp [keyBytes, beBytes, leBytes_length]

/-- A report is at most 4,876 bytes long: its certificates are at most 4,096. -/
theorem witness_ServiceCommandsRun_attest (s : State) :
    let report (n : List Byte) := s.reportBody n ++ identitySign (s.reportBody n)
    (report (List.replicate 32 0)).length ≤ 65535 ∧ 0 < (report (List.replicate 32 0)).length := by
  intro report
  have h : certChain.length ≤ 4096 := List.length_take_le _ _
  have g : (identitySign (s.reportBody (List.replicate 32 0))).length ≤ 96 := ecdsaSign_length _ _ _
  have e : ((List.range 8).flatMap s.mrBytes).length = 384 := by
    simp [List.range_succ, State.mrBytes, leBytes_length]
  have k : (publicKey identityPrivate).length ≤ 96 := publicKey_length _
  simp only [report, List.length_append]
  simp only [State.reportBody, State.nonceBytes, List.length_append, leBytes_length, List.length_replicate, e] at *
  omega

theorem witness_FirmwareEventsRun :
    (let s := (withPacket up 5 0x0604 [0] true).setTrial (some 1)
     s.switchWaits = some 5 ∧ s.trial = some 1 ∧ s.quiet 5 = true ∧ s.flag Fld.FW_STATUS_TRIAL 0 = false) ∧
    (let s := (up.setFld Fld.FW_STATUS_TRIAL 0 1).setTrial (some 1)
     s.trial = some 1 ∧ 1 < 2 ∧ s.flag Fld.FW_STATUS_TRIAL 0 = true) ∧ up.tollUp = true := by
  decide +kernel

/-- Service access is open. -/
def opened : State := up.setFld Fld.SERVICE_CTRL_OPEN 0 1

theorem witness_OwnerFuseCommandsRun : opened.tollUp = true ∧ opened.flag Fld.SERVICE_CTRL_OPEN 0 = true ∧
    opened.keyState (2 + 1) = 0 ∧ opened.keyState (3 - 1) ≠ 2 ∧ opened.passwords.length < 4 ∧ opened.debugKeys.length < 4 ∧
    up.tollUp = true ∧ up.flag Fld.SERVICE_CTRL_OPEN 0 = false := by
  decide +kernel

/-- Pier 135 is spare, 0 is admitted. -/
def spare : State := { up.setFld Fld.DEVICE_ID_GRADE 0 112 with admitted := [0] }

theorem witness_TestCommandsRun :
    (let q := pk [(1, 135), (1, 0)]
     let p := packet 0x0601 q false
     let s := withPacket spare 0 0x0601 q false
     s.runsPacket 0 0x0601 p ∧ p.le 0 1 = 135 ∧ p.le 1 1 = 0 ∧ (135 : PierIx) ∉ s.fenced ∧ (135 : PierIx) ∉ s.failed) ∧
    (let q := pk [(1, 135)]
     let p := packet 0x0602 q false
     let s := withPacket spare 0 0x0602 q false
     s.runsPacket 0 0x0602 p ∧ p.le 0 1 = 135 ∧ (135 : PierIx) ∉ s.admitted ∧ s.admitted.length < s.ceiling ∧
       s.flag Fld.THERM_STATUS_TRIPPED 0 = false ∧ s.testRuns = false) ∧
    (let q := pk [(1, 2), (1, 135)]
     let p := packet 0x0603 q false
     let s := withPacket spare 0 0x0603 q false
     s.runsPacket 0 0x0603 p ∧ p.le 0 1 = 2 ∧ p.le 1 1 = 135 ∧ (135 : PierIx) ∉ s.admitted ∧ s.testRuns = false) := by
  unfold State.runsPacket; decide +kernel

theorem witness_TestCommandsRun_module :
    (∀ scope ∈ [0, 1],
     let q := pk [(1, scope)]
     let p := packet 0x0603 q false
     let s := withPacket (spare.setFld Fld.TOKEN_STATUS_BUDGET_W 0 2350) 0 0x0603 q false
     s.runsPacket 0 0x0603 p ∧ s.inProgram = false ∧ s.testRuns = false ∧ 2350 ≤ s.fld Fld.TOKEN_STATUS_BUDGET_W 0 ∧ p.le 0 1 = scope) ∧
    (let q := pk [(1, 3), (1, 7)]
     let p := packet 0x0603 q false
     let s := withPacket spare 0 0x0603 q false
     s.runsPacket 0 0x0603 p ∧ p.le 0 1 = 3 ∧ s.launched = false ∧ s.testRuns = false) := by
  unfold State.runsPacket; decide +kernel

theorem witness_TestCommandsRun_ends :
    ({ up with bist := some ⟨0, 0, 63, false, 0⟩ }.bist = some ⟨0, 0, 63, false, 0⟩) ∧
    ({ up with tests := [⟨135, .park⟩] }.tests.find? (fun (t : PierTest) => t.pier = 135) = some ⟨135, .park⟩) ∧
    (let q := pk [(1, 1), (1, 135)]
     let p := packet 0x0801 q false
     let s := withPacket spare 0 0x0801 q false
     s.runsPacket 0 0x0801 p ∧ p.le 0 1 = 1 ∧ p.le 1 1 = 135 ∧ ∀ x ∈ s.tests, x.pier ≠ 135) ∧
    (let q := pk [(1, 2), (1, 11)]
     let p := packet 0x0801 q false
     (withPacket spare 0 0x0801 q false).runsPacket 0 0x0801 p ∧ p.le 0 1 = 2 ∧ p.le 1 1 ≤ 11) ∧
    (let q := pk [(1, 0), (1, 0)]
     (withPacket spare 0 0x0801 q false).runsPacket 0 0x0801 (packet 0x0801 q false) ∧ (packet 0x0801 q false).le 0 1 = 0) := by
  unfold State.runsPacket; decide +kernel

theorem witness_ResetsRun : State.reset.phase = .off ∧ up.phase = .released ∧
    (let s := { up with phase := .reset 3 true, recovering := true }
     s.phase = .reset 3 true ∧ s.recovering = true ∧ s.refLost = false ∧ s.sensed 0 = State.reset.sensed 0 ∧ (s.setSense 0 true).sensed 0 = true ∧
       (s.setSense 0 false).sensed 0 = false ∧ (s.setSense 0 false).phase = .reset 3 true) ∧ { up with phase := .booted 0 }.phase = .booted 0 := by
  decide +kernel

theorem witness_PowerCommandsRun :
    (up.phase = .released ∧ up.powerState = 0 ∧ up.launched = false ∧ up.runsAny runningOps = false ∧ up.tests = [] ∧ up.bist = none) ∧
    (let s := up.setFld Fld.POWER_STATUS_STATE 0 1
     s.phase = .released ∧ s.powerState ≤ 1 ∧ s.powerRefusal false = 0 ∧ s.tests = [] ∧ s.moves = [] ∧ s.openWrites = []) ∧
    (let s := up.setFld Fld.POWER_STATUS_STATE 0 2
     s.phase = .released ∧ s.powerState ≤ 2 ∧ s.powerRefusal true = 0 ∧ s.tests = [] ∧ s.powerState = 2 ∧ s.braced = false) ∧
    (up.setFld Fld.POWER_STATUS_STATE 0 3).powerState = 3 ∧
    ((up.setFld Fld.POWER_STATUS_STATE 0 4).powerState = 4 ∧ (up.setFld Fld.POWER_STATUS_STATE 0 4).wakeWanted = none) ∧
    (up.setFld Fld.TOKEN_STATUS_BRACE 0 1).braced = true ∧ up.braced = false ∧
    (up.setFld Fld.HOLDUP_STATUS_MEASURING 0 1).flag Fld.HOLDUP_STATUS_MEASURING 0 = true ∧
    ((up.setFld Fld.HOLDUP_STATUS_VALID 0 1).flag Fld.HOLDUP_STATUS_VALID 0 = true ∧ (up.setFld Fld.HOLDUP_STATUS_VALID 0 1).braced = false) ∧
    { up with journalWrites := [.time 1 2 3 4] }.journalWrites = [.time 1 2 3 4] ∧
    { up with journalWrites := [.keystone true 5 6 7 8 9] }.journalWrites = [.keystone true 5 6 7 8 9] ∧
    { up with journalWrites := [.keystone false 5 6 7 8 9] }.journalWrites = [.keystone false 5 6 7 8 9] := by
  decide +kernel

/-- Clock mode 1 (stepped), with the step at 2. -/
def stepped : State := up.setFld Fld.CLK_STATUS_MODE 0 1

theorem witness_SensorEventsRun :
    (let s := up.setFld Fld.THERM_STATUS_TRIPPED 0 1
     s.flag Fld.THERM_STATUS_TRIPPED 0 = true ∧ s.hottest.1 ≤ 380) ∧
    (up.fld Fld.TOKEN_STATUS_BUDGET_W 0 < 65535 ∧ up.factorP ≤ 16) ∧
    (let s := stepped.setFld Fld.THERM_STATUS_TJ_MAX 0 1020
     s.flag Fld.CLK_STATUS_MODE 0 = true ∧ min (stepOf (s.fld Fld.THERM_STATUS_TJ_MAX 0)) (s.fld Fld.CLK_CFG_FSTEP_CAP 0) < s.fstep) ∧
    (up.flag Fld.CLK_STATUS_MODE 0 = false ∧ up.flag Fld.CLK_STATUS_TEST_PERIOD 0 = false ∧ up.clocked 16 = true ∧
      ∀ j < 17, up.holds j = false) ∧ stepped.clocked 16 = true ∧ State.reset.clocked 0 = false ∧
    up.flag Fld.CLK_STATUS_REF_LOST 0 = false ∧ ((135 : PierIx), 1) ∉ up.routerFails ∧ (1 : Fin 3).val ≠ 2 ∧
    (up.powerState ≠ 4 ∧ (((up.setSense 3 true).setSense 5 false).readInput 38000).mayBrace = true ∧ up.tests = []) ∧
    (let s := { up with braceAt := some 5, recovering := true }
     s.braceAt = some 5 ∧ s.recovering = true ∧ s.measureWanted = false ∧ s.wakeWanted = none) ∧
    ((up.takeTemps (List.replicate 17 460)).takeTemps (List.replicate 17 460)).tripSpan.isSome = true ∧ (up.takeTemps (List.replicate 17 100)).tripSpan = none := by
  decide +kernel

/-- Juwire is active and gates 0 to 7 serve. -/
def served : State := (List.range 8).foldl (fun s g => s.setFld Fld.GATE_STATUS_STATE g 2) (hosted.setFld Fld.POWER_STATUS_STATE 0 0)

theorem witness_JuwireCommandsRun :
    (served.jwActive = true ∧ served.tollUp = true ∧ served.powerState < 3) ∧
    (served.hostPlace (tollhouseBlock - 4096) 4096 = .onModule ∧ served.rangeServed (tollhouseBlock - 4096) 4096 = true ∧
      served.behindWaits (tollhouseBlock - 4096) 4096 = false ∧ tollhouseBlock - 4096 < hostBase) ∧
    (hosted.hostPlace 0 64 = .onModule ∧ hosted.rangeServed 0 64 = false) ∧
    { served with admitted := [135] }.hostPlace 0x010087C3FFFF 1 = .deck ∧
    (served.hostPlace 0x020000000000 8 = .regs ∧ 0x020000000000 % 8 = 0 ∧ served.hostPlace 0x02FFFFFFFFFC 4 = .regs) ∧
    served.hostPlace 0x030000000000 64 = .hole ∧
    (let s := { served with jwBusy := [(9, .reply 63)] }
     s.jwActive = true ∧ s.jwHeld = [] ∧ s.jwBusy.find? (fun (e : Nat × JwKind) => e.1 = 9) = some (9, .reply 63) ∧
       ∀ e ∈ s.jwBusy, e.1 ≠ 9 → e.2 ≠ .reply 63) ∧
    served.jwBusy.find? (fun (e : Nat × JwKind) => e.1 = 9) = none ∧ 0x800000000001 % 64 ≠ 0 ∧
    { served with hostWaits := [.request (.jwWr 9 64 [1] false none)] }.behindWaits 64 1 = true ∧
    (served.setFld Fld.JW_STATUS_STATE 0 6).jwRecovering = true ∧
    (served.flag Fld.MAILBOX_CFG_ENABLE 0 = true ∧ served.flag Fld.EVT_STATUS_QUEUE_VALID 0 = false ∧
      0x7E000 + hostBase = served.slotBase 63) ∧ jwReaches 0#32 1 1 ≠ 5 ∧ up.jwRecovering = false ∧
    (jwWidth 0xFFFF0000#32 = some true ∧ up.jwActive = false ∧ up.tollUp = true) ∧
    { served with hostWaits := [.request (.jwRd 9 0 64 false none)] }.hostWaits.find? (waitsAs 9) = some (.request (.jwRd 9 0 64 false none)) := by
  decide +kernel

/-- A notice at a level. -/
def note (l : Nat) : Notice := ⟨.regAccessFault, 1, l, 0, 0, 0, 0, 0, 0, none⟩

/-- Level 3 is taken, and notices of levels 2, 7 and 7 wait. -/
def interrupted : State := { up with taken := [note 3], notices := [note 2, { note 7 with detail := 1 }, note 7] }

/-- A record is being written, and the host has read HEAD. -/
def recording : State := { hosted with recordOut := true, posted := [(0, note 3)] }

theorem witness_EventCommandsRun :
    interrupted.presented = some { note 7 with detail := 1 } ∧
    (interrupted.taken.getLast? = some (note 3) ∧ (note 3).level = (3 : Fin 8).val) ∧
    ((note 3).level ≠ (5 : Fin 8).val ∧ (note 3).level ≠ 7) ∧
    (recording.recordOut = true ∧ recording.evtHeadRead = recording.evtIndex ∧
      (recording.jwBusy.filter (fun e => e.2 != JwKind.record)).length < 4096) ∧
    (let s := recording.setReg .evtTail 0 1
     s.recordOut = true ∧ s.evtHeadRead ≠ s.evtIndex) ∧
    (let s := hosted.setFld Fld.MAILBOX_CFG_ENABLE 0 0
     s.regsUp = true ∧ s.jwActive = true ∧ s.flag Fld.MAILBOX_CFG_ENABLE 0 = false ∧ Fld.MAILBOX_CFG_ENABLE.ofWord 1 = 1) ∧
    (hosted.regsUp = true ∧ hosted.flag Fld.MAILBOX_CFG_ENABLE 0 = true ∧ Fld.MAILBOX_CFG_ENABLE.ofWord 0 = 0 ∧
      Fld.MAILBOX_CFG_BASE.ofWord 0 = hosted.fld Fld.MAILBOX_CFG_BASE 0) := by
  decide +kernel

theorem witness_RegisterCommandsRun :
    up.regsUp = true ∧ 0x020000000001 % 8 ≠ 0 ∧ regAt 0x030000000000 = .hole ∧ regAt 0x020100400030 = .reserved none ∧
    (regAt 0x020100400000 = .listed .homeCfg 0 none ∧
      (∀ f ∈ regFields .homeCfg, f.acc = .rw → f.isLegal (f.ofWord 0x200000) = true) ∧
      (∀ f ∈ [Fld.HOME_CFG_AGE_GRAIN_LOG2], f.isLegal (f.ofWord 0) = false)) ∧
    (up.parapets[1023]? = none ∧ { up with parapets := [⟨1, 5, 0, 1⟩] }.parapets[0]? = some ⟨1, 5, 0, 1⟩) ∧
    ({ up with admitted := [135] }.pierUp (some 135) = true ∧ up.flag Fld.SERVICE_CTRL_OPEN 0 = false ∧
      (let s := { opened with fenced := [135], tests := [⟨135, .bist 0⟩] }
       s.pierUp (some 135) = true ∧ s.flag Fld.SERVICE_CTRL_OPEN 0 = true ∧ (135 : PierIx) ∈ s.fenced ∧
         (failedUnits (regWriteWord .unitRepair (s.reg .unitRepair (archIx 135 3)) 0x4140).1).length ≤ 2)) ∧
    (up.portCfgBars 11 0 = false ∧ ((up.setFld Fld.PAIR_STATUS_STATE 0 2).setFld Fld.PORT_CFG_ROLE 11 3).portCfgBars 11 0 = true) ∧
    ((∃ n : PortIx, 2 ≤ (up.setPortState 11 2).portState n.val) ∧ ∀ n : PortIx, up.portState n.val < 2) := by
  refine ⟨by decide +kernel, by decide, by decide +kernel, by decide +kernel, by decide +kernel, by decide +kernel, by decide +kernel,
    by decide +kernel, ⟨11, by decide +kernel⟩, by decide +kernel⟩

theorem witness_SidebandCommandsRun :
    (up.regsUp = true ∧ sbAddrOk 0x02FFFFFFFFF8 = true ∧ sbAddrOk 0x030000000000 = false) ∧
    (let s := { up.setFld Fld.FW_STATUS_NO_IMAGE 0 1 with phase := .noImage, nor := [(0, [1, 2])] }
     s.phase = .noImage ∧ s.flag Fld.FW_STATUS_NO_IMAGE 0 = true ∧ 2 + [(3 : Byte)].length ≤ norSize 0 ∧ s.norImage 0 = some [1, 2] ∧
       2 ≤ [(1 : Byte), 2].length) ∧
    (0x10 ≤ (0x1F : Byte).toNat ∧ (0x0F : Byte).toNat < 0x10 ∧ 0x1F < (0x20 : Byte).toNat) ∧ up.sbAddress = none ∧
    { up with sbAddress := some 127 }.sbAddress = some 127 ∧
    up.flag Fld.FW_STATUS_NO_IMAGE 0 = false ∧ up.phase ≠ .off ∧ up.flag Fld.SERVICE_CTRL_OPEN 0 = false ∧
    (opened.phase ≠ .off ∧ opened.flag Fld.SERVICE_CTRL_OPEN 0 = true) ∧ { up with phase := .reset 0 false }.phase = .reset 0 false := by
  decide +kernel

/-- Module 1, whose port 11 has role 1 and is in a state. -/
def port (v : Nat) : State :=
  (((up.setFld Fld.PAUNE_ID_ID 0 1).setFld Fld.PAUNE_ID_ID_VALID 0 1).setFld Fld.PORT_CFG_ROLE 11 1).setPortState 11 v

/-- A flit of the data kind. -/
def flit0 : Flit := ⟨7, 6, 1, 1, true, true, true, 1, 0, 0, [0x5A]⟩

theorem witness_LinkEventsRun :
    ((port 1).portState 11 = 1 ∧ (port 1).portEnabled 11 = true ∧
      4 ≤ ((List.range 8).filter (fun j => (0x0F#8).getLsbD j)).length) ∧
    (port 2).portState 11 = 2 ∧ (port 3).portState 11 = 3 ∧ (port 5).portState 11 = 5 ∧ (port 6).portState 11 = 6 ∧
    (let s := (port 4).setLink 11 { Link.init with clash := true }
     s.portState 11 = 4 ∧ (s.link 11).clash = true) ∧
    ((widthOf ((port 3).flag Fld.PORT_CFG_DEGRADE_EN 11) 0xFF).isSome = true ∧ ((port 3).link 11).partner = none ∧
      (widthOf ((port 3).flag Fld.PORT_CFG_DEGRADE_EN 11) 0x7E).isSome = false) ∧
    (let s := (port 3).setLink 11 { Link.init with partner := some hello0 }
     s.portState 11 = 3 ∧ (s.link 11).partner = some hello0) ∧
    (let s := (port 5).setFld Fld.PORT_STATUS_LANE_LOCK 11 255
     0#8 &&& s.lanesInUse 11 = 0#8 ∧ 0xFF#8 &&& s.lanesInUse 11 ≠ 0#8) ∧
    (let s := (port 5).setLink 11 { Link.init with retry := [flit0], tries := 8 }
     (s.link 11).retry ≠ [] ∧ s.fld Fld.PORT_CFG_RETRY_LIMIT 11 ≤ (s.link 11).tries) ∧
    (let s := (port 5).setLink 11 { Link.init with retry := [flit0], tries := 7 }
     (s.link 11).retry ≠ [] ∧ (s.link 11).tries < s.fld Fld.PORT_CFG_RETRY_LIMIT 11) ∧
    (let s := (port 4).setFld Fld.PORT_STATUS_LANE_LOCK 11 255
     s.portState 11 = 4 ∧ s.moduleId < hello0.module ∧ s.helloConflict 11 hello0 = none ∧ s.linkWidth 11 hello0 = some false) ∧
    (port 4).helloConflict 11 { hello0 with module := 1 } = some (Fld.PORT_ERR_LINK_ID_CONFLICT, .linkIdConflict) ∧
    (let s := (port 4).setLink 11 { Link.init with partner := some { hello0 with module := 0 } }
     (s.link 11).partner = some { hello0 with module := 0 } ∧ s.portState 11 = 4 ∧ 0 < s.moduleId ∧ (s.link 11).clash = false) := by
  decide +kernel

set_option maxRecDepth 100000 in
theorem witness_FlitCommandsRun :
    (port 5).portState 11 = 5 ∧ ((port 5).link 11).discarding = false ∧
    ((port 5).setLink 11 { Link.init with discarding := true }).portState 11 = 5 ∧
    (((port 5).setLink 11 { Link.init with discarding := true }).link 11).discarding = true ∧
    (flitOk flit0.bytes = true ∧ flitOf flit0.bytes = some flit0 ∧ flit0.kind = 1 ∧
      (((port 5).setLink 11 { Link.init with expect := 7 }).link 11).expect = flit0.seq ∧ ((port 5).link 11).expect ≠ flit0.seq) ∧
    flitOk (List.replicate 256 1) = false ∧ (1 : Nat) ≠ 0 := by
  decide +kernel

set_option maxRecDepth 100000 in
theorem witness_FlitCommandsRun_control :
    let n : Flit := { flit0 with kind := 0, len := 0, payload := [] }
    let r : Flit := { flit0 with kind := 2, len := 3, payload := [1, 9, 0], som := false, eom := false, ackValid := false }
    flitOk n.bytes = true ∧ flitOf n.bytes = some n ∧ n.kind = 0 ∧ flitOk r.bytes = true ∧ flitOf r.bytes = some r ∧ r.kind = 2 ∧
    byteAt r.payload 0 = 1 ∧ r.payload.length = 3 ∧
    ((((((port 5).setLink 11 { Link.init with retry := [{ flit0 with seq := 9 }] }).countFec 11 0 0).takeAck 11 r).link 11).retry.findIdx?
      (fun g => g.seq = fieldAt r.payload 1 2)) = some 0 := by
  decide +kernel

/-- Port 11 is a bond port to module 2, the mate of this module 1 in a formed pair. -/
def paired : State := (((port 5).setFld Fld.PORT_CFG_ROLE 11 3).setFld Fld.PAIR_STATUS_STATE 0 2).setFld Fld.PAIR_STATUS_MATE 0 2

/-- A head from the mate to this module. -/
def fromMate : MsgHead := { head0 with dest := 1, src := 2 }

theorem witness_MessageCommandsRun :
    ((port 5).portState 11 = 5 ∧ fromMate.ttl ≠ 0 ∧ (port 5).role 11 = 1 ∧ fromMate.dest = (port 5).moduleId ∧
      head0.dest ≠ (port 5).moduleId) ∧
    (let s := (port 5).setFld Fld.PORT_CFG_ROLE 11 2
     s.portState 11 = 5 ∧ s.role 11 = 2 ∧ ¬ (s.role 11 = 1 ∨ s.role 11 = 3) ∧ (port 5).role 11 ≠ 2 ∧
       (port 5).flag Fld.VIADUCT_STATUS_BOUND 0 = false ∧ ((port 5).setFld Fld.VIADUCT_STATUS_BOUND 0 1).flag Fld.VIADUCT_STATUS_BOUND 0 = true) ∧
    (paired.portState 11 = 5 ∧ paired.role 11 = 3 ∧ fromMate.dest = paired.moduleId ∧ paired.inPair = true ∧
      fromMate.src = (if paired.inPair then paired.mate else paired.fld Fld.PORT_STATUS_NEIGHBOUR 11)) ∧
    (onlyBond (.remoteRead 1 0 0 0 64) = false ∧ (MsgBody.remoteRead 1 0 0 0 64).kind ≠ 4 ∧ (2 : Nat) ≤ 2) ∧
    (MsgBody.remoteWrite 1 0 0 0 (2 ^ 20 - 1) (List.replicate 8192 0)).legal false = true ∧
    (MsgBody.remoteRead 1 0 0 0 64).legal false = true ∧ (MsgBody.readReply 1 0 []).legal true = true ∧
    (MsgBody.ringTile .cw 7 (List.replicate 16 0) (List.replicate 8192 0) []).legal false = true ∧
    (MsgBody.mirrorWrite 1 4194303 0 [1]).legal false = true ∧ 1 ≤ [(1, 2)].length ∧ [(1, 2)].length ≤ 26 ∧
    (∀ e ∈ [(4194303, 2 ^ 40 - 1)], e.1 < 2 ^ 22 ∧ e.2 < 2 ^ 40) ∧ (List.replicate 64 (⟨0, 0, 0⟩ : Hop)).length ≤ 64 := by
  decide +kernel

/-- The bond of port 11 is up to module 2, and no pair is formed. -/
def bonded : State := (paired.setFld Fld.PAIR_STATUS_STATE 0 0).setFld Fld.PORT_STATUS_NEIGHBOUR 11 2

theorem witness_PairCommandsRun :
    (let q := pk [(2, 2), (2, 0), (4, 0), (8, 0)]
     let s := withPacket bonded 0 0x0501 q false
     s.runsPacket 0 0x0501 (packet 0x0501 q false) ∧ s.pairState = 0 ∧ (packet 0x0501 q false).le 8 8 = 0 ∧
       s.bondTo ((packet 0x0501 q false).le 0 2) = true ∧ s.pairEntriesOk (packet 0x0501 q false) 0 = true) ∧ (0 : Fin 4) = 0 ∧
    (let q := pk [(2, 2), (1, 0), (1, 0), (2, 0), (2, 0), (8, 0)]
     let p := packet 0x0503 q false
     let s := withPacket bonded 0 0x0503 q false
     s.runsPacket 0 0x0503 p ∧ p.le 2 1 ≠ 1 ∧ s.pairState = 0 ∧ p.le 8 8 = 0 ∧ s.bondTo (p.le 0 2) = true) ∧
    (let q := pk [(2, 2), (1, 1), (1, 0), (2, 0), (2, 0), (8, 0)]
     let p := packet 0x0503 q false
     let s := withPacket (bonded.setFld Fld.PAIR_STATUS_STATE 0 4) 0 0x0503 q false
     s.runsPacket 0 0x0503 p ∧ p.le 2 1 = 1 ∧ s.pairState = 4 ∧ p.le 8 8 = 0 ∧ s.bondTo (p.le 0 2) = true ∧
       s.pairEntriesOk p (p.le 4 2 + p.le 6 2) = true) ∧
    (let p := packet 0x0502 [1] false
     let s := withPacket (bonded.setFld Fld.PAIR_STATUS_STATE 0 3) 0 0x0502 [1] false
     s.runsPacket 0 0x0502 p ∧ s.pairState = 3 ∧ p.le 0 1 ≠ 0) := by
  unfold State.runsPacket; decide +kernel

/-- Object 6 is one extent of 1 GiB. -/
def withLarge (s : State) : State := s.setObject 6 ⟨true, false, true, 3, 30, 1, 1, 2 ^ 30⟩

theorem witness_PairCommandsRun_timers :
    (paired.inPair = true ∧ (∀ x ∈ paired.pairing.reorder, x.mseq ≠ paired.fld Fld.PAIR_MSEQ_IN_MSEQ 0 + 1)) ∧ up.inPair = false ∧
    (let s := { paired with pairing := { Pairing.init with reorder := [⟨2, 0, 0, [], false⟩] } }
     s.inPair = true ∧ s.gapSeen = true) ∧
    (let s := { paired with pairing := { Pairing.init with commit := some (5, 6, true) } }
     s.pairing.commit = some (5, 6, true) ∧ s.awaitsAck = true) ∧ up.awaitsAck = false ∧
    (paired.pairState = 2 ∧ up.pairState ≠ 2) ∧
    (let s := { withLarge paired with pairing := { Pairing.init with bulk := [(6, 0)] } }
     s.pairing.bulk = [(6, 0)] ∧ (∀ m ∈ s.moves, s.moveEntry m ≠ (s.object 6).entryOf 0) ∧ s.entryBusy ((s.object 6).entryOf 0) = false ∧
       0 + 8192 * min ((2 ^ 30 - 0 + 8191) / 8192) (mirrorLogSize - s.mirrorLog.length) < 2 ^ 30 ∧
       min (2 ^ (s.object 6).extentLog2 * (0 / 2 ^ (s.object 6).extentLog2 + 1)) (s.object 6).size = 2 ^ 30) ∧
    (let s := { withLarge paired with tags := [{ tag0 with homes := [1] }], pairing := { Pairing.init with bulk := [(6, 0)] } }
     s.entryBusy ((s.object 6).entryOf 0) = true) := by
  decide +kernel

/-- No gate of `paired` is held (R231, R243). -/
theorem paired_gateHeld (g : Nat) : paired.gateHeld g = false := by
  have h : paired.reg .gateStatus g = up.reg .gateStatus g := by
    simp [paired, port, State.setPortState, State.reg_setFld, Fld.PAUNE_ID_ID, Fld.PAUNE_ID_ID_VALID, Fld.PORT_CFG_ROLE,
      Fld.PORT_STATUS_STATE, Fld.PAIR_STATUS_STATE, Fld.PAIR_STATUS_MATE]
  have i : up.reg .gateStatus g = 0 := by
    have := RegName.ctorIdx_lt .gateStatus
    have h1 : regKey .gateStatus g % 256 = RegName.ctorIdx .gateStatus := by unfold regKey; omega
    have h2 : regKey .gateStatus g / 256 = g := by unfold regKey; omega
    show regDflt _ = _
    unfold regDflt; rw [h1, h2]; rfl
  show (Fld.GATE_STATUS_STATE.ofWord (paired.reg .gateStatus g) = 4 || Fld.GATE_STATUS_FW_UPDATE.ofWord (paired.reg .gateStatus g) != 0) = false
  rw [h, i]; decide

/-- Whether a gate is held rests on the register file alone. -/
theorem gateHeld_of_regs {s t : State} (g : Nat) (h : s.regs = t.regs) : s.gateHeld g = t.gateHeld g := by
  unfold State.gateHeld State.flag State.fld State.reg; rw [h]

theorem witness_PairCommandsRun_bulk :
    (let s := { withLarge paired with pairing := { Pairing.init with bulk := [(6, 0)] } }
     s.blocked (s.home ((s.object 6).entryOf 0)).loc (2 ^ 30) = false) := by
  intro s
  have h (g : Nat) : s.gateHeld g = false := (gateHeld_of_regs g (by simp only [s, withLarge]; rfl)).trans (paired_gateHeld g)
  have w : s.hostWaits = [] := by decide +kernel
  simp [State.blocked, State.behindWaits, h, w]

/-- Does a step answer a next state? -/
def goes : Host.Outcome State Fault Refusal → Bool
  | .next _ => true
  | _ => false

theorem witness_StepRunsFrontCommand :
    { up with pending := [.scheduleDone, .evtFlush] }.pending = .scheduleDone :: [.evtFlush] ∧ up.pending = [] ∧
    State.reset.phase = .off ∧ up.phase ≠ .off ∧ up.ringTiles = [] ∧ up.selfMsgs = [] ∧ up.hostWaits = [] ∧
    up.windowWaits = [] ∧ up.warmReset = none ∧
    (let s := { up with warmReset := some ⟨boot0, [0], some 0⟩ }
     s.warmReset = some ⟨boot0, [0], some 0⟩ ∧ (0 : Word) ≤ s.now) ∧ (∀ n : PortIx, up.portState n.val ≠ 5) ∧ ((port 5).link 11).ackDue = false ∧
    ((port 5).link 11).owed.all (· = 0) = true := by
  decide +kernel

set_option maxRecDepth 100000 in
theorem witness_PowerUpReleasesModule : module0.toll.made.getD 0 false = true ∧
    { boot0 with made := List.replicate 6 false }.made.getD 0 false = false ∧
    { boot0 with made := List.replicate 6 false }.made.getD 1 false = false ∧
    (let s := State.reset.powerOn
     s.phase = .reset 0 false ∧ s.refLost = false ∧ s.recovering = false ∧ s.recoveryLevel.recovering = true ∧
       s.recoveryLevel.imagePasses boot0.made 0 = true) := by
  decide +kernel

/-- A state with bytes and registers, notices of each kind and a save meets the invariant, and its step goes on. -/
theorem witness_StepKeepsInvariant :
    let s := { imaged with taken := [note 0, note 7], notices := [note 7], saves := [save0], pending := [.evtFlush] }
    s.Inv ∧ goes (step s) = true := by
  unfold State.Inv State.stackOk Memory.wf Regs.wf; decide +kernel

theorem witness_OwnerBanksFixedWhileClosed : up.flag Fld.SERVICE_CTRL_OPEN 0 = false ∧ up.hostWaits = [] ∧
    goes (exec (.ownerWritePassword true) up) = true ∧ goes (exec (.regWrite 0x020101100020 0) up) = true := by
  decide +kernel

/-- Eight levels are taken in order. -/
def full : State := { up with taken := (List.range 8).map note }

theorem witness_PriorityStackPresentsHighest : full.stackOk ∧ full.taken = (List.range 7).map note ++ [note 7] ∧
    (note 7).level = (7 : Fin 8).val ∧ interrupted.presented = some { note 7 with detail := 1 } := by
  unfold State.stackOk; decide +kernel

theorem witness_FlagPostsOnce :
    (up.setFld Fld.ARCH_ERR_GRID_PARITY 543 1).flag Fld.ARCH_ERR_GRID_PARITY 543 = true ∧ up.flag Fld.ARCH_ERR_GRID_PARITY 543 = false ∧
    (List.filter (fun m => m.level = Code.level .regAccessFault) up.notices).length < 256 ∧
    256 ≤ (List.filter (fun m => m.level = Code.level .regAccessFault)
      { up with notices := List.replicate 256 (note (Code.level .regAccessFault)) }.notices).length ∧
    2 ≤ Code.cls .gridParity ∧ Code.cls .regAccessFault < 2 := by
  decide +kernel

theorem witness_MailboxDisableReleasesLines :
    (hosted.regsUp = true ∧ hosted.flag Fld.MAILBOX_CFG_ENABLE 0 = true ∧ Fld.MAILBOX_CFG_ENABLE.ofWord 0 = 0 ∧
      Fld.MAILBOX_CFG_BASE.ofWord 0 = hosted.fld Fld.MAILBOX_CFG_BASE 0 ∧
      Fld.MAILBOX_CFG_BASE.ofWord (Fld.MAILBOX_CFG_BASE.place 1 1) ≠ hosted.fld Fld.MAILBOX_CFG_BASE 0) ∧
    (let s := withPacket (hosted.setFld Fld.MAILBOX_CFG_ENABLE 0 0) 63 0x0606 [] false
     s.flag Fld.MAILBOX_CFG_ENABLE 0 = false ∧ s.jwActive = true ∧ (s.mailSlot 63).running = some (packet 0x0606 [] false) ∧
       s.jwBusy.length < 4096 ∧ 4096 ≤ { s with jwBusy := List.replicate 4096 (0, .msi) }.jwBusy.length) := by
  decide +kernel

theorem witness_ClockModeFollowsWrite : up.regsUp = true ∧ up.launched = false ∧ atJoint.regsUp = true ∧ atJoint.launched = true ∧
    Fld.CLK_CFG_MODE.ofWord (Fld.CLK_CFG_MODE.place 0 1) = 1 ∧ Fld.CLK_CFG_MODE.ofWord 0 = 0 ∧
    up.flag Fld.CLK_STATUS_TEST_PERIOD 0 = false ∧ up.clocked 16 = true ∧ up.holds 16 = false := by
  decide +kernel

theorem witness_ArchCfgLayout : let s := { up with admitted := [135] }
    s.regsUp = true ∧ s.pierUp (some 135) = true ∧ s.programOn 135 = false := by
  decide +kernel

theorem witness_ViaductExtLayout :
    (7 : Fin 8).val < (up.setFld Fld.VIADUCT_LAYOUT_SEG_COUNT 0 8).fld Fld.VIADUCT_LAYOUT_SEG_COUNT 0 ∧
    (up.setFld (extFld true 7) 0 11).fld (extFld true 7) 0 ≤ 11 ∧ 11 < up.fld (extFld false 7) 0 := by
  decide +kernel

theorem witness_FieldsFollowWrites : RegName.homeCfg ∈ allRows.map RegRow.reg ∧
    Fld.HOME_CFG_AGE_GRAIN_LOG2.isLegal (Fld.HOME_CFG_AGE_GRAIN_LOG2.ofWord 0xA0000) = true ∧
    Fld.HOME_CFG_AGE_GRAIN_LOG2.isLegal (Fld.HOME_CFG_AGE_GRAIN_LOG2.ofWord 0x90000) = false ∧
    Fld.DECK_ERR_REGION_INVALID ∈ regFields .deckErr ∧ Fld.DECK_ERR_REGION_INVALID.acc = .w1c ∧ Fld.HOME_CFG_POOL_RESERVE.acc = .rw ∧
    (∃ f ∈ regFields .archStatus, f.acc = .ro) ∧
    (∀ f ∈ regFields .homeCfg, f.acc = .rw → f.isLegal (f.ofWord 0xA0000) = true) := by
  decide +kernel

/-- Region 2 is empty and region 3 full, so that nothing can be read from 2 and nothing written to 3. -/
def starving : State := (live.setFld Fld.REGION_DESC_SIZE (regionIx 0 2) 4).setRegion 0 3 ⟨0, 0, 1, false, 0, 0, []⟩

/-- Region 2 is empty, region 3 is full, a statistics tile is open for 3 and copy 7 runs. -/
theorem witness_LateInstructionHeld :
    let late (x : Needs) : Prop := starving.needLate false 0 0 x ≠ none
    let full := starving.roomLate false 0 3 1 0
    let s := starving.setPier 0 { starving.pier 0 with stats := [⟨3, []⟩] }
    (starving.readyAt 0 0 ∧ starving.tokenMoves = [] ∧ late (starving.loadsNeeds 0 0 1 2 127 true) ∧
      late (starving.passNeeds false 0 0 1 pass0 2 0 false) ∧ late (starving.workNeeds false (injectWork 0 0 0 .cw 2 1 .bf16 true 0 false)) ∧
      late (.item full) ∧ late (.item (starving.relLate 0 2 (starving.pendingRel 0 2 0) 0)) ∧ late (.item (some lateCopy)) ∧
      late (starving.vldNeeds 0 0 2 31 .bf16) ∧ late (.item (some lateBundle)) ∧ late (starving.vtransNeeds false 0 0 2 3 0 true .bf16) ∧
      late (.item (firstLate ((List.range (2 * 1)).map (fun j => starving.readLate 0 2 (0 + j) 0)))) ∧
      late (.item (firstLate ((List.range 2).map (fun j => starving.readLate 0 2 j 0)))) ∧
      late (starving.workNeeds false (updWork 0 0 upd0 1 starving.launchStep))) ∧
    ((starving.pier 0).build 3 = none ∧ (vldcLines 0 .fp32).all (fun l => ((starving.pier 0).cacheLine l).isSome) = false) ∧
    (s.readyAt 0 0 ∧ ((s.pier 0).records 3).isSome = true ∧
      s.needLate false 0 0 (.item (firstLate ((s.pier 0).stats.map (fun e => s.roomLate false 0 e.region 1 0)))) ≠ none) ∧
    (let h := halved.setRegion 0 2 ⟨0, 0, 0, false, 2, 0, []⟩
     h.readyAt 0 0 ∧ h.needLate false 0 0 (.item (h.flipLate false 0 2 0)) ≠ none) ∧
    (copying.readyAt 0 0 ∧ copying.runDone 0 7 = false ∧ copying.needLate false 0 0 (.item (some lateCopy)) ≠ none) := by
  unfold State.readyAt; decide +kernel

theorem witness_FirstFaultStays :
    (((up.setFld Fld.PCTL_FAULT_CODE 135 0x0101).setFld Fld.SCHED_FAULT_CODE 0 0x0101).fld Fld.PCTL_FAULT_CODE 135 ≠ 0 ∧
      ((up.setFld Fld.PCTL_FAULT_CODE 135 0x0101).setFld Fld.SCHED_FAULT_CODE 0 0x0101).fld Fld.SCHED_FAULT_CODE 0 ≠ 0) ∧
    up.fld Fld.PCTL_FAULT_CODE 135 = 0 ∧ up.fld Fld.SCHED_FAULT_CODE 0 = 0 := by
  decide +kernel

theorem witness_DotResultOrderFree :
    [Val.nan, .inf true].Perm [.inf true, .nan] ∧ Val.nan ∈ [Val.nan] ∧ Val.inf true ∈ [Val.inf true, .inf false] ∧
    Val.nan ∉ [Val.inf true] ∧ Val.inf (!true) ∉ [Val.inf true] ∧ (∀ v ∈ [Val.fin true 0 5], ∃ n e, v = .fin n 0 e) :=
  ⟨List.Perm.swap _ _ _, by decide, by decide, by decide, by decide, fun v h => ⟨true, 5, by simpa using h⟩⟩

theorem witness_InterleaveOneToOne : (2 ^ 40 - 1 : Nat) < 2 ^ 40 ∧ (8192 * 5 : Nat) / 8192 = (8192 * 5 + 8191) / 8192 ∧
    hashedPlace (2 ^ 40 - 1) = hashedPlace (2 ^ 40 - 1) := by
  decide

theorem witness_MessagesRoundTrip : fromMate.attempt < 8 ∧ fromMate.dest < 65536 ∧ fromMate.src < 65536 ∧ 1 ≤ fromMate.ttl ∧
    fromMate.ttl < 256 ∧ (MsgBody.keystone (2 ^ 64 - 1) (2 ^ 32 - 1) false).legal false = true ∧
    (MsgBody.sync 7 (2 ^ 32 - 1) (List.replicate 16 255) (List.replicate 208 255)).legal false = true ∧
    (MsgBody.probe true true 1 2 3 (List.replicate 64 ⟨65535, 255, 255⟩)).legal false = true := by
  decide +kernel

theorem witness_FlitsRoundTrip : flit0.seq < 65536 ∧ flit0.ack < 65536 ∧ flit0.vc < 8 ∧ flit0.crVc < 8 ∧ flit0.crCount ≤ 4096 ∧
    flit0.payload.length = flit0.len ∧ flit0.kind = 1 ∧ flit0.eom = true ∧ 1 ≤ flit0.len ∧ flit0.len ≤ 240 := by
  decide

theorem witness_IdlePierTakesNoInstruction : up.issuing 135 = false ∧ up.stalled 135 = false ∧ atJoint.issuing 0 = false ∧
    atJoint.stalled 0 = false ∧ placeOf (.uscal 135 5 63 7 9) = some (135, 5) ∧ placeOf (.tacq 0 5 1) = some (0, 5) := by
  decide +kernel

theorem witness_ArchInstructionFrame : fed.readyAt 0 0 ∧ goes (exec (.loads 0 0 1 2 0 false .bf16) fed) = true ∧
    goes (exec (.pass 0 0 1 pass0 2 0 false) gridded) = true ∧ goes (exec (.drain 0 0 1 drain0 0 0 true 2) fed) = true ∧
    goes (exec (.zero 0 lastSlot 1 0 65536) live) = true := by
  unfold State.readyAt; decide +kernel

theorem witness_VectorInstructionFrame : live.readyAt 0 0 ∧ goes (exec (.varith 0 0 .fma 63 0 1 2 (some 7)) live) = true ∧
    goes (exec (.vcmp 0 0 .lt 7 0 1 none) live) = true ∧ goes (exec (.vsel 0 0 63 0 1 7) live) = true ∧
    goes (exec (.vsfu 0 0 .exp2 63 0 none) live) = true ∧ goes (exec (.vred 0 0 true 63 0 none) live) = true ∧
    goes (exec (.vrng 0 0 3 62 63) live) = true ∧ goes (exec (.uscal 0 0 63 7 9) live) = true := by
  unfold State.readyAt; decide +kernel

theorem witness_EngineInstructionFrame : onSegment.readyAt 0 0 ∧ halved.readyAt 0 0 ∧ granted.readyAt 0 0 ∧
    goes (exec (.inject 0 0 .cw 2 1 .bf16 true 0 false) onSegment) = true ∧ goes (exec (.flip 0 0 2) halved) = true ∧
    goes (exec (.release 0 0 2 1) fed) = true ∧ goes (exec (.arm 0 0 15) fed) = true ∧ goes (exec (.copy 0 0 7) fed) = true ∧
    goes (exec (.cwait 0 0 7) fed) = true ∧ goes (exec (.tacq 0 0 208) granted) = true ∧ goes (exec (.trel 0 0 208 true) granted) = true ∧
    goes (exec (.loop 0 0 65536 1 8 9) granted) = true ∧ goes (exec (.halt 0 0) granted) = true ∧
    goes (exec (.joint 0 0 none) granted) = true ∧ goes (exec (.barrier 0 0 255 true) granted) = true := by
  unfold State.readyAt; decide +kernel

theorem witness_VectorTileInstructionFrame : roomy.readyAt 0 0 ∧ collected.readyAt 0 0 ∧ updReady.readyAt 0 0 ∧ cached.readyAt 0 0 ∧
    goes (exec (.vst 0 0 63 3 31 true .bf16 none) roomy) = true ∧ goes (exec (.vstatf 0 0 3) collected) = true ∧
    goes (exec (.vldc 0 0 1 0 .fp32) cached) = true ∧ goes (exec (.vld 0 0 1 2 31 false .bf16 none) roomy) = true ∧
    goes (exec (.vtrans 0 0 2 3 0 true .bf16) roomy) = true ∧ goes (exec (.vstat 0 0 .norm 2 3 0 1 5) collected) = true ∧
    goes (exec (.vstatc 0 0 false 2 3 2 7 5 6) collected) = true ∧ goes (exec (.upd 0 0 1023 upd0 1) updReady) = true := by
  unfold State.readyAt; decide +kernel

/-! ### Witnesses for holes, MX elements, the range of a pass and the drain path -/

/-- Holes at the ends of their ranges, and a window whose pier is not admitted. -/
theorem witness_HolesReadAllOnes :
    (served.jwActive = true ∧ served.tollUp = true ∧ served.powerState < 3 ∧ served.hostPlace 0x7FFFFFFFFFC0 64 = .hole ∧
      served.behindWaits 0x7FFFFFFFFFC0 64 = false) ∧
    regAt 0x02FFFFFFFFF8 = .hole ∧ (0 : PierIx) ∉ served.admitted ∧ regAt 0x02008707FFF8 = .hole ∧ regAt 0x020087084000 = .hole ∧
    regAt 0x020088000000 = .hole ∧ regAt 0x020100280000 = .hole ∧ regAt 0x0201009FFFF8 = .hole ∧ regAt 0x020101110000 = .hole ∧
    regAt 0x020100310000 = .hole := by
  decide +kernel

/-- An MXFP8 tile with the scale code 0x80 in its first block and 0xFF in its second; its element 0 is 1, its element 1 infinite. -/
def mxTile : Tile :=
  { tile0 .mxE5m2 with rows := [BitVec.ofNat 1024 (0x3C + 0x7C * 256)], exts := [BitVec.ofNat 128 (0x80 + 0xFF * 256)] }

theorem witness_MxElementValue :
    (mxTile.extByte (scaleIndex .mxE5m2 mxTile.orient 0 0) = 0x80 ∧
      Fmt.mxE5m2.codeVal (elemCode (mxTile.row 0) Fmt.mxE5m2.elemBits 0) = .fin false 4 (-2)) ∧
    Fmt.mxE5m2.codeVal (elemCode (mxTile.row 0) Fmt.mxE5m2.elemBits 1) = .inf false ∧
    mxTile.extByte (scaleIndex .mxE5m2 mxTile.orient 0 32) = 0xFF := by
  decide +kernel

/-- A pass over two tiles, the second of which ends beyond the spandrel. -/
def tooFar : PassDesc := { pass0 with base := 61440, tiles := 2, tstride := 64 }

/-- The image's second section is its pass table, whose descriptor has PITCH 64 for the class-8 COL shape. -/
def badPass : State :=
  { imaged with
    imageObject := 0
    mem := [(14, 3), (64, 1), (68, 40), (72, 112), (80, 4), (84, 8), (88, 192), (192, 1), (197, 1)] }

theorem witness_SpandrelRangeRefused :
    (let v := gridded.issuedFor 0 0 (gridded.passNeeds false 0 0 1 tooFar 2 0 false)
     gridded.readyAt 0 0 ∧ (gridded.passNeeds false 0 0 1 tooFar 2 0 false).met gridded 0 0 ∧
      tooFar.src.onRing = false ∧ v.gridTooEarly 0 1 0 = false ∧
      v.passGrid 0 1 = some .bf16 ∧ Fmt.bf16.perCell = tooFar.sfmt.perCell ∧
      v.capacity 0 1 ≤ tooFar.base + (tooFar.tiles - 1) * tooFar.tstride + 63 * (64 * 2 ^ tooFar.pitch) +
        tooFar.shape.width Fmt.bf16.perCell - 1) ∧
    (let s := withPacket badPass 0 0x0201 (pk [(4, 5)]) false
     let p := packet 0x0201 (pk [(4, 5)]) false
     let s0 := { s with imageObject := p.le 0 4 }
     let x := (s0.readObject (p.le 0 4) 0 s0.imageLength).2
     s.runsPacket 0 0x0201 p ∧ s.readWaits (p.le 0 4) 0 s0.imageLength = false ∧ 192 ∈ x.places 4 ∧
       (let d := x.img 192 8
        d % 2 = 1 ∧ d / 2 ^ 24 % 8 = 0 ∧ perCellOf (d / 2 ^ 38 % 256) = 2)) := by
  unfold State.readyAt State.runsPacket Needs.met; decide +kernel

/-- Slot 0 of pier 0 has issued a DRAIN of arch 1 to region 2. -/
def draining : State := runDrain false 0 0 1 drain0 0 0 false 2 fed

theorem witness_DrainPathBusy :
    (fed.readyAt 0 0 ∧ fed.roomLate false 0 2 1 0 = none ∧ ((fed.issuedAt 0 0).pier 0).pathTo ≤ 0 ∧
      ((fed.issuedAt 0 0).arch 0 1).portTo ≤ 0 ∧ lastEntry 0 0 drain0.outFmt.cols < (fed.issuedAt 0 0).capacity 0 1 ∧
      0 + 65536 ≤ (fed.issuedAt 0 0).capacity 0 1 ∧ (drainTime ((fed.issuedAt 0 0).comp 0 1) drain0).total = 8) ∧
    (draining.readyAt 0 7 ∧ draining.roomLate false 0 2 1 7 = none ∧ ((draining.issuedAt 0 7).pier 0).pathFrom ≤ 7 ∧
      7 < ((draining.issuedAt 0 7).pier 0).pathTo ∧ ((draining.issuedAt 0 7).arch 0 1).portBusy 7 = true) := by
  unfold State.readyAt; decide +kernel

/-! ### The spec's worked examples -/

/-- The example of R11: slot 517 of physical pier 93. -/
theorem test_deck_window : deckData 93 517 = 0x01005D40A000 ∧ deckSide 93 517 = 0x01005DC20500 := by decide

/-- The example of R57: of four products the window of the largest truncates one and drops one, and what is left is 2⁻²⁷. -/
theorem test_dot_window :
    dotResult [.fin false 1 20, .fin true 1 20, .fin false 3 (-28), .fin false 1 (-30)] (.fin false 1 0) = 0x32000000#32 := by
  decide +kernel

/-- The example of R64: a block whose largest magnitude is 1,000 has scale code 0x80, and 1,000 is clamped to the largest E4M3. -/
theorem test_mx_scale : mxScale .mxE4m3 [0x447A0000#32, 0#32] = 0x80 ∧ mxElem .mxE4m3 .nearest 0x80 false 0x447A0000#32 = 0x7E := by
  decide +kernel

/-- The example of R65: tile scale, sub-scales and elements of an SSF4 tile whose largest magnitude is 24, also by stochastic rounding. -/
theorem test_ssf4 :
    ssf4Scale 0x41C00000#32 = 0x39000000#32 ∧ ssf4Sub 0x39000000#32 0x41C00000#32 = 0xF0 ∧ ssf4Sub 0x39000000#32 0x40400000#32 = 0xD8 ∧
    ssf4Sub 0x39000000#32 0x3F666666#32 = 0xCA ∧ ssf4Elem .nearest 0x39000000#32 0xF0 0x41C00000#32 = 7 ∧
    ssf4Elem .nearest 0x39000000#32 0xD8 0xBF8CCCCD#32 = 0xC ∧ ssf4Elem .nearest 0x39000000#32 0xD8 0x3F333333#32 = 3 ∧
    ssf4Elem .nearest 0x39000000#32 0xCA 0xBE99999A#32 = 0xC ∧ ssf4Elem (.stochastic 52427) 0x39000000#32 0xD8 0x3F333333#32 = 3 ∧
    ssf4Elem (.stochastic 52429) 0x39000000#32 0xD8 0x3F333333#32 = 2 := by
  decide +kernel

/-- The example of R125: the extra delays of segment 0 of 64 arches where pier 11 is not admitted, CW and CCW by logical pier. -/
theorem test_trims :
    let ps := { up with admitted := (List.finRange 136).filter (fun p => p.val != 11) }.numbered 127
    extras (segmentOf 0x7F00000001 ps 0) =
      [(0, 3), (0, 3), (0, 3), (0, 3), (0, 3), (0, 3), (0, 3), (0, 3), (1, 2), (1, 2), (1, 2), (1, 2), (2, 1), (2, 1), (2, 1), (3, 0)] := by
  decide +kernel

/-- The example of R194: tile 963 of a matrix of 1,000 rows, of whose rows the last 24 lie beyond HI. -/
theorem test_walk :
    let w : Walk := { up.streamWalk 0 with base := 0, rowStride := 64, n0 := 64, s0 := 1, n1 := 16, s1 := 4096, lo := 0, hi := 8192000 }
    w.rowAt 963 39 = 8184192 ∧ w.rowAt 963 40 = 8192384 ∧ w.clipped 963 = (List.range 24).map (· + 40) := by
  decide +kernel

/-- The fifth stretch of the example of R491 and the period after it, with segment 0 from physical pier 40 (span 5) to 48 (span 6): it
stalls for one hold of spans 5 and 7. -/
theorem test_joint_stall :
    let b := { up with binding := [40, 48] }
    let c := ((b.setPctl [40, 48] 2).setFld Fld.PCTL_STATUS_DOMAIN 40 0).setFld Fld.PCTL_STATUS_DOMAIN 48 0
    let d := (c.setFld Fld.RING_CFG_ROLE 40 2).setFld Fld.RING_CFG_ROLE 48 4
    let v := (((d.setFld Fld.CLK_CFG_STRETCH_STEPS 0 2).setDelta 5 8).setDelta 6 (-8)).monitorFail 6
    let u := v.drift
    [5, 6].map v.delta = [10, -10] ∧ [4, 5, 6, 7].map u.delta = [8, 2, -2, -8] ∧ [5, 6, 7].map (u.fld Fld.CLK_SPAN_COUNT_HOLDS) = [1, 0, 1] ∧
      u.fld Fld.RING_ERR_COUNT_JOINT_STALLS 48 = 1 ∧ u.stalled 40 = true ∧ u.stalled 48 = true := by
  decide +kernel

/-- The example of R223: device address 0x0012_3456_7800 in a hashed block. -/
theorem test_hashed : hashedPlace 0x001234567800 = ⟨4, 0, 0x12345800⟩ := by decide

/-- The example of R331: the pool of a budget of 2,400 W over 800 W, and its shares for spans of 8 and 7 of 120 piers. -/
theorem test_tokens : tokenPool 2400 800 = 22880 ∧ 22880 * 8 / 120 = 1525 ∧ 22880 * 7 / 120 = 1334 := by decide

/-- The example of R352: a group after a linear warm-up, half-way through a cosine decay. -/
theorem test_schedule :
    let x := SchedRec.scalars ⟨0x3A000000#32, 0x38800000#32, 0x3F600000#32, 0x3F7C0000#32, 0x3DCCCCCD#32, 0x3F800000#32, 0, 2000, 100000, 1,
      0, 1, false, 1⟩ 52000
    x.lr = 0x39900000#32 ∧ x.decay = 0x3F7FFE33#32 ∧ x.ob1 = 0x3E000000#32 ∧ x.ob2 = 0x3C800000#32 ∧ x.bc1 = f32One ∧ x.bc2 = f32One := by
  decide +kernel

/-- The same example's element under SIGN_MOMENTUM. -/
theorem test_momentum :
    let u := momentumRule 0x39900000#32 0x3F7FFE33#32 0x3F600000#32 0x3E000000#32 0x3F7C0000#32 0x3C800000#32 false 0x3F000000#32
      0x3C800000#32 0xBE800000#32
    u.w = 0x3F00111A#32 ∧ u.m = 0x3C3C0000#32 := by
  decide +kernel

end Sys2Proof.Tests
end

section
/-! PROOFS. Number formats: the value of an element of an MX format (R48), and the dot unit's result (R55, R56). -/
namespace Sys2Proof
open Sys2Proof.Machine

/-- A format whose largest finite code is its last one has no infinity and no NaN. -/
theorem Machine.FFmt.decode_fin_of_maxCode_last {f : FFmt} (hf : f.maxCode + 1 = 2 ^ f.bits) (code : Nat) :
    ∃ n m e, f.decode code = .fin n m e := by
  have hc : code % 2 ^ f.bits < 2 ^ f.bits := Nat.mod_lt _ (Nat.two_pow_pos _)
  have hle : ¬ f.maxCode < code % 2 ^ f.bits := by omega
  simp only [FFmt.decode, if_neg hle]
  exact ⟨_, _, _, rfl⟩

section
variable {f : Fmt} {c code : Nat} (hs : f.scaled = true) (hf : f ≠ .ssf4)
include hs hf

/-- Only SSF4 has a tile scale: an operand of an MX format has its block scale alone (R48, R51). -/
theorem Machine.Tile.operand_mx (t : Tile) (r j : Nat) :
    t.operand f r j = f.scaledVal (t.extByte (scaleIndex f t.orient r j)) (elemCode (t.row r) f.elemBits j) := by
  simp [Tile.operand, tileScaleRule, hs, hf]

theorem Fmt.scaledVal_mx_nan (hc : c = 0xFF) : f.scaledVal c code = .nan := by
  simp [Fmt.scaledVal, hs, hc]

theorem Fmt.scaledVal_mx_fin (hc : c ≠ 0xFF) {n : Bool} {m : Nat} {e : Int} (hv : f.codeVal code = .fin n m e) :
    f.scaledVal c code = .fin n m (e + ((c : Int) - 127)) := by
  simp [Fmt.scaledVal, hs, hc, hv, Int.add_sub_assoc]

theorem Fmt.scaledVal_mx_notFin (hc : c ≠ 0xFF) (hv : ∀ n m e, f.codeVal code ≠ .fin n m e) :
    f.scaledVal c code = f.codeVal code := by
  cases hw : f.codeVal code with
  | fin n m e => exact absurd hw (hv n m e)
  | nan => simp [Fmt.scaledVal, hs, hc, hw]
  | inf n => simp [Fmt.scaledVal, hs, hc, hw]

end

/-- The MX formats of 4 and 6 bits and MXINT8 have finite elements only (R41, R49). -/
theorem Fmt.codeVal_fin {f : Fmt} (hf : f ∈ [Fmt.mxE3m2, .mxE2m3, .mxE2m1, .mxInt8]) (code : Nat) :
    ∃ n m e, f.codeVal code = .fin n m e := by
  simp only [List.mem_cons, List.not_mem_nil, or_false] at hf
  obtain rfl | rfl | rfl | rfl := hf
  · exact FFmt.decode_fin_of_maxCode_last (f := fmtE3M2) rfl code
  · exact FFmt.decode_fin_of_maxCode_last (f := fmtE2M3) rfl code
  · exact FFmt.decode_fin_of_maxCode_last (f := fmtE2M1) rfl code
  · by_cases h : code < 128
    · exact ⟨_, _, _, if_pos h⟩
    · exact ⟨_, _, _, if_neg h⟩

/-- Of the MX formats only E4M3 and E5M2 have elements that are not finite. -/
theorem Fmt.eq_of_codeVal_notFin {f : Fmt} (hf : f ∈ [Fmt.mxE4m3, .mxE5m2, .mxE3m2, .mxE2m3, .mxE2m1, .mxInt8]) {code : Nat}
    (hv : ∀ n m e, f.codeVal code ≠ .fin n m e) : f = .mxE4m3 ∨ f = .mxE5m2 := by
  obtain h | hf := List.mem_cons.1 hf
  · exact .inl h
  obtain h | hf := List.mem_cons.1 hf
  · exact .inr h
  obtain ⟨n, m, e, he⟩ := Fmt.codeVal_fin hf code
  exact absurd he (hv n m e)

/-- Settles O57: an MX operand is its block scale applied to its own value, case by case, and only E4M3 and E5M2 have elements that are
not finite. -/
theorem mxElementValue : Obligations.MxElementValue := by
  intro t f r j hmem
  have hs : f.scaled = true := by revert hmem f; decide
  have hf : f ≠ .ssf4 := by rintro rfl; exact absurd hmem (by decide)
  simp only [Tile.operand_mx hs hf]
  exact ⟨Fmt.scaledVal_mx_nan hs hf, fun hc n m e hv => Fmt.scaledVal_mx_fin hs hf hc hv,
    fun hc hv => ⟨Fmt.scaledVal_mx_notFin hs hf hc hv, Fmt.eq_of_codeVal_notFin hmem hv⟩⟩

end Sys2Proof
namespace Sys2Proof.Machine
open Sys2Proof

/-- The largest exponent of a list is that of its head and its tail, where either has one. -/
theorem maxExp_cons (v : Val) (ps : List Val) : maxExp (v :: ps) = Option.merge max v.log2? (maxExp ps) := by
  rw [maxExp]
  cases v.log2? <;> cases maxExp ps <;> rfl

theorem maxExp_perm {ps qs : List Val} (h : ps.Perm qs) : maxExp ps = maxExp qs := by
  induction h with
  | nil => rfl
  | cons v _ ih => rw [maxExp_cons, maxExp_cons, ih]
  | swap v w ps =>
    simp only [maxExp_cons]
    rw [← Std.Associative.assoc (op := Option.merge max), ← Std.Associative.assoc (op := Option.merge max),
      Std.Commutative.comm (op := Option.merge max) w.log2?]
  | trans _ _ ih₁ ih₂ => exact ih₁.trans ih₂

theorem maxExp_eq_none {ps : List Val} (h : ∀ v ∈ ps, v.log2? = none) : maxExp ps = none := by
  induction ps with
  | nil => rfl
  | cons v ps ih =>
    obtain ⟨hv, hps⟩ := List.forall_mem_cons.1 h
    rw [maxExp_cons, hv, ih hps]
    rfl

/-- The window's sum is exact, so the order of its terms is free (R55). -/
theorem windowSum_perm (emax : Int) {ps qs : List Val} (h : ps.Perm qs) : windowSum emax ps = windowSum emax qs :=
  (h.map (truncTo (emax - 47))).foldl_eq' (fun x _ y _ z => Int.add_right_comm z x y) 0

theorem any_eq_val (ps : List Val) (v : Val) : ps.any (· = v) = decide (v ∈ ps) := by
  rw [Bool.eq_iff_iff, List.any_eq_true]
  simp only [decide_eq_true_eq, exists_eq_right]

/-- The dot unit's result by the members of the products and their window alone (R56). -/
theorem dotResult_eq (ps : List Val) (g : Val) :
    dotResult ps g =
      if .nan ∈ ps then f32Nan
      else if .inf false ∈ ps ∧ .inf true ∈ ps then f32Nan
      else if .inf false ∈ ps then rn32 (.inf false)
      else if .inf true ∈ ps then rn32 (.inf true)
      else (maxExp ps).elim 0 (fun emax =>
        if windowSum emax ps = 0 then 0
        else rn32 ((Val.fin (windowSum emax ps < 0) (windowSum emax ps).natAbs (emax - 47)).mul g)) := by
  simp only [dotResult, any_eq_val, Bool.and_eq_true, decide_eq_true_eq]
  cases maxExp ps <;> rfl

theorem dotResult_perm {ps qs : List Val} (g : Val) (h : ps.Perm qs) : dotResult ps g = dotResult qs g := by
  simp only [dotResult_eq, h.mem_iff, maxExp_perm h, windowSum_perm _ h]

theorem dotResult_inf {ps : List Val} (g : Val) (neg : Bool) (hn : .nan ∉ ps) (hi : .inf neg ∈ ps) (ho : .inf (!neg) ∉ ps) :
    dotResult ps g = rn32 (.inf neg) := by
  cases neg with
  | false => simp_all [dotResult_eq]
  | true => simp_all [dotResult_eq]

/-- Where every product is a zero, no window stands and the result is +0. -/
theorem dotResult_zeros {ps : List Val} (g : Val) (h : ∀ v ∈ ps, ∃ n e, v = .fin n 0 e) : dotResult ps g = 0 := by
  have hfin (v : Val) (hv : ∀ n e, v ≠ .fin n 0 e) : v ∉ ps := fun hmem =>
    let ⟨n, e, he⟩ := h v hmem
    hv n e he
  have hexp : maxExp ps = none := maxExp_eq_none (fun v hv => by
    obtain ⟨n, e, rfl⟩ := h v hv
    rfl)
  simp [dotResult_eq, hfin, hexp]

/-- Settles O47: the result depends on the members of the products, their largest exponent and an exact sum, and none of these on the
order; the precedence is that of `dotResult_eq`. -/
theorem dotResultOrderFree : Obligations.DotResultOrderFree := by
  refine ⟨fun ps qs g h => dotResult_perm g h, fun ps g hn => ?_, fun ps g ht hf => ?_,
    fun ps g neg hn hi ho => dotResult_inf g neg hn hi ho, fun ps g h => dotResult_zeros g h⟩
  · rw [dotResult_eq, if_pos hn]
  · rw [dotResult_eq, if_pos (And.intro hf ht), ite_self]

end Sys2Proof.Machine
end

section
/-! PROOFS. The register instructions of the vector unit: VARITH, VCMP, VSEL, VSFU and VRED (R70, R71, R146, R148). -/
namespace Sys2Proof.Machine
open Sys2Proof

/-- The issue of a vector instruction that needs nothing: its effect on the state whose slot has issued. -/
theorem State.issueV_free {s : State} {p : PierIx} {t : Nat} (hr : s.readyAt p t) (i : Instr) (effect : State → State) :
    s.issueV false i p t (fun _ => Needs.nothing) effect = effect (s.issuedV p t) :=
  State.issue_free hr i _ _

/-- `u` agrees with `s` on the vector and mask registers of pier `p`, on the work in progress and on memory. -/
structure State.VecAgrees (s u : State) (p : PierIx) : Prop where
  vregs : (u.pier p).vregs = (s.pier p).vregs
  masks : (u.pier p).masks = (s.pier p).masks
  vready : (u.pier p).vready = (s.pier p).vready
  flight : u.flight = s.flight
  byte : ∀ b, u.byte b = s.byte b

theorem State.pier_issuedV (s : State) (p : PierIx) (t : Nat) (q : PierIx) : (s.issuedV p t).pier q = (s.issuedAt p t).pier q := rfl

/-- The issue of a slot with a vector instruction leaves the vector registers alone (R151, R314). -/
theorem State.vecAgrees_issuedV (s : State) (p : PierIx) (t : Nat) : s.VecAgrees (s.issuedV p t) p where
  vregs := by rw [State.pier_issuedV, State.pier_issuedAt]
  masks := by rw [State.pier_issuedV, State.pier_issuedAt]
  vready := by rw [State.pier_issuedV, State.pier_issuedAt]
  flight := State.issuedAt_flight s p t
  byte := State.byte_issuedAt s p t

/-- The lanes of `old` with those of `xs` where `en` enables them (R146). -/
def keepLanes (en : BitVec 128) (xs old : Lanes) : Lanes :=
  (List.range 128).map (fun l => if en.getLsbD l then xs.getD l 0 else old.getD l 0)

theorem keepLanes_allOnes (f : Nat → F32) (old : Lanes) :
    keepLanes (BitVec.allOnes 128) ((List.range 128).map f) old = (List.range 128).map f := by
  refine List.map_congr_left (fun l hl => ?_)
  have hlt : l < 128 := List.mem_range.1 hl
  rw [BitVec.getLsbD_allOnes, if_pos (decide_eq_true hlt)]
  simp [hlt]

/-- `u` is `s` with `xs` written in the lanes of register `vd` that `en` enables, to be read from slot `ready` on; the work in progress and
memory are as in `s`. -/
def State.VecWritten (s u : State) (p : PierIx) (t ready : Nat) (vd : VReg) (en : BitVec 128) (xs : Lanes) : Prop :=
  (u.readV p ready vd).1 = keepLanes en xs (s.readV p t vd).1 ∧ u.flight = s.flight ∧ (∀ b, u.byte b = s.byte b)

namespace State.VecAgrees

variable {s u : State} {p : PierIx} {t : Nat} {v va vb vc vd : VReg} {m md : MReg} {mask : Option MReg}
  (h : s.VecAgrees u p)
include h

/-- The use of free bits leaves the registers alone. -/
theorem skipFree (n : Nat) : s.VecAgrees (u.skipFree n) p := { h with }

theorem notReady (k : Nat) : u.notReady p t k = s.notReady p t k := by simp [State.notReady, h.vready]

theorem readV (hv : s.notReady p t v.val = false) : u.readV p t v = ((s.readV p t v).1, u) := by
  rw [State.readV_ready s p t v hv, State.readV_ready u p t v (h.notReady _ ▸ hv), h.vregs]

theorem readM (hm : s.notReady p t (64 + m.val) = false) : u.readM p t m = ((s.readM p t m).1, u) := by
  rw [State.readM_ready s p t m hm, State.readM_ready u p t m (h.notReady _ ▸ hm), h.masks]

theorem enable (hm : ∀ k, mask = some k → s.notReady p t (64 + k.val) = false) :
    u.enable p t mask = ((s.enable p t mask).1, u) := by
  cases mask with
  | none => rfl
  | some k => exact h.readM (hm k rfl)

theorem writeV (hd : s.notReady p t vd.val = false) (lat : Nat) (en : BitVec 128) (xs : Lanes) :
    s.VecWritten (u.writeV p t lat vd en xs) p t (t + lat) vd en xs := by
  refine ⟨?_, h.flight, h.byte⟩
  rw [State.readV_writeV, State.readV_ready s p t vd hd, h.vregs]
  rfl

theorem readM_writeM (hm : s.notReady p t (64 + md.val) = false) (lat : Nat) (en bits : BitVec 128) :
    ((u.writeM p t lat md en bits).readM p (t + lat) md).1 = ((s.readM p t md).1 &&& ~~~en) ||| (bits &&& en) := by
  rw [State.readM_writeM, State.readM_ready s p t md hm, h.masks]

/-- VARITH; the free signs of zeros are those bits that MAX and MIN use. -/
theorem varithEffect (ha : s.notReady p t va.val = false) (hb : s.notReady p t vb.val = false)
    (hc : s.notReady p t vc.val = false) (hd : s.notReady p t vd.val = false)
    (hm : ∀ k, mask = some k → s.notReady p t (64 + k.val) = false) (fn : VArith) :
    ∃ z : List Bool, s.VecWritten (u.varithEffect p t fn vd va vb vc mask) p t (t + 4) vd (s.enable p t mask).1
      ((List.range 128).map (fun l => arithLane fn (z.getD l false) ((s.readV p t va).1.getD l 0) ((s.readV p t vb).1.getD l 0)
        ((if fn = .fma then (s.readV p t vc).1 else []).getD l 0))) := by
  have hthird : (if fn = .fma then u.readV p t vc else ([], u)) = (if fn = .fma then (s.readV p t vc).1 else [], u) := by
    rw [h.readV hc]
    split <;> rfl
  obtain ⟨z, w, hz, hw⟩ : ∃ z w, (if fn = .max || fn = .min then u.freeBits 128 else ([], u)) = (z, w) ∧ s.VecAgrees w p := by
    split
    · exact ⟨_, _, rfl, h.skipFree 128⟩
    · exact ⟨_, _, rfl, h⟩
  refine ⟨z, ?_⟩
  simp only [State.varithEffect, h.readV ha, h.readV hb, hthird, hz, hw.enable hm]
  exact hw.writeV hd 4 _ _

theorem vcmpEffect (ha : s.notReady p t va.val = false) (hb : s.notReady p t vb.val = false)
    (hd : s.notReady p t (64 + md.val) = false) (hm : ∀ k, mask = some k → s.notReady p t (64 + k.val) = false) (fn : VCmp) :
    ((u.vcmpEffect p t fn md va vb mask).readM p (t + 4) md).1 =
        ((s.readM p t md).1 &&& ~~~(s.enable p t mask).1) |||
          (maskOf ((List.range 128).map (fun l => cmpLane fn ((s.readV p t va).1.getD l 0) ((s.readV p t vb).1.getD l 0))) &&&
            (s.enable p t mask).1) ∧
      (u.vcmpEffect p t fn md va vb mask).flight = s.flight ∧
      (∀ b, (u.vcmpEffect p t fn md va vb mask).byte b = s.byte b) := by
  simp only [State.vcmpEffect, h.readV ha, h.readV hb, h.enable hm]
  exact ⟨h.readM_writeM hd 4 _ _, h.flight, h.byte⟩

/-- VSEL writes every lane. -/
theorem vselEffect (ha : s.notReady p t va.val = false) (hb : s.notReady p t vb.val = false)
    (hd : s.notReady p t vd.val = false) (hm : s.notReady p t (64 + m.val) = false) :
    s.VecWritten (u.vselEffect p t vd va vb m) p t (t + 4) vd (BitVec.allOnes 128) ((List.range 128).map (fun l =>
      if (s.readM p t m).1.getLsbD l then (s.readV p t va).1.getD l 0 else (s.readV p t vb).1.getD l 0)) := by
  simp only [State.vselEffect, h.readV ha, h.readV hb, h.readM hm]
  exact h.writeV hd 4 _ _

theorem vsfuEffect (ha : s.notReady p t va.val = false) (hd : s.notReady p t vd.val = false)
    (hm : ∀ k, mask = some k → s.notReady p t (64 + k.val) = false) (fn : VSfu) :
    s.VecWritten (u.vsfuEffect p t fn vd va mask) p t (t + 15) vd (s.enable p t mask).1 ((s.readV p t va).1.map (sfuLane fn)) := by
  simp only [State.vsfuEffect, h.readV ha, h.enable hm]
  exact h.writeV hd 15 _ _

/-- VRED; the free signs of zeros are those bits that the tree of maxima uses. -/
theorem vredEffect (ha : s.notReady p t va.val = false) (hd : s.notReady p t vd.val = false)
    (hm : ∀ k, mask = some k → s.notReady p t (64 + k.val) = false) (isMax : Bool) :
    ∃ z : List Bool, s.VecWritten (u.vredEffect p t isMax vd va mask) p t (t + 28) vd (s.enable p t mask).1
      (redTree (fun k x y => if isMax then f32Max (z.getD k false) x y else f32Add x y) 7 0 (s.readV p t va).1 ::
        List.replicate 127 0) := by
  obtain ⟨z, w, hz, hw⟩ : ∃ z w, (if isMax then u.freeBits 128 else ([], u)) = (z, w) ∧ s.VecAgrees w p := by
    split
    · exact ⟨_, _, rfl, h.skipFree 128⟩
    · exact ⟨_, _, rfl, h⟩
  refine ⟨z, ?_⟩
  simp only [State.vredEffect, h.readV ha, hz, hw.enable hm]
  exact hw.writeV hd 28 _ _

end State.VecAgrees

section
variable {s : State} {p : PierIx} {t : Nat} (hr : s.readyAt p t) (vd va vb vc : VReg) (md : MReg) (mask : Option MReg)
include hr

theorem exec_varith_ready (fn : VArith) :
    exec (.varith p t fn vd va vb vc mask) s = .next ((s.issuedV p t).varithEffect p t fn vd va vb vc mask) :=
  congrArg Host.Outcome.next (State.issueV_free hr _ _)

theorem exec_vcmp_ready (fn : VCmp) :
    exec (.vcmp p t fn md va vb mask) s = .next ((s.issuedV p t).vcmpEffect p t fn md va vb mask) :=
  congrArg Host.Outcome.next (State.issueV_free hr _ _)

theorem exec_vsel_ready : exec (.vsel p t vd va vb md) s = .next ((s.issuedV p t).vselEffect p t vd va vb md) :=
  congrArg Host.Outcome.next (State.issueV_free hr _ _)

theorem exec_vsfu_ready (fn : VSfu) :
    exec (.vsfu p t fn vd va mask) s = .next ((s.issuedV p t).vsfuEffect p t fn vd va mask) :=
  congrArg Host.Outcome.next (State.issueV_free hr _ _)

theorem exec_vred_ready (isMax : Bool) :
    exec (.vred p t isMax vd va mask) s = .next ((s.issuedV p t).vredEffect p t isMax vd va mask) :=
  congrArg Host.Outcome.next (State.issueV_free hr _ _)

end

/-- Settles O4: each instruction has its effect on the state whose slot has issued, which agrees with the state before on all that the
instruction reads. -/
theorem vectorArithmeticRuns : Obligations.VectorArithmeticRuns := by
  intro s p t vd va vb vc md mask hr hready
  simp only [List.cons_append, List.nil_append, List.forall_mem_cons, List.mem_map, Option.mem_toList] at hready
  obtain ⟨ha, hb, hc, hd, hmd, hmask⟩ := hready
  have hm (k : MReg) (hk : mask = some k) : s.notReady p t (64 + k.val) = false := hmask _ ⟨k, hk, rfl⟩
  have h : s.VecAgrees (s.issuedV p t) p := State.vecAgrees_issuedV s p t
  refine ⟨fun fn => ?_, fun fn => ?_, ?_, fun fn => ?_, fun isMax => ?_⟩
  · exact ⟨_, exec_varith_ready hr .., h.varithEffect ha hb hc hd hm fn⟩
  · exact ⟨_, exec_vcmp_ready hr .., h.vcmpEffect ha hb hmd hm fn⟩
  · obtain ⟨hread, hkept⟩ := h.vselEffect ha hb hd hmd
    exact ⟨_, exec_vsel_ready hr .., hread.trans (keepLanes_allOnes _ _), hkept⟩
  · exact ⟨_, exec_vsfu_ready hr .., h.vsfuEffect ha hd hm fn⟩
  · exact ⟨_, exec_vred_ready hr .., h.vredEffect ha hd hm isMax⟩

end Sys2Proof.Machine
end

section
/-! PROOFS. What a read of a deck store leaves as it was, and that it finds no double-bit error where none stands (R162). -/
namespace Sys2Proof.Machine
open Sys2Proof

/-- A notice changes the counters of events, the notices and the journal, nothing else of the state (R463, R470). -/
theorem State.notify_eq (s : State) (c : Code) (cls level srcKind srcIndex detail : Nat) :
    s.notify c cls level srcKind srcIndex detail = { s with
      regs := (s.notify c cls level srcKind srcIndex detail).regs
      notices := (s.notify c cls level srcKind srcIndex detail).notices
      journalWrites := (s.notify c cls level srcKind srcIndex detail).journalWrites } := by
  simp only [State.notify]
  split <;> split <;> rfl

/-- Of the registers, a notice writes EVT_COUNT alone. -/
theorem State.reg_notify (s : State) (c : Code) (cls level srcKind srcIndex detail : Nat) {r : RegName} (i : Nat)
    (hr : r ≠ .evtCount) : (s.notify c cls level srcKind srcIndex detail).reg r i = s.reg r i := by
  have hbump (n : Nat) : (s.bump Fld.EVT_COUNT_MERGED 0 n).reg r i = s.reg r i :=
    (State.reg_setFld ..).trans (if_neg (fun h => hr h.1))
  simp only [State.notify]
  split <;> split
  · rfl
  · exact hbump 1
  · rfl
  · exact hbump 1

/-- A flag with its event changes registers, the notices and the journal, nothing else of the state (R463). -/
theorem State.flagEvent_eq (s : State) (f : Fld) (i : Nat) (c : Code) (srcKind srcIndex detail : Nat) :
    s.flagEvent f i c srcKind srcIndex detail = { s with
      regs := (s.flagEvent f i c srcKind srcIndex detail).regs
      notices := (s.flagEvent f i c srcKind srcIndex detail).notices
      journalWrites := (s.flagEvent f i c srcKind srcIndex detail).journalWrites } := by
  by_cases h : s.flag f i = true
  · simp only [State.flagEvent, if_pos h]
  · simp only [State.flagEvent, if_neg h, State.event]
    rw [State.notify_eq]
    rfl

theorem State.reg_flagEvent (s : State) (f : Fld) (i : Nat) (c : Code) (srcKind srcIndex detail : Nat) {r : RegName} (j : Nat)
    (hr : r ≠ .evtCount) (hf : r ≠ f.reg) : (s.flagEvent f i c srcKind srcIndex detail).reg r j = s.reg r j := by
  unfold State.flagEvent
  split
  · rfl
  · rw [State.event, State.reg_notify _ _ _ _ _ _ _ _ hr, State.reg_setFld, if_neg (fun h => hf h.1)]

/-- ECC of `n` bytes at `a`, and where `ext` holds of `m` bytes at `b`: what the reads of a row and of a tile do (R162). -/
def State.eccBoth (s : State) (p : PierIx) (k a n : Nat) (ext : Prop) [Decidable ext] (b m : Nat) : State × Bool :=
  if ext then
    (((s.eccRead p k a n).1.eccRead p k b m).1, (s.eccRead p k a n).2 || ((s.eccRead p k a n).1.eccRead p k b m).2)
  else s.eccRead p k a n

theorem State.eccRow_eq (s : State) (p : PierIx) (r : RegionIx) (i n : Nat) :
    s.eccRow p r i n = s.eccBoth p (s.slotOf p r i) (deckData p (s.slotOf p r i) + 128 * n) 128
      (s.rdesc p r Fld.REGION_DESC_SCALE_EN = 1) (s.extAddr p r i + 16 * n) 16 := rfl

theorem State.eccTile_eq (s : State) (p : PierIx) (r : RegionIx) (i : Nat) :
    s.eccTile p r i = s.eccBoth p (s.slotOf p r i) (deckData p (s.slotOf p r i)) 8192
      (s.rdesc p r Fld.REGION_DESC_SCALE_EN = 1) (s.extAddr p r i) 1024 := rfl

/-- `u` is `s` after the issue of a slot or a read of a deck store: registers but the region descriptors, piers, slot records, notices,
the journal and the free values may differ, and bit errors may have been corrected. -/
structure State.DeckKept (s u : State) : Prop where
  eq : u = { s with
    regs := u.regs
    piers := u.piers
    slots := u.slots
    deckFlips := u.deckFlips
    notices := u.notices
    journalWrites := u.journalWrites
    freeCtr := u.freeCtr }
  regionDesc : ∀ i, u.reg .regionDesc i = s.reg .regionDesc i
  flips : u.deckFlips ⊆ s.deckFlips

namespace State.DeckKept

theorem refl (s : State) : s.DeckKept s := ⟨rfl, fun _ => rfl, List.Subset.refl _⟩

theorem trans {s u w : State} (h : s.DeckKept u) (k : u.DeckKept w) : s.DeckKept w where
  eq := k.eq.trans (by rw [h.eq])
  regionDesc i := (k.regionDesc i).trans (h.regionDesc i)
  flips _ he := h.flips (k.flips he)

section
variable (s : State)

theorem setFld {f : Fld} (hf : f.reg ≠ .regionDesc) (i v : Nat) : s.DeckKept (s.setFld f i v) where
  eq := rfl
  regionDesc _ := (State.reg_setFld ..).trans (if_neg (fun h => hf h.1.symm))
  flips := List.Subset.refl _

theorem bump {f : Fld} (hf : f.reg ≠ .regionDesc) (i n : Nat) : s.DeckKept (s.bump f i n) := setFld s hf i _

theorem setSlot (p : PierIx) (k : Nat) (x : SlotRec) : s.DeckKept (s.setSlot p k x) :=
  ⟨rfl, fun _ => rfl, List.Subset.refl _⟩

theorem notify (c : Code) (cls level srcKind srcIndex detail : Nat) :
    s.DeckKept (s.notify c cls level srcKind srcIndex detail) where
  eq := by rw [State.notify_eq]
  regionDesc i := State.reg_notify s _ _ _ _ _ _ i (by decide)
  flips := by rw [State.notify_eq]; exact List.Subset.refl _

theorem flagEvent {f : Fld} (hf : f.reg ≠ .regionDesc) (i : Nat) (c : Code) (srcKind srcIndex detail : Nat) :
    s.DeckKept (s.flagEvent f i c srcKind srcIndex detail) where
  eq := by rw [State.flagEvent_eq]
  regionDesc j := State.reg_flagEvent s f i c _ _ _ j (by decide) hf.symm
  flips := by rw [State.flagEvent_eq]; exact List.Subset.refl _

theorem revokes (p : PierIx) : s.DeckKept (s.revokes p) :=
  trans (u := s.fresh.2) ⟨rfl, fun _ => rfl, List.Subset.refl _⟩ (bump _ (by decide) _ _)

/-- The issue of a slot changes no more than that (R314). -/
theorem issuedFor (p : PierIx) (t : Nat) (x : Needs) : s.DeckKept (s.issuedFor p t x) where
  eq := by rw [State.issuedFor_eq]
  regionDesc i := by
    rw [State.issuedFor, State.reg_slotIssued _ _ t i (by decide) (by decide), State.reg_grantPorts _ _ _ _ i (by decide),
      State.reg_claim]
  flips := by rw [State.issuedFor_eq]; exact List.Subset.refl _

theorem eccRead (p : PierIx) (k a n : Nat) : s.DeckKept (s.eccRead p k a n).1 := by
  have hdrop (f : Nat × Nat → Bool) : s.DeckKept { s with deckFlips := s.deckFlips.filter f } :=
    ⟨rfl, fun _ => rfl, fun _ he => (List.mem_filter.1 he).1⟩
  simp only [State.eccRead]
  split
  · exact refl s
  · dsimp only
    split
    · exact hdrop _
    · exact (hdrop _).trans ((bump _ (by decide) _ _).trans (flagEvent _ (by decide) _ _ _ _ _))

theorem noteRead (p : PierIx) (r : RegionIx) (i : Nat) : s.DeckKept (s.noteRead p r i) := by
  have hmark (x : SlotRec) := (eccRead s p (s.slotOf p r i) (deckSide p (s.slotOf p r i)) 256).trans
    (setSlot _ p (s.slotOf p r i) x)
  simp only [State.noteRead]
  split
  · exact hmark _
  · split
    · exact hmark _
    · split
      · exact (hmark _).trans ((bump _ (by decide) _ _).trans ((bump _ (by decide) _ _).trans (bump _ (by decide) _ _)))
      · exact (hmark _).trans ((bump _ (by decide) _ _).trans (bump _ (by decide) _ _))

theorem eccBoth (p : PierIx) (k a n : Nat) (ext : Prop) [Decidable ext] (b m : Nat) :
    s.DeckKept (s.eccBoth p k a n ext b m).1 := by
  rw [State.eccBoth]
  split
  · exact (eccRead ..).trans (eccRead ..)
  · exact eccRead ..

theorem eccRow (p : PierIx) (r : RegionIx) (i n : Nat) : s.DeckKept (s.eccRow p r i n).1 := eccBoth ..

theorem eccTile (p : PierIx) (r : RegionIx) (i : Nat) : s.DeckKept (s.eccTile p r i).1 := eccBoth ..

end

section
variable {s u : State} (h : s.DeckKept u)
include h

theorem noUe (hn : s.noUe) : u.noUe := fun e he => hn e (h.flips he)

theorem mem : u.mem = s.mem := by rw [h.eq]
theorem ring : u.ring = s.ring := by rw [h.eq]
theorem flight : u.flight = s.flight := by rw [h.eq]
theorem archs : u.archs = s.archs := by rw [h.eq]
theorem spandrel : u.spandrel = s.spandrel := by rw [h.eq]

theorem bytes (a n : Nat) : u.bytes a n = s.bytes a n := by rw [State.bytes, h.mem]; rfl

theorem rdesc {f : Fld} (hf : f.reg = .regionDesc) (p : PierIx) (r : RegionIx) : u.rdesc p r f = s.rdesc p r f := by
  rw [State.rdesc, State.fld, hf, h.regionDesc, State.rdesc, State.fld, hf]

theorem slotOf (p : PierIx) (r : RegionIx) (i : Nat) : u.slotOf p r i = s.slotOf p r i := by
  rw [State.slotOf, h.rdesc rfl]; rfl

theorem extAddr (p : PierIx) (r : RegionIx) (i : Nat) : u.extAddr p r i = s.extAddr p r i := by
  simp only [State.extAddr, h.rdesc (f := Fld.REGION_DESC_SCALE_REGION) rfl, h.slotOf]

theorem readRow (p : PierIx) (k n : Nat) : u.readRow p k n = s.readRow p k n := by
  rw [State.readRow, h.bytes]; rfl

theorem readExt (p : PierIx) (r : RegionIx) (i n : Nat) : u.readExt p r i n = s.readExt p r i n := by
  rw [State.readExt, h.rdesc rfl, h.extAddr, h.bytes]; rfl

theorem readTile (p : PierIx) (r : RegionIx) (i : Nat) : u.readTile p r i = s.readTile p r i := by
  simp only [State.readTile, h.rdesc (f := Fld.REGION_DESC_SCALE_EN) rfl, h.extAddr, h.slotOf, h.bytes]

end

end State.DeckKept

/-! Where no double-bit error stands, ECC finds none (R162). -/

section
variable {s : State} (hn : s.noUe)
include hn

theorem State.eccBad_of_noUe (a n : Nat) : s.eccBad a n = false := by
  rw [State.eccBad, List.any_eq_false]
  intro e he
  simp [Nat.not_le.2 (hn e he)]

theorem State.eccRead_snd_of_noUe (p : PierIx) (k a n : Nat) : (s.eccRead p k a n).2 = false := by
  simp only [State.eccRead]
  split
  · rfl
  · rw [List.any_eq_false]
    intro e he
    simp [Nat.not_le.2 (hn e (List.mem_filter.1 he).1)]

theorem State.eccBoth_snd_of_noUe (p : PierIx) (k a n : Nat) (ext : Prop) [Decidable ext] (b m : Nat) :
    (s.eccBoth p k a n ext b m).2 = false := by
  rw [State.eccBoth]
  split
  · simp [State.eccRead_snd_of_noUe hn, State.eccRead_snd_of_noUe ((State.DeckKept.eccRead ..).noUe hn)]
  · exact State.eccRead_snd_of_noUe hn ..

/-- A row read on the feed path (R162). -/
theorem State.feedRow_of_noUe (p : PierIx) (r : RegionIx) (t i n : Nat) :
    s.feedRow p r t i n = ((s.eccRow p r i n).1, some ⟨s.readRow p (s.slotOf p r i) n, s.readExt p r i n⟩) := by
  simp [State.feedRow, State.eccRow_eq, State.eccBoth_snd_of_noUe hn]

/-- A tile that leaves whole is the tile that stands there, with its padding as zero. -/
theorem State.readOut_fst_of_noUe (p : PierIx) (r : RegionIx) (t i : Nat) :
    (s.readOut p r t i).1 = (s.readTile p r i).padded := by
  have hread : s.DeckKept (s.noteRead p r i) := .noteRead ..
  have hecc : s.DeckKept ((s.noteRead p r i).eccTile p r i).1 := hread.trans (.eccTile ..)
  have hue : ((s.noteRead p r i).eccTile p r i).2 = false := by
    rw [State.eccTile_eq]
    exact State.eccBoth_snd_of_noUe (hread.noUe hn) ..
  simp only [State.readOut, State.eccBad_of_noUe hn, hue, Bool.or_self, Bool.false_eq_true, if_false, hecc.readTile]

end

end Sys2Proof.Machine
end

section
/-! PROOFS. The events of the ring: the end of a loopback test and the sending of an exit tile (R129, R131, R132, R400). -/
namespace Sys2Proof.Machine
open Sys2Proof

@[simp] theorem State.loopbacks_ringBreak (s : State) (p : PierIx) : (s.ringBreak p).loopbacks = s.loopbacks := by
  simp only [State.ringBreak, State.countBreaks, State.setFld_loopbacks, State.journalise_loopbacks]
  rw [State.flagEvent_eq]
  rfl

@[simp] theorem State.mem_ringBreak (s : State) (p : PierIx) : (s.ringBreak p).mem = s.mem := by
  simp only [State.ringBreak, State.mem_countBreaks, State.journalise_mem]
  rw [State.flagEvent_eq]
  rfl

theorem State.reg_countBreaks (s : State) {r : RegName} (i : Nat) (hr : r ≠ .viaductStatus) : s.countBreaks.reg r i = s.reg r i := by
  have hset {f : Fld} (hf : f.reg = .viaductStatus) (u : State) (v : Nat) : (u.setFld f 0 v).reg r i = u.reg r i :=
    (State.reg_setFld ..).trans (if_neg (fun h => hr (h.1.trans hf)))
  rw [State.countBreaks, hset rfl, hset rfl, hset rfl]

/-- Of RING_CFG, a break sets the mark of its own pier alone. -/
theorem State.reg_ringCfg_ringBreak (s : State) (p : PierIx) (i : Nat) :
    (s.ringBreak p).reg .ringCfg i = (s.setFld Fld.RING_CFG_BROKEN p.val 1).reg .ringCfg i := by
  rw [State.ringBreak, State.reg_countBreaks _ _ (by decide), State.reg_journalise,
    State.reg_flagEvent _ _ _ _ _ _ _ _ (by decide) (by decide)]

/-- Of the marks of broken piers, a break sets its own alone (R131). -/
theorem State.broken_ringBreak (s : State) (p q : PierIx) :
    (s.ringBreak p).flag Fld.RING_CFG_BROKEN q.val = true ↔ s.flag Fld.RING_CFG_BROKEN q.val = true ∨ q = p := by
  have hfld : (s.ringBreak p).fld Fld.RING_CFG_BROKEN q.val = (s.setFld Fld.RING_CFG_BROKEN p.val 1).fld Fld.RING_CFG_BROKEN q.val :=
    congrArg Fld.RING_CFG_BROKEN.ofWord (s.reg_ringCfg_ringBreak p q.val)
  rw [State.flag, hfld]
  by_cases hq : q = p
  · subst hq
    rw [State.fld_setFld_same _ _ _ _ (by decide)]
    exact iff_of_true rfl (.inr rfl)
  · rw [State.fld_setFld_reg _ _ (fun h => hq (Fin.ext h.2))]
    exact (or_iff_left hq).symm

/-- The piers of a list are broken one after another. -/
theorem State.broken_foldl_ringBreak (ps : List PierIx) (s : State) (q : PierIx) :
    (ps.foldl State.ringBreak s).flag Fld.RING_CFG_BROKEN q.val = true ↔ s.flag Fld.RING_CFG_BROKEN q.val = true ∨ q ∈ ps := by
  induction ps generalizing s with
  | nil => simp
  | cons p ps ih => rw [List.foldl_cons, ih, State.broken_ringBreak, List.mem_cons, or_assoc]

/-- The end of a loopback test breaks, one after another, the piers of the segment's path that failed (R131, R132). -/
theorem State.loopbackDone_of_mem {s : State} {g : SegIx} (hg : g ∈ s.loopbacks) (failed : List PierIx) :
    s.loopbackDone g failed = (failed.filter (fun p => s.onPath g p)).foldl State.ringBreak
      { s with loopbacks := s.loopbacks.filter (fun x => x != g) } :=
  if_pos (List.contains_iff_mem.2 hg)

theorem runs_ringLoopbackDone {s : State} {g : SegIx} (hg : g ∈ s.loopbacks) (failed : List PierIx) :
    Runs (.ringLoopbackDone g failed) s (fun u => g ∉ u.loopbacks ∧
      (∀ p, u.flag Fld.RING_CFG_BROKEN p.val = true ↔
        s.flag Fld.RING_CFG_BROKEN p.val = true ∨ (p ∈ failed ∧ s.onPath g p = true)) ∧
      (∀ b, u.byte b = s.byte b)) := by
  refine ⟨s.loopbackDone g failed, rfl, ?_⟩
  rw [State.loopbackDone_of_mem hg]
  generalize hps : failed.filter (fun p => s.onPath g p) = ps
  refine ⟨?_, fun p => ?_, fun b => ?_⟩
  · rw [foldl_keeps (fun u => u.loopbacks = s.loopbacks.filter (fun x => x != g)) _
      (fun u p h => (u.loopbacks_ringBreak p).trans h) _ _ rfl]
    simp
  · rw [State.broken_foldl_ringBreak, ← hps, List.mem_filter]
    rfl
  · rw [State.byte, State.mem_foldl _ State.mem_ringBreak]
    rfl

/-- A landed exit tile is read and sent where its port takes it and it can be released (R129, R400). -/
theorem exec_ringTileSend {s : State} {g : SegIx} {c : Cwy} {n : Nat} {p : PierIx} {i : Nat} (hext : s.extPort g (c = .cw) = some n)
    (htail : s.tailPier g c = some p) (hhead : s.exitHead p (s.exitRegion p c) = some i) (hport : s.portState n = 5)
    (hqueue : ∀ f ∈ (s.link n).queue, f.1.vc ≠ 4) (hrel : s.canRelease p (s.exitRegion p c) = true) :
    let x := (s.revokes p).readOut p (s.exitRegion p c) (s.fld Fld.PCTL_SLOT_SLOT p.val) i
    exec (.ringTileSend g c) s = .next ((x.2.release p (s.exitRegion p c)).enqueue n
      ⟨s.headTo (s.fld Fld.PORT_STATUS_NEIGHBOUR n), .ringTile c g.val (x.1.sideBytes.take 16) x.1.dataBytes
        (padTo (ringExtLen x.1.tag.toNat) (x.1.extBytes.take (ringExtLen x.1.tag.toNat)))⟩ 0) := by
  have hfree : (s.link n).queue.any (fun f => f.1.vc = 4) = false :=
    List.any_eq_false.2 (fun f hf => by simpa using hqueue f hf)
  have hsend : exec (.ringTileSend g c) s = .next (s.ringTileSend g c) := rfl
  rw [hsend]
  simp [State.ringTileSend, hext, htail, hhead, hport, hfree, hrel]

/-- Settles O10: a loopback test breaks the piers of the path that failed, one after another, and an exit tile is read with the checks of
ECC alone, which leave the tile as it stands where no double-bit error does. -/
theorem ringEventsRun : Obligations.RingEventsRun := by
  refine ⟨fun s g failed hg => runs_ringLoopbackDone hg failed,
    fun s g c n p i hext htail hhead hport hqueue hrel => ⟨fun hn => ?_, ?_⟩⟩
  · have hrev : s.DeckKept (s.revokes p) := .revokes ..
    rw [← hrev.readTile]
    exact State.readOut_fst_of_noUe (hrev.noUe hn) ..
  · exact exec_ringTileSend hext htail hhead hport hqueue hrel

end Sys2Proof.Machine
end

section
/-! PROOFS. INJECT in a slot that issues (R114, R117, R120). -/
namespace Sys2Proof.Machine
open Sys2Proof

/-- Work whose first part leaves a rest goes on with it. -/
theorem State.begin_of_part {s u : State} {w rest : Work} (h : s.part { w with stale := s.workStale w } = ⟨u, some rest, false⟩) :
    s.begin w = u.addWork rest := by
  simp [State.begin, h, State.putWork]

section
variable {s : State} (hn : s.noUe)
include hn

/-- The first row of a tile that is there, read without a double-bit error: nothing but what a read changes is changed, and the row comes
with the tile's TILE_SCALE and STEP_TAG. -/
theorem State.streamRow_tile {w : Work} {r : RegionIx} {off i : Nat} {keep : Bool} {f : Fmt} {x : Tile} {skew : Bool} {j : Nat}
    (fm : Option (Fld × Nat)) (arch : Nat) (hw : w.done = 0)
    (hfeed : s.feed w.pier r (firstOff off keep) f true w.stale = .tile i x skew) :
    ∃ u, s.DeckKept u ∧ s.streamRow w r off j keep f fm arch = (u,
      some (⟨s.readRow w.pier (s.slotOf w.pier r i) 0, s.readExt w.pier r i 0⟩, i, some (x.scale, x.stepTag))) := by
  obtain ⟨v, hv, heq⟩ : ∃ v, s.DeckKept v ∧ (if skew then (s.noteRead w.pier r i).countSkew w.pier x.stepTag.toNat
      else s.noteRead w.pier r i) = v := by
    split
    · exact ⟨_, .trans (.noteRead ..) (.notify ..), rfl⟩
    · exact ⟨_, .noteRead .., rfl⟩
  refine ⟨(v.eccRow w.pier r i 0).1, hv.trans (.eccRow ..), ?_⟩
  rw [firstOff] at hfeed
  simp [State.streamRow, hw, hfeed, heq, State.feedRow_of_noUe (hv.noUe hn), hv.readRow, hv.slotOf, hv.readExt]

/-- The first row of an INJECT (R59, R120): it is placed on the stream; with an exit tile its arrival at the tail is foreseen (R129). -/
theorem State.injectRow_tile {w : Work} {start off i j : Nat} {g : SegIx} {c : Cwy} {r : RegionIx} {f : Fmt} {exit keep skew : Bool}
    {x : Tile} (hw : w.done = 0) (hfeed : s.feed w.pier r (firstOff off keep) f true w.stale = .tile i x skew) :
    ∃ u o, s.DeckKept u ∧ s.injectRow w start g c r f exit off keep j =
      ⟨(u.placeRow g c start ⟨s.readRow w.pier (s.slotOf w.pier r i) 0, s.readExt w.pier r i 0⟩
        (some (x.scale, x.stepTag))).putWork o, w.next (.inject start g c r f exit off keep i), false⟩ := by
  obtain ⟨u, hu, hrow⟩ := State.streamRow_tile hn (j := j) none 0 hw hfeed
  simp only [State.injectRow, hrow]
  split
  · exact ⟨u, some _, hu, rfl⟩
  · exact ⟨u, none, hu, rfl⟩

/-- The rest of an INJECT of `tiles` tiles of pier `p` after its first row, which it took from data index `i`. -/
def injectRest (p : PierIx) (t : Nat) (g : SegIx) (c : Cwy) (r : RegionIx) (tiles : Nat) (f : Fmt) (exit : Bool) (off : Nat)
    (keep : Bool) (i : Nat) : Work :=
  ⟨p, t + 1, none, false, false, 1, 64 * tiles - 1, .inject t g c r f exit off keep i⟩

/-- INJECT begins: its first row is on the stream that started in its slot, and the others follow. -/
theorem State.begin_inject {p : PierIx} {t tiles off i : Nat} {g : SegIx} {c : Cwy} {r : RegionIx} {f : Fmt} {exit keep skew : Bool}
    {x : Tile} (ht : 0 < tiles)
    (hfeed : s.feed p r (firstOff off keep) f true (s.readStale p r (firstOff off keep) t) = .tile i x skew) :
    ∃ u o, s.DeckKept u ∧ s.begin (injectWork p t g c r tiles f exit off keep) =
      ((u.placeRow g c t ⟨s.readRow p (s.slotOf p r i) 0, s.readExt p r i 0⟩ (some (x.scale, x.stepTag))).putWork o).addWork
        (injectRest p t g c r tiles f exit off keep i) := by
  let w := injectWork p t g c r tiles f exit off keep
  have hstale : s.workStale w = s.readStale p r (firstOff off keep) t := by
    simp [w, State.workStale, injectWork, nowWork, firstOff]
  have hnext : ({ w with stale := s.workStale w } : Work).next (.inject t g c r f exit off keep i) =
      some (injectRest p t g c r tiles f exit off keep i) := if_neg (show ¬ 64 * tiles ≤ 1 by omega)
  rw [← hstale] at hfeed
  obtain ⟨u, o, hu, hrow⟩ := State.injectRow_tile hn (start := t) (g := g) (c := c) (exit := exit) (j := 0)
    (w := { w with stale := s.workStale w }) rfl hfeed
  rw [hnext] at hrow
  exact ⟨u, o, hu, State.begin_of_part hrow⟩

end

/-- The state in which an INJECT of pier `p` in slot `t` has taken its carriageway: the stream without a row, the check of its words
where they enter piers, and its end (R114, R120). -/
def State.openStream (s : State) (p : PierIx) (t : Nat) (g : SegIx) (c : Cwy) (tiles : Nat) (f : Fmt) (exit : Bool) : State :=
  ({ s with ring := s.ring ++ [RingStream.mk g c t exit f tiles [] [] []] }.addWork
    (newWork p (t + 57) (s.segArches g + 64 * tiles - 1) (.ringEntry g c t))).addWork
      (newWork p (t + 56 + s.segArches g + 64 * tiles) 1 (.streamEnd g c t))

/-- Work that releases nothing by a slot leaves the releases that are due as they were. -/
theorem State.pendingRel_addWork (s : State) (w : Work) (p : PierIx) (r : RegionIx) (t : Nat) (hw : w.releases r t = 0) :
    (s.addWork w).pendingRel p r t = s.pendingRel p r t := by
  have hh : (s.addWork w).halves p r = s.halves p r := rfl
  unfold State.pendingRel
  rw [hh]
  by_cases hp : w.pier = p
  · simp [State.addWork, hp, hw]
  · simp [State.addWork, hp]

theorem State.readStale_addWork (s : State) (w : Work) (p : PierIx) (r : RegionIx) (d t : Nat) (hw : w.releases r t = 0) :
    (s.addWork w).readStale p r d t = s.readStale p r d t := by
  unfold State.readStale State.readAtIn
  rw [State.pendingRel_addWork s w p r t hw]
  rfl

/-- The works of a stream release nothing, so the check of a read sees what it saw before them. -/
theorem State.readStale_openStream (s : State) (p : PierIx) (t : Nat) (g : SegIx) (c : Cwy) (tiles : Nat) (f : Fmt) (exit : Bool)
    (r : RegionIx) (d : Nat) : (s.openStream p t g c tiles f exit).readStale p r d t = s.readStale p r d t := by
  have hrel (w : Work) (hw : t < w.due) : w.releases r t = 0 := if_pos hw
  rw [State.openStream, State.readStale_addWork _ _ _ _ _ _ (hrel _ (by simp only [newWork]; omega)),
    State.readStale_addWork _ _ _ _ _ _ (hrel _ (by simp only [newWork]; omega))]
  rfl

/-- A row placed on the stream that has been opened is the first of it. -/
theorem State.mem_ring_placeRow {u : State} {t : Nat} {g : SegIx} {c : Cwy} {tiles : Nat} {f : Fmt} {exit : Bool}
    (hu : (RingStream.mk g c t exit f tiles [] [] []) ∈ u.ring) (row : RingRow) (head : F32 × BitVec 32) :
    RingStream.mk g c t exit f tiles [row] [head] [] ∈ (u.placeRow g c t row (some head)).ring :=
  List.mem_map.2 ⟨_, hu, by simp [RingStream.isOf]⟩

/-- INJECT by a head whose carriageway is free (R117, R119, R120). -/
theorem State.injectEffect_free {s : State} {p : PierIx} {t : Nat} {c : Cwy} {r : RegionIx} {tiles : Nat} {f : Fmt} {exit : Bool}
    {off : Nat} {keep : Bool} {g : SegIx} (hd : s.domOf p = .seg g) (hrole : s.fld Fld.RING_CFG_ROLE p.val = headRole c)
    (hb : s.injectBusy g c t = false) : s.injectEffect p t c r tiles f exit off keep =
      (s.openStream p t g c tiles f exit).begin (injectWork p t g c r tiles f exit off keep) := by
  simp [State.injectEffect, hd, hrole, hb, State.openStream]

/-- What is put back joins the work in progress. -/
theorem State.putWork_eq (s : State) (o : Option Work) : s.putWork o = { s with flight := s.flight ++ o.toList } := by
  cases o with
  | none => simp [State.putWork]
  | some w => rfl

/-- INJECT whose first tile is there begins in a state `v` that has issued its slot: its first row is on the carriageway, the rows after
it and the checks of its words are on their way, and nothing of memory or of an arch has changed. -/
theorem State.begin_openStream {s v : State} (hv : s.DeckKept v) (hn : s.noUe) {p : PierIx} {t tiles off i : Nat} {g : SegIx} {c : Cwy}
    {r : RegionIx} {f : Fmt} {exit keep skew : Bool} {x : Tile} (ht : 0 < tiles)
    (hfeed : v.feed p r (firstOff off keep) f true (v.readStale p r (firstOff off keep) t) = .tile i x skew) :
    ∃ u, (v.openStream p t g c tiles f exit).begin (injectWork p t g c r tiles f exit off keep) = u ∧
      RingStream.mk g c t exit f tiles [⟨s.readRow p (s.slotOf p r i) 0, s.readExt p r i 0⟩] [(x.scale, x.stepTag)] [] ∈ u.ring ∧
      injectRest p t g c r tiles f exit off keep i ∈ u.flight ∧
      newWork p (t + 57) (v.segArches g + 64 * tiles - 1) (.ringEntry g c t) ∈ u.flight ∧
      newWork p (t + 56 + v.segArches g + 64 * tiles) 1 (.streamEnd g c t) ∈ u.flight ∧
      (∀ b, u.byte b = s.byte b) ∧ u.archs = s.archs ∧ u.spandrel = s.spandrel := by
  have hopen : (v.openStream p t g c tiles f exit).noUe := hv.noUe hn
  have hrow : (v.openStream p t g c tiles f exit).readRow p ((v.openStream p t g c tiles f exit).slotOf p r i) 0 =
      s.readRow p (s.slotOf p r i) 0 := by
    rw [← hv.readRow, ← hv.slotOf]
    rfl
  have hext : (v.openStream p t g c tiles f exit).readExt p r i 0 = s.readExt p r i 0 := by
    rw [← hv.readExt]
    rfl
  rw [← State.readStale_openStream v p t g c tiles f exit] at hfeed
  obtain ⟨u, o, hu, hbegin⟩ := State.begin_inject hopen (g := g) (c := c) (exit := exit) ht hfeed
  rw [hrow, hext, State.putWork_eq] at hbegin
  have hflight : u.flight = (v.flight ++ [newWork p (t + 57) (v.segArches g + 64 * tiles - 1) (.ringEntry g c t)]) ++
    [newWork p (t + 56 + v.segArches g + 64 * tiles) 1 (.streamEnd g c t)] := hu.flight
  have hring : RingStream.mk g c t exit f tiles [] [] [] ∈ u.ring := by
    rw [hu.ring]
    exact List.mem_append_right _ (List.mem_singleton.2 rfl)
  refine ⟨_, hbegin, State.mem_ring_placeRow hring _ _, ?_, ?_, ?_, fun b => ?_, hu.archs.trans hv.archs, hu.spandrel.trans hv.spandrel⟩
  · simp [State.addWork]
  · simp [State.addWork, State.placeRow, hflight]
  · simp [State.addWork, State.placeRow, hflight]
  · exact congrArg (fun m : NMap Byte => m.look memDflt b) (hu.mem.trans hv.mem)

/-- INJECT of a head whose carriageway is free: the stream takes it, and begins (R114, R120). -/
theorem exec_inject_ready {s : State} {p : PierIx} {t : Nat} (hr : s.readyAt p t) {c : Cwy} {r : RegionIx} {tiles : Nat} {f : Fmt}
    {exit : Bool} {off : Nat} {keep : Bool} {g : SegIx} {x : Needs}
    (hx : s.workNeeds false (injectWork p t 0 c r tiles f exit off keep) = x) (hmet : x.met s p t)
    (hd : (s.issuedFor p t x).domOf p = .seg g) (hrole : (s.issuedFor p t x).fld Fld.RING_CFG_ROLE p.val = headRole c)
    (hb : (s.issuedFor p t x).injectBusy g c t = false) :
    exec (.inject p t c r tiles f exit off keep) s =
    .next (((s.issuedFor p t x).openStream p t g c tiles f exit).begin (injectWork p t g c r tiles f exit off keep)) := by
  subst hx
  have h := State.issue_ready hr (.inject p t c r tiles f exit off keep)
    (needs := fun s => s.workNeeds false (injectWork p t 0 c r tiles f exit off keep)) hmet
    (fun s => s.injectEffect p t c r tiles f exit off keep) (fun _ => false)
  rw [State.injectEffect_free hd hrole hb] at h
  exact congrArg Host.Outcome.next h

end Sys2Proof.Machine
end

section
/-! PROOFS. FLIP, RELEASE, ARM, COPY and CWAIT in a slot that issues (R171, R174, R190, R274). -/
namespace Sys2Proof.Machine
open Sys2Proof

/-- A bit that is not set is set by adding its weight, and no other bit changes. -/
theorem testBit_add_two_pow {w i : Nat} (h : w.testBit i = false) (j : Nat) :
    (w + 2 ^ i).testBit j = (decide (j = i) || w.testBit j) := by
  rw [Nat.add_comm]
  rcases Nat.lt_trichotomy j i with hlt | rfl | hgt
  · rw [Nat.testBit_two_pow_add_gt hlt, decide_eq_false (Nat.ne_of_lt hlt), Bool.false_or]
  · simp [Nat.testBit_two_pow_add_eq, h]
  · obtain ⟨k, rfl⟩ := Nat.exists_eq_add_of_lt hgt
    have hdiv : (2 ^ i + w) / 2 ^ (i + 1) = w / 2 ^ (i + 1) := by
      have heven : w / 2 ^ i % 2 = 0 := by
        rw [Nat.testBit_eq_decide_div_mod_eq] at h
        have := of_decide_eq_false h
        omega
      rw [Nat.pow_succ, ← Nat.div_div_eq_div_mul, ← Nat.div_div_eq_div_mul, Nat.add_div_left _ (Nat.two_pow_pos i)]
      omega
    rw [show i + k + 1 = k + (i + 1) by omega, ← Nat.testBit_div_two_pow, ← Nat.testBit_div_two_pow, hdiv]
    rw [decide_eq_false (by omega), Bool.false_or]

theorem testBit_sub_two_pow {w i : Nat} (h : w.testBit i = true) (j : Nat) :
    (w - 2 ^ i).testBit j = (decide (j ≠ i) && w.testBit j) := by
  obtain ⟨v, rfl⟩ := Nat.exists_eq_add_of_le' (Nat.ge_two_pow_of_testBit h)
  have hv : v.testBit i = false := by
    rw [Nat.add_comm, Nat.testBit_two_pow_add_eq] at h
    simpa using h
  rw [Nat.add_sub_cancel, testBit_add_two_pow hv]
  by_cases hj : j = i <;> simp [hj, hv]

/-- A word with one bit set or cleared, as `State.setGangBits` does it. -/
def withBit (v : Bool) (w i : Nat) : Nat :=
  if v then (if w.testBit i then w else w + 2 ^ i) else (if w.testBit i then w - 2 ^ i else w)

theorem testBit_withBit (v : Bool) (w i j : Nat) : (withBit v w i).testBit j = if j = i then v else w.testBit j := by
  unfold withBit
  cases v with
  | true =>
    by_cases hw : w.testBit i = true
    · by_cases hj : j = i <;> simp [hw, hj]
    · simp only [Bool.not_eq_true] at hw
      by_cases hj : j = i <;> simp [hw, testBit_add_two_pow, hj]
  | false =>
    by_cases hw : w.testBit i = true
    · by_cases hj : j = i <;> simp [hw, testBit_sub_two_pow, hj]
    · by_cases hj : j = i <;> simp [hw, hj]

/-- The bits of a run of `g` from bit `n` are set or cleared, and the others are as they were. -/
theorem testBit_foldl_withBit (n g : Nat) (v : Bool) (w j : Nat) :
    ((List.range g).foldl (fun w k => withBit v w (n + k)) w).testBit j = if n ≤ j ∧ j < n + g then v else w.testBit j := by
  induction g with
  | zero =>
    rw [if_neg (by omega)]
    rfl
  | succ g ih =>
    rw [List.range_succ, List.foldl_append, List.foldl_cons, List.foldl_nil, testBit_withBit, ih]
    have hrun : j ≠ n + g → ((n ≤ j ∧ j < n + (g + 1)) ↔ n ≤ j ∧ j < n + g) := by omega
    by_cases hj : j = n + g
    · rw [if_pos hj, if_pos (by omega)]
    · rw [if_neg hj]
      simp only [hrun hj]

theorem State.setGangBits_eq (s : State) (f : Fld) (p : PierIx) (n g : Nat) (v : Bool) :
    s.setGangBits f p n g v = s.setFld f p.val ((List.range g).foldl (fun w k => withBit v w (n + k)) (s.fld f p.val)) := rfl

theorem State.streamBit_setGangBits (s : State) {f : Fld} (hf : f.lo + f.width ≤ 64) (p : PierIx) (n g : Nat) (v : Bool) {j : Nat}
    (hj : j < f.width) : (s.setGangBits f p n g v).streamBit f p j = if n ≤ j ∧ j < n + g then v else s.streamBit f p j := by
  rw [State.streamBit, State.setGangBits_eq, State.fld_setFld_same _ _ _ _ hf, Nat.testBit_mod_two_pow, testBit_foldl_withBit]
  simp [hj, State.streamBit]

theorem State.streamBit_setGangBits_other (s : State) {f h : Fld} (hh : h.lo + h.width ≤ 64)
    (hd : h.lo + h.width ≤ f.lo ∨ f.lo + f.width ≤ h.lo) (p : PierIx) (n g : Nat) (v : Bool) (j : Nat) :
    (s.setGangBits f p n g v).streamBit h p j = s.streamBit h p j := by
  rw [State.streamBit, State.setGangBits_eq, State.fld_setFld_field _ _ hh hd]
  rfl

theorem State.gang_startGang (s : State) (p : PierIx) (n : Fin 16) :
    (s.startGang p n).gang (streamIx p n) = { s.gang (streamIx p n) with next := 0 } := NMap.look_put_same _ _ _ _

/-- The streams of a gang that starts are armed, and none of them is done. -/
theorem State.streamBit_startGang (s : State) (p : PierIx) (n : Fin 16) {k : Nat}
    (hk : k < s.fld Fld.STREAM_DESC0_GANG (streamIx p n)) (hn : n.val + k < 16) :
    (s.startGang p n).streamBit Fld.APPROACH_STATUS_ARMED p (n.val + k) = true ∧
      (s.startGang p n).streamBit Fld.APPROACH_STATUS_DONE p (n.val + k) = false := by
  have hin : n.val ≤ n.val + k ∧ n.val + k < n.val + s.fld Fld.STREAM_DESC0_GANG (streamIx p n) := by omega
  unfold State.startGang
  constructor
  · rw [State.streamBit_setGangBits_other _ (by decide) (by decide), State.streamBit_setGangBits _ (by decide) _ _ _ _ hn, if_pos hin]
  · rw [State.streamBit_setGangBits _ (by decide) _ _ _ _ hn, if_pos hin]

theorem State.runDone_issuedAt (s : State) (p : PierIx) (t : Nat) (q : PierIx) (d : Fin 8) :
    (s.issuedAt p t).runDone q d = s.runDone q d := by
  have hcount : ((s.issuedAt p t).copyWalk (copyIx q d)).count = (s.copyWalk (copyIx q d)).count :=
    State.fld_issuedAt s p t _ (by decide) (by decide)
  have hbusy : (s.issuedAt p t).copyBusy q d = s.copyBusy q d := by
    rw [State.issuedAt_eq]; rfl
  have hrun : (s.issuedAt p t).run q d = s.run q d := by
    rw [State.issuedAt_eq]; rfl
  simp only [State.runDone, hcount, hbusy, hrun]

section
variable {s : State} {p : PierIx} {t : Nat} (hr : s.readyAt p t)
include hr

/-- FLIP of a region in halves (R174). -/
theorem exec_flip_ready {r : RegionIx} (hh : s.halves p r = true) (hl : s.flipLate false p r t = none) :
    exec (.flip p t r) s = .next ((s.issuedAt p t).addWork (newWork p t 1 (.flip r))) := by
  have hv : (s.issuedAt p t).halves p r = true := by
    rw [State.halves, State.rdesc, State.fld_issuedAt s p t _ (by decide) (by decide)]
    exact hh
  have h := State.issue_item hr (.flip p t r) (late := fun s => s.flipLate false p r t) hl
    (fun s => if s.halves p r then s.addWork (newWork p t 1 (.flip r)) else s) (fun _ => false)
  rw [if_pos hv] at h
  exact congrArg Host.Outcome.next h

/-- RELEASE where the tile at HEAD can be released (R171). -/
theorem exec_release_ready {r : RegionIx} {count : Nat} (hl : s.relLate p r (s.pendingRel p r t) t = none) :
    exec (.release p t r count) s = .next ((s.issuedAt p t).addWork (nowWork p t count (.release r))) :=
  congrArg Host.Outcome.next (State.issue_item hr _ hl _ _)

/-- ARM of a gang that is not armed (R190). -/
theorem exec_arm_ready {n : Fin 16} (ha : (s.issuedAt p t).streamBit Fld.APPROACH_STATUS_ARMED p n.val = false) :
    exec (.arm p t n) s = .next ((s.issuedAt p t).startGang p n) := by
  have h := State.issue_free hr (.arm p t n) (fun s => s.armEffect p t n) (fun _ => false)
  rw [State.armEffect, ha] at h
  exact congrArg Host.Outcome.next h

/-- ARM starts the gang at its first tile (R190). -/
theorem runs_arm {n : Fin 16} (ha : (s.issuedAt p t).streamBit Fld.APPROACH_STATUS_ARMED p n.val = false) :
    Runs (.arm p t n) s (fun u => (u.gang (streamIx p n)).next = 0 ∧
      (∀ k, k < s.fld Fld.STREAM_DESC0_GANG (streamIx p n) → n.val + k < 16 →
        u.streamBit Fld.APPROACH_STATUS_ARMED p (n.val + k) = true ∧ u.streamBit Fld.APPROACH_STATUS_DONE p (n.val + k) = false) ∧
      (u.gang (streamIx p n)).reserved = (s.gang (streamIx p n)).reserved ∧ u.flight = s.flight ∧
      (∀ b, u.byte b = s.byte b)) := by
  have hgang : ((s.issuedAt p t).startGang p n).gang (streamIx p n) = ⟨0, (s.gang (streamIx p n)).reserved⟩ := by
    rw [State.gang_startGang, State.issuedAt_eq]; rfl
  have hsize : (s.issuedAt p t).fld Fld.STREAM_DESC0_GANG (streamIx p n) = s.fld Fld.STREAM_DESC0_GANG (streamIx p n) :=
    State.fld_issuedAt s p t _ (by decide) (by decide)
  exact ⟨_, exec_arm_ready hr ha, by rw [hgang], fun k hk hn => State.streamBit_startGang _ p n (hsize ▸ hk) hn,
    by rw [hgang], State.issuedAt_flight s p t, State.byte_issuedAt s p t⟩

/-- COPY of a descriptor that does not run (R274). -/
theorem exec_copy_ready {d : Fin 8} (hd : s.runDone p d = true) :
    exec (.copy p t d) s = .next ((s.issuedAt p t).setRun p d ⟨true, 0, none⟩) := by
  have h := State.issue_free hr (.copy p t d) (fun s => s.copyEffect p t d) (fun _ => false)
  rw [State.copyEffect, State.runDone_issuedAt, if_pos hd] at h
  exact congrArg Host.Outcome.next h

/-- CWAIT of a run that has ended without a fault (R274). -/
theorem exec_cwait_ready {d : Fin 8} (hd : s.runDone p d = true) (hf : (s.run p d).fault = none) :
    exec (.cwait p t d) s = .next (s.issuedAt p t) := by
  have hv : ((s.issuedAt p t).run p d).fault = none := by
    rw [State.issuedAt_eq]; exact hf
  have h := State.issue_item hr (.cwait p t d) (late := fun s => if s.runDone p d then none else some lateCopy) (if_pos hd)
    (fun s => s.cwaitEffect p t d) (fun _ => false)
  rw [State.cwaitEffect, hv] at h
  exact congrArg Host.Outcome.next h

end

/-- Settles O2: each instruction has its effect on the state whose slot has issued. -/
theorem regionAndEngineInstructionsRun : Obligations.RegionAndEngineInstructionsRun := by
  intro s p t hr
  refine ⟨fun c r tiles f exit off keep g hmet hd hrole hb => exec_inject_ready hr rfl hmet hd hrole hb,
    fun c r tiles f exit off keep g i x skew hmet hd hrole hb ht hn hfeed => ?_,
    fun r hh hl => exec_flip_ready hr hh hl, fun r count hl => exec_release_ready hr hl, fun n ha => runs_arm hr ha,
    fun d hd => exec_copy_ready hr hd, fun d hd hf => exec_cwait_ready hr hd hf⟩
  obtain ⟨u, hu, heffect⟩ := State.begin_openStream (.issuedFor ..) hn ht hfeed
  exact ⟨u, hu ▸ exec_inject_ready hr rfl hmet hd hrole hb, heffect⟩

end Sys2Proof.Machine
end

section
/-! PROOFS. The layout of VIADUCT_EXT (R138). -/
namespace Sys2Proof.Machine
open Sys2Proof

/-- The table of fields lists no value of NEXT and PREV as a reserved encoding, so it takes 12 to 14 for legal (R17, R138). -/
theorem extFld_legal (next : Bool) (g : Nat) : (extFld next g).legal = [(0, 15)] := by
  unfold extFld
  split <;> cases next <;> rfl

/-- Refutes O43: NEXT of segment 0 takes 12 for a legal value, where R138 reserves 12 to 14. -/
theorem not_viaductExtLayout : ¬ Obligations.ViaductExtLayout := by
  intro h
  obtain ⟨-, -, -, -, -, hlegal, -⟩ := h 0 true
  have h12 : (extFld true (0 : Fin 8).val).isLegal 12 = true := by
    rw [Fld.isLegal, extFld_legal]
    decide
  exact absurd ((hlegal 12 (by decide)).1 h12) (by decide)

end Sys2Proof.Machine
end

section
/-! PROOFS. What the register instructions of the vector unit leave unchanged (R146, R148, R151, R353, R362). -/
namespace Sys2Proof.Machine
open Sys2Proof

/-! VRNG by its forms: a use of its stream or free words, written in one register or in a pair. -/

/-- Every lane of register `vd`, and of the next one for a pair, is written, to be read 8 slots later (R362). -/
def State.writeDraws (s : State) (p : PierIx) (t : Nat) (pair : Prop) [Decidable pair] (vd : VReg) (xs ys : Lanes) : State :=
  let s1 := s.writeV p t 8 vd (BitVec.allOnes 128) xs
  if pair then s1.writeV p t 8 (nextReg vd) (BitVec.allOnes 128) ys else s1

/-- The lanes of free words from word `k` on (R362, R363). -/
def State.freeLanes (s : State) (k : Nat) : Lanes :=
  (List.range 128).map (fun l => laneUniform ((s.freeAt (k + l)).extractLsb' 0 32))

/-- The state in which a reproducible form has taken its use and counted its draws (R360, R372). -/
def State.tookUse (s : State) (p : PierIx) (n draws : Nat) : State := (s.takeUse p n).countDraws p draws

theorem State.vrngEffect_repro (s : State) (p : PierIx) (t : Nat) {form : Fin 4} (hf : form.val < 2) (vd : VReg) (stream : Fin 64) :
    s.vrngEffect p t form vd stream =
      let u := s.tookUse p stream.val (if form.val % 2 = 1 then 64 else 32)
      u.writeDraws p t (form.val % 2 = 1) vd (u.uniform p stream.val (s.useOf p stream.val) 0)
        (u.uniform p stream.val (s.useOf p stream.val) 32) :=
  if_pos hf

theorem State.vrngEffect_wide (s : State) (p : PierIx) (t : Nat) {form : Fin 4} (hf : ¬ form.val < 2) (vd : VReg) (stream : Fin 64) :
    s.vrngEffect p t form vd stream = (s.skipFree (if form.val % 2 = 1 then 256 else 128)).writeDraws p t (form.val % 2 = 1) vd
      (s.freeLanes 0) (s.freeLanes 128) :=
  if_neg hf

/-! The frame of the register instructions. -/

/-- `u` is `s` but for registers, the count of free values and pier `p`: what the register instructions of the vector unit write. -/
structure State.OnlyPier (s u : State) (p : PierIx) : Prop where
  eq : u = { s with regs := u.regs, piers := u.piers, freeCtr := u.freeCtr }
  other : ∀ q, q ≠ p → u.pier q = s.pier q

namespace State.OnlyPier

theorem refl (s : State) (p : PierIx) : s.OnlyPier s p := ⟨rfl, fun _ _ => rfl⟩

section
variable {s u : State} {p : PierIx} {t : Nat} (h : s.OnlyPier u p)
include h

theorem setFld (f : Fld) (i v : Nat) : s.OnlyPier (u.setFld f i v) p :=
  ⟨by rw [h.eq]; rfl, h.other⟩

theorem setPier (x : Pier) : s.OnlyPier (u.setPier p x) p :=
  ⟨by rw [h.eq]; rfl, fun q hq => (State.pier_setPier_other u x hq).trans (h.other q hq)⟩

theorem skipFree (n : Nat) : s.OnlyPier (u.skipFree n) p :=
  ⟨by rw [h.eq]; rfl, h.other⟩

theorem readV (v : VReg) : s.OnlyPier (u.readV p t v).2 p := by
  unfold State.readV
  split
  · exact h.skipFree 128
  · exact h

theorem readM (m : MReg) : s.OnlyPier (u.readM p t m).2 p := by
  unfold State.readM
  split
  · exact h.skipFree 2
  · exact h

theorem enable (m : Option MReg) : s.OnlyPier (u.enable p t m).2 p :=
  match m with
  | none => h
  | some k => h.readM k

theorem freeBits (n : Nat) : s.OnlyPier (u.freeBits n).2 p := h.skipFree n

theorem writeV (lat : Nat) (v : VReg) (en : BitVec 128) (xs : Lanes) : s.OnlyPier (u.writeV p t lat v en xs) p := h.setPier _

theorem writeM (lat : Nat) (m : MReg) (en bits : BitVec 128) : s.OnlyPier (u.writeM p t lat m en bits) p := h.setPier _

/-- A step that is taken in one case alone. -/
theorem optional {α : Type} {c : Prop} [Decidable c] {x : α × State} (hx : s.OnlyPier x.2 p) (a : α) :
    s.OnlyPier (if c then x else (a, u)).2 p := by
  split
  · exact hx
  · exact h

theorem varithEffect (fn : VArith) (vd va vb vc : VReg) (mask : Option MReg) :
    s.OnlyPier (u.varithEffect p t fn vd va vb vc mask) p :=
  have hread := (h.readV va).readV vb
  have hthird := hread.optional (hread.readV vc) []
  ((hthird.optional (hthird.freeBits 128) []).enable mask).writeV ..

theorem vcmpEffect (fn : VCmp) (md : MReg) (va vb : VReg) (mask : Option MReg) :
    s.OnlyPier (u.vcmpEffect p t fn md va vb mask) p :=
  (((h.readV va).readV vb).enable mask).writeM ..

theorem vselEffect (vd va vb : VReg) (sel : MReg) : s.OnlyPier (u.vselEffect p t vd va vb sel) p :=
  (((h.readV va).readV vb).readM sel).writeV ..

theorem vsfuEffect (fn : VSfu) (vd va : VReg) (mask : Option MReg) : s.OnlyPier (u.vsfuEffect p t fn vd va mask) p :=
  ((h.readV va).enable mask).writeV ..

theorem vredEffect (isMax : Bool) (vd va : VReg) (mask : Option MReg) : s.OnlyPier (u.vredEffect p t isMax vd va mask) p :=
  have hread := h.readV va
  ((hread.optional (hread.freeBits 128) []).enable mask).writeV ..

theorem writeDraws {pair : Prop} [Decidable pair] (vd : VReg) (xs ys : Lanes) :
    s.OnlyPier (u.writeDraws p t pair vd xs ys) p := by
  unfold State.writeDraws
  dsimp only
  split
  · exact (h.writeV ..).writeV ..
  · exact h.writeV ..

theorem vrngEffect (form : Fin 4) (vd : VReg) (stream : Fin 64) : s.OnlyPier (u.vrngEffect p t form vd stream) p := by
  by_cases hf : form.val < 2
  · rw [State.vrngEffect_repro u p t hf]
    exact ((h.setFld ..).setFld ..).writeDraws ..
  · rw [State.vrngEffect_wide u p t hf]
    exact (h.skipFree _).writeDraws ..

end

end State.OnlyPier

/-! The issue of the instructions. -/

section
variable {s : State} {p : PierIx} {t : Nat} (hr : s.readyAt p t)
include hr

/-- The issue of a vector instruction whose needs are met: its effect on the state whose slot has issued. -/
theorem State.issueV_ready (i : Instr) {needs : State → Needs} (hn : (needs s).met s p t) (effect : State → State) :
    s.issueV false i p t needs effect = effect (s.issuedVFor p t (needs s)) :=
  State.issue_ready hr i hn _ _

/-- The issue of a vector instruction that needs one item and no beat. -/
theorem State.issueV_item (i : Instr) {late : State → Option Late} (hl : late s = none) (effect : State → State) :
    s.issueV false i p t (fun s => Needs.item (late s)) effect = effect (s.issuedV p t) :=
  State.issueV_ready hr i ⟨hl, rfl, rfl⟩ effect

theorem exec_vrng_ready (form : Fin 4) (vd : VReg) (stream : Fin 64) :
    exec (.vrng p t form vd stream) s = .next ((s.issuedV p t).vrngEffect p t form vd stream) :=
  congrArg Host.Outcome.next (State.issueV_free hr _ _)

theorem exec_uscal_ready (vd : VReg) (g : Fin 8) (i : Nat) :
    exec (.uscal p t vd g i) s = .next ((s.issuedV p t).writeV p t 4 vd (BitVec.allOnes 128)
      (List.replicate 128 ((s.issuedV p t).scalar p g i))) :=
  congrArg Host.Outcome.next (State.issueV_free hr _ _)

/-- VLDC with its lines in the pier cache (R150, R302). -/
theorem exec_vldc_ready (vd : VReg) {offset : Nat} {f : Fmt}
    (hc : ∀ l ∈ vldcLines offset f, ((s.pier p).cacheLine l).isSome = true) :
    exec (.vldc p t vd offset f) s = .next ((s.issuedV p t).vldcEffect p t vd offset f) := by
  have hlate : (if (vldcLines offset f).all (fun l => ((s.pier p).cacheLine l).isSome) then none else some lateBundle) = none :=
    if_pos (List.all_eq_true.2 hc)
  exact congrArg Host.Outcome.next (State.issueV_item hr _ (late := fun s =>
    if (vldcLines offset f).all (fun l => ((s.pier p).cacheLine l).isSome) then none else some lateBundle) hlate _)

end

/-- The issue of a slot changes no pier of another stall domain. -/
theorem State.pier_issuedAt_of_domOf_ne (s : State) {p q : PierIx} (t : Nat) (hq : s.domOf q ≠ s.domOf p) :
    (s.issuedAt p t).pier q = s.pier q := by
  unfold State.issuedAt State.slotIssued
  refine List.foldlRecOn (motive := fun u : State => u.pier q = s.pier q) _ _ rfl (fun u hu x hx => ?_)
  have hdom : s.domOf x = s.domOf p := by
    have hmem := (List.mem_filter.1 (List.mem_filter.1 hx).1).2
    simpa using hmem
  have hne : q ≠ x := fun h => hq (h ▸ hdom)
  simp only [State.pierSlot, State.pier_setFld]
  rw [State.pier_setPier_other _ _ hne, hu]

/-- Settles O55: each of these instructions has its effect on the state whose slot has issued, and the effect writes registers, free values
and its own pier alone. -/
theorem vectorInstructionFrame : Obligations.VectorInstructionFrame := by
  intro s u p t c hr hc hu
  have hkept : (s.issuedV p t).OnlyPier u p := by
    have hself := State.OnlyPier.refl (s.issuedV p t) p
    have hnext {v : State} (hv : exec c s = .next v) (h : (s.issuedV p t).OnlyPier v p) : (s.issuedV p t).OnlyPier u p := by
      obtain rfl : v = u := by simpa [hv] using hu
      exact h
    obtain ⟨fn, vd, va, vb, vc, m, rfl⟩ | ⟨fn, md, va, vb, m, rfl⟩ | ⟨vd, va, vb, sel, rfl⟩ | ⟨fn, vd, va, m, rfl⟩ |
      ⟨b, vd, va, m, rfl⟩ | ⟨form, vd, st, rfl⟩ | ⟨vd, g, i, rfl⟩ := hc
    · exact hnext (exec_varith_ready hr ..) (hself.varithEffect ..)
    · exact hnext (exec_vcmp_ready hr ..) (hself.vcmpEffect ..)
    · exact hnext (exec_vsel_ready hr ..) (hself.vselEffect ..)
    · exact hnext (exec_vsfu_ready hr ..) (hself.vsfuEffect ..)
    · exact hnext (exec_vred_ready hr ..) (hself.vredEffect ..)
    · exact hnext (exec_vrng_ready hr ..) (hself.vrngEffect ..)
    · exact hnext (exec_uscal_ready hr ..) (hself.writeV ..)
  have heq : u = { s with regs := u.regs, piers := u.piers, freeCtr := u.freeCtr } := by
    rw [hkept.eq, State.issuedV, State.issuedAt_eq]
    rfl
  refine ⟨by rw [heq], by rw [heq], by rw [heq], by rw [heq], by rw [heq], by rw [heq], by rw [heq], by rw [heq], by rw [heq],
    fun q hq => ?_, fun q hq => ?_⟩
  · have hne : q ≠ p := fun h => hq (h ▸ rfl)
    rw [hkept.other q hne, State.pier_issuedV, State.pier_issuedAt_of_domOf_ne s t hq]
  · rw [hkept.other q hq, State.pier_issuedV]
    exact State.pier_issuedAt s p t q

end Sys2Proof.Machine
end

section
/-! PROOFS. VRNG, VLDC and USCAL in a slot that issues (R150, R353, R360, R362, R363). -/
namespace Sys2Proof.Machine
open Sys2Proof

/-- The write of a run leaves what lies beside it. -/
theorem NMap.slice_putRun_other {α : Type} [DecidableEq α] (d : Nat → α) (m : NMap α) {k lo n : Nat} (vs : List α)
    (h : lo + n ≤ k ∨ k + vs.length ≤ lo) : (m.putRun d k vs).slice d lo n = m.slice d lo n := by
  have hrun : (NMap.run d k vs).filter (fun e => lo ≤ e.1 && e.1 < lo + n) = [] :=
    List.filter_eq_nil_iff.2 (fun e he => by
      have := (NMap.run_spec d vs k).2 e he
      simp
      omega)
  have hkeep (g : Nat × α → Bool) (hg : ∀ e : Nat × α, lo ≤ e.1 → e.1 < lo + n → g e = true) :
      m.filter (fun e => (lo ≤ e.1 && e.1 < lo + n) && g e) = m.filter (fun e => lo ≤ e.1 && e.1 < lo + n) :=
    List.filter_congr (fun e _ => by simpa using hg e)
  have hdrop (g : Nat × α → Bool) (hg : ∀ e : Nat × α, lo ≤ e.1 → e.1 < lo + n → g e = false) :
      m.filter (fun e => (lo ≤ e.1 && e.1 < lo + n) && g e) = [] :=
    List.filter_eq_nil_iff.2 (fun e _ => by simpa using hg e)
  unfold NMap.slice NMap.putRun
  rw [List.filter_append, List.filter_append, hrun, List.append_nil, List.filter_filter, List.filter_filter]
  rcases h with h | h
  · rw [hkeep _ (fun e _ _ => decide_eq_true (by omega)), hdrop _ (fun e _ _ => decide_eq_false (by omega)), List.append_nil]
  · rw [hdrop _ (fun e _ _ => decide_eq_false (by omega)), hkeep _ (fun e _ _ => decide_eq_true (by omega)), List.nil_append]

/-- The lanes of another vector register stay as they were. -/
theorem State.slice_writeV_other (s : State) (p : PierIx) (t lat : Nat) {v w : VReg} (h : v ≠ w) (en : BitVec 128) (xs : Lanes) :
    ((s.writeV p t lat w en xs).pier p).vregs.slice (fun _ => 0) (128 * v.val) 128 =
      (s.pier p).vregs.slice (fun _ => 0) (128 * v.val) 128 := by
  have hne : v.val ≠ w.val := fun e => h (Fin.ext e)
  simp only [State.writeV, State.pier_setPier_same]
  refine NMap.slice_putRun_other _ _ _ ?_
  simp only [List.length_map, List.length_range]
  omega

/-- A write of one vector register leaves the results of the others where they are. -/
theorem State.readV_writeV_other (s : State) (p : PierIx) (t lat r : Nat) {v w : VReg} (h : v ≠ w) (en : BitVec 128) (xs : Lanes)
    (hv : s.notReady p r v.val = false) : ((s.writeV p t lat w en xs).readV p r v).1 = (s.readV p r v).1 := by
  have hnew : (s.writeV p t lat w en xs).notReady p r v.val = false := by
    have hne : w.val ≠ v.val := fun e => h (Fin.ext e.symm)
    simp only [State.notReady, List.any_eq_false] at hv
    simp only [State.notReady, State.writeV, State.pier_setPier_same, Pier.await, List.any_cons, Bool.or_eq_false_iff,
      List.any_eq_false]
    exact ⟨by simp [hne], fun e he => hv e (List.mem_filter.1 he).1⟩
  rw [State.readV_ready _ p r v hnew, State.readV_ready s p r v hv, State.slice_writeV_other s p t lat h]

/-- A register written in all its lanes reads as what was written, once its latency has passed. -/
theorem State.readV_writeV_all (s : State) (p : PierIx) (t lat : Nat) (v : VReg) (f : Nat → F32) :
    ((s.writeV p t lat v (BitVec.allOnes 128) ((List.range 128).map f)).readV p (t + lat) v).1 = (List.range 128).map f := by
  rw [State.readV_writeV]
  exact keepLanes_allOnes f _

/-- What is written to a register is on its way until its latency has passed, and no longer. -/
theorem State.notReady_writeV (s : State) (p : PierIx) (t lat : Nat) (v : VReg) (en : BitVec 128) (xs : Lanes) :
    (s.writeV p t lat v en xs).notReady p (t + lat) v.val = false := by
  simp only [State.notReady, State.writeV, State.pier_setPier_same, Pier.await, List.any_cons, Bool.or_eq_false_iff, List.any_eq_false]
  refine ⟨by simp, fun e he => ?_⟩
  have hmem := (List.mem_filter.1 he).2
  simp only [Bool.and_eq_true, bne_iff_ne] at hmem
  simp [hmem.1]

theorem nextReg_ne (v : VReg) : v ≠ nextReg v := by
  intro h
  have hval := congrArg Fin.val h
  simp only [nextReg] at hval
  omega

/-! What VRNG writes. -/

section
variable (s : State) (p : PierIx) (t : Nat) {pair : Prop} [Decidable pair] (vd : VReg) (f g : Nat → F32)

theorem State.readV_writeDraws (ys : Lanes) :
    ((s.writeDraws p t pair vd ((List.range 128).map f) ys).readV p (t + 8) vd).1 = (List.range 128).map f := by
  unfold State.writeDraws
  dsimp only
  split
  · rw [State.readV_writeV_other _ _ _ _ _ (nextReg_ne vd) _ _ (State.notReady_writeV ..), State.readV_writeV_all]
  · exact State.readV_writeV_all ..

theorem State.readV_writeDraws_next (hp : pair) (xs : Lanes) :
    ((s.writeDraws p t pair vd xs ((List.range 128).map g)).readV p (t + 8) (nextReg vd)).1 = (List.range 128).map g := by
  unfold State.writeDraws
  rw [if_pos hp]
  exact State.readV_writeV_all ..

theorem State.slice_writeDraws_other (hp : ¬ pair) {v : VReg} (hv : v ≠ vd) (xs ys : Lanes) :
    ((s.writeDraws p t pair vd xs ys).pier p).vregs.slice (fun _ => 0) (128 * v.val) 128 =
      (s.pier p).vregs.slice (fun _ => 0) (128 * v.val) 128 := by
  unfold State.writeDraws
  rw [if_neg hp]
  exact State.slice_writeV_other s p t 8 hv _ _

/-- The write of draws changes piers alone. -/
theorem State.writeDraws_eq (xs ys : Lanes) :
    s.writeDraws p t pair vd xs ys = { s with piers := (s.writeDraws p t pair vd xs ys).piers } := by
  unfold State.writeDraws
  dsimp only
  split <;> rfl

@[simp] theorem State.fld_writeDraws (xs ys : Lanes) (h : Fld) (i : Nat) : (s.writeDraws p t pair vd xs ys).fld h i = s.fld h i := by
  rw [State.writeDraws_eq]; rfl

@[simp] theorem State.writeDraws_freeCtr (xs ys : Lanes) : (s.writeDraws p t pair vd xs ys).freeCtr = s.freeCtr := by
  rw [State.writeDraws_eq]

@[simp] theorem State.writeDraws_flight (xs ys : Lanes) : (s.writeDraws p t pair vd xs ys).flight = s.flight := by
  rw [State.writeDraws_eq]

@[simp] theorem State.byte_writeDraws (xs ys : Lanes) (b : Nat) : (s.writeDraws p t pair vd xs ys).byte b = s.byte b := by
  rw [State.writeDraws_eq]; rfl

end

@[simp] theorem State.tookUse_freeCtr (s : State) (p : PierIx) (n draws : Nat) : (s.tookUse p n draws).freeCtr = s.freeCtr := by
  simp only [State.tookUse, State.takeUse, State.countDraws, State.wrapAdd_freeCtr]

@[simp] theorem State.byte_tookUse (s : State) (p : PierIx) (n draws b : Nat) : (s.tookUse p n draws).byte b = s.byte b := by
  simp only [State.tookUse, State.takeUse, State.countDraws, State.byte_wrapAdd]

@[simp] theorem State.issuedV_freeCtr (s : State) (p : PierIx) (t : Nat) : (s.issuedV p t).freeCtr = s.freeCtr :=
  State.issuedAt_freeCtr s p t

@[simp] theorem State.issuedV_flight (s : State) (p : PierIx) (t : Nat) : (s.issuedV p t).flight = s.flight :=
  State.issuedAt_flight s p t

@[simp] theorem State.byte_issuedV (s : State) (p : PierIx) (t b : Nat) : (s.issuedV p t).byte b = s.byte b :=
  State.byte_issuedAt s p t b

/-! The draws do not depend on what the issue of a slot and the use of a stream write. -/

/-- The issue of a slot leaves a field of PCTL_STATUS beside LOOP_DEPTH (R314). -/
theorem State.fld_pctlStatus_issuedAt (s : State) (p : PierIx) (t : Nat) {f : Fld} (i : Nat) (hreg : f.reg = .pctlStatus)
    (hf : f.lo + f.width ≤ 64) (hd : f.lo + f.width ≤ Fld.PCTL_STATUS_LOOP_DEPTH.lo ∨
      Fld.PCTL_STATUS_LOOP_DEPTH.lo + Fld.PCTL_STATUS_LOOP_DEPTH.width ≤ f.lo) : (s.issuedAt p t).fld f i = s.fld f i := by
  unfold State.issuedAt State.slotIssued
  refine foldl_keeps (fun u => u.fld f i = s.fld f i) _ (fun u x hu => ?_) _ _ rfl
  have hslot : f.reg ≠ Fld.PCTL_SLOT_SLOT.reg := by rw [hreg]; decide
  simp only [State.pierSlot]
  rw [State.fld_setFld_reg _ _ (fun h => hslot h.1), State.fld_setFld_field _ _ hf hd]
  exact hu

/-- A draw hangs on the seed of its stream, the step, the shard, the logical number of the pier and the mark of an evaluation (R358). -/
theorem State.drawOf_congr {s u : State} {p : PierIx} {n : Nat} (hseed : u.reg .rngSeed (rngIx p n) = s.reg .rngSeed (rngIx p n))
    (hstep : u.launchStep = s.launchStep) (hstatus : u.reg .rngStatus p.val = s.reg .rngStatus p.val)
    (hlogical : u.fld Fld.PCTL_STATUS_LOGICAL p.val = s.fld Fld.PCTL_STATUS_LOGICAL p.val) (use block : Nat) :
    u.drawOf p n use block = s.drawOf p n use block := by
  have hshard : u.fld Fld.RNG_STATUS_SHARD p.val = s.fld Fld.RNG_STATUS_SHARD p.val := congrArg Fld.RNG_STATUS_SHARD.ofWord hstatus
  have heval : u.fld Fld.RNG_STATUS_EVAL p.val = s.fld Fld.RNG_STATUS_EVAL p.val := congrArg Fld.RNG_STATUS_EVAL.ofWord hstatus
  simp only [State.drawOf, hseed, hstep, hlogical, hshard, heval]

theorem State.uniform_congr {s u : State} {p : PierIx} {n : Nat} (h : ∀ use block, u.drawOf p n use block = s.drawOf p n use block)
    (use b : Nat) : u.uniform p n use b = s.uniform p n use b := by
  simp only [State.uniform, h]

/-- A register that neither the issue of a vector instruction nor a use writes. -/
theorem State.reg_tookUse_issuedV (s : State) (p : PierIx) (t n draws : Nat) {r : RegName} (i : Nat)
    (hr : r ∉ [RegName.pctlStatus, .pctlSlot, .vecCount, .rngUse, .rngCount]) :
    ((s.issuedV p t).tookUse p n draws).reg r i = s.reg r i := by
  simp only [List.mem_cons, List.not_mem_nil, or_false, not_or] at hr
  obtain ⟨hstatus, hslot, hvec, huse, hcount⟩ := hr
  have hset (u : State) (f : Fld) (k v : Nat) (hf : r ≠ f.reg) : (u.setFld f k v).reg r i = u.reg r i :=
    (State.reg_setFld ..).trans (if_neg (fun h => hf h.1))
  simp only [State.tookUse, State.takeUse, State.countDraws, State.issuedV, State.vecBusy, State.wrapAdd]
  rw [hset _ _ _ _ hcount, hset _ _ _ _ huse, hset _ _ _ _ hvec]
  exact State.reg_slotIssued s _ t i hstatus hslot

theorem State.uniform_tookUse_issuedV (s : State) (p : PierIx) (t n draws use b : Nat) :
    ((s.issuedV p t).tookUse p n draws).uniform p n use b = s.uniform p n use b := by
  have hlogical : ((s.issuedV p t).tookUse p n draws).fld Fld.PCTL_STATUS_LOGICAL p.val = s.fld Fld.PCTL_STATUS_LOGICAL p.val := by
    simp only [State.tookUse, State.takeUse, State.countDraws, State.issuedV, State.vecBusy, State.wrapAdd]
    rw [State.fld_setFld_reg _ _ (fun h => absurd h.1 (by decide)), State.fld_setFld_reg _ _ (fun h => absurd h.1 (by decide)),
      State.fld_setFld_reg _ _ (fun h => absurd h.1 (by decide))]
    exact State.fld_pctlStatus_issuedAt s p t _ rfl (by decide) (by decide)
  have hstep : ((s.issuedV p t).tookUse p n draws).launchStep = s.launchStep := by
    simp only [State.tookUse, State.takeUse, State.countDraws, State.issuedV, State.vecBusy, State.wrapAdd_launchStep]
    rw [State.issuedAt_eq]
  exact State.uniform_congr (State.drawOf_congr (State.reg_tookUse_issuedV s p t n draws _ (by decide)) hstep
    (State.reg_tookUse_issuedV s p t n draws _ (by decide)) hlogical) use b

theorem State.fld_rngUse_issuedV (s : State) (p : PierIx) (t i : Nat) :
    (s.issuedV p t).fld Fld.RNG_USE_USE i = s.fld Fld.RNG_USE_USE i :=
  State.fld_issuedV s p t i (by decide) (by decide) (by decide)

/-- A use advances USE, which wraps (R360). -/
theorem State.fld_rngUse_tookUse (s : State) (p : PierIx) (n draws : Nat) :
    (s.tookUse p n draws).fld Fld.RNG_USE_USE (rngIx p n) =
      (s.fld Fld.RNG_USE_USE (rngIx p n) + 1) % 2 ^ Fld.RNG_USE_USE.width := by
  simp only [State.tookUse, State.takeUse, State.countDraws, State.wrapAdd]
  rw [State.fld_setFld_reg _ _ (fun h => absurd h.1 (by decide)), State.fld_setFld_same _ _ _ _ (by decide)]

/-- A reproducible form of VRNG takes one use of its stream and leaves free values and memory alone. -/
theorem State.vrngEffect_issuedV_repro (s : State) (p : PierIx) (t : Nat) {form : Fin 4} (hf : form.val < 2) (vd : VReg)
    (stream : Fin 64) : let u := (s.issuedV p t).vrngEffect p t form vd stream
    u.fld Fld.RNG_USE_USE (rngIx p stream.val) = (s.fld Fld.RNG_USE_USE (rngIx p stream.val) + 1) % 2 ^ Fld.RNG_USE_USE.width ∧
    (u.readV p (t + 8) vd).1 = s.uniform p stream.val (s.useOf p stream.val) 0 ∧
    (form.val % 2 = 1 → (u.readV p (t + 8) (nextReg vd)).1 = s.uniform p stream.val (s.useOf p stream.val) 32) ∧
    u.freeCtr = s.freeCtr ∧ ∀ b, u.byte b = s.byte b := by
  have huse : (s.issuedV p t).useOf p stream.val = s.useOf p stream.val := State.fld_rngUse_issuedV ..
  rw [State.vrngEffect_repro _ p t hf]
  simp only [State.uniform_tookUse_issuedV, huse, State.fld_writeDraws, State.fld_rngUse_tookUse, State.fld_rngUse_issuedV,
    State.writeDraws_freeCtr, State.tookUse_freeCtr, State.issuedV_freeCtr, State.byte_writeDraws, State.byte_tookUse,
    State.byte_issuedV]
  exact ⟨trivial, State.readV_writeDraws .., fun hp => State.readV_writeDraws_next _ _ _ _ _ hp _, trivial, fun _ => trivial⟩

/-- A wide form of VRNG draws a free value for each lane that it writes, and no use. -/
theorem State.vrngEffect_issuedV_wide (s : State) (p : PierIx) (t : Nat) {form : Fin 4} (hf : ¬ form.val < 2) (vd : VReg)
    (stream : Fin 64) : let u := (s.issuedV p t).vrngEffect p t form vd stream
    (u.readV p (t + 8) vd).1 = s.freeLanes 0 ∧
    (form.val % 2 = 1 → (u.readV p (t + 8) (nextReg vd)).1 = s.freeLanes 128) ∧
    (¬ form.val % 2 = 1 → ∀ v : VReg, v ≠ vd → (u.pier p).vregs.slice (fun _ => 0) (128 * v.val) 128 =
      (s.pier p).vregs.slice (fun _ => 0) (128 * v.val) 128) ∧
    u.freeCtr = s.freeCtr + (if form.val % 2 = 1 then 256 else 128) ∧
    u.fld Fld.RNG_USE_USE (rngIx p stream.val) = s.fld Fld.RNG_USE_USE (rngIx p stream.val) ∧
    u.flight = s.flight ∧ ∀ b, u.byte b = s.byte b := by
  have hfree (k : Nat) : (s.issuedV p t).freeLanes k = s.freeLanes k := by
    simp only [State.freeLanes, State.freeAt, State.issuedV_freeCtr]
  rw [State.vrngEffect_wide _ p t hf]
  simp only [hfree, State.fld_writeDraws, State.writeDraws_freeCtr, State.writeDraws_flight, State.byte_writeDraws]
  refine ⟨State.readV_writeDraws .., fun hp => State.readV_writeDraws_next _ _ _ _ _ hp _, fun hp v hv => ?_,
    congrArg (· + _) (State.issuedV_freeCtr s p t), State.fld_rngUse_issuedV .., State.issuedV_flight .., State.byte_issuedV s p t⟩
  rw [State.slice_writeDraws_other _ _ _ _ hp hv]
  exact congrArg (fun x : NMap F32 => x.slice (fun _ => 0) (128 * v.val) 128) (State.vecAgrees_issuedV s p t).vregs

/-- Settles O5: each instruction has its effect on the state whose slot has issued, where the draws, the free values, the cache and the
scalars are those of the state before. -/
theorem vectorSourcesRun : Obligations.VectorSourcesRun := by
  intro s p t vd hr
  have h : s.VecAgrees (s.issuedV p t) p := State.vecAgrees_issuedV s p t
  refine ⟨fun stream => ?_, fun stream => ?_, fun form stream hform => ?_, fun offset f hc => ?_, fun g i => ?_⟩
  · obtain ⟨huse, hread, -, hkept⟩ := State.vrngEffect_issuedV_repro s p t (form := 0) (by decide) vd stream
    exact ⟨_, exec_vrng_ready hr .., huse, hread, hkept⟩
  · obtain ⟨huse, hread, hnext, hkept⟩ := State.vrngEffect_issuedV_repro s p t (form := 1) (by decide) vd stream
    exact ⟨_, exec_vrng_ready hr .., huse, hread, hnext (by decide), hkept⟩
  · obtain ⟨hread, hnext, hother, hctr, hkept⟩ := State.vrngEffect_issuedV_wide s p t (Nat.not_lt.2 hform) vd stream
    have hodd : form.val % 2 = 1 ↔ form.val = 3 := by omega
    simp only [hodd] at hnext hother hctr
    exact ⟨_, exec_vrng_ready hr .., hread, hnext, fun h2 => hother (by omega), hctr, hkept⟩
  · refine ⟨_, exec_vldc_ready hr vd hc, ?_, h.flight, h.byte⟩
    have hcache (b : Nat) : ((s.issuedV p t).pier p).cacheByte b = (s.pier p).cacheByte b := by
      rw [State.pier_issuedV, State.pier_issuedAt]
      rfl
    simp only [State.vldcEffect, hcache]
    exact State.readV_writeV_all ..
  · refine ⟨_, exec_uscal_ready hr .., ?_, h.flight, h.byte⟩
    have hscalar : (s.issuedV p t).scalar p g i = s.scalar p g i := by
      rw [State.scalar, State.pier_issuedV, State.pier_issuedAt]
      rfl
    have hconst : (List.range 128).map (fun _ => s.scalar p g i) = List.replicate 128 (s.scalar p g i) := by
      rw [List.map_const', List.length_range]
    rw [hscalar, ← hconst]
    exact State.readV_writeV_all ..

end Sys2Proof.Machine
end

section
/-! PROOFS. Reservations, produced tiles and reads of tiles by the vector unit (R147, R155, R162, R170). -/
namespace Sys2Proof.Machine
open Sys2Proof

/-- A reservation changes the pointers of its region and the record of its slot, nothing else of the state (R170). -/
theorem State.reserve_eq (s : State) (p : PierIx) (r : RegionIx) :
    s.reserve p r = { s with regions := (s.reserve p r).regions, slots := (s.reserve p r).slots } := by
  unfold State.reserve
  dsimp only
  split <;> rfl

/-- A pass over a list that adds a piece of work for each member adds them in order. -/
theorem State.foldl_addWork {α : Type} (g : α → Work) (l : List α) (s : State) :
    l.foldl (fun s x => s.addWork (g x)) s = { s with flight := s.flight ++ l.map g } := by
  induction l generalizing s with
  | nil => simp
  | cons x l ih =>
    rw [List.foldl_cons, ih]
    simp only [State.addWork, List.append_assoc, List.singleton_append, List.map_cons]

/-- The write of cycle `q` of a produced tile in slot `k`, `n` rows a cycle from slot `t` on (R165). -/
def tilePut (p : PierIx) (t n k : Nat) (x : Tile) (q : Nat) : Work :=
  newWork p (t + q) 1 (.put 4 k (((List.range n).map (n * q + ·)).map (fun r => (r, x.row r)))
    (putPorts k ((List.range n).map (n * q + ·))))

theorem State.putTile_eq (s : State) (p : PierIx) (t cycles n k : Nat) (x : Tile) :
    s.putTile p t cycles n k x = { s with flight := s.flight ++ (List.range cycles).map (tilePut p t n k x) } :=
  State.foldl_addWork (tilePut p t n k x) _ s

/-- A statistics tile takes its slot, is written in 16 cycles and lands in the 17th (R155; log 131). -/
theorem State.produce_eq (s : State) (p : PierIx) (r : RegionIx) (t : Nat) (x : Tile) :
    s.produce p r t x = { s.reserve p r with
      flight := s.flight ++ (List.range 16).map (tilePut p (t + 1) 4 (s.slotOf p r (s.reserveIx p r)) x) ++
        [newWork p (t + 17) 1 (.land r (s.reserveIx p r) x false)] } := by
  have hslot : (s.reserve p r).slotOf p r (s.reserveIx p r) = s.slotOf p r (s.reserveIx p r) := by
    rw [State.reserve_eq]
    rfl
  have hflight : (s.reserve p r).flight = s.flight := by rw [State.reserve_eq]
  simp only [State.produce, hslot, State.putTile_eq, State.addWork, hflight]
  rfl

namespace State.DeckKept

theorem setPier (s : State) (p : PierIx) (x : Pier) : s.DeckKept (s.setPier p x) := ⟨rfl, fun _ => rfl, List.Subset.refl _⟩

theorem vecBusy (s : State) (p : PierIx) : s.DeckKept (s.vecBusy p) := setFld s (by decide) _ _

theorem issuedVFor (s : State) (p : PierIx) (t : Nat) (x : Needs) : s.DeckKept (s.issuedVFor p t x) :=
  (issuedFor s p t x).trans (vecBusy ..)

theorem issuedV (s : State) (p : PierIx) (t : Nat) : s.DeckKept (s.issuedV p t) := issuedVFor s p t Needs.nothing

theorem countSkew (s : State) (p : PierIx) (tag : Nat) : s.DeckKept (s.countSkew p tag) := notify ..

theorem vecSkew (s : State) (p : PierIx) (tag : Nat) : s.DeckKept (s.vecSkew p tag) := by
  have hbump := bump s (f := Fld.VEC_COUNT_SKEW_COUNT) (by decide) p.val 1
  unfold State.vecSkew
  dsimp only
  split
  · exact hbump
  · exact hbump.trans ((setFld _ (by decide) _ _).trans (countSkew ..))

section
variable {s u : State} (h : s.DeckKept u)
include h

theorem regions : u.regions = s.regions := by rw [h.eq]

theorem byte (b : Nat) : u.byte b = s.byte b := congrArg (fun m : NMap Byte => m.look memDflt b) h.mem

theorem region (p : PierIx) (r : RegionIx) : u.region p r = s.region p r := by
  rw [State.region, h.regions]
  rfl

theorem halves (p : PierIx) (r : RegionIx) : u.halves p r = s.halves p r := by
  rw [State.halves, h.rdesc rfl]
  rfl

theorem rawMode (p : PierIx) (r : RegionIx) : u.rawMode p r = s.rawMode p r := by
  rw [State.rawMode, h.rdesc rfl]
  rfl

theorem halfSize (p : PierIx) (r : RegionIx) : u.halfSize p r = s.halfSize p r := by
  rw [State.halfSize, h.rdesc rfl]
  rfl

theorem reserveIx (p : PierIx) (r : RegionIx) : u.reserveIx p r = s.reserveIx p r := by
  simp only [State.reserveIx, h.region, h.halves, h.rawMode, h.halfSize]

/-- A reservation moves the pointers of the region alike (R170). -/
theorem regions_reserve (p : PierIx) (r : RegionIx) : (u.reserve p r).regions = (s.reserve p r).regions := by
  simp only [State.reserve, h.region, h.halves, h.rawMode, h.rdesc (f := Fld.REGION_DESC_SIZE) rfl]
  split
  · simp only [State.setRegion, State.setSlot, h.regions]
  · simp only [State.setRegion, State.setSlot, h.regions]

theorem pendingRel (p : PierIx) (r : RegionIx) (t : Nat) : u.pendingRel p r t = s.pendingRel p r t := by
  simp only [State.pendingRel, h.halves, h.flight]

/-- With the records of the slots as they were, a read of a region goes to the same tile (R170, R173). -/
theorem readIx (hslots : u.slots = s.slots) (p : PierIx) (r : RegionIx) (d t : Nat) : u.readIx p r d t = s.readIx p r d t := by
  have hslot (k : Nat) : u.slot p k = s.slot p k := congrArg (fun m : NMap SlotRec => m.look (fun _ => SlotRec.init) (slotIx p k)) hslots
  simp only [State.readIx, State.readAtIn, State.readAt, h.pendingRel, h.region, h.halves, h.rawMode, h.halfSize,
    h.rdesc (f := Fld.REGION_DESC_SIZE) rfl, h.slotOf, hslot]

end

end State.DeckKept

/-! Reads leave the piers alone. -/

theorem State.piers_flagEvent (s : State) (f : Fld) (i : Nat) (c : Code) (srcKind srcIndex detail : Nat) :
    (s.flagEvent f i c srcKind srcIndex detail).piers = s.piers := by
  rw [State.flagEvent_eq]

theorem State.piers_eccRead (s : State) (p : PierIx) (k a n : Nat) : (s.eccRead p k a n).1.piers = s.piers := by
  simp only [State.eccRead]
  split
  · rfl
  · dsimp only
    split
    · rfl
    · rw [State.piers_flagEvent]
      rfl

theorem State.piers_noteRead (s : State) (p : PierIx) (r : RegionIx) (i : Nat) : (s.noteRead p r i).piers = s.piers := by
  have hecc := State.piers_eccRead s p (s.slotOf p r i) (deckSide p (s.slotOf p r i)) 256
  simp only [State.noteRead]
  split
  · exact hecc
  · split
    · exact hecc
    · split
      · simp only [State.bump_piers, State.setSlot_piers, hecc]
      · simp only [State.bump_piers, State.setSlot_piers, hecc]

theorem State.piers_vecSkew (s : State) (p : PierIx) (tag : Nat) : (s.vecSkew p tag).piers = s.piers := by
  simp only [State.vecSkew]
  split
  · rfl
  · rw [State.countSkew, State.notify_eq]
    rfl

/-- The vector unit reads rows of a tile that is there, without a double-bit error (R147, R162). -/
theorem State.vecRead_tile {s : State} (hn : s.noUe) {p : PierIx} {r : RegionIx} {d i : Nat} {f : Fmt} {x : Tile} {skew : Bool}
    (hfeed : s.vecFeed p r d f = .tile i x skew) (t r0 n : Nat) :
    ∃ u, s.vecRead p t r d f r0 n = (some x, u) ∧ s.DeckKept u ∧ u.piers = s.piers := by
  obtain ⟨v, hv, hkept, hpiers⟩ : ∃ v, (if skew then (s.noteRead p r i).vecSkew p x.stepTag.toNat else s.noteRead p r i) = v ∧
      s.DeckKept v ∧ v.piers = s.piers := by
    split
    · exact ⟨_, rfl, .trans (.noteRead ..) (.vecSkew ..), (State.piers_vecSkew ..).trans (State.piers_noteRead ..)⟩
    · exact ⟨_, rfl, .noteRead .., State.piers_noteRead ..⟩
  refine ⟨(v.eccRead p (s.slotOf p r i) (deckData p (s.slotOf p r i) + 128 * r0) (128 * n)).1, ?_, hkept.trans (.eccRead ..),
    (State.piers_eccRead ..).trans hpiers⟩
  simp only [State.vecRead, hfeed, hv, State.eccRead_snd_of_noUe (hkept.noUe hn), Bool.false_eq_true, if_false]

end Sys2Proof.Machine
end

section
/-! PROOFS. VLD, VST, VTRANS and UPD in a slot that issues (R147, R149, R165, R343). -/
namespace Sys2Proof.Machine
open Sys2Proof

/-! What the issue of a slot with beats leaves of a pier (R163, R166, R314). -/

/-- `y` is `x` but for the open loops, the stall, the cursor, the claims and the grants. -/
def Pier.IssueKept (x y : Pier) : Prop :=
  y = { x with loops := y.loops, stall := y.stall, cursor := y.cursor, claims := y.claims, grants := y.grants }

theorem Pier.IssueKept.trans {x y z : Pier} (h : x.IssueKept y) (k : y.IssueKept z) : x.IssueKept z :=
  Eq.trans k (by rw [h])

theorem State.issueKept_setPier (s : State) (p q : PierIx) {x : Pier} (h : (s.pier p).IssueKept x) :
    (s.pier q).IssueKept ((s.setPier p x).pier q) := by
  by_cases hq : q = p
  · subst hq
    rw [State.pier_setPier_same]
    exact h
  · rw [State.pier_setPier_other s x hq]
    rfl

theorem State.issueKept_grantPorts (s : State) (p : PierIx) (req : Nat) (ports : List Nat) (q : PierIx) :
    (s.pier q).IssueKept ((s.grantPorts p req ports).pier q) := by
  refine foldl_keeps (fun u => (s.pier q).IssueKept (u.pier q)) _ (fun u n hu => hu.trans ?_) _ _ rfl
  unfold State.grantPort
  split
  · rfl
  · dsimp only
    split
    · exact u.issueKept_setPier p q rfl
    · exact u.issueKept_setPier p q rfl

theorem State.issueKept_claim (s : State) (p : PierIx) (slot order : Nat) (ports : List Nat) (issued : Bool) (q : PierIx) :
    (s.pier q).IssueKept ((s.claim p slot order ports issued).pier q) := by
  unfold State.claim
  split
  · rfl
  · exact s.issueKept_setPier p q rfl

theorem State.issueKept_issuedFor (s : State) (p : PierIx) (t : Nat) (x : Needs) (q : PierIx) :
    (s.pier q).IssueKept ((s.issuedFor p t x).pier q) := by
  have hslot (u : State) : (u.pier q).IssueKept ((u.slotIssued (s.domOf p) t).pier q) := by
    rw [State.pier_slotIssued]
    rfl
  exact ((State.issueKept_claim ..).trans (State.issueKept_grantPorts ..)).trans (hslot _)

/-- The issue of a slot with the beats of a vector instruction leaves the vector registers alone (R151, R314). -/
theorem State.vecAgrees_issuedVFor (s : State) (p : PierIx) (t : Nat) (x : Needs) : s.VecAgrees (s.issuedVFor p t x) p := by
  have hkept := State.DeckKept.issuedVFor s p t x
  have hpier : (s.pier p).IssueKept ((s.issuedVFor p t x).pier p) := s.issueKept_issuedFor p t x p
  exact ⟨by rw [hpier], by rw [hpier], by rw [hpier], hkept.flight, hkept.byte⟩

/-- A read that leaves the piers alone leaves the vector registers alone. -/
theorem State.VecAgrees.of_deckKept {s u v : State} {p : PierIx} (h : s.VecAgrees u p) (hkept : u.DeckKept v)
    (hpiers : v.piers = u.piers) : s.VecAgrees v p := by
  have hpier : v.pier p = u.pier p := congrArg (fun m : NMap Pier => m.look (fun _ => Pier.init) p.val) hpiers
  exact ⟨by rw [hpier, h.vregs], by rw [hpier, h.masks], by rw [hpier, h.vready], hkept.flight.trans h.flight,
    fun b => (hkept.byte b).trans (h.byte b)⟩

/-! VLD. -/

theorem State.readV_addWork_fst (s : State) (w : Work) (p : PierIx) (t : Nat) (v : VReg) :
    ((s.addWork w).readV p t v).1 = (s.readV p t v).1 := by
  have hready : (s.addWork w).notReady p t v.val = s.notReady p t v.val := rfl
  unfold State.readV
  rw [hready]
  split
  · rfl
  · rfl

/-- VLD of a tile that is there writes the lanes of its part, and its read ends with the next slot (R147, R171). -/
theorem State.vldEffect_tile {s v : State} {p : PierIx} {t : Nat} (h : s.VecAgrees v p) (hn : v.noUe) {r : RegionIx} {f : Fmt} {i : Nat}
    {x : Tile} {skew : Bool} (hfeed : v.vecFeed p r 0 f = .tile i x skew) (vd : VReg) (part : Nat) (keep : Bool) {mask : Option MReg}
    (hm : ∀ k, mask = some k → s.notReady p t (64 + k.val) = false) :
    let u := v.vldEffect p t vd r part keep f mask
    (u.readV p (t + 10) vd).1 = keepLanes (s.enable p t mask).1 (partLanes f x part)
      ((s.pier p).vregs.slice (fun _ => 0) (128 * vd.val) 128) ∧
    u.flight = s.flight ++ [newWork p (t + 1) 1 (.readEnd r (!keep))] ∧ ∀ b, u.byte b = s.byte b := by
  obtain ⟨w, hw, hkept, hpiers⟩ := State.vecRead_tile hn hfeed t (128 / f.cols * part) (128 / f.cols)
  have hagrees := h.of_deckKept hkept hpiers
  simp only [State.vldEffect, hw, hagrees.enable hm]
  refine ⟨?_, congrArg (· ++ _) hagrees.flight, hagrees.byte⟩
  rw [State.readV_addWork_fst, State.readV_writeV, hagrees.vregs]
  rfl

/-! VST. -/

/-- The tile that VSTs are building in a region, or the one that a first VST opens (R147). -/
def State.buildOf (s : State) (p : PierIx) (r : RegionIx) (f : Fmt) : Build :=
  ((s.pier p).build r).getD ⟨r, s.reserveIx p r, f, vecTile f s.stepNo⟩

/-- The first VST of a tile opens it and reserves its slot; the others go on with it. -/
theorem State.openBuild_eq (s : State) (p : PierIx) (r : RegionIx) (f : Fmt) :
    s.openBuild p r f = (s.buildOf p r f, if ((s.pier p).build r).isSome then s else s.reserve p r) := by
  unfold State.openBuild State.buildOf
  cases (s.pier p).build r <;> rfl

theorem Pier.build_region {x : Pier} {r : RegionIx} {b : Build} (h : x.build r = some b) : b.region = r := by
  simpa using List.find?_some h

theorem State.buildOf_region (s : State) (p : PierIx) (r : RegionIx) (f : Fmt) : (s.buildOf p r f).region = r := by
  unfold State.buildOf
  cases h : (s.pier p).build r with
  | none => rfl
  | some b => exact Pier.build_region h

/-- With the tile of a region taken from the list of what is being built, the region has none, or the one that is put back. -/
theorem Pier.build_replace (x : Pier) {r : RegionIx} {l : List Build} (hl : ∀ b ∈ l, b.region = r) :
    Pier.build { x with builds := x.builds.filter (fun e => e.region != r) ++ l } r = l.head? := by
  have hrest : (x.builds.filter (fun e => e.region != r)).find? (fun b => b.region = r) = none :=
    List.find?_eq_none.2 (fun b hb => by simpa using (List.mem_filter.1 hb).2)
  simp only [Pier.build, List.find?_append, hrest, Option.none_or]
  cases l with
  | nil => rfl
  | cons b l => simp [hl b (List.mem_cons_self ..)]

/-- The write of the rows of part `q` of a tile that VST stores, 5 slots after its issue (R147; log 65). -/
def vstPut (p : PierIx) (t : Nat) (f : Fmt) (part k : Nat) (tile : Tile) : Work :=
  newWork p (t + 5) 1 (.put 4 k ((partRows f part).map (fun n => (n, tile.row n))) (putPorts k (partRows f part)))

/-- The tile of a region with the enabled lanes of a register stored in one of its parts (R146, R147). -/
def Build.stored (b : Build) (f : Fmt) (part : Nat) (en : BitVec 128) (xs : Lanes) : Tile :=
  storePart f b.tile part (mergeLanes f b.tile part en xs)

/-- VST with its register and mask at hand: what it writes, beside the tile's slot that a first VST reserves. -/
theorem State.vstEffect_ready {s v : State} {p : PierIx} {t : Nat} (h : s.VecAgrees v p) {va : VReg}
    (ha : s.notReady p t va.val = false) {mask : Option MReg} (hm : ∀ k, mask = some k → s.notReady p t (64 + k.val) = false)
    (r : RegionIx) (part : Nat) (last : Bool) (f : Fmt) :
    let b := v.buildOf p r f
    let tile := b.stored f part (s.enable p t mask).1 (s.readV p t va).1
    let u := v.vstEffect p t va r part last f mask
    u.regions = (if ((v.pier p).build r).isSome then v.regions else (v.reserve p r).regions) ∧
    (u.pier p).build r = (if last then none else some { b with tile := tile }) ∧
    u.flight = v.flight ++ vstPut p t f part (v.slotOf p r b.idx) tile ::
      (if last then [newWork p (t + 5) 1 (.land r b.idx { tile with stepTag := BitVec.ofNat 32 v.stepNo } true)] else []) ∧
    u.mem = v.mem := by
  obtain ⟨w, hw, hregions, hpier, hflight, hmem, hslot⟩ : ∃ w, (if ((v.pier p).build r).isSome then v else v.reserve p r) = w ∧
      w.regions = (if ((v.pier p).build r).isSome then v.regions else (v.reserve p r).regions) ∧ w.pier p = v.pier p ∧
      w.flight = v.flight ∧ w.mem = v.mem ∧ ∀ i, w.slotOf p r i = v.slotOf p r i := by
    split
    · exact ⟨v, rfl, rfl, rfl, rfl, rfl, fun _ => rfl⟩
    · refine ⟨_, rfl, rfl, ?_⟩
      rw [State.reserve_eq]
      exact ⟨rfl, rfl, rfl, fun _ => rfl⟩
  simp only [State.vstEffect, h.readV ha, h.enable hm, State.openBuild_eq, hw, hslot, hpier]
  rw [← hregions]
  cases last with
  | true =>
    simp only [if_true]
    refine ⟨rfl, ?_, ?_, hmem⟩
    · have hnone := (v.pier p).build_replace (r := r) (l := []) (by simp)
      rw [List.append_nil] at hnone
      rw [State.pier_addWork, State.pier_setPier_same]
      exact hnone
    · simp only [State.addWork, State.setPier, hflight, List.append_assoc]
      rfl
  | false =>
    simp only [if_false, Bool.false_eq_true]
    refine ⟨rfl, ?_, congrArg (· ++ _) hflight, hmem⟩
    rw [State.pier_setPier_same]
    exact (v.pier p).build_replace (l := [_]) (by simpa using v.buildOf_region p r f)

theorem State.stepNo_issuedV (s : State) (p : PierIx) (t : Nat) : (s.issuedV p t).stepNo = s.stepNo :=
  State.fld_issuedV s p t 0 (by decide) (by decide) (by decide)

theorem State.build_issuedV (s : State) (p : PierIx) (t : Nat) (r : RegionIx) :
    ((s.issuedV p t).pier p).build r = (s.pier p).build r := by
  rw [State.pier_issuedV, State.pier_issuedAt]
  rfl

theorem State.buildOf_issuedV (s : State) (p : PierIx) (t : Nat) (r : RegionIx) (f : Fmt) :
    (s.issuedV p t).buildOf p r f = s.buildOf p r f := by
  simp only [State.buildOf, State.build_issuedV, State.stepNo_issuedV, (State.DeckKept.issuedV s p t).reserveIx]

/-! VTRANS. -/

/-- One row of each of several tiles is read on the feed path (R149). -/
def State.feedEach (s : State) (p : PierIx) (r : RegionIx) (t n : Nat) (ixs : List Nat) : State × List (Option RingRow) :=
  ixs.foldl (fun a i => ((a.1.feedRow p r t i n).1, a.2 ++ [(a.1.feedRow p r t i n).2])) (s, [])

/-- Where no double-bit error stands, the rows come as they stand in memory, and nothing but what a read changes is changed. -/
theorem State.feedEach_of_noUe {s : State} (hn : s.noUe) (p : PierIx) (r : RegionIx) (t n : Nat) (ixs : List Nat) :
    ∃ u, s.DeckKept u ∧ s.feedEach p r t n ixs =
      (u, ixs.map (fun i => some ⟨s.readRow p (s.slotOf p r i) n, s.readExt p r i n⟩)) := by
  suffices h : ∀ (u : State) (acc : List (Option RingRow)), s.DeckKept u → ∃ w, s.DeckKept w ∧
      ixs.foldl (fun (a : State × List (Option RingRow)) i =>
        ((a.1.feedRow p r t i n).1, a.2 ++ [(a.1.feedRow p r t i n).2])) (u, acc) =
      (w, acc ++ ixs.map (fun i => some ⟨s.readRow p (s.slotOf p r i) n, s.readExt p r i n⟩)) from
    h s [] (.refl s)
  induction ixs with
  | nil => exact fun u acc hu => ⟨u, hu, by simp⟩
  | cons i ixs ih =>
    intro u acc hu
    obtain ⟨w, hw, hrest⟩ := ih (u.eccRow p r i n).1 (acc ++ [some ⟨s.readRow p (s.slotOf p r i) n, s.readExt p r i n⟩])
      (hu.trans (.eccRow ..))
    refine ⟨w, hw, ?_⟩
    rw [List.foldl_cons, State.feedRow_of_noUe (hu.noUe hn), hu.readRow, hu.slotOf, hu.readExt, hrest, List.map_cons,
      List.append_assoc, List.singleton_append]

/-- The tiles that a VTRANS builds, each with the row at its data index added. -/
def State.withRows (s : State) (p : PierIx) (r : RegionIx) (n : Nat) (ts : List Tile) (ixs : List Nat) : List Tile :=
  (ts.zip ixs).map (fun e => { e.1 with rows := e.1.rows ++ [s.readRow p (s.slotOf p r e.2) n] })

/-- A transpose is written in 8 cycles from slot `t + 1` on and lands in the last (R149; log 65). -/
def State.putTransposed (p : PierIx) (t : Nat) (dst : RegionIx) (s : State) (e : Nat × Tile) : State :=
  (s.putTile p (t + 1) 8 8 (s.slotOf p dst e.1) e.2).addWork (newWork p (t + 8) 1 (.land dst e.1 e.2 false))

/-- The tiles that a VTRANS has read are released where it does not keep them (R171). -/
def State.releaseRead (s : State) (p : PierIx) (src : RegionIx) (t : Nat) (keep : Bool) (ixs : List Nat) : State :=
  if keep then s else ixs.foldl (fun s _ => s.readEnds p src t true) s

/-- The last row of a VTRANS: the transposes are on their way (R149). -/
theorem State.transposeRow_last {s : State} (hn : s.noUe) {w : Work} (hd : w.done = 63) (src dst : RegionIx) (f : Fmt)
    (ixs outs : List Nat) (keep : Bool) (ts : List Tile) :
    ∃ u, s.DeckKept u ∧ s.transposeRow w src dst f ixs outs keep ts =
      ended ((outs.zip (transposed f (s.withRows w.pier src 63 ts ixs))).foldl (State.putTransposed w.pier w.due dst)
        (u.releaseRead w.pier src w.due keep ixs)) := by
  obtain ⟨u, hu, hfeed⟩ := State.feedEach_of_noUe hn w.pier src w.due w.done ixs
  refine ⟨u, hu, ?_⟩
  unfold State.feedEach at hfeed
  simp only [State.transposeRow, hfeed]
  rw [if_neg (by simp), if_neg (by simp [hd])]
  simp only [State.withRows, State.releaseRead, List.zip_map_right, List.map_map, Function.comp_def, hd,
    Option.map_some, Option.getD_some, Prod.map, id]
  rfl

/-- A pass over a list that only adds work keeps the work that was there. -/
theorem State.flight_subset_foldl {α : Type} {f : State → α → State} (hf : ∀ s x, s.flight ⊆ (f s x).flight) (l : List α)
    (s : State) :
    s.flight ⊆ (l.foldl f s).flight :=
  foldl_keeps (fun u => s.flight ⊆ u.flight) f (fun u x hu _ hw => hf u x (hu hw)) l s (List.Subset.refl _)

/-- What such a pass adds for a member of the list is in the work after it. -/
theorem State.mem_flight_foldl {α : Type} {f : State → α → State} (hf : ∀ s x, s.flight ⊆ (f s x).flight) {g : α → Work}
    (hg : ∀ s x, g x ∈ (f s x).flight) {l : List α} {x : α} (hx : x ∈ l) (s : State) : g x ∈ (l.foldl f s).flight := by
  induction l generalizing s with
  | nil => cases hx
  | cons y l ih =>
    rcases List.mem_cons.1 hx with rfl | hx
    · exact State.flight_subset_foldl hf l _ (hg s x)
    · exact ih hx _

/-- Each transpose lands 8 slots after the last row was read. -/
theorem State.mem_flight_putTransposed (p : PierIx) (t : Nat) (dst : RegionIx) {l : List (Nat × Tile)} {e : Nat × Tile}
    (he : e ∈ l) (s : State) : newWork p (t + 8) 1 (.land dst e.1 e.2 false) ∈ (l.foldl (State.putTransposed p t dst) s).flight := by
  refine State.mem_flight_foldl (g := fun e => newWork p (t + 8) 1 (.land dst e.1 e.2 false)) (fun s x w hw => ?_) (fun s x => ?_) he s
  · simp only [State.putTransposed, State.putTile_eq, State.addWork]
    exact List.mem_append_left _ (List.mem_append_left _ hw)
  · exact List.mem_append_right _ (List.mem_singleton.2 rfl)

theorem State.part_transpose (s : State) {w : Work} {src dst : RegionIx} {f : Fmt} {ixs outs : List Nat} {keep : Bool} {ts : List Tile}
    (hk : w.kind = .transpose src dst f ixs outs keep ts) : s.part w = s.transposeRow w src dst f ixs outs keep ts := by
  unfold State.part
  rw [hk]

/-! The issue of the instructions. -/

section
variable {s : State} {p : PierIx} {t : Nat} (hr : s.readyAt p t)
include hr

theorem exec_vld_ready (vd : VReg) {r : RegionIx} {part : Nat} (keep : Bool) {f : Fmt} (mask : Option MReg)
    (hmet : (s.vldNeeds p t r part f).met s p t) : exec (.vld p t vd r part keep f mask) s =
      .next ((s.issuedVFor p t (s.vldNeeds p t r part f)).vldEffect p t vd r part keep f mask) :=
  congrArg Host.Outcome.next (State.issueV_ready hr _ (needs := fun s => s.vldNeeds p t r part f) hmet _)

theorem exec_vst_ready (va : VReg) {r : RegionIx} (part : Nat) (last : Bool) (f : Fmt) (mask : Option MReg)
    (hroom : (s.pier p).build r = none → s.roomLate false p r 1 t = none) :
    exec (.vst p t va r part last f mask) s = .next ((s.issuedV p t).vstEffect p t va r part last f mask) := by
  have hlate : (if ((s.pier p).build r).isSome then none else s.roomLate false p r 1 t) = none := by
    split
    · rfl
    · next h => exact hroom (by simpa using h)
  exact congrArg Host.Outcome.next (State.issueV_item hr _
    (late := fun s => if ((s.pier p).build r).isSome then none else s.roomLate false p r 1 t) hlate _)

/-- VTRANS whose tiles are there reserves its results and reads the first rows in its own slot (R149). -/
theorem exec_vtrans_ready {src dst : RegionIx} {d : Nat} {keep : Bool} {f : Fmt} {x : Needs}
    (hx : s.vtransNeeds false p t src dst d keep f = x) (hmet : x.met s p t) {ts : List Tile} {v : State}
    (hread : (s.issuedVFor p t x).vecReads p t src f 0 0 (offsets d (transTiles f) keep) = (some ts, v)) :
    let outs := ts.foldl (fun (a : State × List Nat) _ => (a.1.reserve p dst, a.2 ++ [a.1.reserveIx p dst])) (v, [])
    exec (.vtrans p t src dst d keep f) s = .next (outs.1.begin (nowWork p t 64 (.transpose src dst f
      ((offsets d (transTiles f) keep).map (fun o => s.readIx p src o t)) outs.2 keep (ts.map (fun y => { y with rows := [] }))))) := by
  subst hx
  have hix (o : Nat) : (s.issuedVFor p t (s.vtransNeeds false p t src dst d keep f)).readIx p src o t = s.readIx p src o t :=
    (State.DeckKept.issuedVFor ..).readIx (State.issuedFor_slots ..) p src o t
  have h := State.issueV_ready hr (.vtrans p t src dst d keep f) (needs := fun s => s.vtransNeeds false p t src dst d keep f) hmet
    (fun s => s.vtransEffect p t src dst d keep f)
  simp only [State.vtransEffect, hread, hix] at h
  exact congrArg Host.Outcome.next h

theorem exec_upd_ready (n : Fin 1024) {d : UpdDesc} {tiles : Nat}
    (hmet : (s.workNeeds false (updWork p t d tiles s.launchStep)).met s p t) : exec (.upd p t n d tiles) s =
      .next ((s.issuedFor p t (s.workNeeds false (updWork p t d tiles s.launchStep))).updEffect p t n d tiles) :=
  congrArg Host.Outcome.next
    (State.issue_ready hr _ (needs := fun s => s.workNeeds false (updWork p t d tiles s.launchStep)) hmet _ _)

end

/-- Settles O6: each instruction has its effect on the state whose slot has issued; the last row of a VTRANS is read as it stands. -/
theorem vectorTileInstructionsRun : Obligations.VectorTileInstructionsRun := by
  refine ⟨fun s p t hr => ⟨fun vd r part keep f mask i x skew hmet hm hn hfeed => ?_, fun va r part last f mask hroom ha hm => ?_,
    fun src dst d keep f ts v hmet hread => exec_vtrans_ready hr rfl hmet hread, fun n d tiles hmet => exec_upd_ready hr n hmet⟩,
    fun s w src dst f ixs outs keep ts hk hd _ hn => ?_⟩
  · exact ⟨_, exec_vld_ready hr vd keep mask hmet, State.vldEffect_tile (s.vecAgrees_issuedVFor p t _)
      ((State.DeckKept.issuedVFor ..).noUe hn) hfeed vd part keep hm⟩
  · have hkept := State.DeckKept.issuedV s p t
    obtain ⟨hregions, hbuild, hflight, hmem⟩ := State.vstEffect_ready (s.vecAgrees_issuedV p t) ha hm r part last f
    simp only [State.buildOf_issuedV, State.build_issuedV, hkept.regions, hkept.regions_reserve, hkept.slotOf, hkept.flight,
      State.stepNo_issuedV] at hregions hbuild hflight
    exact ⟨_, exec_vst_ready hr va part last f mask hroom, hregions, hbuild, hflight,
      fun b => (congrArg (fun m : NMap Byte => m.look memDflt b) hmem).trans (hkept.byte b)⟩
  · obtain ⟨u, -, hlast⟩ := State.transposeRow_last hn hd src dst f ixs outs keep ts
    rw [State.part_transpose s hk, hlast]
    exact ⟨rfl, fun e he => State.mem_flight_putTransposed _ _ _ he _⟩

end Sys2Proof.Machine
end

section
/-! PROOFS. VSTAT, VSTATC and VSTATF in a slot that issues, their row reads and their records (R152, R153, R154, R155). -/
namespace Sys2Proof.Machine
open Sys2Proof

/-- A VSTAT or VSTATC whose tiles pass their checks reads their rows from the next slot on (R152, R155; log 130). -/
theorem State.startStat_tiles {s v : State} {p : PierIx} {ds ixs : List Nat} {x : StatRun}
    (h : s.vecTiles p x.start x.src x.fmt ds = (some ixs, v)) :
    s.startStat p ds x = (v.skipFree 128).addWork
      (newWork p (x.start + 1) (x.span * ixs.length / x.per) (.stat { x with ixs := ixs, free := v.freeCtr })) := by
  simp only [State.startStat, h]

/-! The issue of the instructions. -/

section
variable {s : State} {p : PierIx} {t : Nat} (hr : s.readyAt p t)
include hr

theorem exec_vstat_ready (mode : StatMode) {src : RegionIx} (stats : RegionIx) {d l : Nat} (eps : VReg)
    (hlate : firstLate ((List.range (2 * l)).map (fun j => s.readLate p src (d + j) t)) = none) :
    exec (.vstat p t mode src stats d l eps) s = .next ((s.issuedV p t).vstatEffect p t mode src stats d l eps) :=
  congrArg Host.Outcome.next (State.issueV_item hr _
    (late := fun s => firstLate ((List.range (2 * l)).map (fun j => s.readLate p src (d + j) t))) hlate _)

theorem exec_vstatc_ready (softmax : Bool) {src : RegionIx} (stats : RegionIx) {parts : Nat} (group : Fin 8) (eps np : VReg)
    (hlate : firstLate ((List.range parts).map (fun j => s.readLate p src j t)) = none) :
    exec (.vstatc p t softmax src stats parts group eps np) s =
      .next ((s.issuedV p t).vstatcEffect p t softmax src stats parts group eps np) :=
  congrArg Host.Outcome.next (State.issueV_item hr _
    (late := fun s => firstLate ((List.range parts).map (fun j => s.readLate p src j t))) hlate _)

/-- VSTATF with room for its tile, where it has one (R155). -/
theorem exec_vstatf_ready {stats : RegionIx} (hroom : ((s.pier p).records stats).isSome → s.roomLate false p stats 1 t = none) :
    exec (.vstatf p t stats) s = .next ((s.issuedV p t).flushStats p stats t) := by
  have hlate : (if ((s.pier p).records stats).isSome then s.roomLate false p stats 1 t else none) = none := by
    split
    · next h => exact hroom h
    · rfl
  exact congrArg Host.Outcome.next (State.issueV_item hr _
    (late := fun s => if ((s.pier p).records stats).isSome then s.roomLate false p stats 1 t else none) hlate _)

end

/-- VSTAT reads its EPS where its mode uses it (R152). -/
theorem State.vstatEffect_tiles {s v w : State} {p : PierIx} {t : Nat} (h : s.VecAgrees v p) (mode : StatMode) {src stats : RegionIx}
    {d l : Nat} {eps : VReg} (he : mode = .norm → s.notReady p t eps.val = false) {ixs : List Nat}
    (hread : v.vecTiles p t src (v.statFmt p src d) ((List.range (2 * l)).map (d + ·)) = (some ixs, w)) :
    let f := v.statFmt p src d
    let per := if f = .fp32 then 2 else 1
    v.vstatEffect p t mode src stats d l eps = (w.skipFree 128).addWork (newWork p (t + 1) (64 * ixs.length / per)
      (.stat ⟨t, .stat (statModeNum mode) l, src, f, ixs, 0, 64, per, stats,
        (if mode = .norm then (s.readV p t eps).1 else []).getD 0 0, 0, w.freeCtr, statCycles mode (l * f.cols), []⟩)) := by
  have heps : (if mode = .norm then v.readV p t eps else ([], v)) = (if mode = .norm then (s.readV p t eps).1 else [], v) := by
    split
    · next hmode => exact h.readV (he hmode)
    · rfl
  simp only [State.vstatEffect, heps]
  exact State.startStat_tiles hread

/-- VSTATC reads EPS and np in NORM mode (R154). -/
theorem State.vstatcEffect_tiles {s v w : State} {p : PierIx} {t : Nat} (h : s.VecAgrees v p) (softmax : Bool) {src stats : RegionIx}
    {parts : Nat} (group : Fin 8) {eps np : VReg}
    (he : softmax = false → s.notReady p t eps.val = false ∧ s.notReady p t np.val = false) {ixs : List Nat}
    (hread : v.vecTiles p t src .fp32 (List.range parts) = (some ixs, w)) :
    v.vstatcEffect p t softmax src stats parts group eps np = (w.skipFree 128).addWork (newWork p (t + 1) (8 * ixs.length / 1)
      (.stat ⟨t, .combine softmax group.val, src, .fp32, ixs, 8 * group.val, 8, 1, stats,
        (if softmax then [] else (s.readV p t eps).1).getD 0 0, (if softmax then [] else (s.readV p t np).1).getD 0 0,
        w.freeCtr, combineCycles softmax parts, []⟩)) := by
  cases softmax with
  | true => exact State.startStat_tiles hread
  | false =>
    obtain ⟨heps, hnp⟩ := he rfl
    simp only [State.vstatcEffect, Bool.false_eq_true, if_false, h.readV heps, h.readV hnp]
    exact State.startStat_tiles hread

/-! The open statistics tile of a region (R153). -/

@[simp] theorem Pier.records_setRecords (x : Pier) (r : RegionIx) (rs : Option (List (F32 × F32))) :
    (x.setRecords r rs).records r = rs := by
  have hrest : (x.stats.filter (fun e => e.region != r)).find? (fun e => e.region = r) = none :=
    List.find?_eq_none.2 (fun e he => by simpa using (List.mem_filter.1 he).2)
  cases rs with
  | none => simp [Pier.records, Pier.setRecords, hrest]
  | some l => simp [Pier.records, Pier.setRecords, hrest]

/-- What the write of an open statistics tile does (R155): the tile is closed, its slot is reserved, its rows are written 4 a cycle in the
next 16 slots, and it lands in the 17th. -/
structure State.StatsWritten (s u : State) (p : PierIx) (r : RegionIx) (t : Nat) (rs : List (F32 × F32)) : Prop where
  records : (u.pier p).records r = none
  regions : u.regions = (s.reserve p r).regions
  flight : u.flight = s.flight ++ (List.range 16).map (tilePut p (t + 1) 4 (s.slotOf p r (s.reserveIx p r)) (statTile s.stepNo rs)) ++
    [newWork p (t + 17) 1 (.land r (s.reserveIx p r) (statTile s.stepNo rs) false)]
  byte : ∀ b, u.byte b = s.byte b

/-- The write of an open tile in a state that the issue of a slot or a write of a pier has left. -/
theorem State.StatsWritten.of_deckKept {s v u : State} {p : PierIx} {r : RegionIx} {t : Nat} {rs : List (F32 × F32)}
    (h : v.StatsWritten u p r t rs) (hv : s.DeckKept v) (hstep : v.stepNo = s.stepNo) : s.StatsWritten u p r t rs := by
  refine ⟨h.records, h.regions.trans (hv.regions_reserve p r), ?_, fun b => (h.byte b).trans (hv.byte b)⟩
  rw [h.flight, hv.flight, hv.reserveIx, hv.slotOf, hstep]

/-- A closed tile with records takes its slot and is written. -/
theorem State.statsWritten_produce {s : State} {p : PierIx} {r : RegionIx} (h : (s.pier p).records r = none) (t : Nat)
    (rs : List (F32 × F32)) : s.StatsWritten (s.produce p r t (statTile s.stepNo rs)) p r t rs := by
  rw [State.produce_eq, State.reserve_eq]
  exact ⟨h, rfl, rfl, fun _ => rfl⟩

/-- An open tile is written. -/
theorem State.flushStats_some {s : State} {p : PierIx} {r : RegionIx} {rs : List (F32 × F32)} (h : (s.pier p).records r = some rs)
    (t : Nat) : s.StatsWritten (s.flushStats p r t) p r t rs := by
  have hclosed : ((s.setPier p ((s.pier p).setRecords r none)).pier p).records r = none := by
    rw [State.pier_setPier_same, Pier.records_setRecords]
  simp only [State.flushStats, h]
  exact (State.statsWritten_produce hclosed t rs).of_deckKept (.setPier ..) rfl

theorem State.flushStats_none {s : State} {p : PierIx} {r : RegionIx} (h : (s.pier p).records r = none) (t : Nat) :
    s.flushStats p r t = s := by
  simp only [State.flushStats, h]

/-- The landing and the 16 writes of a statistics tile are on their way. -/
theorem State.StatsWritten.land_mem {s u : State} {p : PierIx} {r : RegionIx} {t : Nat} {rs : List (F32 × F32)}
    (h : s.StatsWritten u p r t rs) :
    newWork p (t + 17) 1 (.land r (s.reserveIx p r) (statTile s.stepNo rs) false) ∈ u.flight := by
  rw [h.flight]
  exact List.mem_append_right _ (List.mem_singleton.2 rfl)

theorem State.StatsWritten.put_mem {s u : State} {p : PierIx} {r : RegionIx} {t : Nat} {rs : List (F32 × F32)}
    (h : s.StatsWritten u p r t rs) {q : Nat} (hq : q < 16) :
    tilePut p (t + 1) 4 (s.slotOf p r (s.reserveIx p r)) (statTile s.stepNo rs) q ∈ u.flight := by
  rw [h.flight]
  exact List.mem_append_left _ (List.mem_append_right _ (List.mem_map_of_mem (List.mem_range.2 hq)))

/-- Records that do not fill the open tile of a region stay in it (R153). -/
theorem State.appendStats_room {s : State} {p : PierIx} {r : RegionIx} {rs : List (F32 × F32)}
    (hlen : (((s.pier p).records r).getD [] ++ rs).length < 1024) (hj : (s.pier p).atJoint = none) (t : Nat) :
    s.appendStats p r t rs = s.setPier p ((s.pier p).setRecords r (some (((s.pier p).records r).getD [] ++ rs))) := by
  have hstay : ¬ (1024 ≤ (((s.pier p).records r).getD [] ++ rs).length || (s.pier p).atJoint.isSome) = true := by
    simp only [hj, Option.isSome_none, Bool.or_false, decide_eq_true_eq]
    omega
  simp only [State.appendStats]
  rw [if_neg hstay, List.take_of_length_le (Nat.le_of_lt hlen)]

/-- Records that fill the open tile of a region are written with it (R153). -/
theorem State.appendStats_full {s : State} {p : PierIx} {r : RegionIx} {rs : List (F32 × F32)}
    (hlen : 1024 ≤ (((s.pier p).records r).getD [] ++ rs).length) (t : Nat) :
    s.StatsWritten (s.appendStats p r t rs) p r t ((((s.pier p).records r).getD [] ++ rs).take 1024) := by
  let v := s.setPier p ((s.pier p).setRecords r (some ((((s.pier p).records r).getD [] ++ rs).take 1024)))
  have hv : s.DeckKept v := .setPier ..
  have hopen : (v.pier p).records r = some ((((s.pier p).records r).getD [] ++ rs).take 1024) := by
    rw [State.pier_setPier_same, Pier.records_setRecords]
  have hwrite : s.appendStats p r t rs = v.flushStats p r t :=
    if_pos (by rw [decide_eq_true hlen, Bool.true_or])
  rw [hwrite]
  exact (State.flushStats_some hopen t).of_deckKept hv rfl

/-! The row reads of a VSTAT or VSTATC. -/

/-- Rows are read on the feed path, each by the data index of its tile and its number: those that came, and whether one did not. -/
def State.feedRows (s : State) (p : PierIx) (r : RegionIx) (t : Nat) (es : List (Nat × Nat)) : State × List Row × Bool :=
  es.foldl (fun a e => ((a.1.feedRow p r t e.1 e.2).1, a.2.1 ++ ((a.1.feedRow p r t e.1 e.2).2.map RingRow.data).toList,
    a.2.2 || (a.1.feedRow p r t e.1 e.2).2.isNone)) (s, [], false)

/-- Where no double-bit error stands, the rows come as they stand in memory, and nothing but what a read changes is changed. -/
theorem State.feedRows_of_noUe {s : State} (hn : s.noUe) (p : PierIx) (r : RegionIx) (t : Nat) (es : List (Nat × Nat)) :
    ∃ u, s.DeckKept u ∧ s.feedRows p r t es = (u, es.map (fun e => s.readRow p (s.slotOf p r e.1) e.2), false) := by
  suffices h : ∀ (u : State) (acc : List Row), s.DeckKept u → ∃ w, s.DeckKept w ∧
      es.foldl (fun (a : State × List Row × Bool) e => ((a.1.feedRow p r t e.1 e.2).1,
        a.2.1 ++ ((a.1.feedRow p r t e.1 e.2).2.map RingRow.data).toList, a.2.2 || (a.1.feedRow p r t e.1 e.2).2.isNone))
        (u, acc, false) = (w, acc ++ es.map (fun e => s.readRow p (s.slotOf p r e.1) e.2), false) from
    h s [] (.refl s)
  induction es with
  | nil => exact fun u acc hu => ⟨u, hu, by simp⟩
  | cons e es ih =>
    intro u acc hu
    obtain ⟨w, hw, hrest⟩ := ih (u.eccRow p r e.1 e.2).1 (acc ++ [s.readRow p (s.slotOf p r e.1) e.2]) (hu.trans (.eccRow ..))
    refine ⟨w, hw, ?_⟩
    rw [List.foldl_cons, State.feedRow_of_noUe (hu.noUe hn), hu.readRow, hu.slotOf, List.map_cons, List.append_cons]
    exact hrest

/-- The run with the rows of read cycle `j` as they stand in memory. -/
def State.withStatRows (s : State) (p : PierIx) (x : StatRun) (j : Nat) : StatRun :=
  { x with rows := x.rows ++ (x.rowsIn j).map (fun e => s.readRow p (s.slotOf p x.src e.1) e.2) }

/-- After the last rows the end of the run is foreseen (R152, R155). -/
theorem State.statCycle_last {s : State} (hn : s.noUe) {w : Work} (hl : w.left = 1) (x : StatRun) :
    ∃ u, s.DeckKept u ∧ s.statCycle w x =
      ended (u.addWork (newWork w.pier (x.start + x.cycles) 1 (.statEnd (s.withStatRows w.pier x w.done)))) := by
  obtain ⟨u, hu, hfeed⟩ := State.feedRows_of_noUe hn w.pier x.src w.due (x.rowsIn w.done)
  refine ⟨u, hu, ?_⟩
  unfold State.feedRows at hfeed
  simp only [State.statCycle, hfeed]
  rw [if_neg Bool.false_ne_true, if_pos (Nat.le_of_eq hl)]
  rfl

theorem State.part_stat (s : State) {w : Work} {x : StatRun} (hk : w.kind = .stat x) : s.part w = s.statCycle w x := by
  unfold State.part
  rw [hk]

theorem State.part_statEnd (s : State) {w : Work} {x : StatRun} (hk : w.kind = .statEnd x) :
    s.part w = ended (s.appendStats w.pier x.stats w.due x.records) := by
  unfold State.part
  rw [hk]
  rfl

theorem State.records_issuedV (s : State) (p : PierIx) (t : Nat) (r : RegionIx) :
    ((s.issuedV p t).pier p).records r = (s.pier p).records r := by
  rw [State.pier_issuedV, State.pier_issuedAt]
  rfl

/-- Settles O7: each instruction has its effect on the state whose slot has issued; the rows are read as they stand, and the records join
the open tile, which is written where they fill it. -/
theorem statisticsInstructionsRun : Obligations.StatisticsInstructionsRun := by
  refine ⟨fun s p t hr => ?_, fun s w x hk hl hn => ?_, fun s w x hk => ?_⟩
  · have hagrees := State.vecAgrees_issuedV s p t
    refine ⟨fun mode src stats d l eps ixs v hlate heps hread => ?_,
      fun softmax src stats parts group eps np ixs v hlate heps hread => ?_, fun stats rs hrs hroom => ?_, fun stats hnone => ?_⟩
    · rw [exec_vstat_ready hr mode stats eps hlate, State.vstatEffect_tiles hagrees mode heps hread]
    · rw [exec_vstatc_ready hr softmax stats group eps np hlate, State.vstatcEffect_tiles hagrees softmax group heps hread]
    · have hwritten := (State.flushStats_some ((s.records_issuedV p t stats).trans hrs) t).of_deckKept (.issuedV s p t)
        (s.stepNo_issuedV p t)
      refine ⟨_, exec_vstatf_ready hr (fun _ => hroom), hwritten.records, hwritten.regions, hwritten.land_mem, fun q hq => ?_,
        hwritten.byte⟩
      have hput := hwritten.put_mem hq
      rw [tilePut, List.map_map] at hput
      exact hput
    · rw [exec_vstatf_ready hr (fun h => by simp [hnone] at h), State.flushStats_none ((s.records_issuedV p t stats).trans hnone)]
  · obtain ⟨u, hu, hlast⟩ := State.statCycle_last hn hl x
    rw [State.part_stat s hk, hlast]
    exact ⟨rfl, hu.byte, List.mem_append_right _ (List.mem_singleton.2 rfl)⟩
  · rw [State.part_statEnd s hk]
    refine ⟨fun hlen hj => ?_, fun hlen => ?_⟩
    · rw [State.appendStats_room hlen hj]
      exact ⟨by rw [ended, State.pier_setPier_same, Pier.records_setRecords], rfl⟩
    · have hwritten := State.appendStats_full hlen w.due
      exact ⟨hwritten.records, hwritten.regions, hwritten.land_mem⟩

end Sys2Proof.Machine
end

section
/-! PROOFS. The events of the approach and copy engines: tags, replies, timeouts, stale notices and copy tiles (R195, R197, R198, R203,
R206, R274). -/
namespace Sys2Proof.Machine
open Sys2Proof

/-! The allocation of tags (R195). -/

/-- A free tag goes to the oldest refetch of its pier (R195; log 30). -/
theorem State.tagAllocate_refetch {s : State} {p : PierIx} {num k : Nat} (hfetching : s.fetching p = true)
    (hfree : s.freeTagNum p false 64 = some num) (hrefetch : s.refetches.find? (fun e => e.1 = p) = some (p, k)) :
    s.tagAllocate p =
      ({ s with refetches := s.refetches.eraseP (fun e => e.1 = p) }.allocRefetch p num k).wakeTags := by
  simp only [State.tagAllocate, hfetching, hfree, hrefetch, Bool.not_true, Bool.false_eq_true, if_false]

/-- With no refetch due, the regions that gangs before it name in vain fault, and a free tag goes to the first gang that may go on (R179, R195). -/
theorem State.tagAllocate_gang {s t : State} {p : PierIx} {num : Nat} {n : Fin 16} (hfetching : s.fetching p = true)
    (hfree : s.freeTagNum p false 64 = some num) (hrefetch : s.refetches.find? (fun e => e.1 = p) = none)
    (ht : (s.invalidGangs p).foldl (fun s n => s.regionInvalid p (s.streamWalk (streamIx p n)).region) s = t)
    (hgang : (t.gangOrder p).find? (fun n => t.gangMay p n) = some n) : s.tagAllocate p = t.allocGang p num n := by
  simp only [State.tagAllocate, hfetching, hfree, hrefetch, Bool.not_true, Bool.false_eq_true, if_false, ht, hgang]

/-! Replies and timeouts (R197, R198, R206). -/

section
variable {s : State} {p : PierIx} {num : Nat} {x : Tag}

/-- A tag that waits neither for a translation nor for a watch entry has its requests issued. -/
theorem Tag.not_waiting (hwaits : x.waits = false) (hwants : x.wants = []) : (x.waits || !x.wants.isEmpty) = false := by
  rw [hwaits, hwants]
  rfl

theorem State.transferReply_late {req attempt : Nat} (htag : s.tagOf p false num = some x) (hwaits : x.waits = false)
    (hwants : x.wants = []) (hlate : attempt < x.attempt) (u : Upset) :
    s.transferReply p num req attempt u = s.bump Fld.APPROACH_COUNT_LATE_REPLIES p.val 1 := by
  simp only [State.transferReply, htag, Tag.not_waiting hwaits hwants, Bool.false_eq_true, if_false, if_pos hlate, State.lateReply]

/-- The code of a reply is present where the read names an uncorrectable part (R200). -/
theorem memUe_of_part (o : Option Nat) : o.map (fun _ => Code.memUe) = if o.isSome then some .memUe else none := by
  cases o <;> rfl

/-- A reply of the attempt in force answers an open request to local memory with what the read finds (R197, R200). -/
theorem State.transferReply_answers {req : Nat} {q : Request} (htag : s.tagOf p false num = some x) (hwaits : x.waits = false)
    (hwants : x.wants = []) (hreq : x.requests[req]? = some q) (hopen : q.answered = false) (hlocal : q.window = none)
    (hblocked : s.requestBlocked q = false) (u : Upset) :
    s.transferReply p num req x.attempt u =
      (s.readRequest q u).2.2.answerTag x req (if (s.readRequest q u).2.1.isSome then some .memUe else none)
        (s.readRequest q u).2.1 (s.readRequest q u).1 := by
  have hgoes : (x.attempt != x.attempt || q.answered || q.window.isSome || s.requestBlocked q) = false := by
    rw [bne_self_eq_false, hopen, hlocal, hblocked]
    rfl
  simp only [State.transferReply, htag, Tag.not_waiting hwaits hwants, Bool.false_eq_true, if_false, if_neg (Nat.lt_irrefl _), hreq,
    hgoes, memUe_of_part]

/-- A tag in time issues its remote requests again, and one at the limit gives up (R198). -/
theorem State.tagTimeout_issued {copy : Bool} (htag : s.tagOf p copy num = some x) (hwaits : x.waits = false) (hwants : x.wants = []) :
    s.tagTimeout p copy num =
      if x.attempt < s.fld Fld.APPROACH_CFG_RETRY_LIMIT p.val then
        (s.setTag { x with attempt := x.attempt + 1 }).sendRemotes { x with attempt := x.attempt + 1 } true
      else s.abandonTag x .xferTimeout := by
  simp only [State.tagTimeout, htag, Tag.not_waiting hwaits hwants, Bool.false_eq_true, if_false]

theorem State.watchTimeout_wants {copy : Bool} (htag : s.tagOf p copy num = some x) (hwants : x.wants ≠ []) :
    s.watchTimeout p copy num = s.abandonTag x .watchStarved := by
  simp only [State.watchTimeout, htag, List.isEmpty_iff, if_neg hwants]

end

/-! Stale notices (R203). -/

theorem State.closeWrites_of_none {s : State} (h : s.openWrites = []) : s.closeWrites = s := by
  simp only [State.closeWrites, h, List.filter_nil, List.foldl_nil]
  exact congrArg (fun ws => { s with openWrites := ws }) h.symm

/-- With no write open and no move of an extent, nothing waits for a notice (R225). -/
theorem State.movesOn_closeWrites_of_none {s : State} (hwrites : s.openWrites = []) (hmoves : s.moves = []) :
    s.closeWrites.movesOn = s := by
  rw [State.closeWrites_of_none hwrites, State.movesOn, hmoves, List.foldl_nil]

/-- The state once the oldest notice of a pier is taken (R203). -/
def State.noticeTaken (s : State) (p : PierIx) : State :=
  { s with staleNotices := s.staleNotices.eraseP (fun n => n.pier = p) }

@[simp] theorem State.openWrites_noticeTaken (s : State) (p : PierIx) : (s.noticeTaken p).openWrites = s.openWrites := rfl

@[simp] theorem State.moves_noticeTaken (s : State) (p : PierIx) : (s.noticeTaken p).moves = s.moves := rfl

theorem State.takeNotice_some {s : State} {p : PierIx} {n : StaleNotice} (hn : s.staleNotices.find? (fun n => n.pier = p) = some n) :
    s.takeNotice p = some (n, s.noticeTaken p) := by
  simp only [State.takeNotice, hn, State.noticeTaken]

theorem State.length_staleNotices_noticeTaken {s : State} {p : PierIx} {n : StaleNotice}
    (hn : s.staleNotices.find? (fun n => n.pier = p) = some n) :
    (s.noticeTaken p).staleNotices.length + 1 = s.staleNotices.length := by
  have hmem := List.mem_of_find?_eq_some hn
  have hpier := List.find?_some hn
  have hlen := List.length_eraseP_of_mem (p := fun n => decide (n.pier = p)) hmem hpier
  have hpos := List.length_pos_of_mem hmem
  simp only [State.noticeTaken]
  omega

/-- The record of a slot that a notice marks stale: its marks are counted once until the slot is filled again (R203). -/
def SlotRec.marked (x : SlotRec) : SlotRec :=
  { x with stale := true, stales := if x.stale then x.stales else x.stales + 1 }

theorem SlotRec.stales_marked (x : SlotRec) : x.marked.stales = x.stales + (if x.stale then 0 else 1) := by
  rw [SlotRec.marked]
  split <;> rfl

/-- A slot is marked stale, and counted for the stream that filled it (R203). -/
def State.markStale (s : State) (p : PierIx) (k : Nat) : State :=
  match (s.slot p k).stream with
  | some n => (s.setSlot p k (s.slot p k).marked).bump Fld.STREAM_COUNT3_STALE_MARKS (streamIx p n) 1
  | none => s.setSlot p k (s.slot p k).marked

/-- A mark sets slot records and registers, nothing else of the state. -/
theorem State.markStale_eq (s : State) (p : PierIx) (k : Nat) :
    s.markStale p k = { s with slots := (s.markStale p k).slots, regs := (s.markStale p k).regs } := by
  unfold State.markStale
  split <;> rfl

@[simp] theorem State.slot_markStale (s : State) (p : PierIx) (k : Nat) : (s.markStale p k).slot p k = (s.slot p k).marked := by
  unfold State.markStale
  split
  · rw [State.slot_bump, State.slot_setSlot_same]
  · rw [State.slot_setSlot_same]

@[simp] theorem State.byte_markStale (s : State) (p : PierIx) (k b : Nat) : (s.markStale p k).byte b = s.byte b := by
  rw [State.markStale_eq]
  rfl

@[simp] theorem State.staleNotices_markStale (s : State) (p : PierIx) (k : Nat) :
    (s.markStale p k).staleNotices = s.staleNotices := by
  rw [State.markStale_eq]

@[simp] theorem State.openWrites_markStale (s : State) (p : PierIx) (k : Nat) : (s.markStale p k).openWrites = s.openWrites := by
  rw [State.markStale_eq]

@[simp] theorem State.moves_markStale (s : State) (p : PierIx) (k : Nat) : (s.markStale p k).moves = s.moves := by
  rw [State.markStale_eq]

/-- The oldest notice marks its slot where the generations agree (R203), and what waited for it goes on (R225). -/
theorem State.acceptNotice_some {s : State} {p : PierIx} {n : StaleNotice}
    (hn : s.staleNotices.find? (fun n => n.pier = p) = some n) :
    s.acceptNotice p =
      (if (s.slot p n.slot).gen = n.gen then (s.noticeTaken p).markStale p n.slot else s.noticeTaken p).closeWrites.movesOn := by
  rw [State.acceptNotice, State.takeNotice_some hn]
  rfl

section
variable {s : State} {p : PierIx} {n : StaleNotice} (hn : s.staleNotices.find? (fun n => n.pier = p) = some n)
  (hwrites : s.openWrites = []) (hmoves : s.moves = [])
include hn hwrites hmoves

theorem State.acceptNotice_marks (hgen : (s.slot p n.slot).gen = n.gen) :
    s.acceptNotice p = (s.noticeTaken p).markStale p n.slot := by
  rw [State.acceptNotice_some hn, if_pos hgen]
  exact State.movesOn_closeWrites_of_none (by simp [hwrites]) (by simp [hmoves])

theorem State.acceptNotice_other (hgen : (s.slot p n.slot).gen ≠ n.gen) : s.acceptNotice p = s.noticeTaken p := by
  rw [State.acceptNotice_some hn, if_neg hgen]
  exact State.movesOn_closeWrites_of_none (by simp [hwrites]) (by simp [hmoves])

theorem runs_staleNotice_marks (hgen : (s.slot p n.slot).gen = n.gen) :
    Runs (.staleNotice p) s (fun u => (u.slot p n.slot).stale = true ∧
      (u.slot p n.slot).stales = (s.slot p n.slot).stales + (if (s.slot p n.slot).stale then 0 else 1) ∧
      u.staleNotices.length + 1 = s.staleNotices.length ∧ (∀ b, u.byte b = s.byte b)) := by
  refine ⟨s.acceptNotice p, rfl, ?_⟩
  rw [State.acceptNotice_marks hn hwrites hmoves hgen]
  simp only [State.slot_markStale, State.staleNotices_markStale, State.byte_markStale]
  exact ⟨rfl, SlotRec.stales_marked _, State.length_staleNotices_noticeTaken hn, fun _ => rfl⟩

theorem runs_staleNotice_other (hgen : (s.slot p n.slot).gen ≠ n.gen) :
    Runs (.staleNotice p) s (fun u => u.slots = s.slots ∧
      u.staleNotices.length + 1 = s.staleNotices.length ∧ (∀ b, u.byte b = s.byte b)) := by
  refine ⟨s.acceptNotice p, rfl, ?_⟩
  rw [State.acceptNotice_other hn hwrites hmoves hgen]
  exact ⟨rfl, State.length_staleNotices_noticeTaken hn, fun _ => rfl⟩

end

/-! The tiles of a copy (R274). -/

theorem State.copyTile_running {s : State} {p : PierIx} {d : Fin 8} (hrunning : (s.run p d).running = true)
    (hstate : s.fld Fld.PCTL_STATUS_STATE p.val ≠ 6) (u : Upset) :
    s.copyTile p d u =
      if (s.copyWalk (copyIx p d)).dirOut then ((s.noteHalted p).copyOut p d).wakeTags else (s.noteHalted p).copyIn p d u := by
  have hgoes : (!(s.run p d).running || s.fld Fld.PCTL_STATUS_STATE p.val = 6) = false := by
    rw [hrunning, decide_eq_false hstate]
    rfl
  rw [State.copyTile, hgoes, if_neg Bool.false_ne_true]

/-- Settles O11: each event has its effect, case by case; with no write and no move waiting for it, a stale notice has no other effect than
its mark. -/
theorem approachEventsRun : Obligations.ApproachEventsRun := by
  refine ⟨fun s p num k hfetching hfree hrefetch => ?refetch, fun s p num n hfetching hfree hrefetch hgang => ?gang,
    fun s p num req attempt x u htag hwaits hwants hlate => ?late,
    fun s p num req x q u htag hwaits hwants hreq hopen hlocal hblocked => ?answered,
    fun s p copy num x htag hwaits hwants => ?timeout, fun s p copy num x htag hwants => ?starved,
    fun s p n hn hwrites hmoves => ⟨runs_staleNotice_marks hn hwrites hmoves, runs_staleNotice_other hn hwrites hmoves⟩,
    fun s p d u hrunning hstate => ?copy⟩
  case refetch => exact congrArg _ (State.tagAllocate_refetch hfetching hfree hrefetch)
  case gang => exact congrArg _ (State.tagAllocate_gang hfetching hfree hrefetch rfl hgang)
  case late => exact congrArg _ (State.transferReply_late htag hwaits hwants hlate u)
  case answered => exact congrArg _ (State.transferReply_answers htag hwaits hwants hreq hopen hlocal hblocked u)
  case timeout => exact congrArg _ (State.tagTimeout_issued htag hwaits hwants)
  case starved => exact congrArg _ (State.watchTimeout_wants htag hwants)
  case copy => exact congrArg _ (State.copyTile_running hrunning hstate u)

end Sys2Proof.Machine
end

section
/-! PROOFS. The commands of the gates: block writes, scrubbing, temperature, row repairs and the watch select (R225, R231, R232, R234,
R236, R237, R240-R242, R245). -/
namespace Sys2Proof.Machine
open Sys2Proof

/-! The state of a gate beside its registers. -/

@[simp] theorem State.gate_setGate_same (s : State) (g : Nat) (x : Gate) : (s.setGate g x).gate g = x := NMap.look_put_same ..

theorem State.gate_setGate_other (s : State) {g h : Nat} (x : Gate) (hne : h ≠ g) : (s.setGate g x).gate h = s.gate h :=
  NMap.look_put_other _ _ _ hne

@[simp] theorem State.byte_setGate (s : State) (g : Nat) (x : Gate) (b : Nat) : (s.setGate g x).byte b = s.byte b := rfl

@[simp] theorem State.gate_setFld (s : State) (f : Fld) (i v g : Nat) : (s.setFld f i v).gate g = s.gate g := rfl

@[simp] theorem State.gate_bump (s : State) (f : Fld) (i n g : Nat) : (s.bump f i n).gate g = s.gate g := rfl

theorem State.gate_of_gates {s u : State} (h : u.gates = s.gates) (g : Nat) : u.gate g = s.gate g :=
  congrArg (fun m : NMap Gate => m.look (fun _ => Gate.init) g) h

@[simp] theorem State.gates_flagEvent (s : State) (f : Fld) (i : Nat) (c : Code) (srcKind srcIndex detail : Nat) :
    (s.flagEvent f i c srcKind srcIndex detail).gates = s.gates := by
  rw [State.flagEvent_eq]

/-! Memory and the marks of stored poison: what the transfer of a burst, an error that is left for later and the notices of a write
leave alone (R203, R227, R234). -/

/-- `u` holds the bytes and the marks of stored poison of `s`. -/
structure State.BlocksKept (s u : State) : Prop where
  mem : u.mem = s.mem
  stored : u.stored = s.stored

namespace State.BlocksKept

theorem refl (s : State) : s.BlocksKept s := ⟨rfl, rfl⟩

theorem byte {s u : State} (h : s.BlocksKept u) (b : Nat) : u.byte b = s.byte b :=
  congrArg (fun m : NMap Byte => m.look memDflt b) h.mem

theorem trans {s u v : State} (h : s.BlocksKept u) (k : u.BlocksKept v) : s.BlocksKept v :=
  ⟨k.mem.trans h.mem, k.stored.trans h.stored⟩

theorem foldl {α : Type} {f : State → α → State} (h : ∀ (s : State) x, s.BlocksKept (f s x)) (l : List α) (s : State) :
    s.BlocksKept (l.foldl f s) :=
  foldl_keeps (State.BlocksKept s) f (fun u x hu => hu.trans (h u x)) l s (refl s)

theorem setFlaw (s : State) (a n : Nat) : s.BlocksKept (s.setFlaw a n) := by
  unfold State.setFlaw
  split
  · exact refl s
  · exact ⟨rfl, rfl⟩

theorem leaveFlaw (s : State) (a n : Nat) (up : Upset) : s.BlocksKept (s.leaveFlaw a n up) := by
  unfold State.leaveFlaw
  split
  · split
    · exact setFlaw ..
    · exact refl s
  · exact refl s

theorem serveOne (s : State) (g ch : Nat) : s.BlocksKept (s.serveOne g ch) := by
  unfold State.serveOne
  dsimp only
  split
  · exact refl s
  · exact ⟨rfl, rfl⟩

theorem serveBursts (s : State) (g : Nat) : s.BlocksKept (s.serveBursts g) := by
  unfold State.serveBursts
  split
  · exact refl s
  · exact foldl (fun u (e : Nat × Nat) => serveOne u g e.1) _ s

theorem openGate (s : State) (g : Nat) : s.BlocksKept (s.openGate g) := by
  unfold State.openGate
  split
  · exact ⟨rfl, rfl⟩
  · exact refl s

theorem setGate (s : State) (g : Nat) (x : Gate) : s.BlocksKept (s.setGate g x) := ⟨rfl, rfl⟩

theorem burst (s : State) (x : Place) (cls n : Nat) : s.BlocksKept (s.burst x cls n) :=
  ((openGate s x.gate).trans (setGate ..)).trans (serveBursts ..)

theorem noticeRange (s : State) (w : Writer) (a n : Nat) : s.BlocksKept (s.noticeRange w a n) := by
  unfold State.noticeRange
  refine foldl (fun u g => ?_) _ s
  exact ⟨rfl, rfl⟩

/-- The end of a write at a gate answers it, or keeps the answer until its notices are accepted (R225). -/
theorem finishWrite_gate (s : State) (w : Writer) (a : Nat) (bs : List Byte) (poison : Bool) :
    s.BlocksKept (s.finishWrite w (.gate a bs poison)) := by
  unfold State.finishWrite
  split
  · exact ⟨rfl, rfl⟩
  · exact ⟨rfl, rfl⟩

end State.BlocksKept

/-! The write of a whole 64 B block (R225, R234, R236). -/

theorem State.flawAt_setFlaw_other (s : State) {a b : Nat} (n : Nat) (h : b / 64 ≠ a / 64) : (s.setFlaw a n).flawAt b = s.flawAt b := by
  unfold State.setFlaw
  split
  · rfl
  · exact NMap.look_put_other _ _ _ h

/-- A whole block is one block of the stacks. -/
theorem blocksOf_block {a : Nat} (ha : a % 64 = 0) : blocksOf a 64 = [a] := by
  have hcount : (a + 64 - 1) / 64 + 1 - a / 64 = 1 := by omega
  have haddr : 64 * (a / 64) = a := by omega
  rw [blocksOf, if_neg (by decide), hcount]
  simp [haddr]

/-- The symbols in error that a write of a block leaves elsewhere are none of the block's own (R234; log 162). -/
theorem State.flawAt_leaveFlaw_block (s : State) {a : Nat} (ha : a % 64 = 0) (up : Upset) :
    (s.leaveFlaw a 64 up).flawAt a = s.flawAt a := by
  unfold State.leaveFlaw
  split
  · next b k =>
    split
    · next helse =>
      have hblock : 64 * (b / 64) ≠ a := by
        simpa [blocksOf_block ha] using (Bool.and_eq_true_iff.1 helse).2
      exact State.flawAt_setFlaw_other _ _ (by omega)
    · rfl
  · rfl

/-- A write of a whole block is one piece. -/
theorem cutBlock_block {a : Nat} {bs : List Byte} (hlen : bs.length = 64) : cutBlock a bs a = (a, bs) := by
  have hlo : max a a = a := Nat.max_self a
  have hoffset : a - a = 0 := Nat.sub_self a
  have hspan : a + 64 - a = 64 := Nat.add_sub_cancel_left a 64
  simp only [cutBlock, hlo, hoffset, hspan, List.drop_zero, List.take_of_length_le (Nat.le_of_eq hlen)]

/-- A write of a whole block with no more than 3 symbols in error writes its bytes, and the block is no stored poison (R234, R236). -/
theorem State.writeBlock_whole {s : State} {a : Nat} {up : Upset} (hgood : symbolsAt up a + s.flawAt a ≤ 3) (cls : Nat) (bs : List Byte) :
    s.writeBlock cls a a bs false false up =
      (false, (((s.burst (s.place a) cls 1).writeBytes a bs).setStored a false).setFlaw a 0) := by
  simp only [State.writeBlock, Bool.false_eq_true, if_false, if_pos hgood]

theorem State.gateWrite_whole {s : State} {a : Nat} {bs : List Byte} {up : Upset} (ha : a % 64 = 0) (hlen : bs.length = 64)
    (hgood : symbolsAt up a + s.flawAt a ≤ 3) (w : Writer) (cls : Nat) :
    let t := s.leaveFlaw a 64 up
    s.gateWrite w cls a bs false up =
      (false, ((((t.burst (t.place a) cls 1).writeBytes a bs).setStored a false).setFlaw a 0).noticeRange w a 64) := by
  have hrmw : (a % 64 != 0 || decide (bs.length < 64)) = false := by simp [ha, hlen]
  have hleft : symbolsAt up a + (s.leaveFlaw a 64 up).flawAt a ≤ 3 := by rwa [State.flawAt_leaveFlaw_block s ha]
  simp only [State.gateWrite, hlen, blocksOf_block ha, List.foldl_cons, List.foldl_nil, cutBlock_block hlen]
  rw [hlen] at hrmw
  rw [hrmw, State.writeBlock_whole hleft]
  rfl

/-- After a good write of a whole block, memory and the marks of stored poison are as they were but for the block (R225, R236). -/
theorem State.gateAccess_whole {s : State} {a : Nat} {bs : List Byte} {up : Upset} (ha : a % 64 = 0) (hlen : bs.length = 64)
    (hend : a + 64 ≤ tollhouseBlock) (hfree : s.blocked a 64 = false) (hgood : symbolsAt up a + s.flawAt a ≤ 3) (cls : Fin 3)
    (len : Nat) :
    ((s.writeBytes a bs).setStored a false).BlocksKept (s.gateAccess cls a len (some bs) false up) := by
  have hbefore := (State.BlocksKept.leaveFlaw s a 64 up).trans (.burst _ ((s.leaveFlaw a 64 up).place a) cls.val 1)
  have hwritten : ((s.writeBytes a bs).setStored a false).BlocksKept
      ((((s.leaveFlaw a 64 up).burst ((s.leaveFlaw a 64 up).place a) cls.val 1).writeBytes a bs).setStored a false) :=
    ⟨congrArg (fun m : NMap Byte => m.putRun memDflt a bs) hbefore.mem,
      congrArg (fun m : NMap Bool => m.put (fun _ => false) (a / 64) false) hbefore.stored⟩
  simp only [State.gateAccess, hlen, if_neg (Nat.not_lt.2 hend), hfree, Bool.false_eq_true, if_false,
    State.gateWrite_whole ha hlen hgood]
  exact ((hwritten.trans (.setFlaw ..)).trans (.noticeRange ..)).trans (.finishWrite_gate ..)

/-- A good write of a whole block: what memory holds, and that the block is no stored poison (R225, R236). -/
theorem runs_gateAccess_whole {s : State} {a : Nat} {bs : List Byte} {up : Upset} (ha : a % 64 = 0) (hlen : bs.length = 64)
    (hend : a + 64 ≤ tollhouseBlock) (hfree : s.blocked a 64 = false) (hgood : symbolsAt up a + s.flawAt a ≤ 3) (cls : Fin 3)
    (len : Nat) :
    Runs (.gateAccess cls a len (some bs) false up) s (fun u =>
      (∀ i, u.byte (a + i) = if h : i < bs.length then bs[i] else s.byte (a + i)) ∧
      (∀ b, b < a → u.byte b = s.byte b) ∧ u.isStored a = false) := by
  have hkept := State.gateAccess_whole ha hlen hend hfree hgood cls len
  refine ⟨_, rfl, fun i => ?inside, fun b hb => ?below, ?stored⟩
  case inside =>
    rw [hkept.byte]
    split
    · next hi => exact State.byte_writeBytes_in s a i bs hi
    · next hi => exact State.byte_writeBytes_other s a (a + i) bs (.inr (by omega))
  case below =>
    rw [hkept.byte]
    exact State.byte_writeBytes_other s a b bs (.inl hb)
  case stored =>
    rw [State.isStored, hkept.stored]
    exact NMap.look_put_same (fun _ => false) s.stored (a / 64) false

/-- While the gate of a block holds its bursts an access waits (R231). -/
theorem State.gateAccess_blocked {s : State} {a len : Nat} (hend : a + len ≤ tollhouseBlock) (hheld : s.blocked a len = true)
    (cls : Fin 3) (poison : Bool) (up : Upset) : s.gateAccess cls a len none poison up =
      { s with hostWaits := s.hostWaits ++ [.request (.gateAccess cls a len none poison up)] } := by
  simp only [State.gateAccess, if_neg (Nat.not_lt.2 hend), hheld, if_true]

/-! The decode of a codeword leaves the burnt repairs of the gates alone (R234, R238). -/

/-- `u` has the hard repairs of `s`. -/
structure State.HardKept (s u : State) : Prop where
  hard : ∀ g, (u.gate g).hard = (s.gate g).hard

namespace State.HardKept

theorem trans {s u v : State} (h : s.HardKept u) (k : u.HardKept v) : s.HardKept v :=
  ⟨fun g => (k.hard g).trans (h.hard g)⟩

theorem of_gates {s u : State} (h : u.gates = s.gates) : s.HardKept u :=
  ⟨fun g => by rw [State.gate_of_gates h]⟩

theorem setGate {s : State} {g : Nat} {x : Gate} (hx : x.hard = (s.gate g).hard) : s.HardKept (s.setGate g x) := by
  refine ⟨fun h => ?_⟩
  by_cases hg : h = g
  · subst hg
    rw [State.gate_setGate_same, hx]
  · rw [State.gate_setGate_other s x hg]

theorem setFlaw (s : State) (a n : Nat) : s.HardKept (s.setFlaw a n) := by
  unfold State.setFlaw
  split
  · exact of_gates rfl
  · exact of_gates rfl

theorem errorAt (s : State) (a ue stored scrub : Nat) : s.HardKept (s.errorAt a ue stored scrub) := by
  unfold State.errorAt
  refine foldl_keeps s.HardKept _ (fun u e hu => hu.trans ?_) _ s (of_gates rfl)
  exact of_gates rfl

theorem memUe (s : State) (g a : Nat) : s.HardKept (s.memUe g a) := of_gates (by
  unfold State.memUe
  split
  · rfl
  · rw [State.notify_eq]
    rfl)

theorem trackRow (s : State) (x : Place) : s.HardKept (s.trackRow x) := by
  unfold State.trackRow
  dsimp only
  split
  · refine (setGate ?_).trans (of_gates (State.gates_flagEvent ..))
    rfl
  · exact setGate rfl

theorem memCe (s : State) (a scrub : Nat) : s.HardKept (s.memCe a scrub) :=
  ((of_gates rfl : s.HardKept (s.bump ..)).trans (.errorAt ..)).trans ((of_gates (State.gates_flagEvent ..)).trans (trackRow ..))

/-- Stored poison, a good codeword, an error corrected, one found and one missed all leave the hard repairs as they are. -/
theorem decodeBlock (s : State) (a fresh scrub : Nat) : s.HardKept (s.decodeBlock a fresh scrub).2 := by
  refine (setFlaw s a 0).trans ?_
  simp only [State.decodeBlock]
  split
  · exact (errorAt ..).trans (memUe ..)
  · split
    · exact of_gates rfl
    · split
      · exact memCe ..
      · split
        · refine ((of_gates ?_).trans (errorAt ..)).trans ((memUe ..).trans (of_gates rfl))
          split <;> rfl
        · exact of_gates rfl

theorem copyRow (s : State) (g channel bank row : Nat) (symbols : List Nat) : s.HardKept (s.copyRow g channel bank row symbols) :=
  foldl_keeps s.HardKept _ (fun u _ hu => hu.trans (decodeBlock u ..)) _ s ⟨fun _ => rfl⟩

end State.HardKept

/-! Row repairs (R240-R242, R253). -/

/-- A repair of a gate closed with a result, before a REPAIR_FAIL. -/
def State.repairClosed (s : State) (g : Nat) (r : Repair) (result : Nat) : State :=
  (((s.setGate g { s.gate g with repair := none }).setFld Fld.REPAIR_STATUS_BUSY g 0).setFld Fld.REPAIR_STATUS_RESULT g result).setFld
    Fld.REPAIR_STATUS_SPARES_LEFT g (s.sparesLeft g r.channel r.bank)

section
variable (s : State) (g : Nat) (r : Repair) (result : Nat)

theorem State.repairDone_eq : s.repairDone g r result =
    if 2 ≤ result then (s.repairClosed g r result).repairFail g r result else s.repairClosed g r result := rfl

@[simp] theorem State.gate_repairDone : (s.repairDone g r result).gate g = { s.gate g with repair := none } := by
  have hgates : (s.repairDone g r result).gates = (s.repairClosed g r result).gates := by
    rw [State.repairDone_eq]
    split
    · exact State.gates_flagEvent ..
    · rfl
  rw [State.gate_of_gates hgates]
  exact State.gate_setGate_same ..

theorem State.fld_repairDone {f : Fld} (hf : f.reg = .repairStatus) :
    (s.repairDone g r result).fld f g = (s.repairClosed g r result).fld f g := by
  rw [State.repairDone_eq]
  split
  · rw [State.fld, State.repairFail, State.reg_flagEvent _ _ _ _ _ _ _ _ (by simp [hf]) (by simp [hf, Fld.GATE_ERR_REPAIR_FAIL])]
    rfl
  · rfl

@[simp] theorem State.busy_repairDone : (s.repairDone g r result).flag Fld.REPAIR_STATUS_BUSY g = false := by
  rw [State.flag, State.fld_repairDone _ _ _ _ rfl, State.repairClosed, State.fld_setFld_field _ _ (by decide) (by decide),
    State.fld_setFld_field _ _ (by decide) (by decide), State.fld_setFld_same _ _ _ _ (by decide)]
  rfl

theorem State.result_repairDone {result : Nat} (hresult : result < 8) :
    (s.repairDone g r result).fld Fld.REPAIR_STATUS_RESULT g = result := by
  rw [State.fld_repairDone _ _ _ _ rfl, State.repairClosed, State.fld_setFld_field _ _ (by decide) (by decide),
    State.fld_setFld_same _ _ _ _ (by decide)]
  exact Nat.mod_eq_of_lt hresult

end

/-- A repair that is asked for, with none in progress and not refused, waits for its window (R240-R242, R253). -/
theorem State.askRepair_asked {s : State} {g : Nat} {r : Repair} (hidle : s.flag Fld.REPAIR_STATUS_BUSY g = false) (hop : r.op ≠ 0)
    (hhard : r.op = 2 → s.launched = false) (a : Nat) :
    let u := s.askRepair g r a
    u.flag Fld.REPAIR_STATUS_BUSY g = true ∧ (u.gate g).repair = some r ∧ ∀ b, u.byte b = s.byte b := by
  have hrefused : (decide (r.op = 2) && s.launched) = false := by
    by_cases h : r.op = 2
    · rw [hhard h, Bool.and_false]
    · rw [decide_eq_false h, Bool.false_and]
  simp only [State.askRepair, hidle, Bool.false_eq_true, if_false, if_neg hop, hrefused]
  refine ⟨?_, by simp, fun b => by simp⟩
  rw [State.flag, State.fld_setFld_same _ _ _ _ (by decide)]
  rfl

/-- A hard repair is refused while a program is launched (R241). -/
theorem State.askRepair_launched {s : State} {g : Nat} {r : Repair} (hidle : s.flag Fld.REPAIR_STATUS_BUSY g = false) (hop : r.op = 2)
    (hlaunched : s.launched = true) (a : Nat) : s.askRepair g r a = s.repairDone g r 3 := by
  simp [State.askRepair, hidle, hop, hlaunched]

section
variable {s : State} {g : Nat} {r : Repair} (hrepair : (s.gate g).repair = some r) (hmarch : s.marched g = false)
include hrepair hmarch

theorem State.repairWindow_soft (hop : r.op = 1) (spare entry : Nat) (symbols : List Nat) (burnt : Bool) :
    s.repairWindow g spare entry symbols burnt = s.softRepair g r spare entry symbols := by
  simp only [State.repairWindow, hrepair, hmarch, hop, Bool.false_eq_true, if_false]

theorem State.repairWindow_hard (hop : r.op = 2) (hlaunched : s.launched = false) (spare entry : Nat) (symbols : List Nat) (burnt : Bool) :
    s.repairWindow g spare entry symbols burnt = s.hardRepair g r spare symbols burnt := by
  simp only [State.repairWindow, hrepair, hmarch, hop, hlaunched, Bool.false_eq_true, if_false]

end

/-- A soft repair that finds a spare and an entry redirects its row, and writes that to the journal (R240, R242). -/
theorem State.softRepair_done {s : State} {g : Nat} {r : Repair} {spare entry sp k : Nat} (hspare : s.pickSpare g r spare = some sp)
    (hentry : s.pickEntry g r.channel entry = some k) (symbols : List Nat) :
    let h : HardRepair := ⟨r.channel, r.bank, r.row, sp⟩
    s.softRepair g r spare entry symbols =
      (((s.copyRow g r.channel r.bank r.row symbols).setSoft g r.channel k (some h)).journalise (.softRepair g h true)).repairDone
        g r 1 := by
  simp only [State.softRepair, hspare, hentry]

/-- A gate with one more row burnt (R241). -/
def State.rowBurnt (s : State) (g : Nat) (h : HardRepair) : State :=
  (s.setGate g { s.gate g with hard := (s.gate g).hard ++ [h] }).bump Fld.GATE_STATUS_HARD_USED g 1

@[simp] theorem State.hard_rowBurnt (s : State) (g : Nat) (h : HardRepair) :
    ((s.rowBurnt g h).gate g).hard = (s.gate g).hard ++ [h] := by
  rw [State.rowBurnt, State.gate_bump, State.gate_setGate_same]

/-- A hard repair of a row that no soft repair redirects copies the row and burns its spare, or fails to burn it (R241). -/
theorem State.hardRepair_fresh {s : State} {g : Nat} {r : Repair} {spare sp : Nat} (hsoft : s.softOf g r.channel r.bank r.row = none)
    (hspare : s.pickSpare g r spare = some sp) (symbols : List Nat) (burnt : Bool) :
    let u := s.copyRow g r.channel r.bank r.row symbols
    s.hardRepair g r spare symbols burnt =
      (if burnt then u.rowBurnt g ⟨r.channel, r.bank, r.row, sp⟩ else u).repairDone g r (if burnt then 1 else 4) := by
  simp only [State.hardRepair, hsoft, hspare]
  cases burnt <;> rfl

/-! Temperature and the watch select (R231, R232, R245). -/

/-- A reading above the row in force heats the gate at once (R231, R232). -/
theorem State.tempReading_hotter {s : State} {g c : Nat} (hup : 2 ≤ s.fld Fld.GATE_STATUS_STATE g)
    (hfive : s.fld Fld.GATE_STATUS_STATE g ≠ 5) (hheat : (s.gate g).heat < heatRow c) :
    s.tempReading g c =
      (((s.setGate g { s.gate g with readings := (c :: (s.gate g).readings).take readings10ms }).setFld Fld.GATE_TEMP_TEMP_NOW g c).setFld
        Fld.GATE_TEMP_TEMP_MAX g (max c (s.fld Fld.GATE_TEMP_TEMP_MAX g))).setHeat g (heatRow c) c := by
  have hruns : (decide (s.fld Fld.GATE_STATUS_STATE g < 2) || decide (s.fld Fld.GATE_STATUS_STATE g = 5)) = false := by
    simp [hfive, Nat.not_lt.2 hup]
  simp only [State.tempReading, hruns, Bool.false_eq_true, if_false, if_pos hheat]

/-- With scrubbing on and bursts to be had, the walk of a gate goes one codeword further (R237). -/
theorem State.scrub_gate {s : State} {g : Nat} (hon : s.fld Fld.GATE_CFG_SCRUB_HOURS g ≠ 0) (hfree : s.gateHeld g = false)
    (symbols : Nat) :
    ((s.scrub g symbols).gate g).scrub = ((s.gate g).scrub + 1) % scrubSize := by
  have hruns : (decide (s.fld Fld.GATE_CFG_SCRUB_HOURS g = 0) || s.gateHeld g) = false := by
    rw [decide_eq_false hon, hfree]
    rfl
  simp only [State.scrub, hruns, Bool.false_eq_true, if_false, State.gate_setGate_same]

/-- The state with an entry of a watch table latched (R245). -/
def State.watchLatched (s : State) (g index : Nat) (e : WatchEntry) : State :=
  ((s.setFld Fld.WATCH_SEL_INDEX g index).setReg .watchW0 g e.words.1).setReg .watchW1 g e.words.2

theorem State.watchSel_some {s : State} {g index n : Nat} {e : WatchEntry}
    (hentry : s.watch.find? (fun e => e.1 = watchSize * g + index) = some (n, e)) : s.watchSel g index = s.watchLatched g index e := by
  simp only [State.watchSel, hentry, State.watchLatched]

theorem State.watchLatched_spec (s : State) (g : Nat) (index : Fin 256) (e : WatchEntry) :
    let u := s.watchLatched g index.val e
    u.fld Fld.WATCH_SEL_INDEX g = index.val ∧ u.reg .watchW0 g = e.words.1 ∧ u.reg .watchW1 g = e.words.2 ∧
      ∀ b, u.byte b = s.byte b := by
  have hother {r : RegName} (h : r ≠ .watchW1) : (s.watchLatched g index.val e).reg r g =
      ((s.setFld Fld.WATCH_SEL_INDEX g index.val).setReg .watchW0 g e.words.1).reg r g :=
    State.reg_setReg_other _ _ (fun hr => h hr.1)
  refine ⟨?_, (hother (by decide)).trans (State.reg_setReg_same ..), State.reg_setReg_same .., fun _ => rfl⟩
  rw [State.fld, hother (by decide), State.reg_setReg_other _ _ (fun h => absurd h.1 (by decide))]
  exact (State.fld_setFld_same s Fld.WATCH_SEL_INDEX g index.val (by decide)).trans (Nat.mod_eq_of_lt index.isLt)

/-- Settles O12: each command has its effect, case by case; a transfer, a notice and an error left elsewhere do not touch the block that is
written, and the copy of a row leaves the burnt repairs as they were. -/
theorem gateCommandsRun : Obligations.GateCommandsRun := by
  refine ⟨fun s cls addr len bs up ha hlen hend hfree hgood => runs_gateAccess_whole ha hlen hend hfree hgood cls len,
    fun s cls addr len up hend hheld => congrArg _ (State.gateAccess_blocked hend hheld cls false up), fun s g => rfl,
    fun s g symbols hon hfree => ⟨_, rfl, State.scrub_gate hon hfree symbols⟩,
    fun s g c hup hfive hheat => congrArg _ (State.tempReading_hotter hup hfive hheat),
    fun s g channel bank row hidle => ?asked,
    fun s g spare entry symbols burnt r sp k hrepair hop hmarch hspare hentry => ?soft,
    fun s g spare entry symbols burnt r sp hrepair hop hmarch hlaunched hsoft hspare => ?hard,
    fun s g index e hentry => ?watch⟩
  case asked =>
    exact ⟨⟨_, rfl, State.askRepair_asked hidle (by simp) (by simp) _⟩,
      fun hlaunched => ⟨_, rfl, State.askRepair_asked hidle (by simp) (fun _ => hlaunched) _⟩,
      fun hlaunched => ⟨_, congrArg Host.Outcome.next (State.askRepair_launched hidle rfl hlaunched _),
        State.result_repairDone _ _ _ (by decide), by simp⟩,
      ⟨_, rfl, State.askRepair_asked hidle (by simp) (by simp) _⟩⟩
  case soft =>
    have hdone := (State.repairWindow_soft hrepair hmarch hop spare.val entry.val symbols burnt).trans
      (State.softRepair_done hspare hentry symbols)
    exact ⟨_, congrArg Host.Outcome.next hdone, by simp, by simp, State.result_repairDone _ _ _ (by decide),
      List.mem_append_right _ (List.mem_singleton.2 rfl)⟩
  case hard =>
    have hdone := (State.repairWindow_hard hrepair hmarch hop hlaunched spare.val entry.val symbols burnt).trans
      (State.hardRepair_fresh hsoft hspare symbols burnt)
    have hcopied := (State.HardKept.copyRow s g r.channel r.bank r.row symbols).hard g
    refine ⟨_, congrArg Host.Outcome.next hdone, by simp, by simp, State.result_repairDone _ _ _ (by split <;> decide), ?_⟩
    rw [State.gate_repairDone]
    cases burnt
    case false => simpa using hcopied
    case true => simp [hcopied]
  case watch => exact ⟨_, congrArg Host.Outcome.next (State.watchSel_some hentry), State.watchLatched_spec ..⟩

end Sys2Proof.Machine
end

section
/-! PROOFS. The moves of extents: their start, eviction from the pool and bring-up into it (R264, R266, R270-R272, R284). -/
namespace Sys2Proof.Machine
open Sys2Proof

/-! The start of a move (R266, R284). -/

/-- The pool's configuration in force once move `m` has its frames: it is read anew where a pooled extent takes some (R284). -/
def State.poolCfgFor (s : State) (m : Move) : Word :=
  if m.tier = 0 && (s.object m.object).pooled then s.reg .homeCfg 0 else s.poolCfg

/-- A move that begins changes the pool's configuration in force, the home table and the list of moves, nothing else of the state. -/
theorem State.startMove_eq (s : State) (m : Move) : s.startMove m = { s with
    poolCfg := s.poolCfgFor m
    homes := (s.markMoving (s.moveEntry m)).homes
    moves := s.moves ++ [{ m with stage := .marked }] } := by
  simp only [State.startMove, State.poolCfgFor]
  split <;> rfl

@[simp] theorem State.moves_startMove (s : State) (m : Move) : (s.startMove m).moves = s.moves ++ [{ m with stage := .marked }] := by
  rw [State.startMove_eq]

@[simp] theorem State.poolCfg_startMove (s : State) (m : Move) : (s.startMove m).poolCfg = s.poolCfgFor m := by
  rw [State.startMove_eq]

@[simp] theorem State.mem_startMove (s : State) (m : Move) : (s.startMove m).mem = s.mem := by
  rw [State.startMove_eq]

theorem State.home_of_homes {s u : State} (h : u.homes = s.homes) (i : Nat) : u.home i = s.home i :=
  congrArg (NMap.look (fun _ => HomeEntry.init) · i) h

theorem State.byte_of_mem {s u : State} (h : u.mem = s.mem) (b : Nat) : u.byte b = s.byte b :=
  congrArg (NMap.look memDflt · b) h

@[simp] theorem State.home_setHome_same (s : State) (i : Nat) (x : HomeEntry) : (s.setHome i x).home i = x := NMap.look_put_same ..

theorem State.home_setHome_other (s : State) {i j : Nat} (x : HomeEntry) (hne : j ≠ i) : (s.setHome i x).home j = s.home j :=
  NMap.look_put_other _ _ _ hne

/-- The extent that is marked moves. -/
theorem State.moving_markMoving_same (s : State) (i : Nat) : ((s.markMoving i).home i).moving = true := by
  rw [State.markMoving, State.home_setHome_same]

/-- What moves goes on moving while extents are marked. -/
theorem State.moving_markMoving {s : State} {j : Nat} (h : (s.home j).moving = true) (i : Nat) :
    ((s.markMoving i).home j).moving = true := by
  by_cases hij : j = i
  · rw [hij]
    exact State.moving_markMoving_same s i
  · rw [State.markMoving, State.home_setHome_other _ _ hij]
    exact h

theorem State.moving_startMove (s : State) (m : Move) : ((s.startMove m).home (s.moveEntry m)).moving = true := by
  rw [State.home_of_homes (s := s.markMoving (s.moveEntry m)) (by rw [State.startMove_eq])]
  exact State.moving_markMoving_same ..

/-! The move of an extent (R264, R266). -/

section
variable {s : State} {entry : Nat} {m : Move} (hmove : s.moves.find? (fun m => s.moveEntry m = entry && m.stage != .queued) = some m)
include hmove

/-- A marked extent that no transfer uses and that the stacks do not keep waiting is copied. -/
theorem State.extentMove_marked (hstage : m.stage = .marked) (hfree : s.entryBusy entry = false) (hopen : s.moveBlocked m = false)
    (remote : List Byte) (u : Upset) : s.extentMove entry remote u = s.moveExtent m remote u := by
  simp only [State.extentMove, hmove, if_pos hstage, hfree, hopen, Bool.or_self, Bool.false_eq_true, if_false]

/-- A move whose tiles are copied goes on. -/
theorem State.extentMove_copied (hstage : m.stage ≠ .marked) (remote : List Byte) (u : Upset) :
    s.extentMove entry remote u = s.moveOn m := by
  simp only [State.extentMove, hmove, if_neg hstage]

end

/-! Eviction from the pool (R270). -/

/-- `u` is `s` after evictions have begun: their moves are marked and stand after those of `s`, and no byte is changed yet. -/
structure State.EvictsMore (s u : State) : Prop where
  moves : ∃ ms, u.moves = s.moves ++ ms ∧ ∀ m ∈ ms, m.cause = .evict ∧ m.stage = .marked
  mem : u.mem = s.mem

namespace State.EvictsMore

theorem refl (s : State) : s.EvictsMore s := ⟨⟨[], by simp⟩, rfl⟩

theorem trans {s u v : State} (h : s.EvictsMore u) (k : u.EvictsMore v) : s.EvictsMore v := by
  obtain ⟨ms, hms, hevict⟩ := h.moves
  obtain ⟨ns, hns, hevict'⟩ := k.moves
  refine ⟨⟨ms ++ ns, by rw [hns, hms, List.append_assoc], fun m hm => ?_⟩, k.mem.trans h.mem⟩
  exact (List.mem_append.1 hm).elim (hevict m) (hevict' m)

theorem mem_moves {s u : State} (h : s.EvictsMore u) {m : Move} (hm : m ∈ s.moves) : m ∈ u.moves := by
  obtain ⟨ms, hms, -⟩ := h.moves
  rw [hms]
  exact List.mem_append_left ms hm

theorem startEvict (s : State) (i : Nat) : s.EvictsMore (s.startEvict i) := by
  unfold State.startEvict
  split
  · exact ⟨⟨_, State.moves_startMove .., by simp⟩, State.mem_startMove ..⟩
  · exact refl s

theorem evictTo (target fuel : Nat) (s : State) : s.EvictsMore (State.evictTo target fuel s) := by
  induction fuel generalizing s with
  | zero => exact refl s
  | succ fuel ih =>
    rw [State.evictTo]
    split
    · exact refl s
    · split
      · exact refl s
      · exact (startEvict s _).trans (ih _)

end State.EvictsMore

/-- Where an extent is the oldest of the evictable ones, there are evictable ones. -/
theorem State.evictable_ne_nil {s : State} {i : Nat} (h : s.oldest = some i) : s.evictable ≠ [] := by
  intro hnil
  rw [State.oldest, hnil] at h
  cases h

/-- The first eviction is that of the oldest extent, whose move is marked and stays so while others begin. -/
theorem State.mem_moves_evictTo {s : State} {target i n k : Nat} (hshort : s.freeFrames + s.leaving < target)
    (holdest : s.oldest = some i) (howner : s.ownerOf i = some (n, k)) :
    (⟨n, k, 1, (s.home i).backing % 2 ^ 48, .evict, .marked, false⟩ : Move) ∈ (State.evictTo target s.evictable.length s).moves := by
  obtain ⟨fuel, hfuel⟩ := Nat.exists_eq_succ_of_ne_zero (mt List.length_eq_zero_iff.1 (State.evictable_ne_nil holdest))
  rw [hfuel, State.evictTo, if_neg (Nat.not_le.2 hshort), holdest]
  refine (State.EvictsMore.evictTo target fuel (s.startEvict i)).mem_moves ?_
  simp [State.startEvict, howner]

theorem State.poolEvict_short {s : State} (h : s.freeFrames < s.reserveFrames) :
    s.poolEvict = State.evictTo (2 * s.reserveFrames) s.evictable.length s := if_pos h

/-! Bring-up into the pool (R271, R272). -/

/-- The state whose pool has no frame for extent `k` of object `n` and none to come (R272). -/
def State.poolShort (s : State) (n k : Nat) : State :=
  (s.setFld Fld.HOME_STATUS_EXHAUSTED 0 1).flagEvent Fld.HOME_ERR_POOL_EXHAUSTED 0 .poolExhausted 0 0
    (n % 2 ^ 22 + k * 2 ^ 21 % 2 ^ 40 * 2 ^ 22)

section
variable {s : State} {entry frame n k : Nat} (hasked : entry ∈ s.bringUps) (hstill : (s.home entry).moving = false)
  (hhost : (s.home entry).tier = 1) (howner : s.ownerOf entry = some (n, k))
include hasked hstill hhost howner

/-- An awaited extent in host memory begins its move into a free frame. -/
theorem State.bringUp_free (hframe : s.frameFree frame = true) :
    s.bringUp entry frame = s.startMove ⟨n, k, 0, 2 ^ 21 * frame, .bringUp, .marked, false⟩ := by
  simp [State.bringUp, hasked, hstill, hhost, howner, hframe]

/-- With no frame free, none on its way out and none that can be evicted, the pool is exhausted. -/
theorem State.bringUp_exhausted (hframe : s.frameFree frame = false) (hnone : s.freeFrames = 0) (hleaving : s.leaving = 0)
    (hevictable : s.evictable = []) (hfirst : s.flag Fld.HOME_STATUS_EXHAUSTED 0 = false) :
    s.bringUp entry frame = s.poolShort n k := by
  simp [State.bringUp, State.poolShort, hasked, hstill, hhost, howner, hframe, hnone, hleaving, hevictable, hfirst]

end

/-- The flag of an event is set, whether it was before or not (R463). -/
theorem State.flag_flagEvent (s : State) {f : Fld} (hreg : f.reg ≠ .evtCount) (hlo : f.lo + f.width ≤ 64) (hwidth : 0 < f.width)
    (i : Nat) (c : Code) (srcKind srcIndex detail : Nat) : (s.flagEvent f i c srcKind srcIndex detail).flag f i = true := by
  unfold State.flagEvent
  split
  · next h => exact h
  · have hone : 1 % 2 ^ f.width = 1 := Nat.mod_eq_of_lt (Nat.one_lt_two_pow (Nat.pos_iff_ne_zero.1 hwidth))
    rw [State.flag, State.fld, State.event, State.reg_notify _ _ _ _ _ _ _ _ hreg]
    exact bne_iff_ne.2 (by rw [← State.fld, State.fld_setFld_same s f i 1 hlo, hone]; exact Nat.one_ne_zero)

theorem State.poolShort_spec (s : State) (n k : Nat) :
    (s.poolShort n k).flag Fld.HOME_STATUS_EXHAUSTED 0 = true ∧ (s.poolShort n k).flag Fld.HOME_ERR_POOL_EXHAUSTED 0 = true ∧
      (s.poolShort n k).moves = s.moves ∧ ∀ b, (s.poolShort n k).byte b = s.byte b := by
  refine ⟨?_, State.flag_flagEvent _ (by decide) (by decide) (by decide) .., ?_, State.byte_of_mem ?_⟩
  · rw [State.poolShort, State.flag, State.fld, State.reg_flagEvent _ _ _ _ _ _ _ _ (by decide) (by decide), ← State.fld,
      State.fld_setFld_same _ _ _ _ (by decide)]
    rfl
  · rw [State.poolShort, State.flagEvent_eq]
    rfl
  · rw [State.poolShort, State.flagEvent_eq]
    rfl

/-- Settles O13: each move has its effect, case by case; evictions begin one after another, and what has begun stays in the list of
moves. -/
theorem poolCommandsRun : Obligations.PoolCommandsRun := by
  refine ⟨fun s entry remote upset m hmove =>
      ⟨fun hstage hfree hopen => congrArg _ (State.extentMove_marked hmove hstage hfree hopen remote upset),
        fun hstage => congrArg _ (State.extentMove_copied hmove hstage remote upset)⟩,
    fun s hshort => ?evict, fun s entry frame n k hasked hstill hhost howner => ⟨fun hframe => ?bringUp, ?exhausted⟩⟩
  case evict =>
    have hevicts := State.EvictsMore.evictTo (2 * s.reserveFrames) s.evictable.length s
    exact ⟨_, congrArg Host.Outcome.next (State.poolEvict_short hshort), hevicts.moves,
      fun i n k hless holdest howner => State.mem_moves_evictTo hless holdest howner, State.byte_of_mem hevicts.mem⟩
  case bringUp =>
    refine ⟨_, congrArg Host.Outcome.next (State.bringUp_free hasked hstill hhost howner hframe), State.moves_startMove ..,
      State.moving_startMove .., ?_, State.byte_of_mem (State.mem_startMove ..)⟩
    simp [State.poolCfgFor]
  case exhausted =>
    exact fun hframe hnone hleaving hevictable hfirst => ⟨_, congrArg Host.Outcome.next
      (State.bringUp_exhausted hasked hstill hhost howner hframe hnone hleaving hevictable hfirst), State.poolShort_spec s n k⟩

end Sys2Proof.Machine
end

section
/-! PROOFS. The end of a command in a mailbox slot: what its reply holds and what it leaves as it was (R449, R451, R456). -/
namespace Sys2Proof.Machine
open Sys2Proof

/-! A packet whose turn it is (R449, R450, R452). -/

theorem State.onPacket_runs {s : State} {k : MailIx} {op : Nat} {p : Packet} (h : s.runsPacket k op p) (f : Packet → State) :
    s.onPacket k op f = f p := by
  obtain ⟨hrunning, hop, -, hturn⟩ := h
  simp [State.onPacket, hrunning, hop, hturn]

theorem State.runsPacket.running {s : State} {k : MailIx} {op : Nat} {p : Packet} (h : s.runsPacket k op p) :
    (s.mailSlot k.val).running = some p := h.1

theorem State.runsPacket.begun {s : State} {k : MailIx} {op : Nat} {p : Packet} (h : s.runsPacket k op p) : p.begun = false :=
  h.2.2.1

@[simp] theorem State.mailSlot_setMail_same (s : State) (k : Nat) (x : MailSlot) : (s.setMail k x).mailSlot k = x :=
  NMap.look_put_same ..

/-! Requests to host memory and notices (R439, R463). -/

/-- `u` is `s` after requests to host memory and notices: the counters of commands and events, host memory with the requests to it, the
notices and the journal may differ, nothing else. -/
structure State.Sent (s u : State) : Prop where
  eq : u = { s with
    regs := u.regs
    mem := u.mem
    deckFlips := u.deckFlips
    outbox := u.outbox
    jwBusy := u.jwBusy
    jwTag := u.jwTag
    jwHeld := u.jwHeld
    notices := u.notices
    journalWrites := u.journalWrites }
  reg : ∀ r i, r ≠ .cmdCount → r ≠ .evtCount → u.reg r i = s.reg r i

namespace State.Sent

theorem refl (s : State) : s.Sent s := ⟨rfl, fun _ _ _ _ => rfl⟩

theorem trans {s u v : State} (h : s.Sent u) (k : u.Sent v) : s.Sent v where
  eq := by rw [k.eq, h.eq]
  reg r i hr hr' := (k.reg r i hr hr').trans (h.reg r i hr hr')

theorem jwWrite (s : State) (k : JwKind) (a : Nat) (bs : List Byte) : s.Sent (s.jwWrite k a bs) := by
  unfold State.jwWrite
  split
  · cases k <;> exact ⟨rfl, fun _ _ _ _ => rfl⟩
  · exact ⟨rfl, fun _ _ _ _ => rfl⟩

theorem sendReply (s : State) (k : Nat) : s.Sent (s.sendReply k) := by
  unfold State.sendReply
  split
  · exact jwWrite ..
  · exact refl s

theorem event (s : State) (c : Code) (srcKind srcIndex detail : Nat) : s.Sent (s.event c srcKind srcIndex detail) where
  eq := by
    rw [State.event, State.notify_eq]
  reg _ i _ hr := State.reg_notify _ _ _ _ _ _ _ i hr

theorem refused (s : State) (n : Nat) : s.Sent (s.bump Fld.CMD_COUNT_REFUSED 0 n) where
  eq := rfl
  reg _ _ hr _ := (State.reg_setFld ..).trans (if_neg (fun h => hr h.1))

section
variable {s u : State} (h : s.Sent u)
include h

theorem mailSlot (k : Nat) : u.mailSlot k = s.mailSlot k := by rw [h.eq]; rfl

theorem window (i : Nat) : u.window i = s.window i := by rw [h.eq]; rfl

theorem fld {f : Fld} (hf : f.reg ≠ .cmdCount ∧ f.reg ≠ .evtCount) (i : Nat) : u.fld f i = s.fld f i :=
  congrArg f.ofWord (h.reg f.reg i hf.1 hf.2)

end

end State.Sent

/-! The end of a command (R451, R456). -/

/-- The state whose slot `k` has completed packet `p` and keeps the reply, before the reply is sent (R451). -/
def State.replyKept (s : State) (k : Nat) (p : Packet) (c : Cc) (detail : Nat) (result : List Byte) : State :=
  let s1 := (s.setMail k { s.mailSlot k with running := none }).countRunning
  s1.setMail k { s1.mailSlot k with
    reply := s1.replyBytes p 2 c.num detail result
    written := false }

/-- A command that ends keeps its reply; the rest is requests to host memory and notices. -/
theorem State.sent_finish {s : State} {k : Nat} {p : Packet} (h : (s.mailSlot k).running = some p) (c : Cc) (detail : Nat)
    (result : List Byte) : (s.replyKept k p c detail result).Sent (s.finish k c detail result) := by
  have hsent := State.Sent.sendReply (s.replyKept k p c detail result) k
  simp only [State.finish, h]
  have hcount (u : State) : u.Sent (if c = .ok then u else u.bump Fld.CMD_COUNT_REFUSED 0 1) := by
    split
    · exact .refl u
    · exact .refused u 1
  split
  · exact (hsent.trans (hcount _)).trans (.event ..)
  · exact hsent.trans (hcount _)

theorem State.window_finish (s : State) (k : Nat) (c : Cc) (detail : Nat) (result : List Byte) (i : Nat) :
    (s.finish k c detail result).window i = s.window i := by
  cases h : (s.mailSlot k).running with
  | none => rw [State.finish, h]
  | some p => exact (State.sent_finish h c detail result).window i

/-- The end of a command writes CMD_STATUS and the counters of commands and events alone. -/
theorem State.fld_finish (s : State) (k : Nat) (c : Cc) (detail : Nat) (result : List Byte) {f : Fld}
    (hf : f.reg ≠ .cmdStatus ∧ f.reg ≠ .cmdCount ∧ f.reg ≠ .evtCount) (i : Nat) :
    (s.finish k c detail result).fld f i = s.fld f i := by
  obtain ⟨hstatus, hcounts⟩ := hf
  cases h : (s.mailSlot k).running with
  | none => rw [State.finish, h]
  | some p =>
    refine ((State.sent_finish h c detail result).fld hcounts i).trans ?_
    exact State.fld_setFld_reg (s.setMail k { s.mailSlot k with running := none }) _ (fun hr => hstatus hr.1)

theorem length_zeroPad (n : Nat) (bs : List Byte) : (zeroPad n bs).length = n := by
  simp only [zeroPad, List.length_append, List.length_take, List.length_replicate]
  omega

/-- A command that ends leaves its STATUS and its result in the reply of its slot (R451). -/
theorem State.replied_finish {s : State} {k : MailIx} {p : Packet} (h : (s.mailSlot k.val).running = some p) (c : Cc) (detail : Nat)
    (result : List Byte) : (s.finish k.val c detail result).replied k c result := by
  rw [State.replied, (State.sent_finish h c detail result).mailSlot, State.replyKept, State.mailSlot_setMail_same]
  refine ⟨?_, rfl, List.take_of_length_le (Nat.le_of_eq (length_zeroPad 40 result))⟩
  exact congrArg MailSlot.running (State.mailSlot_setMail_same s k.val { s.mailSlot k.val with running := none })

end Sys2Proof.Machine
end

section
/-! PROOFS. The commands on objects, windows and the power budget (R265, R266, R277, R281, R321). -/
namespace Sys2Proof.Machine
open Sys2Proof

/-! MAP_OBJECT (R265). -/

@[simp] theorem State.mem_jwRead (s : State) (a n : Nat) (shared : Bool) : (s.jwRead a n shared).mem = s.mem := by
  refine State.mem_foldl _ (fun s i => ?_) _ s
  unfold State.jwWrite
  split <;> rfl

/-- The state that has read the entries of a MAP_OBJECT, where they are in host memory (R455). -/
def State.entriesRead (s : State) (p : Packet) : State :=
  if p.record.valid && p.le 24 8 != 0 then s.jwRead (p.le 24 8) (32 * p.record.count) false else s

theorem State.mem_entriesRead (s : State) (p : Packet) : (s.entriesRead p).mem = s.mem := by
  unfold State.entriesRead
  split
  · exact State.mem_jwRead ..
  · rfl

/-- The read of the entries does not change them. -/
theorem State.homeEntries_entriesRead (s : State) (p : Packet) : (s.entriesRead p).homeEntries p = s.homeEntries p := by
  simp only [State.homeEntries, State.bytes, State.mem_entriesRead]

/-- A MAP_OBJECT that passes its checks, with no pooled extent under it and no transfer through its old entries, replaces the mapping. -/
theorem State.mapObject_replaces {s v : State} {k : MailIx} {p : Packet} {status : Fin 4} {es : List HomeEntry}
    (hruns : s.runsPacket k 0x0301 p) (hv : s.entriesRead p = v) (hes : (v.homeEntries p).map homeOf = es)
    (hread : p.record.valid = true → p.le 24 8 ≠ 0 → status = 0) (hranges : (v.homeEntries p).all (homeOk p.record.pooled) = true)
    (hfits : v.mapRefusal (p.le 0 4) (p.le 4 1 = 1) p.record es = none)
    (hclear : p.record.valid = true → p.record.pooled = false →
      v.coveredFrames (p.le 0 4) p.record es = [] ∧ v.coveredFills (p.le 0 4) p.record es = false)
    (hidle : (v.object (p.le 0 4)).valid = true → ∀ e ∈ v.entriesOf (p.le 0 4), v.entryBusy e.1 = false) :
    s.mapObject k status = (((v.beginPacket k.val).keepPacket k.val (fun q => q.withEntries (v.homeEntries p))).mapTo (p.le 0 4)
      (p.le 4 1 = 1) p.record es).finish k.val .ok 0 [] := by
  have hentries : s.homeEntries p = v.homeEntries p := by rw [← hv, State.homeEntries_entriesRead]
  have hgood : (p.record.valid && p.le 24 8 != 0 && status != 0) = false := by
    rw [Bool.eq_false_iff]
    simpa using hread
  have hframes : (if p.record.valid && !p.record.pooled then v.coveredFrames (p.le 0 4) p.record es else []) = [] := by
    split
    · next h =>
      obtain ⟨hvalid, hpinned⟩ : p.record.valid = true ∧ p.record.pooled = false := by simpa using h
      exact (hclear hvalid hpinned).1
    · rfl
  have hfills : (p.record.valid && !p.record.pooled && v.coveredFills (p.le 0 4) p.record es) = false := by
    rw [Bool.eq_false_iff]
    simpa using fun hvalid hpinned => (hclear hvalid hpinned).2
  have hfree : ((v.object (p.le 0 4)).valid && (v.entriesOf (p.le 0 4)).any (fun e => v.entryBusy e.1)) = false := by
    rw [Bool.eq_false_iff]
    simpa using fun hvalid a b hab => hidle hvalid (a, b) hab
  rw [State.entriesRead] at hv
  rw [State.mapObject, State.onPacket_runs hruns]
  simp only [hentries, hruns.begun, Bool.not_false, Bool.true_and, hv, hgood, hranges, hes, hfits, hframes, hfills, hfree, Bool.not_true,
    Bool.or_self, Bool.false_eq_true, if_false, List.isEmpty_nil]

/-! MOVE_OBJECT (R266). -/

/-- The moves that a MOVE_OBJECT queues, in increasing order of the extents. -/
def State.queuedMoves (s : State) (k : MailIx) (p : Packet) : List Move :=
  (List.range (p.le 8 4)).map (fun i => ⟨p.le 0 4, p.le 4 4 + i, p.le 12 1, p.le 16 8 + i * 2 ^ (s.object (p.le 0 4)).extentLog2,
    .command k.val, .queued, false⟩)

/-- The state of a MOVE_OBJECT whose work has begun, before the first turn. -/
def State.movesQueued (s : State) (k : MailIx) (p : Packet) : State :=
  { s.beginPacket k.val with moves := s.moves ++ s.queuedMoves k p }

section
variable {s : State} {k : MailIx} {p : Packet} (hruns : s.runsPacket k 0x0302 p)
  (hmay : s.moveRefusal (p.le 0 4) (p.le 4 4) (p.le 8 4) (p.le 12 1) (p.le 16 8) = none)
include hruns hmay

theorem State.moveObject_none (hcount : p.le 8 4 = 0) : s.moveObject k = s.finish k.val .ok 0 (leBytes 4 0) := by
  rw [State.moveObject, State.onPacket_runs hruns]
  simp only [hruns.begun, hmay, if_pos hcount, Bool.false_eq_true, if_false]

theorem State.moveObject_some (hcount : p.le 8 4 ≠ 0) : s.moveObject k = (s.movesQueued k p).nextTurns := by
  rw [State.moveObject, State.onPacket_runs hruns]
  simp only [hruns.begun, hmay, if_neg hcount, Bool.false_eq_true, if_false]
  rfl

end

/-- A queued move has its turn: its extent is marked (R266). -/
def State.turnTaken (s : State) (m : Move) : State := { s with
  poolCfg := s.poolCfgFor m
  homes := (s.markMoving (s.moveEntry m)).homes
  moves := s.moves.map (fun x => if x = m then { m with stage := .marked } else x) }

/-- Is a move the first of the command in mailbox slot `k`, still queued, of an extent that does not move yet (R266)? -/
def State.mayTurn (s : State) (k : Nat) (m : Move) : Bool :=
  s.moves.find? (fun x => x.ofCommand k) = some m && m.stage = .queued && !(s.home (s.moveEntry m)).moving

/-- A move is offered its turn, and takes it where it may (R266). -/
def State.offerTurn (s : State) (m : Move) : State :=
  match m.cause with
  | .command k => if s.mayTurn k m then s.turnTaken m else s
  | _ => s

/-- Every move is offered its turn, one after another. -/
theorem State.nextTurns_eq (s : State) : s.nextTurns = s.moves.foldl State.offerTurn s := by
  unfold State.nextTurns
  congr 1
  funext s m
  unfold State.offerTurn State.turnTaken State.poolCfgFor
  cases m.cause with
  | command k =>
    refine ite_congr rfl (fun _ => ?_) (fun _ => rfl)
    dsimp only
    split <;> rfl
  | evict => rfl
  | bringUp => rfl

theorem State.offerTurn_cases (s : State) (m : Move) : s.offerTurn m = s ∨ s.offerTurn m = s.turnTaken m := by
  unfold State.offerTurn
  split
  · split
    · exact .inr rfl
    · exact .inl rfl
  · exact .inl rfl

theorem State.mem_nextTurns (s : State) : s.nextTurns.mem = s.mem := by
  rw [State.nextTurns_eq]
  refine State.mem_foldl _ (fun s m => ?_) _ s
  obtain h | h := State.offerTurn_cases s m
  · rw [h]
  · rw [h]
    rfl

/-- What moves goes on moving while turns are offered. -/
theorem State.moving_offerTurn {s : State} {j : Nat} (h : (s.home j).moving = true) (m : Move) :
    ((s.offerTurn m).home j).moving = true := by
  obtain hturn | hturn := State.offerTurn_cases s m
  · rw [hturn]
    exact h
  · rw [hturn]
    exact State.moving_markMoving h (s.moveEntry m)

/-- The first move of a command takes its turn, or its extent moves already. -/
theorem State.moving_offerTurn_first {s : State} {m : Move} {k : Nat} (hcause : m.cause = .command k) (hstage : m.stage = .queued)
    (hfirst : s.moves.find? (fun x => x.ofCommand k) = some m) : ((s.offerTurn m).home (s.moveEntry m)).moving = true := by
  cases hmoving : (s.home (s.moveEntry m)).moving with
  | true => exact State.moving_offerTurn hmoving m
  | false =>
    have hmay : s.mayTurn k m = true := by simp [State.mayTurn, hfirst, hstage, hmoving]
    simp only [State.offerTurn, hcause, if_pos hmay]
    exact State.moving_markMoving_same s (s.moveEntry m)

/-- Where a command's queued move heads the list, its extent is marked in the pass. -/
theorem State.moving_nextTurns {s : State} {m : Move} {ms : List Move} {k : Nat} (hmoves : s.moves = m :: ms)
    (hcause : m.cause = .command k) (hstage : m.stage = .queued) : (s.nextTurns.home (s.moveEntry m)).moving = true := by
  have hfirst : s.moves.find? (fun x => x.ofCommand k) = some m := by simp [hmoves, Move.ofCommand, hcause]
  rw [State.nextTurns_eq, hmoves, List.foldl_cons]
  exact foldl_keeps (fun u => (u.home (s.moveEntry m)).moving = true) _ (fun _ x h => State.moving_offerTurn h x) ms _
    (State.moving_offerTurn_first hcause hstage hfirst)

/-- With no other move, the first extent of a MOVE_OBJECT is marked at once. -/
theorem State.moving_movesQueued {s : State} (k : MailIx) {p : Packet} (hcount : p.le 8 4 ≠ 0) (hnone : s.moves = []) :
    ((s.movesQueued k p).nextTurns.home ((s.object (p.le 0 4)).first + p.le 4 4)).moving = true := by
  obtain ⟨n, hn⟩ := Nat.exists_eq_succ_of_ne_zero hcount
  have hmoves : (s.movesQueued k p).moves = s.queuedMoves k p := congrArg (· ++ s.queuedMoves k p) hnone
  rw [State.queuedMoves, hn, List.range_succ_eq_map] at hmoves
  exact State.moving_nextTurns hmoves rfl rfl

/-! OPEN_WINDOW and CLOSE_WINDOW (R277, R281). -/

@[simp] theorem State.window_setWindow_same (s : State) (i : Nat) (x : Window) : (s.setWindow i x).window i = x := NMap.look_put_same ..

theorem State.window_setWindow_other (s : State) {i j : Nat} (x : Window) (hne : j ≠ i) : (s.setWindow i x).window j = s.window j :=
  NMap.look_put_other _ _ _ hne

/-- The window that an OPEN_WINDOW opens, at its epoch (R277). -/
def State.windowOpened (s : State) (p : Packet) : Window :=
  ⟨true, p.le 4 1 % 2 = 1, p.le 4 1 / 2 = 1, false, p.le 8 4, p.le 16 8, p.le 24 8, (s.window (p.le 0 4)).epoch, p.le 6 2⟩

theorem State.openWindow_opens {s : State} {k : MailIx} {p : Packet} (hruns : s.runsPacket k 0x0303 p)
    (hclosed : (s.window (p.le 0 4)).isOpen = false) (hused : (s.window (p.le 0 4)).retired = false)
    (hown : s.isMirrorCopy (p.le 8 4) = false) (hvalid : (s.object (p.le 8 4)).valid = true)
    (hrange : p.le 16 8 + p.le 24 8 ≤ (s.object (p.le 8 4)).size) (hroom : s.openWindows < 1048576) :
    s.openWindow k = (s.setWindow (p.le 0 4) (s.windowOpened p)).finish k.val .ok 0 (leBytes 4 (s.window (p.le 0 4)).epoch.toNat) := by
  rw [State.openWindow, State.onPacket_runs hruns]
  simp only [hclosed, hused, hown, hvalid, if_neg (Nat.not_lt.2 hrange), if_neg (Nat.not_le.2 hroom), Bool.or_self, Bool.not_true,
    Bool.false_eq_true, if_false]
  rfl

/-- A CLOSE_WINDOW shuts its window at once, whether it completes or waits for writes (R279). -/
theorem State.window_closeWindow {s : State} {k : MailIx} {p : Packet} (hruns : s.runsPacket k 0x0304 p) (i : Nat) :
    (s.closeWindow k).window i = ((s.beginPacket k.val).setWindow (p.le 0 4) (s.window (p.le 0 4)).shut).window i := by
  rw [State.closeWindow, State.onPacket_runs hruns]
  simp only [hruns.begun, Bool.false_eq_true, if_false]
  split
  · rfl
  · exact State.window_finish ..

/-! SET_BUDGET (R321). -/

/-- `u` is `s` after the budgets of spans are set: nothing but SPAN_TOKEN registers may differ. -/
structure State.SpansOnly (s u : State) : Prop where
  eq : u = { s with regs := u.regs }
  reg : ∀ r i, r ≠ .spanToken → u.reg r i = s.reg r i

namespace State.SpansOnly

theorem refl (s : State) : s.SpansOnly s := ⟨rfl, fun _ _ _ => rfl⟩

theorem trans {s u v : State} (h : s.SpansOnly u) (k : u.SpansOnly v) : s.SpansOnly v where
  eq := by rw [k.eq, h.eq]
  reg r i hr := (k.reg r i hr).trans (h.reg r i hr)

theorem mailSlot {s u : State} (h : s.SpansOnly u) (k : Nat) : u.mailSlot k = s.mailSlot k := by
  rw [h.eq]
  rfl

theorem setFld (s : State) {f : Fld} (hf : f.reg = .spanToken) (i v : Nat) : s.SpansOnly (s.setFld f i v) where
  eq := rfl
  reg _ _ hr := (State.reg_setFld ..).trans (if_neg (fun h => hr (h.1.trans hf)))

theorem foldl {α : Type} {f : State → α → State} (h : ∀ (s : State) x, s.SpansOnly (f s x)) (l : List α) (s : State) :
    s.SpansOnly (l.foldl f s) :=
  foldl_keeps (State.SpansOnly s) f (fun u x hu => hu.trans (h u x)) l s (refl s)

theorem regrant (s : State) (sp : Nat) : s.SpansOnly (s.regrant sp) :=
  (setFld s rfl sp _).trans (setFld _ rfl sp _)

end State.SpansOnly

/-- P as the tollhouse computes it from the budget and the base power in force (R321). -/
def State.poolNow (s : State) : Nat := tokenPool (s.fld Fld.TOKEN_STATUS_BUDGET_W 0) (s.fld Fld.TOKEN_STATUS_BASE_W 0)

theorem State.spansOnly_rebudget (s : State) : (s.setFld Fld.TOKEN_STATUS_POOL 0 s.poolNow).SpansOnly s.rebudget :=
  (State.SpansOnly.foldl (fun u _ => .setFld u rfl ..) _ _).trans (State.SpansOnly.foldl .regrant _ _)

theorem State.fld_rebudget (s : State) {f : Fld} (hreg : f.reg ≠ .spanToken) (i : Nat) :
    s.rebudget.fld f i = (s.setFld Fld.TOKEN_STATUS_POOL 0 s.poolNow).fld f i :=
  congrArg f.ofWord (s.spansOnly_rebudget.reg f.reg i hreg)

theorem State.mailSlot_rebudget (s : State) (k : Nat) : s.rebudget.mailSlot k = s.mailSlot k :=
  s.spansOnly_rebudget.mailSlot k

/-- The state whose module budget is set, with what follows from it (R321, R322). -/
def State.budgetSet (s : State) (watts : Nat) : State := (s.setFld Fld.TOKEN_STATUS_BUDGET_W 0 watts).rebudget

theorem State.budget_budgetSet (s : State) (watts : Nat) :
    (s.budgetSet watts).fld Fld.TOKEN_STATUS_BUDGET_W 0 = watts % 2 ^ Fld.TOKEN_STATUS_BUDGET_W.width := by
  rw [State.budgetSet, State.fld_rebudget _ (by decide), State.fld_setFld_field _ _ (by decide) (by decide),
    State.fld_setFld_same _ _ _ _ (by decide)]

theorem State.pool_budgetSet (s : State) (watts : Nat) : (s.budgetSet watts).fld Fld.TOKEN_STATUS_POOL 0 =
    tokenPool ((s.budgetSet watts).fld Fld.TOKEN_STATUS_BUDGET_W 0) (s.fld Fld.TOKEN_STATUS_BASE_W 0) %
      2 ^ Fld.TOKEN_STATUS_POOL.width := by
  rw [State.budget_budgetSet, State.budgetSet, State.fld_rebudget _ (by decide), State.fld_setFld_same _ _ _ _ (by decide),
    State.poolNow, State.fld_setFld_same _ _ _ _ (by decide), State.fld_setFld_field _ _ (by decide) (by decide)]

theorem State.setBudget_runs {s : State} {k : MailIx} {p : Packet} (hruns : s.runsPacket k 0x0401 p) :
    s.setBudget k = (s.budgetSet (p.le 0 2)).finish k.val .ok 0 (leBytes 2 ((s.budgetSet (p.le 0 2)).fld Fld.TOKEN_STATUS_POOL 0)) := by
  rw [State.setBudget, State.onPacket_runs hruns]
  rfl

/-- Settles O15: each command has its effect, case by case; the end of a command leaves the windows and the token registers as they
were, and its result stands in the reply. -/
theorem objectCommandsRun : Obligations.ObjectCommandsRun := by
  refine fun s k p => ⟨fun status hruns => ?map, fun hruns hmay => ⟨fun hcount => ?moveNone, fun hcount => ?move⟩,
    fun hruns hclosed hused hown hvalid hrange hroom => ?openWindow, fun hruns _ => ?close, fun hruns => ?budget⟩
  case map =>
    exact fun hread hranges hfits hclear hidle => congrArg Host.Outcome.next
      (State.mapObject_replaces hruns rfl rfl hread hranges hfits hclear hidle)
  case moveNone => exact congrArg Host.Outcome.next (State.moveObject_none hruns hmay hcount)
  case move =>
    exact ⟨_, congrArg Host.Outcome.next (State.moveObject_some hruns hmay hcount), rfl, State.moving_movesQueued k hcount,
      State.byte_of_mem (State.mem_nextTurns _)⟩
  case openWindow =>
    refine ⟨_, congrArg Host.Outcome.next (State.openWindow_opens hruns hclosed hused hown hvalid hrange hroom),
      (State.window_finish ..).trans (State.window_setWindow_same ..),
      fun i hi => (State.window_finish ..).trans (State.window_setWindow_other s _ hi), State.replied_finish (p := p) ?_ ..⟩
    exact hruns.running
  case close =>
    exact ⟨_, rfl, (State.window_closeWindow hruns _).trans (State.window_setWindow_same ..),
      fun i hi => (State.window_closeWindow hruns i).trans (State.window_setWindow_other _ _ hi)⟩
  case budget =>
    have hrunning : ((s.budgetSet (p.le 0 2)).mailSlot k.val).running = some p :=
      (congrArg MailSlot.running (State.mailSlot_rebudget ..)).trans hruns.running
    refine ⟨_, congrArg Host.Outcome.next (State.setBudget_runs hruns), ?_, ?_, ?_⟩
    · rw [State.fld_finish _ _ _ _ _ (by decide)]
      exact State.budget_budgetSet ..
    · rw [State.fld_finish _ _ _ _ _ (by decide), State.fld_finish _ _ _ _ _ (by decide)]
      exact State.pool_budgetSet ..
    · rw [State.fld_finish _ _ _ _ _ (by decide)]
      exact State.replied_finish hrunning ..

end Sys2Proof.Machine
end

section
/-! PROOFS. What a pier controller takes and records: an instruction of an idle pier (R314), and the first fault of a pier and of the step
(R310, R315). -/
namespace Sys2Proof.Machine
open Sys2Proof

/-! A pier that neither issues nor is stalled (R314). -/

section
variable {s : State} {p : PierIx} (hissuing : s.issuing p = false) (hstalled : s.stalled p = false)
include hissuing hstalled

theorem State.issue_idle (failed : Bool) (i : Instr) (t : Nat) (needs : State → Needs) (effect : State → State) (ramp : State → Bool) :
    s.issue failed i p t needs effect ramp = s := by
  simp [State.issue, hissuing, hstalled]

theorem runTacq_idle (failed : Bool) (t n : Nat) : runTacq failed p t n s = s := by
  simp [runTacq, State.issue_idle hissuing hstalled, hissuing, hstalled]

end

/-- An instruction of a schedule is the issue of its slot (R301), which for one of the vector unit counts that issue (R151); TACQ
looks for an overdraft after it (R327). -/
theorem exec_eq_issue {c : Instr} {p : PierIx} {t : Nat} (hplace : placeOf c = some (p, t)) :
    (∃ n, c = .tacq p t n) ∨
      (∃ needs effect ramp, ∀ s : State, exec c s = .next (s.issue false c p t needs effect ramp)) ∨
      ∃ needs effect, ∀ s : State, exec c s = .next (s.issueV false c p t needs effect) := by
  unfold placeOf at hplace
  split at hplace
  case h_32 => cases hplace
  all_goals obtain ⟨rfl, rfl⟩ := Prod.mk.inj (Option.some.inj hplace)
  case h_13 => exact .inl ⟨_, rfl⟩
  case h_30 => exact .inr (.inl ⟨_, _, _, fun _ => rfl⟩)
  iterate 15 exact .inr (.inl ⟨_, _, _, fun _ => rfl⟩)
  all_goals exact .inr (.inr ⟨_, _, fun _ => rfl⟩)

/-- Settles O51: each instruction of a schedule is the issue of its slot, and a pier that neither issues nor is stalled issues nothing. -/
theorem idlePierTakesNoInstruction : Obligations.IdlePierTakesNoInstruction := by
  intro s p t c hissuing hstalled hplace
  obtain ⟨n, rfl⟩ | ⟨needs, effect, ramp, hexec⟩ | ⟨needs, effect, hexec⟩ := exec_eq_issue hplace
  · exact congrArg Host.Outcome.next (runTacq_idle hissuing hstalled false t n)
  · rw [hexec, State.issue_idle hissuing hstalled]
  · rw [hexec, State.issueV, State.issue_idle hissuing hstalled]

/-! The first fault (R310, R315). -/

/-- CODE of every event fits the fields that hold it. -/
theorem Code.num_lt (c : Code) : c.num < 2 ^ 16 := by cases c <;> decide

section
variable {s : State} {p : PierIx} (t : Nat) (c : Code)

theorem State.recordFault_kept (hpier : s.fld Fld.PCTL_FAULT_CODE p.val ≠ 0) (hstep : s.fld Fld.SCHED_FAULT_CODE 0 ≠ 0) :
    s.recordFault p t c = s := by
  simp only [State.recordFault, State.failStep, if_neg hpier, if_neg hstep]

/-- The pier's own record of its first fault. -/
def State.pierFaulted (s : State) (p : PierIx) (t : Nat) (c : Code) : State :=
  (s.setFld Fld.PCTL_FAULT_CODE p.val c.num).setFld Fld.PCTL_FAULT_SLOT p.val t

/-- The step's record of its first fault, with which the step is failing. -/
def State.stepFaulted (s : State) (c : Code) (logical slot : Nat) : State :=
  (((s.setFld Fld.SCHED_FAULT_CODE 0 c.num).setFld Fld.SCHED_FAULT_PIER 0 logical).setFld Fld.SCHED_FAULT_SLOT 0 slot).setFld
    Fld.SCHED_STATUS_STATE 0 4

theorem State.fld_pierFaulted {f : Fld} {i : Nat} (h : f.reg ≠ .pctlFault ∨ i ≠ p.val) :
    (s.pierFaulted p t c).fld f i = s.fld f i := by
  have hother : ¬ (f.reg = .pctlFault ∧ i = p.val) := fun e => h.elim (· e.1) (· e.2)
  exact (State.fld_setFld_reg _ _ hother).trans (State.fld_setFld_reg _ _ hother)

theorem State.fld_stepFaulted (logical : Nat) {f : Fld} (h : f.reg ≠ .schedFault ∧ f.reg ≠ .schedStatus) (i : Nat) :
    (s.stepFaulted c logical t).fld f i = s.fld f i := by
  have hfault : ¬ (f.reg = .schedFault ∧ i = 0) := fun e => h.1 e.1
  have hstatus : ¬ (f.reg = .schedStatus ∧ i = 0) := fun e => h.2 e.1
  exact (State.fld_setFld_reg _ _ hstatus).trans ((State.fld_setFld_reg _ _ hfault).trans
    ((State.fld_setFld_reg _ _ hfault).trans (State.fld_setFld_reg _ _ hfault)))

theorem State.mem_stepFaulted (logical slot : Nat) : ((s.pierFaulted p t c).stepFaulted c logical slot).mem = s.mem := by
  simp only [State.pierFaulted, State.stepFaulted, State.setFld_mem]

theorem State.recordFault_first (hpier : s.fld Fld.PCTL_FAULT_CODE p.val = 0) (hstep : s.fld Fld.SCHED_FAULT_CODE 0 = 0) :
    s.recordFault p t c = (s.pierFaulted p t c).stepFaulted c (s.fld Fld.PCTL_STATUS_LOGICAL p.val) t := by
  have hstep' : (s.pierFaulted p t c).fld Fld.SCHED_FAULT_CODE 0 = 0 :=
    (State.fld_pierFaulted t c (.inl (by decide))).trans hstep
  simp only [State.recordFault, State.failStep, if_pos hpier]
  exact if_pos hstep'

theorem State.pierFaulted_spec :
    (s.pierFaulted p t c).fld Fld.PCTL_FAULT_CODE p.val = c.num ∧ (s.pierFaulted p t c).fld Fld.PCTL_FAULT_SLOT p.val = t % 2 ^ 48 := by
  refine ⟨?_, State.fld_setFld_same _ _ _ _ (by decide)⟩
  rw [State.pierFaulted, State.fld_setFld_field _ _ (by decide) (by decide), State.fld_setFld_same _ _ _ _ (by decide)]
  exact Nat.mod_eq_of_lt c.num_lt

theorem State.stepFaulted_spec (logical : Nat) :
    let u := s.stepFaulted c logical t
    u.fld Fld.SCHED_FAULT_CODE 0 = c.num ∧ u.fld Fld.SCHED_FAULT_SLOT 0 = t % 2 ^ 40 ∧ u.fld Fld.SCHED_FAULT_PIER 0 = logical % 2 ^ 7 ∧
      u.fld Fld.SCHED_STATUS_STATE 0 = 4 := by
  have hstatus : ∀ {f : Fld}, f.reg = .schedFault → ¬ (f.reg = .schedStatus ∧ 0 = 0) := fun h e => nomatch h.symm.trans e.1
  refine ⟨?code, ?slot, ?pier, State.fld_setFld_same _ _ _ _ (by decide)⟩
  case code =>
    rw [State.stepFaulted, State.fld_setFld_reg _ _ (hstatus rfl), State.fld_setFld_field _ _ (by decide) (by decide),
      State.fld_setFld_field _ _ (by decide) (by decide), State.fld_setFld_same _ _ _ _ (by decide)]
    exact Nat.mod_eq_of_lt c.num_lt
  case slot =>
    rw [State.stepFaulted, State.fld_setFld_reg _ _ (hstatus rfl), State.fld_setFld_same _ _ _ _ (by decide)]
    rfl
  case pier =>
    rw [State.stepFaulted, State.fld_setFld_reg _ _ (hstatus rfl), State.fld_setFld_field _ _ (by decide) (by decide),
      State.fld_setFld_same _ _ _ _ (by decide)]
    rfl

end

/-- Settles O46: a fault of a pier writes PCTL_FAULT and SCHED_FAULT where they hold none, and the step's state with the latter. -/
theorem firstFaultStays : Obligations.FirstFaultStays := by
  refine ⟨fun s p t c hpier hstep => State.recordFault_kept t c hpier hstep, fun s p t c hpier hstep => ?_⟩
  obtain ⟨hcode, hslot⟩ := s.pierFaulted_spec (p := p) t c
  obtain ⟨hstepCode, hstepSlot, hstepPier, hfailing⟩ :=
    (s.pierFaulted p t c).stepFaulted_spec t c (s.fld Fld.PCTL_STATUS_LOGICAL p.val)
  rw [State.recordFault_first t c hpier hstep]
  refine ⟨?_, ?_, hstepCode, hstepSlot, hstepPier, hfailing, fun q hq => ?_, State.mem_stepFaulted ..⟩
  · rw [State.fld_stepFaulted t c _ (by decide), hcode]
  · rw [State.fld_stepFaulted t c _ (by decide), hslot]
  · rw [State.fld_stepFaulted t c _ (by decide), State.fld_pierFaulted t c (.inr (fun e => hq (Fin.ext e)))]

end Sys2Proof.Machine
end

section
/-! PROOFS. TACQ, TREL, LOOP, HALT, JOINT and BARRIER in a slot that issues (R155, R298, R299, R305, R306, R324, R326). -/
namespace Sys2Proof.Machine
open Sys2Proof

@[simp] theorem State.held_tacqEffect (s : State) (p : PierIx) (t n : Nat) : (s.tacqEffect p t n).held = s.held := by
  simp only [State.tacqEffect, State.acquire, State.regrant, State.noteMove, State.setFld_held, State.setPier_held]

/-! What the effects of LOOP, HALT and BARRIER write. -/

theorem State.loopEffect_spec {s : State} {p : PierIx} (l : LoopRec) (hdepth : (s.pier p).loops.length < 7) :
    ((s.loopEffect p l).pier p).loops = l :: (s.pier p).loops ∧
      (s.loopEffect p l).fld Fld.PCTL_STATUS_LOOP_DEPTH p.val = (s.pier p).loops.length + 1 := by
  constructor
  · rw [State.loopEffect, State.pier_setFld, State.pier_setPier_same]
  · rw [State.loopEffect, State.fld_setFld_same _ _ _ _ (by decide)]
    exact Nat.mod_eq_of_lt (Nat.succ_lt_succ hdepth)

theorem State.archsEnd_issuedAt (s : State) (p : PierIx) (t : Nat) : (s.issuedAt p t).archsEnd p t = s.archsEnd p t := by
  simp only [State.archsEnd, State.issuedAt_flight]

/-- A barrier whose mask is that of its first arrival, or that is the first itself (R306). -/
theorem State.barrierEffect_match {s : State} {p : PierIx} {mask : BitVec 8} {unseg : Bool}
    (hmask : (s.firstMask p mask unseg).getD (mask, unseg) = (mask, unseg)) (t : Nat) :
    s.barrierEffect p t mask unseg =
      ((s.countRow4 p).setPier p { s.pier p with atBarrier := some (mask, unseg) }).setFld Fld.PCTL_STATUS_STATE p.val 4 := by
  simp only [State.barrierEffect, hmask, if_true]

/-! The open statistics tiles of a pier that arrives at a joint (R155, R305). -/

theorem Pier.records_setRecords_other (x : Pier) {r q : RegionIx} (h : q ≠ r) :
    (x.setRecords r none).records q = x.records q := by
  have hboth (e : Stats) : ((e.region != r) = true ∧ e.region = q) ↔ e.region = q := by
    refine and_iff_right_of_imp (fun he => ?_)
    rw [he]
    exact bne_iff_ne.2 h
  simp only [Pier.records, Pier.setRecords, List.find?_filter, decide_eq_true_eq, hboth]

/-- Whether a tile of the region was open or not, none is after its flush, and the pier is else as it was. -/
theorem State.pier_flushStats (s : State) (p : PierIx) (r : RegionIx) (t : Nat) :
    (s.flushStats p r t).pier p = (s.pier p).setRecords r none := by
  cases h : (s.pier p).records r with
  | none =>
    have hnone : ∀ e ∈ (s.pier p).stats, (e.region != r) = true := by
      simpa [Pier.records] using h
    rw [State.flushStats_none h, Pier.setRecords, List.filter_eq_self.2 hnone]
  | some rs =>
    simp only [State.flushStats, h]
    rw [State.produce_eq, State.reserve_eq]
    exact State.pier_setPier_same ..

/-- What the flush of a tile leaves as it was: the register words, memory and the work in progress. -/
structure State.FlushKept (s u : State) : Prop where
  regs : u.regs = s.regs
  mem : u.mem = s.mem
  flight : s.flight ⊆ u.flight

theorem State.FlushKept.trans {s u v : State} (h : s.FlushKept u) (k : u.FlushKept v) : s.FlushKept v :=
  ⟨k.regs.trans h.regs, k.mem.trans h.mem, fun _ hw => k.flight (h.flight hw)⟩

theorem State.flushKept_flushStats (s : State) (p : PierIx) (r : RegionIx) (t : Nat) : s.FlushKept (s.flushStats p r t) := by
  unfold State.flushStats
  split
  · exact ⟨rfl, rfl, List.Subset.refl _⟩
  · rw [State.produce_eq, State.reserve_eq]
    refine ⟨rfl, rfl, ?_⟩
    rw [List.append_assoc]
    exact List.subset_append_left ..

/-- Every tile of a list is flushed. -/
def State.flushAll (s : State) (p : PierIx) (t : Nat) (es : List Stats) : State :=
  es.foldl (fun s e => s.flushStats p e.region t) s

theorem State.flushKept_flushAll (s : State) (p : PierIx) (t : Nat) (es : List Stats) : s.FlushKept (s.flushAll p t es) :=
  foldl_keeps s.FlushKept _ (fun u e hu => hu.trans (u.flushKept_flushStats p e.region t)) es s ⟨rfl, rfl, List.Subset.refl _⟩

theorem State.pier_flushAll (s : State) (p : PierIx) (t : Nat) (es : List Stats) :
    (s.flushAll p t es).pier p = { s.pier p with
      stats := (s.pier p).stats.filter (fun x => es.all (fun e => x.region != e.region)) } := by
  induction es generalizing s with
  | nil =>
    have hnone : (s.pier p).stats.filter (fun x => [].all (fun e : Stats => x.region != e.region)) = (s.pier p).stats :=
      List.filter_eq_self.2 (fun _ _ => rfl)
    exact congrArg (fun es => { s.pier p with stats := es }) hnone.symm
  | cons e es ih =>
    have hstep : s.flushAll p t (e :: es) = (s.flushStats p e.region t).flushAll p t es := rfl
    rw [hstep, ih, State.pier_flushStats]
    simp only [Pier.setRecords, List.filter_filter, List.all_cons, Bool.and_comm]

/-- A statistics tile with records `rs` lands in region `r`: its slot is taken in slot `t`, its rows are written 4 a cycle in the next 16,
and it lands in the 17th (R155; that the rows are written so is the model's choice of log 131). -/
def State.StatsOnWay (s u : State) (p : PierIx) (r : RegionIx) (t : Nat) (rs : List (F32 × F32)) : Prop :=
  ∃ i, newWork p (t + 17) 1 (.land r i (statTile s.stepNo rs) false) ∈ u.flight ∧
    ∀ q < 16, ∃ ports, newWork p (t + 1 + q) 1 (.put 4 (s.slotOf p r i)
      ((List.range 4).map (fun n => (4 * q + n, (statTile s.stepNo rs).row (4 * q + n)))) ports) ∈ u.flight

section
variable {s u v : State} {p : PierIx} {r : RegionIx} {t : Nat} {rs : List (F32 × F32)}

theorem State.StatsWritten.onWay (h : s.StatsWritten u p r t rs) : s.StatsOnWay u p r t rs := by
  refine ⟨_, h.land_mem, fun q hq => ?_⟩
  have hput := h.put_mem hq
  rw [tilePut, List.map_map] at hput
  exact ⟨_, hput⟩

/-- Work on its way stays so while the work in progress grows. -/
theorem State.StatsOnWay.mono (h : s.StatsOnWay u p r t rs) (hflight : u.flight ⊆ v.flight) : s.StatsOnWay v p r t rs := by
  obtain ⟨i, hland, hputs⟩ := h
  exact ⟨i, hflight hland, fun q hq => let ⟨ports, hput⟩ := hputs q hq; ⟨ports, hflight hput⟩⟩

/-- The step and the region descriptors name the tile and its slot. -/
theorem State.StatsOnWay.congr (h : v.StatsOnWay u p r t rs) (hstep : v.stepNo = s.stepNo)
    (hslot : ∀ i, v.slotOf p r i = s.slotOf p r i) : s.StatsOnWay u p r t rs := by
  simpa only [State.StatsOnWay, hstep, hslot] using h

end

/-- Every open tile of the list is on its way once all are flushed. -/
theorem State.statsOnWay_flushAll {s : State} {p : PierIx} {es : List Stats} {e : Stats} (he : e ∈ es) {rs : List (F32 × F32)}
    (hrs : (s.pier p).records e.region = some rs) (t : Nat) : s.StatsOnWay (s.flushAll p t es) p e.region t rs := by
  induction es generalizing s with
  | nil => exact absurd he List.not_mem_nil
  | cons x es ih =>
    have hstep : s.flushAll p t (x :: es) = (s.flushStats p x.region t).flushAll p t es := rfl
    have hkept := s.flushKept_flushStats p x.region t
    rw [hstep]
    by_cases hx : e.region = x.region
    · rw [hx] at hrs ⊢
      exact (State.flushStats_some hrs t).onWay.mono (State.flushKept_flushAll ..).flight
    · have hmem : e ∈ es := (List.mem_cons.1 he).resolve_left (fun h => hx (congrArg Stats.region h))
      have hopen : ((s.flushStats p x.region t).pier p).records e.region = some rs := by
        rw [State.pier_flushStats, Pier.records_setRecords_other _ hx, hrs]
      have hreg (r : RegName) (i : Nat) : (s.flushStats p x.region t).reg r i = s.reg r i := by
        rw [State.reg, hkept.regs, State.reg]
      refine (ih hmem hopen).congr (congrArg Fld.STEP_COUNTER_STEP.ofWord (hreg ..)) (fun i => ?_)
      rw [State.slotOf, State.slotOf, State.rdesc, State.rdesc, State.fld, State.fld, hreg]

/-- A pier that has arrived at a joint has no open statistics tile. -/
theorem State.pier_flushAll_stats (s : State) (p : PierIx) (t : Nat) :
    ((s.flushAll p t (s.pier p).stats).pier p).stats = [] := by
  rw [State.pier_flushAll, List.filter_eq_nil_iff]
  intro e he hall
  exact absurd (List.all_eq_true.1 hall e he) (by simp)

/-! The issue of the instructions. -/

section
variable {s : State} {p : PierIx} {t : Nat} (hr : s.readyAt p t)
include hr

/-- A TACQ whose tokens are granted waits for nothing, so it is no overdraft (R326, R327). -/
theorem exec_tacq_ready {n : Nat} (hlate : s.tacqLate false p t n = none) (hheld : Instr.tacq p t n ∉ s.held.map Held.instr) :
    exec (.tacq p t n) s = .next ((s.issuedAt p t).tacqEffect p t n) := by
  have hissue := State.issue_item hr (.tacq p t n) (late := fun s => s.tacqLate false p t n) hlate (fun s => s.tacqEffect p t n)
    (fun s => s.rampLate p t n)
  have hlast : ((s.issuedAt p t).tacqEffect p t n).held.getLast? ≠ some ⟨true, .tacq p t n⟩ := by
    rw [State.held_tacqEffect, State.issuedAt_held]
    exact fun h => hheld (List.mem_map_of_mem (f := Held.instr) (List.mem_of_getLast? h))
  refine congrArg Host.Outcome.next ?_
  simp only [runTacq, hissue, hlast, decide_false, Bool.and_false, Bool.false_eq_true, if_false]

theorem exec_trel_ready {n : Nat} {all : Bool}
    (hroom : s.rampFull (spanOf p) (s.cycleOf p t) (s.trelAmount p n all) = false) :
    exec (.trel p t n all) s = .next ((s.issuedAt p t).trelEffect p t n all) := by
  have hlate : (if s.rampLate p t (s.trelAmount p n all) then some lateToken else none) = none := if_neg (by
    rw [State.rampLate, hroom]
    exact Bool.false_ne_true)
  exact congrArg Host.Outcome.next (State.issue_item hr _
    (late := fun s => if s.rampLate p t (s.trelAmount p n all) then some lateToken else none) hlate _ _)

theorem exec_loop_ready (count body first len : Nat) :
    exec (.loop p t count body first len) s = .next ((s.issuedAt p t).loopEffect p ⟨count, body, first, len⟩) :=
  congrArg Host.Outcome.next (State.issue_free hr ..)

theorem exec_halt_ready : exec (.halt p t) s = .next ((s.issuedAt p t).haltEffect p t) :=
  congrArg Host.Outcome.next (State.issue_free hr ..)

theorem exec_joint_ready (config : Option Nat)
    (hroom : firstLate ((s.pier p).stats.map (fun e => s.roomLate false p e.region 1 t)) = none) :
    exec (.joint p t config) s = .next ((s.issuedAt p t).jointEffect p t config) := by
  have hissue : s.issue false (.joint p t config) p t
      (fun s => Needs.item (firstLate ((s.pier p).stats.map (fun e => s.roomLate false p e.region 1 t))))
      (fun s => s.jointEffect p t config) = (s.issuedAt p t).jointEffect p t config :=
    State.issue_ready hr (.joint p t config) ⟨hroom, rfl, rfl⟩ _ _
  exact congrArg Host.Outcome.next hissue

theorem exec_barrier_ready (mask : BitVec 8) (unseg : Bool) :
    exec (.barrier p t mask unseg) s = .next ((s.issuedAt p t).barrierEffect p t mask unseg) :=
  congrArg Host.Outcome.next (State.issue_free hr ..)

theorem runs_halt : Runs (.halt p t) s (fun u => u.fld Fld.PCTL_STATUS_STATE p.val = 5 ∧
    u.flight = s.flight ++ [newWork p (s.archsEnd p t) 1 .tokensBack] ∧ ∀ b, u.byte b = s.byte b) := by
  refine ⟨_, exec_halt_ready hr, ?_, ?_, fun b => ?_⟩
  · rw [State.haltEffect, State.fld_addWork, State.fld_setFld_same _ _ _ _ (by decide)]
    rfl
  · rw [State.haltEffect, State.archsEnd_issuedAt]
    exact congrArg (· ++ _) (State.issuedAt_flight s p t)
  · rw [State.haltEffect, State.byte_addWork, State.byte_setFld, State.byte_issuedAt]

theorem runs_barrier {mask : BitVec 8} {unseg : Bool}
    (hmask : ((s.issuedAt p t).firstMask p mask unseg).getD (mask, unseg) = (mask, unseg)) :
    Runs (.barrier p t mask unseg) s (fun u => (u.pier p).atBarrier = some (mask, unseg) ∧
      u.fld Fld.PCTL_STATUS_STATE p.val = 4 ∧ u.flight = s.flight ∧ ∀ b, u.byte b = s.byte b) := by
  refine ⟨_, exec_barrier_ready hr mask unseg, ?_⟩
  rw [State.barrierEffect_match hmask]
  refine ⟨?_, State.fld_setFld_same _ _ _ _ (by decide), State.issuedAt_flight s p t, State.byte_issuedAt s p t⟩
  rw [State.pier_setFld, State.pier_setPier_same]

end

/-- The state of a pier at a JOINT whose slot has issued: the stall of the next slot is counted (R315), and its tiles are flushed. -/
def State.jointFlushed (s : State) (p : PierIx) (t : Nat) : State :=
  ((s.issuedAt p t).countRow4 p).flushAll p t (s.pier p).stats

section
variable (s : State) (p : PierIx) (t : Nat)

theorem State.deckKept_countRow4_issuedAt : s.DeckKept ((s.issuedAt p t).countRow4 p) :=
  (State.DeckKept.issuedFor s p t Needs.nothing).trans (.bump _ (by decide) _ _)

theorem State.stepNo_countRow4_issuedAt : ((s.issuedAt p t).countRow4 p).stepNo = s.stepNo :=
  (State.fld_setFld_reg _ _ (fun h => absurd h.1 (by decide))).trans (State.fld_issuedAt s p t 0 (by decide) (by decide))

theorem State.stats_issuedAt : ((s.issuedAt p t).pier p).stats = (s.pier p).stats := by rw [State.pier_issuedAt]

theorem State.jointEffect_issuedAt (config : Option Nat) : (s.issuedAt p t).jointEffect p t config =
    ((s.jointFlushed p t).setPier p { (s.jointFlushed p t).pier p with atJoint := some config }).setFld
      Fld.PCTL_STATUS_STATE p.val 4 := by
  simp only [State.jointEffect, State.stats_issuedAt]
  rfl

theorem State.stats_jointFlushed : ((s.jointFlushed p t).pier p).stats = [] := by
  have hnone := State.pier_flushAll_stats ((s.issuedAt p t).countRow4 p) p t
  rwa [State.countRow4, State.pier_bump, State.stats_issuedAt] at hnone

theorem State.flight_subset_jointFlushed : s.flight ⊆ (s.jointFlushed p t).flight := by
  have hkept := (((s.issuedAt p t).countRow4 p).flushKept_flushAll p t (s.pier p).stats).flight
  rwa [(s.deckKept_countRow4_issuedAt p t).flight] at hkept

theorem State.byte_jointFlushed (b : Nat) : (s.jointFlushed p t).byte b = s.byte b :=
  State.byte_of_mem ((State.flushKept_flushAll ..).mem.trans (s.deckKept_countRow4_issuedAt p t).mem) b

variable {s p} in
theorem State.statsOnWay_jointFlushed {e : Stats} (he : e ∈ (s.pier p).stats) {rs : List (F32 × F32)}
    (hrs : (s.pier p).records e.region = some rs) : s.StatsOnWay (s.jointFlushed p t) p e.region t rs := by
  have hopen : (((s.issuedAt p t).countRow4 p).pier p).records e.region = some rs := by
    rw [State.countRow4, State.pier_bump, Pier.records, State.stats_issuedAt]
    exact hrs
  exact (State.statsOnWay_flushAll he hopen t).congr (State.stepNo_countRow4_issuedAt s p t)
    ((s.deckKept_countRow4_issuedAt p t).slotOf p e.region)

end

/-- Settles O3: each instruction has its effect on the state whose slot has issued; the open statistics tiles of a pier that arrives at a
joint are flushed one after another, and what is on its way stays. -/
theorem controlInstructionsRun : Obligations.ControlInstructionsRun := by
  refine fun s p t hr => ⟨fun n hlate hheld => exec_tacq_ready hr hlate hheld, fun n all hroom => exec_trel_ready hr hroom,
    fun count body first len hdepth => ?loop, runs_halt hr, fun config hroom => ?joint, fun mask unseg hmask => runs_barrier hr hmask⟩
  case loop =>
    obtain ⟨hloops, hcount⟩ := State.loopEffect_spec ⟨count, body, first, len⟩ hdepth
    exact ⟨_, exec_loop_ready hr count body first len, hloops, hcount, State.issuedAt_flight s p t, State.byte_issuedAt s p t⟩
  case joint =>
    refine ⟨_, (exec_joint_ready hr config hroom).trans (congrArg Host.Outcome.next (State.jointEffect_issuedAt ..)), ?_⟩
    dsimp only
    rw [State.pier_setFld, State.pier_setPier_same]
    refine ⟨rfl, State.fld_setFld_same _ _ _ _ (by decide), State.stats_jointFlushed s p t,
      fun w hw => State.flight_subset_jointFlushed s p t hw, fun hnone => ?_, fun e he rs hrs => State.statsOnWay_jointFlushed t he hrs,
      State.byte_jointFlushed s p t⟩
    show (s.jointFlushed p t).flight = s.flight
    rw [State.jointFlushed, hnone]
    exact (s.deckKept_countRow4_issuedAt p t).flight

end Sys2Proof.Machine
end

section
/-! PROOFS. LOAD_IMAGE, BIND, LAUNCH, PREEMPT, RESUME and STEP_COMMIT (R289, R293, R307, R308, R421, R425, R432, R433, R455). -/
namespace Sys2Proof.Machine
open Sys2Proof

/-! What the read of an object and the change of the image in force leave of the mailbox (R227, R234, R293, R439). -/

/-- `u` has the packets of `s` and its image object. -/
structure State.PacketsKept (s u : State) : Prop where
  mail : u.mail = s.mail
  imageObject : u.imageObject = s.imageObject

namespace State.PacketsKept

theorem refl (s : State) : s.PacketsKept s := ⟨rfl, rfl⟩

theorem trans {s u v : State} (h : s.PacketsKept u) (k : u.PacketsKept v) : s.PacketsKept v :=
  ⟨k.mail.trans h.mail, k.imageObject.trans h.imageObject⟩

theorem running {s u : State} (h : s.PacketsKept u) {k : Nat} {p : Packet} (hrunning : (s.mailSlot k).running = some p) :
    (u.mailSlot k).running = some p := by
  rw [State.mailSlot, h.mail]
  exact hrunning

theorem foldl {α : Type} {f : State → α → State} (h : ∀ (s : State) x, s.PacketsKept (f s x)) (l : List α) (s : State) :
    s.PacketsKept (l.foldl f s) :=
  foldl_keeps s.PacketsKept f (fun u x hu => hu.trans (h u x)) l s (refl s)

/-- A pass over a list with a result beside the state. -/
theorem foldl_snd {α β : Type} {f : β × State → α → β × State} (h : ∀ (a : β × State) x, a.2.PacketsKept (f a x).2) (l : List α)
    (a : β × State) :
    a.2.PacketsKept (l.foldl f a).2 := by
  induction l generalizing a with
  | nil => exact refl a.2
  | cons x l ih => exact (h a x).trans (ih _)

theorem of_sent {s u : State} (h : s.Sent u) : s.PacketsKept u := by
  constructor <;> rw [h.eq]

theorem setReg (s : State) (r : RegName) (i : Nat) (w : Word) : s.PacketsKept (s.setReg r i w) := ⟨rfl, rfl⟩

theorem setFld (s : State) (f : Fld) (i v : Nat) : s.PacketsKept (s.setFld f i v) := ⟨rfl, rfl⟩

theorem bump (s : State) (f : Fld) (i n : Nat) : s.PacketsKept (s.bump f i n) := setFld ..

theorem setGate (s : State) (g : Nat) (x : Gate) : s.PacketsKept (s.setGate g x) := ⟨rfl, rfl⟩

theorem setFlaw (s : State) (a n : Nat) : s.PacketsKept (s.setFlaw a n) := by
  unfold State.setFlaw
  split
  · exact refl s
  · exact ⟨rfl, rfl⟩

theorem leaveFlaw (s : State) (a n : Nat) (up : Upset) : s.PacketsKept (s.leaveFlaw a n up) := by
  unfold State.leaveFlaw
  split
  · split
    · exact setFlaw ..
    · exact refl s
  · exact refl s

theorem burst (s : State) (x : Place) (cls n : Nat) : s.PacketsKept (s.burst x cls n) := by
  have hopen (u : State) : u.PacketsKept (u.openGate x.gate) := by
    unfold State.openGate
    split
    · exact ⟨rfl, rfl⟩
    · exact refl u
  have hone (u : State) (ch : Nat) : u.PacketsKept (u.serveOne x.gate ch) := by
    unfold State.serveOne
    dsimp only
    split
    · exact refl u
    · exact ⟨rfl, rfl⟩
  have hserve (u : State) : u.PacketsKept (u.serveBursts x.gate) := by
    unfold State.serveBursts
    split
    · exact refl u
    · exact foldl (fun v (e : Nat × Nat) => hone v e.1) _ u
  exact ((hopen s).trans (setGate ..)).trans (hserve _)

theorem notify (s : State) (c : Code) (cls level srcKind srcIndex detail : Nat) :
    s.PacketsKept (s.notify c cls level srcKind srcIndex detail) := by
  rw [State.notify_eq]
  exact ⟨rfl, rfl⟩

theorem flagEvent (s : State) (f : Fld) (i : Nat) (c : Code) (srcKind srcIndex detail : Nat) :
    s.PacketsKept (s.flagEvent f i c srcKind srcIndex detail) := by
  rw [State.flagEvent_eq]
  exact ⟨rfl, rfl⟩

theorem errorAt (s : State) (a ue stored scrub : Nat) : s.PacketsKept (s.errorAt a ue stored scrub) :=
  foldl (fun u (e : Fld × Nat) => setFld u e.1 (s.place a).gate e.2) _ s

theorem memUe (s : State) (g a : Nat) : s.PacketsKept (s.memUe g a) := by
  unfold State.memUe
  split
  · exact refl s
  · exact (setFld ..).trans (notify ..)

theorem memCe (s : State) (a scrub : Nat) : s.PacketsKept (s.memCe a scrub) := by
  have htrack (u : State) (x : Place) : u.PacketsKept (u.trackRow x) := by
    unfold State.trackRow
    dsimp only
    split
    · exact ((setGate ..).trans (bump ..)).trans (flagEvent ..)
    · exact setGate ..
  exact ((bump ..).trans (errorAt ..)).trans ((flagEvent ..).trans (htrack ..))

/-- A good codeword, an error corrected, one found and one missed all leave the packets as they are. -/
theorem decodeBlock (s : State) (a fresh scrub : Nat) : s.PacketsKept (s.decodeBlock a fresh scrub).2 := by
  refine (setFlaw s a 0).trans ?_
  simp only [State.decodeBlock]
  split
  · exact (errorAt ..).trans (memUe ..)
  · split
    · exact refl _
    · split
      · exact memCe ..
      · split
        · refine ((trans ?_ (bump ..)).trans (errorAt ..)).trans ((memUe ..).trans ⟨rfl, rfl⟩)
          split
          · exact refl _
          · exact ⟨rfl, rfl⟩
        · exact ⟨rfl, rfl⟩

theorem gateRead (s : State) (cls a n : Nat) (up : Upset) : s.PacketsKept (s.gateRead cls a n up).2 := by
  unfold State.gateRead
  refine (leaveFlaw s a n up).trans (foldl_snd (fun acc b => ?_) (blocksOf a n) (false, s.leaveFlaw a n up))
  exact (burst acc.2 (acc.2.place b) cls 1).trans (decodeBlock ..)

theorem jwRead (s : State) (a n : Nat) (shared : Bool) : s.PacketsKept (s.jwRead a n shared) :=
  foldl (fun u _ => of_sent (.jwWrite u ..)) _ s

theorem readObject (s : State) (object o n : Nat) : s.PacketsKept (s.readObject object o n).2 := by
  refine foldl_snd (fun acc b => ?_) _ (false, s)
  split
  · split
    · exact gateRead ..
    · exact jwRead ..
  · exact refl _

theorem rebudget (s : State) : s.PacketsKept s.rebudget := by
  have h := s.spansOnly_rebudget.eq
  constructor <;> rw [h] <;> rfl

theorem unbindPier (s : State) (p : Nat) : s.PacketsKept (s.unbindPier p) :=
  ((((setReg ..).trans (setFld ..)).trans (setFld ..)).trans (setFld ..)).trans (setFld ..)

theorem unbind (s : State) : s.PacketsKept s.unbind := by
  have hpiers : s.PacketsKept ((List.range 136).foldl (fun s p => s.unbindPier p) s) := foldl unbindPier _ s
  refine trans ?_ (rebudget _)
  have hregs (u : State) : u.PacketsKept _ :=
    ((((((setReg u .viaductLayout 0 0).trans (setReg _ .viaductExt 0 (regInit .viaductExt 0))).trans
      (setFld _ Fld.VIADUCT_STATUS_BOUND 0 0)).trans (setFld _ Fld.VIADUCT_STATUS_MAX_EXTRA 0 0)).trans
      (setFld _ Fld.SCHED_STATUS_BOUND_N 0 0)).trans (setFld _ Fld.SCHED_STATUS_BINDING 0 0)).trans
      (setFld _ Fld.SCHED_STATUS_JOINT_INDEX 0 0)
  have hlists (u : State) : u.PacketsKept { u with binding := [], unnumbered := [], held := [], flight := [], ring := [] } :=
    ⟨rfl, rfl⟩
  exact (hpiers.trans (hregs _)).trans (hlists _)

theorem countParapets (s : State) : s.PacketsKept s.countParapets := (setFld ..).trans (setFld ..)

theorem extendMr (s : State) (m : Nat) (d : List Byte) : s.PacketsKept (s.extendMr m d) :=
  foldl (fun u _ => setReg u .mr ..) _ s

theorem takeImage (s : State) : s.PacketsKept s.takeImage := by
  have hlists (u : State) (n : Nat) (ps : List Parapet) : u.PacketsKept { u with imageBudget := n, parapets := ps } := ⟨rfl, rfl⟩
  unfold State.takeImage
  refine trans ?_ (extendMr ..)
  refine trans ?_ (countParapets _)
  refine trans ?_ (hlists _ _ _)
  refine trans ?_ ((setFld ..).trans ((setFld ..).trans (setFld ..)))
  exact (unbind s).trans (setFld ..)

end State.PacketsKept

/-- The end of a command leaves the image object. -/
theorem State.imageObject_finish (s : State) (k : Nat) (c : Cc) (detail : Nat) (result : List Byte) :
    (s.finish k c detail result).imageObject = s.imageObject := by
  cases h : (s.mailSlot k).running with
  | none => rw [State.finish, h]
  | some p =>
    rw [(State.sent_finish h c detail result).eq]
    rfl

section
variable {s : State} {k : MailIx} {p : Packet}

/-- The image in the object of a LOAD_IMAGE is read (R287). -/
def State.imageRead (s : State) (p : Packet) : Bool × State :=
  let s0 := { s with imageObject := p.le 0 4 }
  s0.readObject (p.le 0 4) 0 s0.imageLength

/-- A signed image without a bad section is taken (R289, R293). -/
theorem State.loadImage_takes (hruns : s.runsPacket k 0x0201 p) (hidle : s.inProgram = false) (hvalid : (s.object (p.le 0 4)).valid = true)
    (hpinned : (s.object (p.le 0 4)).pooled = false)
    (hready : s.readWaits (p.le 0 4) 0 ({ s with imageObject := p.le 0 4 } : State).imageLength = false)
    (hgood : (s.imageRead p).1 = false) (hsigned : (s.imageRead p).2.imageSigned = true) (hwhole : (s.imageRead p).2.imageBad = none) :
    s.loadImage k = (s.imageRead p).2.takeImage.finish k.val .ok 0 [] := by
  unfold State.imageRead at *
  rw [State.loadImage, State.onPacket_runs hruns]
  simp only [hidle, hvalid, hpinned, hready, hgood, hsigned, hwhole, Bool.not_true, Bool.or_self, Bool.false_eq_true, if_false]

theorem State.bindCmd_binds (hruns : s.runsPacket k 0x0202 p) (hmay : s.bindRefusal (p.le 0 1) = none) {b o : Nat}
    (hentry : s.bindingFor (p.le 0 1) = some (b, o)) :
    s.bindCmd k = (s.bindTo b o (s.numbered (p.le 0 1))).finish k.val .ok 0
      [BitVec.ofNat 8 b, BitVec.ofNat 8 ((s.bindTo b o (s.numbered (p.le 0 1))).fld Fld.VIADUCT_STATUS_MAX_EXTRA 0)] := by
  rw [State.bindCmd, State.onPacket_runs hruns]
  simp only [hmay, hentry]

theorem State.launch_starts (hruns : s.runsPacket k 0x0203 p) (bank v1 v2 : Nat)
    (hmay : s.launchRefusal (s.checkBank (p.le 6 1 / 2 = 0) bank v1 v2) p = none) (hready : s.placePiers.launchWaits p = false)
    (hbank : p.le 6 1 / 2 = 0 → (s.checkBank (p.le 6 1 / 2 = 0) bank v1 v2).holdupWaits = false) :
    s.launch k bank v1 v2 = ((s.checkBank (p.le 6 1 / 2 = 0) bank v1 v2).placePiers.beginPacket k.val).launchProgram p := by
  have hwait : (decide (p.le 6 1 / 2 = 0) && (s.checkBank (p.le 6 1 / 2 = 0) bank v1 v2).holdupWaits) = false := by
    by_cases hcheck : p.le 6 1 / 2 = 0
    · rw [hbank hcheck, Bool.and_false]
    · rw [decide_eq_false hcheck, Bool.false_and]
  rw [State.launch, State.onPacket_runs hruns]
  simp only [hruns.begun, hmay, hready, hwait, Bool.or_self, Bool.false_eq_true, if_false]

theorem State.preempt_pending (hruns : s.runsPacket k 0x0204 p) (hlaunched : s.launched = true)
    (hsave : s.pinned (p.le 0 4) (saveSize s.binding.length) = true) :
    s.preempt k = (s.beginPacket k.val).setFld Fld.SCHED_STATUS_PREEMPT_PENDING 0 1 := by
  have hvalid : (s.object (p.le 0 4)).valid = true := by
    simp only [State.pinned, Bool.and_eq_true] at hsave
    exact hsave.1.1
  rw [State.preempt, preemptOp, State.onPacket_runs hruns]
  simp only [hruns.begun, hlaunched, hvalid, hsave, Bool.not_true, Bool.false_eq_true, if_false]

theorem State.resume_restores (hruns : s.runsPacket k 0x0205 p) (bank v1 v2 : Nat) {x : Save}
    (hstate : s.fld Fld.SCHED_STATUS_STATE 0 = 5) (hbound : s.bound = true) (hcan : s.cannotRun = false)
    (hsave : s.saveFor (p.le 0 4) = some x) (hopen : (s.checkBank (!s.journalOff) bank v1 v2).objectBlocked x.object = false)
    (hbank : s.journalOff = false → (s.checkBank (!s.journalOff) bank v1 v2).holdupWaits = false ∧
      (s.checkBank (!s.journalOff) bank v1 v2).holdupOk = true) :
    s.resume k bank v1 v2 =
      State.restore { (s.checkBank (!s.journalOff) bank v1 v2).placePiers.beginPacket k.val with launchedOnce := true } x := by
  have hwait : (!s.journalOff && (s.checkBank (!s.journalOff) bank v1 v2).holdupWaits) = false ∧
      (!s.journalOff && !(s.checkBank (!s.journalOff) bank v1 v2).holdupOk) = false := by
    cases hoff : s.journalOff with
    | true => exact ⟨rfl, rfl⟩
    | false =>
      rw [hoff] at hbank
      simpa using hbank rfl
  rw [State.resume, State.onPacket_runs hruns]
  simp only [hruns.begun, hstate, hbound, hcan, hsave, hopen, hwait, bne_self_eq_false, Bool.not_true, Bool.or_self, Bool.false_eq_true,
    if_false]

/-! STEP_COMMIT (R421, R425, R432, R433). -/

/-- Does a commit wait for its keystone's acknowledgement: PAIRED, HELD, or at the handover of a rejoin (R421, R432)? -/
def State.sendsKeystone (s : State) : Bool := s.pairState = 2 || s.pairState = 3 || s.handoverDue

/-- The state in which the commit of step `n` is pending, with the last MSEQ that is assigned (R421). -/
def State.commitPending (s : State) (k : MailIx) (n : Nat) : State :=
  let s1 := s.beginPacket k.val
  { s1 with pairing := { s1.pairing with
    commit := some (n, s.lastMseq, s.sendsKeystone)
    handover := if s.handoverDue then some n else s1.pairing.handover } }

@[simp] theorem State.commit_commitPending (s : State) (k : MailIx) (n : Nat) :
    (s.commitPending k n).pairing.commit = some (n, s.lastMseq, s.sendsKeystone) := rfl

@[simp] theorem State.regs_commitPending (s : State) (k : MailIx) (n : Nat) : (s.commitPending k n).regs = s.regs := rfl

theorem State.pairState_of_handoverDue (h : s.handoverDue = true) : s.pairState = 5 ∧ s.rejoinSender = true := by
  simp only [State.handoverDue, Bool.and_eq_true, decide_eq_true_eq] at h
  exact h.1

/-- A STEP_COMMIT that nothing refuses is pending; its keystone goes to the mate, behind the HANDOVER where that is due, or its record is
written at once (R421, R425, R432). -/
theorem State.stepCommit_pends (hruns : s.runsPacket k 0x0206 p) (hform : p.le 4 1 = 0) (heval : s.evaluating = false)
    (hbar : s.commitBarred = false) (hlaunched : s.launched = false) (hrejoin : s.pairState = 5 → s.rejoinSender = true)
    (hstep : p.le 0 4 = s.stepNo) (hlimit : p.le 0 4 ≠ 0xFFFFFFFF) :
    s.stepCommit k =
      let v := s.commitPending k (p.le 0 4)
      if s.sendsKeystone then
        (if s.handoverDue then v.sendSync 7 (leBytes 4 (p.le 0 4)) [] else v).sendKeystone s.lastMseq (p.le 0 4) false
      else v.writeOwn (p.le 0 4) s.lastMseq false := by
  have hreceiver : (decide (s.pairState = 5) && !s.rejoinSender) = false := by
    by_cases h : s.pairState = 5
    · rw [hrejoin h, Bool.not_true, Bool.and_false]
    · rw [decide_eq_false h, Bool.false_and]
  have hrefused : s.handoverRefused = false := by rw [State.handoverRefused, hlaunched, Bool.false_and]
  have hform' : (p.le 4 1 != 0) = false := by rw [hform]; rfl
  have hstep' : (p.le 0 4 != s.stepNo) = false := by rw [hstep, bne_self_eq_false]
  rw [State.stepCommit, State.onPacket_runs hruns]
  simp only [hruns.begun, hform', heval, hbar, hlaunched, hreceiver, hrefused, hstep', hlimit, Bool.and_false, Bool.or_self,
    Bool.false_eq_true, if_false]
  rfl

/-- The state in which STEP_COMMIT has set the counter to `n`, with the record of the step before it (R433). -/
def State.counterSet (s : State) (k : MailIx) (n : Nat) : State :=
  let s1 := (s.beginPacket k.val).setFld Fld.STEP_COUNTER_STEP 0 n
  if s.journalOff then s1 else s1.journalise (s.keyRecord true ((n + 2 ^ 32 - 1) % 2 ^ 32) 0)

theorem State.stepCommitSet_sets (hruns : s.runsPacket k 0x0206 p) (hform : p.le 4 1 = 1) (heval : s.evaluating = false)
    (hbar : s.commitBarred = false) (hlaunched : s.launched = false) (hpair : s.pairState = 0 ∨ s.pairState = 4) :
    s.stepCommitSet k =
      (s.counterSet k (p.le 8 4)).finish k.val .ok 0 (leBytes 4 (p.le 8 4) ++ leBytes 4 0 ++ leBytes 8 0) := by
  have hform' : (p.le 4 1 != 1) = false := by rw [hform]; rfl
  have hpair' : (decide (s.pairState = 0) || decide (s.pairState = 4)) = true := by simpa using hpair
  rw [State.stepCommitSet, State.onPacket_runs hruns]
  simp only [hruns.begun, hform', heval, hbar, hlaunched, hpair', Bool.not_true, Bool.or_self, Bool.false_eq_true, if_false]
  rfl

theorem State.fld_counterSet (s : State) (k : MailIx) (n : Nat) :
    (s.counterSet k n).fld Fld.STEP_COUNTER_STEP 0 = n % 2 ^ 32 := by
  have hset := State.fld_setFld_same (s.beginPacket k.val) Fld.STEP_COUNTER_STEP 0 n (by decide)
  unfold State.counterSet
  dsimp only
  split
  · exact hset
  · exact hset

theorem State.running_beginPacket (hruns : s.runsPacket k 0x0206 p) :
    ((s.beginPacket k.val).mailSlot k.val).running = some { p with begun := true } := by
  rw [State.beginPacket, State.mailSlot_setMail_same, hruns.running]
  rfl

theorem State.running_counterSet (hruns : s.runsPacket k 0x0206 p) (n : Nat) :
    ((s.counterSet k n).mailSlot k.val).running = some { p with begun := true } := by
  have hbegun := State.running_beginPacket hruns
  unfold State.counterSet
  dsimp only
  split
  · exact hbegun
  · exact hbegun

end

/-- Settles O14: each command has its effect, case by case; the read of an image and the change of the image in force leave the packet of
the command as it was. -/
theorem programCommandsRun : Obligations.ProgramCommandsRun := by
  refine fun s k p => ⟨fun hruns hidle hvalid hpinned hready hgood hsigned hwhole => ?image,
    fun b o hruns hmay hentry => congrArg Host.Outcome.next (State.bindCmd_binds hruns hmay hentry),
    fun bank v1 v2 hruns hmay hready hbank => congrArg Host.Outcome.next (State.launch_starts hruns bank v1 v2 hmay hready hbank),
    fun hruns hlaunched hsave => ?preempt,
    fun bank v1 v2 x hruns hstate hbound hcan hsave hopen hbank =>
      congrArg Host.Outcome.next (State.resume_restores hruns bank v1 v2 hstate hbound hcan hsave hopen hbank),
    fun hruns hform heval hbar hlaunched hpaired hheld hrejoin hdue hstep hlimit => ?alone,
    fun hruns hform heval hbar hlaunched hpair hstep hlimit => ?keystone,
    fun hruns hform heval hbar hlaunched hdue hstep hlimit => ?handover,
    fun hruns hform heval hbar hlaunched hpair => ?set⟩
  case image =>
    have hkept : State.PacketsKept { s with imageObject := p.le 0 4 } (s.imageRead p).2.takeImage :=
      (State.PacketsKept.readObject ..).trans (State.PacketsKept.takeImage _)
    exact ⟨_, congrArg Host.Outcome.next (State.loadImage_takes hruns hidle hvalid hpinned hready hgood hsigned hwhole),
      (State.imageObject_finish ..).trans hkept.imageObject, State.replied_finish (hkept.running hruns.running) ..⟩
  case preempt =>
    refine ⟨_, congrArg Host.Outcome.next (State.preempt_pending hruns hlaunched hsave), ?_, ?_, fun _ => rfl⟩
    · rw [State.flag, State.fld_setFld_same _ _ _ _ (by decide)]
      rfl
    · have hbegun : (((s.beginPacket k.val).mailSlot k.val).running.map Packet.begun) = some true := by
        rw [State.beginPacket, State.mailSlot_setMail_same, hruns.running]
        rfl
      exact hbegun
  case alone =>
    have hkey : s.sendsKeystone = false := by simp [State.sendsKeystone, hpaired, hheld, hdue]
    refine ⟨_, congrArg Host.Outcome.next (State.stepCommit_pends hruns hform heval hbar hlaunched hrejoin hstep hlimit),
      s.commitPending k (p.le 0 4), ?_, by rw [State.commit_commitPending, hkey], State.regs_commitPending ..⟩
    simp only [hkey, Bool.false_eq_true, if_false]
  case keystone =>
    have hkey : s.sendsKeystone = true := by
      obtain h | h := hpair <;> simp [State.sendsKeystone, h]
    have hdue : s.handoverDue = false := by
      obtain h | h := hpair <;> simp [State.handoverDue, h]
    have hrejoin : s.pairState = 5 → s.rejoinSender = true := fun h => by
      obtain h' | h' := hpair <;> simp [h'] at h
    refine ⟨_, congrArg Host.Outcome.next (State.stepCommit_pends hruns hform heval hbar hlaunched hrejoin hstep hlimit),
      s.commitPending k (p.le 0 4), ?_, by rw [State.commit_commitPending, hkey], State.regs_commitPending ..⟩
    simp only [hkey, hdue, Bool.false_eq_true, if_false, if_true]
  case handover =>
    have hkey : s.sendsKeystone = true := by simp [State.sendsKeystone, hdue]
    have hrejoin : s.pairState = 5 → s.rejoinSender = true := fun _ => (State.pairState_of_handoverDue hdue).2
    refine ⟨_, congrArg Host.Outcome.next (State.stepCommit_pends hruns hform heval hbar hlaunched hrejoin hstep hlimit),
      s.commitPending k (p.le 0 4), ?_, by rw [State.commit_commitPending, hkey], if_pos hdue, State.regs_commitPending ..⟩
    simp only [hkey, hdue, if_true]
  case set =>
    refine ⟨_, congrArg Host.Outcome.next (State.stepCommitSet_sets hruns hform heval hbar hlaunched hpair), ?_,
      State.replied_finish (State.running_counterSet hruns _) ..⟩
    rw [State.fld_finish _ _ _ _ _ (by decide), State.fld_counterSet]

end Sys2Proof.Machine
end

section
/-! PROOFS. An instruction whose item is late, in a state whose slot table is not in canonical form (R301, R302). -/
namespace Sys2Proof.Machine
open Sys2Proof

/-- Pier 0 issues, bound alone; its slot table lists slot 0 twice: a tile that has landed, and behind that entry a full slot. -/
def doubledSlot : State :=
  { State.reset.setFld Fld.PCTL_STATUS_STATE 0 2 with
    binding := [0]
    slots := [(slotIx 0 0, { SlotRec.init with landed := 1 }), (slotIx 0 0, { SlotRec.init with full := true })] }

theorem readyAt_doubledSlot : doubledSlot.readyAt 0 0 := by
  unfold State.readyAt; decide +kernel

/-- The constants of a VLDC at offset 0 are not in the pier cache. -/
theorem constantsLate_doubledSlot :
    ((vldcLines 0 .fp32).all (fun l => ((doubledSlot.pier 0).cacheLine l).isSome)) = false := by
  decide +kernel

/-- The VLDC that stalls the slot: its vector register and its offset do not matter. -/
def lateVldc : Instr := .vldc 0 0 0 0 .fp32

theorem exec_lateVldc :
    exec lateVldc doubledSlot =
      .next ((doubledSlot.stallSlot (doubledSlot.domOf 0) 0 [(0, lateBundle, false)]).hold true lateVldc) := by
  have hlate : (Needs.item (if (vldcLines 0 .fp32).all (fun l => ((doubledSlot.pier 0).cacheLine l).isSome) then none
      else some lateBundle)).late = some lateBundle := by
    rw [constantsLate_doubledSlot]
    rfl
  have hissue := State.issue_late readyAt_doubledSlot lateVldc
    (needs := fun s => Needs.item (if (vldcLines 0 .fp32).all (fun l => ((s.pier 0).cacheLine l).isSome) then none else some lateBundle))
    hlate (fun s => (s.vecBusy 0).vldcEffect 0 0 0 0 .fp32) (fun _ => false)
  exact congrArg Host.Outcome.next hissue

/-- The first entry of the table shows a slot that is not full. -/
theorem full_doubledSlot : (doubledSlot.slot 0 0).full = false := by decide +kernel

/-- The checks that are made again see the landing of slot 0 (`State.seeAll`): its first entry is then the default, is dropped, and
uncovers the second. -/
theorem full_stalled_doubledSlot :
    (((doubledSlot.stallSlot (doubledSlot.domOf 0) 0 [(0, lateBundle, false)]).hold true lateVldc).slot 0 0).full = true := by
  decide +kernel

/-- Refutes O45: the statement is of every state, also of one whose table of slots lists a slot twice. There the stall sees all that has
landed in its pier's slots, the first entry of slot 0 becomes the default and is dropped, and the slot shows the second entry, whose FULL
is another. What the statement lacks is a premise that the tables of slots and regions are in their canonical form (`NMap.wf`), which
`State.Inv` does not say either. -/
theorem not_lateInstructionHeld : ¬ Obligations.LateInstructionHeld := by
  intro h
  obtain ⟨-, -, -, -, -, -, -, -, -, -, hvldc, -⟩ := h doubledSlot 0 0 readyAt_doubledSlot
  have hneeds : doubledSlot.needLate false 0 0 (.item (some lateBundle)) ≠ none := by
    rw [State.needLate_late readyAt_doubledSlot rfl]
    exact Option.some_ne_none _
  obtain ⟨u, hexec, -, -, -, -, -, -, hslots, -⟩ := hvldc 0 0 .fp32 constantsLate_doubledSlot hneeds
  obtain rfl := Host.Outcome.next.inj (exec_lateVldc.symm.trans hexec)
  have hfull := congrArg SlotRec.full (hslots 0 0)
  rw [full_stalled_doubledSlot] at hfull
  exact absurd (hfull.trans full_doubledSlot) (by decide)

end Sys2Proof.Machine
end

section
/-! PROOFS. What the sensors and the supply tell: the sense inputs, junction readings and the trip, supply windows, clock steps and
monitors, the reference clock, brace and failed routers (R329, R474-R478, R483-R491, R500-R502). -/
namespace Sys2Proof.Machine
open Sys2Proof

/-! Fields and the sense inputs (R474, R483). -/

/-- Do two fields share no bit of a register? -/
def Fld.apart (g f : Fld) : Bool := g.reg != f.reg || decide (g.lo + g.width ≤ f.lo) || decide (f.lo + f.width ≤ g.lo)

theorem State.fld_setFld_apart (s : State) {f g : Fld} (hg : g.lo + g.width ≤ 64) (h : g.apart f = true) (i v j : Nat) :
    (s.setFld f i v).fld g j = s.fld g j := by
  simp only [Fld.apart, Bool.or_eq_true, bne_iff_ne, decide_eq_true_eq, or_assoc] at h
  obtain hreg | hbits := h
  · exact State.fld_setFld_reg s v (fun e => hreg e.1)
  · exact State.fld_setFld_field s v hg hbits

theorem State.flag_setFld_one (s : State) {f : Fld} (hf : f.lo + f.width ≤ 64) (hwidth : f.width = 1) (i : Nat) :
    (s.setFld f i 1).flag f i = true := by
  rw [State.flag, State.fld_setFld_same s f i 1 hf, hwidth]
  rfl

theorem State.flag_setFld_zero (s : State) {f : Fld} (hf : f.lo + f.width ≤ 64) (i : Nat) : (s.setFld f i 0).flag f i = false := by
  rw [State.flag, State.fld_setFld_same s f i 0 hf, Nat.zero_mod]
  rfl

theorem State.flag_of_fld {s u : State} {f : Fld} {i : Nat} (h : u.fld f i = s.fld f i) : u.flag f i = s.flag f i :=
  congrArg (· != 0) h

theorem withBit_eq (v : Bool) (w i : Nat) :
    (if w.testBit i then w - 2 ^ i else w) + (if v then 2 ^ i else 0) = withBit v w i := by
  unfold withBit
  cases v with
  | false => rfl
  | true =>
    by_cases hw : w.testBit i = true
    · simp only [hw, if_true]
      exact Nat.sub_add_cancel (Nat.ge_two_pow_of_testBit hw)
    · simp only [hw, Bool.false_eq_true, if_false, if_true]

theorem State.setSense_eq (s : State) (i : Nat) (v : Bool) :
    s.setSense i v = (s.setFld Fld.SENSE_STATUS_RAW 0 (withBit v (s.fld Fld.SENSE_STATUS_RAW 0) i)).setFld Fld.SENSE_STATUS_FILT 0
      (withBit v (s.fld Fld.SENSE_STATUS_FILT 0) i) := by
  rw [← withBit_eq, ← withBit_eq]
  rfl

theorem State.sensed_setSense (s : State) (i : Nat) (v : Bool) {j : Nat} (hj : j < 6) :
    (s.setSense i v).sensed j = if j = i then v else s.sensed j := by
  have hwidth : j < Fld.SENSE_STATUS_FILT.width := hj
  rw [State.setSense_eq, State.sensed, State.fld_setFld_same _ _ _ _ (by decide), Nat.testBit_mod_two_pow, testBit_withBit,
    decide_eq_true hwidth, Bool.true_and]
  rfl

theorem State.fld_setSense (s : State) (i : Nat) (v : Bool) {g : Fld} (hg : g.reg ≠ .senseStatus) (j : Nat) :
    (s.setSense i v).fld g j = s.fld g j := by
  rw [State.setSense_eq, State.fld_setFld_reg _ _ (fun h => hg h.1), State.fld_setFld_reg _ _ (fun h => hg h.1)]

theorem State.sensed_of_fld {s u : State} (h : u.fld Fld.SENSE_STATUS_FILT 0 = s.fld Fld.SENSE_STATUS_FILT 0) (i : Nat) :
    u.sensed i = s.sensed i :=
  congrArg (·.testBit i) h

theorem State.sensed_setFld (s : State) {f : Fld} (hf : Fld.SENSE_STATUS_FILT.apart f = true) (i v j : Nat) :
    (s.setFld f i v).sensed j = s.sensed j :=
  State.sensed_of_fld (s.fld_setFld_apart (by decide) hf i v 0) j

/-! What the work of the module that a sense event sets off leaves of the readings. -/

/-- The fields of the readings and of their conclusions. -/
def sensorFlds : List Fld :=
  [Fld.SENSE_STATUS_FILT, Fld.THERM_STATUS_TJ_MAX, Fld.THERM_STATUS_TRIPPED, Fld.TOKEN_STATUS_ALERT, Fld.TOKEN_STATUS_BRACE,
    Fld.PAIR_STATUS_PAIR_ALIVE, Fld.POWER_STATUS_BRACE, Fld.SUPPLY_STATUS_P_AVG, Fld.HOLDUP_STATUS_V_BANK]

theorem fits_of_mem_sensorFlds : ∀ g ∈ sensorFlds, g.lo + g.width ≤ 64 := by decide

theorem uncounted_of_mem_sensorFlds :
    ∀ g ∈ sensorFlds, g.reg ≠ .cmdCount ∧ g.reg ≠ .evtCount ∧ g.reg ≠ .spanToken := by decide

theorem apart_causeFld (row : Nat) : ∀ g ∈ sensorFlds, g.apart (causeFld row) = true := by
  unfold causeFld
  split
  · decide
  · split
    · decide
    · split <;> decide

/-- The fields of the throttle factor, its causes and what the spans get (R329, R333). -/
def throttleFlds : List Fld :=
  [Fld.TOKEN_STATUS_FACTOR, Fld.TOKEN_COUNT_THROTTLE_STEPS, Fld.TOKEN_STATUS_THERMAL, Fld.TOKEN_STATUS_SUPPLY,
    Fld.SPAN_TOKEN_GRANTED, Fld.SPAN_TOKEN_STEP]

theorem apart_throttleFlds : ∀ f ∈ throttleFlds, ∀ g ∈ sensorFlds, g.apart f = true := by decide

/-- A throttle factor that follows its causes sets fields of its own and raises events, nothing more (R329). -/
theorem State.rethrottle_keeps {P : State → Prop} (hset : ∀ {v : State} f i n, f ∈ throttleFlds → P v → P (v.setFld f i n))
    (hevent : ∀ {v : State} c k i d, P v → P (v.event c k i d)) {u : State} (h : P u) (hotSpan celsius watts : Nat) :
    P (u.rethrottle hotSpan celsius watts) := by
  have hraise {b : Bool} {v : State} (hv : P v) (c : Code) (k i d : Nat) : P (if b then v.event c k i d else v) :=
    iteInduction (fun _ => hevent c k i d hv) (fun _ => hv)
  have hfactor : P (if u.throttle = u.fld Fld.TOKEN_STATUS_FACTOR 0 then u
      else (u.setFld Fld.TOKEN_STATUS_FACTOR 0 u.throttle).bump Fld.TOKEN_COUNT_THROTTLE_STEPS 0 1) :=
    iteInduction (fun _ => h) (fun _ => hset _ _ _ (by decide) (hset _ _ _ (by decide) h))
  have hcauses := hset Fld.TOKEN_STATUS_SUPPLY 0 (if u.factorP < 16 then 1 else 0) (by decide)
    (hset Fld.TOKEN_STATUS_THERMAL 0 (if u.factorT < 16 then 1 else 0) (by decide) hfactor)
  have hregrant (v : State) (sp : Nat) (hv : P v) : P (v.regrant sp) :=
    hset Fld.SPAN_TOKEN_STEP _ _ (by decide) (hset Fld.SPAN_TOKEN_GRANTED _ _ (by decide) hv)
  exact foldl_keeps P State.regrant hregrant _ _ (hraise (hraise hcauses .thermThrottle ..) .supplyThrottle ..)

/-- The registers, the junction readings and the state of brace. -/
def State.readings (s : State) : NMap Word × NMap (Nat × Nat) × Option Word × Bool := (s.regs, s.junction, s.braceAt, s.recovering)

/-- `u` has the readings of `s` and what the tollhouse has concluded from them. -/
structure State.SensorsKept (s u : State) : Prop where
  junction : u.junction = s.junction
  braceAt : u.braceAt = s.braceAt
  recovering : u.recovering = s.recovering
  fld : ∀ g ∈ sensorFlds, u.fld g 0 = s.fld g 0

namespace State.SensorsKept

theorem refl (s : State) : s.SensorsKept s := ⟨rfl, rfl, rfl, fun _ _ => rfl⟩

theorem trans {s u w : State} (h : s.SensorsKept u) (k : u.SensorsKept w) : s.SensorsKept w :=
  ⟨k.junction.trans h.junction, k.braceAt.trans h.braceAt, k.recovering.trans h.recovering, fun g hg => (k.fld g hg).trans (h.fld g hg)⟩

section
variable {s u w : State} (h : s.SensorsKept u)
include h

theorem flag {g : Fld} (hg : g ∈ sensorFlds) : u.flag g 0 = s.flag g 0 := State.flag_of_fld (h.fld g hg)

theorem sensed (i : Nat) : u.sensed i = s.sensed i := State.sensed_of_fld (h.fld _ (by decide)) i

theorem tempsOf (sp : Nat) : u.tempsOf sp = s.tempsOf sp := by rw [State.tempsOf, h.junction]; rfl

theorem tripSpan : u.tripSpan = s.tripSpan := by simp only [State.tripSpan, h.tempsOf]

/-- A change of parts of the state that are neither registers nor readings. -/
theorem of_readings (hsame : w.readings = u.readings) : s.SensorsKept w := by
  simp only [State.readings, Prod.mk.injEq] at hsame
  obtain ⟨hregs, hjunction, hbrace, hrecovering⟩ := hsame
  refine h.trans ⟨hjunction, hbrace, hrecovering, fun g _ => ?_⟩
  rw [State.fld, State.reg, hregs]
  rfl

theorem setFld {f : Fld} (hf : ∀ g ∈ sensorFlds, g.apart f = true) (i v : Nat) : s.SensorsKept (u.setFld f i v) :=
  h.trans ⟨rfl, rfl, rfl, fun g hg => State.fld_setFld_apart u (fits_of_mem_sensorFlds g hg) (hf g hg) i v 0⟩

theorem bump {f : Fld} (hf : ∀ g ∈ sensorFlds, g.apart f = true) (i n : Nat) : s.SensorsKept (u.bump f i n) :=
  h.setFld hf i _

theorem optional {c : Prop} {_ : Decidable c} (k : s.SensorsKept w) : s.SensorsKept (if c then u else w) :=
  iteInduction (fun _ => h) (fun _ => k)

theorem foldl {α : Type} {f : State → α → State} (hf : ∀ {w : State} x, s.SensorsKept w → s.SensorsKept (f w x)) (l : List α) :
    s.SensorsKept (l.foldl f u) :=
  foldl_keeps s.SensorsKept f (fun _ x => hf x) l u h

theorem of_sent (hsent : u.Sent w) : s.SensorsKept w := by
  refine h.trans ⟨by rw [hsent.eq], by rw [hsent.eq], by rw [hsent.eq], fun g hg => ?_⟩
  obtain ⟨hcmd, hevt, -⟩ := uncounted_of_mem_sensorFlds g hg
  exact hsent.fld ⟨hcmd, hevt⟩ 0

theorem of_spansOnly (hspans : u.SpansOnly w) : s.SensorsKept w := by
  refine h.trans ⟨by rw [hspans.eq], by rw [hspans.eq], by rw [hspans.eq], fun g hg => ?_⟩
  obtain ⟨-, -, hspan⟩ := uncounted_of_mem_sensorFlds g hg
  exact congrArg g.ofWord (hspans.reg g.reg 0 hspan)

/-! Events and the end of commands. -/

theorem event (c : Code) (srcKind srcIndex detail : Nat) : s.SensorsKept (u.event c srcKind srcIndex detail) := h.of_sent (.event ..)

theorem flagEvent {f : Fld} (hf : ∀ g ∈ sensorFlds, g.apart f = true) (i : Nat) (c : Code) (srcKind srcIndex detail : Nat) :
    s.SensorsKept (u.flagEvent f i c srcKind srcIndex detail) :=
  h.optional ((h.setFld hf i 1).event ..)

theorem finish (k : Nat) (c : Cc) (detail : Nat) (result : List Byte) : s.SensorsKept (u.finish k c detail result) := by
  cases hrunning : (u.mailSlot k).running with
  | none => rwa [State.finish, hrunning]
  | some p =>
    have hcounted : s.SensorsKept (u.setMail k { u.mailSlot k with running := none }).countRunning :=
      (h.of_readings (by rfl)).setFld (by decide) ..
    have hkept : s.SensorsKept (u.replyKept k p c detail result) := hcounted.of_readings (by rfl)
    exact hkept.of_sent (State.sent_finish hrunning c detail result)

/-! Tokens, throttles and the charger (R322, R329, R505). -/

theorem regrant (sp : Nat) : s.SensorsKept (u.regrant sp) := h.of_spansOnly (.regrant u sp)

theorem rethrottle (hotSpan celsius watts : Nat) : s.SensorsKept (u.rethrottle hotSpan celsius watts) :=
  State.rethrottle_keeps (fun f i n hf k => k.setFld (apart_throttleFlds f hf) i n) (fun c k i d hv => hv.event c k i d) h ..

theorem giveBack (p : PierIx) (n : Nat) : s.SensorsKept (u.giveBack p n) := ((h.setFld (by decide) ..).setFld (by decide) ..).regrant _

theorem acquire (p : PierIx) (n : Nat) : s.SensorsKept (u.acquire p n) := ((h.setFld (by decide) ..).setFld (by decide) ..).regrant _

theorem charge : s.SensorsKept u.charge := h.setFld (by decide) ..

theorem readInput (mv : Nat) : s.SensorsKept (u.readInput mv) := (h.setFld (by decide) ..).setFld (by decide) ..

/-! Tests of piers and of the module (R514, R525, R532, R537). -/

theorem countTests : s.SensorsKept u.countTests := h.setFld (by decide) ..

theorem startTest (t : PierTest) : s.SensorsKept (u.startTest t) :=
  ((((h.setFld (f := Fld.POWER_STATUS_STATE) (by decide) ..).optional h).of_readings (by rfl)).setFld (by decide) ..).countTests.regrant _

theorem retestParked : s.SensorsKept u.retestParked := h.optional (h.foldl (fun _ k => k.startTest _) _)

theorem pauseBist : s.SensorsKept u.pauseBist := h.of_readings (by rfl)

theorem noteResult (code repairs ms : Nat) : s.SensorsKept (u.noteResult code repairs ms) :=
  (h.setFld (by decide) ..).optional ((((h.setFld (by decide) ..).setFld (by decide) ..).bump (by decide) ..).bump (by decide) ..)

theorem dropTest (p : PierIx) : s.SensorsKept (u.dropTest p) := (h.of_readings (by rfl)).countTests.regrant _

theorem interruptTest (t : PierTest) : s.SensorsKept (u.interruptTest t false) := by
  have hdropped := (h.dropTest t.pier).noteResult 5 0 0
  unfold State.interruptTest
  dsimp only
  split
  · exact hdropped.finish ..
  · exact hdropped.finish ..
  · rw [if_neg Bool.false_ne_true]
    split
    · exact hdropped.finish ..
    · exact hdropped
  · exact hdropped

/-! A wake, and the loss of the pair (R243, R427, R514). -/

theorem setSoft (g channel k : Nat) (e : HardRepair) : s.SensorsKept (u.setSoft g channel k (some e)) :=
  ((((h.setFld (by decide) ..).setFld (by decide) ..).setFld (by decide) ..).setFld (by decide) ..).setFld (by decide) ..

theorem restoreSoft : s.SensorsKept u.restoreSoft := by
  refine h.foldl (fun e k => ?_) _
  split
  · exact k.setSoft ..
  · exact k

theorem trainGates (untrained : List GateIx) : s.SensorsKept (u.trainGates untrained) :=
  restoreSoft (h.foldl (fun _ k => ((k.setFld (by decide) ..).flagEvent (by decide) ..).optional (k.setFld (by decide) ..)) _)

theorem leavePark : s.SensorsKept u.leavePark := by
  have hgates := ((h.of_readings (w := u.fresh.2) (by rfl)).setFld (f := Fld.POWER_STATUS_STATE) (by decide) 0 1).of_readings
    (w := { u.fresh.2.setPower 1 with admitted := [], parked := u.admitted, jwAsleep := false }) (by rfl)
  have hports := (hgates.trainGates ((List.finRange 8).filter (fun g => u.fresh.1.getLsbD g.val))).foldl
    (f := State.enablePort) (fun _ k => (k.setFld (by decide) ..).optional k) (List.range 12)
  have htests := hports.foldl (f := fun s p => s.startTest ⟨p, .park⟩) (fun _ k => k.startTest _) u.admitted
  unfold State.leavePark
  dsimp only
  split
  · split
    · exact htests.startTest _
    · exact htests
  · exact htests

theorem wakeUp (src : Nat) : s.SensorsKept (u.wakeUp src) := by
  have hsrc := h.setFld (f := Fld.POWER_STATUS_WAKE_SRC) (by decide) 0 src
  unfold State.wakeUp
  dsimp only
  split
  · exact h
  · split
    · exact h.of_readings (by rfl)
    · split
      · exact ((hsrc.of_readings (by rfl)).setFld (f := Fld.POWER_STATUS_STATE) (by decide) ..).of_readings (by rfl)
      · exact (hsrc.of_readings (by rfl)).leavePark

theorem senseWake (src : Nat) : s.SensorsKept (u.senseWake src) := (h.wakeUp src).optional h

theorem pairLost (cause : Nat) : s.SensorsKept (u.pairLost cause) := ((h.setFld (by decide) ..).flagEvent (by decide) ..).optional h

/-! A stop of the stall domains and the end of the step (R301, R311). -/

theorem failStep (c : Code) (logical slot : Nat) : s.SensorsKept (u.failStep c logical slot) :=
  ((((h.setFld (by decide) ..).setFld (by decide) ..).setFld (by decide) ..).setFld (by decide) ..).optional h

theorem failFree (c : Code) : s.SensorsKept (u.failFree c) := ((h.of_readings (by rfl)).failStep ..).optional h

theorem writeBytes (a : Nat) (bs : List Byte) : s.SensorsKept (u.writeBytes a bs) := h.of_readings (by rfl)

theorem writeSide (p : PierIx) (r : RegionIx) (i : Nat) (x : Tile) : s.SensorsKept (u.writeSide p r i x) :=
  ((h.writeBytes ..).writeBytes ..).optional (h.writeBytes ..)

theorem landPoison (p : PierIx) (r : RegionIx) (i : Nat) (f : Fmt) : s.SensorsKept (u.landPoison p r i f) := by
  have htile : s.SensorsKept (u.writeTile p r i (poisonTile f u.stepNo)) := (h.writeBytes ..).writeSide ..
  exact htile.of_readings (by rfl)

theorem stopPass (p : PierIx) (x : PassRun) (c : Nat) : s.SensorsKept (u.stopPass p x c) :=
  ((((h.of_readings (by rfl)).of_readings (by rfl)).foldl (fun _ k => k.of_readings (by rfl)) _).setFld (by decide) ..).optional h

theorem stopWork (c : Nat) (x : Work) : s.SensorsKept (u.stopWork c x) := by
  have hgrid (a : ArchIx) : s.SensorsKept ((u.setFld Fld.ARCH_STATUS_STAT_VALID (archIx x.pier a) 0).setArch x.pier a
    { u.arch x.pier a with next := none }) := (h.setFld (f := Fld.ARCH_STATUS_STAT_VALID) (by decide) ..).of_readings (by rfl)
  unfold State.stopWork
  dsimp only
  split
  case h_1 | h_2 => exact hgrid _
  case h_3 | h_4 | h_5 | h_6 => exact h.stopPass ..
  case h_7 | h_9 => exact h.landPoison ..
  case h_8 => exact h.foldl (fun _ k => k.landPoison ..) _
  case h_10 => exact h

theorem landOut (p : PierIx) (o : Option (RegionIx × Nat × Fmt)) : s.SensorsKept (u.landOut p o) := by
  cases o with
  | none => exact h
  | some o => exact h.landPoison ..

theorem stopPier (p : PierIx) : s.SensorsKept (u.stopPier p) := by
  have hbuilds := h.foldl (f := fun s b => s.landPoison p b.region b.idx b.fmt) (fun _ k => k.landPoison ..) (u.pier p).builds
  have hlanded := ((hbuilds.landOut p (u.pier p).upd.w).landOut p (u.pier p).upd.m).landOut p (u.pier p).upd.sh
  exact (((hlanded.of_readings (by rfl)).giveBack ..).setFld (by decide) ..).setFld (by decide) ..

theorem stopDomain (d : Dom) : s.SensorsKept (u.stopDomain d) :=
  ((h.foldl (fun _ k => k.stopWork ..) _).foldl (fun _ k => k.stopPier _) _).of_readings (by rfl)

theorem finishLaunch (c : Cc) (detail : Nat) : s.SensorsKept (u.finishLaunch c detail) := by
  unfold State.finishLaunch
  split
  · exact h.finish ..
  · exact h

theorem finishPreempt (c : Cc) (detail : Nat) (result : List Byte) : s.SensorsKept (u.finishPreempt c detail result) := by
  unfold State.finishPreempt
  dsimp only
  split
  · exact (h.setFld (by decide) ..).finish ..
  · exact h.setFld (by decide) ..

theorem dropLaunchParapets : s.SensorsKept u.dropLaunchParapets :=
  ((h.of_readings (by rfl)).setFld (f := Fld.PARAPET_STATUS_IN_USE) (by decide) ..).setFld (by decide) ..

theorem stepAbandoned : s.SensorsKept u.stepAbandoned := by
  have hdropped := ((h.event .stepAbandoned 0 0 u.abandonDetail).setFld (f := Fld.SCHED_STATUS_STATE) (by decide) 0 2).dropLaunchParapets
  have hended {v : State} (k : s.SensorsKept v) (c : Nat) :
      s.SensorsKept ({ v with evaluating := false }.finishLaunch .stepAbandoned c) := (k.of_readings (by rfl)).finishLaunch ..
  exact (((hended hdropped _).finishPreempt ..).optional (hended hdropped _)).optional h

/-! A stall of the stall domains (R301, R302). -/

theorem noteWait (p : PierIx) (x : RegionIx × Option (Nat × Bool)) : s.SensorsKept (u.noteWait p x) := by
  obtain ⟨r, i⟩ := x
  cases i with
  | none => exact h
  | some i => exact ((h.of_readings (by rfl)).of_readings (by rfl)).optional (h.of_readings (by rfl))

theorem recordLate (p : PierIx) (c : Nat) (l : Late) (again : Bool) : s.SensorsKept (u.recordLate p c l again) := by
  unfold State.recordLate
  dsimp only
  refine optional (bump ?_ (by decide) ..) ?_
  all_goals
    refine optional (bump (optional (setFld ?_ (apart_causeFld _) ..) ?_) (apart_causeFld _) ..) ?_
    all_goals exact (h.foldl (fun _ k => k.noteWait ..) _).of_readings (by rfl)

theorem journalise (r : JRecord) : s.SensorsKept (u.journalise r) := h.of_readings (by rfl)

theorem hold (failed : Bool) (i : Instr) : s.SensorsKept (u.hold failed i) := h.of_readings (by rfl)

theorem returnTokens (d : Dom) (c : Nat) : s.SensorsKept (u.returnTokens d c) :=
  foldl (h.of_readings (by rfl)) (fun _ k => ((k.acquire ..).hold ..).optional ((k.giveBack ..).hold ..)) _

theorem grantPort (p : PierIx) (req port : Nat) : s.SensorsKept (u.grantPort p req port) :=
  h.optional (((h.of_readings (by rfl)).bump (by decide) ..).optional (h.of_readings (by rfl)))

theorem dropClaims (p : PierIx) (slot : Nat) (phantom : Bool) : s.SensorsKept (u.dropClaims p slot phantom) :=
  (foldl (h.of_readings (by rfl)) (fun _ k => (k.foldl (fun _ k => k.grantPort ..) _).bump (by decide) ..) _).optional
    (h.of_readings (by rfl))

theorem stopIssue (c : Nat) (phantom : Bool) (p : PierIx) : s.SensorsKept (u.stopIssue c phantom p) := by
  have hseen : s.SensorsKept ((u.dropClaims p c phantom).seeAll p) := (h.dropClaims ..).of_readings (by rfl)
  exact ((hseen.setFld (by decide) ..).setFld (by decide) ..).optional ((hseen.of_readings (by rfl)).optional hseen)

theorem stallSlot (d : Dom) (c : Nat) (ls : List (PierIx × Late × Bool)) : s.SensorsKept (u.stallSlot d c ls) :=
  (((h.returnTokens d c).foldl (fun _ k => k.recordLate ..) ls).foldl (fun _ k => k.stopIssue ..) (u.domPiers d)).of_readings (by rfl)

theorem holdDomains : s.SensorsKept u.holdDomains := h.foldl (fun _ k => k.stallSlot ..) _

/-! Readings and the trip (R329, R478, R490). -/

theorem throttleTemps (t : Nat) : s.SensorsKept (u.throttleTemps t) := (h.of_readings (by rfl)).rethrottle ..

theorem countCool (t : Nat) : s.SensorsKept (u.countCool t) := h.of_readings (by rfl)

end

theorem trip (s : State) (sp : Nat) : (s.setFld Fld.THERM_STATUS_TRIPPED 0 1).SensorsKept (s.trip sp) := by
  have hfailed := (refl (s.setFld Fld.THERM_STATUS_TRIPPED 0 1)).failFree .thermTrip
  unfold State.trip
  dsimp only
  refine pauseBist (foldl (stepAbandoned (event (optional ?_ hfailed) ..)) (fun _ k => k.interruptTest _) _)
  exact hfailed.foldl (fun _ k => k.stopDomain _) _

end State.SensorsKept

/-! What throttles, tests and events leave as it was, memory among it. -/

/-- `u` is `s` but for registers, notices, the journal and the tests. -/
structure State.Quiet (s u : State) : Prop where
  eq : u = { s with
    regs := u.regs
    notices := u.notices
    journalWrites := u.journalWrites
    tests := u.tests
    bist := u.bist }

namespace State.Quiet

theorem refl (s : State) : s.Quiet s := ⟨rfl⟩

section
variable {s u : State} (h : s.Quiet u)
include h

theorem mem : u.mem = s.mem := by rw [h.eq]
theorem factorP : u.factorP = s.factorP := by rw [h.eq]
theorem routerFails : u.routerFails = s.routerFails := by rw [h.eq]
theorem measureWanted : u.measureWanted = s.measureWanted := by rw [h.eq]
theorem wakeWanted : u.wakeWanted = s.wakeWanted := by rw [h.eq]

theorem setFld (f : Fld) (i v : Nat) : s.Quiet (u.setFld f i v) := ⟨by rw [h.eq]; rfl⟩

theorem bump (f : Fld) (i n : Nat) : s.Quiet (u.bump f i n) := h.setFld ..

theorem charge : s.Quiet u.charge := h.setFld ..

theorem event (c : Code) (srcKind srcIndex detail : Nat) : s.Quiet (u.event c srcKind srcIndex detail) :=
  ⟨by rw [State.event, State.notify_eq, h.eq]⟩

theorem rethrottle (hotSpan celsius watts : Nat) : s.Quiet (u.rethrottle hotSpan celsius watts) :=
  State.rethrottle_keeps (fun f i n _ k => k.setFld f i n) (fun c k i d hv => hv.event c k i d) h ..

theorem pauseBist : s.Quiet u.pauseBist := ⟨by rw [State.pauseBist, h.eq]⟩

theorem startTest (t : PierTest) : s.Quiet (u.startTest t) := by
  have hidle : s.Quiet u.leaveIdle := by
    unfold State.leaveIdle
    split
    · exact h.setFld ..
    · exact h
  have hlisted : s.Quiet { u.leaveIdle with tests := u.tests ++ [t] } := ⟨by rw [hidle.eq]⟩
  exact (((hlisted.setFld Fld.BIST_STATUS_SCOPE ..).setFld Fld.BIST_STATUS_RUNNING ..).setFld ..).setFld ..

theorem retestParked : s.Quiet u.retestParked := by
  unfold State.retestParked
  split
  · exact h
  · exact foldl_keeps s.Quiet _ (fun _ _ k => k.startTest _) _ _ h

end

end State.Quiet

/-! The sense inputs (R329, R427, R474). -/

theorem runs_thermAlertAssert (s : State) :
    Runs .thermAlertAssert s (fun u => u.flag Fld.TOKEN_STATUS_ALERT 0 = true ∧ u.sensed 2 = false) := by
  have halert := (State.SensorsKept.refl ((s.setSense 2 false).setFld Fld.TOKEN_STATUS_ALERT 0 1)).rethrottle 0 0 0
  have hkept : State.SensorsKept _ s.alertOn := ((halert.event .thermAlert 0 0 0).optional halert).senseWake 5
  refine ⟨_, rfl, ?_, ?_⟩
  · rw [hkept.flag (by decide)]
    exact State.flag_setFld_one _ (by decide) rfl 0
  · rw [hkept.sensed, State.sensed_setFld _ (by decide), State.sensed_setSense _ _ _ (by decide), if_pos rfl]

theorem runs_thermAlertDeassert (s : State) :
    Runs .thermAlertDeassert s (fun u => u.flag Fld.TOKEN_STATUS_ALERT 0 = false ∧ u.sensed 2 = true ∧
      (∀ a, u.byte a = s.byte a)) := by
  have hkept : State.SensorsKept _ s.alertOff :=
    (State.SensorsKept.refl ((s.setSense 2 true).setFld Fld.TOKEN_STATUS_ALERT 0 0)).rethrottle 0 0 0
  have hquiet : State.Quiet _ s.alertOff := (State.Quiet.refl ((s.setSense 2 true).setFld Fld.TOKEN_STATUS_ALERT 0 0)).rethrottle 0 0 0
  refine ⟨_, rfl, ?_, ?_, State.byte_of_mem hquiet.mem⟩
  · rw [hkept.flag (by decide)]
    exact State.flag_setFld_zero _ (by decide) 0
  · rw [hkept.sensed, State.sensed_setFld _ (by decide), State.sensed_setSense _ _ _ (by decide), if_pos rfl]

theorem runs_pairAliveLow (s : State) :
    Runs .pairAliveLow s (fun u => u.flag Fld.PAIR_STATUS_PAIR_ALIVE 0 = false ∧ u.sensed 1 = false) := by
  have hkept : State.SensorsKept _ s.aliveLow :=
    ((State.SensorsKept.refl ((s.setSense 1 false).setFld Fld.PAIR_STATUS_PAIR_ALIVE 0 0)).pairLost 2).senseWake 4
  refine ⟨_, rfl, ?_, ?_⟩
  · rw [hkept.flag (by decide)]
    exact State.flag_setFld_zero _ (by decide) 0
  · rw [hkept.sensed, State.sensed_setFld _ (by decide), State.sensed_setSense _ _ _ (by decide), if_pos rfl]

theorem runs_pairAliveHigh (s : State) :
    Runs .pairAliveHigh s (fun u => u.flag Fld.PAIR_STATUS_PAIR_ALIVE 0 = true ∧ u.sensed 1 = true ∧ u.pairing = s.pairing ∧
      (∀ a, u.byte a = s.byte a)) := by
  refine ⟨_, rfl, State.flag_setFld_one _ (by decide) rfl 0, ?_, rfl, fun _ => rfl⟩
  rw [State.aliveHigh, State.sensed_setFld _ (by decide), State.sensed_setSense _ _ _ (by decide), if_pos rfl]

/-! Junction readings and the trip (R478, R483, R537). -/

theorem NMap.look_foldl_put {α : Type} [DecidableEq α] (d : Nat → α) (v : Nat → α) (l : List Nat) (m : NMap α) (j : Nat) :
    (l.foldl (fun m k => m.put d k (v k)) m).look d j = if j ∈ l then v j else m.look d j := by
  induction l generalizing m with
  | nil => rfl
  | cons k l ih =>
    rw [List.foldl_cons, ih]
    by_cases hl : j ∈ l
    · rw [if_pos hl, if_pos (List.mem_cons_of_mem k hl)]
    · rw [if_neg hl]
      by_cases hk : j = k
      · rw [hk, NMap.look_put_same, if_pos List.mem_cons_self]
      · rw [NMap.look_put_other _ _ _ hk, if_neg (by simp [hk, hl])]

theorem State.tempsOf_takeTemps (s : State) (temps : List Nat) {sp : Nat} (hsp : sp < 17) :
    (s.takeTemps temps).tempsOf sp = (temps.getD sp 0, (s.tempsOf sp).1) := by
  refine (NMap.look_foldl_put (fun _ => (0, 0)) (fun k => (temps.getD k 0, (s.tempsOf k).1)) (List.range 17) s.junction sp).trans ?_
  rw [if_pos (List.mem_range.2 hsp)]

theorem State.tjMax_takeTemps (s : State) (temps : List Nat) : (s.takeTemps temps).fld Fld.THERM_STATUS_TJ_MAX 0 =
    (s.takeTemps temps).hottest.1 % 2 ^ Fld.THERM_STATUS_TJ_MAX.width := by
  rw [State.takeTemps, State.fld_setFld_apart _ (by decide) (by decide), State.fld_setFld_apart _ (by decide) (by decide),
    State.fld_setFld_same _ _ _ _ (by decide)]
  rfl

theorem State.tripped_takeTemps (s : State) (temps : List Nat) :
    (s.takeTemps temps).flag Fld.THERM_STATUS_TRIPPED 0 = s.flag Fld.THERM_STATUS_TRIPPED 0 := by
  refine State.flag_of_fld ?_
  rw [State.takeTemps, State.fld_setFld_apart _ (by decide) (by decide), State.fld_setFld_apart _ (by decide) (by decide),
    State.fld_setFld_apart _ (by decide) (by decide)]
  rfl

/-- A trip keeps the readings and sets TRIPPED. -/
theorem State.trip_spec (s : State) (sp : Nat) : (s.trip sp).flag Fld.THERM_STATUS_TRIPPED 0 = true ∧
    (s.trip sp).fld Fld.THERM_STATUS_TJ_MAX 0 = s.fld Fld.THERM_STATUS_TJ_MAX 0 ∧ ∀ n, (s.trip sp).tempsOf n = s.tempsOf n := by
  have hkept := State.SensorsKept.trip s sp
  refine ⟨?_, ?_, hkept.tempsOf⟩
  · rw [hkept.flag (by decide)]
    exact State.flag_setFld_one _ (by decide) rfl 0
  · rw [hkept.fld _ (by decide), State.fld_setFld_apart _ (by decide) (by decide)]

theorem runs_junctionReading (s : State) (temps : List Nat) : Runs (.junctionReading temps) s (fun u =>
    (∀ sp : Fin 17, u.tempsOf sp.val = (temps.getD sp.val 0, (s.tempsOf sp.val).1)) ∧
    u.fld Fld.THERM_STATUS_TJ_MAX 0 = (s.takeTemps temps).hottest.1 % 2 ^ Fld.THERM_STATUS_TJ_MAX.width ∧
    ((s.takeTemps temps).tripSpan.isSome = true → u.flag Fld.THERM_STATUS_TRIPPED 0 = true) ∧
    ((s.takeTemps temps).tripSpan = none → u.flag Fld.THERM_STATUS_TRIPPED 0 = s.flag Fld.THERM_STATUS_TRIPPED 0)) := by
  have hkept := ((State.SensorsKept.refl (s.takeTemps temps)).throttleTemps (s.takeTemps temps).hottest.1).countCool
    (s.takeTemps temps).hottest.1
  have hlatest (sp : Fin 17) := (hkept.tempsOf sp.val).trans (s.tempsOf_takeTemps temps sp.isLt)
  have htjMax := (hkept.fld Fld.THERM_STATUS_TJ_MAX (by decide)).trans (s.tjMax_takeTemps temps)
  have htripped := (hkept.flag (g := Fld.THERM_STATUS_TRIPPED) (by decide)).trans (s.tripped_takeTemps temps)
  refine ⟨_, rfl, ?_⟩
  rw [← hkept.tripSpan, State.readTemps]
  generalize ((s.takeTemps temps).throttleTemps _).countCool _ = v at *
  split
  next sp hspan =>
    split
    next hwas => exact ⟨hlatest, htjMax, fun _ => hwas, fun h => by simp [hspan] at h⟩
    next =>
      obtain ⟨hset, hmax, htemps⟩ := v.trip_spec sp
      exact ⟨fun n => (htemps n.val).trans (hlatest n), hmax.trans htjMax, fun _ => hset, fun h => by simp [hspan] at h⟩
  next hspan => exact ⟨hlatest, htjMax, fun h => by simp [hspan] at h, fun _ => htripped⟩

theorem runs_thermTripClear {s : State} (htripped : s.flag Fld.THERM_STATUS_TRIPPED 0 = true) (hcool : s.hottest.1 ≤ 380) :
    Runs .thermTripClear s (fun u => u.flag Fld.THERM_STATUS_TRIPPED 0 = false ∧ (∀ a, u.byte a = s.byte a)) := by
  have hclear : s.tripClear = ((s.setFld Fld.THERM_STATUS_TRIPPED 0 0).event .thermTrip 6 s.hottest.2
      (tripDetail s.hottest.2 s.hottest.1 true)).pauseBist.retestParked := by
    simp only [State.tripClear, htripped, hcool, decide_true, Bool.and_self, if_true]
  have hkept : State.SensorsKept _ s.tripClear := hclear ▸ ((State.SensorsKept.refl _).event ..).pauseBist.retestParked
  have hquiet : State.Quiet _ s.tripClear := hclear ▸ ((State.Quiet.refl _).event ..).pauseBist.retestParked
  refine ⟨_, rfl, ?_, State.byte_of_mem hquiet.mem⟩
  rw [hkept.flag (by decide)]
  exact State.flag_setFld_zero _ (by decide) 0

/-! The supply windows (R329, R523). -/

/-- The windows in succession at 97 % of the budget or less (R329). -/
def State.windowsCool (s : State) (watts : Nat) : Nat :=
  if watts * 100 ≤ s.fld Fld.TOKEN_STATUS_BUDGET_W 0 * 97 then s.coolWindows + 1 else 0

/-- F_p after a window of an average power (R329). -/
def State.windowFactor (s : State) (watts : Nat) : Nat :=
  min 16 (max 4 (if s.fld Fld.TOKEN_STATUS_BUDGET_W 0 < watts then s.factorP - 1
    else if 10 ≤ s.windowsCool watts then s.factorP + 1 else s.factorP))

theorem State.windowFactor_over {s : State} {watts : Nat} (hover : s.fld Fld.TOKEN_STATUS_BUDGET_W 0 < watts) (hfactor : s.factorP ≤ 16) :
    s.windowFactor watts = max 4 (s.factorP - 1) := by
  rw [State.windowFactor, if_pos hover]
  omega

/-- The registers of the supply show the readings of a window (R523). -/
def State.windowRead (s : State) (vin iin : Nat) (r : WindowReading) : State :=
  (((s.setBank r.bank).readInput (vin * 10)).setFld Fld.SUPPLY_STATUS_I_IN 0 (min iin 65535)).setFld Fld.SUPPLY_STATUS_P_AVG 0
    (min r.watts 4000)

theorem State.readings_setWindows (s : State) (factor cool : Nat) :
    { s with factorP := factor, coolWindows := cool }.readings = s.readings := rfl

/-- F_p follows the readings of a window (R329). -/
def State.windowTaken (s : State) (vin iin : Nat) (r : WindowReading) : State :=
  { s.windowRead vin iin r with
    factorP := s.windowFactor r.watts
    coolWindows := if 10 ≤ s.windowsCool r.watts then 0 else s.windowsCool r.watts }

theorem State.windowEnd_eq (s : State) (vin iin : Nat) (r : WindowReading) :
    s.windowEnd vin iin r = (s.windowTaken vin iin r).rethrottle 0 0 r.watts := rfl

theorem State.power_windowRead (s : State) (vin iin : Nat) (r : WindowReading) :
    (s.windowRead vin iin r).fld Fld.SUPPLY_STATUS_P_AVG 0 = min r.watts 4000 := by
  rw [State.windowRead, State.fld_setFld_same _ _ _ _ (by decide)]
  exact Nat.mod_eq_of_lt (Nat.lt_of_le_of_lt (Nat.min_le_right ..) (by decide))

theorem State.bank_windowRead (s : State) (vin iin : Nat) (r : WindowReading) :
    (s.windowRead vin iin r).fld Fld.HOLDUP_STATUS_V_BANK 0 = r.bank % 2 ^ Fld.HOLDUP_STATUS_V_BANK.width := by
  have hread := ((State.SensorsKept.refl (s.setBank r.bank)).readInput (vin * 10)).setFld (f := Fld.SUPPLY_STATUS_I_IN) (by decide) 0
    (min iin 65535)
  rw [State.windowRead, State.fld_setFld_apart _ (by decide) (by decide), hread.fld _ (by decide), State.setBank,
    State.fld_setFld_apart _ (by decide) (by decide), State.fld_setFld_same _ _ _ _ (by decide)]

theorem State.mem_windowTaken (s : State) (vin iin : Nat) (r : WindowReading) : (s.windowTaken vin iin r).mem = s.mem := by
  simp only [State.windowTaken, State.windowRead, State.readInput, State.setBank, State.setFld_mem]

theorem runs_supplyWindowEnd (s : State) (vin iin watts bank : Nat) : Runs (.supplyWindowEnd vin iin ⟨watts, bank⟩) s (fun u =>
    4 ≤ u.factorP ∧ u.factorP ≤ 16 ∧ u.fld Fld.SUPPLY_STATUS_P_AVG 0 = min watts 4000 ∧
    u.fld Fld.HOLDUP_STATUS_V_BANK 0 = bank % 2 ^ Fld.HOLDUP_STATUS_V_BANK.width ∧
    (s.fld Fld.TOKEN_STATUS_BUDGET_W 0 < watts → s.factorP ≤ 16 → u.factorP = max 4 (s.factorP - 1)) ∧
    (∀ a, u.byte a = s.byte a)) := by
  have hkept : (s.windowRead vin iin ⟨watts, bank⟩).SensorsKept (s.windowEnd vin iin ⟨watts, bank⟩) := by
    rw [State.windowEnd_eq]
    exact ((State.SensorsKept.refl _).of_readings (State.readings_setWindows ..)).rethrottle ..
  have hquiet : (s.windowTaken vin iin ⟨watts, bank⟩).Quiet (s.windowEnd vin iin ⟨watts, bank⟩) := by
    rw [State.windowEnd_eq]
    exact (State.Quiet.refl _).rethrottle ..
  have hfactor : (s.windowEnd vin iin ⟨watts, bank⟩).factorP = s.windowFactor watts := hquiet.factorP
  have hpower := (hkept.fld Fld.SUPPLY_STATUS_P_AVG (by decide)).trans (s.power_windowRead ..)
  have hbank := (hkept.fld Fld.HOLDUP_STATUS_V_BANK (by decide)).trans (s.bank_windowRead ..)
  refine ⟨_, rfl, ?_, ?_, hpower, hbank, fun hover h16 => hfactor.trans (State.windowFactor_over hover h16),
    State.byte_of_mem (hquiet.mem.trans (s.mem_windowTaken ..))⟩
  · rw [hfactor]
    exact Nat.le_min.2 ⟨by decide, Nat.le_max_left ..⟩
  · rw [hfactor]
    exact Nat.min_le_left ..

/-! The clock step, the monitors and the reference clock (R486, R489-R491). -/

theorem runs_fstepUpdate {s : State} (hmode : s.flag Fld.CLK_STATUS_MODE 0 = true)
    (hwant : min (stepOf (s.fld Fld.THERM_STATUS_TJ_MAX 0)) (s.fld Fld.CLK_CFG_FSTEP_CAP 0) < s.fstep) :
    Runs .fstepUpdate s (fun u => u.fstep = s.fstep - 1 ∧ u.coolReads = 0 ∧ (∀ a, u.byte a = s.byte a)) := by
  have hdown : s.fstepUpdate = { s.setFld Fld.CLK_STATUS_FSTEP 0 (s.fstep - 1) with coolReads := 0 } := by
    simp only [State.fstepUpdate, hmode, hwant, if_true]
  have hlt : s.fstep < 2 ^ Fld.CLK_STATUS_FSTEP.width := Nat.mod_lt _ (Nat.two_pow_pos _)
  refine ⟨_, congrArg Host.Outcome.next hdown, ?_, rfl, fun _ => rfl⟩
  exact (State.fld_setFld_same s Fld.CLK_STATUS_FSTEP 0 _ (by decide)).trans (Nat.mod_eq_of_lt (Nat.lt_of_le_of_lt (Nat.sub_le ..) hlt))

theorem State.monitorFail_gated {s : State} {sp : Nat} (hgated : s.clocked sp = false) : s.monitorFail sp = s := by
  simp only [State.monitorFail, hgated, Bool.not_false, if_true]

theorem State.monitorFail_stepped {s : State} {sp : Nat} (hclocked : s.clocked sp = true) (hmode : s.flag Fld.CLK_STATUS_MODE 0 = true) :
    s.monitorFail sp = s.bump Fld.CLK_SPAN_COUNT_MARGIN_EVENTS sp 1 := by
  simp only [State.monitorFail, hclocked, hmode, Bool.not_true, Bool.false_eq_true, if_false, if_true]

theorem State.monitorFail_stretched {s : State} {sp : Nat} (hclocked : s.clocked sp = true) (hmode : s.flag Fld.CLK_STATUS_MODE 0 = false)
    (htest : s.flag Fld.CLK_STATUS_TEST_PERIOD 0 = false) : s.monitorFail sp = s.period (some sp) := by
  simp only [State.monitorFail, hclocked, hmode, htest, Bool.not_true, Bool.false_eq_true, if_false]

/-- Where no span holds, a period makes only the stretch (R491). -/
theorem State.period_of_no_holds {s : State} (hholds : ∀ j < 17, s.holds j = false) (sp : Nat) : s.period (some sp) =
    ((s.lengthen (s.fld Fld.CLK_CFG_STRETCH_STEPS 0) sp).bump Fld.CLK_SPAN_COUNT_STRETCHES sp 1).jointStalls := by
  have hnone : (List.range 17).filter s.holds = [] := by
    rw [List.filter_eq_nil_iff]
    exact fun j hj => by simp [hholds j (List.mem_range.1 hj)]
  simp only [State.period, hnone, List.foldl_nil, List.contains_nil, Bool.false_eq_true, if_false]

theorem runs_refclkLost {s : State} (hheld : s.flag Fld.CLK_STATUS_REF_LOST 0 = false) :
    Runs .refclkLost s (fun u => u.flag Fld.CLK_STATUS_REF_LOST 0 = true ∧ u.refLost = true ∧ (∀ a, u.byte a = s.byte a)) := by
  refine ⟨_, congrArg Host.Outcome.next (if_neg (by rw [hheld]; exact Bool.false_ne_true)), ?_, rfl, fun _ => rfl⟩
  rw [State.bump, State.flag_of_fld (State.fld_setFld_apart _ (by decide) (by decide) ..)]
  exact State.flag_setFld_one _ (by decide) rfl 0

theorem runs_refclkRestored (s : State) : Runs .refclkRestored s (fun u =>
    u.flag Fld.CLK_STATUS_REF_LOST 0 = false ∧ u.refLost = false ∧ (∀ a, u.byte a = s.byte a)) :=
  ⟨_, rfl, State.flag_setFld_zero _ (by decide) 0, rfl, fun _ => rfl⟩

/-! Failed routers (R30). -/

theorem runs_routerFail {s : State} {p : PierIx} {net : Fin 3} (hnew : (p, net.val) ∉ s.routerFails) (hnet : net.val ≠ 2) :
    Runs (.routerFail p net) s (fun u => u.routerFails = s.routerFails ++ [(p, net.val)] ∧ (∀ a, u.byte a = s.byte a)) := by
  have hrecorded : s.routerFail p net.val = { s with routerFails := s.routerFails ++ [(p, net.val)] }.event .routerFail 1 p.val
      (p.val + 256 * net.val) := by
    simp only [State.routerFail, List.contains_iff_mem, hnew, hnet, decide_false, Bool.false_and, Bool.false_eq_true, if_false]
  have hquiet := (State.Quiet.refl { s with routerFails := s.routerFails ++ [(p, net.val)] }).event .routerFail 1 p.val
    (p.val + 256 * net.val)
  exact ⟨_, congrArg Host.Outcome.next hrecorded, hquiet.routerFails, State.byte_of_mem hquiet.mem⟩

/-! The supply levels and brace (R500-R502). The flags of brace stand in the state beside the registers. -/

theorem State.sensed_setRecovering (s : State) (b : Bool) (i : Nat) : { s with recovering := b }.sensed i = s.sensed i := rfl

theorem State.powerState_setRecovering (s : State) (b : Bool) : { s with recovering := b }.powerState = s.powerState := rfl

theorem State.mayBrace_setRecovering (s : State) (b : Bool) : { s with recovering := b }.mayBrace = s.mayBrace := rfl

theorem State.fld_setBraceAt (s : State) (o : Option Word) (f : Fld) (i : Nat) : { s with braceAt := o }.fld f i = s.fld f i := rfl

theorem runs_supplyRecoveryLevel (s : State) : Runs .supplyRecoveryLevel s (fun u =>
    u.recovering = true ∧ u.sensed 5 = true ∧ u.sensed 3 = false ∧ u.sensed 4 = false) := by
  have hkept := (State.SensorsKept.refl (((s.setSense 3 false).setSense 4 false).setSense 5 true)).charge
  have hsensed (i : Nat) : s.recoveryLevel.sensed i = _ := (State.sensed_setRecovering _ true i).trans (hkept.sensed i)
  refine ⟨_, rfl, rfl, (hsensed 5).trans ?_, (hsensed 3).trans ?_, (hsensed 4).trans ?_⟩
  all_goals simp [State.sensed_setSense]

theorem runs_recoveryLevelBreak (s : State) : Runs .recoveryLevelBreak s (fun u => u.recovering = false ∧ u.sensed 5 = false) := by
  have hkept := (State.SensorsKept.refl (s.setSense 5 false)).charge
  have hsensed : s.recoveryBreak.sensed 5 = _ := (State.sensed_setRecovering _ false 5).trans (hkept.sensed 5)
  refine ⟨_, rfl, rfl, hsensed.trans ?_⟩
  rw [State.sensed_setSense _ _ _ (by decide), if_pos rfl]

/-- The warning level has asserted, and its input is read (R474, R501). -/
def State.warned (s : State) (mv : Nat) : State := { ((s.setSense 3 true).setSense 5 false).readInput mv with recovering := false }

theorem State.powerState_warned (s : State) (mv : Nat) : (s.warned mv).powerState = s.powerState := by
  rw [State.warned, State.powerState_setRecovering, State.powerState, State.readInput, State.fld_setFld_apart _ (by decide) (by decide),
    State.fld_setFld_apart _ (by decide) (by decide), State.fld_setSense _ _ _ (by decide), State.fld_setSense _ _ _ (by decide)]
  rfl

theorem State.sensed_warned (s : State) (mv : Nat) : (s.warned mv).sensed 3 = true := by
  have hkept := (State.SensorsKept.refl ((s.setSense 3 true).setSense 5 false)).readInput mv
  rw [State.warned, State.sensed_setRecovering, hkept.sensed]
  simp [State.sensed_setSense]

/-- Brace stands, and nothing has followed from it yet (R501). -/
def State.braceSet (s : State) (mv : Nat) : State :=
  { ((s.warned mv).setFld Fld.TOKEN_STATUS_BRACE 0 1).setFld Fld.POWER_STATUS_BRACE 0 1 with braceAt := some s.now }

theorem State.braceSet_spec (s : State) (mv : Nat) : (s.braceSet mv).braced = true ∧
    (s.braceSet mv).flag Fld.POWER_STATUS_BRACE 0 = true ∧ (s.braceSet mv).sensed 3 = true := by
  have hfld (f : Fld) := State.fld_setBraceAt (((s.warned mv).setFld Fld.TOKEN_STATUS_BRACE 0 1).setFld Fld.POWER_STATUS_BRACE 0 1)
    (some s.now) f 0
  refine ⟨(State.flag_of_fld (hfld _)).trans ?_, (State.flag_of_fld (hfld _)).trans ?_, (State.sensed_of_fld (hfld _) 3).trans ?_⟩
  · rw [State.flag_of_fld (State.fld_setFld_apart _ (by decide) (by decide) ..)]
    exact State.flag_setFld_one _ (by decide) rfl 0
  · exact State.flag_setFld_one _ (by decide) rfl 0
  · rw [State.sensed_setFld _ (by decide), State.sensed_setFld _ (by decide), State.sensed_warned]

/-- The domains are held, and the entry into brace is counted and told (R501). -/
def State.braceHeld (s : State) (mv : Nat) : State :=
  ((((s.braceSet mv).rethrottle 0 0 0).holdDomains.bump Fld.BRACE_COUNT_ENTRIES 0 1).charge).event .braceEnter 0 0 mv

/-- The snapshot of brace is in the journal, where the journal is written (R509). -/
def State.braceJournalled (s : State) (mv : Nat) : State :=
  if (s.braceHeld mv).journalOff then s.braceHeld mv else (s.braceHeld mv).journalise (.brace ((s.braceHeld mv).snapshot mv))

theorem State.braceEnter_eq {s : State} {mv : Nat} (hpark : s.powerState ≠ 4) (hmay : (s.warned mv).mayBrace = true) : s.braceEnter mv =
    ((s.braceJournalled mv).tests.foldl (fun s t => s.interruptTest t false) (s.braceJournalled mv)).pauseBist := by
  have hstays : (if (s.warned mv).powerState = 4 then (s.warned mv).setPower 3 else s.warned mv) = s.warned mv :=
    if_neg (by rwa [State.powerState_warned])
  unfold State.warned at hstays hmay
  unfold State.braceEnter
  dsimp only
  rw [hstays, if_pos hmay]
  rfl

theorem State.sensorsKept_braceEnter {s : State} {mv : Nat} (hpark : s.powerState ≠ 4) (hmay : (s.warned mv).mayBrace = true) :
    (s.braceSet mv).SensorsKept (s.braceEnter mv) := by
  have hcounted := ((State.SensorsKept.refl (s.braceSet mv)).rethrottle 0 0 0).holdDomains.bump (f := Fld.BRACE_COUNT_ENTRIES)
    (by decide) 0 1
  have hheld : (s.braceSet mv).SensorsKept (s.braceHeld mv) := hcounted.charge.event .braceEnter 0 0 mv
  have hjournalled : (s.braceSet mv).SensorsKept (s.braceJournalled mv) := hheld.optional (hheld.journalise _)
  rw [State.braceEnter_eq hpark hmay]
  exact (hjournalled.foldl (fun _ k => k.interruptTest _) _).pauseBist

theorem runs_braceEnter {s : State} {mv : Nat} (hpark : s.powerState ≠ 4)
    (hmay : (((s.setSense 3 true).setSense 5 false).readInput mv).mayBrace = true) :
    Runs (.braceEnter mv) s (fun u => u.braced = true ∧ u.flag Fld.POWER_STATUS_BRACE 0 = true ∧ u.braceAt = some s.now ∧
      u.recovering = false ∧ u.sensed 3 = true) := by
  have hkept := State.sensorsKept_braceEnter hpark ((State.mayBrace_setRecovering _ false).trans hmay)
  obtain ⟨hbraced, hpower, hsensed⟩ := s.braceSet_spec mv
  exact ⟨_, rfl, (hkept.flag (by decide)).trans hbraced, (hkept.flag (by decide)).trans hpower, hkept.braceAt, hkept.recovering,
    (hkept.sensed 3).trans hsensed⟩

/-- Brace is over with nothing that waited for its end (R501, R502). -/
theorem State.braceExit_idle {s : State} {t : Word} (hat : s.braceAt = some t) (hrecovering : s.recovering = true)
    (hmeasure : s.measureWanted = false) (hwake : s.wakeWanted = none) : s.braceExit =
      (((s.endBrace.charge.bump Fld.BRACE_COUNT_RECOVERED 0 1).event .braceExit 0 0 (s.now - t).toNat).pauseBist.retestParked) := by
  have hended : State.Quiet _ s.endBrace := (State.Quiet.refl
    { ((s.setFld Fld.TOKEN_STATUS_BRACE 0 0).setFld Fld.POWER_STATUS_BRACE 0 0) with braceAt := none }).rethrottle 0 0 0
  have htold := (((State.Quiet.refl s.endBrace).charge.bump Fld.BRACE_COUNT_RECOVERED 0 1).event .braceExit 0 0 (s.now - t).toNat).pauseBist
  have hmeasured := htold.measureWanted.trans (hended.measureWanted.trans hmeasure)
  have hwoken := htold.retestParked.wakeWanted.trans (hended.wakeWanted.trans hwake)
  unfold State.braceExit
  rw [hat]
  dsimp only
  rw [if_pos hrecovering, if_neg (by rw [hmeasured]; exact Bool.false_ne_true), hwoken]

/-- Settles O23, case by case: what a reading or an input concludes is set first, and the work of the module that it sets off leaves it
as it is (`State.SensorsKept`). -/
theorem sensorEventsRun : Obligations.SensorEventsRun :=
  ⟨runs_thermAlertAssert, runs_thermAlertDeassert, runs_pairAliveLow, runs_pairAliveHigh, runs_junctionReading,
    fun _ => runs_thermTripClear, runs_supplyWindowEnd, fun _ => runs_fstepUpdate,
    fun _ _ hgated => congrArg Host.Outcome.next (State.monitorFail_gated hgated),
    fun _ _ hclocked hmode => congrArg Host.Outcome.next (State.monitorFail_stepped hclocked hmode),
    fun _ sp hclocked hmode htest => ⟨congrArg Host.Outcome.next (State.monitorFail_stretched hclocked hmode htest),
      fun hholds => State.period_of_no_holds hholds sp.val⟩,
    fun _ => runs_refclkLost, runs_refclkRestored, fun _ => rfl, fun _ _ _ => runs_routerFail, fun _ _ => rfl,
    runs_supplyRecoveryLevel, runs_recoveryLevelBreak, fun _ _ hpark hmay _ => runs_braceEnter hpark hmay,
    fun _ _ hat hrecovering hmeasure hwake =>
      congrArg Host.Outcome.next (State.braceExit_idle hat hrecovering hmeasure hwake)⟩

end Sys2Proof.Machine
end

section
/-! PROOFS. Messages and flits as bytes: what a field of their layouts reads as, and that both are read back from their bytes (R382,
R393, R394). -/
namespace Sys2Proof
open Sys2Proof.Machine

/-! Fields of byte strings (R382, R393). -/

@[simp] theorem length_leBytes (n v : Nat) : (leBytes n v).length = n := by
  induction n generalizing v with
  | zero => rfl
  | succ n ih => rw [leBytes, List.length_cons, ih]

theorem leNat_leBytes (n v : Nat) : leNat (leBytes n v) = v % 256 ^ n := by
  induction n generalizing v with
  | zero => rw [Nat.pow_zero, Nat.mod_one]; rfl
  | succ n ih =>
    rw [leBytes, leNat, ih, Nat.pow_succ, Nat.mul_comm (256 ^ n), Nat.mod_mul]
    rfl

/-- A field that is first in the bytes reads as the number that it holds. -/
theorem fieldAt_leBytes {n v : Nat} (h : v < 256 ^ n) (bs : List Byte) : fieldAt (leBytes n v ++ bs) 0 n = v := by
  rw [fieldAt, List.drop_zero, List.take_left' (length_leBytes n v), leNat_leBytes, Nat.mod_eq_of_lt h]

theorem byteAt_leBytes {v : Nat} (h : v < 256) (bs : List Byte) : byteAt (leBytes 1 v ++ bs) 0 = v :=
  Nat.mod_eq_of_lt h

theorem byteAt_leBytes_bool (b : Bool) (bs : List Byte) : byteAt (leBytes 1 b.toNat ++ bs) 0 = b.toNat :=
  byteAt_leBytes (b.toNat_lt.trans (by decide)) bs

/-- What comes before a field does not tell of it. -/
@[simp] theorem drop_leBytes {n i : Nat} (h : n ≤ i) (v : Nat) (bs : List Byte) : (leBytes n v ++ bs).drop i = bs.drop (i - n) := by
  rw [List.drop_append, List.drop_of_length_le (by rwa [length_leBytes]), List.nil_append, length_leBytes]

@[simp] theorem fieldAt_skip {n i : Nat} (h : n ≤ i) (v : Nat) (bs : List Byte) (k : Nat) :
    fieldAt (leBytes n v ++ bs) i k = fieldAt bs (i - n) k := by
  rw [fieldAt, drop_leBytes h, fieldAt]

@[simp] theorem byteAt_skip {n i : Nat} (h : n ≤ i) (v : Nat) (bs : List Byte) : byteAt (leBytes n v ++ bs) i = byteAt bs (i - n) := by
  rw [byteAt, List.getD_append_right _ _ _ _ (by rwa [length_leBytes]), length_leBytes, byteAt]

@[simp] theorem length_padTo (n : Nat) (bs : List Byte) : (padTo n bs).length = n := by
  simp only [padTo, List.length_take, List.length_append, List.length_replicate]
  omega

/-- Bytes that fit a field are followed by zeros. -/
theorem padTo_of_le {n : Nat} {bs : List Byte} (h : bs.length ≤ n) : padTo n bs = bs ++ List.replicate (n - bs.length) 0 := by
  refine List.take_of_length_le ?_
  rw [List.length_append, List.length_replicate]
  omega

/-- Bytes that fill a field are the field. -/
theorem padTo_of_length {n : Nat} {bs : List Byte} (h : bs.length = n) : padTo n bs = bs := by
  rw [padTo_of_le h.le, h, Nat.sub_self]
  exact List.append_nil bs

/-! The header of a message (R393). -/

/-- The second byte of a message: its flags and its attempt (R393). -/
def MsgHead.flags (h : MsgHead) : Nat := h.poison.toNat + 2 * h.writeCpl.toNat + 4 * (h.attempt % 8)

theorem MsgHead.flags_lt (h : MsgHead) : h.flags < 32 := by
  have := h.poison.toNat_lt
  have := h.writeCpl.toNat_lt
  unfold MsgHead.flags
  omega

/-- The bytes of a message, field by field (R393). -/
theorem Msg.bytes_eq (m : Msg) : m.bytes = leBytes 1 m.body.kind ++ (leBytes 1 m.head.flags ++ (leBytes 2 m.head.dest ++
    (leBytes 2 m.head.src ++ (leBytes 1 m.head.ttl ++ (leBytes 1 0 ++ (padTo 24 m.body.bytes.1 ++ m.body.bytes.2)))))) := by
  unfold Msg.bytes
  simp only [List.append_assoc]
  rfl

theorem MsgBody.kind_lt (b : MsgBody) : b.kind < 256 := by cases b <;> exact Nat.lt_of_sub_eq_succ rfl

theorem Msg.byteAt_kind (m : Msg) : byteAt m.bytes 0 = m.body.kind := by
  rw [Msg.bytes_eq, byteAt_leBytes (MsgBody.kind_lt _)]

/-- The flags and the attempt are read back from their byte. -/
theorem MsgHead.of_flags {h : MsgHead} (hattempt : h.attempt < 8) :
    { h with poison := h.flags % 2 = 1, writeCpl := h.flags / 2 % 2 = 1, attempt := h.flags / 4 % 8 } = h := by
  obtain ⟨poison, writeCpl, attempt, dest, src, ttl⟩ := h
  change attempt < 8 at hattempt
  cases poison <;> cases writeCpl <;> simp [MsgHead.flags] <;> omega

/-- The header of a message is read back from its bytes. -/
theorem Msg.head_of_bytes {m : Msg} (hattempt : m.head.attempt < 8) (hdest : m.head.dest < 65536) (hsrc : m.head.src < 65536)
    (httl : m.head.ttl < 256) :
    (⟨byteAt m.bytes 1 % 2 = 1, byteAt m.bytes 1 / 2 % 2 = 1, byteAt m.bytes 1 / 4 % 8, fieldAt m.bytes 2 2, fieldAt m.bytes 4 2,
      byteAt m.bytes 6⟩ : MsgHead) = m.head := by
  have hflags : byteAt m.bytes 1 = m.head.flags := by
    rw [Msg.bytes_eq, byteAt_skip (Nat.le_refl 1), byteAt_leBytes ((MsgHead.flags_lt _).trans (by decide))]
  have hd : fieldAt m.bytes 2 2 = m.head.dest := by
    simpa [Msg.bytes_eq] using fieldAt_leBytes (n := 2) hdest _
  have hs : fieldAt m.bytes 4 2 = m.head.src := by
    simpa [Msg.bytes_eq] using fieldAt_leBytes (n := 2) hsrc _
  have ht : byteAt m.bytes 6 = m.head.ttl := by
    simpa [Msg.bytes_eq] using byteAt_leBytes httl _
  rw [hflags, hd, hs, ht]
  exact MsgHead.of_flags hattempt

/-! The body of a message (R394). -/

/-- The fields of a message's body stand in the ranges that its layout has room for. -/
def MsgBody.fits : MsgBody → Prop
  | .remoteWrite tag epoch step offset window _ =>
    tag < 2 ^ 32 ∧ epoch < 2 ^ 32 ∧ step < 2 ^ 32 ∧ offset < 2 ^ 40 ∧ window < 2 ^ 24
  | .remoteRead tag epoch offset window length => tag < 2 ^ 32 ∧ epoch < 2 ^ 32 ∧ offset < 2 ^ 40 ∧ window < 2 ^ 24 ∧ length < 2 ^ 16
  | .readReply tag status _ => tag < 2 ^ 32 ∧ status < 256
  | .ringTile .. => True
  | .mirrorWrite mseq object offset _ => mseq < 2 ^ 64 ∧ object < 2 ^ 24 ∧ offset < 2 ^ 40
  | .keystone mseq step _ => mseq < 2 ^ 64 ∧ step < 2 ^ 32
  | .sync _ tag _ _ => tag < 2 ^ 32
  | .probe _ _ tag tSend tReply hops => tag < 2 ^ 32 ∧ tSend < 2 ^ 64 ∧ tReply < 2 ^ 64 ∧
    ∀ x ∈ hops, x.module < 65536 ∧ x.arrival < 256 ∧ x.output < 256

/-- The hops of a probe are read back from their records. -/
theorem hopsOf_records {hops : List Hop} (h : ∀ x ∈ hops, x.module < 65536 ∧ x.arrival < 256 ∧ x.output < 256) :
    hopsOf hops.length (hops.flatMap (fun x => leBytes 2 x.module ++ leBytes 1 x.arrival ++ leBytes 1 x.output)) = hops := by
  induction hops with
  | nil => rfl
  | cons x hops ih =>
    obtain ⟨⟨hmodule, harrival, houtput⟩, hrest⟩ := List.forall_mem_cons.1 h
    have htail := ih hrest
    simp only [List.append_assoc] at htail
    simp [hopsOf, fieldAt_leBytes (n := 2) hmodule, byteAt_leBytes harrival, byteAt_leBytes houtput, htail]

/-- Carriageway and segment are read back from the first byte of a ring tile, beside the two bits of the extension (R394). -/
theorem ringTile_of_byte (c : Cwy) {segment ext : Nat} (hsegment : segment < 8) (hext : ext < 4) :
    let b := (match c with
      | .cw => 0
      | .ccw => 1) + 2 * (segment % 8) + 16 * ext
    b < 256 ∧ (if b % 2 = 1 then Cwy.ccw else .cw) = c ∧ b / 2 % 8 = segment := by
  cases c with
  | cw => exact ⟨by dsimp only; omega, if_neg (by dsimp only; omega), by dsimp only; omega⟩
  | ccw => exact ⟨by dsimp only; omega, if_pos (by dsimp only; omega), by dsimp only; omega⟩

/-- The body of a message is read back from its bytes, field by field (R394). -/
theorem bodyOf_bytes (h : MsgHead) {b : MsgBody} (hlegal : b.legal h.writeCpl = true) (hfits : b.fits) :
    bodyOf b.kind (Msg.mk h b).bytes = some b := by
  cases b with
  | remoteWrite tag epoch step offset window data =>
    obtain ⟨htag, hepoch, hstep, hoffset, hwindow⟩ := hfits
    simp [bodyOf, MsgBody.kind, Msg.bytes_eq, MsgBody.bytes, padTo_of_le]
    exact ⟨fieldAt_leBytes htag _, fieldAt_leBytes hepoch _, fieldAt_leBytes hstep _, fieldAt_leBytes hoffset _,
      fieldAt_leBytes hwindow _⟩
  | remoteRead tag epoch offset window length =>
    obtain ⟨htag, hepoch, hoffset, hwindow, hlength⟩ := hfits
    simp [bodyOf, MsgBody.kind, Msg.bytes_eq, MsgBody.bytes, padTo_of_le]
    exact ⟨fieldAt_leBytes htag _, fieldAt_leBytes hepoch _, fieldAt_leBytes hoffset _, fieldAt_leBytes hwindow _,
      fieldAt_leBytes hlength _⟩
  | readReply tag status data =>
    obtain ⟨htag, hstatus⟩ := hfits
    simp [bodyOf, MsgBody.kind, Msg.bytes_eq, MsgBody.bytes, padTo_of_le]
    exact ⟨fieldAt_leBytes htag _, byteAt_leBytes hstatus _⟩
  | ringTile c segment side data ext =>
    simp [MsgBody.legal] at hlegal
    obtain ⟨⟨⟨hsegment, hside⟩, hdata⟩, -⟩ := hlegal
    have hext : (match ext.length with
        | 0 => 0
        | 256 => 1
        | 512 => 2
        | _ => 3) < 4 := by split <;> decide
    obtain ⟨hbyte, hcwy, hseg⟩ := ringTile_of_byte c hsegment hext
    simp [bodyOf, MsgBody.kind, Msg.bytes_eq, MsgBody.bytes, padTo_of_le, hside]
    have hb := byteAt_leBytes hbyte (leBytes 7 0 ++ (side ++ (data ++ ext)))
    exact ⟨(congrArg (fun b => if b % 2 = 1 then Cwy.ccw else .cw) hb).trans hcwy, (congrArg (· / 2 % 8) hb).trans hseg,
      List.take_left' hdata, List.drop_left' hdata⟩
  | mirrorWrite mseq object offset data =>
    obtain ⟨hmseq, hobject, hoffset⟩ := hfits
    simp [bodyOf, MsgBody.kind, Msg.bytes_eq, MsgBody.bytes, padTo_of_le]
    exact ⟨fieldAt_leBytes hmseq _, fieldAt_leBytes hobject _, fieldAt_leBytes hoffset _⟩
  | keystone mseq step ack =>
    obtain ⟨hmseq, hstep⟩ := hfits
    simp [bodyOf, MsgBody.kind, Msg.bytes_eq, MsgBody.bytes, padTo_of_le, byteAt_leBytes_bool]
    exact ⟨fieldAt_leBytes hmseq _, fieldAt_leBytes hstep _⟩
  | sync subtype tag param data =>
    simp [MsgBody.legal] at hlegal
    obtain ⟨⟨⟨hone, hseven⟩, hparam⟩, hlength⟩ := hlegal
    simp [bodyOf, MsgBody.kind, Msg.bytes_eq, MsgBody.bytes, padTo_of_le, hparam]
    exact ⟨fieldAt_leBytes (show subtype < 256 ^ 2 by omega) _, fieldAt_leBytes hfits _⟩
  | probe reply trunc tag tSend tReply hops =>
    obtain ⟨htag, hsend, hreply, hhops⟩ := hfits
    simp [MsgBody.legal] at hlegal
    obtain ⟨hcount, -⟩ := hlegal
    simp [bodyOf, MsgBody.kind, Msg.bytes_eq, MsgBody.bytes, padTo_of_le, byteAt_leBytes_bool,
      byteAt_leBytes (show hops.length < 256 by omega)]
    have := hopsOf_records hhops
    exact ⟨fieldAt_leBytes htag _, fieldAt_leBytes hsend _, fieldAt_leBytes hreply _, this⟩

/-- What bytes spell, with their header and their body read. -/
theorem msgOf_eq {bs : List Byte} {h : MsgHead} {b : MsgBody} (hbody : bodyOf (byteAt bs 0) bs = some b)
    (hhead : ⟨byteAt bs 1 % 2 = 1, byteAt bs 1 / 2 % 2 = 1, byteAt bs 1 / 4 % 8, fieldAt bs 2 2, fieldAt bs 4 2, byteAt bs 6⟩ = h) :
    msgOf bs =
      if 32 ≤ bs.length && 1 ≤ h.ttl && b.legal h.writeCpl && (Msg.mk h b).bytes = bs then some ⟨h, b⟩ else none := by
  rw [msgOf, hbody, ← hhead]

/-- Settles O49: the header and the body of a message are each read back from their bytes. -/
theorem messagesRoundTrip : Obligations.MessagesRoundTrip := by
  intro h b hattempt hdest hsrc hone httl hlegal hfits
  have hbody : bodyOf (byteAt (Msg.mk h b).bytes 0) (Msg.mk h b).bytes = some b := by
    rw [Msg.byteAt_kind]
    exact bodyOf_bytes h hlegal (by cases b <;> exact hfits)
  have hhead := Msg.head_of_bytes (m := ⟨h, b⟩) hattempt hdest hsrc httl
  have hlong : 32 ≤ (Msg.mk h b).bytes.length := by
    simp only [Msg.bytes_eq, List.length_append, length_leBytes, length_padTo]
    omega
  rw [msgOf_eq hbody hhead, if_pos]
  simp [hlong, hone, hlegal]

/-! Flits (R382). -/

/-- The fifth byte of a flit: its kind, its virtual channel and its marks (R382). -/
def Flit.marks (f : Flit) : Nat := f.kind % 4 + 4 * (f.vc % 8) + 32 * f.som.toNat + 64 * f.eom.toNat + 128 * f.ackValid.toNat

/-- The bytes of a flit before its CRC (R382). -/
def Flit.covered (f : Flit) : List Byte :=
  leBytes 2 f.seq ++ (leBytes 2 f.ack ++ (leBytes 1 f.marks ++ (leBytes 1 f.len ++ (leBytes 2 (f.crVc % 8 + 8 * f.crCount) ++
    (leBytes 4 0 ++ padTo 240 f.payload)))))

theorem Flit.length_covered (f : Flit) : f.covered.length = 252 := by
  simp only [Flit.covered, List.length_append, length_leBytes, length_padTo]

theorem Flit.bytes_eq (f : Flit) : f.bytes = f.covered ++ leBytes 4 (crc32c f.covered).toNat := by
  unfold Flit.bytes Flit.covered
  simp only [List.append_assoc]
  rfl

theorem Flit.length_bytes (f : Flit) : f.bytes.length = 256 := by
  rw [Flit.bytes_eq, List.length_append, Flit.length_covered, length_leBytes]

/-- The CRC of a flit's bytes passes (R382). -/
theorem Flit.flitOk_bytes (f : Flit) : flitOk f.bytes = true := by
  have hcrc : fieldAt f.bytes 252 4 = (crc32c f.covered).toNat := by
    rw [fieldAt, Flit.bytes_eq, List.drop_left' f.length_covered, List.take_of_length_le (length_leBytes 4 _).le, leNat_leBytes]
    exact Nat.mod_eq_of_lt (crc32c f.covered).isLt
  have hcovered : f.bytes.take 252 = f.covered := by
    rw [Flit.bytes_eq, List.take_left' f.length_covered]
  simp [flitOk, f.length_bytes, hcovered, hcrc]

theorem Flit.marks_lt (f : Flit) : f.marks < 256 := by
  have := f.som.toNat_lt
  have := f.eom.toNat_lt
  have := f.ackValid.toNat_lt
  unfold Flit.marks
  omega

/-- What the fields of a flit's bytes read as, each field in the range that the layout has room for (R382). -/
theorem Flit.fields_of_bytes {f : Flit} (hseq : f.seq < 65536) (hack : f.ack < 65536) (hvc : f.crVc < 8) (hcount : f.crCount ≤ 4096)
    (hlen : f.len ≤ 240) (hpayload : f.payload.length = f.len) :
    fieldAt f.bytes 0 2 = f.seq ∧ fieldAt f.bytes 2 2 = f.ack ∧ byteAt f.bytes 4 = f.marks ∧ byteAt f.bytes 5 = f.len ∧
      fieldAt f.bytes 6 2 = f.crVc + 8 * f.crCount ∧ fieldAt f.bytes 8 4 = 0 ∧ (f.bytes.drop 12).take f.len = f.payload := by
  have hpad : padTo 240 f.payload = f.payload ++ List.replicate (240 - f.payload.length) 0 := padTo_of_le (by omega)
  simp [Flit.bytes_eq, Flit.covered, hpad]
  refine ⟨fieldAt_leBytes hseq _, fieldAt_leBytes hack _, byteAt_leBytes f.marks_lt _, byteAt_leBytes (by omega) _, ?_,
    fieldAt_leBytes (by decide) _, List.take_left' hpayload⟩
  rw [fieldAt_leBytes (show f.crVc % 8 + 8 * f.crCount < 256 ^ 2 by omega), Nat.mod_eq_of_lt hvc]

/-- The marks of a flit are read back from their byte (R382). -/
theorem Flit.of_marks {f : Flit} (hkind : f.kind < 4) (hvc : f.vc < 8) :
    f.marks % 4 = f.kind ∧ f.marks / 4 % 8 = f.vc ∧ decide (f.marks / 32 % 2 = 1) = f.som ∧ decide (f.marks / 64 % 2 = 1) = f.eom ∧
      decide (f.marks / 128 = 1) = f.ackValid := by
  obtain ⟨seq, ack, kind, vc, som, eom, ackValid, len, crVc, crCount, payload⟩ := f
  change kind < 4 at hkind
  change vc < 8 at hvc
  cases som <;> cases eom <;> cases ackValid <;> simp [Flit.marks] <;> omega

/-- Settles O50: the CRC passes over the bytes that it was computed from, and each field is read back from its place. -/
theorem flitsRoundTrip : Obligations.FlitsRoundTrip := by
  intro f hseq hack hvc hcrVc hcount hpayload hkind
  have hlen : f.len ≤ 240 := by omega
  obtain ⟨hseq', hack', hmarks, hlen', hcr, hzero, hpay⟩ := Flit.fields_of_bytes hseq hack hcrVc hcount hlen hpayload
  obtain ⟨hk, hv, hsom, heom, hvalid⟩ := Flit.of_marks (f := f) (by omega) hvc
  refine ⟨f.length_bytes, f.flitOk_bytes, ?_⟩
  have hvcBack : (f.crVc + 8 * f.crCount) % 8 = f.crVc := by omega
  have hcountBack : (f.crVc + 8 * f.crCount) / 8 = f.crCount := by omega
  simp only [flitOf, hseq', hack', hmarks, hlen', hcr, hzero, hpay, hk, hv, hsom, heom, hvalid, hvcBack, hcountBack]
  rw [if_pos]
  obtain ⟨hnull, hl⟩ | ⟨hdata, ⟨he, hl, -⟩ | ⟨he, hl⟩⟩ | ⟨hlink, hl, -⟩ := hkind
  · simp [hnull, hl, hcount]
  · simp [hdata, of_decide_eq_true (heom.trans he), hl, hlen, hcount]
  · simp [hdata, of_decide_eq_false (heom.trans he), hl, hcount]
  · simp [hlink, hl, hlen, hcount]

end Sys2Proof
end

section
/-! PROOFS. HELLO, QUERY and the acceptance of a packet (R394, R446, R447, R455, R457, R465). -/
namespace Sys2Proof.Machine
open Sys2Proof

/-! Requests to host memory (R439, R442). -/

theorem State.Sent.jwRead (s : State) (a n : Nat) (shared : Bool) : s.Sent (s.jwRead a n shared) :=
  foldl_keeps s.Sent _ (fun _ _ h => h.trans (.jwWrite ..)) _ s (.refl s)

theorem State.Sent.flag {s u : State} (h : s.Sent u) {f : Fld} (hf : f.reg ≠ .cmdCount ∧ f.reg ≠ .evtCount) (i : Nat) :
    u.flag f i = s.flag f i :=
  State.flag_of_fld (h.fld hf i)

theorem State.flag_finish (s : State) (k : Nat) (c : Cc) (detail : Nat) (result : List Byte) {f : Fld}
    (hf : f.reg ≠ .cmdStatus ∧ f.reg ≠ .cmdCount ∧ f.reg ≠ .evtCount) (i : Nat) :
    (s.finish k c detail result).flag f i = s.flag f i :=
  State.flag_of_fld (s.fld_finish k c detail result hf i)

theorem State.mailSlot_flagEvent (s : State) (f : Fld) (i : Nat) (c : Code) (srcKind srcIndex detail k : Nat) :
    (s.flagEvent f i c srcKind srcIndex detail).mailSlot k = s.mailSlot k := by
  rw [State.flagEvent_eq]
  rfl

/-- A faulted access to host memory ends its command with HOST_FAULT, and a poisoned one sets the flag (R442, R455). -/
theorem State.replied_hostFaulted {s : State} {k : MailIx} {p : Packet} (h : (s.mailSlot k.val).running = some p) (status : Fin 4)
    (a : Nat) : (s.hostFaulted k.val status a).replied k .hostFault [] ∧
      (status = 1 → (s.hostFaulted k.val status a).flag Fld.JW_ERR_HOST_POISON 0 = true) := by
  have hrunning : ((if status = 1 then s.jwPoison a else s).mailSlot k.val).running = some p := by
    split
    · rwa [State.jwPoison, State.mailSlot_flagEvent]
    · exact h
  refine ⟨State.replied_finish hrunning .hostFault 0 [], fun hpoison => ?_⟩
  rw [State.hostFaulted, State.refuse, State.flag_finish _ _ _ _ _ (by decide), if_pos hpoison]
  exact State.flag_flagEvent _ (by decide) (by decide) (by decide) ..

/-! HELLO (R457, R465). -/

/-- The state in which a session is open and the queue that HELLO names is in force, before its head is read (R457, R465). -/
def State.sessionSet (s : State) (p : Packet) : State :=
  ((((({ (s.setFld Fld.CMD_STATUS_SESSION 0 1).setFld Fld.CMD_STATUS_VERSION 0 1 with
    queue := ⟨p.le 8 8, p.le 24 8, p.le 32 8, p.le 40 4⟩
    jwBusy := s.jwBusy.map dropRecord
    jwHeld := s.jwHeld.filter (fun e => e.1 != JwKind.record)
    recordOut := false } : State)).setFld Fld.EVT_STATUS_QUEUE_VALID 0 1).setFld Fld.EVT_STATUS_ENTRIES_LOG2 0
      (log2Of (p.le 16 4))).setReg .evtTail 0 0).setReg .evtHead 0 0

theorem State.openSession_eq (s : State) (p : Packet) (head : Fin 4) : s.openSession p head = (s.sessionSet p).takeHead head := rfl

theorem State.evtIndex_sessionSet (s : State) (p : Packet) : (s.sessionSet p).evtIndex = 0 := by
  rw [State.evtIndex, State.sessionSet, State.reg_setReg_other _ _ (by decide), State.reg_setReg_same]
  rfl

theorem State.evtHeadRead_sessionSet (s : State) (p : Packet) : (s.sessionSet p).evtHeadRead = 0 := by
  rw [State.evtHeadRead, State.sessionSet, State.reg_setReg_same]
  rfl

theorem State.session_sessionSet (s : State) (p : Packet) : (s.sessionSet p).flag Fld.CMD_STATUS_SESSION 0 = true := by
  have hqueue (u : State) (n : Nat) : ((((u.setFld Fld.EVT_STATUS_QUEUE_VALID 0 1).setFld Fld.EVT_STATUS_ENTRIES_LOG2 0 n).setReg
      .evtTail 0 0).setReg .evtHead 0 0).flag Fld.CMD_STATUS_SESSION 0 = u.flag Fld.CMD_STATUS_SESSION 0 := by
    refine congrArg (fun w => Fld.CMD_STATUS_SESSION.ofWord w != 0) ?_
    rw [State.reg_setReg_other _ _ (by decide), State.reg_setReg_other _ _ (by decide), State.reg_setFld, if_neg (by decide),
      State.reg_setFld, if_neg (by decide)]
  refine (hqueue ..).trans ((State.flag_of_fld ?_).trans (s.flag_setFld_one (by decide) rfl 0))
  exact (s.setFld Fld.CMD_STATUS_SESSION 0 1).fld_setFld_apart (f := Fld.CMD_STATUS_VERSION) (by decide) (by decide) 0 1 0

/-- What a read of the head line does beside the requests for it: a poisoned line sets its flag, a HEAD out of range is ignored, any other
is taken (R442, R466). -/
theorem State.takeHead_cases (s : State) (status : Fin 4) : ∃ u, s.Sent u ∧ (s.takeHead status = u.jwPoison s.queue.headLine ∨
    s.takeHead status = u.setFld Fld.EVT_STATUS_HEAD_BAD 0 1 ∨
    ∃ h, s.evtHeadRead ≤ h ∧ h ≤ s.evtIndex ∧ s.takeHead status = u.setReg .evtHead 0 (BitVec.ofNat 64 h)) := by
  have hread := State.Sent.jwRead s s.queue.headLine 64 true
  have hagain : s.Sent (if status = 0 then s.jwRead s.queue.headLine 64 true
      else (s.jwRead s.queue.headLine 64 true).jwRead s.queue.headLine 64 true) := by
    split
    · exact hread
    · exact hread.trans (.jwRead ..)
  unfold State.takeHead
  dsimp only
  split
  · exact ⟨_, hread, .inl rfl⟩
  · refine ⟨_, hagain, .inr ?_⟩
    split
    · exact .inl rfl
    · next hrange =>
      simp only [Bool.or_eq_true, decide_eq_true_eq, not_or, Nat.not_lt] at hrange
      exact .inr ⟨_, hrange.2, hrange.1, rfl⟩

/-- A head line read before the first record leaves HEAD at 0 (R465, R466). -/
theorem State.takeHead_first {s : State} (hindex : s.evtIndex = 0) (hhead : s.evtHeadRead = 0) (status : Fin 4) :
    (s.takeHead status).flag Fld.CMD_STATUS_SESSION 0 = s.flag Fld.CMD_STATUS_SESSION 0 ∧ (s.takeHead status).evtIndex = 0 ∧
      (s.takeHead status).evtHeadRead = 0 ∧ (s.takeHead status).queue = s.queue := by
  obtain ⟨u, hsent, htaken⟩ := s.takeHead_cases status
  have hqueue : u.queue = s.queue := by rw [hsent.eq]
  suffices h : (s.takeHead status).reg .cmdStatus 0 = u.reg .cmdStatus 0 ∧ (s.takeHead status).reg .evtTail 0 = u.reg .evtTail 0 ∧
      ((s.takeHead status).reg .evtHead 0 = u.reg .evtHead 0 ∨ (s.takeHead status).reg .evtHead 0 = 0) ∧
      (s.takeHead status).queue = u.queue by
    obtain ⟨hsession, htail, hline, hq⟩ := h
    refine ⟨?_, ?_, ?_, hq.trans hqueue⟩
    · exact congrArg (fun w => Fld.CMD_STATUS_SESSION.ofWord w != 0) (hsession.trans (hsent.reg _ 0 (by decide) (by decide)))
    · rw [State.evtIndex, htail, hsent.reg _ 0 (by decide) (by decide)]
      exact hindex
    · rw [State.evtHeadRead]
      obtain hline | hline := hline
      · rw [hline, hsent.reg _ 0 (by decide) (by decide)]
        exact hhead
      · rw [hline]
        rfl
  obtain h | h | ⟨n, -, hn, h⟩ := htaken
  · have hreg (r : RegName) (hr : r ≠ .evtCount ∧ r ≠ .jwErr) : (u.jwPoison s.queue.headLine).reg r 0 = u.reg r 0 :=
      State.reg_flagEvent _ _ _ _ _ _ _ _ hr.1 hr.2
    rw [h]
    refine ⟨hreg _ (by decide), hreg _ (by decide), .inl (hreg _ (by decide)), ?_⟩
    rw [State.jwPoison, State.flagEvent_eq]
  · have hreg (r : RegName) (hr : r ≠ .evtStatus) : (u.setFld Fld.EVT_STATUS_HEAD_BAD 0 1).reg r 0 = u.reg r 0 := by
      rw [State.reg_setFld, if_neg (fun e => hr e.1)]
    rw [h]
    exact ⟨hreg _ (by decide), hreg _ (by decide), .inl (hreg _ (by decide)), rfl⟩
  · have hzero : n = 0 := Nat.le_zero.1 (hindex ▸ hn)
    rw [h, hzero]
    exact ⟨State.reg_setReg_other _ _ (by decide), State.reg_setReg_other _ _ (by decide), .inr (State.reg_setReg_same ..), rfl⟩

/-- HELLO with a common version opens the session with its queue empty (R457, R465). -/
theorem runs_hello {s : State} {k : MailIx} {p : Packet} {head : Fin 4} (h : s.runsPacket k 0x0101 p) (hmin : p.le 0 2 ≤ 1)
    (hmax : 1 ≤ p.le 2 2) :
    exec (.hello ⟨k, head⟩) s = .next ((s.openSession p head).finish k.val .ok 0
        (leBytes 2 1 ++ leBytes 2 1 ++ leBytes 4 (s.fld Fld.BOOT_COUNT_COUNT 0) ++ s.nonceBytes)).pumpQueue ∧
      (s.openSession p head).flag Fld.CMD_STATUS_SESSION 0 = true ∧ (s.openSession p head).evtIndex = 0 ∧
      (s.openSession p head).evtHeadRead = 0 ∧ (s.openSession p head).queue = ⟨p.le 8 8, p.le 24 8, p.le 32 8, p.le 40 4⟩ := by
  obtain ⟨hsession, htail, hline, hqueue⟩ := State.takeHead_first (s.evtIndex_sessionSet p) (s.evtHeadRead_sessionSet p) head
  rw [s.openSession_eq]
  refine ⟨congrArg Host.Outcome.next ?_, hsession.trans (s.session_sessionSet p), htail, hline, hqueue⟩
  rw [State.hello, State.onPacket_runs h, if_neg]
  · rfl
  · simp only [Bool.or_eq_true, decide_eq_true_eq]
    omega

/-! QUERY (R394, R455). -/

theorem State.onQuery_runs {s : State} {k : MailIx} {p : Packet} {what : Nat} (h : s.runsPacket k 0x0102 p) (hwhat : p.le 0 1 = what)
    (f : Packet → State) : s.onQuery k what f = f p := by
  rw [State.onQuery, State.onPacket_runs h, if_pos hwhat]

/-- What a reply of slot `k` covers of host memory (R451). -/
def State.inReply (s : State) (k a : Nat) : Prop := s.slotBase k + 0x1FC0 ≤ a ∧ a < s.slotBase k + 0x2000

theorem State.byte_jwWrite_other (s : State) (k : JwKind) {a b : Nat} (bs : List Byte) (h : b < a ∨ a + bs.length ≤ b) :
    (s.jwWrite k a bs).byte b = s.byte b := by
  unfold State.jwWrite
  split
  · cases k
    case read => rfl
    all_goals exact State.byte_writeBytes_other s a b bs h
  · rfl

theorem State.length_replyBytes (s : State) (p : Packet) (state status detail : Nat) (result : List Byte) :
    (s.replyBytes p state status detail result).length = 64 := by
  simp only [State.replyBytes, List.length_append, length_leBytes, length_zeroPad, List.length_cons, List.length_nil]

/-- What ends in a slot is counted in CMD_STATUS, in a field of which the reply does not tell (R451, R460). -/
theorem State.reply_replyKept (s : State) (k : Nat) (p : Packet) (c : Cc) (detail : Nat) (result : List Byte) :
    ((s.replyKept k p c detail result).mailSlot k).reply = s.replyBytes p 2 c.num detail result := by
  have hkeeps (f : Fld) (hf : f.apart Fld.CMD_STATUS_IN_PROGRESS = true) (hfits : f.lo + f.width ≤ 64) :
      ((s.setMail k { s.mailSlot k with running := none }).countRunning).fld f 0 = s.fld f 0 :=
    State.fld_setFld_apart _ hfits hf ..
  have hnow : ((s.setMail k { s.mailSlot k with running := none }).countRunning).now = s.now :=
    (State.reg_setFld ..).trans (if_neg (by decide))
  rw [State.replyKept, State.mailSlot_setMail_same]
  simp only [State.replyBytes, State.flag, hkeeps Fld.CMD_STATUS_SESSION (by decide) (by decide),
    hkeeps Fld.CMD_STATUS_VERSION (by decide) (by decide), hnow]
  rfl

theorem State.fld_replyKept (s : State) (k : Nat) (p : Packet) (c : Cc) (detail : Nat) (result : List Byte) {f : Fld}
    (hf : f.reg ≠ .cmdStatus) (i : Nat) : (s.replyKept k p c detail result).fld f i = s.fld f i :=
  State.fld_setFld_reg (s.setMail k { s.mailSlot k with running := none }) _ (fun h => hf h.1)

/-- The reply of a command that ends is a request to host memory, where Juwire is up (R444, R451). -/
theorem State.sendReply_replyKept (s : State) (k : Nat) (p : Packet) (c : Cc) (detail : Nat) (result : List Byte) :
    (s.replyKept k p c detail result).sendReply k = if s.jwActive || s.jwRecovering then
      (s.replyKept k p c detail result).jwWrite (.reply k) (s.slotBase k + 0x1FC0) (s.replyBytes p 2 c.num detail result)
    else s.replyKept k p c detail result := by
  rw [State.sendReply, State.reply_replyKept, State.jwActive, State.jwRecovering, State.slotBase,
    State.fld_replyKept _ _ _ _ _ _ (by decide), State.fld_replyKept _ _ _ _ _ _ (by decide)]
  rfl

/-- Of memory and of the requests that wait, the end of a command changes what its reply does (R451, R456). -/
theorem State.finish_reply {s : State} {k : Nat} {p : Packet} (h : (s.mailSlot k).running = some p) (c : Cc) (detail : Nat)
    (result : List Byte) :
    (s.finish k c detail result).mem = ((s.replyKept k p c detail result).sendReply k).mem ∧
      (s.finish k c detail result).jwHeld = ((s.replyKept k p c detail result).sendReply k).jwHeld := by
  simp only [State.finish, h, State.event]
  split
  · rw [State.notify_eq]
    split <;> exact ⟨rfl, rfl⟩
  · split <;> exact ⟨rfl, rfl⟩

/-- The end of a command leaves memory beside its reply as it was (R451). -/
theorem State.byte_finish_other (s : State) (k : Nat) (c : Cc) (detail : Nat) (result : List Byte) {a : Nat} (ha : ¬ s.inReply k a) :
    (s.finish k c detail result).byte a = s.byte a := by
  cases h : (s.mailSlot k).running with
  | none => rw [State.finish, h]
  | some p =>
    rw [State.byte, (State.finish_reply h c detail result).1, State.sendReply_replyKept, ← State.byte]
    split
    · refine State.byte_jwWrite_other _ _ _ ?_
      rw [State.length_replyBytes]
      unfold State.inReply at ha
      omega
    · rfl

/-- QUERY with WHAT 1 writes the pier map to its buffer (R455). -/
theorem runs_queryPierMap {s : State} {k : MailIx} {p : Packet} (h : s.runsPacket k 0x0102 p) (hwhat : p.le 0 1 = 1)
    (hroom : 136 ≤ p.le 16 4) :
    (∀ status, status ≠ 0 → Runs (.queryPierMap k status) s (fun u => u.replied k .hostFault [] ∧
      (status = 1 → u.flag Fld.JW_ERR_HOST_POISON 0 = true))) ∧
    Runs (.queryPierMap k 0) s (fun u => u.replied k .ok (leBytes 1 s.admitted.length) ∧
      (∀ q : PierIx, ¬ s.inReply k.val (p.le 8 8 + q.val) → u.byte (p.le 8 8 + q.val) = s.mapByte q) ∧
      (∀ a, (a < p.le 8 8 ∨ p.le 8 8 + 136 ≤ a) → ¬ s.inReply k.val a → u.byte a = s.byte a)) := by
  have hmap (status : Fin 4) : exec (.queryPierMap k status) s = .next (s.finishBuffer k.val status (p.le 8 8)
      ((List.finRange 136).map s.mapByte) (leBytes 1 s.admitted.length)) := by
    refine congrArg Host.Outcome.next ?_
    rw [State.queryMap, State.onQuery_runs h hwhat, if_neg (by omega)]
  let v : State := s.bufferWrite (p.le 8 8) ((List.finRange 136).map s.mapByte)
  refine ⟨fun status hstatus => ⟨_, hmap status, ?_⟩, v.finish k.val .ok 0 (leBytes 1 s.admitted.length), hmap 0,
    State.replied_finish (s := v) h.running .ok 0 _, fun q hq => ?_, fun a ha hreply => ?_⟩
  · rw [State.finishBuffer, if_neg hstatus]
    exact State.replied_hostFaulted h.running status _
  · refine (v.byte_finish_other _ _ _ _ hq).trans ((State.byte_writeBytes_in s (p.le 8 8) q.val _ (by simp)).trans ?_)
    simp
  · refine (v.byte_finish_other _ _ _ _ hreply).trans (State.byte_writeBytes_other s _ a _ ?_)
    simpa using ha

theorem runs_queryProbe {s : State} {k : MailIx} {p : Packet} (h : s.runsPacket k 0x0102 p) (hwhat : p.le 0 1 = 2) :
    Runs (.queryProbe k) s (fun u => ∃ v : State,
      u = v.post ⟨s.headTo (p.le 4 2), .probe false false (s.nextRemote % 2 ^ 32) s.now.toNat 0 []⟩ ∧
      (s.nextRemote % 2 ^ 32, k.val, s.now) ∈ v.probes ∧ v.mem = s.mem) := by
  refine ⟨_, congrArg Host.Outcome.next ?_, { s.beginPacket k.val with
    probes := s.probes ++ [(s.nextRemote % 2 ^ 32, k.val, s.now)]
    nextRemote := s.nextRemote + 1 }, rfl, by simp, rfl⟩
  rw [State.queryProbe, State.onQuery_runs h hwhat, if_neg (by simp [h.begun])]
  rfl

theorem runs_probeTimeout {s : State} {k : MailIx} {p : Packet} (hprobe : ∃ e ∈ s.probes, e.2.1 = k.val)
    (h : (s.mailSlot k.val).running = some p) :
    Runs (.probeTimeout k) s (fun u => u.replied k .timeout [] ∧ (∀ e ∈ u.probes, e.2.1 ≠ k.val)) := by
  let v : State := { s with probes := s.probes.filter (fun e => e.2.1 != k.val) }
  have hrunning : (v.mailSlot k.val).running = some p := h
  have hsome : s.probes.any (fun e => e.2.1 = k.val) = true := by simpa using hprobe
  refine ⟨v.refuse k.val .timeout, congrArg Host.Outcome.next (if_pos hsome), State.replied_finish hrunning .timeout 0 [], ?_⟩
  rw [State.refuse, (State.sent_finish hrunning .timeout 0 []).eq]
  intro e he
  have := (List.mem_filter.1 he).2
  simpa using this

/-! PACKET_ACCEPT (R446, R447). -/

theorem runs_packetAccept {s : State} {k : MailIx} (params : Fin 4) (henabled : s.flag Fld.MAILBOX_CFG_ENABLE 0 = true)
    (hactive : s.jwActive = true) (hup : s.tollUp = true) (hnext : s.nextSlot = some k.val) (hwarm : s.warmReset = none) :
    let v := s.jwRead (s.slotBase k.val) 64 true
    ((v.packetOf k.val).seq ≠ (v.mailSlot k.val).seen → v.powerState < 2 →
      exec (.packetAccept k 0 params) s = .next (v.accept k.val (v.packetOf k.val) params.val)) ∧
    ((v.packetOf k.val).seq = (v.mailSlot k.val).seen → exec (.packetAccept k 0 params) s =
      .next (v.setMail k.val { v.mailSlot k.val with shared := true, notified := false, again := false })) := by
  intro v
  have hturn : s.packetAccept k.val 0 params.val = if (v.packetOf k.val).seq = (v.mailSlot k.val).seen then
      v.setMail k.val { v.mailSlot k.val with shared := true, notified := false, again := false }
    else if 2 ≤ (if 2 ≤ v.powerState && !(v.packetOf k.val).sleeps then v.wakeUp 2 else v).powerState &&
        !(v.packetOf k.val).sleeps then (if 2 ≤ v.powerState && !(v.packetOf k.val).sleeps then v.wakeUp 2 else v)
    else (if 2 ≤ v.powerState && !(v.packetOf k.val).sleeps then v.wakeUp 2 else v).accept k.val (v.packetOf k.val)
      params.val := by
    unfold State.packetAccept
    rw [if_neg (by simp [henabled, hactive, hup, hnext, hwarm])]
    rfl
  refine ⟨fun hseq hawake => ?_, fun hseq => ?_⟩
  · refine congrArg Host.Outcome.next (hturn.trans ?_)
    have hawake : ¬ (2 ≤ v.powerState && !(v.packetOf k.val).sleeps) = true := by simp; omega
    rw [if_neg hseq, if_neg hawake, if_neg hawake]
  · exact congrArg Host.Outcome.next (hturn.trans (if_pos hseq))

/-- Settles O16, clause by clause. -/
theorem sessionCommandsRun : Obligations.SessionCommandsRun :=
  fun s _ _ => ⟨fun _ h hmin hmax => runs_hello h hmin hmax,
    fun h hwhat => ⟨_, congrArg Host.Outcome.next (State.onQuery_runs h hwhat _), State.replied_finish h.running .ok 0 s.summary⟩,
    fun h hwhat hroom => runs_queryPierMap h hwhat hroom, fun h hwhat => runs_queryProbe h hwhat,
    fun hprobe h => runs_probeTimeout hprobe h,
    fun params henabled hactive hup hnext hwarm => runs_packetAccept params henabled hactive hup hnext hwarm⟩

end Sys2Proof.Machine
end

section
/-! PROOFS. Flags and notices, the priority stack, the event queue and the mailbox switches (R446, R448, R463, R467, R470-R472). -/
namespace Sys2Proof.Machine
open Sys2Proof

/-! Flags and notices (R463, R470). -/

/-- The notice of an event (R462). -/
def State.noticeOf (s : State) (c : Code) (srcKind srcIndex detail : Nat) : Notice :=
  ⟨c, c.cls, c.level, srcKind, srcIndex, s.logicalOf srcKind srcIndex, s.now, s.stepNo, detail, none⟩

/-- How many notices wait at the level of a code. -/
def State.waitingAt (s : State) (c : Code) : Nat := (s.notices.filter (fun m => m.level = c.level)).length

/-- The state in which a notice has joined its queue, or has been counted in MERGED where that is full (R470). -/
def State.noticed (s : State) (c : Code) (k n d : Nat) : State :=
  if s.waitingAt c < 256 then { s with notices := s.notices ++ [s.noticeOf c k n d] } else s.bump Fld.EVT_COUNT_MERGED 0 1

/-- An event of class 2 or above goes to the fault log, one below does not (R463). -/
theorem State.event_eq (s : State) (c : Code) (k n d : Nat) : s.event c k n d =
    if 2 ≤ c.cls then (s.noticed c k n d).journalise (.fault (s.noticeOf c k n d) (s.fld Fld.BOOT_COUNT_COUNT 0))
    else s.noticed c k n d := rfl

theorem State.notices_event (s : State) (c : Code) (k n d : Nat) : (s.event c k n d).notices = (s.noticed c k n d).notices := by
  rw [State.event_eq]
  split <;> rfl

theorem State.regs_event (s : State) (c : Code) (k n d : Nat) : (s.event c k n d).regs = (s.noticed c k n d).regs := by
  rw [State.event_eq]
  split <;> rfl

theorem State.journalWrites_noticed (s : State) (c : Code) (k n d : Nat) : (s.noticed c k n d).journalWrites = s.journalWrites := by
  rw [State.noticed]
  split <;> rfl

theorem State.journalWrites_event (s : State) (c : Code) (k n d : Nat) : (s.event c k n d).journalWrites =
    if 2 ≤ c.cls then s.journalWrites ++ [.fault (s.noticeOf c k n d) (s.fld Fld.BOOT_COUNT_COUNT 0)] else s.journalWrites := by
  rw [State.event_eq, ← s.journalWrites_noticed c k n d]
  split <;> rfl

/-- A notice is counted in MERGED alone (R470). -/
theorem State.fld_event (s : State) (c : Code) (k n d : Nat) {f : Fld} (hfits : f.lo + f.width ≤ 64)
    (hf : f.apart Fld.EVT_COUNT_MERGED = true) (i : Nat) : (s.event c k n d).fld f i = s.fld f i := by
  rw [State.fld, State.reg, s.regs_event, State.noticed]
  split
  · rfl
  · exact s.fld_setFld_apart hfits hf ..

/-- Settles O39, clause by clause. -/
theorem flagPostsOnce : Obligations.FlagPostsOnce := by
  refine ⟨fun s f i c k n d h => if_pos h, fun s f i c k n d h => if_neg (by rw [h]; exact Bool.false_ne_true),
    fun s c k n d hroom => ?_, fun s c k n d hfull => ?_, fun s c k n d hcls => ?_, fun s c k n d hcls => ?_⟩
  · have hnoticed : s.noticed c k n d = { s with notices := s.notices ++ [s.noticeOf c k n d] } := if_pos hroom
    exact ⟨s.noticeOf c k n d, by rw [s.notices_event, hnoticed], rfl, rfl, rfl, rfl, rfl, rfl, rfl, rfl, by rw [s.regs_event, hnoticed]⟩
  · have hnoticed : s.noticed c k n d = s.bump Fld.EVT_COUNT_MERGED 0 1 := if_neg (Nat.not_lt.2 hfull)
    refine ⟨by rw [s.notices_event, hnoticed]; rfl, ?_⟩
    rw [State.fld, State.reg, s.regs_event, hnoticed]
    refine (s.fld_setFld_same Fld.EVT_COUNT_MERGED 0 _ (by decide)).trans (Nat.mod_eq_of_lt ?_)
    exact (Nat.min_le_right _ _).trans_lt (by decide)
  · exact ⟨s.noticeOf c k n d, rfl, rfl, (s.journalWrites_event c k n d).trans (if_pos hcls)⟩
  · exact (s.journalWrites_event c k n d).trans (if_neg (Nat.not_le.2 hcls))

/-! The priority stack (R471). -/

/-- The highest level among notices, and `l` (R471). -/
theorem le_foldl_level (ns : List Notice) (l : Nat) :
    l ≤ ns.foldl (fun l n => max l n.level) l ∧ ∀ m ∈ ns, m.level ≤ ns.foldl (fun l n => max l n.level) l := by
  induction ns generalizing l with
  | nil => exact ⟨Nat.le_refl l, fun m hm => absurd hm List.not_mem_nil⟩
  | cons n ns ih =>
    obtain ⟨hl, hns⟩ := ih (max l n.level)
    exact ⟨(Nat.le_max_left ..).trans hl, List.forall_mem_cons.2 ⟨(Nat.le_max_right ..).trans hl, hns⟩⟩

theorem foldl_level_le {ns : List Notice} {l k : Nat} (hl : l ≤ k) (hns : ∀ m ∈ ns, m.level ≤ k) :
    ns.foldl (fun l n => max l n.level) l ≤ k := by
  induction ns generalizing l with
  | nil => exact hl
  | cons n ns ih =>
    obtain ⟨hn, hrest⟩ := List.forall_mem_cons.1 hns
    exact ih (Nat.max_le.2 ⟨hl, hn⟩) hrest

/-- What is presented is the oldest notice of the highest pending level, above the level at the top (R471). -/
theorem State.presented_iff (s : State) (n : Notice) : s.presented = some n ↔
    ∃ before after, s.notices = before ++ n :: after ∧ (∀ m ∈ before, m.level < n.level) ∧ (∀ m ∈ after, m.level ≤ n.level) ∧
      (∀ m ∈ s.taken.getLast?, m.level < n.level) := by
  have htop (l : Nat) : s.topLevel.all (fun t => t < l) = true ↔ ∀ m ∈ s.taken.getLast?, m.level < l := by
    cases h : s.taken.getLast? <;> simp [State.topLevel, h]
  constructor
  · intro h
    simp only [State.presented] at h
    split at h
    · next habove =>
      obtain ⟨hlevel, before, after, hnotices, hbefore⟩ := List.find?_eq_some_iff_append.1 h
      simp only [decide_eq_true_eq] at hlevel
      have hmax := (le_foldl_level s.notices 0).2
      rw [← hlevel] at hmax habove
      rw [← hlevel] at hbefore
      refine ⟨before, after, hnotices, fun m hm => ?_, fun m hm => hmax m (by simp [hnotices, hm]), (htop _).1 habove⟩
      have hne := hbefore m hm
      have hle := hmax m (by simp [hnotices, hm])
      simp only [Bool.not_eq_true', decide_eq_false_iff_not] at hne
      omega
    · exact absurd h nofun
  · rintro ⟨before, after, hnotices, hbefore, hafter, habove⟩
    have hmax : s.notices.foldl (fun l n => max l n.level) 0 = n.level := by
      refine Nat.le_antisymm (foldl_level_le (Nat.zero_le _) fun m hm => ?_) ((le_foldl_level s.notices 0).2 n (by simp [hnotices]))
      rw [hnotices, List.mem_append, List.mem_cons] at hm
      obtain hm | rfl | hm := hm
      · exact (hbefore m hm).le
      · exact Nat.le_refl _
      · exact hafter m hm
    simp only [State.presented, hmax]
    rw [if_pos ((htop _).2 habove), List.find?_eq_some_iff_append]
    exact ⟨decide_eq_true rfl, before, after, hnotices, fun m hm => by simp [(hbefore m hm).ne]⟩

/-- The state after firmware has taken the presented notice (R471, R482). -/
theorem State.present_of_presented {s : State} {n : Notice} (h : s.presented = some n) :
    s.present = { s.fresh.2.send (.firmware (s.presentWord ||| (s.fresh.1 <<< 20))) with
      notices := s.notices.erase n, taken := s.taken ++ [n] } := by
  simp only [State.present, h]

/-- The completion of the level at the top pops it (R471). -/
theorem State.evtDone_of_top {s : State} {n : Notice} {l : Nat} (hlast : s.taken.getLast? = some n) (hlevel : n.level = l) :
    s.evtDone l = { s with taken := s.taken.dropLast }.postNotice n := by
  simp only [State.evtDone, hlast, if_pos hlevel]

/-- A stack in order has its levels between 0 and 7, each once (R471). -/
theorem State.stackOk.length_le {s : State} (h : s.stackOk) : s.taken.length ≤ 8 := by
  obtain ⟨hrising, hlevels⟩ := h
  have hnodup : (s.taken.map Notice.level).Nodup := hrising.imp (fun h => h.ne)
  have hsub : (s.taken.map Notice.level).toFinset ⊆ Finset.range 8 := by
    intro l hl
    obtain ⟨n, hn, rfl⟩ := List.mem_map.1 (List.mem_toFinset.1 hl)
    exact Finset.mem_range.2 (Nat.lt_succ_of_le (hlevels n (List.mem_append_left _ hn)))
  calc s.taken.length = (s.taken.map Notice.level).toFinset.card := by
        rw [List.toFinset_card_of_nodup hnodup, List.length_map]
    _ ≤ 8 := Finset.card_le_card hsub

/-- Settles O38, clause by clause. -/
theorem priorityStackPresentsHighest : Obligations.PriorityStackPresentsHighest := by
  refine ⟨State.presented_iff, fun s n h => ⟨_, congrArg Host.Outcome.next (State.present_of_presented h), rfl, rfl, rfl⟩,
    fun s below n l htaken hlevel => congrArg Host.Outcome.next ?_, fun s h => h.length_le⟩
  have hlast : s.taken.getLast? = some n := by rw [htaken, List.getLast?_append_of_ne_nil _ (by simp)]; rfl
  rw [State.evtDone_of_top hlast hlevel, htaken, List.dropLast_concat]

end Sys2Proof.Machine
end

section
/-! PROOFS. The event queue, software writes field by field, and the mailbox switches (R15, R17, R446, R448, R467, R472). -/
namespace Sys2Proof.Machine
open Sys2Proof

/-! The event queue (R467, R472). -/

/-- A counter that stops at its all-ones value, after a count. -/
theorem State.fld_bump (s : State) {f : Fld} (hfits : f.lo + f.width ≤ 64) (i n : Nat) :
    (s.bump f i n).fld f i = min (s.fld f i + n) (2 ^ f.width - 1) :=
  (s.fld_setFld_same f i _ hfits).trans
    (Nat.mod_eq_of_lt ((Nat.min_le_right ..).trans_lt (Nat.sub_one_lt (Nat.two_pow_pos _).ne')))

/-- A completion of another level than that at the top is counted and leaves the stack (R472). -/
theorem runs_evtDone_fault {s : State} {n : Notice} {l : Fin 8} (hlast : s.taken.getLast? = some n) (hlevel : n.level ≠ l.val)
    (htop : n.level ≠ 7) : Runs (.evtDone l) s (fun u => u.taken = s.taken ∧ u.fld Fld.EVT_COUNT_STACK_FAULTS 0 =
      min (s.fld Fld.EVT_COUNT_STACK_FAULTS 0 + 1) (2 ^ Fld.EVT_COUNT_STACK_FAULTS.width - 1)) := by
  have hlevelTop : s.topLevel = some n.level := by rw [State.topLevel, hlast]; rfl
  refine ⟨(s.bump Fld.EVT_COUNT_STACK_FAULTS 0 1).event .evtStackFault 0 0 (l.val + 8 * n.level), congrArg Host.Outcome.next ?_, ?_, ?_⟩
  · simp only [State.evtDone, hlast, if_neg hlevel, State.stackFault, hlevelTop, if_neg htop]
  · rw [State.event, State.notify_eq]
    rfl
  · rw [State.fld_event _ _ _ _ _ (by decide) (by decide), State.fld_bump _ (by decide)]

/-- The state in which the write of a record is done (R467). -/
def State.recordOver (s : State) : State :=
  { s with recordOut := false, posted := s.posted.drop 1, jwBusy := s.jwBusy.filter (fun e => e.2 != JwKind.record) }

theorem State.recordDone_eq {s : State} (hout : s.recordOut = true) : s.recordDone =
    ((if s.evtHeadRead = s.evtIndex then s.recordOver.jwWrite .msi s.queue.msiAddr (leBytes 4 s.queue.msiData)
      else s.recordOver).setReg .evtTail 0 (BitVec.ofNat 64 (s.evtIndex + 1))).pumpQueue :=
  if_pos hout

theorem State.evtIndex_setTail (s : State) (i : Nat) : (s.setReg .evtTail 0 (BitVec.ofNat 64 i)).evtIndex = i % 2 ^ 64 := by
  rw [State.evtIndex, State.reg_setReg_same, BitVec.toNat_ofNat]

/-- A record done moves TAIL on, without an interrupt where the queue held others (R467). -/
theorem runs_eventRecordDone {s : State} (hout : s.recordOut = true) (hhead : s.evtHeadRead ≠ s.evtIndex) :
    Runs .eventRecordDone s (fun u => ∃ v : State, u = v.pumpQueue.pumpHeld ∧ v.evtIndex = (s.evtIndex + 1) % 2 ^ 64 ∧
      v.recordOut = false ∧ v.posted = s.posted.drop 1 ∧ v.outbox = s.outbox) := by
  refine ⟨_, rfl, s.recordOver.setReg .evtTail 0 (BitVec.ofNat 64 (s.evtIndex + 1)), ?_, State.evtIndex_setTail .., rfl, rfl, rfl⟩
  rw [State.recordDone_eq hout, if_neg hhead]

/-- A record done moves TAIL on, and an interrupt tells of the first in an empty queue (R467). -/
theorem runs_eventRecordDone_msi {s : State} (hout : s.recordOut = true) (hhead : s.evtHeadRead = s.evtIndex)
    (hbusy : (s.jwBusy.filter (fun e => e.2 != JwKind.record)).length < 4096) :
    Runs .eventRecordDone s (fun u => ∃ v : State, u = v.pumpQueue.pumpHeld ∧ v.evtIndex = (s.evtIndex + 1) % 2 ^ 64 ∧
      v.recordOut = false ∧ v.posted = s.posted.drop 1 ∧
      v.outbox = .jwWrite s.jwTag (s.queue.msiAddr - hostBase) (leBytes 4 s.queue.msiData) :: s.outbox) := by
  refine ⟨_, rfl, (s.recordOver.jwSend .msi s.queue.msiAddr (leBytes 4 s.queue.msiData)).setReg .evtTail 0
    (BitVec.ofNat 64 (s.evtIndex + 1)), ?_, State.evtIndex_setTail .., rfl, rfl, rfl⟩
  have hsends : s.recordOver.jwWrite .msi s.queue.msiAddr (leBytes 4 s.queue.msiData) =
      s.recordOver.jwSend .msi s.queue.msiAddr (leBytes 4 s.queue.msiData) := if_pos hbusy
  rw [State.recordDone_eq hout, if_pos hhead, hsends]

/-! Software writes, field by field (R15, R17). -/

theorem Fld.ofWord_lt (f : Fld) (w : Word) : f.ofWord w < 2 ^ f.width := Nat.mod_lt _ (Nat.two_pow_pos _)

/-- The part of a write that is another field's leaves a field as it was. -/
theorem Fld.ofWord_write_other {f g : Fld} (hfits : f.lo + f.width ≤ 64) (h : f.lo + f.width ≤ g.lo ∨ g.lo + g.width ≤ f.lo)
    (new : Word) (acc : Word × Bool) : f.ofWord (g.write new acc).1 = f.ofWord acc.1 := by
  unfold Fld.write
  split
  · rfl
  · rfl
  · dsimp only
    split
    · exact Fld.ofWord_place_other f g _ _ hfits h
    · rfl
  · exact Fld.ofWord_place_other f g _ _ hfits h

theorem ofWord_writes_other {f : Fld} (hfits : f.lo + f.width ≤ 64) {gs : List Fld}
    (hapart : ∀ g ∈ gs, f.lo + f.width ≤ g.lo ∨ g.lo + g.width ≤ f.lo) (new : Word) (acc : Word × Bool) :
    f.ofWord (gs.foldl (fun acc g => g.write new acc) acc).1 = f.ofWord acc.1 := by
  induction gs generalizing acc with
  | nil => rfl
  | cons g gs ih =>
    obtain ⟨hg, hrest⟩ := List.forall_mem_cons.1 hapart
    exact (ih hrest _).trans (Fld.ofWord_write_other hfits hg new acc)

/-- An RW field takes a legal value (R17); the fields after it in its register leave it. -/
theorem ofWord_regWriteWord {r : RegName} {f : Fld} {before after : List Fld} (hr : regFields r = before ++ f :: after)
    (hfits : f.lo + f.width ≤ 64) (hrw : f.acc = .rw) (hapart : ∀ g ∈ after, f.lo + f.width ≤ g.lo ∨ g.lo + g.width ≤ f.lo)
    (old : Word) {new : Word} (hlegal : f.isLegal (f.ofWord new) = true) : f.ofWord (regWriteWord r old new).1 = f.ofWord new := by
  rw [regWriteWord, hr, List.foldl_append, List.foldl_cons, ofWord_writes_other hfits hapart, Fld.write, hrw]
  dsimp only
  rw [if_pos hlegal, Fld.ofWord_place f _ _ hfits, Nat.mod_eq_of_lt (f.ofWord_lt new)]

/-- A write that takes effect field by field sets its register; a reserved value raises an event beside (R15-R17). -/
theorem State.reg_plainWrite (s : State) (r : RegName) (i a : Nat) (v : Word) (q : RegName) (j : Nat)
    (hq : q ≠ .evtCount) : (s.plainWrite r i a v).reg q j = if q = r ∧ j = i then (regWriteWord r (s.reg r i) v).1 else s.reg q j := by
  rw [← State.reg_setReg]
  unfold State.plainWrite
  dsimp only
  split
  · exact State.reg_notify _ _ _ _ _ _ _ _ hq
  · rfl

theorem State.plainWrite_eq (s : State) (r : RegName) (i a : Nat) (v : Word) : s.plainWrite r i a v = { s with
    regs := (s.plainWrite r i a v).regs
    notices := (s.plainWrite r i a v).notices
    journalWrites := (s.plainWrite r i a v).journalWrites } := by
  unfold State.plainWrite
  dsimp only
  split
  · rw [State.regFault, State.event, State.notify_eq]
    rfl
  · rfl

/-- An RW field that a write sets to a legal value (R17). -/
theorem State.fld_plainWrite (s : State) {r : RegName} {f : Fld} {before after : List Fld} (hr : regFields r = before ++ f :: after)
    (hcount : r ≠ .evtCount) (hreg : f.reg = r) (hfits : f.lo + f.width ≤ 64) (hrw : f.acc = .rw)
    (hapart : ∀ g ∈ after, f.lo + f.width ≤ g.lo ∨ g.lo + g.width ≤ f.lo) (i a : Nat) {v : Word}
    (hlegal : f.isLegal (f.ofWord v) = true) : (s.plainWrite r i a v).fld f i = f.ofWord v := by
  rw [State.fld, hreg, State.reg_plainWrite _ _ _ _ _ _ _ hcount, if_pos ⟨rfl, rfl⟩]
  exact ofWord_regWriteWord hr hfits hrw hapart _ hlegal

/-! The mailbox switches (R446, R448). -/

/-- What a pass over a list leaves established: `P` holds once the member `x` has been passed, where every step keeps it. -/
theorem foldl_reaches {α : Type} {I P : State → Prop} {f : State → α → State} (hI : ∀ s y, I s → I (f s y))
    (hkeep : ∀ s y, I s → P s → P (f s y)) {x : α} (hset : ∀ s, I s → P (f s x)) {l : List α} (hx : x ∈ l) {s : State} (hs : I s) :
    I (l.foldl f s) ∧ P (l.foldl f s) := by
  induction l generalizing s with
  | nil => exact absurd hx List.not_mem_nil
  | cons y l ih =>
    obtain rfl | hx := List.mem_cons.1 hx
    · exact foldl_keeps (fun u => I u ∧ P u) f (fun u z h => ⟨hI u z h.1, hkeep u z h.1 h.2⟩) l _ ⟨hI s x hs, hset s hs⟩
    · exact ih hx (hI s y hs)

theorem State.mailSlot_setMail (s : State) (j k : Nat) (x : MailSlot) :
    (s.setMail j x).mailSlot k = if k = j then x else s.mailSlot k := by
  split
  · next h => rw [h, State.mailSlot_setMail_same]
  · next h => exact NMap.look_put_other _ _ _ h

theorem fields_mailboxCfg : regFields .mailboxCfg = [] ++ Fld.MAILBOX_CFG_ENABLE :: [Fld.MAILBOX_CFG_BASE] ∧
    regFields .mailboxCfg = [Fld.MAILBOX_CFG_ENABLE] ++ Fld.MAILBOX_CFG_BASE :: [] := ⟨rfl, rfl⟩

theorem enable_legal (v : Word) : Fld.MAILBOX_CFG_ENABLE.isLegal (Fld.MAILBOX_CFG_ENABLE.ofWord v) = true := by
  have hlt : Fld.MAILBOX_CFG_ENABLE.ofWord v < 2 := Fld.MAILBOX_CFG_ENABLE.ofWord_lt v
  obtain h | h : Fld.MAILBOX_CFG_ENABLE.ofWord v = 0 ∨ Fld.MAILBOX_CFG_ENABLE.ofWord v = 1 := by omega
  · rw [h]
    rfl
  · rw [h]
    rfl

/-- The state in which MAILBOX_CFG has taken a write (R460). -/
def State.mailboxSet (s : State) (v : Word) : State := s.plainWrite .mailboxCfg 0 mailboxCfgAddr v

theorem State.enable_mailboxSet (s : State) (v : Word) :
    (s.mailboxSet v).flag Fld.MAILBOX_CFG_ENABLE 0 = (Fld.MAILBOX_CFG_ENABLE.ofWord v != 0) :=
  congrArg (· != 0) (s.fld_plainWrite fields_mailboxCfg.1 (by decide) rfl (by decide) rfl (by decide) 0 _ (enable_legal v))

theorem State.mail_mailboxSet (s : State) (v : Word) : (s.mailboxSet v).mail = s.mail := by
  rw [State.mailboxSet, State.plainWrite_eq]

theorem State.mem_mailboxSet (s : State) (v : Word) : (s.mailboxSet v).mem = s.mem := by
  rw [State.mailboxSet, State.plainWrite_eq]

/-- A write that changes BASE while ENABLE is 1 is discarded (R448). -/
theorem State.mailboxWrite_baseBarred {s : State} (hon : s.flag Fld.MAILBOX_CFG_ENABLE 0 = true) {v : Word}
    (hbase : Fld.MAILBOX_CFG_BASE.ofWord v ≠ s.fld Fld.MAILBOX_CFG_BASE 0) (faults : List (MailIx × Fin 4)) :
    s.mailboxWrite v faults = s.regFault mailboxCfgAddr := by
  simp [State.mailboxWrite, hon, hbase]

theorem regAt_mailboxCfgAddr : regAt mailboxCfgAddr = .listed .mailboxCfg 0 none := by decide

/-- A write at the address of MAILBOX_CFG is a write to it (R459). -/
theorem State.softWrite_mailboxCfg {s : State} (hup : s.regsUp = true) (v : Word) :
    s.softWrite mailboxCfgAddr v = s.mailboxWrite v [] := by
  simp only [State.softWrite, hup, State.regWrite, regAt_mailboxCfgAddr]
  rfl

/-- `u` has the registers and the memory of `w`, and slot `k` runs what it ran in `w`. -/
def State.SlotKept (w : State) (k : MailIx) (u : State) : Prop :=
  u.regs = w.regs ∧ u.mem = w.mem ∧ (u.mailSlot k.val).running = (w.mailSlot k.val).running

/-- Slot `k` holds no shared line and waits for nothing (R448). -/
def State.Unshared (k : MailIx) (u : State) : Prop := (u.mailSlot k.val).shared = false ∧ (u.mailSlot k.val).notified = false

theorem State.SlotKept.fld {w u : State} {k : MailIx} (h : w.SlotKept k u) (f : Fld) (i : Nat) : u.fld f i = w.fld f i :=
  congrArg (fun m => f.ofWord (NMap.look regDflt m _)) h.1

theorem State.SlotKept.of_mailboxSet (s : State) (v : Word) (k : MailIx) :
    ((s.mailboxSet v).mailSlot k.val).running = (s.mailSlot k.val).running := by
  rw [State.mailSlot, s.mail_mailboxSet]
  rfl

theorem State.SlotKept.releaseHeader {w u : State} {k : MailIx} (h : w.SlotKept k u) (j : Nat) : w.SlotKept k (u.releaseHeader j) := by
  obtain ⟨hregs, hmem, hrunning⟩ := h
  refine ⟨hregs, hmem, ?_⟩
  rw [← hrunning, State.releaseHeader, State.mailSlot_setMail]
  split
  · next h => rw [h]
  · rfl

theorem State.unshared_releaseHeader (u : State) (k : MailIx) : (u.releaseHeader k.val).Unshared k := by
  simp only [State.Unshared, State.releaseHeader, State.mailSlot_setMail_same, and_self]

theorem State.Unshared.releaseHeader {u : State} {k : MailIx} (h : u.Unshared k) (j : Nat) : (u.releaseHeader j).Unshared k := by
  by_cases hj : k.val = j
  · rw [← hj]
    exact u.unshared_releaseHeader k
  · simpa only [State.Unshared, State.releaseHeader, State.mailSlot_setMail, if_neg hj] using h

/-- Disabling the mailbox releases the shared lines, and lets what runs in the slots run on (R448). -/
theorem runs_mailboxDisable {s : State} {v : Word} (hup : s.regsUp = true) (hon : s.flag Fld.MAILBOX_CFG_ENABLE 0 = true)
    (hoff : Fld.MAILBOX_CFG_ENABLE.ofWord v = 0) (hbase : Fld.MAILBOX_CFG_BASE.ofWord v = s.fld Fld.MAILBOX_CFG_BASE 0) :
    Runs (.mailboxDisable v) s (fun u => u.flag Fld.MAILBOX_CFG_ENABLE 0 = false ∧ u.mem = s.mem ∧
      (∀ k : MailIx, (u.mailSlot k.val).shared = false ∧ (u.mailSlot k.val).notified = false ∧
        (u.mailSlot k.val).running = (s.mailSlot k.val).running)) := by
  have hnow : (s.mailboxSet v).flag Fld.MAILBOX_CFG_ENABLE 0 = false := by rw [State.enable_mailboxSet, hoff]; rfl
  have hwrite : s.mailboxWrite v [] = (List.range 64).foldl State.releaseHeader (s.mailboxSet v) := by
    unfold State.mailboxSet at hnow ⊢
    simp [State.mailboxWrite, hon, hbase, hnow]
  have hend (k : MailIx) := foldl_reaches (I := (s.mailboxSet v).SlotKept k) (P := State.Unshared k) (fun _ j h => h.releaseHeader j)
    (fun _ j _ h => h.releaseHeader j) (fun u _ => u.unshared_releaseHeader k) (List.mem_range.2 k.isLt) ⟨rfl, rfl, rfl⟩
  refine ⟨_, congrArg Host.Outcome.next ((State.softWrite_mailboxCfg hup v).trans hwrite), ?_, ?_, fun k => ?_⟩
  · exact (State.flag_of_fld ((hend 0).1.fld ..)).trans hnow
  · exact (hend 0).1.2.1.trans (s.mem_mailboxSet v)
  · obtain ⟨⟨-, -, hrunning⟩, hshared, hnotified⟩ := hend k
    exact ⟨hshared, hnotified, hrunning.trans (State.SlotKept.of_mailboxSet s v k)⟩

theorem State.jwActive_of_reg {s u : State} (h : u.reg .jwStatus 0 = s.reg .jwStatus 0) : u.jwActive = s.jwActive :=
  congrArg (fun w => decide (Fld.JW_STATUS_STATE.ofWord w = 5)) h

theorem State.regs_jwRead (s : State) (a n : Nat) (shared : Bool) : (s.jwRead a n shared).regs = s.regs := by
  refine foldl_keeps (fun u => u.regs = s.regs) _ (fun u i h => ?_) _ s rfl
  unfold State.jwWrite
  split <;> exact h

/-- Slot `k` holds its header shared, with the SEQ that `w` has in host memory (R446). -/
def State.Shared (w : State) (k : MailIx) (u : State) : Prop :=
  (u.mailSlot k.val).seen = w.headerSeq k.val ∧ (u.mailSlot k.val).shared = true

/-- The state in which the header of slot `j` has been read, before its line counts as shared (R446). -/
def State.headerAsked (s : State) (j : Nat) : State :=
  (s.setMail j { s.mailSlot j with shared := false, notified := false, again := false, known := false, due := false }).jwRead
    (s.slotBase j) 64 true

theorem State.mailSlot_headerAsked (s : State) (j k : Nat) : (s.headerAsked j).mailSlot k = if k = j then
    { s.mailSlot j with shared := false, notified := false, again := false, known := false, due := false } else s.mailSlot k :=
  ((State.Sent.jwRead ..).mailSlot k).trans (State.mailSlot_setMail ..)

/-- Without a fault of its read, the header of a slot is shared, and its SEQ counts as seen (R446). -/
theorem State.shareHeader_eq {s : State} (hactive : s.jwActive = true) (j : Nat) : s.shareHeader [] j =
    (s.headerAsked j).setMail j { (s.headerAsked j).mailSlot j with seen := s.headerSeq j, shared := true, known := true } := by
  simp only [State.shareHeader, hactive]
  rfl

section
variable {w u : State} {k : MailIx} (h : w.SlotKept k u)
include h

theorem State.SlotKept.headerSeq (j : Nat) : u.headerSeq j = w.headerSeq j := by
  rw [State.headerSeq, State.leAt, State.bytes, h.2.1, State.slotBase, h.fld]
  rfl

theorem State.SlotKept.jwActive : u.jwActive = w.jwActive := by
  rw [State.jwActive, h.fld]
  rfl

theorem State.SlotKept.shareHeader (hactive : w.jwActive = true) (j : Nat) : w.SlotKept k (u.shareHeader [] j) := by
  rw [State.shareHeader_eq (h.jwActive.trans hactive)]
  obtain ⟨hregs, hmem, hrunning⟩ := h
  refine ⟨(State.regs_jwRead ..).trans hregs, (State.mem_jwRead ..).trans hmem, ?_⟩
  rw [← hrunning, State.mailSlot_setMail]
  split
  · next hj => rw [State.mailSlot_headerAsked, if_pos rfl, hj]
  · next hj => rw [State.mailSlot_headerAsked, if_neg hj]

theorem State.SlotKept.shared (hactive : w.jwActive = true) : w.Shared k (u.shareHeader [] k.val) := by
  rw [State.shareHeader_eq (h.jwActive.trans hactive), State.Shared, State.mailSlot_setMail_same]
  exact ⟨h.headerSeq k.val, rfl⟩

theorem State.Shared.shareHeader (hactive : w.jwActive = true) (hshared : w.Shared k u) (j : Nat) :
    w.Shared k (u.shareHeader [] j) := by
  by_cases hj : k.val = j
  · rw [← hj]
    exact h.shared hactive
  · rw [State.shareHeader_eq (h.jwActive.trans hactive), State.Shared, State.mailSlot_setMail, if_neg hj, State.mailSlot_headerAsked,
      if_neg hj]
    exact hshared

end

/-- Enabling the mailbox reads every header and shares it, with its SEQ as seen (R446). -/
theorem runs_mailboxEnable {s : State} {v : Word} (hup : s.regsUp = true) (hactive : s.jwActive = true)
    (hoff : s.flag Fld.MAILBOX_CFG_ENABLE 0 = false) (hon : Fld.MAILBOX_CFG_ENABLE.ofWord v = 1) :
    Runs (.mailboxEnable v []) s (fun u => u.flag Fld.MAILBOX_CFG_ENABLE 0 = true ∧ u.flag Fld.CMD_STATUS_SESSION 0 = false ∧
      u.mem = s.mem ∧ (∀ k : MailIx, (u.mailSlot k.val).seen = u.headerSeq k.val ∧ (u.mailSlot k.val).shared = true ∧
        (u.mailSlot k.val).running = (s.mailSlot k.val).running)) := by
  let w : State := (s.mailboxSet v).setFld Fld.CMD_STATUS_SESSION 0 0
  have hnow : (s.mailboxSet v).flag Fld.MAILBOX_CFG_ENABLE 0 = true := by rw [State.enable_mailboxSet, hon]; rfl
  have hwrite : s.mailboxWrite v [] = (List.range 64).foldl (State.shareHeader []) w := by
    unfold State.mailboxSet at hnow
    simp [State.mailboxWrite, hoff, hnow, w, State.mailboxSet]
  have hlink : w.jwActive = true := by
    refine (State.jwActive_of_reg ?_).trans hactive
    rw [State.reg_setFld, if_neg (by decide), State.mailboxSet, State.reg_plainWrite _ _ _ _ _ _ _ (by decide), if_neg (by decide)]
  have hend (k : MailIx) := foldl_reaches (I := w.SlotKept k) (P := w.Shared k) (fun _ j h => h.shareHeader hlink j)
    (fun _ j h hs => hs.shareHeader h hlink j) (fun u h => h.shared hlink) (List.mem_range.2 k.isLt) ⟨rfl, rfl, rfl⟩
  refine ⟨_, congrArg Host.Outcome.next ((if_pos hup).trans hwrite), ?_, ?_, ?_, fun k => ?_⟩
  · refine (State.flag_of_fld ((hend 0).1.fld ..)).trans ((State.flag_of_fld ?_).trans hnow)
    exact (s.mailboxSet v).fld_setFld_apart (by decide) (by decide) ..
  · exact (State.flag_of_fld ((hend 0).1.fld ..)).trans (State.flag_setFld_zero _ (by decide) 0)
  · exact (hend 0).1.2.1.trans (s.mem_mailboxSet v)
  · obtain ⟨hkept, hseen, hshared⟩ := hend k
    exact ⟨hseen.trans (hkept.headerSeq k.val).symm, hshared, hkept.2.2.trans (State.SlotKept.of_mailboxSet s v k)⟩

/-- Settles O25, clause by clause. -/
theorem eventCommandsRun : Obligations.EventCommandsRun := by
  refine ⟨fun s n h => ?_, fun s n l hlast hlevel => congrArg Host.Outcome.next (State.evtDone_of_top hlast hlevel),
    fun s n l hlast hlevel htop => runs_evtDone_fault hlast hlevel htop, fun _ => rfl,
    fun s hout hhead => runs_eventRecordDone hout hhead, fun s hout hhead hbusy => runs_eventRecordDone_msi hout hhead hbusy,
    fun s v hup hactive hoff hon => runs_mailboxEnable hup hactive hoff hon,
    fun s v hup hon hoff hbase => runs_mailboxDisable hup hon hoff hbase⟩
  obtain ⟨before, after, hnotices, hbefore, hafter, habove⟩ := (s.presented_iff n).1 h
  refine ⟨congrArg Host.Outcome.next (State.present_of_presented h), by rw [State.presentWord, h]; rfl, habove, fun m hm => ?_⟩
  rw [hnotices, List.mem_append, List.mem_cons] at hm
  obtain hm | rfl | hm := hm
  · exact (hbefore m hm).le
  · exact Nat.le_refl _
  · exact hafter m hm

/-- Settles O40: the reply of a packet that runs on is a request to host memory like any other (`State.sendReply_replyKept`). -/
theorem mailboxDisableReleasesLines : Obligations.MailboxDisableReleasesLines := by
  refine ⟨fun s v hup hon hoff hbase => ?_, fun s k p c detail result _ hactive hrunning => ?_, fun s k h q hoff => ?_,
    fun s v hup hon hbase i hi => ?_⟩
  · obtain ⟨u, hexec, henable, -, hslots⟩ := runs_mailboxDisable hup hon hoff hbase
    exact ⟨u, hexec, henable, fun k => ⟨(hslots k).1, (hslots k).2.2⟩⟩
  · obtain ⟨hmem, hheld⟩ := State.finish_reply hrunning c detail result
    have hsent : (s.replyKept k.val p c detail result).sendReply k.val = (s.replyKept k.val p c detail result).jwWrite (.reply k.val)
        (s.slotBase k.val + 0x1FC0) (s.replyBytes p 2 c.num detail result) := by
      rw [State.sendReply_replyKept, hactive]
      rfl
    refine ⟨fun hroom => ?_, fun hfull => ?_⟩
    · have hwrites := NMap.slice_putRun_same memDflt s.mem (s.slotBase k.val + 0x1FC0) (s.replyBytes p 2 c.num detail result)
      rw [State.length_replyBytes] at hwrites
      have hroom : (s.replyKept k.val p c detail result).jwBusy.length < 4096 := hroom
      rw [State.bytes, hmem, hsent, State.jwWrite, if_pos hroom]
      exact hwrites
    · have hfull : ¬ (s.replyKept k.val p c detail result).jwBusy.length < 4096 := Nat.not_lt.2 hfull
      rw [hheld, hsent, State.jwWrite, if_neg hfull]
      rfl
  · refine congrArg Host.Outcome.next ?_
    simp only [State.packetAccept, hoff]
    rfl
  · have hbarred := State.mailboxWrite_baseBarred hon hbase []
    simp only [List.mem_cons, List.not_mem_nil, or_false] at hi
    obtain rfl | rfl | rfl := hi
    · exact congrArg Host.Outcome.next ((State.softWrite_mailboxCfg hup v).trans hbarred)
    · exact congrArg Host.Outcome.next ((if_pos hup).trans hbarred)
    · exact congrArg Host.Outcome.next ((State.softWrite_mailboxCfg hup v).trans hbarred)

end Sys2Proof.Machine
end

section
/-! PROOFS. What a stall of the stall domains and the holds at the expansion joints leave as it was (R301, R302, R491), and the clock mode
(R487-R490). -/
namespace Sys2Proof.Machine
open Sys2Proof

/-! A stall (R301, R302, R491). -/

/-- The registers that a stall of a domain writes: tokens, the state of its piers and its causes, the grants of beats and the stalls at
joints (R166, R314, R326, R491). -/
def stallRegs : List RegName := [.pierHeld, .spanToken, .pctlStatus, .pctlSlot, .pctlStallCause, .deckArbCount, .ringErrCount]

theorem reg_causeFld (row : Nat) : (causeFld row).reg = .pctlStallCause := by
  unfold causeFld
  split
  · rfl
  · split
    · rfl
    · split <;> rfl

/-- `u` is `s` but for what stalls and the expansion joints change: the registers of stalls and those of `R`, the scheduled work, and the
joints. -/
structure State.StallKept (R : List RegName) (s u : State) : Prop where
  eq : u = { s with
    regs := u.regs
    piers := u.piers
    slots := u.slots
    regions := u.regions
    refetches := u.refetches
    held := u.held
    flight := u.flight
    tokenMoves := u.tokenMoves
    deltas := u.deltas }
  reg : ∀ r i, r ∉ stallRegs ++ R → u.reg r i = s.reg r i

namespace State.StallKept

theorem refl (R : List RegName) (s : State) : s.StallKept R s := ⟨rfl, fun _ _ _ => rfl⟩

theorem trans {R : List RegName} {s u w : State} (h : s.StallKept R u) (k : u.StallKept R w) : s.StallKept R w where
  eq := by rw [k.eq, h.eq]
  reg r i hr := (k.reg r i hr).trans (h.reg r i hr)

theorem fld {R : List RegName} {s u : State} (h : s.StallKept R u) {f : Fld} (hf : f.reg ∉ stallRegs ++ R) (i : Nat) :
    u.fld f i = s.fld f i :=
  congrArg f.ofWord (h.reg f.reg i hf)

section
variable {R : List RegName} {s u w : State} (h : s.StallKept R u)
include h

theorem setListed {f : Fld} (hf : f.reg ∈ stallRegs ++ R) (i v : Nat) : s.StallKept R (u.setFld f i v) := by
  refine h.trans ⟨rfl, fun r j hr => (State.reg_setFld ..).trans (if_neg ?_)⟩
  rintro ⟨rfl, -⟩
  exact hr hf

theorem setFld {f : Fld} (hf : f.reg ∈ stallRegs) (i v : Nat) : s.StallKept R (u.setFld f i v) :=
  h.setListed (List.mem_append_left R hf) i v

theorem setOwn {f : Fld} (hf : f.reg ∈ R) (i v : Nat) : s.StallKept R (u.setFld f i v) :=
  h.setListed (List.mem_append_right stallRegs hf) i v

theorem bump {f : Fld} (hf : f.reg ∈ stallRegs) (i n : Nat) : s.StallKept R (u.bump f i n) := h.setFld hf i _

/-- A change of the scheduled work alone. -/
theorem of_regs (heq : w = { u with
    piers := w.piers, slots := w.slots, regions := w.regions, refetches := w.refetches, held := w.held, flight := w.flight,
    tokenMoves := w.tokenMoves, deltas := w.deltas }) : s.StallKept R w :=
  h.trans ⟨by rw [heq], fun r i _ => by rw [heq]; rfl⟩

theorem optional {c : Prop} {_ : Decidable c} (k : s.StallKept R w) : s.StallKept R (if c then u else w) :=
  iteInduction (fun _ => h) (fun _ => k)

theorem foldl {α : Type} {f : State → α → State} (hf : ∀ {w : State} x, s.StallKept R w → s.StallKept R (f w x)) (l : List α) :
    s.StallKept R (l.foldl f u) :=
  foldl_keeps (s.StallKept R) f (fun _ x => hf x) l u h

theorem setPier (p : PierIx) (x : Pier) : s.StallKept R (u.setPier p x) := h.of_regs rfl

theorem hold (failed : Bool) (i : Instr) : s.StallKept R (u.hold failed i) := h.of_regs rfl

theorem regrant (sp : Nat) : s.StallKept R (u.regrant sp) := (h.setFld (by decide) ..).setFld (by decide) ..

theorem acquire (p : PierIx) (n : Nat) : s.StallKept R (u.acquire p n) :=
  ((h.setFld (by decide) ..).setFld (by decide) ..).regrant _

theorem giveBack (p : PierIx) (n : Nat) : s.StallKept R (u.giveBack p n) :=
  ((h.setFld (by decide) ..).setFld (by decide) ..).regrant _

theorem noteWait (p : PierIx) (x : RegionIx × Option (Nat × Bool)) : s.StallKept R (u.noteWait p x) := by
  obtain ⟨r, i⟩ := x
  cases i with
  | none => exact h
  | some i =>
    exact optional (h.of_regs (by rfl)) (h.of_regs (by rfl))

theorem recordLate (p : PierIx) (c : Nat) (l : Late) (again : Bool) : s.StallKept R (u.recordLate p c l again) := by
  have hcause (row : Nat) : (causeFld row).reg ∈ stallRegs := by
    rw [reg_causeFld]
    decide
  unfold State.recordLate
  dsimp only
  refine optional (bump ?_ (by decide) ..) ?_
  all_goals
    refine optional (bump (optional (setFld ?_ (hcause _) ..) ?_) (hcause _) ..) ?_
    all_goals exact (h.foldl (fun _ k => k.noteWait ..) _).setPier ..

theorem returnTokens (d : Dom) (c : Nat) : s.StallKept R (u.returnTokens d c) :=
  foldl (h.of_regs (by rfl)) (fun _ k => ((k.acquire ..).hold ..).optional ((k.giveBack ..).hold ..)) _

theorem grantPort (p : PierIx) (req port : Nat) : s.StallKept R (u.grantPort p req port) :=
  h.optional (((h.setPier ..).bump (by decide) ..).optional (h.setPier ..))

theorem dropClaims (p : PierIx) (slot : Nat) (phantom : Bool) : s.StallKept R (u.dropClaims p slot phantom) :=
  (foldl (h.setPier ..) (fun _ k => (k.foldl (fun _ k => k.grantPort ..) _).bump (by decide) ..) _).optional (h.setPier ..)

theorem stopIssue (c : Nat) (phantom : Bool) (p : PierIx) : s.StallKept R (u.stopIssue c phantom p) := by
  have hseen : s.StallKept R ((u.dropClaims p c phantom).seeAll p) := (h.dropClaims ..).of_regs rfl
  exact ((hseen.setFld (by decide) ..).setFld (by decide) ..).optional ((hseen.setPier ..).optional hseen)

theorem stallSlot (d : Dom) (c : Nat) (ls : List (PierIx × Late × Bool)) : s.StallKept R (u.stallSlot d c ls) :=
  (((h.returnTokens d c).foldl (fun _ k => k.recordLate ..) ls).foldl (fun _ k => k.stopIssue ..) (u.domPiers d)).of_regs
    (by rfl)

theorem jointStall (j : Nat) (d : Dom) : s.StallKept R (u.jointStall j d) := by
  cases d with
  | solo p => exact h
  | seg g => exact h.optional (stallSlot (h.foldl (fun _ k => k.bump (by decide) ..) _) ..)

theorem jointStalls : s.StallKept R u.jointStalls :=
  h.foldl (fun _ k => k.foldl (fun _ k => k.jointStall ..) _) _

/-! Periods of the spans, and the drift of the joints (R487, R491). -/

section
variable (hspan : RegName.clkSpan ∈ R)
include hspan

theorem setDelta (j : Nat) (v : Int) : s.StallKept R (u.setDelta j v) :=
  setOwn (f := Fld.CLK_SPAN_OUT) (setOwn (f := Fld.CLK_SPAN_DELTA) (h.of_regs (by rfl)) hspan ..) hspan ..

theorem lengthen (n sp : Nat) : s.StallKept R (u.lengthen n sp) := (h.setDelta hspan ..).setDelta hspan ..

variable (hcount : RegName.clkSpanCount ∈ R)
include hcount

theorem hold_period : s.StallKept R (u.period none) :=
  jointStalls (h.foldl (fun _ k => (k.lengthen hspan ..).setOwn hcount ..) _)

theorem takeHolds (fuel : Nat) : s.StallKept R (State.takeHolds fuel u) := by
  induction fuel generalizing u with
  | zero => exact h
  | succ fuel ih => exact (ih (h.hold_period hspan hcount)).optional h

theorem driftStep (n : Nat) : s.StallKept R (u.driftStep n) :=
  (h.foldl (fun _ k => (k.setDelta hspan ..).optional ((k.setDelta hspan ..).optional k)) _).jointStalls.takeHolds hspan hcount 17

theorem drift : s.StallKept R u.drift :=
  h.optional ((h.takeHolds hspan hcount 17).optional (h.foldl (fun _ k => k.driftStep hspan hcount _) _))

end

end

end State.StallKept

/-! The clock mode (R487-R490). -/

/-- The holds of a period leave the stretches of every span as they were counted (R491). -/
theorem State.stretches_holds (s : State) (hs : List Nat) (sp : Nat) :
    (hs.foldl (fun s j => (s.lengthen 8 j).bump Fld.CLK_SPAN_COUNT_HOLDS j 1) s).fld Fld.CLK_SPAN_COUNT_STRETCHES sp =
      s.fld Fld.CLK_SPAN_COUNT_STRETCHES sp := by
  refine foldl_keeps (fun u => u.fld Fld.CLK_SPAN_COUNT_STRETCHES sp = s.fld Fld.CLK_SPAN_COUNT_STRETCHES sp) _ (fun u j h => ?_) hs s rfl
  have hlonger := (State.StallKept.refl [.clkSpan] u).lengthen (by decide) 8 j
  exact (State.fld_setFld_apart _ (by decide) (by decide) ..).trans ((hlonger.fld (by decide) sp).trans h)

/-- A failing monitor of a span that holds nothing stretches it by one period, which is counted (R487, R490). -/
theorem State.stretches_period {s : State} {sp : Nat} (hholds : s.holds sp = false) :
    (s.period (some sp)).fld Fld.CLK_SPAN_COUNT_STRETCHES sp =
      min (s.fld Fld.CLK_SPAN_COUNT_STRETCHES sp + 1) (2 ^ Fld.CLK_SPAN_COUNT_STRETCHES.width - 1) := by
  have hnot : ((List.range 17).filter s.holds).contains sp = false := by simp [hholds]
  have hstalls (u : State) := ((State.StallKept.refl [] u).jointStalls).fld (f := Fld.CLK_SPAN_COUNT_STRETCHES) (by decide) sp
  have hlonger (u : State) (n : Nat) :=
    ((State.StallKept.refl [.clkSpan] u).lengthen (by decide) n sp).fld (f := Fld.CLK_SPAN_COUNT_STRETCHES) (by decide) sp
  simp only [State.period, hnot, Bool.false_eq_true, if_false]
  rw [hstalls, State.fld_bump _ (by decide), hlonger, State.stretches_holds]

theorem regAt_clkCfg : regAt 0x020100E00000 = .listed .clkCfg 0 none := by decide

/-- A write at the address of CLK_CFG is a write to it (R498). -/
theorem exec_writeClkCfg {s : State} (hup : s.regsUp = true) (v : Word) :
    exec (.regWrite 0x020100E00000 v) s = .next (s.writeClkCfg 0x020100E00000 v) := by
  refine congrArg Host.Outcome.next ?_
  simp only [State.softWrite, hup, State.regWrite, regAt_clkCfg]
  rfl

theorem clkMode_legal (v : Word) : Fld.CLK_CFG_MODE.isLegal (Fld.CLK_CFG_MODE.ofWord v) = true := enable_legal v

/-- A write of CLK_CFG with no program launched sets the mode, and CLK_STATUS shows it (R488, R498). -/
theorem State.mode_writeClkCfg {s : State} (hlaunched : s.launched = false) (a : Nat) (v : Word) :
    (s.writeClkCfg a v).fld Fld.CLK_CFG_MODE 0 = Fld.CLK_CFG_MODE.ofWord v ∧
      (s.writeClkCfg a v).fld Fld.CLK_STATUS_MODE 0 = Fld.CLK_CFG_MODE.ofWord v := by
  have hset : (s.plainWrite .clkCfg 0 a v).fld Fld.CLK_CFG_MODE 0 = Fld.CLK_CFG_MODE.ofWord v :=
    s.fld_plainWrite (before := []) rfl (by decide) rfl (by decide) rfl (by decide) 0 a (clkMode_legal v)
  let t := (s.plainWrite .clkCfg 0 a v).setFld Fld.CLK_STATUS_MODE 0 (Fld.CLK_CFG_MODE.ofWord v)
  have hwrite : s.writeClkCfg a v = if t.flag Fld.CLK_STATUS_MODE 0 then t else t.setFld Fld.CLK_STATUS_FSTEP 0 16 := by
    simp only [State.writeClkCfg, hlaunched, hset, Bool.false_eq_true, if_false, t]
  have hcfg : t.fld Fld.CLK_CFG_MODE 0 = Fld.CLK_CFG_MODE.ofWord v := (State.fld_setFld_reg _ _ (by decide)).trans hset
  have hstatus : t.fld Fld.CLK_STATUS_MODE 0 = Fld.CLK_CFG_MODE.ofWord v :=
    (State.fld_setFld_same _ _ _ _ (by decide)).trans (Nat.mod_eq_of_lt (Fld.ofWord_lt Fld.CLK_CFG_MODE v))
  rw [hwrite]
  split
  · exact ⟨hcfg, hstatus⟩
  · exact ⟨(State.fld_setFld_reg _ _ (by decide)).trans hcfg,
      (State.fld_setFld_apart _ (by decide) (by decide) ..).trans hstatus⟩

/-- Settles O41: the mode that a write sets is the one by which a failing monitor acts. -/
theorem clockModeFollowsWrite : Obligations.ClockModeFollowsWrite := by
  refine ⟨by decide, fun s v hup hlaunched => ?_, fun s v hup hlaunched => ?_⟩
  · rw [exec_writeClkCfg hup, State.writeClkCfg, if_pos hlaunched]
    rfl
  · obtain ⟨hcfg, hstatus⟩ := State.mode_writeClkCfg hlaunched 0x020100E00000 v
    refine ⟨_, exec_writeClkCfg hup v, hcfg, fun hstepped sp hclocked => ?_, fun hmonitor htest sp hclocked hholds => ?_⟩
    · have hmode : (s.writeClkCfg 0x020100E00000 v).flag Fld.CLK_STATUS_MODE 0 = true := by rw [State.flag, hstatus, hstepped]; rfl
      exact congrArg Host.Outcome.next (State.monitorFail_stepped hclocked hmode)
    · have hmode : (s.writeClkCfg 0x020100E00000 v).flag Fld.CLK_STATUS_MODE 0 = false := by rw [State.flag, hstatus, hmonitor]; rfl
      exact ⟨_, congrArg Host.Outcome.next (State.monitorFail_stretched hclocked hmode htest), State.stretches_period hholds⟩

/-! One step (R492). -/

/-- A pass that leaves the state alone at every member leaves it alone. -/
theorem foldl_id {α : Type} {f : State → α → State} {l : List α} {s : State} (h : ∀ x ∈ l, f s x = s) : l.foldl f s = s := by
  induction l with
  | nil => rfl
  | cons x l ih =>
    obtain ⟨hx, hl⟩ := List.forall_mem_cons.1 h
    rw [List.foldl_cons, hx, ih hl]

theorem State.quietLinks_idle {s : State}
    (h : ∀ n, s.portState n = 5 → (s.link n).ackDue = false ∧ ∀ v ∈ (s.link n).owed, v = 0) : s.quietLinks = s := by
  refine foldl_id fun n _ => if_neg ?_
  simp only [Bool.and_eq_true, decide_eq_true_eq, Bool.or_eq_true, List.any_eq_true, not_and, not_or, not_exists]
  intro hactive
  obtain ⟨hack, howed⟩ := h n hactive
  exact ⟨by rw [hack]; exact Bool.false_ne_true, fun v hv => by rw [howed v hv]; exact Nat.lt_irrefl 0⟩

/-- A test that ticks on shows its wave, and leaves the time, memory and what is sent (R525). -/
theorem State.testTick_keeps (s : State) : s.testTick.now = s.now ∧ s.testTick.mem = s.mem ∧ s.testTick.outbox = s.outbox ∧
    s.testTick.warmReset = s.warmReset := by
  unfold State.testTick
  split
  · split
    · exact ⟨(State.reg_setFld ..).trans (if_neg (by decide)), rfl, rfl, rfl⟩
    · exact ⟨rfl, rfl, rfl, rfl⟩
  · exact ⟨rfl, rfl, rfl, rfl⟩

theorem State.warmDue_none {s : State} (h : s.warmReset = none) : s.warmDue = s := by simp only [State.warmDue, h]

/-- A tick of a module in which nothing waits and nothing is owed (R492). -/
theorem State.tick_quiet {s : State} (hphase : s.phase ≠ .off) (htiles : s.ringTiles = []) (hself : s.selfMsgs = [])
    (hhost : s.hostWaits = []) (hwindow : s.windowWaits = []) (hwarm : s.warmReset = none)
    (hports : ∀ n, s.portState n = 5 → (s.link n).ackDue = false ∧ ∀ v ∈ (s.link n).owed, v = 0) :
    s.tick.now = s.now + 1 ∧ s.tick.mem = s.mem ∧ s.tick.outbox = s.outbox := by
  let t := s.setReg .timeNow 0 (s.now + 1)
  have hdrain : s.drainRing = s := by
    obtain ⟨⟩ := s
    subst htiles
    rfl
  have hdeliver : s.deliverOwn = s := by
    obtain ⟨⟩ := s
    subst hself
    rfl
  have hretry (u : State) (h : u.hostWaits = []) : u.retryHost = u := by
    obtain ⟨⟩ := u
    subst h
    rfl
  have hwake (u : State) (h : u.windowWaits = []) : u.wakeWindows = u := by
    obtain ⟨⟩ := u
    subst h
    rfl
  have hbase : s.drainRing.deliverOwn.quietLinks.setReg .timeNow 0 (s.now + 1) = t := by
    rw [hdrain, hdeliver, State.quietLinks_idle hports]
  have htime : t.now = s.now + 1 := State.reg_setReg_same ..
  have hend : s.tick = t ∨ s.tick = t.drift.testTick.warmDue := by
    unfold State.tick
    dsimp only
    rw [hbase]
    split
    · next h => exact absurd h hphase
    · rw [hretry t hhost, hwake t hwindow]
      exact .inr rfl
    · rw [hretry t hhost, State.warmDue_none (s := t) hwarm]
      exact .inl rfl
  obtain h | h := hend
  · rw [h]
    exact ⟨htime, rfl, rfl⟩
  · have hdrift := (State.StallKept.refl [.clkSpan, .clkSpanCount] t).drift (by decide) (by decide)
    obtain ⟨hnow, hmem, hout, hreset⟩ := t.drift.testTick_keeps
    have hnone : t.drift.testTick.warmReset = none := by rw [hreset, hdrift.eq]; exact hwarm
    rw [h, State.warmDue_none hnone]
    exact ⟨hnow.trans ((hdrift.reg .timeNow 0 (by decide)).trans htime), hmem.trans (by rw [hdrift.eq]; rfl),
      hout.trans (by rw [hdrift.eq]; rfl)⟩

/-- Settles O32. -/
theorem stepRunsFrontCommand : Obligations.StepRunsFrontCommand := by
  refine ⟨fun s c rest h => ?_, fun s h => ?_, fun s h => ?_, fun s w t hw hdue ht => ?_,
    fun s hphase htiles hself hhost hwindow hwarm hports => State.tick_quiet hphase htiles hself hhost hwindow hwarm hports⟩
  · simp only [step, h]
  · simp only [step, h]
  · simp only [State.tick, h]
  · simp only [State.warmDue, hw, hdue]
    rw [if_pos (by simpa using ht)]

end Sys2Proof.Machine
end

section
/-! PROOFS. The owner's fuses, the unlocks, and the events of firmware and service access (R539, R544-R558). -/
namespace Sys2Proof.Machine
open Sys2Proof

/-! Steps that write listed registers and nothing else. -/

/-- `u` is `s` but for what its registers of `R` hold. -/
structure State.OnlyRegs (R : List RegName) (s u : State) : Prop where
  eq : u = { s with regs := u.regs }
  reg : ∀ r i, r ∉ R → u.reg r i = s.reg r i

namespace State.OnlyRegs

theorem refl (R : List RegName) (s : State) : s.OnlyRegs R s := ⟨rfl, fun _ _ _ => rfl⟩

theorem trans {R : List RegName} {s u w : State} (h : s.OnlyRegs R u) (k : u.OnlyRegs R w) : s.OnlyRegs R w where
  eq := by rw [k.eq, h.eq]
  reg r i hr := (k.reg r i hr).trans (h.reg r i hr)

theorem fld {R : List RegName} {s u : State} (h : s.OnlyRegs R u) {f : Fld} (hf : f.reg ∉ R) (i : Nat) : u.fld f i = s.fld f i :=
  congrArg f.ofWord (h.reg f.reg i hf)

theorem flag {R : List RegName} {s u : State} (h : s.OnlyRegs R u) {f : Fld} (hf : f.reg ∉ R) (i : Nat) : u.flag f i = s.flag f i :=
  State.flag_of_fld (h.fld hf i)

section
variable {R : List RegName} {s u : State} (h : s.OnlyRegs R u)
include h

theorem setReg {r : RegName} (hr : r ∈ R) (i : Nat) (v : Word) : s.OnlyRegs R (u.setReg r i v) := by
  refine h.trans ⟨rfl, fun q j hq => State.reg_setReg_other _ _ ?_⟩
  rintro ⟨rfl, -⟩
  exact hq hr

theorem setFld {f : Fld} (hf : f.reg ∈ R) (i v : Nat) : s.OnlyRegs R (u.setFld f i v) := h.setReg hf i _

theorem extendMr (hr : RegName.mr ∈ R) (m : Nat) (d : List Byte) : s.OnlyRegs R (u.extendMr m d) :=
  foldl_keeps (s.OnlyRegs R) _ (fun _ _ k => k.setReg hr ..) _ u h

theorem extendFuses (hr : RegName.mr ∈ R) : s.OnlyRegs R u.extendFuses := h.extendMr hr ..

end

end State.OnlyRegs

/-! The owner's fuses (R544, R556, R558). -/

/-- The state of a key slot after it is set; the register holds two bits for each of four slots (R561). -/
theorem State.keyState_setKeyState (s : State) {i v : Nat} (hi : i < 4) (hv : v < 4) : (s.setKeyState i v).keyState i = v := by
  have hrange : s.fld Fld.KEY_STATUS_SLOTS 0 < 256 := Fld.ofWord_lt Fld.KEY_STATUS_SLOTS _
  rw [State.keyState, State.setKeyState, State.fld_setFld_same _ _ _ _ (by decide), State.keyState]
  generalize s.fld Fld.KEY_STATUS_SLOTS 0 = x at hrange
  change (x + 4 ^ i * v - 4 ^ i * (x / 4 ^ i % 4)) % 256 / 4 ^ i % 4 = v
  obtain rfl | rfl | rfl | rfl : i = 0 ∨ i = 1 ∨ i = 2 ∨ i = 3 := by omega
  all_goals omega

/-- An operation with service access open that is allowed and whose fuses verify (R558). -/
theorem State.burnOwner_done {s : State} (hup : s.tollUp = true) (hopen : s.flag Fld.SERVICE_CTRL_OPEN 0 = true) {allowed : Bool}
    (hallowed : allowed = true) (f : State → State) : s.burnOwner allowed true f = (f s).extendFuses.fuseResult 1 := by
  simp only [State.burnOwner, hup, hopen, hallowed, Bool.not_true, Bool.false_eq_true, if_false]

/-- With service access closed an operation is discarded (R556). -/
theorem State.burnOwner_closed {s : State} (hup : s.tollUp = true) (hopen : s.flag Fld.SERVICE_CTRL_OPEN 0 = false)
    (allowed verified : Bool) (f : State → State) : s.burnOwner allowed verified f = s.regFault fuseCtrl := by
  simp only [State.burnOwner, hup, hopen, Bool.not_true, Bool.not_false, Bool.false_eq_true, if_false, if_true]

/-- What the fuses took over stands once MR5 and RESULT follow it (R553, R558). -/
theorem State.fuseResult_shown (s : State) : s.OnlyRegs [.mr, .ownerFuseCtrl] (s.extendFuses.fuseResult 1) ∧
    (s.extendFuses.fuseResult 1).fld Fld.OWNER_FUSE_CTRL_RESULT 0 = 1 :=
  ⟨((OnlyRegs.refl ..).extendFuses (by decide)).setFld (by decide) .., State.fld_setFld_same _ _ _ _ (by decide)⟩

theorem State.keyState_fuseResult (s : State) (i : Nat) : (s.extendFuses.fuseResult 1).keyState i = s.keyState i := by
  rw [State.keyState, s.fuseResult_shown.1.fld (by decide), State.keyState]

/-- Settles O19. -/
theorem ownerFuseCommandsRun : Obligations.OwnerFuseCommandsRun := by
  refine fun s hup => ⟨fun hopen => ⟨fun slot hfree => ?_, fun slot hother => ?_, fun hroom => ?_, fun hroom => ?_⟩,
    fun hclosed c verified slot hc => ?_⟩
  · have hslot := slot.isLt
    refine ⟨_, congrArg Host.Outcome.next (State.burnOwner_done hup hopen (decide_eq_true hfree) _), ?_, (State.fuseResult_shown _).2,
      (State.keyState_fuseResult ..).trans (State.keyState_setKeyState _ (by omega) (by omega))⟩
    rw [(State.fuseResult_shown _).1.eq]
    exact NMap.look_ins_same ..
  · have hslot := slot.isLt
    refine ⟨_, congrArg Host.Outcome.next (State.burnOwner_done hup hopen (bne_iff_ne.2 hother) _), ?_, (State.fuseResult_shown _).2,
      (State.keyState_fuseResult ..).trans (State.keyState_setKeyState _ (by omega) (by omega))⟩
    rw [(State.fuseResult_shown _).1.eq]
    rfl
  · refine ⟨_, congrArg Host.Outcome.next (State.burnOwner_done hup hopen (decide_eq_true hroom) _), ?_, (State.fuseResult_shown _).2⟩
    rw [(State.fuseResult_shown _).1.eq]
  · refine ⟨_, congrArg Host.Outcome.next (State.burnOwner_done hup hopen (decide_eq_true hroom) _), ?_, (State.fuseResult_shown _).2⟩
    rw [(State.fuseResult_shown _).1.eq]
  · have hdiscarded := State.burnOwner_closed hup hclosed
    simp only [List.mem_cons, List.not_mem_nil, or_false] at hc
    obtain rfl | rfl | rfl | rfl := hc
    all_goals exact congrArg Host.Outcome.next (hdiscarded ..)

end Sys2Proof.Machine
end

section
/-! PROOFS. The events of firmware and service access (R480, R539, R549, R556, R557). -/
namespace Sys2Proof.Machine
open Sys2Proof

/-- A slot whose command has been ended runs none (R451). -/
theorem State.running_finish (s : State) (k : Nat) (c : Cc) (detail : Nat) (result : List Byte) :
    ((s.finish k c detail result).mailSlot k).running = none := by
  cases h : (s.mailSlot k).running with
  | none => simp only [State.finish, h]
  | some p =>
    rw [(State.sent_finish h c detail result).mailSlot, State.replyKept, State.mailSlot_setMail_same]
    exact congrArg MailSlot.running (State.mailSlot_setMail_same s k { s.mailSlot k with running := none })

/-- The end of a command leaves the boot records and the image in use. -/
theorem State.images_finish (s : State) (k : Nat) (c : Cc) (detail : Nat) (result : List Byte) :
    (s.finish k c detail result).trial = s.trial ∧ (s.finish k c detail result).running = s.running := by
  cases h : (s.mailSlot k).running with
  | none => simp only [State.finish, h, and_self]
  | some p =>
    rw [(State.sent_finish h c detail result).eq]
    exact ⟨rfl, rfl⟩

theorem State.mem_event (s : State) (c : Code) (k n d : Nat) : (s.event c k n d).mem = s.mem := by
  rw [State.event_eq, State.noticed]
  split <;> split <;> rfl

theorem State.images_event (s : State) (c : Code) (k n d : Nat) :
    (s.event c k n d).running = s.running ∧ (s.event c k n d).trial = s.trial := by
  rw [(State.Sent.event s c k n d).eq]
  exact ⟨rfl, rfl⟩

theorem State.OnlyRegs.images {R : List RegName} {s u : State} (h : s.OnlyRegs R u) :
    u.running = s.running ∧ u.trial = s.trial ∧ u.mem = s.mem := by
  rw [h.eq]
  exact ⟨rfl, rfl, rfl⟩

theorem State.setBoot_eq (s : State) (active : List Nat) (trial : Option Nat) :
    s.setBoot active trial = { s with bootRecords := (s.setBoot active trial).bootRecords } := by
  unfold State.setBoot
  split <;> rfl

theorem State.OnlyRegs.setKeyState {R : List RegName} {s u : State} (h : s.OnlyRegs R u) (hr : RegName.keyStatus ∈ R) (i v : Nat) :
    s.OnlyRegs R (u.setKeyState i v) := h.setFld hr ..

theorem reg_svnMin (target : Nat) : (svnMin target).reg = .keyStatus := by
  unfold svnMin
  split <;> rfl

/-- The fuses follow an image in their registers (R546, R551). -/
theorem State.burnFor_only (s : State) (target slot : Nat) : s.OnlyRegs [.keyStatus, .mr] (s.burnFor target slot) := by
  have hsvn : (svnMin target).reg ∈ [RegName.keyStatus, .mr] := by rw [reg_svnMin]; decide
  unfold State.burnFor
  split
  · exact .refl ..
  · refine iteInduction (fun _ => .extendFuses ?_ (by decide)) (fun _ => ?_)
    all_goals
      refine iteInduction (fun _ => .setKeyState ?_ (by decide) ..) (fun _ => ?_)
      all_goals exact iteInduction (fun _ => (OnlyRegs.refl ..).setFld hsvn ..) (fun _ => .refl ..)

/-- The state in which the tollhouse has started the image of its slot (R553). -/
theorem State.startTollhouse_only (s : State) (ab : Nat) :
    State.OnlyRegs [.fwStatus, .mr] { s with running := ab } (s.startTollhouse ab) := by
  have hversion : State.OnlyRegs [.fwStatus, .mr] { s with running := ab }
      (({ s with running := ab }).setFld Fld.FW_STATUS_VERSION 0 (s.norVersion ab)) := .setFld (.refl ..) (by decide) ..
  exact hversion.extendMr (by decide) ..

/-- The start of an image shows its version, and leaves every other field of FW_STATUS. -/
theorem State.fld_startTollhouse (s : State) (ab : Nat) {f : Fld} (hf : f.reg ≠ .mr) (hfits : f.lo + f.width ≤ 64)
    (hversion : f.apart Fld.FW_STATUS_VERSION = true) (i : Nat) : (s.startTollhouse ab).fld f i = s.fld f i := by
  have hextended (u : State) (d : List Byte) : (u.extendMr 1 d).fld f i = u.fld f i :=
    ((OnlyRegs.refl [.mr] u).extendMr (by decide) 1 d).fld (fun h => hf (List.mem_singleton.1 h)) i
  rw [State.startTollhouse, hextended, State.fld_setFld_apart _ hfits hversion]
  rfl

theorem State.failStep_only (s : State) (c : Code) (p t : Nat) : s.OnlyRegs [.schedFault, .schedStatus] (s.failStep c p t) := by
  unfold State.failStep
  refine iteInduction (fun _ => ?_) (fun _ => .refl ..)
  exact ((((OnlyRegs.refl ..).setFld (by decide) ..).setFld (by decide) ..).setFld (by decide) ..).setFld (by decide) ..

/-- A step in progress that fails for no slot shows it in SCHED_STATUS and SCHED_FAULT (R310, R480). -/
theorem State.failFree_only (s : State) (c : Code) :
    ∃ n, State.OnlyRegs [.schedFault, .schedStatus] { s with freeCtr := n } (s.failFree c) := by
  unfold State.failFree
  exact iteInduction (motive := fun u => ∃ n, State.OnlyRegs _ { s with freeCtr := n } u) (fun _ => ⟨_, State.failStep_only ..⟩)
    (fun _ => ⟨s.freeCtr, .refl ..⟩)

/-- The state that a restart of the tollhouse begins with: a trial has ended, its image rejected (R549). -/
def State.trialRejected (s : State) : State :=
  if s.flag Fld.FW_STATUS_TRIAL 0 then
    ((s.setTrial none).setFld Fld.FW_STATUS_TRIAL 0 0).setFld Fld.FW_STATUS_ROLLED_BACK 0 1
  else s

theorem State.restartTollhouse_eq (s : State) (addr : Nat) : s.restartTollhouse addr =
    ((s.trialRejected.startTollhouse (s.fld Fld.FW_STATUS_ACTIVE 0)).failFree .tollhouseWdt).event .tollhouseWdt 0 0 (addr % 2 ^ 32) :=
  rfl

theorem State.trialRejected_trial {s : State} (h : s.flag Fld.FW_STATUS_TRIAL 0 = true) :
    s.trialRejected.trial = none ∧ s.trialRejected.flag Fld.FW_STATUS_TRIAL 0 = false ∧
      s.trialRejected.flag Fld.FW_STATUS_ROLLED_BACK 0 = true := by
  rw [State.trialRejected, if_pos h]
  refine ⟨s.trial_setTrial none, ?_, State.flag_setFld_one _ (by decide) (by decide) ..⟩
  rw [State.flag_of_fld (State.fld_setFld_apart _ (by decide) (by decide) ..)]
  exact State.flag_setFld_zero _ (by decide) ..

theorem State.trialRejected_flag (s : State) : s.trialRejected.flag Fld.FW_STATUS_TRIAL 0 = false := by
  cases h : s.flag Fld.FW_STATUS_TRIAL 0 with
  | true => exact (State.trialRejected_trial h).2.1
  | false => rwa [State.trialRejected, if_neg (by rw [h]; decide)]

theorem State.mem_trialRejected (s : State) : s.trialRejected.mem = s.mem := by
  have hboot : (s.setTrial none).mem = s.mem := by rw [State.setTrial, State.setBoot_eq]
  unfold State.trialRejected
  split
  · exact hboot
  · rfl

/-- What a restart of the tollhouse leaves as the rejected trial left it (R480). -/
theorem State.restartTollhouse_keeps (s : State) (addr : Nat) :
    (s.restartTollhouse addr).running = s.fld Fld.FW_STATUS_ACTIVE 0 ∧ (s.restartTollhouse addr).trial = s.trialRejected.trial ∧
      (s.restartTollhouse addr).mem = s.trialRejected.mem := by
  obtain ⟨n, hfails⟩ := (s.trialRejected.startTollhouse (s.fld Fld.FW_STATUS_ACTIVE 0)).failFree_only .tollhouseWdt
  obtain ⟨hrunning, htrial, hmem⟩ := (s.trialRejected.startTollhouse_only (s.fld Fld.FW_STATUS_ACTIVE 0)).images
  obtain ⟨hrunning', htrial', hmem'⟩ := hfails.images
  obtain ⟨hposted, hposted'⟩ := State.images_event
    ((s.trialRejected.startTollhouse (s.fld Fld.FW_STATUS_ACTIVE 0)).failFree .tollhouseWdt) .tollhouseWdt 0 0 (addr % 2 ^ 32)
  rw [State.restartTollhouse_eq]
  exact ⟨hposted.trans (hrunning'.trans hrunning), hposted'.trans (htrial'.trans htrial),
    (State.mem_event ..).trans (hmem'.trans hmem)⟩

theorem State.flag_restartTollhouse (s : State) (addr : Nat) {f : Fld} (hf : f.reg = .fwStatus) (hfits : f.lo + f.width ≤ 64)
    (hversion : f.apart Fld.FW_STATUS_VERSION = true) (i : Nat) :
    (s.restartTollhouse addr).flag f i = s.trialRejected.flag f i := by
  obtain ⟨n, hfails⟩ := (s.trialRejected.startTollhouse (s.fld Fld.FW_STATUS_ACTIVE 0)).failFree_only .tollhouseWdt
  refine State.flag_of_fld ?_
  have hctr (u : State) : ({ u with freeCtr := n }).fld f i = u.fld f i := rfl
  rw [State.restartTollhouse_eq, (State.Sent.event ..).fld (by rw [hf]; decide), hfails.fld (by rw [hf]; decide), hctr]
  exact State.fld_startTollhouse _ _ (by rw [hf]; decide) hfits hversion i

/-- The state in which the trial image has become the active one (R549). -/
theorem State.fwTrialEnd_ends {s : State} {t : Nat} (htrial : s.trial = some t) (hshown : s.flag Fld.FW_STATUS_TRIAL 0 = true) :
    s.fwTrialEnd = ((((s.setBoot (s.boot.active.set 0 t) none).setFld Fld.FW_STATUS_TRIAL 0 0).setFld Fld.FW_STATUS_ACTIVE 0 t).burnFor
      0 t).event .fwUpdated 0 0 (2 ^ 32 * s.norVersion t) := by
  simp only [State.fwTrialEnd, htrial, hshown, if_true]

theorem State.fwTrialEnd_shown {s : State} {t : Nat} (htrial : s.trial = some t) (ht : t < 2)
    (hshown : s.flag Fld.FW_STATUS_TRIAL 0 = true) :
    s.fwTrialEnd.trial = none ∧ s.fwTrialEnd.flag Fld.FW_STATUS_TRIAL 0 = false ∧ s.fwTrialEnd.fld Fld.FW_STATUS_ACTIVE 0 = t ∧
      s.fwTrialEnd.mem = s.mem := by
  have hburn (u : State) {f : Fld} (hf : f.reg = .fwStatus) :
      ((u.burnFor 0 t).event .fwUpdated 0 0 (2 ^ 32 * s.norVersion t)).fld f 0 = u.fld f 0 := by
    rw [(State.Sent.event ..).fld (by rw [hf]; decide), (u.burnFor_only 0 t).fld (by rw [hf]; decide)]
  rw [State.fwTrialEnd_ends htrial hshown]
  refine ⟨?_, ?_, ?_, ?_⟩
  · rw [(State.images_event ..).2, (State.burnFor_only ..).images.2.1]
    exact (s.boot_setBoot _ none).2
  · rw [State.flag_of_fld (hburn _ rfl), State.flag_of_fld (State.fld_setFld_apart _ (by decide) (by decide) ..)]
    exact State.flag_setFld_zero _ (by decide) ..
  · rw [hburn _ rfl, State.fld_setFld_same _ _ _ _ (by decide)]
    exact Nat.mod_eq_of_lt (by simpa [Fld.FW_STATUS_ACTIVE] using ht)
  · rw [State.mem_event, (State.burnFor_only ..).images.2.2, State.setBoot_eq]
    rfl

/-- Settles O18, event by event. -/
theorem firmwareEventsRun : Obligations.FirmwareEventsRun := by
  refine ⟨fun s k t hwaits htrial hquiet => ?_, fun s k hwaits hshown => ?_, fun s t htrial ht hshown => ?_, fun s addr => ?_,
    fun _ => rfl, fun _ => rfl, fun s hup => ?_⟩
  · refine congrArg Host.Outcome.next ?_
    simp only [State.fwSwitch, hwaits, htrial, hquiet, if_true]
  · have hends : s.fwSwitchTimeout = (s.setTrial none).refuse k .timeout := by
      simp only [State.fwSwitchTimeout, hwaits, hshown, Bool.false_eq_true, if_false]
    refine ⟨_, congrArg Host.Outcome.next hends, ?_, State.running_finish .., ?_⟩
    · rw [State.refuse, (State.images_finish ..).1, State.trial_setTrial]
    · rw [State.refuse, (State.images_finish ..).2, State.setTrial, State.setBoot_eq]
  · obtain ⟨hnone, hflag, hactive, hmem⟩ := State.fwTrialEnd_shown htrial ht hshown
    exact ⟨_, rfl, hnone, hflag, hactive, State.byte_of_mem hmem⟩
  · obtain ⟨hrunning, htrial, hmem⟩ := s.restartTollhouse_keeps addr
    refine ⟨_, rfl, hrunning, ?_, fun h => ?_, State.byte_of_mem (hmem.trans s.mem_trialRejected)⟩
    · rw [s.flag_restartTollhouse addr rfl (by decide) (by decide), s.trialRejected_flag]
    · obtain ⟨hnone, -, hback⟩ := State.trialRejected_trial h
      rw [htrial, s.flag_restartTollhouse addr rfl (by decide) (by decide)]
      exact ⟨hnone, hback⟩
  · have hkept := (State.OnlyRegs.refl [.serviceCtrl] s).setFld (f := Fld.SERVICE_CTRL_OPEN) (by decide) 0 0
    refine ⟨s.setFld Fld.SERVICE_CTRL_OPEN 0 0, congrArg Host.Outcome.next (if_pos hup), State.flag_setFld_zero _ (by decide) ..,
      fun r i hr => hkept.reg r i (by simpa using hr), fun _ => rfl⟩

end Sys2Proof.Machine
end

section
/-! PROOFS. The commands of logs, attestation, service access and firmware (R455, R495, R546-R550, R554-R557). -/
namespace Sys2Proof.Machine
open Sys2Proof

/-! READ_LOG and CORRELATE_TIME (R455, R495). -/

theorem State.length_freeBytes (n : Nat) (s : State) : (State.freeBytes n s).1.length = n := by
  induction n generalizing s with
  | zero => rfl
  | succ n ih => exact congrArg (· + 1) (ih _)

theorem State.mail_freeBytes (n : Nat) (s : State) : (State.freeBytes n s).2.mail = s.mail := by
  induction n generalizing s with
  | zero => rfl
  | succ n ih => exact ih _

/-- The bytes of a record take free choices and nothing else (R508). -/
theorem State.mail_recordBytes (s : State) (r : JRecord) : (s.recordBytes r).2.mail = s.mail := by
  unfold State.recordBytes
  cases r with
  | supplyReset boot => exact State.mail_freeBytes ..
  | keystone own n m a t b => exact State.mail_freeBytes ..
  | brace x => exact State.mail_freeBytes ..
  | _ => rfl

/-- The bytes of records in a row, with what is free in them. -/
def State.logBytes (s : State) (rs : List JRecord) : List Byte × State :=
  rs.foldl (fun acc r => (acc.1 ++ (acc.2.recordBytes r).1, (acc.2.recordBytes r).2)) ([], s)

theorem State.mail_logBytes (s : State) (rs : List JRecord) : (s.logBytes rs).2.mail = s.mail := by
  suffices ∀ acc : List Byte × State, (rs.foldl (fun acc r => (acc.1 ++ (acc.2.recordBytes r).1, (acc.2.recordBytes r).2)) acc).2.mail =
      acc.2.mail from this ([], s)
  induction rs with
  | nil => exact fun _ => rfl
  | cons r rs ih => exact fun acc => (ih _).trans (State.mail_recordBytes ..)

/-- A command whose write to its buffer had no error is complete with its result (R442, R455). -/
theorem State.replied_finishBuffer {s : State} {k : MailIx} {p : Packet} (h : (s.mailSlot k.val).running = some p) (a : Nat)
    (bs result : List Byte) : (s.finishBuffer k.val 0 a bs result).replied k .ok result := by
  rw [State.finishBuffer, if_pos rfl]
  exact State.replied_finish (s := s.bufferWrite a bs) h .ok 0 result

theorem runs_readLog {s : State} {k : MailIx} {p : Packet} (h : s.runsPacket k 0x0605 p) {rs : List JRecord}
    (hrs : rs = ((s.inArea (p.le 0 1)).reverse.drop (p.le 4 4)).take (p.le 16 4 / recordSize (p.le 0 1))) {status : Fin 4}
    (hstatus : rs ≠ [] → status = 0) :
    Runs (.readLog k status) s (fun u => u.replied k .ok (leBytes 4 rs.length ++ leBytes 4 (p.le 4 4 + rs.length))) := by
  have hread : s.readLog k status = if rs.isEmpty then s.finish k.val .ok 0 (leBytes 4 0 ++ leBytes 4 (p.le 4 4))
      else (s.logBytes rs).2.finishBuffer k.val status (p.le 8 8) (s.logBytes rs).1
        (leBytes 4 rs.length ++ leBytes 4 (p.le 4 4 + rs.length)) := by
    rw [State.readLog, State.onPacket_runs h, hrs]
    rfl
  refine ⟨_, congrArg Host.Outcome.next hread, ?_⟩
  cases rs with
  | nil => exact State.replied_finish h.running .ok 0 _
  | cons r rs =>
    obtain rfl := hstatus (List.cons_ne_nil _ _)
    refine State.replied_finishBuffer (p := p) ?_ ..
    rw [State.mailSlot, State.mail_logBytes]
    exact h.running

/-- The end of a command keeps every journal write that waits, and may add one (R463). -/
theorem State.journalWrites_finish (s : State) (k : Nat) (c : Cc) (detail : Nat) (result : List Byte) :
    s.journalWrites ⊆ (s.finish k c detail result).journalWrites := by
  have hreply (u : State) : (u.sendReply k).journalWrites = u.journalWrites := by
    unfold State.sendReply State.jwWrite
    split
    · split <;> rfl
    · rfl
  cases h : (s.mailSlot k).running with
  | none => simp only [State.finish, h, List.Subset.refl]
  | some p =>
    have hkept : (if c = .ok then (s.replyKept k p c detail result).sendReply k
        else ((s.replyKept k p c detail result).sendReply k).bump Fld.CMD_COUNT_REFUSED 0 1).journalWrites = s.journalWrites := by
      split <;> exact hreply (s.replyKept k p c detail result)
    have hevent (u : State) (n d : Nat) (hu : u.journalWrites = s.journalWrites) :
        s.journalWrites ⊆ (u.event .cmdDone 5 n d).journalWrites := by
      rw [State.journalWrites_event, hu]
      split
      · exact List.subset_append_left ..
      · exact List.Subset.refl _
    rw [State.finish, h]
    refine iteInduction (motive := fun u => s.journalWrites ⊆ State.journalWrites u) (fun _ => hevent _ _ _ hkept) (fun _ => ?_)
    exact hkept ▸ List.Subset.refl s.journalWrites

theorem runs_correlateTime {s : State} {k : MailIx} {p : Packet} (h : s.runsPacket k 0x0606 p) :
    Runs (.correlateTime k) s (fun u => u.replied k .ok (leBytes 8 p.time.toNat) ∧
      .time (BitVec.ofNat 64 (p.le 0 8)) p.time (s.fld Fld.BOOT_COUNT_COUNT 0) s.stepNo ∈ u.journalWrites) := by
  refine ⟨_, congrArg Host.Outcome.next (State.onPacket_runs h _), ?_, State.journalWrites_finish _ _ _ _ _ ?_⟩
  · exact State.replied_finish (s := s.journalise _) h.running .ok 0 _
  · exact List.mem_append_right _ (List.mem_singleton_self _)

/-! ATTEST (R555). -/

theorem runs_attest {s : State} {k : MailIx} {p : Packet} (h : s.runsPacket k 0x0701 p) (status : Fin 4) {report : List Byte}
    (hreport : report = s.reportBody (p.params.take 32) ++ identitySign (s.reportBody (p.params.take 32))) :
    (p.le 40 4 < report.length → Runs (.attest k status) s (fun u => u.replied k .badParam (leBytes 4 report.length))) ∧
    (report.length ≤ p.le 40 4 → status = 0 → Runs (.attest k status) s (fun u => u.replied k .ok (leBytes 4 report.length))) := by
  have hattest : s.attest k status = if p.le 40 4 < report.length then s.finish k.val .badParam 0 (leBytes 4 report.length)
      else s.finishBuffer k.val status (p.le 32 8) report (leBytes 4 report.length) := by
    rw [State.attest, State.onPacket_runs h, hreport]
  refine ⟨fun hsmall => ⟨_, congrArg Host.Outcome.next (hattest.trans (if_pos hsmall)), State.replied_finish h.running ..⟩,
    fun hroom hstatus => ⟨_, congrArg Host.Outcome.next (hattest.trans (if_neg (by omega))), ?_⟩⟩
  rw [hstatus]
  exact State.replied_finishBuffer h.running ..

/-! UNLOCK_SERVICE (R556, R557). -/

theorem State.onUnlock_runs {s : State} {k : MailIx} {p : Packet} (h : s.runsPacket k 0x0702 p) {method : Nat}
    (hmethod : p.le 0 1 = method) (f : Packet → State) : s.onUnlock k method f = f p := by
  rw [State.onUnlock, State.onPacket_runs h, if_pos hmethod]

/-- The end of a command leaves what the unlocks keep. -/
structure State.AccessKept (s u : State) : Prop where
  opened : u.opened = s.opened
  challenge : u.challenge = s.challenge
  authFails : u.authFails = s.authFails
  authBarred : u.authBarred = s.authBarred
  serviceCtrl : u.reg .serviceCtrl 0 = s.reg .serviceCtrl 0

theorem State.accessKept_finish {s : State} {k : Nat} {p : Packet} (h : (s.mailSlot k).running = some p) (c : Cc) (detail : Nat)
    (result : List Byte) : s.AccessKept (s.finish k c detail result) := by
  have hsent := State.sent_finish h c detail result
  rw [hsent.eq]
  refine ⟨rfl, rfl, rfl, rfl, (hsent.reg .serviceCtrl 0 (by decide) (by decide)).trans ?_⟩
  exact (State.reg_setFld ..).trans (if_neg (by decide))

/-- Service access is open, and its failures are cleared (R553, R557). -/
theorem State.openService_opens (s : State) (method : Nat) :
    (s.openService method).flag Fld.SERVICE_CTRL_OPEN 0 = true ∧ (s.openService method).opened = true ∧
      (s.openService method).authFails = 0 ∧ (s.openService method).challenge = s.challenge ∧ (s.openService method).mail = s.mail := by
  let t : State := ({ s with opened := true }.setFld Fld.SERVICE_CTRL_OPEN 0 1).setFails 0
  have hextended : t.OnlyRegs [.mr] (s.openService method) := (OnlyRegs.refl ..).extendMr (by decide) ..
  refine ⟨?_, ?_⟩
  · have hfails (u : State) : (u.setFails 0).flag Fld.SERVICE_CTRL_OPEN 0 = u.flag Fld.SERVICE_CTRL_OPEN 0 :=
      State.flag_of_fld (State.fld_setFld_apart { u with authFails := 0 } (by decide) (by decide) ..)
    rw [hextended.flag (by decide), hfails]
    exact State.flag_setFld_one { s with opened := true } (by decide) (by decide) ..
  · rw [hextended.eq]
    exact ⟨rfl, rfl, rfl, rfl⟩

theorem State.AccessKept.open {s u : State} (h : s.AccessKept u) : u.flag Fld.SERVICE_CTRL_OPEN 0 = s.flag Fld.SERVICE_CTRL_OPEN 0 :=
  State.flag_of_fld (congrArg Fld.SERVICE_CTRL_OPEN.ofWord h.serviceCtrl)

/-- An unlock whose check passes opens service access and clears the failures (R557). -/
theorem State.tryUnlock_passes {s : State} {k : MailIx} {p : Packet} (h : (s.mailSlot k.val).running = some p)
    (hbarred : s.authBarred = false) (method : Nat) :
    (s.tryUnlock k method true).flag Fld.SERVICE_CTRL_OPEN 0 = true ∧ (s.tryUnlock k method true).opened = true ∧
      (s.tryUnlock k method true).challenge = none ∧ (s.tryUnlock k method true).authFails = 0 ∧
      (s.tryUnlock k method true).replied k .ok [] := by
  have hpass : s.tryUnlock k method true = ({ s with challenge := none }.openService method).finish k.val .ok 0 [] := by
    rw [State.tryUnlock, if_neg (by simp [hbarred]), if_pos rfl]
  obtain ⟨hopen, hopened, hfails, hchallenge, hmail⟩ := { s with challenge := none }.openService_opens method
  have hrunning : (({ s with challenge := none }.openService method).mailSlot k.val).running = some p := by
    rw [State.mailSlot, hmail]
    exact h
  have hkept := State.accessKept_finish hrunning .ok 0 []
  rw [hpass]
  exact ⟨hkept.open.trans hopen, hkept.opened.trans hopened, hkept.challenge.trans hchallenge, hkept.authFails.trans hfails,
    State.replied_finish hrunning .ok 0 []⟩

/-- One whose check fails is counted, and the fifth in succession bars the methods (R557). -/
theorem State.tryUnlock_fails {s : State} {k : MailIx} {p : Packet} (h : (s.mailSlot k.val).running = some p)
    (hbarred : s.authBarred = false) (method : Nat) :
    (s.tryUnlock k method false).reg .serviceCtrl 0 =
        Fld.SERVICE_CTRL_FAILS.place (s.reg .serviceCtrl 0) (min (s.authFails + 1) 7) ∧
      (s.tryUnlock k method false).opened = s.opened ∧ (s.tryUnlock k method false).challenge = none ∧
      (s.tryUnlock k method false).authFails = s.authFails + 1 ∧
      ((s.tryUnlock k method false).authBarred = true ↔ 5 ≤ s.authFails + 1) ∧
      (s.tryUnlock k method false).replied k .authFail [] := by
  let t : State := { s with challenge := none, authBarred := 5 ≤ s.authFails + 1 }.setFails (s.authFails + 1)
  have hfail : s.tryUnlock k method false = t.finish k.val .authFail 0 [] := by
    rw [State.tryUnlock, if_neg (by simp [hbarred]), if_neg Bool.false_ne_true]
    rfl
  have hrunning : (t.mailSlot k.val).running = some p := h
  have hkept := State.accessKept_finish hrunning .authFail 0 []
  rw [hfail]
  refine ⟨hkept.serviceCtrl.trans (State.reg_setReg_same ..), hkept.opened, hkept.challenge, hkept.authFails, ?_,
    State.replied_finish hrunning .authFail 0 []⟩
  rw [hkept.authBarred]
  exact decide_eq_true_iff

/-- One of the wrong length ends the challenge and nothing more (R557). -/
theorem State.unlock_badLength {s : State} {k : MailIx} {p : Packet} (h : (s.mailSlot k.val).running = some p) :
    ({ s with challenge := none }.refuse k.val .badParam).challenge = none ∧
      ({ s with challenge := none }.refuse k.val .badParam).opened = s.opened ∧
      ({ s with challenge := none }.refuse k.val .badParam).authFails = s.authFails ∧
      ({ s with challenge := none }.refuse k.val .badParam).replied k .badParam [] := by
  have hkept := State.accessKept_finish (s := { s with challenge := none }) h .badParam 0 []
  exact ⟨hkept.challenge, hkept.opened, hkept.authFails, State.replied_finish (s := { s with challenge := none }) h .badParam 0 []⟩

/-- A password of 1 to 64 bytes is checked against the last bank (R557). -/
theorem State.unlockPassword_checks {s : State} {k : MailIx} {p : Packet} (h : s.runsPacket k 0x0702 p) (hmethod : p.le 0 1 = 1)
    (hsome : 0 < p.le 4 4) (hlength : p.le 4 4 ≤ 64) {b : List Byte} (hbank : s.passwords.getLast? = some b) :
    s.unlockPassword k = s.tryUnlock k 1 (sha384 (b.take 16 ++ (p.params.drop 8).take (p.le 4 4)) = b.drop 16) := by
  rw [State.unlockPassword, State.onUnlock_runs h hmethod]
  dsimp only
  rw [hbank, if_neg (by simp; omega)]

/-- A response of the right length is checked under the last debug key (R557). -/
theorem State.unlockSigned_checks {s : State} {k : MailIx} {p : Packet} (h : s.runsPacket k 0x0702 p) (hmethod : p.le 0 1 = 3)
    (hlength : p.le 4 4 = 192) {d c : List Byte} (hkey : s.debugKeys.getLast? = some d) (hchallenge : s.challenge = some c) :
    s.unlockSigned k = s.tryUnlock k 3 (sha384 ((p.params.drop 8).take 96) = d &&
      ecdsaVerify ((p.params.drop 8).take 96) (c ++ s.nonceBytes) ((p.params.drop 104).take 96)) := by
  rw [State.unlockSigned, State.onUnlock_runs h hmethod]
  dsimp only
  rw [hkey, hchallenge, if_neg (by simp [hlength])]

theorem runs_unlockChallenge {s : State} {k : MailIx} {p : Packet} (h : s.runsPacket k 0x0702 p) (hmethod : p.le 0 1 = 2)
    (hlength : p.le 4 4 = 0) :
    Runs (.unlockChallenge k) s (fun u => ∃ c, c.length = 32 ∧ u.challenge = some c ∧ u.replied k .ok c) := by
  let v : State := { (State.freeBytes 32 s).2 with challenge := some (State.freeBytes 32 s).1 }
  have hrunning : (v.mailSlot k.val).running = some p := by
    have hmail : v.mail = s.mail := State.mail_freeBytes 32 s
    rw [State.mailSlot, hmail]
    exact h.running
  have hunlock : s.unlockChallenge k = v.finish k.val .ok 0 (State.freeBytes 32 s).1 := by
    rw [State.unlockChallenge, State.onUnlock_runs h hmethod, if_neg (by simp [hlength])]
  exact ⟨_, congrArg Host.Outcome.next hunlock, _, State.length_freeBytes 32 s, (State.accessKept_finish hrunning ..).challenge,
    State.replied_finish hrunning ..⟩

theorem runs_unlockBadLength {s : State} {k : MailIx} {p : Packet} (h : s.runsPacket k 0x0702 p) {i : Instr}
    (hi : (p.le 0 1 = 1 ∧ 64 < p.le 4 4 ∧ i = .unlockPassword k) ∨ (p.le 0 1 = 2 ∧ p.le 4 4 ≠ 0 ∧ i = .unlockChallenge k) ∨
      (p.le 0 1 = 3 ∧ p.le 4 4 ≠ 192 ∧ i = .unlockSignedResponse k)) :
    Runs i s (fun u => u.challenge = none ∧ u.opened = s.opened ∧ u.authFails = s.authFails ∧ u.replied k .badParam []) := by
  refine ⟨{ s with challenge := none }.refuse k.val .badParam, ?_, State.unlock_badLength h.running⟩
  obtain ⟨hmethod, hlength, rfl⟩ | ⟨hmethod, hlength, rfl⟩ | ⟨hmethod, hlength, rfl⟩ := hi
  · refine congrArg Host.Outcome.next ?_
    rw [State.unlockPassword, State.onUnlock_runs h hmethod]
    exact if_pos (by simp [hlength])
  · refine congrArg Host.Outcome.next ?_
    rw [State.unlockChallenge, State.onUnlock_runs h hmethod]
    exact if_pos (by simp [hlength])
  · refine congrArg Host.Outcome.next ?_
    rw [State.unlockSigned, State.onUnlock_runs h hmethod]
    exact if_pos (by simp [hlength])

/-! UPDATE_FIRMWARE (R546, R549, R550). -/

/-- An image that is read whole and passes the checks is given to the update of its target (R546). -/
theorem State.onFirmware_passes {s : State} {k : MailIx} {p : Packet} (h : s.runsPacket k 0x0604 p)
    (hvalid : (s.object (p.le 4 4)).valid = true) {t : Nat} (htarget : p.le 0 1 = t)
    (hready : s.readWaits (p.le 4 4) 0 (s.firmwareLength t (p.le 4 4)) = false) {x : Bool × State}
    (hx : x = s.readObject (p.le 4 4) 0 (s.firmwareLength t (p.le 4 4))) (hclean : x.1 = false)
    (hpasses : x.2.firmwareFault t t (s.object (p.le 4 4)).size (x.2.firmwareBytes t (p.le 4 4)) = none)
    (f : State → Packet → List Byte → State) : s.onFirmware k t f = f x.2 p (x.2.firmwareBytes t (p.le 4 4)) := by
  rw [State.onFirmware, State.onPacket_runs h]
  dsimp only
  rw [if_neg (by simp [h.begun, htarget]), if_neg (by simp [hvalid]), if_neg (by simp [hready]), ← hx, hpasses]
  exact if_neg (by simp [hclean])

theorem find?_ins {α : Type} (m : NMap α) (k : Nat) (v : α) : (m.ins k v).find? (fun e => e.1 = k) = some (k, v) := by
  induction m with
  | nil => simp [NMap.ins]
  | cons e m ih =>
    obtain ⟨j, w⟩ := e
    simp only [NMap.ins]
    split
    · simp
    · split
      · simp
      · next h => simp [h, ih]

/-- What a NOR slot holds after a write to it (R547). -/
theorem State.norImage_writeNor (s : State) (slot : Nat) (bs : List Byte) : (s.writeNor slot bs).norImage slot = some bs :=
  congrArg (Option.map Prod.snd) (find?_ins s.nor slot bs)

/-- The tollhouse's new image is in the slot that is not active, and named as the trial image (R547, R549). -/
theorem State.setTrial_writeNor (s : State) (slot : Nat) (bs : List Byte) :
    ((s.writeNor slot bs).setTrial (some slot)).trial = some slot ∧
      ((s.writeNor slot bs).setTrial (some slot)).norImage slot = some bs ∧
      ((s.writeNor slot bs).setTrial (some slot)).mem = s.mem := by
  refine ⟨State.trial_setTrial .., ?_⟩
  rw [State.setTrial, State.setBoot_eq]
  exact ⟨State.norImage_writeNor .., rfl⟩

/-- Settles O17, command by command. -/
theorem serviceCommandsRun : Obligations.ServiceCommandsRun := by
  refine fun s k p => ⟨fun status h => runs_readLog h rfl, runs_correlateTime, fun status h => runs_attest h status rfl,
    fun b h hmethod hsome hlength hbarred hbank hpass => ?_, fun b h hmethod hsome hlength hbarred hbank hfail => ?_,
    runs_unlockChallenge, fun i h hi => runs_unlockBadLength h hi,
    fun d c h hmethod hlength hbarred hkey hchallenge hhash hsigned => ?_, fun h hvalid t htarget hready => ?_⟩
  · refine ⟨_, congrArg Host.Outcome.next (State.unlockPassword_checks h hmethod hsome hlength hbank), ?_⟩
    rw [decide_eq_true hpass]
    exact State.tryUnlock_passes h.running hbarred 1
  · refine ⟨_, congrArg Host.Outcome.next (State.unlockPassword_checks h hmethod hsome hlength hbank), ?_⟩
    rw [decide_eq_false hfail]
    exact State.tryUnlock_fails h.running hbarred 1
  · refine ⟨_, congrArg Host.Outcome.next (State.unlockSigned_checks h hmethod hlength hkey hchallenge), ?_⟩
    rw [decide_eq_true hhash, hsigned]
    exact State.tryUnlock_passes h.running hbarred 3
  · intro x v bs hclean hpasses
    have hupdate := State.onFirmware_passes h hvalid htarget hready (x := x) rfl hclean hpasses
    refine ⟨fun ht => ?_, fun ht => ?_, fun ht => ?_⟩
    · subst ht
      obtain ⟨htrial, himage, hmem⟩ := (v.beginPacket k.val).setTrial_writeNor (otherImage (v.fld Fld.FW_STATUS_ACTIVE 0)) bs
      exact ⟨_, congrArg Host.Outcome.next (hupdate _), htrial, himage, State.byte_of_mem hmem⟩
    · subst ht
      exact congrArg Host.Outcome.next (hupdate _)
    · subst ht
      exact congrArg Host.Outcome.next (hupdate _)

end Sys2Proof.Machine
end

section
/-! PROOFS. The sideband (R547, R556, R570, R571). -/
namespace Sys2Proof.Machine
open Sys2Proof

/-- While the registers are up the tollhouse or its boot ROM takes a transfer (R571). -/
theorem State.onSideband_up {s : State} (hup : s.regsUp = true) (f : State → State) : s.onSideband f = f s := by
  unfold State.onSideband
  split
  · next h => simp [State.regsUp, State.tollUp, h] at hup
  · next h => simp [State.regsUp, State.tollUp, h] at hup
  · rfl

/-- While the module is in reset a transfer is answered as busy (R571). -/
theorem State.onSideband_reset {s : State} {c : Nat} {held : Bool} (h : s.phase = .reset c held) (f : State → State) :
    s.onSideband f = s.send (.sbReply 2 []) := by
  simp only [State.onSideband, h]
  rfl

/-- The lengths that an image transfer may have (R571). -/
theorem imageLength_taken {n : Nat} (hsome : 1 ≤ n) (hlength : n ≤ 240) : ¬ (n = 0 || 240 < n) = true := by
  rw [Bool.or_eq_true, decide_eq_true_eq, decide_eq_true_eq]
  omega

/-- A command byte that is no register or image transfer, in a module with power (R556, R571). -/
theorem execSbServiceOp_powered {s : State} (h : s.phase ≠ .off) (op : Byte) : exec (.sbServiceOp op) s =
    if op.toNat / 16 = 1 && s.flag Fld.SERVICE_CTRL_OPEN 0 then .refused .serviceOperation else .next (s.send .sbNack) := by
  change execSbServiceOp op s = _
  unfold execSbServiceOp
  split
  · next hoff => exact absurd hoff h
  · rfl

/-- Bytes written over what a NOR slot holds, from a place within it (R547, R571). -/
theorem State.patchNor_within {s : State} {slot off : Nat} {old : List Byte} (hold : s.norImage slot = some old)
    (hoff : off ≤ old.length) (bs : List Byte) :
    s.patchNor slot off bs = s.writeNor slot (old.take off ++ bs ++ old.drop (off + bs.length)) := by
  have hgap : off - old.length = 0 := by omega
  simp only [State.patchNor, hold, Option.getD_some, hgap, State.freeBytes, List.append_nil]

/-- A command byte other than 1, 2 and 3 spells a service operation (R571). -/
theorem sbCommand_service {op : Byte} (h : op.toNat = 0 ∨ 3 < op.toNat) (rest : List Byte) :
    sbCommand (op :: rest) = some (.sbServiceOp op) := by
  unfold sbCommand
  dsimp only
  split
  · omega
  · omega
  · omega
  · rfl

theorem sbCommand_regRead {addr : Nat} (h : addr < 2 ^ 48) : sbCommand (1 :: leBytes 6 addr) = some (.sbRegRead addr) := by
  have haddr : leNat ((leBytes 6 addr).take 6) = addr := by
    rw [List.take_of_length_le (Nat.le_of_eq (length_leBytes 6 addr)), leNat_leBytes]
    exact Nat.mod_eq_of_lt h
  change (if (leBytes 6 addr).length = 6 then some (Instr.sbRegRead (leNat ((leBytes 6 addr).take 6))) else none) = _
  rw [if_pos (length_leBytes 6 addr), haddr]

theorem sbCommand_regWrite {addr : Nat} (h : addr < 2 ^ 48) (v : Word) :
    sbCommand (2 :: (leBytes 6 addr ++ leBytes 8 v.toNat)) = some (.sbRegWrite addr v) := by
  have hlength := length_leBytes 6 addr
  have haddr : leNat ((leBytes 6 addr ++ leBytes 8 v.toNat).take 6) = addr := by
    rw [List.take_left' hlength, leNat_leBytes]
    exact Nat.mod_eq_of_lt h
  have hvalue : BitVec.ofNat 64 (leNat ((leBytes 6 addr ++ leBytes 8 v.toNat).drop 6)) = v := by
    rw [List.drop_left' hlength, leNat_leBytes]
    exact BitVec.eq_of_toNat_eq (by simpa using v.isLt)
  change (if (leBytes 6 addr ++ leBytes 8 v.toNat).length = 14 then
    some (Instr.sbRegWrite (leNat ((leBytes 6 addr ++ leBytes 8 v.toNat).take 6)) _) else none) = _
  rw [if_pos (by rw [List.length_append, hlength, length_leBytes]), haddr, hvalue]

/-- Settles O27, clause by clause. -/
theorem sidebandCommandsRun : Obligations.SidebandCommandsRun := by
  refine ⟨fun s a hup haddr => ?_, fun s a v hup haddr => ?_, fun s a v hup haddr => ⟨?_, ?_⟩,
    fun s off bs old hphase hnone hsome hlength hfits hold hoff => ?_, fun s off bs hup himage hsome hlength => ?_,
    fun s op hphase hclosed => ?_, fun s op hphase hopen hlo hhi => ?_, fun op rest hop => sbCommand_service hop rest,
    fun addr haddr => ⟨sbCommand_regRead haddr, sbCommand_regWrite haddr⟩, fun s a v bs c held hphase i hi => ?_,
    fun s a hphase => ?_, fun s => ⟨fun h => ?_, fun a h => ?_⟩⟩
  · exact congrArg Host.Outcome.next ((State.onSideband_up hup _).trans (if_pos haddr))
  · exact congrArg Host.Outcome.next ((State.onSideband_up hup _).trans (if_pos haddr))
  · exact congrArg Host.Outcome.next ((State.onSideband_up hup _).trans (if_neg (by simp [haddr])))
  · exact congrArg Host.Outcome.next ((State.onSideband_up hup _).trans (if_neg (by simp [haddr])))
  · have hup : s.regsUp = true := by simp [State.regsUp, hphase]
    have hwrite : s.sbImage off bs = (s.patchNor 0 off bs).sbAnswer 0 [] := by
      rw [State.sbImage, State.onSideband_up hup, if_neg (imageLength_taken hsome hlength), if_pos (by simp [hnone, hfits])]
    refine ⟨_, congrArg Host.Outcome.next hwrite, ?_⟩
    rw [State.patchNor_within hold hoff]
    exact ⟨State.norImage_writeNor .., rfl, rfl, rfl⟩
  · refine congrArg Host.Outcome.next ((State.onSideband_up hup _).trans ?_)
    rw [if_neg (imageLength_taken hsome hlength), if_neg (by simp [himage])]
    rfl
  · rw [execSbServiceOp_powered hphase]
    obtain hclosed | hlo | hhi := hclosed
    · exact if_neg (by simp [hclosed])
    · exact if_neg (by simp; omega)
    · exact if_neg (by simp; omega)
  · rw [execSbServiceOp_powered hphase]
    have hclass : op.toNat / 16 = 1 := by omega
    exact if_pos (by simp [hclass, hopen])
  · simp only [List.mem_cons, List.not_mem_nil, or_false] at hi
    obtain rfl | rfl | rfl := hi
    all_goals exact congrArg Host.Outcome.next (State.onSideband_reset hphase _)
  · refine congrArg Host.Outcome.next ?_
    split
    · next hoff => exact absurd hoff hphase
    · rfl
  · rw [State.sbTarget, h, Option.getD_none]
  · rw [State.sbTarget, h, Option.getD_some]

end Sys2Proof.Machine
end

section
/-! PROOFS. Fences, admission, self-tests and the resets of a part (R454, R519, R520, R524-R537). -/
namespace Sys2Proof.Machine
open Sys2Proof

/-- The end of a command leaves every other slot (R451). -/
theorem State.mailSlot_finish_other (s : State) {k j : Nat} (hj : j ≠ k) (c : Cc) (detail : Nat) (result : List Byte) :
    (s.finish k c detail result).mailSlot j = s.mailSlot j := by
  cases h : (s.mailSlot k).running with
  | none => simp only [State.finish, h]
  | some p =>
    rw [(State.sent_finish h c detail result).mailSlot, State.replyKept, State.mailSlot_setMail, if_neg hj]
    exact (State.mailSlot_setMail ..).trans (if_neg hj)

/-- A slot that runs no command has none to end. -/
theorem State.finish_idle {s : State} {k : Nat} (h : (s.mailSlot k).running = none) (c : Cc) (detail : Nat) (result : List Byte) :
    s.finish k c detail result = s := by
  simp only [State.finish, h]

theorem State.finish_tests (s : State) (k : Nat) (c : Cc) (detail : Nat) (result : List Byte) :
    (s.finish k c detail result).bist = s.bist ∧ (s.finish k c detail result).phase = s.phase := by
  cases h : (s.mailSlot k).running with
  | none => rw [State.finish_idle h]; exact ⟨rfl, rfl⟩
  | some p =>
    rw [(State.sent_finish h c detail result).eq]
    exact ⟨rfl, rfl⟩

/-! Fences (R534). -/

theorem State.fence_fences (s : State) (q : PierIx) : q ∈ (s.fence q).fenced ∧ q ∉ (s.fence q).admitted := by
  unfold State.fence
  rw [(State.Sent.event ..).eq]
  refine ⟨List.mem_append_right _ (List.mem_singleton_self q), fun h => ?_⟩
  have := (List.mem_filter.1 h).2
  simp at this

/-- A pier that is neither fenced nor failed is fenced without a spare in its place (R534). -/
theorem State.fencePier_fences {s : State} {k : MailIx} {p : Packet} (h : s.runsPacket k 0x0601 p) {q : PierIx}
    (hq : p.le 0 1 = q.val) (hreplace : p.le 1 1 = 0) (hfenced : q ∉ s.fenced) (hfailed : q ∉ s.failed) :
    s.fencePier k = ((s.beginPacket k.val).fence q).finish k.val .ok 0 [0xFF] := by
  rw [State.fencePier, State.onPacket_runs h]
  simp only [h.begun, hq, hreplace, q.isLt, dif_pos, Fin.eta, List.contains_eq_mem, hfenced, hfailed, decide_false, Bool.or_self,
    Bool.false_eq_true, if_false, Nat.zero_ne_one]

/-! Tests (R524, R532, R533). -/

theorem State.regrantAll_spans (s : State) : s.SpansOnly s.regrantAll := .foldl .regrant ..

/-- BIST_STATUS.RUNNING shows a test that runs (R542). -/
theorem State.countTests_running {s : State} (h : s.tests ≠ [] ∨ s.bist.isSome = true) :
    s.countTests.flag Fld.BIST_STATUS_RUNNING 0 = true := by
  have hruns : ¬ (s.tests.isEmpty && s.bist.isNone) = true := by
    rw [Bool.and_eq_true, List.isEmpty_iff, Option.isNone_iff_eq_none]
    rintro ⟨htests, hbist⟩
    simp [htests, hbist] at h
  rw [State.countTests, if_neg hruns]
  exact State.flag_setFld_one _ (by decide) (by decide) ..

theorem State.SpansOnly.flag {s u : State} (h : s.SpansOnly u) {f : Fld} (hf : f.reg ≠ .spanToken) (i : Nat) : u.flag f i = s.flag f i :=
  State.flag_of_fld (congrArg f.ofWord (h.reg f.reg i hf))

/-- A pier test that has begun runs (R532). -/
theorem State.startTest_runs (s : State) (t : PierTest) :
    t ∈ (s.startTest t).tests ∧ (s.startTest t).flag Fld.BIST_STATUS_RUNNING 0 = true := by
  let u : State := { s.leaveIdle with tests := s.tests ++ [t] }.setFld Fld.BIST_STATUS_SCOPE 0 2
  have hspans := State.SpansOnly.regrant u.countTests (spanOf t.pier)
  refine ⟨?_, ?_⟩
  · rw [State.startTest, hspans.eq]
    exact List.mem_append_right _ (List.mem_singleton_self t)
  · exact (hspans.flag (by decide) 0).trans (State.countTests_running (.inl (List.append_ne_nil_of_right_ne_nil _ (List.cons_ne_nil _ _))))

theorem State.testRuns_false {s : State} (h : s.testRuns = false) : s.tests = [] ∧ s.bist = none := by
  simpa [State.testRuns] using h

theorem State.admitPier_tests {s : State} {k : MailIx} {p : Packet} (h : s.runsPacket k 0x0602 p) {q : PierIx} (hq : p.le 0 1 = q.val)
    (hout : q ∉ s.admitted) (hroom : s.admitted.length < s.ceiling) (hcool : s.flag Fld.THERM_STATUS_TRIPPED 0 = false)
    (hidle : s.testRuns = false) : s.admitPier k = (s.beginPacket k.val).startTest ⟨q, .admission k.val⟩ := by
  rw [State.admitPier, State.onPacket_runs h]
  simp only [h.begun, hq, q.isLt, dif_pos, Fin.eta, List.contains_eq_mem, hout, hcool, hidle, Nat.not_le.2 hroom, decide_false,
    Bool.or_self, Bool.false_eq_true, if_false]

theorem State.bistPier_tests {s : State} {k : MailIx} {p : Packet} (h : s.runsPacket k 0x0603 p) (hscope : p.le 0 1 = 2) {q : PierIx}
    (hq : p.le 1 1 = q.val) (hout : q ∉ s.admitted) (hidle : s.testRuns = false) :
    s.bistPier k = (s.beginPacket k.val).startTest ⟨q, .bist k.val⟩ := by
  rw [State.bistPier, State.onPacket_runs h]
  simp only [h.begun, hscope, hq, q.isLt, dif_pos, Fin.eta, List.contains_eq_mem, hout, hidle, decide_false, bne_self_eq_false,
    Bool.or_self, Bool.false_eq_true, if_false]

/-- A pass whose every step keeps a part of the state keeps it. -/
theorem part_foldl {α β : Type} (part : State → β) {f : State → α → State} (hf : ∀ s x, part (f s x) = part s) (l : List α) (s : State) :
    part (l.foldl f s) = part s :=
  foldl_keeps (fun u => part u = part s) f (fun u x hu => (hf u x).trans hu) l s rfl

theorem State.bist_rebudget (s : State) : s.rebudget.bist = s.bist := by
  rw [s.spansOnly_rebudget.eq]
  rfl

theorem State.bist_unbindPier (s : State) (p : Nat) : (s.unbindPier p).bist = s.bist := by
  simp only [State.unbindPier, State.setFld_bist, State.setReg_bist]

theorem State.bist_unbind (s : State) : s.unbind.bist = s.bist := by
  simp only [State.unbind, State.bist_rebudget, State.setFld_bist, State.setReg_bist, part_foldl State.bist State.bist_unbindPier]

theorem State.bist_clearPiers (s : State) : s.clearPiers.bist = s.bist := by simp only [State.clearPiers, State.clearCompute]

theorem State.bist_leaveIdle (s : State) : s.leaveIdle.bist = s.bist := by
  unfold State.leaveIdle
  split <;> rfl

/-- A module or stack test that is noted runs with its scope, its target and the slot of its command, whatever may pause it (R537). -/
theorem State.bist_shown {s : State} {t : ModTest} (h : s.bist = some t) :
    (∃ paused ticks, s.countTests.regrantAll.pauseBist.bist = some { t with paused := paused, ticks := ticks }) ∧
      s.countTests.regrantAll.pauseBist.flag Fld.BIST_STATUS_RUNNING 0 = true := by
  have hspans := State.regrantAll_spans s.countTests
  have hbist : s.countTests.regrantAll.bist = some t := by rw [hspans.eq]; exact h
  have hpause (u : State) : u.pauseBist.flag Fld.BIST_STATUS_RUNNING 0 = u.flag Fld.BIST_STATUS_RUNNING 0 := rfl
  refine ⟨?_, (hpause _).trans ((hspans.flag (by decide) 0).trans (State.countTests_running (.inr (by rw [h]; rfl))))⟩
  rw [State.pauseBist, hbist]
  exact ⟨_, _, rfl⟩

/-- The state whose test has been noted, before BIST_STATUS and the tokens follow it (R524). -/
theorem State.startBist_noted (s : State) (t : ModTest) :
    ∃ u : State, u.bist = some t ∧ s.startBist t = u.countTests.regrantAll.pauseBist := by
  unfold State.startBist
  refine ⟨_, ?_, rfl⟩
  rw [State.setFld_bist]
  split
  · simp only [State.setFld_bist, State.bist_clearPiers, State.bist_unbind, State.bist_leaveIdle]
  · exact State.bist_leaveIdle { s with bist := some t, tests := [] }

/-- What a command to run a module or stack test shows once it has begun (R524, R542). -/
theorem State.startBist_shown (s : State) (t : ModTest) :
    ((s.startBist t).bist.map ModTest.scope) = some t.scope ∧ ((s.startBist t).bist.map ModTest.slot) = some t.slot ∧
      ((s.startBist t).bist.map ModTest.target) = some t.target ∧ (s.startBist t).flag Fld.BIST_STATUS_RUNNING 0 = true := by
  obtain ⟨u, hu, hstart⟩ := s.startBist_noted t
  obtain ⟨⟨paused, ticks, hbist⟩, hrunning⟩ := State.bist_shown hu
  rw [hstart]
  rw [hbist]
  exact ⟨rfl, rfl, rfl, hrunning⟩

theorem State.bistModule_tests {s : State} {k : MailIx} {p : Packet} (h : s.runsPacket k 0x0603 p) (hout : s.inProgram = false)
    (hidle : s.testRuns = false) (hbudget : 2350 ≤ s.fld Fld.TOKEN_STATUS_BUDGET_W 0) {scope : Nat} (hscope : p.le 0 1 = scope) :
    s.bistModule k scope = (s.beginPacket k.val).startBist ⟨scope, 0, k.val, false, 0⟩ := by
  rw [State.bistModule, State.onPacket_runs h, if_neg (by simp [h.begun, hscope]), if_neg (by simp [hidle]), if_neg (by simp [hout]; omega)]

theorem State.bistStack_tests {s : State} {k : MailIx} {p : Packet} (h : s.runsPacket k 0x0603 p) (hscope : p.le 0 1 = 3)
    (hlaunched : s.launched = false) (hidle : s.testRuns = false) :
    s.bistStack k = (s.beginPacket k.val).startBist ⟨3, p.le 1 1, k.val, false, 0⟩ := by
  rw [State.bistStack, State.onPacket_runs h, if_neg (by simp [h.begun, hscope]), if_neg (by simp [hidle]), if_neg (by simp [hlaunched])]

/-! The end of a test (R531, R535-R537). -/

theorem State.bist_closeBist (s : State) (vcore mode : Nat) : (s.closeBist vcore mode).bist = none := by
  rw [State.closeBist, (State.regrantAll_spans _).eq]
  rfl

theorem State.bist_noteResult (s : State) (code repairs ms : Nat) : (s.noteResult code repairs ms).bist = s.bist := by
  unfold State.noteResult
  dsimp only
  split <;> rfl

theorem State.bistDone_ends {s : State} (r : BistResult) {t : ModTest} (h : s.bist = some t) (hruns : t.paused = false) :
    (s.bistDone r).bist = none ∧ ((s.bistDone r).mailSlot t.slot).running = none := by
  have hends (u : State) (vcore mode code repairs ms : Nat) (c : Cc) (result : List Byte) :
      (((u.closeBist vcore mode).noteResult code repairs ms).finish t.slot c 0 result).bist = none := by
    rw [(State.finish_tests ..).1, State.bist_noteResult, State.bist_closeBist]
  simp only [State.bistDone, h, hruns, Bool.false_eq_true, if_false]
  split
  · exact ⟨hends .., State.running_finish ..⟩
  · exact ⟨hends .., State.running_finish ..⟩

theorem State.pierTestDone_ends {s : State} {q : PierIx} {t : PierTest} (h : s.tests.find? (fun t => t.pier = q) = some t)
    (r : PierResult) (ms : Nat) : s.pierTestDone q r ms =
      ((((s.dropTest q).repairPier q { s.judge q r with loopback := (s.judge q r).loopback && !s.pathCrosses q }).noteResult
        (s.judge q r).code.val (s.pierRepairs q (s.judge q r)) ms).endTest t (s.judge q r).code.val
        (s.pierRepairs q (s.judge q r)) ms) := by
  simp only [State.pierTestDone, h]

/-! The resets of a part, and a warm reset (R454, R519, R520). -/

theorem State.resetPier_resets {s : State} {k : MailIx} {p : Packet} (h : s.runsPacket k 0x0801 p) (hkind : p.le 0 1 = 1) {q : PierIx}
    (hq : p.le 1 1 = q.val) (hidle : ∀ x ∈ s.tests, x.pier ≠ q) :
    s.resetPier k = { (s.loseBound q).resetCompute q with challenge := none }.finish k.val .ok 0 [] := by
  have hnone : s.tests.find? (fun t => t.pier = q) = none := List.find?_eq_none.2 (fun x hx => by simpa using hidle x hx)
  rw [State.resetPier, State.onPacket_runs h]
  simp only [hkind, hq, q.isLt, dif_pos, Fin.eta, bne_self_eq_false, Bool.false_eq_true, if_false, hnone]

theorem State.resetLink_resets {s : State} {k : MailIx} {p : Packet} (h : s.runsPacket k 0x0801 p) (hkind : p.le 0 1 = 2)
    (hport : p.le 1 1 ≤ 11) : s.resetLink k =
      ((((s.portCommands (p.le 1 1)).foldl (fun (s : State) j => s.refuse j .aborted) { s with
        challenge := none
        probes := s.probes.filter (fun e => !(s.portCommands (p.le 1 1)).contains e.2.1) }).onPort
          (fun s => s.toDetect (p.le 1 1))).finish k.val .ok 0 []) := by
  rw [State.resetLink, State.onPacket_runs h]
  dsimp only
  rw [if_neg (by simp [hkind]), if_neg (by omega)]

/-- Ending the commands of other slots leaves a slot that runs none, and the phase. -/
theorem State.refuseAll_keeps {s : State} {k : Nat} (hk : (s.mailSlot k).running = none) (es : List (Nat × Packet)) :
    (es.foldl (fun s e => s.refuse e.1 .aborted) s).mailSlot k = s.mailSlot k ∧
      (es.foldl (fun s e => s.refuse e.1 .aborted) s).phase = s.phase := by
  refine foldl_keeps (fun u => u.mailSlot k = s.mailSlot k ∧ u.phase = s.phase) _ (fun u e hu => ?_) es s ⟨rfl, rfl⟩
  obtain ⟨hslot, hphase⟩ := hu
  refine ⟨?_, (State.finish_tests ..).2.trans hphase⟩
  by_cases he : e.1 = k
  · rw [State.refuse, State.finish_idle (by rw [he, hslot]; exact hk), hslot]
  · exact (State.mailSlot_finish_other u (Ne.symm he) ..).trans hslot

theorem runs_resetWarm {s : State} {k : MailIx} {p : Packet} (h : s.runsPacket k 0x0801 p) (hkind : p.le 0 1 = 0) (b : TollBoot) :
    Runs (.resetWarm k b) s (fun u => u.replied k .ok [] ∧
      u.warmReset = some ⟨b, s.runningSlots.map Prod.fst, none⟩ ∧ u.phase = s.phase) := by
  let v : State := s.finish k.val .ok 0 []
  obtain ⟨hslot, hphase⟩ := State.refuseAll_keeps (s := v) (State.running_finish ..) v.runningSlots
  refine ⟨_, congrArg Host.Outcome.next ((State.onPacket_runs h _).trans (if_neg (by simp [hkind]))), ?_, rfl,
    hphase.trans (State.finish_tests ..).2⟩
  have hreplied := State.replied_finish h.running .ok 0 []
  rw [State.replied, ← hslot] at hreplied
  exact hreplied

/-- Settles O20, command by command. -/
theorem testCommandsRun : Obligations.TestCommandsRun := by
  refine fun s k p => ⟨fun q h hq hreplace hfenced hfailed => ?_, fun q h hq hout hroom hcool hidle => ?_,
    fun q h hscope hq hout hidle => ?_, fun h hout hidle hbudget => ⟨fun hscope => ?_, fun hscope => ?_⟩,
    fun h hscope hlaunched hidle => ?_, fun r t h hruns => ⟨_, rfl, State.bistDone_ends r h hruns⟩, fun q r ms t h => ?_,
    fun q h hkind hq hidle => congrArg Host.Outcome.next (State.resetPier_resets h hkind hq hidle),
    fun h hkind hport => congrArg Host.Outcome.next (State.resetLink_resets h hkind hport), fun b h hkind => runs_resetWarm h hkind b⟩
  · exact ⟨congrArg Host.Outcome.next (State.fencePier_fences h hq hreplace hfenced hfailed), State.fence_fences ..⟩
  · exact ⟨_, congrArg Host.Outcome.next (State.admitPier_tests h hq hout hroom hcool hidle), State.startTest_runs ..⟩
  · exact ⟨_, congrArg Host.Outcome.next (State.bistPier_tests h hscope hq hout hidle), State.startTest_runs ..⟩
  · obtain ⟨hscopes, hslot, -, hrunning⟩ := (s.beginPacket k.val).startBist_shown ⟨0, 0, k.val, false, 0⟩
    exact ⟨_, congrArg Host.Outcome.next (State.bistModule_tests h hout hidle hbudget hscope), hscopes, hslot, hrunning⟩
  · obtain ⟨hscopes, hslot, -, hrunning⟩ := (s.beginPacket k.val).startBist_shown ⟨1, 0, k.val, false, 0⟩
    exact ⟨_, congrArg Host.Outcome.next (State.bistModule_tests h hout hidle hbudget hscope), hscopes, hslot, hrunning⟩
  · obtain ⟨hscopes, -, htarget, hrunning⟩ := (s.beginPacket k.val).startBist_shown ⟨3, p.le 1 1, k.val, false, 0⟩
    exact ⟨_, congrArg Host.Outcome.next (State.bistStack_tests h hscope hlaunched hidle), htarget, hscopes, hrunning⟩
  · exact congrArg Host.Outcome.next (State.pierTestDone_ends h r ms)

end Sys2Proof.Machine
end

section
/-! PROOFS. What every reset keeps of the fuses and the NOR device, and the boot at power-on (R500, R515-R518, R547, R548). -/
namespace Sys2Proof.Machine
open Sys2Proof

/-- A pass that leaves each entry of a key as it is, and gives no other entry that key, leaves what the key reads as. -/
theorem NMap.look_filterMap {α : Type} (d : Nat → α) (m : NMap α) {f : Nat × α → Option (Nat × α)} {k : Nat}
    (hkey : ∀ e, e.1 = k → f e = some e) (hother : ∀ e x, f e = some x → x.1 = e.1) :
    NMap.look d (m.filterMap f) k = NMap.look d m k := by
  induction m with
  | nil => rfl
  | cons e m ih =>
    by_cases he : e.1 = k
    · rw [List.filterMap_cons_some (hkey e he)]
      simp only [NMap.look, he, if_true]
    · have hskip : NMap.look d (e :: m) k = NMap.look d m k := if_neg he
      rw [hskip, ← ih]
      cases hx : f e with
      | none => rw [List.filterMap_cons_none hx]
      | some x =>
        rw [List.filterMap_cons_some hx]
        exact if_neg (by rw [hother e x hx]; exact he)

theorem clearSpares_key {f : Nat → Bool} {e x : Nat × Word} (h : clearSpares f e = some x) : x.1 = e.1 := by
  simp only [clearSpares] at h
  split at h
  · split at h
    · exact absurd h (Option.some_ne_none x).symm
    · rw [← Option.some.inj h]
  · rw [← Option.some.inj h]

theorem dropSoftUnits_key {e x : Nat × Word} (h : dropSoftUnits e = some x) : x.1 = e.1 := by
  simp only [dropSoftUnits] at h
  split at h
  · split at h
    · exact absurd h (Option.some_ne_none x).symm
    · rw [← Option.some.inj h]
  · rw [← Option.some.inj h]

/-- The parts that no reset touches: the NOR device, REFCLK and the owner's fuse banks (R521, R547, R558). -/
def State.lasting (s : State) : (NMap (List Byte) × List MadeImage × (BootRecord × BootRecord) × Bool) ×
    (NMap (List Byte) × List (List Byte) × List (List Byte)) :=
  ((s.nor, s.madeImages, s.bootRecords, s.refLost), (s.programKeys, s.passwords, s.debugKeys))

/-- `u` has the lasting parts of `s`, and its fuses that KEY_STATUS shows. -/
structure State.Lasts (s u : State) : Prop where
  parts : u.lasting = s.lasting
  keys : u.reg .keyStatus 0 = s.reg .keyStatus 0

theorem State.lasting_fresh (v : State) : v.fresh.2.lasting = v.lasting := rfl

namespace State.Lasts

theorem refl (s : State) : s.Lasts s := ⟨rfl, rfl⟩

theorem trans {s u w : State} (h : s.Lasts u) (k : u.Lasts w) : s.Lasts w := ⟨k.parts.trans h.parts, k.keys.trans h.keys⟩

section
variable {s u w : State} (h : s.Lasts u)
include h

/-- A change of parts that do not last. -/
theorem of_parts (hparts : w.lasting = u.lasting) (hregs : w.regs = u.regs) : s.Lasts w :=
  h.trans ⟨hparts, congrArg (fun m => NMap.look regDflt m (regKey .keyStatus 0)) hregs⟩

theorem setReg {r : RegName} (hr : r ≠ .keyStatus) (i : Nat) (v : Word) : s.Lasts (u.setReg r i v) :=
  h.trans ⟨rfl, State.reg_setReg_other _ _ (fun e => hr e.1.symm)⟩

theorem setFld {f : Fld} (hf : f.reg ≠ .keyStatus) (i v : Nat) : s.Lasts (u.setFld f i v) := h.setReg hf i _

theorem foldl {α : Type} {f : State → α → State} (hf : ∀ {w : State} x, s.Lasts w → s.Lasts (f w x)) (l : List α) :
    s.Lasts (l.foldl f u) :=
  foldl_keeps s.Lasts f (fun _ x => hf x) l u h

theorem foldlMem {α : Type} {f : State → α → State} {l : List α} (hf : ∀ {w : State}, ∀ x ∈ l, s.Lasts w → s.Lasts (f w x)) :
    s.Lasts (l.foldl f u) :=
  List.foldlRecOn l f h (fun _ hw x hx => hf x hx hw)

theorem of_spansOnly (k : u.SpansOnly w) : s.Lasts w :=
  h.trans ⟨by rw [k.eq]; rfl, k.reg _ _ (by decide)⟩

theorem regrantAll : s.Lasts u.regrantAll := h.of_spansOnly u.regrantAll_spans

theorem rebudget : s.Lasts u.rebudget := (h.setFld (by decide) ..).of_spansOnly u.spansOnly_rebudget

/-- Registers are dropped or changed that are not KEY_STATUS. -/
theorem filterRegs {f : Nat → Bool} (hf : f (regKey .keyStatus 0) = true) :
    s.Lasts { u with regs := u.regs.filter (fun e => f e.1) } :=
  h.trans ⟨rfl, NMap.look_filter regDflt u.regs f _ hf⟩

theorem unbindPier (p : Nat) : s.Lasts (u.unbindPier p) :=
  ((((h.setReg (by decide) ..).setFld (by decide) ..).setFld (by decide) ..).setFld (by decide) ..).setFld (by decide) ..

theorem dropBinding : s.Lasts { u with binding := [], unnumbered := [], held := [], flight := [], ring := [] } := h.of_parts rfl rfl

theorem unbind : s.Lasts u.unbind := by
  unfold State.unbind
  refine rebudget (dropBinding (setFld (setFld (setFld (setFld (setFld (setReg (setReg ?_ ?_ ..) ?_ ..) ?_ ..) ?_ ..) ?_ ..) ?_ ..) ?_ ..))
  · exact foldl h (fun p k => k.unbindPier p) _
  all_goals decide

theorem clearPiers : s.Lasts u.clearPiers := by
  refine h.trans ⟨rfl, (NMap.look_filterMap regDflt _ (fun e he => ?_) (fun e x hx => ?_)).trans
    (NMap.look_filter regDflt u.regs (fun k => !computeKey (fun _ => true) k) (regKey .keyStatus 0) (by decide))⟩
  · rw [clearSpares, he]
    rfl
  · exact clearSpares_key hx

theorem dropRegs {rs : List RegName} (hrs : RegName.keyStatus ∉ rs) : s.Lasts (u.dropRegs rs) := by
  refine h.filterRegs (f := fun k => !rs.any (fun r => r.ctorIdx = k % 256)) ?_
  have hidx : regKey .keyStatus 0 % 256 = RegName.keyStatus.ctorIdx := by decide
  simp only [hidx, Bool.not_eq_true', List.any_eq_false, decide_eq_true_eq]
  exact fun r hr heq => hrs (RegName.ctorIdx_inj heq ▸ hr)

theorem countHard : s.Lasts u.countHard := h.foldl (fun _ k => k.setFld (by decide) ..) _

theorem countBreaks : s.Lasts u.countBreaks := ((h.setFld (by decide) ..).setFld (by decide) ..).setFld (by decide) ..

theorem retoken : s.Lasts u.retoken := by
  refine regrantAll (setFld (setFld (setFld (of_parts (h.setReg (r := .tokenStatus) (by decide) 0 (regInit .tokenStatus 0)) ?_ ?_)
    (by decide) ..) (by decide) ..) (by decide) ..)
  · rfl
  · rfl

theorem loseFabric : s.Lasts u.loseFabric := by
  have hregs := (h.unbind.clearPiers).dropRegs (rs := fabricRegs) (by decide)
  unfold State.loseFabric
  generalize (u.unbind.clearPiers).dropRegs fabricRegs = v at hregs ⊢
  refine retoken (countBreaks (countHard (hregs.of_parts ?_ ?_)))
  · unfold State.lasting
    dsimp only
    exact State.lasting_fresh v
  · rfl

theorem resetRegs (cause : Nat) : s.Lasts (u.resetRegs cause) := by
  have hfilter := h.filterRegs (f := fun k => (keptRegs cause).any (fun r => r.ctorIdx = k % 256)) (by
    simp only [keptRegs, List.append_assoc, List.any_append]
    exact Bool.or_eq_true_iff.2 (.inl (by decide)))
  have hkept (f : Fld) (hf : f ∈ keptFlds cause) : f.reg ≠ .keyStatus := by
    have hnever : ∀ f ∈ [Fld.FW_STATUS_ACTIVE, Fld.SERVICE_CTRL_FAILS], f.reg ≠ .keyStatus := by decide
    have hlater : ∀ f ∈ [Fld.EVT_STATUS_NEXT_SEQ, Fld.SUPPLY_STATUS_V_MIN, Fld.SENSE_STATUS_RAW, Fld.SENSE_STATUS_FILT,
      Fld.TOKEN_STATUS_BRACE, Fld.POWER_STATUS_BRACE], f.reg ≠ .keyStatus := by decide
    have hwarm : ∀ f ∈ [Fld.TOKEN_STATUS_BUDGET_W], f.reg ≠ .keyStatus := by decide
    simp only [keptFlds, List.mem_append, List.mem_ite_nil_left, List.mem_ite_nil_right] at hf
    obtain (hf | hf) | hf := hf
    · exact hnever f hf
    · exact hlater f hf.2
    · exact hwarm f hf.2
  have hcleared : ∀ f ∈ [Fld.MAILBOX_CFG_ENABLE, Fld.CLK_STATUS_TEST_PERIOD, Fld.BIST_STATUS_RUNNING, Fld.BIST_STATUS_WAVE],
      f.reg ≠ .keyStatus := by decide
  exact foldlMem (foldlMem hfilter (fun f hf k => k.setFld (hkept f hf) ..)) (fun f hf k => k.setFld (hcleared f hf) ..)

/-- A record that takes effect again changes the pier map, the marks of a break or the soft repairs (R521, R530). -/
theorem replay (r : JRecord) : s.Lasts (u.replay r) := by
  unfold State.replay
  split
  · exact h.of_parts rfl rfl
  · exact h.setFld (by decide) ..
  · exact (h.setFld (by decide) ..).setFld (by decide) ..
  · split
    · exact h
    · exact h.of_parts rfl rfl
  · exact h.of_parts rfl rfl
  · exact h

theorem restoreJournal : s.Lasts u.restoreJournal := by
  have hsoft : s.Lasts { u with regs := u.regs.filterMap dropSoftUnits } := h.trans ⟨rfl,
    NMap.look_filterMap regDflt u.regs (fun e he => by rw [dropSoftUnits, he]; rfl) (fun e x hx => dropSoftUnits_key hx)⟩
  have hempty : s.Lasts { u with
      regs := u.regs.filterMap dropSoftUnits
      deckMap := u.deckMap.filter (fun e => e.2.2.2)
      admitted := []
      fenced := []
      failed := [] } := hsoft.of_parts rfl rfl
  exact countBreaks (of_parts (foldl hempty (fun r k => k.replay r) u.records.reverse) rfl rfl)

theorem resetTo (cause : Nat) : s.Lasts (u.resetTo cause) := by
  have hregs := h.loseFabric.resetRegs cause
  unfold State.resetTo
  generalize u.loseFabric.resetRegs cause = v at hregs ⊢
  refine retoken (countHard (restoreJournal (hregs.of_parts ?_ ?_)))
  · simp only [State.lasting]
  · rfl

end

end State.Lasts

/-! The boot at power-on (R500, R515, R516, R548). -/

theorem State.recovering_replay (s : State) (r : JRecord) : (s.replay r).recovering = s.recovering := by
  unfold State.replay
  split
  · rfl
  · rfl
  · rfl
  · split <;> rfl
  · rfl
  · rfl

theorem State.recovering_restoreJournal (s : State) : s.restoreJournal.recovering = s.recovering := by
  simp only [State.restoreJournal, State.countBreaks, State.setFld_recovering, part_foldl State.recovering State.recovering_replay]

theorem State.recovering_retoken (s : State) : s.retoken.recovering = s.recovering := by
  rw [State.retoken, (State.regrantAll_spans _).eq]
  rfl

theorem State.recovering_countHard (s : State) : s.countHard.recovering = s.recovering := by
  unfold State.countHard
  exact part_foldl State.recovering (fun _ _ => State.setFld_recovering ..) ..

/-- At power-on no recovery level has held yet (R500). -/
theorem State.recovering_resetTo (s : State) : (s.resetTo 0).recovering = false := by
  simp only [State.resetTo, State.recovering_retoken, State.recovering_countHard, State.recovering_restoreJournal, if_true]

/-- The state in which power has come, the module being in reset (R515). -/
def State.poweredOn : State := { State.reset.resetTo 0 with phase := .reset 0 false }

theorem State.poweredOn_waits : State.poweredOn.phase = .reset 0 false ∧ State.poweredOn.recovering = false := by
  simp only [State.poweredOn, State.recovering_resetTo, and_self]

theorem exec_powerOn_reset : exec .powerOn State.reset = .next State.poweredOn := by
  have hoff (s : State) (h : s.phase = .off) : s.powerOn = { s.resetTo 0 with phase := .reset 0 false } := by
    simp only [State.powerOn, h]
  exact congrArg Host.Outcome.next (hoff State.reset rfl)

/-- A module whose NOR device and fuses are as they were made (R547, R551). -/
def State.AsMade (s : State) : Prop := State.reset.Lasts s

/-- The boot records that a module is made with name image A of the tollhouse (R547). -/
theorem active_made : (bootInForce State.reset.bootRecords).active = [0, 0, 0] := by
  have hfirst : firstInForce State.reset.bootRecords = true := by
    have hrecords : State.reset.bootRecords = (makeBootRecord 1 [0, 0, 0] none, makeBootRecord 0 [0, 0, 0] none) := rfl
    have hnewer : (makeBootRecord 0 [0, 0, 0] none).seq < (makeBootRecord 1 [0, 0, 0] none).seq := Nat.zero_lt_one
    rw [hrecords, firstInForce, makeBootRecord_valid, makeBootRecord_valid, decide_eq_true hnewer]
    rfl
  rw [bootInForce, if_pos hfirst]
  rfl

/-- The images that a module is made with are loaded by the verdict of the boot ROM, the active one being image A (R548). -/
theorem State.AsMade.images {s : State} (h : s.AsMade) (made : List Bool) :
    s.activeImage 0 = 0 ∧ (∀ slot < 2, s.imagePasses made slot = made.getD slot false) ∧ s.refLost = false := by
  obtain ⟨hparts, hkeys⟩ := h
  simp only [State.lasting, Prod.mk.injEq] at hparts
  obtain ⟨⟨hnor, hmade, hboot, href⟩, -⟩ := hparts
  refine ⟨?_, fun slot hslot => ?_, href⟩
  · rw [State.activeImage, State.boot, hboot, active_made]
    rfl
  · have hslots : s.fld Fld.KEY_STATUS_SLOTS 0 = 5 := (congrArg Fld.KEY_STATUS_SLOTS.ofWord hkeys).trans (by decide)
    have hsvn : s.fld Fld.KEY_STATUS_SVN_MIN0 0 = 0 := (congrArg Fld.KEY_STATUS_SVN_MIN0.ofWord hkeys).trans (by decide)
    have hzero : slot / 2 = 0 := by omega
    have himage : s.madeImages.getD slot ⟨0, 0⟩ = ⟨0, 0⟩ := by
      rw [hmade]
      obtain rfl | rfl : slot = 0 ∨ slot = 1 := by omega
      all_goals rfl
    simp only [State.imagePasses, State.norImage, hnor, himage, hzero, State.keyState, svnMin, hslots, hsvn]
    exact (Bool.and_true _).trans (Bool.and_true _)

theorem State.lasts_setSense (s : State) (i : Nat) (v : Bool) : s.Lasts (s.setSense i v) :=
  ((State.Lasts.refl s).setFld (by decide) ..).setFld (by decide) ..

theorem State.Lasts.setPhase {s u : State} (h : s.Lasts u) (p : Phase) : s.Lasts { u with phase := p } := h.of_parts rfl rfl

theorem State.Lasts.setRecovering {s u : State} (h : s.Lasts u) (b : Bool) : s.Lasts { u with recovering := b } := h.of_parts rfl rfl

/-- Power leaves the module as it was made (R515). -/
theorem asMade_poweredOn : State.poweredOn.AsMade := ((State.Lasts.refl State.reset).resetTo 0).setPhase _

/-- The recovery of the supply leaves the module as it was made (R500). -/
theorem State.AsMade.recoveryLevel {s : State} (h : s.AsMade) : s.recoveryLevel.AsMade := by
  unfold State.recoveryLevel State.charge
  refine State.Lasts.setRecovering (State.Lasts.setFld (State.Lasts.trans (State.Lasts.trans (State.Lasts.trans h
    (State.lasts_setSense ..)) (State.lasts_setSense ..)) (State.lasts_setSense ..)) ?_ ..) _
  decide

/-- A boot of the tollhouse goes on to BOOT (R518). -/
theorem State.phase_startBoot (s : State) (cause : Nat) (b : TollBoot) : (s.startBoot cause b).phase = .booted cause := by
  have hports (u : State) : ((List.range 12).foldl State.enablePort u).phase = u.phase :=
    part_foldl State.phase (fun u n => by unfold State.enablePort; split <;> rfl) ..
  have hevent (u : State) (c : Code) (k n d : Nat) : (u.event c k n d).phase = u.phase := by rw [(State.Sent.event u c k n d).eq]
  simp only [State.startBoot, hevent, hports, State.charge, State.setFld_phase]

/-- The boot ROM starts image A where that verifies, and neither image where none does (R548). -/
theorem State.AsMade.tollBoot {s : State} (h : s.AsMade) (cause : Nat) (b : TollBoot) :
    (b.made.getD 0 false = true → (s.tollBoot cause b).phase = .booted cause) ∧
    (b.made.getD 0 false = false → b.made.getD 1 false = false →
      (s.tollBoot cause b).phase = .noImage ∧ (s.tollBoot cause b).flag Fld.FW_STATUS_NO_IMAGE 0 = true) := by
  have hlock : (s.setFld Fld.CLK_STATUS_ROOT_LOCK 0 1).AsMade := State.Lasts.setFld h (by decide) ..
  obtain ⟨hactive, hpasses, -⟩ := hlock.images b.made
  have hshown (u : State) : ({ u.setFld Fld.FW_STATUS_NO_IMAGE 0 1 with phase := .noImage } : State).phase = .noImage ∧
      ({ u.setFld Fld.FW_STATUS_NO_IMAGE 0 1 with phase := .noImage } : State).flag Fld.FW_STATUS_NO_IMAGE 0 = true :=
    ⟨rfl, State.flag_setFld_one u (by decide) (by decide) ..⟩
  refine ⟨fun hmade => ?_, fun hmade hother => ?_⟩
  · have hrom : ∃ t, (s.setFld Fld.CLK_STATUS_ROOT_LOCK 0 1).bootRom b.made = some t := by
      simp only [State.bootRom, hactive, hpasses 0 (by omega), hmade, if_true]
      exact ⟨_, rfl⟩
    obtain ⟨t, ht⟩ := hrom
    rw [State.tollBoot, ht]
    exact t.phase_startBoot cause b
  · have hrom : (s.setFld Fld.CLK_STATUS_ROOT_LOCK 0 1).bootRom b.made = none := by
      simp only [State.bootRom, hactive, hpasses 0 (by omega), hmade, otherImage, hpasses 1 (by omega), hother, Bool.false_eq_true,
        if_false]
    rw [State.tollBoot, hrom]
    exact hshown _

/-- A release while the supply is up, REFCLK being present (R515, R516). -/
theorem State.resetRelease_boots {s : State} (hphase : s.phase = .reset 0 false) (hsupply : s.recovering = true)
    (hclock : s.refLost = false) (m : ModuleBoot) :
    (((s.setSense 0 true).tollBoot 0 m.toll).phase = .booted 0 → (s.resetRelease m).phase = .released) ∧
    (((s.setSense 0 true).tollBoot 0 m.toll).phase = .noImage → s.resetRelease m = (s.setSense 0 true).tollBoot 0 m.toll) := by
  unfold State.resetRelease
  simp only [hphase, hsupply, hclock, Bool.not_true, Bool.and_false, Bool.or_self, Bool.false_eq_true, if_false]
  refine ⟨fun h => ?_, fun h => ?_⟩
  · rw [h]
    rfl
  · rw [h]

theorem exec_supplyRecoveryLevel (s : State) : exec .supplyRecoveryLevel s = .next s.recoveryLevel := rfl

theorem State.recoveryLevel_supplied (s : State) : s.recoveryLevel.phase = s.phase ∧ s.recoveryLevel.recovering = true := by
  simp only [State.recoveryLevel, State.charge, State.setSense, State.setFld_phase, and_self]

/-- Settles O34. -/
theorem powerUpReleasesModule : Obligations.PowerUpReleasesModule := by
  obtain ⟨hphase, hsupply⟩ := State.poweredOn.recoveryLevel_supplied
  have hmade := asMade_poweredOn.recoveryLevel
  have hclock := (hmade.images []).2.2
  have hreleased : (State.poweredOn.recoveryLevel.setSense 0 true).AsMade := hmade.trans (State.lasts_setSense _ 0 true)
  have hboot (m : ModuleBoot) := hreleased.tollBoot 0 m.toll
  have hrelease (m : ModuleBoot) := State.resetRelease_boots (hphase.trans State.poweredOn_waits.1) hsupply hclock m
  refine ⟨State.poweredOn, State.poweredOn.recoveryLevel, exec_powerOn_reset, exec_supplyRecoveryLevel _, fun m => ?_,
    fun m himage => ⟨_, rfl, (hrelease m).1 ((hboot m).1 himage)⟩, fun m himage hother => ?_⟩
  · have hwaits (s : State) (hphase : s.phase = .reset 0 false) (hsupply : s.recovering = false) : s.resetRelease m = s := by
      simp only [State.resetRelease, hphase, hsupply, Bool.not_false, decide_true, Bool.and_self, Bool.or_true, if_true]
    exact congrArg Host.Outcome.next (hwaits State.poweredOn State.poweredOn_waits.1 State.poweredOn_waits.2)
  · obtain ⟨hnone, hshown⟩ := (hboot m).2 himage hother
    refine ⟨_, congrArg Host.Outcome.next ((hrelease m).2 hnone), hnone, hshown⟩

end Sys2Proof.Machine
end

section
/-! PROOFS. The link layer of the Paune ports: what sending, acknowledging and forwarding flits leave as they were (R376-R385, R391). -/
namespace Sys2Proof.Machine
open Sys2Proof

/-! The links (R382). -/

theorem State.link_setLink (s : State) (n k : Nat) (x : Link) : (s.setLink n x).link k = if k = n then x else s.link k := by
  split
  · next h => rw [h]; exact NMap.look_put_same ..
  · next h => exact NMap.look_put_other _ _ _ h

@[simp] theorem State.link_setLink_same (s : State) (n : Nat) (x : Link) : (s.setLink n x).link n = x := NMap.look_put_same ..

theorem State.link_setLink_other (s : State) {n k : Nat} (h : k ≠ n) (x : Link) : (s.setLink n x).link k = s.link k :=
  NMap.look_put_other _ _ _ h

theorem State.link_setFld (s : State) (f : Fld) (i v k : Nat) : (s.setFld f i v).link k = s.link k := rfl

/-- What a link knows of its neighbour and expects of it: what sending leaves (R379, R383). -/
def Link.core (x : Link) : Nat × Bool × Bool × Option Hello × Bool × Bool :=
  (x.expect, x.accepted, x.discarding, x.partner, x.clash, x.upper)

/-- `u` is `s` but for flits that have been queued, sent or forwarded: the registers that count those sent, the links but for what each knows
of its neighbour, the messages that are forwarded as they arrive, and what has gone out (R382-R384, R391). -/
structure State.Sends (s u : State) : Prop where
  eq : u = { s with regs := u.regs, links := u.links, cuts := u.cuts, outbox := u.outbox }
  reg : ∀ r i, r ≠ .portTxFlits → u.reg r i = s.reg r i
  core : ∀ k, (u.link k).core = (s.link k).core

namespace State.Sends

theorem refl (s : State) : s.Sends s := ⟨rfl, fun _ _ _ => rfl, fun _ => rfl⟩

theorem trans {s u w : State} (h : s.Sends u) (k : u.Sends w) : s.Sends w where
  eq := by rw [k.eq, h.eq]
  reg r i hr := (k.reg r i hr).trans (h.reg r i hr)
  core n := (k.core n).trans (h.core n)

theorem fld {s u : State} (h : s.Sends u) {f : Fld} (hf : f.reg ≠ .portTxFlits) (i : Nat) : u.fld f i = s.fld f i :=
  congrArg f.ofWord (h.reg f.reg i hf)

theorem expect {s u : State} (h : s.Sends u) (k : Nat) : (u.link k).expect = (s.link k).expect := congrArg Prod.fst (h.core k)

theorem portState {s u : State} (h : s.Sends u) (k : Nat) : u.portState k = s.portState k := h.fld (f := Fld.PORT_STATUS_STATE) (by decide) k

theorem mem {s u : State} (h : s.Sends u) : u.mem = s.mem := by rw [h.eq]

theorem selfMsgs {s u : State} (h : s.Sends u) : u.selfMsgs = s.selfMsgs := by rw [h.eq]

section
variable {s u w : State} (h : s.Sends u)
include h

theorem setLink (n : Nat) {x : Link} (hx : x.core = (u.link n).core) : s.Sends (u.setLink n x) := by
  refine h.trans ⟨rfl, fun _ _ _ => rfl, fun k => ?_⟩
  rw [State.link_setLink]
  split
  · next hk => rw [hk, hx]
  · rfl

theorem setCuts (cs : List Cut) : s.Sends { u with cuts := cs } := h.trans ⟨rfl, fun _ _ _ => rfl, fun _ => rfl⟩

theorem send (m : OutMsg) : s.Sends (u.send m) := h.trans ⟨rfl, fun _ _ _ => rfl, fun _ => rfl⟩

theorem countTx (n k : Nat) : s.Sends (u.wrapAdd Fld.PORT_TX_FLITS_FLITS n k) :=
  h.trans ⟨rfl, fun _ _ hr => (State.reg_setFld ..).trans (if_neg (fun e => hr e.1)), fun _ => rfl⟩

theorem foldl {α : Type} {f : State → α → State} (hf : ∀ {w : State} x, s.Sends w → s.Sends (f w x)) (l : List α) :
    s.Sends (l.foldl f u) :=
  foldl_keeps s.Sends f (fun _ x => hf x) l u h

theorem optional {c : Prop} {_ : Decidable c} (k : s.Sends w) : s.Sends (if c then u else w) := iteInduction (fun _ => h) (fun _ => k)

theorem emitAs (n : Nat) (f : Flit) (g : Flit → OutMsg) : s.Sends (u.emitAs n f g) := (h.setLink n (by rfl)).send _

theorem emitNull (n : Nat) : s.Sends (u.emitNull n) := h.emitAs ..

theorem emitFlit (n : Nat) (f : Flit) : s.Sends (u.emitFlit n f) := ((h.emitAs ..).emitNull n).optional (h.emitAs ..)

theorem emitLink (n : Nat) (payload : List Byte) : s.Sends (u.emitLink n payload) := h.emitFlit ..

theorem oweVc (n vc flits : Nat) : s.Sends (u.oweVc n vc flits) := h.setLink n (by rfl)

theorem pump (n fuel : Nat) : s.Sends (State.pump n fuel u) := by
  induction fuel generalizing u with
  | zero => exact h
  | succ fuel ih =>
    unfold State.pump
    refine iteInduction (fun _ => h) (fun _ => ?_)
    split
    · exact h
    · split
      · exact h
      · refine ih ?_
        split
        · exact (((h.setLink n (by rfl)).emitFlit ..).countTx ..).oweVc ..
        · exact ((h.setLink n (by rfl)).emitFlit ..).countTx ..

theorem pumpAll (n : Nat) : s.Sends (u.pumpAll n) := h.pump ..

theorem putFlits (n vc : Nat) (fs : List (Flit × Option (Nat × Nat))) : s.Sends (u.putFlits n vc fs) :=
  (h.setLink n (by rfl)).optional ((h.setLink n (by rfl)).pumpAll n)

theorem enqueue (n : Nat) (m : Msg) (dl : Nat) : s.Sends (u.enqueue n m dl) := h.putFlits ..

theorem enqueueOn (n : Nat) (m : Msg) (dl p v k : Nat) : s.Sends (u.enqueueOn n m dl p v k) := h.putFlits ..

theorem takeAck (n : Nat) (f : Flit) : s.Sends (u.takeAck n f) := (h.setLink n (by rfl)).pumpAll n

theorem takeSide (n : Nat) (a : LinkSide) : s.Sends (u.takeSide n a) := (h.takeAck ..).optional h

theorem bondSend (m : Msg) : s.Sends (u.bondSend m) := by
  unfold State.bondSend
  split
  · exact h.enqueue ..
  · exact h

theorem tryCut (n vc : Nat) : s.Sends (u.tryCut n vc) := by
  unfold State.tryCut
  dsimp only
  refine iteInduction (fun _ => h) (fun _ => ?_)
  split
  · exact h
  · refine iteInduction (fun _ => h) (fun _ => ?_)
    exact (((h.setCuts _).setLink _ (by rfl)).setLink _ (by rfl)).pumpAll _

theorem freeVc (c : Cut) : s.Sends (u.freeVc c) :=
  (h.setCuts _).optional ((((h.setCuts _).setLink _ (by rfl)).pumpAll _).foldl (fun _ k => k.tryCut ..) _)

theorem cutFlit (c : Cut) (f : Flit) : s.Sends (u.cutFlit c f) := by
  have hpassed (n : Nat) (x : Link) (hx : x.core = (u.link n).core) : s.Sends ((u.setLink n x).pumpAll n) := (h.setLink n hx).pumpAll n
  exact (((h.oweVc ..).optional (hpassed _ _ (by rfl))).freeVc c).optional ((h.oweVc ..).optional (hpassed _ _ (by rfl)))

end

end State.Sends

end Sys2Proof.Machine
end

section
/-! PROOFS. Flits that arrive, and a port that goes to DETECT (R376, R378, R382, R383, R385, R391). -/
namespace Sys2Proof.Machine
open Sys2Proof

/-! A port that goes to DETECT (R385, R391). -/

/-- Port 0 is in ALIGN. A message comes in by it and is forwarded to a port of number 20, which is ACTIVE and queues a flit of it: the modelled
state has links and port registers of numbers above 11, though the hardware has 12 ports. -/
def strayCut : State :=
  ({ State.reset with
    links := [(20, { Link.init with
      queue := [(⟨0, 0, 1, 0, true, true, false, 0, 0, 0, []⟩, some (0, 0))]
      credits := [1, 0, 0, 0, 0, 0, 0, 0] })]
    cuts := [⟨0, 0, 20, 0, none, false⟩] }.setFld Fld.PORT_STATUS_STATE 0 3).setFld Fld.PORT_STATUS_STATE 20 5

/-- The flit leaves port 20 once port 0 has discarded its link, and its receive buffer is owed there. -/
theorem owed_strayCut : ((strayCut.toDetect 0).link 0).owed = [1, 0, 0, 0, 0, 0, 0, 0] := by decide +kernel

/-- Refutes O28: in `strayCut` the fourth clause fails. A link that has gone to DETECT is not always cleared: the flits of a message that it
forwards to a port above 11 keep their receive buffers, and the credits of one that leaves then are owed on the cleared link. -/
theorem not_linkEventsRun : ¬ Obligations.LinkEventsRun := by
  intro h
  obtain ⟨-, -, -, halign, -⟩ := h strayCut 0
  have hstate : strayCut.portState 0 = 3 := by decide
  obtain ⟨u, hu, -, hlink, -⟩ := halign hstate
  have hends : exec (.alignTimeout 0) strayCut = .next (strayCut.toDetect 0) := congrArg Host.Outcome.next (if_pos hstate)
  obtain rfl : strayCut.toDetect 0 = u := Host.Outcome.next.inj (hends.symm.trans hu)
  exact absurd (owed_strayCut.symm.trans (congrArg Link.owed hlink)) (by decide)

/-- An event of a port, by what it does to the port. -/
theorem onPort_of {i : Instr} {s t : State} {f : State → State} {P : State → Prop} (hexec : exec i s = .next (s.onPort f)) (h : f s = t)
    (hP : P t) : OnPort i s P :=
  ⟨t, by rw [hexec, State.onPort, h], hP⟩

/-! Flits that arrive (R376, R382, R383). -/

/-- A flit of a link goes out, and at most a NULL flit after it (R382). -/
theorem State.outbox_emitFlit (s : State) (n : Nat) (f : Flit) : ∃ (g : Flit) (after : List OutMsg),
    (s.emitFlit n f).outbox = after ++ .flit n g :: s.outbox ∧ after.length ≤ 1 ∧ g.kind = f.kind ∧ g.payload = f.payload := by
  unfold State.emitFlit
  dsimp only
  split
  · exact ⟨_, [_], rfl, Nat.le_refl 1, rfl, rfl⟩
  · exact ⟨_, [], rfl, Nat.zero_le 1, rfl, rfl⟩

/-- A flit that fails its CRC, or of a codeword that FEC could not correct, is discarded (R376). -/
def flitBad (bs : List Byte) (bad : Bool) (uncorr : Nat) : Bool := bad || uncorr != 0 || !flitOk bs

theorem flitBad_of {bs : List Byte} {bad : Bool} {uncorr : Nat} (h : bad = true ∨ uncorr ≠ 0 ∨ flitOk bs = false) :
    flitBad bs bad uncorr = true := by
  obtain h | h | h := h <;> simp [flitBad, h]

/-- The counters of a port that count its FEC and its CRC failures (R404). -/
theorem State.countFec_only (s : State) (n c u : Nat) : s.OnlyRegs [.portFec] (s.countFec n c u) :=
  ((OnlyRegs.refl ..).setFld (by decide) ..).setFld (by decide) ..

theorem State.crcFailed_only (s : State) (n : Nat) : s.OnlyRegs [.portCount] (s.crcFailed n) := (OnlyRegs.refl ..).setFld (by decide) ..

theorem State.OnlyRegs.link {R : List RegName} {s u : State} (h : s.OnlyRegs R u) (n : Nat) : u.link n = s.link n := by
  rw [h.eq]
  rfl

theorem State.OnlyRegs.sent {R : List RegName} {s u : State} (h : s.OnlyRegs R u) :
    u.links = s.links ∧ u.outbox = s.outbox ∧ u.selfMsgs = s.selfMsgs := by
  rw [h.eq]
  exact ⟨rfl, rfl, rfl⟩

section
variable {s : State} {n : PortIx} (hactive : s.portState n.val = 5) {bs : List Byte} {c : Nat}
include hactive

theorem State.dataFlit_bad {bad : Bool} {u : Nat} (hbad : flitBad bs bad u = true) :
    s.dataFlit n.val bs bad c u = ((s.countFec n.val c u).crcFailed n.val).dataFailed n.val := by
  unfold State.dataFlit
  dsimp only
  rw [if_neg (by simp [hactive])]
  exact if_pos hbad

theorem State.sideFlit_bad {bad : Bool} {u : Nat} (hbad : flitBad bs bad u = true) (kind : Nat) (f : Flit → State → State) :
    s.sideFlit n.val bs bad c u kind f = (s.countFec n.val c u).crcFailed n.val := by
  unfold State.sideFlit
  dsimp only
  rw [if_neg (by simp [hactive])]
  exact if_pos hbad

section
variable {f : Flit} (hok : flitOk bs = true) (hflit : flitOf bs = some f)
include hok hflit

/-- A whole DATA flit is accepted where its SEQ is the expected one (R383). -/
theorem State.dataFlit_ok (hkind : f.kind = 1) : s.dataFlit n.val bs false c 0 =
    if f.seq = (s.link n.val).expect then ((s.countFec n.val c 0).takeAck n.val f).acceptFlit n.val f
    else ((s.countFec n.val c 0).takeAck n.val f).dataFailed n.val := by
  have hexpect : (((s.countFec n.val c 0).takeAck n.val f).link n.val).expect = (s.link n.val).expect := by
    rw [((State.Sends.refl _).takeAck n.val f).expect, (s.countFec_only n.val c 0).link]
  unfold State.dataFlit
  dsimp only
  rw [if_neg (by simp [hactive]), if_neg (by simp [hok]), hflit]
  dsimp only
  rw [if_neg (by simp [hkind]), hexpect]

theorem State.sideFlit_ok {kind : Nat} (hkind : f.kind = kind) (g : Flit → State → State) :
    s.sideFlit n.val bs false c 0 kind g = g f ((s.countFec n.val c 0).takeAck n.val f) := by
  unfold State.sideFlit
  dsimp only
  rw [if_neg (by simp [hactive]), if_neg (by simp [hok]), hflit]
  exact if_pos hkind

end

end

/-- A DATA flit that is not the last of its message sets the expected SEQ on, and reaches no module (R383). -/
theorem State.acceptFlit_more (s : State) (n : Nat) {f : Flit} (hmore : f.eom = false) :
    ((s.acceptFlit n f).link n).expect = ((s.link n).expect + 1) % 65536 ∧ (s.acceptFlit n f).selfMsgs = s.selfMsgs := by
  let v : State := (s.setLink n { s.link n with
    expect := ((s.link n).expect + 1) % 65536
    accepted := true
    discarding := false
    ackDue := true }).wrapAdd Fld.PORT_RX_FLITS_FLITS n 1
  have hv : (v.link n).expect = ((s.link n).expect + 1) % 65536 := congrArg Link.expect (State.link_setLink_same ..)
  have hjoin (u : State) (h : v.Sends u) : v.Sends (u.joinFlit n f) := by
    unfold State.joinFlit
    dsimp only
    rw [if_pos (by simp [hmore])]
    exact (h.setLink n (by rfl)).tryCut ..
  have hsends : v.Sends (s.acceptFlit n f) := by
    unfold State.acceptFlit
    dsimp only
    split
    · exact iteInduction (fun _ => hjoin _ ((State.Sends.refl v).freeVc _)) (fun _ => (State.Sends.refl v).cutFlit ..)
    · exact hjoin v (.refl v)
  exact ⟨(hsends.expect n).trans hv, hsends.selfMsgs⟩

/-- The first failure asks for a resend from the expected SEQ (R383). -/
theorem State.dataFailed_asks {s : State} {n : Nat} (h : (s.link n).discarding = false) :
    ((s.dataFailed n).link n).discarding = true ∧ ((s.dataFailed n).link n).expect = (s.link n).expect ∧
      (∀ r i, r ≠ .portTxFlits → (s.dataFailed n).reg r i = s.reg r i) ∧
      ∃ (f : Flit) (after : List OutMsg), (s.dataFailed n).outbox = after ++ .flit n f :: s.outbox ∧ after.length ≤ 1 ∧ f.kind = 2 ∧
        f.payload = 1 :: leBytes 2 (s.link n).expect := by
  let v : State := s.setLink n { s.link n with discarding := true }
  have hv : v.link n = { s.link n with discarding := true } := State.link_setLink_same ..
  have hfailed : s.dataFailed n = v.emitRetryReq n := by
    unfold State.dataFailed
    dsimp only
    rw [if_neg (by simp [h])]
  have hsends : v.Sends (v.emitRetryReq n) := (State.Sends.refl v).emitLink ..
  obtain ⟨g, after, hout, hafter, hkind, hpayload⟩ := v.outbox_emitFlit n
    ⟨(v.link n).next, 0, 2, 0, false, false, false, (1 :: leBytes 2 (v.link n).expect).length, 0, 0, 1 :: leBytes 2 (v.link n).expect⟩
  rw [hfailed]
  refine ⟨?_, (hsends.expect n).trans (by rw [hv]), hsends.reg, g, after, hout, hafter, hkind, ?_⟩
  · have hcore := hsends.core n
    simp only [Link.core, Prod.mk.injEq] at hcore
    rw [hcore.2.2.1, hv]
  · rw [hpayload, hv]

theorem State.expect_dataFailed (s : State) (n : Nat) : ((s.dataFailed n).link n).expect = (s.link n).expect := by
  cases h : (s.link n).discarding with
  | false => exact (State.dataFailed_asks h).2.1
  | true => rw [State.dataFailed, if_pos h]

/-- Settles O29, clause by clause. -/
theorem flitCommandsRun : Obligations.FlitCommandsRun := by
  refine fun s n bs c hactive => ⟨fun bad u hfails => ⟨fun hfirst => ?_, fun hlater => ?_, fun i hi => ?_⟩,
    fun f hok hflit hkind hseq => ?_, fun f hok hflit hkind hseq => ?_, fun f hok hflit hkind => ?_,
    fun f i hok hflit hkind hop hlength hkept => ?_⟩
  · have hfec := s.countFec_only n.val c u
    have hcrc := (s.countFec n.val c u).crcFailed_only n.val
    have hlink : ((s.countFec n.val c u).crcFailed n.val).link n.val = s.link n.val := (hcrc.link _).trans (hfec.link _)
    obtain ⟨hdiscarding, hexpect, hreg, f, after, hout, hafter, hkind, hpayload⟩ := State.dataFailed_asks (n := n.val)
      (s := (s.countFec n.val c u).crcFailed n.val) (by rw [hlink]; exact hfirst)
    refine onPort_of rfl (State.dataFlit_bad hactive (flitBad_of hfails))
      ⟨hdiscarding, by rw [hexpect, hlink], ?_, f, after, ?_, hafter, hkind, by rw [hpayload, hlink]⟩
    · rw [State.fld, hreg _ _ (by decide)]
      exact (State.fld_bump _ (by decide) ..).trans (by rw [hfec.fld (by decide)])
    · rw [hout, hcrc.sent.2.1, hfec.sent.2.1]
  · have hfec := s.countFec_only n.val c u
    have hcrc := (s.countFec n.val c u).crcFailed_only n.val
    have hlink : ((s.countFec n.val c u).crcFailed n.val).link n.val = s.link n.val := (hcrc.link _).trans (hfec.link _)
    have hlost : ((s.countFec n.val c u).crcFailed n.val).dataFailed n.val = (s.countFec n.val c u).crcFailed n.val :=
      if_pos (by rw [hlink]; exact hlater)
    exact onPort_of rfl ((State.dataFlit_bad hactive (flitBad_of hfails)).trans hlost)
      ⟨hcrc.sent.1.trans hfec.sent.1, hcrc.sent.2.1.trans hfec.sent.2.1⟩
  · simp only [List.mem_cons, List.not_mem_nil, or_false] at hi
    obtain rfl | rfl := hi
    all_goals exact onPort_of rfl (State.sideFlit_bad hactive (flitBad_of hfails) ..) rfl
  · refine onPort_of rfl ((State.dataFlit_ok hactive hok hflit hkind).trans (if_pos hseq)) ⟨rfl, fun hmore => ?_⟩
    have hsends := (State.Sends.refl (s.countFec n.val c 0)).takeAck n.val f
    obtain ⟨hexpect, hself⟩ := State.acceptFlit_more ((s.countFec n.val c 0).takeAck n.val f) n.val hmore
    rw [hexpect, hself, hsends.expect, (s.countFec_only n.val c 0).link, hseq, hsends.selfMsgs, (s.countFec_only n.val c 0).sent.2.2]
    exact ⟨rfl, rfl⟩
  · refine onPort_of rfl ((State.dataFlit_ok hactive hok hflit hkind).trans (if_neg hseq)) ⟨rfl, ?_⟩
    rw [State.expect_dataFailed, ((State.Sends.refl _).takeAck n.val f).expect, (s.countFec_only n.val c 0).link]
  · refine onPort_of rfl (State.sideFlit_ok hactive hok hflit hkind _) ⟨rfl, ?_⟩
    rw [((State.Sends.refl _).takeAck n.val f).expect, (s.countFec_only n.val c 0).link]
  · refine onPort_of rfl ((State.sideFlit_ok hactive hok hflit hkind _).trans ?_) rfl
    unfold State.retryAsked
    rw [if_pos (by simp [hop, hlength]), hkept]

end Sys2Proof.Machine
end

section
/-! PROOFS. Messages that arrive at the agents of their types (R389-R398, R416, R420, R421, R431). -/
namespace Sys2Proof.Machine
open Sys2Proof

/-! A message that arrives (R382, R398). -/

/-- What taking the flits of a message leaves: all but the link and the count of flits received (R382). -/
theorem State.tookMsg_eq (s : State) (n : PortIx) (dl : Fin 2) (m : Msg) :
    s.tookMsg n dl m = { s with regs := (s.tookMsg n dl m).regs, links := (s.tookMsg n dl m).links } := by
  unfold State.tookMsg State.oweFor
  dsimp only
  split <;> rfl

theorem State.reg_tookMsg (s : State) (n : PortIx) (dl : Fin 2) (m : Msg) {r : RegName} (hr : r ≠ .portRxFlits) (i : Nat) :
    (s.tookMsg n dl m).reg r i = s.reg r i := by
  have hcount (u : State) (x : Link) (k : Nat) : ((u.setLink n.val x).wrapAdd Fld.PORT_RX_FLITS_FLITS n.val k).reg r i = u.reg r i :=
    (State.reg_setFld ..).trans (if_neg (fun e => hr e.1))
  unfold State.tookMsg State.oweFor
  dsimp only
  split
  · exact hcount ..
  · exact hcount ..

theorem State.fld_tookMsg (s : State) (n : PortIx) (dl : Fin 2) (m : Msg) {f : Fld} (hf : f.reg ≠ .portRxFlits) (i : Nat) :
    (s.tookMsg n dl m).fld f i = s.fld f i :=
  congrArg f.ofWord (s.reg_tookMsg n dl m hf i)

theorem State.flag_tookMsg (s : State) (n : PortIx) (dl : Fin 2) (m : Msg) {f : Fld} (hf : f.reg ≠ .portRxFlits) (i : Nat) :
    (s.tookMsg n dl m).flag f i = s.flag f i :=
  State.flag_of_fld (s.fld_tookMsg n dl m hf i)

theorem State.inPair_tookMsg (s : State) (n : PortIx) (dl : Fin 2) (m : Msg) : (s.tookMsg n dl m).inPair = s.inPair := by
  have hstate : (s.tookMsg n dl m).pairState = s.pairState := s.fld_tookMsg n dl m (by decide) 0
  rw [State.inPair, hstate, State.inPair]

/-! The agent of a message (R390, R393, R398). -/

section
variable {s : State} {n dl flits : Nat} {h : MsgHead} {b : MsgBody} (httl : h.ttl ≠ 0) (hlegal : b.legal h.writeCpl = true)
include httl hlegal

/-- A message of a type that goes by route, on a port of a role that carries it (R398). -/
theorem State.arrive_routed (hbond : onlyBond b = false) (hring : b.kind ≠ 4) (hrole : s.role n = 1 ∨ s.role n = 3)
    (status : Fin 4) : s.arrive n dl flits ⟨h, b⟩ status =
      if h.dest = s.moduleId then s.deliver ⟨h, b⟩ status else s.forwardMsg n dl flits ⟨h, b⟩ := by
  unfold State.arrive
  dsimp only
  rw [if_neg (by simp [hlegal, httl])]
  split
  · exact absurd rfl hring
  · rw [if_neg (by simp [hbond]), if_neg (by obtain hrole | hrole := hrole <;> simp [hrole])]

/-- One on a port of another role is malformed (R390). -/
theorem State.arrive_unrouted (hbond : onlyBond b = false) (hring : b.kind ≠ 4) (hrole : ¬ (s.role n = 1 ∨ s.role n = 3))
    (status : Fin 4) : s.arrive n dl flits ⟨h, b⟩ status = s.malformed ⟨h, b⟩ := by
  obtain ⟨hone, hthree⟩ := not_or.1 hrole
  unfold State.arrive
  dsimp only
  rw [if_neg (by simp [hlegal, httl])]
  split
  · exact absurd rfl hring
  · rw [if_neg (by simp [hbond]), if_pos (by simp [hone, hthree])]

/-- A pair message on a port of the bond goes to the pair (R390). -/
theorem State.arrive_bond (hbond : onlyBond b = true) (hrole : s.role n = 3) (hown : h.dest = s.moduleId) (status : Fin 4) :
    s.arrive n dl flits ⟨h, b⟩ status = s.pairArrives (s.fld Fld.PORT_STATUS_NEIGHBOUR n) ⟨h, b⟩ := by
  unfold State.arrive
  dsimp only
  rw [if_neg (by simp [hlegal, httl])]
  split
  · exact absurd hbond Bool.false_ne_true
  · rw [if_pos hbond, if_pos (by simp [hrole, hown])]

end

/-- A ring tile goes to the ring on a ring port, and on any port with a binding in force (R128, R399). -/
theorem State.arrive_ring {s : State} {n : Nat} {h : MsgHead} {c : Cwy} {seg : Nat} {side data ext : List Byte} (httl : h.ttl ≠ 0)
    (hlegal : (MsgBody.ringTile c seg side data ext).legal h.writeCpl = true) (dl flits : Nat) (status : Fin 4) :
    s.arrive n dl flits ⟨h, .ringTile c seg side data ext⟩ status =
      if s.role n = 2 || s.flag Fld.VIADUCT_STATUS_BOUND 0 then s.ringTileArrives n flits ⟨h, .ringTile c seg side data ext⟩
      else s.malformed ⟨h, .ringTile c seg side data ext⟩ := by
  unfold State.arrive
  dsimp only
  rw [if_neg (by simp [hlegal, httl])]

/-- A pair message of the mate goes on as its type has it (R416, R420, R421). -/
theorem State.pairArrives_mate {s : State} {nb : Nat} {h : MsgHead} (hmate : h.src = if s.inPair then s.mate else nb) :
    (∀ mseq object offset data, s.inPair = true → s.pairArrives nb ⟨h, .mirrorWrite mseq object offset data⟩ =
      s.mirrorArrives ⟨mseq, object, offset, data, h.poison⟩) ∧
    (∀ mseq step, s.pairArrives nb ⟨h, .keystone mseq step false⟩ = if s.inPair then s.keyArrives mseq step else s) ∧
    (∀ mseq step, s.pairArrives nb ⟨h, .keystone mseq step true⟩ = if s.inPair then s.ackArrives mseq step else s) ∧
    (∀ subtype tag ps data, syncLegal subtype ps data = true →
      s.pairArrives nb ⟨h, .sync subtype tag ps data⟩ = s.syncArrives subtype ps data) := by
  have hfrom : ¬ (h.src != if s.inPair then s.mate else nb) = true := by simp [hmate]
  refine ⟨fun mseq object offset data hpair => ?_, fun mseq step => ?_, fun mseq step => ?_, fun subtype tag ps data hlegal => ?_⟩
  · exact (if_neg hfrom).trans (if_pos hpair)
  · refine (if_neg hfrom).trans ?_
    cases s.inPair <;> rfl
  · refine (if_neg hfrom).trans ?_
    cases s.inPair <;> rfl
  · exact (if_neg hfrom).trans (if_pos hlegal)

/-! The fields of a SYNC (R420). -/

theorem paramAt_first {k v : Nat} (h : v < 256 ^ k) (bs : List Byte) : paramAt (leBytes k v ++ bs) 0 k = v := fieldAt_leBytes h bs

theorem paramAt_skip {k i : Nat} (h : k ≤ i) (v : Nat) (bs : List Byte) (l : Nat) :
    paramAt (leBytes k v ++ bs) i l = paramAt bs (i - k) l := fieldAt_skip h v bs l

/-- PARAM is its used bytes, then zeros (R420). -/
theorem paramOf {param : List Byte} {used : Nat} (hused : param.length = used) (hfits : used ≤ 16) :
    padTo 16 param = param ++ List.replicate (16 - used) 0 ∧ ((padTo 16 param).drop used).all (fun x => x = 0) = true := by
  subst hused
  rw [padTo_of_le hfits, List.drop_left' rfl]
  exact ⟨rfl, by simp⟩

/-- Three fields in the used bytes of PARAM are read back (R420). -/
theorem paramOf_three {i j k a b c : Nat} (ha : a < 256 ^ i) (hb : b < 256 ^ j) (hc : c < 256 ^ k) (hfits : i + j + k ≤ 16) :
    let ps := padTo 16 (leBytes i a ++ leBytes j b ++ leBytes k c)
    paramAt ps 0 i = a ∧ paramAt ps i j = b ∧ paramAt ps (i + j) k = c ∧ (ps.drop (i + j + k)).all (fun x => x = 0) = true := by
  intro ps
  obtain ⟨hpad, hzero⟩ := paramOf (param := leBytes i a ++ leBytes j b ++ leBytes k c) (used := i + j + k)
    (by simp only [List.length_append, length_leBytes]) hfits
  have hps : ps = leBytes i a ++ (leBytes j b ++ (leBytes k c ++ List.replicate (16 - (i + j + k)) 0)) := by
    rw [← List.append_assoc, ← List.append_assoc]
    exact hpad
  refine ⟨?_, ?_, ?_, hzero⟩
  · rw [hps, paramAt_first ha]
  · rw [hps, paramAt_skip le_rfl, Nat.sub_self, paramAt_first hb]
  · rw [hps, paramAt_skip (Nat.le_add_right i j), Nat.add_sub_cancel_left, paramAt_skip le_rfl, Nat.sub_self, paramAt_first hc]

/-- The entries of a MAP are read back (R420). -/
theorem mapEntries_bytes {es : List (Nat × Nat)} (h : ∀ e ∈ es, e.1 < 2 ^ 22 ∧ e.2 < 2 ^ 40) :
    mapEntries es.length (es.flatMap (fun e => leBytes 3 e.1 ++ leBytes 5 e.2)) = es ∧
      (cutBytes 8 es.length (es.flatMap (fun e => leBytes 3 e.1 ++ leBytes 5 e.2))).all (fun e => leNat (e.take 3) < 2 ^ 22) = true := by
  induction es with
  | nil => exact ⟨rfl, rfl⟩
  | cons e es ih =>
    obtain ⟨⟨hobject, hsize⟩, hes⟩ := List.forall_mem_cons.1 h
    obtain ⟨hread, hall⟩ := ih hes
    have hlength : (leBytes 3 e.1 ++ leBytes 5 e.2).length = 8 := by rw [List.length_append, length_leBytes, length_leBytes]
    have hfirst : leNat ((leBytes 3 e.1 ++ leBytes 5 e.2).take 3) = e.1 := by
      rw [List.take_left' (length_leBytes 3 e.1), leNat_leBytes]
      exact Nat.mod_eq_of_lt (hobject.trans (by decide))
    have hsecond : leNat ((leBytes 3 e.1 ++ leBytes 5 e.2).drop 3) = e.2 := by
      rw [List.drop_left' (length_leBytes 3 e.1), leNat_leBytes]
      exact Nat.mod_eq_of_lt hsize
    have hcut : cutBytes 8 (es.length + 1) ((e :: es).flatMap (fun e => leBytes 3 e.1 ++ leBytes 5 e.2)) =
        (leBytes 3 e.1 ++ leBytes 5 e.2) :: cutBytes 8 es.length (es.flatMap (fun e => leBytes 3 e.1 ++ leBytes 5 e.2)) := by
      rw [cutBytes, List.flatMap_cons, List.take_left' hlength, List.drop_left' hlength]
    rw [List.length_cons, mapEntries, hcut, List.map_cons, List.all_cons, hfirst, hsecond, Nat.mod_eq_of_lt hobject, hall,
      decide_eq_true hobject]
    exact ⟨congrArg ((e.1, e.2) :: ·) hread, rfl⟩

/-! Each message by its type. -/

section
variable {s : State} {n : PortIx} {dl : Fin 2} {h : MsgHead} (hactive : s.portState n.val = 5) (httl : h.ttl ≠ 0)
include hactive

/-- A message on an active port has its effect in the state that has taken its flits (R398). -/
theorem arrives_of {i : Instr} {m : Msg} {status : Fin 4} {v : State} (hexec : exec i s = .next (s.msgRow n dl m status))
    (heffect : (s.tookMsg n dl m).arrive n.val dl.val (Msg.flits m) m status = v) : Arrives i s n v := by
  have harrives : s.messageArrives n dl m status = v.emitNull n.val := by
    rw [← heffect]
    exact if_neg (by simp [hactive])
  rw [Arrives, hexec, State.msgRow, State.onPort, harrives]

include httl

/-- A routed message for this module goes to its agent (R389, R398). -/
theorem arrives_own {i : Instr} {b : MsgBody} {status : Fin 4} (hexec : exec i s = .next (s.msgRow n dl ⟨h, b⟩ status))
    (hlegal : b.legal h.writeCpl = true) (hbond : onlyBond b = false) (hring : b.kind ≠ 4)
    (hrouted : s.role n.val = 1 ∨ s.role n.val = 3) (hown : h.dest = s.moduleId) {v : State}
    (hagent : (s.tookMsg n dl ⟨h, b⟩).deliver ⟨h, b⟩ status = v) : Arrives i s n v := by
  have hrole : (s.tookMsg n dl ⟨h, b⟩).role n.val = s.role n.val := s.fld_tookMsg n dl _ (by decide) _
  have hid : (s.tookMsg n dl ⟨h, b⟩).moduleId = s.moduleId := s.fld_tookMsg n dl _ (by decide) _
  refine arrives_of hactive hexec ((State.arrive_routed httl hlegal hbond hring (by rwa [hrole]) status).trans ?_)
  rw [if_pos (by rw [hid]; exact hown), hagent]

/-- A pair message of the mate goes to the pair (R390, R416, R420). -/
theorem arrives_mate {i : Instr} {b : MsgBody} {status : Fin 4} (hexec : exec i s = .next (s.msgRow n dl ⟨h, b⟩ status))
    (hlegal : b.legal h.writeCpl = true) (hbond : onlyBond b = true)
    (hmate : s.role n.val = 3 ∧ h.dest = s.moduleId ∧ h.src = (if s.inPair then s.mate else s.fld Fld.PORT_STATUS_NEIGHBOUR n.val))
    {v : State} (hagent : ∀ nb, (h.src = if (s.tookMsg n dl ⟨h, b⟩).inPair then (s.tookMsg n dl ⟨h, b⟩).mate else nb) →
      (s.tookMsg n dl ⟨h, b⟩).pairArrives nb ⟨h, b⟩ = v) : Arrives i s n v := by
  obtain ⟨hthree, hown, hsrc⟩ := hmate
  have hrole : (s.tookMsg n dl ⟨h, b⟩).role n.val = s.role n.val := s.fld_tookMsg n dl _ (by decide) _
  have hid : (s.tookMsg n dl ⟨h, b⟩).moduleId = s.moduleId := s.fld_tookMsg n dl _ (by decide) _
  have hmate : (s.tookMsg n dl ⟨h, b⟩).mate = s.mate := s.fld_tookMsg n dl _ (by decide) _
  refine arrives_of hactive hexec ((State.arrive_bond httl hlegal hbond (by rw [hrole, hthree]) (by rw [hid, hown]) status).trans
    (hagent _ ?_))
  rw [s.inPair_tookMsg, hmate, s.fld_tookMsg n dl _ (by decide), hsrc]

/-- A SYNC of the mate that is well formed (R420). -/
theorem arrives_sync {i : Instr} {subtype tag : Nat} {param data : List Byte}
    (hexec : exec i s = .next (s.syncRow n dl h tag subtype param data)) (hsubtype : 1 ≤ subtype ∧ subtype ≤ 7)
    (hdata : data.length ≤ 208) (hlegal : syncLegal subtype (padTo 16 param) data = true)
    (hmate : s.role n.val = 3 ∧ h.dest = s.moduleId ∧ h.src = (if s.inPair then s.mate else s.fld Fld.PORT_STATUS_NEIGHBOUR n.val))
    {v : State} (hagent : (s.tookMsg n dl ⟨h, .sync subtype tag (padTo 16 param) data⟩).syncArrives subtype (padTo 16 param) data = v) :
    Arrives i s n v := by
  refine arrives_mate hactive httl hexec ?_ rfl hmate
    (fun nb hsrc => ((State.pairArrives_mate hsrc).2.2.2 subtype tag _ data hlegal).trans hagent)
  simp [MsgBody.legal, hsubtype, hdata]

end

/-- Settles O30, message by message. -/
theorem messageCommandsRun : Obligations.MessageCommandsRun := by
  intro s n dl h hactive httl routed ofMate at_
  have hrole (b : MsgBody) : (at_ b).role n.val = s.role n.val := s.fld_tookMsg n dl _ (by decide) _
  have hid (b : MsgBody) : (at_ b).moduleId = s.moduleId := s.fld_tookMsg n dl _ (by decide) _
  have hbound (b : MsgBody) : (at_ b).flag Fld.VIADUCT_STATUS_BOUND 0 = s.flag Fld.VIADUCT_STATUS_BOUND 0 :=
    s.flag_tookMsg n dl _ (by decide) _
  refine ⟨?_, ?_, ?_, ?_, ?_, ?_, ?_, ?_, ?_, ?_, ?_, ?_, ?_, ?_⟩
  · intro tag epoch step offset window data b hlegal
    refine ⟨fun hrouted hown => arrives_own hactive httl rfl hlegal rfl (by simp [b, MsgBody.kind]) hrouted hown rfl, fun hrouted => ?_⟩
    exact arrives_of hactive rfl (State.arrive_unrouted httl hlegal rfl (by simp [b, MsgBody.kind]) (by rwa [hrole]) 0)
  · intro b hlegal hbond hring hrouted hother
    refine arrives_of hactive (congrArg Host.Outcome.next (if_neg hother))
      ((State.arrive_routed httl hlegal hbond hring (by rwa [hrole]) 0).trans (if_neg ?_))
    rwa [hid]
  · intro tag epoch offset window length b hlegal hrouted hown
    exact arrives_own hactive httl rfl hlegal rfl (by simp [b, MsgBody.kind]) hrouted hown rfl
  · intro tag status data b hlegal hrouted hown
    exact arrives_own hactive httl rfl hlegal rfl (by simp [b, MsgBody.kind]) hrouted hown rfl
  · intro c seg side data ext b hlegal
    refine ⟨fun hring => ?_, fun htworole hfree => ?_⟩
    · refine arrives_of hactive rfl ((State.arrive_ring httl hlegal _ _ 0).trans (if_pos ?_))
      rw [hrole, hbound]
      simpa using hring
    · refine arrives_of hactive rfl ((State.arrive_ring httl hlegal _ _ 0).trans (if_neg ?_))
      rw [hrole, hbound]
      simp [htworole, hfree]
  · intro mseq object offset data b hlegal hmate hpair
    exact arrives_mate hactive httl rfl hlegal rfl hmate (fun nb hsrc =>
      (State.pairArrives_mate hsrc).1 mseq object offset data (by rw [s.inPair_tookMsg]; exact hpair))
  · intro mseq step hmate
    refine ⟨arrives_mate hactive httl rfl rfl rfl hmate (fun nb hsrc => ?_),
      arrives_mate hactive httl rfl rfl rfl hmate (fun nb hsrc => ?_)⟩
    · rw [(State.pairArrives_mate hsrc).2.1 mseq step, s.inPair_tookMsg]
    · rw [(State.pairArrives_mate hsrc).2.2.1 mseq step, s.inPair_tookMsg]
  · intro tag mseq hmate hmseq
    obtain ⟨hpad, hzero⟩ := paramOf (param := leBytes 8 mseq) (length_leBytes 8 mseq) (by decide)
    have hread : paramAt (padTo 16 (leBytes 8 mseq)) 0 8 = mseq := by
      rw [hpad]
      exact paramAt_first hmseq _
    refine ⟨arrives_sync hactive httl rfl (by decide) (by decide) ?_ hmate ?_,
      arrives_sync hactive httl rfl (by decide) (by decide) ?_ hmate ?_,
      arrives_sync hactive httl rfl (by decide) (by decide) ?_ hmate ?_⟩
    · exact Bool.and_eq_true_iff.mpr ⟨hzero, rfl⟩
    · rw [State.syncArrives, hread]
    · exact Bool.and_eq_true_iff.mpr ⟨hzero, rfl⟩
    · rw [State.syncArrives, hread]
    · exact Bool.and_eq_true_iff.mpr ⟨hzero, rfl⟩
    · rw [State.syncArrives, hread]
  · intro tag step entries kind hmate hstep hentries hkind t
    obtain ⟨hreadStep, hreadEntries, hreadKind, hzero⟩ := paramOf_three (i := 4) (j := 4) (k := 1) hstep hentries
      (hkind.trans_lt (by decide)) (by decide)
    refine arrives_sync hactive httl rfl (by decide) (by decide) ?_ hmate ?_
    · refine Bool.and_eq_true_iff.mpr ⟨hzero, Bool.and_eq_true_iff.mpr ⟨rfl, decide_eq_true ?_⟩⟩
      rw [hreadKind]
      exact hkind
    · rw [State.syncArrives, hreadStep, hreadEntries, hreadKind]
  · intro tag es hmate hsome hfits hentries t
    obtain ⟨hpad, hzero⟩ := paramOf (param := leBytes 1 es.length) (length_leBytes 1 _) (by decide)
    have hread : paramAt (padTo 16 (leBytes 1 es.length)) 0 1 = es.length := by
      rw [hpad]
      exact paramAt_first (hfits.trans_lt (by decide)) _
    have hlength : (es.flatMap (fun e => leBytes 3 e.1 ++ leBytes 5 e.2)).length = 8 * es.length := by
      simp [List.length_flatMap, length_leBytes, Nat.mul_comm]
    obtain ⟨hmap, hall⟩ := mapEntries_bytes hentries
    refine arrives_sync hactive httl rfl (by decide) (by omega) ?_ hmate ?_
    · unfold syncLegal
      simp only [hzero, hread, hlength, hall, hsome, hfits, decide_true, Bool.and_self]
    · rw [State.syncArrives, hread, hmap]
  · intro tag mseq step reason hmate hmseq hstep hreason
    obtain ⟨hreadMseq, hreadStep, hreadReason, hzero⟩ := paramOf_three (i := 8) (j := 4) (k := 1) (c := reason) hmseq hstep
      (by omega) (by decide)
    refine arrives_sync hactive httl rfl (by decide) (by decide) ?_ hmate ?_
    · unfold syncLegal
      simp only [hzero, hreadReason]
      simpa using hreason
    · rw [State.syncArrives, hreadMseq, hreadStep, hreadReason]
  · intro tag step hmate hstep t
    obtain ⟨hpad, hzero⟩ := paramOf (param := leBytes 4 step) (length_leBytes 4 step) (by decide)
    have hread : paramAt (padTo 16 (leBytes 4 step)) 0 4 = step := by
      rw [hpad]
      exact paramAt_first hstep _
    have hstate : t.pairState = s.pairState := s.fld_tookMsg n dl _ (by decide) 0
    have hsender : t.rejoinSender = s.rejoinSender := by rw [show t = s.tookMsg n dl _ from rfl, State.tookMsg_eq]
    refine arrives_sync hactive httl rfl (by decide) (by decide) ?_ hmate ?_
    · exact Bool.and_eq_true_iff.mpr ⟨hzero, rfl⟩
    · rw [← hstate, ← hsender, State.syncArrives, hread]
      all_goals decide
  · intro trunc tag tSend hops hrouted hown hhops
    have hnow : (at_ (.probe false trunc tag tSend 0 hops)).now = s.now := s.reg_tookMsg n dl _ (by decide) 0
    refine arrives_own hactive httl rfl ?_ rfl (by simp [MsgBody.kind]) hrouted hown ?_
    · simp [MsgBody.legal, hhops]
    · rw [← hnow]
      rfl
  · intro trunc tag tSend tReply hops status hrouted hown hhops
    refine arrives_own hactive httl rfl ?_ rfl (by simp [MsgBody.kind]) hrouted hown rfl
    simp [MsgBody.legal, hhops]

end Sys2Proof.Machine
end

section
/-! PROOFS. PAIR_REJOIN of a receiver whose packet names entries (R431, R450). -/
namespace Sys2Proof.Machine
open Sys2Proof

/-- A receiver of a rejoin that has been sent its FORM still waits for the mate, or it keeps nothing of the pair (R426, R431). -/
def State.rejoinsOrFree (u : State) : Prop := u.pairState = 5 ∨ u.pairing.nonce = 0

theorem State.pairing_finish (s : State) (k : Nat) (c : Cc) (detail : Nat) (result : List Byte) :
    (s.finish k c detail result).pairing = s.pairing := by
  cases h : (s.mailSlot k).running with
  | none => rw [State.finish, h]
  | some p =>
    rw [(State.sent_finish h c detail result).eq]
    rfl

theorem State.pairing_finishOp (s : State) (op : Nat) (c : Cc) (detail : Nat) (result : List Byte) :
    (s.finishOp op c detail result).pairing = s.pairing := by
  unfold State.finishOp
  split
  · exact s.pairing_finish ..
  · rfl

/-- A SYNC to the mate leaves the state of the pair (R420). -/
theorem State.rejoining_sendSync {s : State} (h : s.pairState = 5 ∧ s.rejoinSender = false) (subtype : Nat) (param data : List Byte) :
    (s.sendSync subtype param data).pairState = 5 ∧ (s.sendSync subtype param data).rejoinSender = false := by
  obtain ⟨hstate, hsender⟩ := h
  have hsends := (State.Sends.refl { s with nextRemote := (s.nextRemote + 1) % 2 ^ 32 }).bondSend
    ⟨s.headTo s.mate, .sync subtype s.nextRemote (padTo 16 param) data⟩
  refine ⟨(hsends.fld (f := Fld.PAIR_STATUS_STATE) (by decide) 0).trans hstate, ?_⟩
  rw [State.sendSync, hsends.eq]
  exact hsender

theorem State.rejoining_sendForm {s : State} (h : s.pairState = 5 ∧ s.rejoinSender = false) (kind : Nat) (es : List (Nat × Nat)) :
    (s.sendForm kind es).pairState = 5 ∧ (s.sendForm kind es).rejoinSender = false :=
  foldl_keeps (fun u => u.pairState = 5 ∧ u.rejoinSender = false) _ (fun _ _ hu => State.rejoining_sendSync hu ..) _ _
    (State.rejoining_sendSync h ..)

theorem State.nonce_endRejoin {s : State} (h : s.rejoinSender = false) (c : Cc) (detail : Nat) :
    (s.endRejoin c detail).pairing.nonce = 0 := by
  simp only [State.endRejoin, h, Bool.false_eq_true, if_false]
  rw [State.pairing_finishOp]
  rfl

theorem State.rejoinsOrFree_pairCheck {s : State} (h : s.pairState = 5 ∧ s.rejoinSender = false) : s.pairCheck.rejoinsOrFree := by
  obtain ⟨hstate, hsender⟩ := h
  have hends (c : Cc) (detail : Nat) : (s.endRejoin c detail).rejoinsOrFree := .inr (State.nonce_endRejoin hsender c detail)
  unfold State.pairCheck
  split
  · exact .inl hstate
  · simp only [hstate, hsender, Nat.reduceEqDiff, decide_false, decide_true, Bool.false_and, Bool.and_false, Bool.not_false, Bool.true_and,
      Bool.false_eq_true, if_false]
    refine iteInduction (fun _ => .inl hstate) (fun _ => iteInduction (fun _ => ?_) (fun _ => .inl hstate))
    refine iteInduction (fun _ => hends ..) (fun _ => iteInduction (fun _ => hends ..) (fun _ => ?_))
    split
    · exact hends ..
    · exact .inl hstate

/-- A PAIR_REJOIN of a receiver with one entry, whose mate object is no object number. A receiver gives both counts as 0 (R455). -/
def strangeRejoin : Packet :=
  ⟨0x0503, 0, 0, false, leBytes 2 2 ++ leBytes 1 2 ++ leBytes 1 0 ++ leBytes 2 1 ++ leBytes 2 0 ++ leBytes 8 0 ++ leBytes 4 (2 ^ 22) ++
    leBytes 4 0, false, 0⟩

/-- The bond by port 11 is up to module 2, and the packet runs; the nonce is what a former pair has left. -/
def strangeReceiver : State :=
  ((({ State.reset with
    mail := [(0, { MailSlot.init with running := some strangeRejoin })]
    pairing := { Pairing.init with nonce := 1 } }.setFld Fld.PORT_CFG_ROLE 11 3).setFld Fld.PORT_STATUS_STATE 11 5).setFld
      Fld.PORT_STATUS_NEIGHBOUR 11 2)

/-- The packet is refused with BAD_PARAM (R450). -/
theorem pairRejoin_strange : strangeReceiver.pairRejoin 0 0 none = strangeReceiver.refuse 0 .badParam := by
  have hruns : strangeReceiver.runsPacket 0 0x0503 strangeRejoin := ⟨by decide +kernel, rfl, rfl, by decide +kernel⟩
  have hsender : strangeRejoin.le 2 1 ≠ 1 := by decide
  have hstate : (strangeReceiver.pairState != 0) = false := by decide +kernel
  have hlists : strangeRejoin.le 8 8 = 0 := by decide
  have hentries : strangeReceiver.pairEntriesOk strangeRejoin (strangeRejoin.le 4 2 + strangeRejoin.le 6 2) = false := by decide +kernel
  rw [State.pairRejoin, State.onPacket_runs hruns]
  simp only [hruns.begun, hsender, hstate, State.readEntries, hlists, hentries, if_true, if_false, bne_self_eq_false, Bool.false_and,
    Bool.not_false, Bool.false_eq_true]
  rfl

/-- Refutes O31: the second clause has every receiver of a rejoin begin it, and has no premise on the entries of its packet, which the model
reads and checks for the receiver too: in `strangeReceiver` it is refused. -/
theorem not_pairCommandsRun : ¬ Obligations.PairCommandsRun := by
  intro h
  obtain ⟨-, hreceive, -⟩ := h
  have hruns : strangeReceiver.runsPacket 0 0x0503 strangeRejoin := ⟨by decide +kernel, rfl, rfl, by decide +kernel⟩
  obtain ⟨u, hu, v, hv, hstate, -, hsender, -⟩ := hreceive strangeReceiver 0 strangeRejoin 0 none hruns (by decide) (by decide +kernel)
    (.inl (by decide)) (by decide +kernel)
  obtain rfl : strangeReceiver.refuse 0 .badParam = u := by
    rw [← pairRejoin_strange]
    exact Host.Outcome.next.inj hu
  have hform := State.rejoining_sendForm ⟨hstate, hsender⟩ 2 (v.mirrorObjects.map (fun n => (n, (v.object n).size)))
  obtain hheld | hnonce : (strangeReceiver.refuse 0 .badParam).rejoinsOrFree := hv ▸ State.rejoinsOrFree_pairCheck hform
  · have hfree : (strangeReceiver.refuse 0 .badParam).pairState = strangeReceiver.pairState := State.fld_finish _ _ _ _ _ (by decide) 0
    exact absurd (hfree.symm.trans hheld) (by decide +kernel)
  · rw [State.refuse, State.pairing_finish] at hnonce
    exact absurd hnonce (by decide +kernel)

end Sys2Proof.Machine
end

section
/-! PROOFS. What no operation of the module changes: the owner's fuse banks (R556), and the binding until the module is bound anew or reset
(R291). One lemma for each operation, in the order of the model: `bound_f` says that `f` keeps both, `banks_f` that it keeps the banks. -/
namespace Sys2Proof.Machine
open Sys2Proof

/-- `u` has the owner's fuse banks of `s` (R556). -/
@[simp] abbrev State.SameBanks (s u : State) : Prop :=
  u.programKeys = s.programKeys ∧ u.passwords = s.passwords ∧ u.debugKeys = s.debugKeys

/-- `u` has the binding and the owner's fuse banks of `s`. -/
@[simp] abbrev State.SameBound (s u : State) : Prop := u.binding = s.binding ∧ s.SameBanks u

theorem State.SameBanks.trans {s u v : State} (h : s.SameBanks u) (k : u.SameBanks v) : s.SameBanks v := by
  obtain ⟨hprogram, hpass, hdebug⟩ := h
  obtain ⟨kprogram, kpass, kdebug⟩ := k
  exact ⟨kprogram.trans hprogram, kpass.trans hpass, kdebug.trans hdebug⟩

theorem State.SameBound.trans {s u v : State} (h : s.SameBound u) (k : u.SameBound v) : s.SameBound v := by
  obtain ⟨hbinding, hbanks⟩ := h
  obtain ⟨kbinding, kbanks⟩ := k
  exact ⟨kbinding.trans hbinding, State.SameBanks.trans hbanks kbanks⟩

/-! A pass whose every turn keeps them does, also one that carries something else along. -/

theorem banks_foldl_of {α γ : Type} (g : γ → State) {f : γ → α → γ} (h : ∀ a x, (g a).SameBanks (g (f a x))) (l : List α) (a : γ) :
    (g a).SameBanks (g (l.foldl f a)) := by
  induction l generalizing a with
  | nil => exact ⟨rfl, rfl, rfl⟩
  | cons x l ih => exact (h a x).trans (ih _)

theorem bound_foldl_of {α γ : Type} (g : γ → State) {f : γ → α → γ} (h : ∀ a x, (g a).SameBound (g (f a x))) (l : List α) (a : γ) :
    (g a).SameBound (g (l.foldl f a)) := by
  induction l generalizing a with
  | nil => exact ⟨rfl, rfl, rfl, rfl⟩
  | cons x l ih => exact (h a x).trans (ih _)

@[simp] theorem State.banks_foldl {α : Type} {f : State → α → State} (h : ∀ (s : State) (x : α), s.SameBanks (f s x)) (l : List α)
    (s : State) : s.SameBanks (l.foldl f s) :=
  banks_foldl_of (fun u => u) h l s

@[simp] theorem State.binding_foldl {α : Type} {f : State → α → State} (h : ∀ (s : State) (x : α), (f s x).binding = s.binding)
    (l : List α) (s : State) : (l.foldl f s).binding = s.binding :=
  foldl_keeps (fun u => u.binding = s.binding) f (fun u x hu => (h u x).trans hu) l s rfl

theorem State.bound_foldl {α : Type} {f : State → α → State} (h : ∀ (s : State) x, s.SameBound (f s x)) (l : List α) (s : State) :
    s.SameBound (l.foldl f s) :=
  bound_foldl_of (fun u => u) h l s

@[simp] theorem banks_foldl_snd {α γ : Type} {f : γ × State → α → γ × State} (h : ∀ (a : γ × State) x, a.2.SameBanks (f a x).2)
    (l : List α) (a : γ × State) : a.2.SameBanks (l.foldl f a).2 :=
  banks_foldl_of Prod.snd h l a

@[simp] theorem bound_foldl_fst {α γ : Type} {f : State × γ → α → State × γ} (h : ∀ (a : State × γ) x, a.1.SameBound (f a x).1)
    (l : List α) (a : State × γ) : a.1.SameBound (l.foldl f a).1 :=
  bound_foldl_of Prod.fst h l a

@[simp] theorem bound_foldl_snd {α γ : Type} {f : γ × State → α → γ × State} (h : ∀ (a : γ × State) x, a.2.SameBound (f a x).2)
    (l : List α) (a : γ × State) : a.2.SameBound (l.foldl f a).2 :=
  bound_foldl_of Prod.snd h l a

/-! A conditional has each of them from its branches. -/

@[simp] theorem State.binding_ite {c : Prop} [Decidable c] (a b : State) :
    (if c then a else b).binding = if c then a.binding else b.binding := apply_ite State.binding c a b

@[simp] theorem State.programKeys_ite {c : Prop} [Decidable c] (a b : State) :
    (if c then a else b).programKeys = if c then a.programKeys else b.programKeys := apply_ite State.programKeys c a b

@[simp] theorem State.passwords_ite {c : Prop} [Decidable c] (a b : State) :
    (if c then a else b).passwords = if c then a.passwords else b.passwords := apply_ite State.passwords c a b

@[simp] theorem State.debugKeys_ite {c : Prop} [Decidable c] (a b : State) :
    (if c then a else b).debugKeys = if c then a.debugKeys else b.debugKeys := apply_ite State.debugKeys c a b

/-! The operations that the meanings share. -/

@[simp] theorem State.bound_fresh (s : State) : s.SameBound (s.fresh).2 := by
  simp [State.fresh]

@[simp] theorem State.bound_setPctl (s : State) (ps : List PierIx) (v : Nat) : s.SameBound (s.setPctl ps v) := by
  simp [State.setPctl]

@[simp] theorem State.bound_unstall (s : State) (d : Dom) : s.SameBound (s.unstall d) := by
  simp [State.unstall]

@[simp] theorem State.bound_hold (s : State) (failed : Bool) (i : Instr) : s.SameBound (s.hold failed i) := by
  simp [State.hold]

/-! Flags, events and faults. -/

@[simp] theorem State.bound_notify (s : State) (c : Code) (cls level srcKind srcIndex detail : Nat) :
    s.SameBound (s.notify c cls level srcKind srcIndex detail) := by
  simp [State.notify]

@[simp] theorem State.bound_event (s : State) (c : Code) (srcKind srcIndex detail : Nat) :
    s.SameBound (s.event c srcKind srcIndex detail) := by
  simp [State.event]

@[simp] theorem State.bound_flagEvent (s : State) (f : Fld) (i : Nat) (c : Code) (srcKind srcIndex detail : Nat) :
    s.SameBound (s.flagEvent f i c srcKind srcIndex detail) := by
  simp [State.flagEvent]

@[simp] theorem State.bound_failStep (s : State) (c : Code) (logical slot : Nat) : s.SameBound (s.failStep c logical slot) := by
  simp [State.failStep]

@[simp] theorem State.bound_recordFault (s : State) (p : PierIx) (t : Nat) (c : Code) : s.SameBound (s.recordFault p t c) := by
  simp [State.recordFault]

@[simp] theorem State.bound_atCycle {s : State} {f : State → State} (p : PierIx) (t : Nat) (h : s.SameBound (f s)) :
    s.SameBound (s.atCycle p t f) := by
  unfold State.atCycle
  dsimp only
  split
  · exact iteInduction (fun _ => h) (fun _ => h)
  · exact h

@[simp] theorem State.bound_contain (s : State) (p : PierIx) (t : Nat) (c : Code) (detail : Nat) :
    s.SameBound (s.contain p t c detail) := by
  simp [State.contain]

@[simp] theorem State.bound_containFlag (s : State) (f : Fld) (i : Nat) (p : PierIx) (t : Nat) (c : Code) (detail : Nat) :
    s.SameBound (s.containFlag f i p t c detail) := by
  simp [State.containFlag]

@[simp] theorem State.bound_flagsEvent (s : State) (fs : List (Fld × Nat)) (c : Code) (srcKind srcIndex detail : Nat) :
    s.SameBound (s.flagsEvent fs c srcKind srcIndex detail) := by
  simp [State.flagsEvent]

@[simp] theorem State.bound_containFlags (s : State) (fs : List (Fld × Nat)) (p : PierIx) (t : Nat) (c : Code) (detail : Nat) :
    s.SameBound (s.containFlags fs p t c detail) := by
  simp [State.containFlags]

@[simp] theorem State.bound_archFault (s : State) (f : Fld) (p : PierIx) (a : ArchIx) (t : Nat) (c : Code) :
    s.SameBound (s.archFault f p a t c) := by
  simp [State.archFault]

/-! The watch tables of the gates. -/

@[simp] theorem State.bound_countWatch (s : State) (g : Nat) : s.SameBound (s.countWatch g) := by
  simp [State.countWatch]

theorem State.bound_addWatch {s t : State} {g : Nat} {e : WatchEntry} (h : s.addWatch g e = some t) : s.SameBound t := by
  obtain ⟨k, -, rfl⟩ := Option.map_eq_some_iff.1 h
  simp

@[simp] theorem State.bound_addWatches (s : State) (l : List (Nat × WatchEntry)) : s.SameBound (s.addWatches l).1 := by
  induction l generalizing s with
  | nil => simp [State.addWatches]
  | cons x l ih =>
    unfold State.addWatches
    split
    · next h =>
      have hs := State.bound_addWatch h
      simp [ih, hs]
    · simp [ih]

@[simp] theorem State.bound_setTag (s : State) (x : Tag) : s.SameBound (s.setTag x) := by
  simp [State.setTag]

@[simp] theorem State.bound_wakeWatches (s : State) : s.SameBound s.wakeWatches := by
  simp [State.wakeWatches]

@[simp] theorem State.bound_dropWatches (s : State) (f : WatchEntry → Bool) : s.SameBound (s.dropWatches f) := by
  simp [State.dropWatches]

@[simp] theorem State.bound_unwatch (s : State) (p : PierIx) (k : Nat) : s.SameBound (s.unwatch p k) := by
  simp [State.unwatch]

@[simp] theorem State.bound_noticeWrite (s : State) (w : Writer) (g a n : Nat) : s.SameBound (s.noticeWrite w g a n) := by
  simp [State.noticeWrite]

theorem State.bound_takeNotice {s : State} {p : PierIx} {n : StaleNotice} {t : State} (h : s.takeNotice p = some (n, t)) :
    s.SameBound t := by
  unfold State.takeNotice at h
  split at h
  · cases h
  · obtain ⟨rfl, rfl⟩ := Prod.mk.inj (Option.some.inj h)
    simp

/-! The deck store. -/

@[simp] theorem State.bound_writeRow (s : State) (p : PierIx) (k n : Nat) (x : Row) : s.SameBound (s.writeRow p k n x) := by
  simp [State.writeRow]

@[simp] theorem State.bound_writeRows (s : State) (p : PierIx) (k : Nat) (xs : List (Nat × Row)) : s.SameBound (s.writeRows p k xs) := by
  simp [State.writeRows]

@[simp] theorem State.bound_writeSide (s : State) (p : PierIx) (r : RegionIx) (i : Nat) (t : Tile) : s.SameBound (s.writeSide p r i t) := by
  simp [State.writeSide]

@[simp] theorem State.bound_writeTile (s : State) (p : PierIx) (r : RegionIx) (i : Nat) (t : Tile) : s.SameBound (s.writeTile p r i t) := by
  simp [State.writeTile]

@[simp] theorem State.bound_poisonSlot (s : State) (p : PierIx) (k : Nat) : s.SameBound (s.poisonSlot p k) := by
  simp [State.poisonSlot]

@[simp] theorem State.bound_eccRead (s : State) (p : PierIx) (k a n : Nat) : s.SameBound (s.eccRead p k a n).1 := by
  unfold State.eccRead
  dsimp only
  split <;> simp

@[simp] theorem State.bound_eccRow (s : State) (p : PierIx) (r : RegionIx) (i n : Nat) : s.SameBound (s.eccRow p r i n).1 := by
  unfold State.eccRow
  split <;> simp

@[simp] theorem State.bound_eccTile (s : State) (p : PierIx) (r : RegionIx) (i : Nat) : s.SameBound (s.eccTile p r i).1 := by
  unfold State.eccTile
  split <;> simp

@[simp] theorem State.bound_reserve (s : State) (p : PierIx) (r : RegionIx) : s.SameBound (s.reserve p r) := by
  simp [State.reserve]

@[simp] theorem State.bound_land (s : State) (p : PierIx) (r : RegionIx) (i : Nat) : s.SameBound (s.land p r i) := by
  simp [State.land]

@[simp] theorem State.bound_landIn (s : State) (p : PierIx) (r : RegionIx) (i t : Nat) : s.SameBound (s.landIn p r i t) := by
  simp [State.landIn]

@[simp] theorem State.bound_setGang (s : State) (j : Nat) (g : Gang) : s.SameBound (s.setGang j g) := by
  simp [State.setGang]

@[simp] theorem State.bound_lowerGang (s : State) (p : PierIx) (r : RegionIx) : s.SameBound (s.lowerGang p r) := by
  unfold State.lowerGang
  split <;> simp

@[simp] theorem State.bound_leave (s : State) (p : PierIx) (r : RegionIx) (i : Nat) : s.SameBound (s.leave p r i) := by
  unfold State.leave
  dsimp only
  split <;> simp

@[simp] theorem State.bound_release (s : State) (p : PierIx) (r : RegionIx) : s.SameBound (s.release p r) := by
  simp [State.release]

@[simp] theorem State.bound_releaseIn (s : State) (p : PierIx) (r : RegionIx) (t : Nat) : s.SameBound (s.releaseIn p r t) := by
  simp [State.releaseIn]

@[simp] theorem State.bound_flip (s : State) (p : PierIx) (r : RegionIx) : s.SameBound (s.flip p r) := by
  unfold State.flip
  split <;> simp

@[simp] theorem State.bound_noteWait (s : State) (p : PierIx) (x : RegionIx × Option (Nat × Bool)) : s.SameBound (s.noteWait p x) := by
  unfold State.noteWait
  split <;> simp

@[simp] theorem State.bound_noteRead (s : State) (p : PierIx) (r : RegionIx) (i : Nat) : s.SameBound (s.noteRead p r i) := by
  unfold State.noteRead
  dsimp only
  split <;> simp

@[simp] theorem State.bound_noteStale (s : State) (p : PierIx) (r : RegionIx) (i : Nat) : s.SameBound (s.noteStale p r i) := by
  unfold State.noteStale
  dsimp only
  split <;> simp

@[simp] theorem State.bound_slotUe (s : State) (p : PierIx) (k region t : Nat) : s.SameBound (s.slotUe p k region t) := by
  simp [State.slotUe]

@[simp] theorem State.bound_deckUe (s : State) (p : PierIx) (r : RegionIx) (t i : Nat) : s.SameBound (s.deckUe p r t i) := by
  simp [State.deckUe]

@[simp] theorem State.bound_readOut (s : State) (p : PierIx) (r : RegionIx) (t i : Nat) : s.SameBound (s.readOut p r t i).2 := by
  simp [State.readOut]

@[simp] theorem State.bound_eccWindow (s : State) (p : PierIx) (a n : Nat) : s.SameBound (s.eccWindow p a n) := by
  simp [State.eccWindow]

@[simp] theorem State.bound_countSkew (s : State) (p : PierIx) (tag : Nat) : s.SameBound (s.countSkew p tag) := by
  simp [State.countSkew]

@[simp] theorem State.bound_readFault (s : State) (p : PierIx) (r : RegionIx) (t : Nat) (c : Code) (i : Option Nat)
    (fm : Option (Fld × Nat)) (arch : Nat) (load : Option (Fld × Nat)) :
    s.SameBound (s.readFault p r t c i fm arch load) := by
  unfold State.readFault
  repeat' split
  all_goals simp

@[simp] theorem State.bound_grantPort (s : State) (p : PierIx) (req port : Nat) : s.SameBound (s.grantPort p req port) := by
  simp [State.grantPort]

@[simp] theorem State.bound_grantPorts (s : State) (p : PierIx) (req : Nat) (ports : List Nat) :
    s.SameBound (s.grantPorts p req ports) := by
  simp [State.grantPorts]

@[simp] theorem State.bound_claim (s : State) (p : PierIx) (slot order : Nat) (ports : List Nat) (issued : Bool) :
    s.SameBound (s.claim p slot order ports issued) := by
  simp [State.claim]

@[simp] theorem State.bound_dropClaims (s : State) (p : PierIx) (slot : Nat) (phantom : Bool) :
    s.SameBound (s.dropClaims p slot phantom) := by
  simp [State.dropClaims]

@[simp] theorem State.bound_revokes (s : State) (p : PierIx) : s.SameBound (s.revokes p) := by
  simp [State.revokes]

/-! The mailbox. -/

@[simp] theorem State.bound_setMail (s : State) (k : Nat) (x : MailSlot) : s.SameBound (s.setMail k x) := by
  simp [State.setMail]

@[simp] theorem State.bound_jwSend (s : State) (k : JwKind) (a : Nat) (bs : List Byte) : s.SameBound (s.jwSend k a bs) := by
  unfold State.jwSend
  split <;> simp

@[simp] theorem State.bound_jwWrite (s : State) (k : JwKind) (a : Nat) (bs : List Byte) : s.SameBound (s.jwWrite k a bs) := by
  simp [State.jwWrite]

@[simp] theorem State.bound_pumpHeld (s : State) : s.SameBound s.pumpHeld := by
  simp [State.pumpHeld]

@[simp] theorem State.bound_jwRead (s : State) (a n : Nat) (shared : Bool) : s.SameBound (s.jwRead a n shared) := by
  simp [State.jwRead]

@[simp] theorem State.bound_jwPoison (s : State) (a : Nat) : s.SameBound (s.jwPoison a) := by
  simp [State.jwPoison]

@[simp] theorem State.bound_bufferWrite (s : State) (a : Nat) (bs : List Byte) : s.SameBound (s.bufferWrite a bs) := by
  simp [State.bufferWrite]

@[simp] theorem State.bound_sendReply (s : State) (k : Nat) : s.SameBound (s.sendReply k) := by
  simp [State.sendReply]

@[simp] theorem State.bound_mailReply (s : State) (k : Nat) (p : Packet) (state status detail : Nat) (result : List Byte) :
    s.SameBound (s.mailReply k p state status detail result) := by
  simp [State.mailReply]

@[simp] theorem State.bound_countRunning (s : State) : s.SameBound s.countRunning := by
  simp [State.countRunning]

@[simp] theorem State.bound_finish (s : State) (k : Nat) (c : Cc) (detail : Nat) (result : List Byte) :
    s.SameBound (s.finish k c detail result) := by
  unfold State.finish
  split <;> simp

@[simp] theorem State.bound_refuse (s : State) (k : Nat) (c : Cc) : s.SameBound (s.refuse k c) := by
  simp [State.refuse]

@[simp] theorem State.bound_hostFaulted (s : State) (k : Nat) (status : Fin 4) (a : Nat) : s.SameBound (s.hostFaulted k status a) := by
  simp [State.hostFaulted]

@[simp] theorem State.bound_finishBuffer (s : State) (k : Nat) (status : Fin 4) (a : Nat) (bs result : List Byte) :
    s.SameBound (s.finishBuffer k status a bs result) := by
  simp [State.finishBuffer]

@[simp] theorem State.bound_onPacket {s : State} (k : MailIx) (op : Nat) {f : Packet → State} (h : ∀ p, s.SameBound (f p)) :
    s.SameBound (s.onPacket k op f) := by
  unfold State.onPacket
  split
  · exact iteInduction (fun _ => h _) (fun _ => ⟨rfl, rfl, rfl, rfl⟩)
  · exact ⟨rfl, rfl, rfl, rfl⟩

@[simp] theorem State.banks_onPacket {s : State} (k : MailIx) (op : Nat) {f : Packet → State} (h : ∀ p, s.SameBanks (f p)) :
    s.SameBanks (s.onPacket k op f) := by
  unfold State.onPacket
  split
  · exact iteInduction (fun _ => h _) (fun _ => ⟨rfl, rfl, rfl⟩)
  · exact ⟨rfl, rfl, rfl⟩

@[simp] theorem State.bound_beginPacket (s : State) (k : Nat) : s.SameBound (s.beginPacket k) := by
  simp [State.beginPacket]

/-! The gates and their stacks. -/

@[simp] theorem State.bound_setMode (s : State) (b : Nat) (loc : Bool) : s.SameBound (s.setMode b loc) := by
  simp [State.setMode]

@[simp] theorem State.bound_setGate (s : State) (g : Nat) (x : Gate) : s.SameBound (s.setGate g x) := by
  simp [State.setGate]

@[simp] theorem State.bound_serveOne (s : State) (g ch : Nat) : s.SameBound (s.serveOne g ch) := by
  unfold State.serveOne
  dsimp only
  split <;> simp

@[simp] theorem State.bound_serveBursts (s : State) (g : Nat) : s.SameBound (s.serveBursts g) := by
  simp [State.serveBursts]

@[simp] theorem State.bound_openGate (s : State) (g : Nat) : s.SameBound (s.openGate g) := by
  simp [State.openGate]

@[simp] theorem State.bound_burst (s : State) (x : Place) (cls n : Nat) : s.SameBound (s.burst x cls n) := by
  simp [State.burst]

@[simp] theorem State.bound_errorAt (s : State) (a ue stored scrub : Nat) : s.SameBound (s.errorAt a ue stored scrub) := by
  simp [State.errorAt]

@[simp] theorem State.bound_memUe (s : State) (g a : Nat) : s.SameBound (s.memUe g a) := by
  simp [State.memUe]

@[simp] theorem State.bound_trackRow (s : State) (x : Place) : s.SameBound (s.trackRow x) := by
  simp [State.trackRow]

@[simp] theorem State.bound_memCe (s : State) (a scrub : Nat) : s.SameBound (s.memCe a scrub) := by
  simp [State.memCe]

@[simp] theorem State.bound_setStored (s : State) (a : Nat) (v : Bool) : s.SameBound (s.setStored a v) := by
  simp [State.setStored]

@[simp] theorem State.bound_setFlaw (s : State) (a n : Nat) : s.SameBound (s.setFlaw a n) := by
  simp [State.setFlaw]

@[simp] theorem State.bound_decodeBlock (s0 : State) (a fresh scrub : Nat) : s0.SameBound (s0.decodeBlock a fresh scrub).2 := by
  unfold State.decodeBlock
  dsimp only
  repeat' split
  all_goals simp

@[simp] theorem State.bound_leaveFlaw (s : State) (a n : Nat) (u : Upset) : s.SameBound (s.leaveFlaw a n u) := by
  unfold State.leaveFlaw
  split <;> simp

@[simp] theorem State.bound_gateRead (s : State) (cls a n : Nat) (u : Upset) : s.SameBound (s.gateRead cls a n u).2 := by
  simp [State.gateRead]

@[simp] theorem State.bound_writeBlock (s : State) (cls b a : Nat) (bs : List Byte) (rmw bad : Bool) (u : Upset) :
    s.SameBound (s.writeBlock cls b a bs rmw bad u).2 := by
  unfold State.writeBlock
  dsimp only
  repeat' split
  all_goals simp

@[simp] theorem State.bound_noticeRange (s : State) (w : Writer) (a n : Nat) : s.SameBound (s.noticeRange w a n) := by
  simp [State.noticeRange]

@[simp] theorem State.bound_gateWrite (s : State) (w : Writer) (cls a : Nat) (bs : List Byte) (bad : Bool) (u : Upset) :
    s.SameBound (s.gateWrite w cls a bs bad u).2 := by
  simp [State.gateWrite]

@[simp] theorem State.bound_setSoft (s : State) (g channel k : Nat) (h : Option HardRepair) : s.SameBound (s.setSoft g channel k h) := by
  unfold State.setSoft
  split <;> simp

@[simp] theorem State.bound_repairFail (s : State) (g : Nat) (r : Repair) (result : Nat) : s.SameBound (s.repairFail g r result) := by
  simp [State.repairFail]

@[simp] theorem State.bound_repairDone (s : State) (g : Nat) (r : Repair) (result : Nat) : s.SameBound (s.repairDone g r result) := by
  simp [State.repairDone]

@[simp] theorem State.bound_copyRow (s : State) (g channel bank row : Nat) (symbols : List Nat) :
    s.SameBound (s.copyRow g channel bank row symbols) := by
  simp [State.copyRow]

/-! The link layer of the Paune ports. -/

@[simp] theorem State.bound_setLink (s : State) (n : Nat) (x : Link) : s.SameBound (s.setLink n x) := by
  simp [State.setLink]

@[simp] theorem State.bound_setPortState (s : State) (n v : Nat) : s.SameBound (s.setPortState n v) := by
  simp [State.setPortState]

@[simp] theorem State.bound_emitAs (s : State) (n : Nat) (f : Flit) (g : Flit → OutMsg) : s.SameBound (s.emitAs n f g) := by
  simp [State.emitAs]

@[simp] theorem State.bound_emitNull (s : State) (n : Nat) : s.SameBound (s.emitNull n) := by
  simp [State.emitNull]

@[simp] theorem State.bound_emitFlit (s : State) (n : Nat) (f : Flit) : s.SameBound (s.emitFlit n f) := by
  simp [State.emitFlit]

@[simp] theorem State.bound_emitLink (s : State) (n : Nat) (payload : List Byte) : s.SameBound (s.emitLink n payload) := by
  simp [State.emitLink]

@[simp] theorem State.bound_emitStart (s : State) (n : Nat) : s.SameBound (s.emitStart n) := by
  simp [State.emitStart]

@[simp] theorem State.bound_emitRecover (s : State) (n : Nat) : s.SameBound (s.emitRecover n) := by
  simp [State.emitRecover]

@[simp] theorem State.bound_emitHello (s : State) (n : Nat) (h : Hello) : s.SameBound (s.emitHello n h) := by
  simp [State.emitHello]

@[simp] theorem State.bound_oweVc (s : State) (n vc flits : Nat) : s.SameBound (s.oweVc n vc flits) := by
  simp [State.oweVc]

@[simp] theorem State.bound_emitRetryReq (s : State) (n : Nat) : s.SameBound (s.emitRetryReq n) := by
  simp [State.emitRetryReq]

@[simp] theorem State.bound_pump (n fuel : Nat) (s : State) : s.SameBound (State.pump n fuel s) := by
  induction fuel generalizing s with
  | zero => simp [State.pump]
  | succ fuel ih =>
    unfold State.pump
    dsimp only
    repeat' split
    all_goals simp [ih]

@[simp] theorem State.bound_pumpAll (s : State) (n : Nat) : s.SameBound (s.pumpAll n) := by
  simp [State.pumpAll]

@[simp] theorem State.bound_putFlits (s : State) (n vc : Nat) (fs : List (Flit × Option (Nat × Nat))) :
    s.SameBound (s.putFlits n vc fs) := by
  simp [State.putFlits]

@[simp] theorem State.bound_enqueue (s : State) (n : Nat) (m : Msg) (dl : Nat) : s.SameBound (s.enqueue n m dl) := by
  simp [State.enqueue]

@[simp] theorem State.bound_enqueueOn (s : State) (n : Nat) (m : Msg) (dl p v k : Nat) : s.SameBound (s.enqueueOn n m dl p v k) := by
  simp [State.enqueueOn]

@[simp] theorem State.bound_takeAck (s : State) (n : Nat) (f : Flit) : s.SameBound (s.takeAck n f) := by
  simp [State.takeAck]

@[simp] theorem State.bound_takeSide (s : State) (n : Nat) (a : LinkSide) : s.SameBound (s.takeSide n a) := by
  simp [State.takeSide]

@[simp] theorem State.bound_enterRecovery (s : State) (n : Nat) : s.SameBound (s.enterRecovery n) := by
  simp [State.enterRecovery]

@[simp] theorem State.bound_resend (s : State) (n i : Nat) : s.SameBound (s.resend n i) := by
  simp [State.resend]

@[simp] theorem State.bound_clearLink (s : State) (n : Nat) : s.SameBound (s.clearLink n) := by
  simp [State.clearLink]

@[simp] theorem State.bound_bondSend (s : State) (m : Msg) : s.SameBound (s.bondSend m) := by
  unfold State.bondSend
  split <;> simp

theorem State.bound_tryRoute {s t : State} {m : Msg} {dl : Nat} {from_ : Option Nat} (h : s.tryRoute m dl from_ = some t) :
    s.SameBound t := by
  unfold State.tryRoute at h
  split at h
  · cases h
    simp
  · cases h
    simp
  · cases h

@[simp] theorem State.bound_dropMsg (s : State) (f : Fld) (count : Fld) (c : Code) (m : Msg) : s.SameBound (s.dropMsg f count c m) := by
  unfold State.dropMsg
  dsimp only
  split
  · simp
  · split
    · simp
    · split
      · next h => simpa using State.bound_tryRoute h
      · simp

@[simp] theorem State.bound_post (s : State) (m : Msg) : s.SameBound (s.post m) := by
  unfold State.post
  cases h : s.tryRoute m 0 none with
  | none => simp
  | some t => exact State.bound_tryRoute h

@[simp] theorem State.bound_malformedAs (s : State) (detail : Nat) : s.SameBound (s.malformedAs detail) := by
  simp [State.malformedAs]

@[simp] theorem State.bound_malformed (s : State) (m : Msg) : s.SameBound (s.malformed m) := by
  simp [State.malformed]

@[simp] theorem State.bound_answer (s : State) (m : OutMsg) : s.SameBound (s.answer m) := by
  unfold State.answer
  split <;> simp

@[simp] theorem State.bound_finishWrite (s : State) (w : Writer) (m : OutMsg) : s.SameBound (s.finishWrite w m) := by
  simp [State.finishWrite]

@[simp] theorem State.bound_closeWrites (s : State) : s.SameBound s.closeWrites := by
  simp [State.closeWrites]

/-! Objects and their homes. -/

@[simp] theorem State.bound_setObject (s : State) (n : Nat) (x : ObjRec) : s.SameBound (s.setObject n x) := by
  simp [State.setObject]

@[simp] theorem State.bound_setHome (s : State) (i : Nat) (x : HomeEntry) : s.SameBound (s.setHome i x) := by
  simp [State.setHome]

@[simp] theorem State.bound_setWindow (s : State) (i : Nat) (x : Window) : s.SameBound (s.setWindow i x) := by
  simp [State.setWindow]

@[simp] theorem State.bound_touch (s : State) (i : Nat) : s.SameBound (s.touch i) := by
  simp [State.touch]

@[simp] theorem State.bound_askBringUp (s : State) (i : Nat) : s.SameBound (s.askBringUp i) := by
  simp [State.askBringUp]

@[simp] theorem State.bound_parapetWrite (s : State) (p : PierIx) (object o : Nat) : s.SameBound (s.parapetWrite p object o) := by
  simp [State.parapetWrite]

@[simp] theorem State.bound_countLog (s : State) : s.SameBound s.countLog := by
  simp [State.countLog]

@[simp] theorem State.bound_logMirror (s : State) (x : MirrorWrite) : s.SameBound (s.logMirror x) := by
  simp [State.logMirror]

@[simp] theorem State.bound_forward (s : State) (w : Writer) (x : MirrorWrite) : s.SameBound (s.forward w x) := by
  simp [State.forward]

@[simp] theorem State.bound_fillLog (fuel : Nat) (s : State) : s.SameBound (State.fillLog fuel s) := by
  induction fuel generalizing s with
  | zero => simp [State.fillLog]
  | succ fuel ih =>
    unfold State.fillLog
    split
    · simp
    · split
      · simp [ih]
      · simp

@[simp] theorem State.bound_freeLog (s : State) (n : Nat) : s.SameBound (s.freeLog n) := by
  simp [State.freeLog]

/-! The window unit. -/

@[simp] theorem State.bound_askRuns (s : State) (rs : List Run) : s.SameBound (s.askRuns rs) := by
  unfold State.askRuns
  exact State.bound_foldl (fun s x => by split <;> simp) _ _

@[simp] theorem State.bound_touchRuns (s : State) (rs : List Run) : s.SameBound (s.touchRuns rs) := by
  unfold State.touchRuns
  exact State.bound_foldl (fun s x => by split <;> simp) _ _

@[simp] theorem State.bound_hostPoison (s : State) (a n object o : Nat) : s.SameBound (s.hostPoison a n object o) := by
  simp [State.hostPoison]

@[simp] theorem State.bound_homeWrite (s : State) (w : Writer) (cls a : Nat) (bs : List Byte) (bad : Bool) (object o : Nat) :
    s.SameBound (s.homeWrite w cls a bs bad object o).2 := by
  unfold State.homeWrite
  repeat' split
  all_goals simp

@[simp] theorem State.bound_forwardRun (s : State) (w : Writer) (object o a : Nat) (bs : List Byte) (bad : Bool) :
    s.SameBound (s.forwardRun w object o a bs bad) := by
  simp [State.forwardRun]

@[simp] theorem State.bound_refuseRemote (s : State) (m : Msg) (x : RemoteAccess) (status : Nat) (count : Fld) :
    s.SameBound (s.refuseRemote m x status count) := by
  simp [State.refuseRemote]

@[simp] theorem State.bound_applyRemote (s : State) (m : Msg) (x : RemoteAccess) (object o : Nat) (rs : List Run) :
    s.SameBound (s.applyRemote m x object o rs) := by
  unfold State.applyRemote
  dsimp only
  split
  · simp
  · split
    · simp
    · refine .trans (.trans ?_ (bound_foldl_snd (fun acc r => by split <;> simp) _ _)) (State.bound_finishWrite ..)
      simp

@[simp] theorem State.bound_answerRead (s : State) (m : Msg) (x : RemoteAccess) (rs : List Run) : s.SameBound (s.answerRead m x rs) := by
  unfold State.answerRead
  dsimp only
  refine .trans (.trans ?_ (bound_foldl_of (fun acc : Bool × List Byte × State => acc.2.2) (fun acc r => ?_) _ _)) (State.bound_post ..)
  · simp
  · split
    · dsimp only
      split <;> simp
    · simp

@[simp] theorem State.bound_passRemote (s : State) (w : WindowWait) (x : RemoteAccess) (first : Bool) :
    s.SameBound (s.passRemote w x first) := by
  simp [State.passRemote]

@[simp] theorem State.bound_remoteArrives (s : State) (m : Msg) : s.SameBound (s.remoteArrives m) := by
  unfold State.remoteArrives
  repeat' split
  all_goals simp

@[simp] theorem State.bound_retryRemote (s : State) (w : WindowWait) : s.SameBound (s.retryRemote w) := by
  unfold State.retryRemote
  split <;> simp

@[simp] theorem State.bound_wakeWindows (s : State) : s.SameBound s.wakeWindows := by
  simp [State.wakeWindows]

/-! The fetches of the approach and copy engines. -/

@[simp] theorem State.bound_sendRemotes (s : State) (x : Tag) (again : Bool) : s.SameBound (s.sendRemotes x again) := by
  unfold State.sendRemotes
  refine State.bound_foldl (fun s e => ?_) _ _
  split
  · dsimp only
    split
    · simp
    · split
      · split <;> simp
      · simp
  · simp

@[simp] theorem State.bound_freeTag (s : State) (x : Tag) : s.SameBound (s.freeTag x) := by
  simp [State.freeTag]

@[simp] theorem State.bound_countTags (s : State) (p : PierIx) : s.SameBound (s.countTags p) := by
  simp [State.countTags]

@[simp] theorem State.bound_landTag (s : State) (x : Tag) : s.SameBound (s.landTag x) := by
  unfold State.landTag
  repeat' split
  all_goals simp

@[simp] theorem State.bound_checkTag (s : State) (x : Tag) : s.SameBound (s.checkTag x) := by
  simp [State.checkTag]

@[simp] theorem State.bound_prepare (s : State) (x : Tag) (w : Walk) : s.SameBound (s.prepare x w) := by
  simp [State.prepare]

@[simp] theorem State.bound_plan (s : State) (x : Tag) : s.SameBound (s.plan x) := by
  simp [State.plan]

@[simp] theorem State.bound_wakeTags (s : State) : s.SameBound s.wakeTags := by
  simp [State.wakeTags]

@[simp] theorem State.bound_putPiece (s : State) (x : Tag) (pc : Piece) (bs : List Byte) : s.SameBound (s.putPiece x pc bs) := by
  unfold State.putPiece
  split <;> simp

@[simp] theorem State.bound_answerTag (s : State) (x : Tag) (i : Nat) (fault : Option Code) (off : Option Nat) (data : List (List Byte)) :
    s.SameBound (s.answerTag x i fault off data) := by
  unfold State.answerTag
  repeat' split
  all_goals simp

@[simp] theorem State.bound_hostReads (s : State) (a n : Nat) (u : Upset) : s.SameBound (s.hostReads a n u).2 := by
  simp [State.hostReads]

@[simp] theorem State.bound_readRequest (s : State) (q : Request) (u : Upset) : s.SameBound (s.readRequest q u).2.2 := by
  unfold State.readRequest
  refine .trans ?_ (bound_foldl_of (fun acc : List (List Byte) × Option Nat × State => acc.2.2) (fun acc pc => ?_) _ _)
  · simp
  · dsimp only
    split <;> simp

@[simp] theorem State.bound_wake (s : State) : s.SameBound s.wake := by
  unfold State.wake
  refine .trans (State.bound_foldl (fun s x => ?_) _ _) (State.bound_wakeWindows _)
  split
  · split <;> simp
  · simp

@[simp] theorem State.bound_openTag (s : State) (p : PierIx) (num : Nat) (o : TagOwner) (i : Nat) (r : RegionIx) (idx : Nat)
    (refetch : Bool) :
    s.SameBound (s.openTag p num o i r idx refetch) := by
  unfold State.openTag
  split <;> simp

@[simp] theorem State.bound_regionInvalid (s : State) (p : PierIx) (r : RegionIx) : s.SameBound (s.regionInvalid p r) := by
  simp [State.regionInvalid]

@[simp] theorem State.bound_setGangBits (s : State) (f : Fld) (p : PierIx) (n g : Nat) (v : Bool) :
    s.SameBound (s.setGangBits f p n g v) := by
  simp [State.setGangBits]

@[simp] theorem State.bound_startGang (s : State) (p : PierIx) (n : Fin 16) : s.SameBound (s.startGang p n) := by
  simp [State.startGang]

@[simp] theorem State.bound_allocGang (s : State) (p : PierIx) (num : Nat) (n : Fin 16) : s.SameBound (s.allocGang p num n) := by
  simp [State.allocGang]

@[simp] theorem State.bound_allocRefetch (s : State) (p : PierIx) (num k : Nat) : s.SameBound (s.allocRefetch p num k) := by
  unfold State.allocRefetch
  dsimp only
  split <;> simp

/-! The copy engine. -/

@[simp] theorem State.bound_setRun (s : State) (p : PierIx) (d : Fin 8) (x : CopyRun) : s.SameBound (s.setRun p d x) := by
  simp [State.setRun]

@[simp] theorem State.bound_runFault (s : State) (p : PierIx) (d : Fin 8) (c : Code) (o : Nat) : s.SameBound (s.runFault p d c o) := by
  simp [State.runFault]

@[simp] theorem State.bound_answerLocal (s : State) (p : PierIx) (num : Nat) (o : TagOwner) (u : Upset) :
    s.SameBound (s.answerLocal p num o u) := by
  unfold State.answerLocal
  refine State.bound_foldl (fun s i => ?_) _ _
  repeat' split
  all_goals simp

@[simp] theorem State.bound_copyIn (s : State) (p : PierIx) (d : Fin 8) (u : Upset) : s.SameBound (s.copyIn p d u) := by
  unfold State.copyIn
  repeat' split
  all_goals simp

@[simp] theorem State.bound_writeRun (s : State) (p : PierIx) (d : Fin 8) (num object : Nat) (t : Tile) (q : Request) :
    s.SameBound (s.writeRun p d num object t q) := by
  unfold State.writeRun
  dsimp only
  split
  · simp
  · split
    · refine .trans ?_ (State.bound_foldl (fun s k => ?_) _ _)
      · simp
      · split <;> simp
    · simp

@[simp] theorem State.bound_copyRead (s : State) (p : PierIx) (r : RegionIx) (i : Nat) : s.SameBound (s.copyRead p r i).2 := by
  unfold State.copyRead
  dsimp only
  split <;> simp

@[simp] theorem State.bound_noteCopyWait (s : State) (p : PierIx) (r : RegionIx) (i : Nat) : s.SameBound (s.noteCopyWait p r i) := by
  simp [State.noteCopyWait]

@[simp] theorem State.bound_copyParts (s : State) (p : PierIx) (d : Fin 8) (num object : Nat) (t : Tile) (parts : List XPart) :
    s.SameBound (s.copyParts p d num object t parts) := by
  unfold State.copyParts
  dsimp only
  repeat' split
  all_goals simp

@[simp] theorem State.bound_copyOut (s : State) (p : PierIx) (d : Fin 8) : s.SameBound (s.copyOut p d) := by
  unfold State.copyOut
  dsimp only
  repeat' split
  all_goals simp

@[simp] theorem State.bound_noteHalted (s : State) (p : PierIx) : s.SameBound (s.noteHalted p) := by
  simp [State.noteHalted]

@[simp] theorem State.bound_copyTile (s : State) (p : PierIx) (d : Fin 8) (u : Upset) : s.SameBound (s.copyTile p d u) := by
  simp [State.copyTile]

/-! Power tokens. -/

@[simp] theorem State.bound_regrant (s : State) (sp : Nat) : s.SameBound (s.regrant sp) := by
  simp [State.regrant]

@[simp] theorem State.bound_regrantAll (s : State) : s.SameBound s.regrantAll := by
  simp [State.regrantAll]

@[simp] theorem State.bound_rebudget (s : State) : s.SameBound s.rebudget := by
  simp [State.rebudget]

@[simp] theorem State.bound_rethrottle (s : State) (hotSpan celsius watts : Nat) : s.SameBound (s.rethrottle hotSpan celsius watts) := by
  simp [State.rethrottle]

@[simp] theorem State.bound_noteMove (s : State) (m : TokenMove) : s.SameBound (s.noteMove m) := by
  simp [State.noteMove]

@[simp] theorem State.bound_acquire (s : State) (p : PierIx) (n : Nat) : s.SameBound (s.acquire p n) := by
  simp [State.acquire]

@[simp] theorem State.bound_giveBack (s : State) (p : PierIx) (n : Nat) : s.SameBound (s.giveBack p n) := by
  simp [State.giveBack]

@[simp] theorem State.bound_giveAll (s : State) (p : PierIx) : s.SameBound (s.giveAll p) := by
  simp [State.giveAll]

/-! The loaded image and the records of configuration. -/

@[simp] theorem State.bound_readObject (s : State) (object o n : Nat) : s.SameBound (s.readObject object o n).2 := by
  unfold State.readObject
  refine .trans ?_ (bound_foldl_snd (fun acc b => ?_) _ _)
  · simp
  · split
    · split <;> simp
    · simp

@[simp] theorem State.bound_emptyRegion (s : State) (p : PierIx) (r : RegionIx) : s.SameBound (s.emptyRegion p r) := by
  simp [State.emptyRegion]

@[simp] theorem State.bound_clearFull (s : State) (p : PierIx) (r : RegionIx) : s.SameBound (s.clearFull p r) := by
  simp [State.clearFull]

@[simp] theorem State.bound_applyRegions (s : State) (p : PierIx) (set : Nat) (launch : Bool) :
    s.SameBound (s.applyRegions p set launch) := by
  simp [State.applyRegions]

@[simp] theorem State.bound_writeDesc (s : State) (rs : List RegName) (ty set n j : Nat) : s.SameBound (s.writeDesc rs ty set n j) := by
  simp [State.writeDesc]

@[simp] theorem State.bound_endGang (s : State) (p : PierIx) (n : Fin 16) : s.SameBound (s.endGang p n) := by
  simp [State.endGang]

@[simp] theorem State.bound_applyStreams (s : State) (p : PierIx) (set : Nat) (launch : Bool) :
    s.SameBound (s.applyStreams p set launch) := by
  simp [State.applyStreams]

@[simp] theorem State.bound_applyCopies (s : State) (p : PierIx) (set : Nat) (launch : Bool) :
    s.SameBound (s.applyCopies p set launch) := by
  simp [State.applyCopies]

@[simp] theorem State.bound_applyComp (s : State) (p : PierIx) (a : ArchIx) (comp : Nat) : s.SameBound (s.applyComp p a comp) := by
  simp [State.applyComp]

@[simp] theorem State.bound_applyTokens (s : State) (table : Nat) : s.SameBound (s.applyTokens table) := by
  simp [State.applyTokens]

@[simp] theorem State.bound_applyStage (s : State) (p : PierIx) (stage : Nat) (launch : Bool) :
    s.SameBound (s.applyStage p stage launch) := by
  simp [State.applyStage]

@[simp] theorem State.bound_readRecord (s : State) (i : Nat) : s.SameBound (s.readRecord i) := by
  simp [State.readRecord]

@[simp] theorem State.bound_readSection (s : State) (ty : Nat) : s.SameBound (s.readSection ty) := by
  unfold State.readSection
  split <;> simp

@[simp] theorem State.bound_applyRecord (s0 : State) (p : PierIx) (i : Nat) (launch : Bool) : s0.SameBound (s0.applyRecord p i launch) := by
  simp [State.applyRecord]

/-! The random-number block of a pier. -/

@[simp] theorem State.bound_takeUse (s : State) (p : PierIx) (n : Nat) : s.SameBound (s.takeUse p n) := by
  simp [State.takeUse]

@[simp] theorem State.bound_countDraws (s : State) (p : PierIx) (n : Nat) : s.SameBound (s.countDraws p n) := by
  simp [State.countDraws]

@[simp] theorem State.bound_skipFree (s : State) (n : Nat) : s.SameBound (s.skipFree n) := by
  simp [State.skipFree]

/-! The arches. -/

@[simp] theorem State.bound_noteUpset (s : State) (p : PierIx) (a : ArchIx) : s.SameBound (s.noteUpset p a) := by
  simp [State.noteUpset]

@[simp] theorem State.bound_checkEntry (s : State) (p : PierIx) (a : ArchIx) (t i : Nat) : s.SameBound (s.checkEntry p a t i) := by
  simp [State.checkEntry]

@[simp] theorem State.bound_clearEntries (s : State) (p : PierIx) (a : ArchIx) (c lo hi : Nat) :
    s.SameBound (s.clearEntries p a c lo hi) := by
  simp [State.clearEntries]

@[simp] theorem State.bound_writeUpdates (s : State) (p : PierIx) (a : ArchIx) (c base : Nat) (ys : List F32) :
    s.SameBound (s.writeUpdates p a c base ys) := by
  simp [State.writeUpdates]

@[simp] theorem State.bound_poisonEntry (s : State) (p : PierIx) (a : ArchIx) (i : Nat) : s.SameBound (s.poisonEntry p a i) := by
  simp [State.poisonEntry]

@[simp] theorem State.bound_abandonPass (s : State) (p : PierIx) (x : PassRun) (c : Nat) : s.SameBound (s.abandonPass p x c) := by
  simp [State.abandonPass]

@[simp] theorem State.bound_gridParity (s : State) (p : PierIx) (a : ArchIx) (t : Nat) : s.SameBound (s.gridParity p a t) := by
  simp [State.gridParity]

@[simp] theorem State.bound_captureRow (s : State) (p : PierIx) (x : PassRun) (c i : Nat) (row : RingRow) :
    s.SameBound (s.captureRow p x c i row) := by
  simp [State.captureRow]

@[simp] theorem State.bound_rowDot (s : State) (p : PierIx) (x : PassRun) (c base : Nat) (last : Bool) (row : RingRow) :
    s.SameBound (s.rowDot p x c base last row) := by
  unfold State.rowDot
  split <;> simp

@[simp] theorem State.bound_rowRead (s : State) (p : PierIx) (x : PassRun) (c base : Nat) (last : Bool) (ys : List F32) :
    s.SameBound (s.rowRead p x c base last ys) := by
  simp [State.rowRead]

@[simp] theorem State.bound_rowWrite (s : State) (p : PierIx) (x : PassRun) (c base : Nat) (last : Bool) (ys : List F32) :
    s.SameBound (s.rowWrite p x c base last ys) := by
  simp [State.rowWrite]

@[simp] theorem State.bound_drainRow (s : State) (p : PierIx) (a : ArchIx) (c at_ cols : Nat) (clear : Bool) :
    s.SameBound (s.drainRow p a c at_ cols clear).1 := by
  simp [State.drainRow]

@[simp] theorem State.bound_drainRows (s : State) (p : PierIx) (a : ArchIx) (c base pitch cols : Nat) (clear : Bool) (rs : List Nat) :
    s.SameBound (s.drainRows p a c base pitch cols clear rs).1 := by
  induction rs generalizing s with
  | nil => simp [State.drainRows]
  | cons r rs ih => simp [State.drainRows, ih]

@[simp] theorem State.bound_drainRead (s : State) (p : PierIx) (a : ArchIx) (c : Nat) (x : DrainRun) (i : Nat) :
    s.SameBound (s.drainRead p a c x i).1 := by
  simp [State.drainRead]

@[simp] theorem State.bound_zeroGroup (s : State) (p : PierIx) (a : ArchIx) (c base count done : Nat) :
    s.SameBound (s.zeroGroup p a c base count done) := by
  simp [State.zeroGroup]

/-! The viaduct ring. -/

@[simp] theorem State.bound_ringMiss (s : State) (p : PierIx) (a : ArchIx) (t : Nat) : s.SameBound (s.ringMiss p a t) := by
  simp [State.ringMiss]

@[simp] theorem State.bound_ringRole (s : State) (p : PierIx) (a t : Nat) : s.SameBound (s.ringRole p a t) := by
  simp [State.ringRole]

@[simp] theorem State.bound_placeRow (s : State) (g : SegIx) (w : Cwy) (start : Nat) (row : RingRow) (head : Option (F32 × BitVec 32)) :
    s.SameBound (s.placeRow g w start row head) := by
  simp [State.placeRow]

/-! The vector unit. -/

@[simp] theorem State.bound_readV (s : State) (p : PierIx) (t : Nat) (v : Fin 64) : s.SameBound (s.readV p t v).2 := by
  unfold State.readV
  split <;> simp

@[simp] theorem State.bound_readM (s : State) (p : PierIx) (t : Nat) (m : Fin 8) : s.SameBound (s.readM p t m).2 := by
  unfold State.readM
  split <;> simp

@[simp] theorem State.bound_enable (s : State) (p : PierIx) (t : Nat) (m : Option (Fin 8)) : s.SameBound (s.enable p t m).2 := by
  unfold State.enable
  split <;> simp

@[simp] theorem State.bound_writeV (s : State) (p : PierIx) (t lat : Nat) (v : Fin 64) (en : BitVec 128) (xs : Lanes) :
    s.SameBound (s.writeV p t lat v en xs) := by
  simp [State.writeV]

@[simp] theorem State.bound_writeM (s : State) (p : PierIx) (t lat : Nat) (m : Fin 8) (en bits : BitVec 128) :
    s.SameBound (s.writeM p t lat m en bits) := by
  simp [State.writeM]

@[simp] theorem State.bound_freeBits (s : State) (n : Nat) : s.SameBound (s.freeBits n).2 := by
  simp [State.freeBits]

@[simp] theorem State.bound_vecFault (s : State) (p : PierIx) (r : RegionIx) (t : Nat) (c : Code) (i : Option Nat) :
    s.SameBound (s.vecFault p r t c i) := by
  unfold State.vecFault
  repeat' split
  all_goals simp

@[simp] theorem State.bound_vecSkew (s : State) (p : PierIx) (tag : Nat) : s.SameBound (s.vecSkew p tag) := by
  simp [State.vecSkew]

@[simp] theorem State.bound_vecRead (s : State) (p : PierIx) (t : Nat) (r : RegionIx) (d : Nat) (named : Fmt) (r0 n : Nat) :
    s.SameBound (s.vecRead p t r d named r0 n).2 := by
  unfold State.vecRead
  dsimp only
  repeat' split
  all_goals simp

@[simp] theorem State.bound_vecReads (s : State) (p : PierIx) (t : Nat) (r : RegionIx) (named : Fmt) (r0 n : Nat) (ds : List Nat) :
    s.SameBound (s.vecReads p t r named r0 n ds).2 := by
  induction ds generalizing s with
  | nil => simp [State.vecReads]
  | cons d ds ih => simp [State.vecReads, ih]

@[simp] theorem State.bound_putTile (s : State) (p : PierIx) (t cycles n k : Nat) (x : Tile) :
    s.SameBound (s.putTile p t cycles n k x) := by
  simp [State.putTile]

@[simp] theorem State.bound_produce (s : State) (p : PierIx) (r : RegionIx) (t : Nat) (x : Tile) : s.SameBound (s.produce p r t x) := by
  simp [State.produce]

@[simp] theorem State.bound_flushStats (s : State) (p : PierIx) (r : RegionIx) (t : Nat) : s.SameBound (s.flushStats p r t) := by
  unfold State.flushStats
  split <;> simp

@[simp] theorem State.bound_appendStats (s : State) (p : PierIx) (r : RegionIx) (t : Nat) (rs : List (F32 × F32)) :
    s.SameBound (s.appendStats p r t rs) := by
  simp [State.appendStats]

@[simp] theorem State.bound_statDone (s : State) (p : PierIx) (t : Nat) (x : StatRun) : s.SameBound (s.statDone p t x) := by
  simp [State.statDone]

@[simp] theorem State.bound_vecBusy (s : State) (p : PierIx) : s.SameBound (s.vecBusy p) := by
  simp [State.vecBusy]

/-! The update engine. -/

@[simp] theorem State.bound_updFail (s : State) (p : PierIx) (t : Nat) (x : UpdCheck) : s.SameBound (s.updFail p t x).2 := by
  unfold State.updFail
  repeat' split
  all_goals simp

@[simp] theorem State.bound_updCounts (s : State) (p : PierIx) (us : List Updated) : s.SameBound (s.updCounts p us) := by
  simp [State.updCounts]

@[simp] theorem State.bound_updEcc (s : State) (p : PierIx) (t : Nat) (d : UpdDesc) (ixs : List Nat) (j c : Nat) :
    s.SameBound (s.updEcc p t d ixs j c).1 := by
  unfold State.updEcc
  refine .trans ?_ (bound_foldl_fst (fun acc e => ?_) _ _)
  · simp
  · simp [apply_ite Prod.fst]

@[simp] theorem State.bound_updPart (s : State) (p : PierIx) (start total stamp : Nat) (d : UpdDesc) (ixs : List Nat) (bad stale : Bool)
    (n : Nat) :
    s.SameBound (s.updPart p start total stamp d ixs bad stale n).1 := by
  unfold State.updPart
  dsimp only
  repeat' split
  all_goals simp

@[simp] theorem State.bound_openOut (s : State) (p : PierIx) (r : RegionIx) (f : Fmt) : s.SameBound (s.openOut p r f).1 := by
  simp [State.openOut]

@[simp] theorem State.bound_putOut (s : State) (p : PierIx) (o : Option (RegionIx × Nat × Fmt)) (j c : Nat) (codes : List Nat) :
    s.SameBound (s.putOut p o j c codes) := by
  unfold State.putOut
  split <;> simp

@[simp] theorem State.bound_closeOut (s : State) (p : PierIx) (t : Nat) (o : Option (RegionIx × Nat × Fmt)) (bad : Bool) :
    s.SameBound (s.closeOut p t o bad) := by
  unfold State.closeOut
  split <;> simp

@[simp] theorem State.bound_updWrite (s : State) (p : PierIx) (t j c : Nat) (d : UpdDesc) (bad : Bool) (w m sh : List Nat) :
    s.SameBound (s.updWrite p t j c d bad w m sh) := by
  have hopen (u : State) (c : Bool) (r : RegionIx) (f : Fmt) (x : Option (RegionIx × Nat × Fmt)) :
      u.SameBound (if c then u.openOut p r f else (u, x)).1 := by split <;> simp
  unfold State.updWrite
  extract_lets x pair rs a b e s0 s1 s2 y mEnd sEnd s3 s4 s5 z
  have hb : s.SameBound b.1 := (hopen s ..).trans (hopen ..)
  have he : s.SameBound e.1 := hb.trans (hopen ..)
  have hput : e.1.SameBound s2 := by simp [s2, s1, s0]
  have hclose : s2.SameBound s5 := by simp [s5, s4, s3]
  split
  · exact he.trans hput
  · exact (he.trans hput).trans hclose

/-! How scheduled work goes on. -/

@[simp] theorem State.bound_putWork (s : State) (w : Option Work) : s.SameBound (s.putWork w) := by
  cases w <;> simp [State.putWork]

@[simp] theorem State.bound_readEnds (s : State) (p : PierIx) (r : RegionIx) (t : Nat) (rel : Bool) :
    s.SameBound (s.readEnds p r t rel) := by
  simp [State.readEnds]

@[simp] theorem State.bound_ringParity (s : State) (b p : PierIx) (g : SegIx) (t : Nat) : s.SameBound (s.ringParity b p g t) := by
  simp [State.ringParity]

@[simp] theorem bound_ended (s : State) : s.SameBound (ended s).s := by
  simp [ended]

@[simp] theorem State.bound_feedRow (s : State) (p : PierIx) (r : RegionIx) (t i n : Nat) : s.SameBound (s.feedRow p r t i n).1 := by
  unfold State.feedRow
  dsimp only
  split <;> simp

@[simp] theorem State.bound_streamRow (s : State) (w : Work) (r : RegionIx) (off i : Nat) (keep : Bool) (f : Fmt) (fm : Option (Fld × Nat))
    (arch : Nat) :
    s.SameBound (s.streamRow w r off i keep f fm arch).1 := by
  unfold State.streamRow
  dsimp only
  repeat' split
  all_goals simp

@[simp] theorem State.bound_feederRow (s : State) (w : Work) (x : PassRun) : s.SameBound (s.feederRow w x).s := by
  unfold State.feederRow
  dsimp only
  split <;> simp

@[simp] theorem State.bound_ringRow (s : State) (w : Work) (x : PassRun) (c : Cwy) : s.SameBound (s.ringRow w x c).s := by
  unfold State.ringRow
  dsimp only
  repeat' split
  all_goals simp

@[simp] theorem State.bound_ringEnter (s : State) (w : Work) (g : SegIx) (c : Cwy) (start : Nat) :
    s.SameBound (s.ringEnter w g c start).s := by
  unfold State.ringEnter
  dsimp only
  repeat' split
  all_goals simp

@[simp] theorem State.bound_injectRow (s : State) (w : Work) (start : Nat) (g : SegIx) (c : Cwy) (r : RegionIx) (f : Fmt) (exit : Bool)
    (off : Nat) (keep : Bool) (i : Nat) :
    s.SameBound (s.injectRow w start g c r f exit off keep i).s := by
  unfold State.injectRow
  dsimp only
  repeat' split
  all_goals simp

@[simp] theorem State.bound_exitRow (s : State) (w : Work) (g : SegIx) (c : Cwy) (start j idx : Nat) :
    s.SameBound (s.exitRow w g c start j idx).s := by
  unfold State.exitRow
  repeat' split
  all_goals simp

@[simp] theorem State.bound_loadRow (s : State) (w : Work) (a : ArchIx) (r : RegionIx) (i : Nat) (keep : Bool) (t : Tile) :
    s.SameBound (s.loadRow w a r i keep t).s := by
  unfold State.loadRow
  dsimp only
  repeat' split
  all_goals simp

@[simp] theorem State.bound_gridHolds (s : State) (p : PierIx) (a : ArchIx) (x : Tile) : s.SameBound (s.gridHolds p a x) := by
  simp [State.gridHolds]

@[simp] theorem State.bound_drainCycle (s : State) (w : Work) (a : ArchIx) (x : DrainRun) : s.SameBound (s.drainCycle w a x).s := by
  unfold State.drainCycle
  dsimp only
  split <;> simp

@[simp] theorem State.bound_transposeRow (s : State) (w : Work) (src dst : RegionIx) (f : Fmt) (ixs outs : List Nat) (keep : Bool)
    (ts : List Tile) :
    s.SameBound (s.transposeRow w src dst f ixs outs keep ts).s := by
  unfold State.transposeRow
  dsimp only
  repeat' split
  all_goals simp

@[simp] theorem State.bound_statCycle (s : State) (w : Work) (x : StatRun) : s.SameBound (s.statCycle w x).s := by
  unfold State.statCycle
  dsimp only
  repeat' split
  all_goals simp

@[simp] theorem State.bound_part (s : State) (w : Work) : s.SameBound (s.part w).s := by
  unfold State.part
  repeat' split
  all_goals simp

@[simp] theorem State.bound_landPoison (s : State) (p : PierIx) (r : RegionIx) (i : Nat) (f : Fmt) :
    s.SameBound (s.landPoison p r i f) := by
  simp [State.landPoison]

@[simp] theorem State.bound_landOut (s : State) (p : PierIx) (o : Option (RegionIx × Nat × Fmt)) : s.SameBound (s.landOut p o) := by
  unfold State.landOut
  split <;> simp

@[simp] theorem State.bound_stopPass (s : State) (p : PierIx) (x : PassRun) (c : Nat) : s.SameBound (s.stopPass p x c) := by
  simp [State.stopPass]

@[simp] theorem State.bound_stopWork (s : State) (c : Nat) (w : Work) : s.SameBound (s.stopWork c w) := by
  unfold State.stopWork
  split <;> simp

@[simp] theorem State.bound_stopPier (s : State) (p : PierIx) : s.SameBound (s.stopPier p) := by
  simp [State.stopPier]

@[simp] theorem State.bound_stopDomain (s : State) (d : Dom) : s.SameBound (s.stopDomain d) := by
  simp [State.stopDomain]

@[simp] theorem State.bound_recordLate (s : State) (p : PierIx) (c : Nat) (l : Late) (again : Bool) :
    s.SameBound (s.recordLate p c l again) := by
  simp [State.recordLate]

@[simp] theorem State.bound_countRamp (s : State) (p : PierIx) (c : Nat) : s.SameBound (s.countRamp p c) := by
  simp [State.countRamp]

@[simp] theorem State.bound_returnTokens (s : State) (d : Dom) (c : Nat) : s.SameBound (s.returnTokens d c) := by
  unfold State.returnTokens
  exact State.bound_foldl (fun s x => by split <;> simp) _ _

@[simp] theorem State.bound_seeAll (s : State) (p : PierIx) : s.SameBound (s.seeAll p) := by
  simp [State.seeAll]

@[simp] theorem State.bound_stopIssue (s : State) (c : Nat) (phantom : Bool) (p : PierIx) : s.SameBound (s.stopIssue c phantom p) := by
  simp [State.stopIssue]

@[simp] theorem State.bound_stallSlot (s : State) (d : Dom) (c : Nat) (ls : List (PierIx × Late × Bool)) :
    s.SameBound (s.stallSlot d c ls) := by
  simp [State.stallSlot]

@[simp] theorem State.bound_displace (s : State) (p : PierIx) (slot order : Nat) (ports : List Nat) :
    s.SameBound (s.displace p slot order ports) := by
  simp [State.displace]

@[simp] theorem State.bound_checkWork (s : State) (i : Nat) (w : Work) : s.SameBound (s.checkWork i w) := by
  simp [State.checkWork]

@[simp] theorem State.bound_claimGranted (s : State) (w : Work) : s.SameBound (s.claimGranted w) := by
  simp [State.claimGranted]

@[simp] theorem State.bound_perform (s : State) (w : Work) : s.SameBound (s.perform w).s := by
  simp [State.perform]

@[simp] theorem State.bound_advance (d : Dom) (k fuel : Nat) (s : State) : s.SameBound (State.advance d k fuel s) := by
  induction fuel generalizing s with
  | zero => simp [State.advance]
  | succ fuel ih =>
    unfold State.advance
    dsimp only
    repeat' split
    all_goals simp [ih]

@[simp] theorem State.bound_settle (s : State) (d : Dom) (k : Nat) : s.SameBound (s.settle d k) := by
  simp [State.settle]

@[simp] theorem State.bound_pierSlot (s : State) (t : Nat) (p : PierIx) : s.SameBound (s.pierSlot t p) := by
  simp [State.pierSlot]

@[simp] theorem State.bound_slotIssued (s : State) (d : Dom) (t : Nat) : s.SameBound (s.slotIssued d t) := by
  simp [State.slotIssued]

@[simp] theorem State.bound_issue {s : State} (failed : Bool) (i : Instr) (p : PierIx) (t : Nat) (needs : State → Needs)
    {effect : State → State} (ramp : State → Bool) (h : ∀ u : State, u.SameBound (effect u)) :
    s.SameBound (s.issue failed i p t needs effect ramp) := by
  have hfail (u : State) (l : Option Late) (ls : List (PierIx × Late × Bool)) : u.SameBound (match l with
      | some l =>
        let s1 := u.stallSlot (s.domOf p) t (ls ++ [(p, l, failed)])
        (if ramp u then s1.countRamp p t else s1).hold true i
      | none => if ls.isEmpty then u.hold failed i else (u.stallSlot (s.domOf p) t ls).hold failed i) := by
    split <;> simp
  unfold State.issue
  extract_lets d s1 l fail s2 y behind late s3 s4 x
  split
  · simp
  · split
    · simp
    · have hfail (u : State) (l : Option Late) (ls : List (PierIx × Late × Bool)) : u.SameBound (fail u l ls) := hfail u l ls
      have hs1 : s.SameBound s1 := by simp [s1]
      have hs2 : s.SameBound s2 := hs1.trans (State.bound_settle ..)
      have hs3 : s.SameBound s3 := hs2.trans (by simp [s3])
      have hs4 : s.SameBound s4 := hs3.trans (State.bound_settle ..)
      split
      · split
        · exact hs1.trans (hfail ..)
        · exact hs1.trans (State.bound_hold ..)
      · split
        · exact hs2.trans (State.bound_hold ..)
        · split
          · exact hs2
          · split
            · exact hs3.trans (hfail ..)
            · exact (hs4.trans (by simp)).trans (h _)

@[simp] theorem State.bound_begin (s : State) (w : Work) : s.SameBound (s.begin w) := by
  simp [State.begin]

/-! Moves of extents, the pool and its eviction. -/

@[simp] theorem State.bound_markMoving (s : State) (i : Nat) : s.SameBound (s.markMoving i) := by
  simp [State.markMoving]

@[simp] theorem State.bound_assignFrame (s : State) : s.SameBound s.assignFrame := by
  simp [State.assignFrame]

@[simp] theorem State.bound_startMove (s : State) (m : Move) : s.SameBound (s.startMove m) := by
  simp [State.startMove]

@[simp] theorem State.bound_refreshPool (s : State) : s.SameBound s.refreshPool := by
  simp [State.refreshPool]

@[simp] theorem State.bound_moveRead (s : State) (e : HomeEntry) (remote : List Byte) (u : Upset) (o : Nat) :
    s.SameBound (s.moveRead e remote u o).2.2 := by
  unfold State.moveRead
  split <;> simp

@[simp] theorem State.bound_moveTile (m : Move) (i : Nat) (e : HomeEntry) (remote : List Byte) (u : Upset) (acc : Bool × State)
    (o : Nat) : acc.2.SameBound (State.moveTile m i e remote u acc o).2 := by
  unfold State.moveTile
  dsimp only
  split <;> simp

@[simp] theorem State.bound_nextTurns (s : State) : s.SameBound s.nextTurns := by
  unfold State.nextTurns
  exact State.bound_foldl (fun s x => by split <;> simp) _ _

@[simp] theorem State.bound_endMove (s : State) (m : Move) : s.SameBound (s.endMove m) := by
  unfold State.endMove
  dsimp only
  repeat' split
  all_goals simp

@[simp] theorem State.bound_rehome (s : State) (m : Move) : s.SameBound (s.rehome m) := by
  simp [State.rehome]

@[simp] theorem State.bound_moveOn (s : State) (m : Move) : s.SameBound (s.moveOn m) := by
  unfold State.moveOn
  repeat' split
  all_goals simp

@[simp] theorem State.bound_movesOn (s : State) : s.SameBound s.movesOn := by
  simp [State.movesOn]

@[simp] theorem State.bound_moveExtent (s : State) (m : Move) (remote : List Byte) (u : Upset) : s.SameBound (s.moveExtent m remote u) := by
  unfold State.moveExtent
  extract_lets i n x m1 y
  have hx : s.SameBound x.2 := bound_foldl_snd (fun acc o => State.bound_moveTile ..) _ (false, s)
  simp [y, hx]

@[simp] theorem State.bound_extentMove (s : State) (i : Nat) (remote : List Byte) (u : Upset) : s.SameBound (s.extentMove i remote u) := by
  unfold State.extentMove
  split <;> simp

@[simp] theorem State.bound_startEvict (s : State) (i : Nat) : s.SameBound (s.startEvict i) := by
  unfold State.startEvict
  split <;> simp

@[simp] theorem State.bound_evictTo (target fuel : Nat) (s : State) : s.SameBound (State.evictTo target fuel s) := by
  induction fuel generalizing s with
  | zero => simp [State.evictTo]
  | succ fuel ih =>
    unfold State.evictTo
    split
    · simp
    · split <;> simp [ih]

@[simp] theorem State.bound_poolEvict (s : State) : s.SameBound s.poolEvict := by
  simp [State.poolEvict]

@[simp] theorem State.bound_bringUp (s : State) (i frame : Nat) : s.SameBound (s.bringUp i frame) := by
  unfold State.bringUp
  repeat' split
  all_goals simp

/-! ARM, COPY and CWAIT with the events of their engines. -/

@[simp] theorem State.bound_armEffect (s : State) (p : PierIx) (t : Nat) (n : Fin 16) : s.SameBound (s.armEffect p t n) := by
  simp [State.armEffect]

@[simp] theorem bound_runArm (failed : Bool) (p : PierIx) (t : Nat) (n : Fin 16) (s : State) : s.SameBound (runArm failed p t n s) := by
  simp [runArm]

@[simp] theorem State.bound_copyEffect (s : State) (p : PierIx) (t : Nat) (d : Fin 8) : s.SameBound (s.copyEffect p t d) := by
  simp [State.copyEffect]

@[simp] theorem bound_runCopy (failed : Bool) (p : PierIx) (t : Nat) (d : Fin 8) (s : State) : s.SameBound (runCopy failed p t d s) := by
  simp [runCopy]

@[simp] theorem State.bound_cwaitEffect (s : State) (p : PierIx) (t : Nat) (d : Fin 8) : s.SameBound (s.cwaitEffect p t d) := by
  unfold State.cwaitEffect
  split <;> simp

@[simp] theorem bound_runCwait (failed : Bool) (p : PierIx) (t : Nat) (d : Fin 8) (s : State) : s.SameBound (runCwait failed p t d s) := by
  simp [runCwait]

@[simp] theorem State.bound_tagAllocate (s : State) (p : PierIx) : s.SameBound (s.tagAllocate p) := by
  unfold State.tagAllocate
  dsimp only
  repeat' split
  all_goals simp

@[simp] theorem State.bound_lateReply (s : State) (p : PierIx) : s.SameBound (s.lateReply p) := by
  simp [State.lateReply]

@[simp] theorem State.bound_transferReply (s : State) (p : PierIx) (num req attempt : Nat) (u : Upset) :
    s.SameBound (s.transferReply p num req attempt u) := by
  unfold State.transferReply
  repeat' split
  all_goals simp

@[simp] theorem State.bound_abandonTag (s : State) (x : Tag) (c : Code) : s.SameBound (s.abandonTag x c) := by
  simp [State.abandonTag]

@[simp] theorem State.bound_writeTimeout (s : State) (p : PierIx) (num : Nat) : s.SameBound (s.writeTimeout p num) := by
  unfold State.writeTimeout
  refine State.bound_foldl (fun s r => ?_) _ _
  split
  · simp
  · dsimp only
    split <;> simp

@[simp] theorem State.bound_tagTimeout (s : State) (p : PierIx) (copy : Bool) (num : Nat) : s.SameBound (s.tagTimeout p copy num) := by
  unfold State.tagTimeout
  split <;> simp

@[simp] theorem State.bound_watchTimeout (s : State) (p : PierIx) (copy : Bool) (num : Nat) : s.SameBound (s.watchTimeout p copy num) := by
  unfold State.watchTimeout
  split <;> simp

@[simp] theorem State.bound_acceptNotice (s : State) (p : PierIx) : s.SameBound (s.acceptNotice p) := by
  unfold State.acceptNotice
  split
  · simp
  · next h =>
    have hs := State.bound_takeNotice h
    dsimp only
    split
    · split <;> simp [hs]
    · simp [hs]

/-! The arch, ring and region instructions. -/

@[simp] theorem State.bound_loadsEffect (s : State) (p : PierIx) (t : Nat) (a : ArchIx) (r : RegionIx) (d : Nat) (keep : Bool) (f : Fmt) :
    s.SameBound (s.loadsEffect p t a r d keep f) := by
  unfold State.loadsEffect
  repeat' split
  all_goals simp

@[simp] theorem bound_runLoads (failed : Bool) (p : PierIx) (t : Nat) (a : ArchIx) (r : RegionIx) (d : Nat) (keep : Bool) (f : Fmt)
    (s : State) :
    s.SameBound (runLoads failed p t a r d keep f s) := by
  simp [runLoads]

@[simp] theorem State.bound_startPass (s : State) (p : PierIx) (t : Nat) (a : ArchIx) (d : PassDesc) (w : Nat) (r : RegionIx) (off : Nat)
    (keep : Bool) :
    s.SameBound (s.startPass p t a d w r off keep) := by
  simp [State.startPass]

@[simp] theorem State.bound_passEffect (s : State) (p : PierIx) (t : Nat) (a : ArchIx) (d : PassDesc) (r : RegionIx) (off : Nat)
    (keep : Bool) :
    s.SameBound (s.passEffect p t a d r off keep) := by
  unfold State.passEffect
  repeat' split
  all_goals simp

@[simp] theorem bound_runPass (failed : Bool) (p : PierIx) (t : Nat) (a : ArchIx) (d : PassDesc) (r : RegionIx) (off : Nat) (keep : Bool)
    (s : State) :
    s.SameBound (runPass failed p t a d r off keep s) := by
  simp [runPass]

@[simp] theorem State.bound_drainEffect (s : State) (p : PierIx) (t : Nat) (a : ArchIx) (d : DrainDesc) (base pitch : Nat) (clear : Bool)
    (r : RegionIx) :
    s.SameBound (s.drainEffect p t a d base pitch clear r) := by
  simp [State.drainEffect]

@[simp] theorem bound_runDrain (failed : Bool) (p : PierIx) (t : Nat) (a : ArchIx) (d : DrainDesc) (base pitch : Nat) (clear : Bool)
    (r : RegionIx) (s : State) :
    s.SameBound (runDrain failed p t a d base pitch clear r s) := by
  simp [runDrain]

@[simp] theorem State.bound_zeroEffect (s : State) (p : PierIx) (t : Nat) (a : ArchIx) (base count : Nat) :
    s.SameBound (s.zeroEffect p t a base count) := by
  simp [State.zeroEffect]

@[simp] theorem bound_runZero (failed : Bool) (p : PierIx) (t : Nat) (a : ArchIx) (base count : Nat) (s : State) :
    s.SameBound (runZero failed p t a base count s) := by
  simp [runZero]

@[simp] theorem State.bound_injectEffect (s : State) (p : PierIx) (t : Nat) (c : Cwy) (r : RegionIx) (tiles : Nat) (f : Fmt) (exit : Bool)
    (off : Nat) (keep : Bool) :
    s.SameBound (s.injectEffect p t c r tiles f exit off keep) := by
  unfold State.injectEffect
  split <;> simp

@[simp] theorem bound_runInject (failed : Bool) (p : PierIx) (t : Nat) (c : Cwy) (r : RegionIx) (tiles : Nat) (f : Fmt) (exit : Bool)
    (off : Nat) (keep : Bool) (s : State) :
    s.SameBound (runInject failed p t c r tiles f exit off keep s) := by
  simp [runInject]

@[simp] theorem bound_runFlip (failed : Bool) (p : PierIx) (t : Nat) (r : RegionIx) (s : State) : s.SameBound (runFlip failed p t r s) := by
  simp [runFlip]

@[simp] theorem bound_runRelease (failed : Bool) (p : PierIx) (t : Nat) (r : RegionIx) (count : Nat) (s : State) :
    s.SameBound (runRelease failed p t r count s) := by
  simp [runRelease]

/-! The measurement registers. -/

@[simp] theorem State.bound_setMr (s : State) (m : Nat) (bs : List Byte) : s.SameBound (s.setMr m bs) := by
  simp [State.setMr]

@[simp] theorem State.bound_extendMr (s : State) (m : Nat) (d : List Byte) : s.SameBound (s.extendMr m d) := by
  simp [State.extendMr]

/-! The extension ports of the viaduct. -/

@[simp] theorem State.bound_ringExtDown (s : State) (g : SegIx) (next : Bool) (port : Nat) : s.SameBound (s.ringExtDown g next port) := by
  unfold State.ringExtDown
  split <;> simp

@[simp] theorem State.bound_extPortDown (s : State) (n : Nat) (flying : Bool) : s.SameBound (s.extPortDown n flying) := by
  unfold State.extPortDown
  split <;> simp

theorem State.bound_landRing {s u : State} {g : SegIx} {next : Bool} {t : Tile} (h : s.landRing g next t = some u) : s.SameBound u := by
  unfold State.landRing at h
  split at h
  · cases h
  · obtain ⟨-, hu⟩ := Option.ite_none_right_eq_some.1 h
    obtain rfl := Option.some.inj hu
    simp

@[simp] theorem State.bound_oweRing (s : State) (n flits : Nat) : s.SameBound (s.oweRing n flits) := by
  simp [State.oweRing]

theorem State.bound_acceptRing {s u : State} {n flits : Nat} {m : Msg} (h : s.acceptRing n flits m = some u) : s.SameBound u := by
  unfold State.acceptRing at h
  split at h
  · cases h
  · split at h
    · split at h
      · split at h
        · obtain ⟨v, hv, rfl⟩ := Option.map_eq_some_iff.1 h
          simpa using State.bound_landRing hv
        · cases h
          simp
      · cases h
        simp
    · cases h
      simp

@[simp] theorem State.bound_drainRing (s : State) : s.SameBound s.drainRing := by
  unfold State.drainRing
  refine .trans ?_ (State.bound_foldl (fun s e => ?_) _ _)
  · simp
  · dsimp only
    split
    · next h =>
      split at h
      · cases h
      · exact State.bound_acceptRing h
    · simp

@[simp] theorem State.bound_ringTileArrives (s : State) (n flits : Nat) (m : Msg) : s.SameBound (s.ringTileArrives n flits m) := by
  simp [State.ringTileArrives]

@[simp] theorem State.bound_ringTileSend (s : State) (g : SegIx) (c : Cwy) : s.SameBound (s.ringTileSend g c) := by
  unfold State.ringTileSend
  dsimp only
  repeat' split
  all_goals simp

@[simp] theorem State.bound_countBreaks (s : State) : s.SameBound s.countBreaks := by
  simp [State.countBreaks]

@[simp] theorem State.bound_ringBreak (s : State) (p : PierIx) : s.SameBound (s.ringBreak p) := by
  simp [State.ringBreak]

@[simp] theorem State.bound_loopbackDone (s : State) (g : SegIx) (failed : List PierIx) : s.SameBound (s.loopbackDone g failed) := by
  simp [State.loopbackDone]

/-! TACQ, TREL, LOOP, HALT, JOINT and BARRIER, and the stop of a failed step. -/

@[simp] theorem State.bound_countOverdraft (s : State) (p : PierIx) (t n : Nat) : s.SameBound (s.countOverdraft p t n) := by
  simp [State.countOverdraft]

@[simp] theorem State.bound_tacqEffect (s : State) (p : PierIx) (t n : Nat) : s.SameBound (s.tacqEffect p t n) := by
  simp [State.tacqEffect]

@[simp] theorem bound_runTacq (failed : Bool) (p : PierIx) (t n : Nat) (s : State) : s.SameBound (runTacq failed p t n s) := by
  simp [runTacq]

@[simp] theorem State.bound_trelEffect (s : State) (p : PierIx) (t n : Nat) (all : Bool) : s.SameBound (s.trelEffect p t n all) := by
  simp [State.trelEffect]

@[simp] theorem bound_runTrel (failed : Bool) (p : PierIx) (t n : Nat) (all : Bool) (s : State) :
    s.SameBound (runTrel failed p t n all s) := by
  simp [runTrel]

@[simp] theorem State.bound_loopEffect (s : State) (p : PierIx) (l : LoopRec) : s.SameBound (s.loopEffect p l) := by
  simp [State.loopEffect]

@[simp] theorem bound_runLoop (failed : Bool) (p : PierIx) (t count body first len : Nat) (s : State) :
    s.SameBound (runLoop failed p t count body first len s) := by
  simp [runLoop]

@[simp] theorem State.bound_haltEffect (s : State) (p : PierIx) (t : Nat) : s.SameBound (s.haltEffect p t) := by
  simp [State.haltEffect]

@[simp] theorem bound_runHalt (failed : Bool) (p : PierIx) (t : Nat) (s : State) : s.SameBound (runHalt failed p t s) := by
  simp [runHalt]

@[simp] theorem State.bound_countRow4 (s : State) (p : PierIx) : s.SameBound (s.countRow4 p) := by
  simp [State.countRow4]

@[simp] theorem State.bound_jointEffect (s : State) (p : PierIx) (t : Nat) (config : Option Nat) :
    s.SameBound (s.jointEffect p t config) := by
  simp [State.jointEffect]

@[simp] theorem bound_runJoint (failed : Bool) (p : PierIx) (t : Nat) (config : Option Nat) (s : State) :
    s.SameBound (runJoint failed p t config s) := by
  simp [runJoint]

@[simp] theorem State.bound_settleAll (s : State) : s.SameBound s.settleAll := by
  simp [State.settleAll]

@[simp] theorem State.bound_resumeAt (s : State) (p : PierIx) (cycle : Nat) : s.SameBound (s.resumeAt p cycle) := by
  simp [State.resumeAt]

@[simp] theorem State.bound_countJoint (s : State) : s.SameBound s.countJoint := by
  simp [State.countJoint]

@[simp] theorem State.bound_pierAfterJoint (s : State) (p : PierIx) : s.SameBound (s.pierAfterJoint p) := by
  simp [State.pierAfterJoint]

@[simp] theorem State.bound_leaveJoint (s : State) (cycle : Nat) : s.SameBound (s.leaveJoint cycle) := by
  unfold State.leaveJoint
  dsimp only
  refine .trans (State.bound_foldl (fun s p => ?_) _ _) (State.bound_wakeTags _)
  split <;> simp

@[simp] theorem State.bound_jointComplete (s : State) (cycle : Nat) : s.SameBound (s.jointComplete cycle) := by
  simp [State.jointComplete]

@[simp] theorem State.bound_barrierEffect (s : State) (p : PierIx) (t : Nat) (mask : BitVec 8) (unseg : Bool) :
    s.SameBound (s.barrierEffect p t mask unseg) := by
  simp [State.barrierEffect]

@[simp] theorem bound_runBarrier (failed : Bool) (p : PierIx) (t : Nat) (mask : BitVec 8) (unseg : Bool) (s : State) :
    s.SameBound (runBarrier failed p t mask unseg s) := by
  simp [runBarrier]

@[simp] theorem State.bound_barrierComplete (s : State) (mask : BitVec 8) (unseg : Bool) (cycle : Nat) :
    s.SameBound (s.barrierComplete mask unseg cycle) := by
  simp [State.barrierComplete]

@[simp] theorem State.bound_countParapets (s : State) : s.SameBound s.countParapets := by
  simp [State.countParapets]

@[simp] theorem State.bound_dropLaunchParapets (s : State) : s.SameBound s.dropLaunchParapets := by
  simp [State.dropLaunchParapets]

@[simp] theorem State.bound_finishLaunch (s : State) (c : Cc) (detail : Nat) : s.SameBound (s.finishLaunch c detail) := by
  unfold State.finishLaunch
  split <;> simp

@[simp] theorem State.bound_finishPreempt (s : State) (c : Cc) (detail : Nat) (result : List Byte) :
    s.SameBound (s.finishPreempt c detail result) := by
  unfold State.finishPreempt
  dsimp only
  split <;> simp

@[simp] theorem State.bound_haltWait (s : State) (p : PierIx) : s.SameBound (s.haltWait p) := by
  simp [State.haltWait]

@[simp] theorem State.bound_scheduleDone (s : State) : s.SameBound s.scheduleDone := by
  simp [State.scheduleDone]

@[simp] theorem State.bound_stopTimeout (s : State) (d : Dom) : s.SameBound (s.stopTimeout d) := by
  simp [State.stopTimeout]

@[simp] theorem State.bound_stepAbandoned (s : State) : s.SameBound s.stepAbandoned := by
  simp [State.stepAbandoned]

@[simp] theorem State.bound_regionDeadlock (s : State) (d : Dom) : s.SameBound (s.regionDeadlock d) := by
  unfold State.regionDeadlock
  split <;> simp

@[simp] theorem State.bound_quotaWindowEnd (s : State) : s.SameBound s.quotaWindowEnd := by
  simp [State.quotaWindowEnd]

@[simp] theorem State.bound_readLine (s : State) (line : Nat) (u : Upset) : s.SameBound (s.readLine line u).2 := by
  unfold State.readLine
  repeat' split
  all_goals simp

@[simp] theorem State.bound_cacheFill (s : State) (p : PierIx) (line : Nat) (u : Upset) : s.SameBound (s.cacheFill p line u) := by
  simp [State.cacheFill]

/-! PREEMPT and RESUME. -/

@[simp] theorem State.bound_putRegs (s : State) (p : PierIx) (m : NMap Word) : s.SameBound (s.putRegs p m) := by
  simp [State.putRegs]

@[simp] theorem State.bound_restorePier (s : State) (p : PierIx) (x : SavedPier) : s.SameBound (s.restorePier p x) := by
  simp [State.restorePier]

@[simp] theorem State.bound_preempt (s : State) (k : MailIx) : s.SameBound (s.preempt k) := by
  simp [State.preempt]

@[simp] theorem State.bound_saveRun (object n : Nat) (s : State) (o : Nat) : s.SameBound (State.saveRun object n s o) := by
  unfold State.saveRun
  split <;> simp

@[simp] theorem State.bound_writeSave (s : State) (object n : Nat) : s.SameBound (s.writeSave object n) := by
  simp [State.writeSave]

@[simp] theorem State.bound_readSave (s : State) (object n : Nat) : s.SameBound (s.readSave object n) := by
  simp [State.readSave]

@[simp] theorem State.bound_saveBinding (s : State) (object : Nat) : s.SameBound (s.saveBinding object) := by
  simp [State.saveBinding]

@[simp] theorem State.bound_preemptSave (s : State) : s.SameBound s.preemptSave := by
  unfold State.preemptSave
  dsimp only
  repeat' split
  all_goals simp

@[simp] theorem State.bound_fetchAnew (s : State) (p : PierIx) (k : Nat) : s.SameBound (s.fetchAnew p k) := by
  simp [State.fetchAnew]

@[simp] theorem State.bound_rewindGang (s : State) (p : PierIx) (n : Fin 16) : s.SameBound (s.rewindGang p n) := by
  simp [State.rewindGang]

@[simp] theorem State.bound_reclaim (s : State) (p : PierIx) : s.SameBound (s.reclaim p) := by
  simp [State.reclaim]

@[simp] theorem State.bound_reclaimAll (s : State) (d : Dom) : s.SameBound (s.reclaimAll d) := by
  unfold State.reclaimAll
  dsimp only
  split <;> simp

@[simp] theorem State.bound_restore (s : State) (x : Save) : s.SameBound (s.restore x) := by
  simp [State.restore]

/-! LOAD_IMAGE and BIND: from here on the binding changes, the banks do not. -/

@[simp] theorem State.bound_unbindPier (s : State) (p : Nat) : s.SameBound (s.unbindPier p) := by
  simp [State.unbindPier]

@[simp] theorem State.banks_unbind (s : State) : s.SameBanks s.unbind := by
  simp [State.unbind]

@[simp] theorem State.banks_takeImage (s : State) : s.SameBanks s.takeImage := by
  simp [State.takeImage]

@[simp] theorem State.banks_loadImage (s : State) (k : MailIx) : s.SameBanks (s.loadImage k) := by
  unfold State.loadImage
  refine State.banks_onPacket _ _ (fun p => ?_)
  dsimp only
  repeat' split
  all_goals simp

@[simp] theorem State.banks_bindPier (s : State) (o : Nat) (ps : List PierIx) (state l : Nat) (p : PierIx) :
    s.SameBanks (s.bindPier o ps state l p) := by
  unfold State.bindPier
  dsimp only
  split <;> simp

@[simp] theorem State.banks_placePiers (s : State) : s.SameBanks s.placePiers := by
  simp [State.placePiers]

@[simp] theorem State.banks_bindTo (s : State) (b o : Nat) (ps : List PierIx) : s.SameBanks (s.bindTo b o ps) := by
  simp [State.bindTo]

@[simp] theorem State.banks_bindCmd (s : State) (k : MailIx) : s.SameBanks (s.bindCmd k) := by
  unfold State.bindCmd
  refine State.banks_onPacket _ _ (fun p => ?_)
  dsimp only
  repeat' split
  all_goals simp

/-! The commands on objects, windows and the budget. -/

@[simp] theorem State.banks_mapTo (s : State) (n : Nat) (loc : Bool) (d : ObjRec) (es : List HomeEntry) :
    s.SameBanks (s.mapTo n loc d es) := by
  simp [State.mapTo]

@[simp] theorem State.banks_keepPacket (s : State) (k : Nat) (f : Packet → Packet) : s.SameBanks (s.keepPacket k f) := by
  simp [State.keepPacket]

@[simp] theorem State.banks_mapObject (s : State) (k : MailIx) (status : Fin 4) : s.SameBanks (s.mapObject k status) := by
  unfold State.mapObject
  refine State.banks_onPacket _ _ (fun p => ?_)
  dsimp only
  repeat' split
  all_goals simp

@[simp] theorem State.banks_moveObject (s : State) (k : MailIx) : s.SameBanks (s.moveObject k) := by
  unfold State.moveObject
  refine State.banks_onPacket _ _ (fun p => ?_)
  dsimp only
  repeat' split
  all_goals simp

@[simp] theorem State.banks_openWindow (s : State) (k : MailIx) : s.SameBanks (s.openWindow k) := by
  simp [State.openWindow]

@[simp] theorem State.banks_closeWindow (s : State) (k : MailIx) : s.SameBanks (s.closeWindow k) := by
  simp [State.closeWindow]

@[simp] theorem State.banks_setBudget (s : State) (k : MailIx) : s.SameBanks (s.setBudget k) := by
  simp [State.setBudget]

/-! The hold-up bank. -/

@[simp] theorem State.banks_setBank (s : State) (v : Nat) : s.SameBanks (s.setBank v) := by
  simp [State.setBank]

@[simp] theorem State.banks_measureBank (s : State) (v1 v2 : Nat) : s.SameBanks (s.measureBank v1 v2) := by
  simp [State.measureBank]

@[simp] theorem State.banks_checkBank (s : State) (check : Bool) (bank v1 v2 : Nat) : s.SameBanks (s.checkBank check bank v1 v2) := by
  simp [State.checkBank]

/-! LAUNCH. -/

@[simp] theorem State.banks_setSchedVal (s : State) (g : Nat) (x : Scalars) : s.SameBanks (s.setSchedVal g x) := by
  simp [State.setSchedVal]

@[simp] theorem State.banks_runSchedEngine (s : State) : s.SameBanks s.runSchedEngine := by
  unfold State.runSchedEngine
  extract_lets vs s1
  have h1 : s.SameBanks s1 := State.banks_foldl (fun s g => by split <;> simp) _ _
  simpa using h1

@[simp] theorem State.banks_journalRun (s : State) : s.SameBanks s.journalRun := by
  simp [State.journalRun]

@[simp] theorem State.banks_setStreams (s : State) (p : PierIx) (shard : Nat) (eval : Bool) : s.SameBanks (s.setStreams p shard eval) := by
  simp [State.setStreams]

@[simp] theorem State.banks_startPier (s : State) (shard : Nat) (eval : Bool) (scalars : List (List F32)) (p : PierIx) :
    s.SameBanks (s.startPier shard eval scalars p) := by
  simp [State.startPier]

@[simp] theorem State.banks_dropOldTags (s : State) : s.SameBanks s.dropOldTags := by
  simp [State.dropOldTags]

@[simp] theorem State.banks_launchProgram (s : State) (p : Packet) : s.SameBanks (s.launchProgram p) := by
  simp [State.launchProgram]

@[simp] theorem State.banks_launch (s : State) (k : MailIx) (bank v1 v2 : Nat) : s.SameBanks (s.launch k bank v1 v2) := by
  unfold State.launch
  refine State.banks_onPacket _ _ (fun p => ?_)
  dsimp only
  repeat' split
  all_goals simp

@[simp] theorem State.banks_resume (s : State) (k : MailIx) (bank v1 v2 : Nat) : s.SameBanks (s.resume k bank v1 v2) := by
  unfold State.resume
  refine State.banks_onPacket _ _ (fun p => ?_)
  repeat' split
  all_goals simp

/-! Admission, fencing, tests and resets of piers. -/

@[simp] theorem State.banks_clearCompute (s : State) (f : Nat → Bool) : s.SameBanks (s.clearCompute f) := by
  simp [State.clearCompute]

@[simp] theorem State.banks_dropTransfers (s : State) (p : PierIx) : s.SameBanks (s.dropTransfers p) := by
  simp [State.dropTransfers]

@[simp] theorem State.banks_resetCompute (s : State) (p : PierIx) : s.SameBanks (s.resetCompute p) := by
  simp [State.resetCompute]

@[simp] theorem State.banks_loseBound (s : State) (p : PierIx) : s.SameBanks (s.loseBound p) := by
  simp [State.loseBound]

@[simp] theorem State.banks_takeIn (s : State) (p : PierIx) : s.SameBanks (s.takeIn p) := by
  simp [State.takeIn]

@[simp] theorem State.banks_makeSpare (s : State) (p : PierIx) : s.SameBanks (s.makeSpare p) := by
  simp [State.makeSpare]

@[simp] theorem State.banks_failPier (s : State) (p : PierIx) (code : Nat) : s.SameBanks (s.failPier p code) := by
  simp [State.failPier]

@[simp] theorem State.banks_countTests (s : State) : s.SameBanks s.countTests := by
  simp [State.countTests]

@[simp] theorem State.banks_leaveIdle (s : State) : s.SameBanks s.leaveIdle := by
  simp [State.leaveIdle]

@[simp] theorem State.banks_startTest (s : State) (t : PierTest) : s.SameBanks (s.startTest t) := by
  simp [State.startTest]

@[simp] theorem State.banks_dropTest (s : State) (p : PierIx) : s.SameBanks (s.dropTest p) := by
  simp [State.dropTest]

@[simp] theorem State.banks_tryReplace (s : State) (slot : Option Nat) (old : PierIx) (lo : Nat) :
    s.SameBanks (s.tryReplace slot old lo) := by
  unfold State.tryReplace
  repeat' split
  all_goals simp

@[simp] theorem State.banks_noteResult (s : State) (code repairs ms : Nat) : s.SameBanks (s.noteResult code repairs ms) := by
  simp [State.noteResult]

@[simp] theorem State.banks_endTest (s : State) (t : PierTest) (code repairs ms : Nat) : s.SameBanks (s.endTest t code repairs ms) := by
  unfold State.endTest
  dsimp only
  repeat' split
  all_goals simp

@[simp] theorem State.banks_interruptTest (s : State) (t : PierTest) (on : Bool) : s.SameBanks (s.interruptTest t on) := by
  unfold State.interruptTest
  repeat' split
  all_goals simp

@[simp] theorem State.banks_repairUnit (s : State) (a u : Nat) : s.SameBanks (s.repairUnit a u) := by
  simp [State.repairUnit]

@[simp] theorem State.banks_dropSoftWords (s : State) (p : PierIx) : s.SameBanks (s.dropSoftWords p) := by
  simp [State.dropSoftWords]

@[simp] theorem State.banks_repairDeck (s : State) (p : PierIx) (bank word : Nat) : s.SameBanks (s.repairDeck p bank word) := by
  simp [State.repairDeck]

@[simp] theorem State.banks_repairPier (s : State) (p : PierIx) (r : PierResult) : s.SameBanks (s.repairPier p r) := by
  simp [State.repairPier]

@[simp] theorem State.banks_pierTestDone (s : State) (p : PierIx) (r : PierResult) (ms : Nat) : s.SameBanks (s.pierTestDone p r ms) := by
  unfold State.pierTestDone
  split <;> simp

@[simp] theorem State.banks_fence (s : State) (p : PierIx) : s.SameBanks (s.fence p) := by
  unfold State.fence
  split <;> simp

@[simp] theorem State.banks_fencePier (s : State) (k : MailIx) : s.SameBanks (s.fencePier k) := by
  unfold State.fencePier
  refine State.banks_onPacket _ _ (fun p => ?_)
  dsimp only
  repeat' split
  all_goals simp

@[simp] theorem State.banks_admitPier (s : State) (k : MailIx) : s.SameBanks (s.admitPier k) := by
  unfold State.admitPier
  refine State.banks_onPacket _ _ (fun p => ?_)
  dsimp only
  repeat' split
  all_goals simp

@[simp] theorem State.banks_bistPier (s : State) (k : MailIx) : s.SameBanks (s.bistPier k) := by
  unfold State.bistPier
  refine State.banks_onPacket _ _ (fun p => ?_)
  dsimp only
  repeat' split
  all_goals simp

@[simp] theorem State.banks_fenceDuePiers (s : State) : s.SameBanks s.fenceDuePiers := by
  simp [State.fenceDuePiers]

@[simp] theorem State.banks_resetPier (s : State) (k : MailIx) : s.SameBanks (s.resetPier k) := by
  unfold State.resetPier
  refine State.banks_onPacket _ _ (fun p => ?_)
  dsimp only
  repeat' split
  all_goals simp

/-! Pairs. -/

@[simp] theorem State.banks_setPairState (s : State) (v : Nat) : s.SameBanks (s.setPairState v) := by
  simp [State.setPairState]

@[simp] theorem State.banks_pairEvent (s : State) (f : Fld) (c : Code) (detail : Nat) : s.SameBanks (s.pairEvent f c detail) := by
  simp [State.pairEvent]

@[simp] theorem State.banks_updateBond (s : State) : s.SameBanks s.updateBond := by
  simp [State.updateBond]

@[simp] theorem State.banks_sendSync (s : State) (subtype : Nat) (param data : List Byte) :
    s.SameBanks (s.sendSync subtype param data) := by
  simp [State.sendSync]

@[simp] theorem State.banks_sendApplied (s : State) : s.SameBanks s.sendApplied := by
  simp [State.sendApplied]

@[simp] theorem State.banks_sendKeystone (s : State) (mseq step : Nat) (ack : Bool) : s.SameBanks (s.sendKeystone mseq step ack) := by
  simp [State.sendKeystone]

@[simp] theorem State.banks_finishOp (s : State) (op : Nat) (c : Cc) (detail : Nat) (result : List Byte) :
    s.SameBanks (s.finishOp op c detail result) := by
  unfold State.finishOp
  split <;> simp

@[simp] theorem State.banks_endForwarding (s : State) : s.SameBanks s.endForwarding := by
  unfold State.endForwarding
  split <;> simp

@[simp] theorem State.banks_unpair (s : State) : s.SameBanks s.unpair := by
  simp [State.unpair]

@[simp] theorem State.banks_pairLost (s : State) (cause : Nat) : s.SameBanks (s.pairLost cause) := by
  simp [State.pairLost]

@[simp] theorem State.banks_pairUp (s : State) : s.SameBanks s.pairUp := by
  simp [State.pairUp]

@[simp] theorem State.banks_endRejoin (s : State) (c : Cc) (detail : Nat) : s.SameBanks (s.endRejoin c detail) := by
  simp [State.endRejoin]

@[simp] theorem State.banks_endForming (s : State) (c : Cc) (detail : Nat) : s.SameBanks (s.endForming c detail) := by
  simp [State.endForming]

@[simp] theorem State.banks_bondDown (s : State) : s.SameBanks s.bondDown := by
  unfold State.bondDown
  split <;> simp

@[simp] theorem State.banks_bondUp (s : State) : s.SameBanks s.bondUp := by
  simp [State.bondUp]

@[simp] theorem State.banks_sendForm (s : State) (kind : Nat) (es : List (Nat × Nat)) : s.SameBanks (s.sendForm kind es) := by
  simp [State.sendForm]

@[simp] theorem State.banks_formDone (s : State) : s.SameBanks s.formDone := by
  unfold State.formDone
  split <;> simp

@[simp] theorem State.banks_bulkReady (s : State) : s.SameBanks s.bulkReady := by
  simp [State.bulkReady]

@[simp] theorem State.banks_startBulk (s : State) : s.SameBanks s.startBulk := by
  simp [State.startBulk]

@[simp] theorem State.banks_pairCheck (s : State) : s.SameBanks s.pairCheck := by
  unfold State.pairCheck
  repeat' split
  all_goals simp

@[simp] theorem State.banks_zeroMseq (s : State) : s.SameBanks s.zeroMseq := by
  simp [State.zeroMseq]

@[simp] theorem State.banks_readEntries (s : State) (p : Packet) (count : Nat) : s.SameBanks (s.readEntries p count) := by
  simp [State.readEntries]

@[simp] theorem State.banks_meetMate (s : State) (mate state : Nat) (finds : Option (Fin 4)) :
    s.SameBanks (s.meetMate mate state finds) := by
  unfold State.meetMate
  generalize s.stepNo + 2 ^ 32 - 1 = step
  simp

@[simp] theorem State.banks_pairForm (s : State) (k : MailIx) (status : Fin 4) (finds : Option (Fin 4)) :
    s.SameBanks (s.pairForm k status finds) := by
  simp [State.pairForm]

@[simp] theorem State.banks_pairRejoin (s : State) (k : MailIx) (status : Fin 4) (finds : Option (Fin 4)) :
    s.SameBanks (s.pairRejoin k status finds) := by
  simp [State.pairRejoin]

@[simp] theorem State.banks_bulkTile (n stop : Nat) (u : Upset) (s : State) (o : Nat) : s.SameBanks (State.bulkTile n stop u s o) := by
  simp [State.bulkTile]

@[simp] theorem State.banks_bulkCopy (s : State) (u : Upset) : s.SameBanks (s.bulkCopy u) := by
  unfold State.bulkCopy
  split <;> simp

@[simp] theorem State.banks_committed (s : State) (n mseq : Nat) : s.SameBanks (s.committed n mseq) := by
  simp [State.committed]

@[simp] theorem State.banks_writeOwn (s : State) (n k : Nat) (key : Bool) : s.SameBanks (s.writeOwn n k key) := by
  simp [State.writeOwn]

@[simp] theorem State.banks_ownWritten (s : State) (n : Nat) : s.SameBanks (s.ownWritten n) := by
  unfold State.ownWritten
  split <;> simp

@[simp] theorem State.banks_stepCommit (s : State) (k : MailIx) : s.SameBanks (s.stepCommit k) := by
  simp [State.stepCommit]

@[simp] theorem State.banks_stepCommitSet (s : State) (k : MailIx) : s.SameBanks (s.stepCommitSet k) := by
  unfold State.stepCommitSet
  refine State.banks_onPacket _ _ (fun p => ?_)
  dsimp only
  generalize (p.le 8 4 + 2 ^ 32 - 1) % 2 ^ 32 = step
  repeat' split
  all_goals simp

@[simp] theorem State.banks_failCommit (s : State) (c : Cc) (detail : Nat) : s.SameBanks (s.failCommit c detail) := by
  simp [State.failCommit]

@[simp] theorem State.banks_handOver (s : State) (n : Nat) : s.SameBanks (s.handOver n) := by
  simp [State.handOver]

@[simp] theorem State.banks_ackArrives (s : State) (mseq step : Nat) : s.SameBanks (s.ackArrives mseq step) := by
  unfold State.ackArrives
  split <;> simp

@[simp] theorem State.banks_takeOver (s : State) (step : Nat) : s.SameBanks (s.takeOver step) := by
  simp [State.takeOver]

@[simp] theorem State.banks_acknowledge (s : State) (step mseq : Nat) : s.SameBanks (s.acknowledge step mseq) := by
  simp [State.acknowledge]

@[simp] theorem State.banks_refuseKey (s : State) (mseq step reason : Nat) : s.SameBanks (s.refuseKey mseq step reason) := by
  simp [State.refuseKey]

@[simp] theorem State.banks_tryKey (s : State) : s.SameBanks s.tryKey := by
  unfold State.tryKey
  split <;> simp

@[simp] theorem State.banks_keyArrives (s : State) (mseq step : Nat) : s.SameBanks (s.keyArrives mseq step) := by
  simp [State.keyArrives]

@[simp] theorem State.banks_mirrorFault (s : State) (mseq : Nat) : s.SameBanks (s.mirrorFault mseq) := by
  simp [State.mirrorFault]

theorem State.banks_applyMirror {s t : State} {x : MirrorWrite} (h : s.applyMirror x = some t) : s.SameBanks t := by
  unfold State.applyMirror at h
  extract_lets u at h
  split at h
  · cases h
    simp [u]
  · split at h
    · cases h
      simp [u]
    · extract_lets rs at h
      split at h
      · cases h
        simp [u]
      · split at h
        · cases h
        · cases h
          refine .trans ?_ (State.banks_foldl (fun s r => by split <;> simp) _ _)
          simp [u]

@[simp] theorem State.banks_drainReorder (fuel : Nat) (s : State) : s.SameBanks (State.drainReorder fuel s) := by
  induction fuel generalizing s with
  | zero => simp [State.drainReorder]
  | succ fuel ih =>
    unfold State.drainReorder
    split
    · simp
    · split
      · simp
      · next h => simpa [ih] using State.banks_applyMirror h

@[simp] theorem State.banks_mirrorOn (s : State) : s.SameBanks s.mirrorOn := by
  simp [State.mirrorOn]

@[simp] theorem State.banks_mirrorArrives (s : State) (x : MirrorWrite) : s.SameBanks (s.mirrorArrives x) := by
  simp [State.mirrorArrives]

@[simp] theorem State.banks_resendLog (s : State) (n : Nat) : s.SameBanks (s.resendLog n) := by
  simp [State.resendLog]

@[simp] theorem State.banks_resendKey (s : State) : s.SameBanks s.resendKey := by
  unfold State.resendKey
  split <;> simp

@[simp] theorem State.banks_appliedArrives (s : State) (n : Nat) : s.SameBanks (s.appliedArrives n) := by
  simp [State.appliedArrives]

@[simp] theorem State.banks_resendArrives (s : State) (n : Nat) : s.SameBanks (s.resendArrives n) := by
  simp [State.resendArrives]

@[simp] theorem State.banks_refusedArrives (s : State) (mseq step reason : Nat) : s.SameBanks (s.refusedArrives mseq step reason) := by
  unfold State.refusedArrives
  split <;> simp

@[simp] theorem State.banks_syncArrives (s : State) (subtype : Nat) (ps data : List Byte) :
    s.SameBanks (s.syncArrives subtype ps data) := by
  unfold State.syncArrives
  split <;> simp

@[simp] theorem State.banks_pairArrives (s : State) (nb : Nat) (m : Msg) : s.SameBanks (s.pairArrives nb m) := by
  unfold State.pairArrives
  repeat' split
  all_goals simp

@[simp] theorem State.banks_appliedTimer (s : State) : s.SameBanks s.appliedTimer := by
  simp [State.appliedTimer]

@[simp] theorem State.banks_gapTimeout (s : State) (lost : Bool) : s.SameBanks (s.gapTimeout lost) := by
  simp [State.gapTimeout]

@[simp] theorem State.banks_commitTimeout (s : State) : s.SameBanks s.commitTimeout := by
  unfold State.commitTimeout
  split <;> simp

@[simp] theorem State.banks_pairFailover (s : State) (k : MailIx) : s.SameBanks (s.pairFailover k) := by
  simp [State.pairFailover]

/-! The Paune ports. -/

@[simp] theorem State.banks_bondChange (s : State) (was : Bool) : s.SameBanks (s.bondChange was) := by
  simp [State.bondChange]

@[simp] theorem State.banks_onPort {s : State} {f : State → State} (h : ∀ u : State, u.SameBanks (f u)) :
    s.SameBanks (s.onPort f) := by
  simp [State.onPort, h]

@[simp] theorem State.banks_portEvent (s : State) (f : Fld) (n : Nat) (c : Code) (detail : Nat) :
    s.SameBanks (s.portEvent f n c detail) := by
  simp [State.portEvent]

@[simp] theorem State.banks_tryCut (s : State) (n vc : Nat) : s.SameBanks (s.tryCut n vc) := by
  unfold State.tryCut
  dsimp only
  repeat' split
  all_goals simp

@[simp] theorem State.banks_freeVc (s : State) (c : Cut) : s.SameBanks (s.freeVc c) := by
  simp [State.freeVc]

@[simp] theorem State.banks_dropCuts (s : State) (n : Nat) : s.SameBanks (s.dropCuts n) := by
  simp [State.dropCuts]

@[simp] theorem State.banks_oweDropped (s : State) (n : Nat) : s.SameBanks (s.oweDropped n) := by
  unfold State.oweDropped
  exact State.banks_foldl (fun s x => by split <;> simp) _ _

@[simp] theorem State.banks_dropLink (s : State) (n : Nat) : s.SameBanks (s.dropLink n) := by
  simp [State.dropLink]

@[simp] theorem State.banks_portDown (s : State) (n state : Nat) : s.SameBanks (s.portDown n state) := by
  simp [State.portDown]

@[simp] theorem State.banks_toDetect (s : State) (n : Nat) : s.SameBanks (s.toDetect n) := by
  simp [State.toDetect]

@[simp] theorem State.banks_laneDetect (s : State) (n : Nat) (lanes : BitVec 8) : s.SameBanks (s.laneDetect n lanes) := by
  simp [State.laneDetect]

@[simp] theorem State.banks_trainFail (s : State) (n : Nat) : s.SameBanks (s.trainFail n) := by
  simp [State.trainFail]

@[simp] theorem State.banks_linkFields (s : State) (n : Nat) (h : Hello) (narrow : Bool) : s.SameBanks (s.linkFields n h narrow) := by
  simp [State.linkFields]

@[simp] theorem State.banks_goActive (s : State) (n : Nat) (h : Hello) (narrow lead : Bool) : s.SameBanks (s.goActive n h narrow lead) := by
  simp [State.goActive]

@[simp] theorem State.banks_exchange (s : State) (n : Nat) (h : Hello) : s.SameBanks (s.exchange n h) := by
  unfold State.exchange
  dsimp only
  repeat' split
  all_goals simp

@[simp] theorem State.banks_recoverHello (s : State) (n : Nat) (h : Hello) : s.SameBanks (s.recoverHello n h) := by
  unfold State.recoverHello
  dsimp only
  repeat' split
  all_goals simp

@[simp] theorem State.banks_helloArrives (s : State) (n : Nat) (h : Hello) : s.SameBanks (s.helloArrives n h) := by
  unfold State.helloArrives
  split <;> simp

@[simp] theorem State.banks_startArrives (s : State) (n : Nat) : s.SameBanks (s.startArrives n) := by
  unfold State.startArrives
  dsimp only
  split <;> simp

@[simp] theorem State.banks_alignLock (s : State) (n : Nat) (lanes : BitVec 8) : s.SameBanks (s.alignLock n lanes) := by
  unfold State.alignLock
  repeat' split
  all_goals simp

@[simp] theorem State.banks_lockLoss (s : State) (n : Nat) (lanes : BitVec 8) : s.SameBanks (s.lockLoss n lanes) := by
  simp [State.lockLoss]

@[simp] theorem State.banks_ackTimeout (s : State) (n : Nat) : s.SameBanks (s.ackTimeout n) := by
  simp [State.ackTimeout]

@[simp] theorem State.banks_takeReply (s : State) (r : Remote) (status : Nat) (data : List Byte) :
    s.SameBanks (s.takeReply r status data) := by
  unfold State.takeReply
  dsimp only
  repeat' split
  all_goals simp

@[simp] theorem State.banks_replyArrives (s : State) (m : Msg) (tag status : Nat) (data : List Byte) :
    s.SameBanks (s.replyArrives m tag status data) := by
  unfold State.replyArrives
  dsimp only
  split <;> simp

@[simp] theorem State.banks_probeReply (s : State) (tag : Nat) (trunc : Bool) (hops : List Hop) (status : Fin 4) :
    s.SameBanks (s.probeReply tag trunc hops status) := by
  unfold State.probeReply
  dsimp only
  repeat' split
  all_goals simp

@[simp] theorem State.banks_deliver (s : State) (m : Msg) (status : Fin 4) : s.SameBanks (s.deliver m status) := by
  unfold State.deliver
  split <;> simp

@[simp] theorem State.banks_forwardMsg (s : State) (n dl flits : Nat) (m : Msg) : s.SameBanks (s.forwardMsg n dl flits m) := by
  unfold State.forwardMsg
  repeat' split
  all_goals simp

@[simp] theorem State.banks_arrive (s : State) (n dl flits : Nat) (m : Msg) (status : Fin 4) :
    s.SameBanks (s.arrive n dl flits m status) := by
  unfold State.arrive
  repeat' split
  all_goals simp

@[simp] theorem State.banks_oweFor (s : State) (n dl vc flits : Nat) (m : Msg) : s.SameBanks (s.oweFor n dl vc flits m) := by
  simp [State.oweFor]

@[simp] theorem State.banks_messageArrives (s : State) (n : PortIx) (dl : Fin 2) (m : Msg) (status : Fin 4) :
    s.SameBanks (s.messageArrives n dl m status) := by
  simp [State.messageArrives]

@[simp] theorem State.banks_dataFailed (s : State) (n : Nat) : s.SameBanks (s.dataFailed n) := by
  simp [State.dataFailed]

@[simp] theorem State.banks_cutFlit (s : State) (c : Cut) (f : Flit) : s.SameBanks (s.cutFlit c f) := by
  simp [State.cutFlit]

@[simp] theorem State.banks_joinFlit (s : State) (n : Nat) (f : Flit) : s.SameBanks (s.joinFlit n f) := by
  unfold State.joinFlit
  dsimp only
  repeat' split
  all_goals simp

@[simp] theorem State.banks_acceptFlit (s : State) (n : Nat) (f : Flit) : s.SameBanks (s.acceptFlit n f) := by
  unfold State.acceptFlit
  dsimp only
  split <;> simp

@[simp] theorem State.banks_countFec (s : State) (n corrected uncorr : Nat) : s.SameBanks (s.countFec n corrected uncorr) := by
  simp [State.countFec]

@[simp] theorem State.banks_crcFailed (s : State) (n : Nat) : s.SameBanks (s.crcFailed n) := by
  simp [State.crcFailed]

@[simp] theorem State.banks_dataFlit (s : State) (n : Nat) (bs : List Byte) (bad : Bool) (corrected uncorr : Nat) :
    s.SameBanks (s.dataFlit n bs bad corrected uncorr) := by
  unfold State.dataFlit
  repeat' split
  all_goals simp

@[simp] theorem State.banks_sideFlit {s : State} (n : Nat) (bs : List Byte) (bad : Bool) (corrected uncorr kind : Nat)
    {f : Flit → State → State} (h : ∀ (x : Flit) (u : State), u.SameBanks (f x u)) :
    s.SameBanks (s.sideFlit n bs bad corrected uncorr kind f) := by
  unfold State.sideFlit
  dsimp only
  repeat' split
  all_goals simp [h]

@[simp] theorem State.banks_retryAsked (n : Nat) (f : Flit) (s : State) : s.SameBanks (State.retryAsked n f s) := by
  unfold State.retryAsked
  repeat' split
  all_goals simp

@[simp] theorem State.banks_msgRow (s : State) (n : PortIx) (dl : Fin 2) (m : Msg) (status : Fin 4) :
    s.SameBanks (s.msgRow n dl m status) := by
  simp [State.msgRow]

@[simp] theorem State.banks_syncRow (s : State) (n : PortIx) (dl : Fin 2) (h : MsgHead) (tag subtype : Nat) (param data : List Byte) :
    s.SameBanks (s.syncRow n dl h tag subtype param data) := by
  simp [State.syncRow]

/-! Firmware. -/

@[simp] theorem State.banks_setBoot (s : State) (active : List Nat) (trial : Option Nat) : s.SameBanks (s.setBoot active trial) := by
  simp [State.setBoot]

@[simp] theorem State.banks_setTrial (s : State) (trial : Option Nat) : s.SameBanks (s.setTrial trial) := by
  simp [State.setTrial]

@[simp] theorem State.banks_setActive (s : State) (target ab : Nat) : s.SameBanks (s.setActive target ab) := by
  simp [State.setActive]

@[simp] theorem State.banks_writeNor (s : State) (slot : Nat) (bs : List Byte) : s.SameBanks (s.writeNor slot bs) := by
  simp [State.writeNor]

@[simp] theorem State.banks_setKeyState (s : State) (i v : Nat) : s.SameBanks (s.setKeyState i v) := by
  simp [State.setKeyState]

@[simp] theorem State.banks_freeBytes (n : Nat) (s : State) : s.SameBanks (State.freeBytes n s).2 := by
  induction n generalizing s with
  | zero => simp [State.freeBytes]
  | succ n ih => simp [State.freeBytes, ih]

@[simp] theorem State.banks_extendFuses (s : State) : s.SameBanks s.extendFuses := by
  simp [State.extendFuses]

@[simp] theorem State.banks_burnFor (s : State) (target slot : Nat) : s.SameBanks (s.burnFor target slot) := by
  unfold State.burnFor
  split <;> simp

@[simp] theorem State.banks_startTollhouse (s : State) (ab : Nat) : s.SameBanks (s.startTollhouse ab) := by
  simp [State.startTollhouse]

@[simp] theorem State.banks_onFirmware {s : State} (k : MailIx) (target : Nat) {f : State → Packet → List Byte → State}
    (h : ∀ (u : State) p bs, u.SameBanks (f u p bs)) : s.SameBanks (s.onFirmware k target f) := by
  unfold State.onFirmware
  refine State.banks_onPacket _ _ (fun p => ?_)
  dsimp only
  repeat' split
  all_goals simp [h]

@[simp] theorem State.banks_updateTollhouse (s : State) (k : MailIx) : s.SameBanks (s.updateTollhouse k) := by
  simp [State.updateTollhouse]

@[simp] theorem State.banks_loadUnit (s : State) (target index ab : Nat) : s.SameBanks (s.loadUnit target index ab) := by
  simp [State.loadUnit]

@[simp] theorem State.banks_writeUnit (s : State) (target : Nat) (bs : List Byte) : s.SameBanks (s.writeUnit target bs) := by
  simp [State.writeUnit]

@[simp] theorem State.banks_updateGate (s : State) (k : MailIx) : s.SameBanks (s.updateGate k) := by
  simp [State.updateGate]

@[simp] theorem State.banks_restartPort (s : State) (n : Nat) : s.SameBanks (s.restartPort n) := by
  simp [State.restartPort]

@[simp] theorem State.banks_updatePort (s : State) (k : MailIx) : s.SameBanks (s.updatePort k) := by
  simp [State.updatePort]

@[simp] theorem State.banks_fwSwitch (s : State) : s.SameBanks s.fwSwitch := by
  unfold State.fwSwitch
  split <;> simp

@[simp] theorem State.banks_fwSwitchTimeout (s : State) : s.SameBanks s.fwSwitchTimeout := by
  unfold State.fwSwitchTimeout
  split <;> simp

@[simp] theorem State.banks_fwTrialEnd (s : State) : s.SameBanks s.fwTrialEnd := by
  unfold State.fwTrialEnd
  split <;> simp

@[simp] theorem State.banks_failFree (s : State) (c : Code) : s.SameBanks (s.failFree c) := by
  simp [State.failFree]

@[simp] theorem State.banks_restartTollhouse (s : State) (addr : Nat) : s.SameBanks (s.restartTollhouse addr) := by
  simp [State.restartTollhouse]

/-! The event controller and the event queue. -/

@[simp] theorem State.banks_writeRecord (s : State) (seq : Nat) (n : Notice) : s.SameBanks (s.writeRecord seq n) := by
  simp [State.writeRecord]

@[simp] theorem State.banks_takeSeq (s : State) : s.SameBanks s.takeSeq := by
  simp [State.takeSeq]

@[simp] theorem State.banks_pumpRecords (fuel : Nat) (s : State) : s.SameBanks (State.pumpRecords fuel s) := by
  induction fuel generalizing s with
  | zero => simp [State.pumpRecords]
  | succ fuel ih =>
    unfold State.pumpRecords
    dsimp only
    repeat' split
    all_goals simp [ih]

@[simp] theorem State.banks_pumpQueue (s : State) : s.SameBanks s.pumpQueue := by
  simp [State.pumpQueue]

@[simp] theorem State.banks_postNotice (s : State) (n : Notice) : s.SameBanks (s.postNotice n) := by
  simp [State.postNotice]

@[simp] theorem State.banks_recordDone (s : State) : s.SameBanks s.recordDone := by
  simp [State.recordDone]

@[simp] theorem State.banks_takeHead (s : State) (status : Fin 4) : s.SameBanks (s.takeHead status) := by
  simp [State.takeHead]

@[simp] theorem State.banks_readHead (s : State) (status : Fin 4) : s.SameBanks (s.readHead status) := by
  simp [State.readHead]

@[simp] theorem State.banks_present (s : State) : s.SameBanks s.present := by
  unfold State.present
  split <;> simp

@[simp] theorem State.banks_stackFault (s : State) (level : Nat) : s.SameBanks (s.stackFault level) := by
  unfold State.stackFault
  split <;> simp

@[simp] theorem State.banks_evtDone (s : State) (level : Nat) : s.SameBanks (s.evtDone level) := by
  unfold State.evtDone
  split <;> simp

@[simp] theorem State.banks_flushStack (s : State) : s.SameBanks s.flushStack := by
  simp [State.flushStack]

/-! The gates' commands. -/

@[simp] theorem State.banks_unmapped (s : State) (a : Nat) : s.SameBanks (s.unmapped a) := by
  simp [State.unmapped]

@[simp] theorem State.banks_regFault (s : State) (a : Nat) : s.SameBanks (s.regFault a) := by
  simp [State.regFault]

@[simp] theorem State.banks_gateAccess (s : State) (cls : Fin 3) (addr len : Nat) (data : Option (List Byte)) (poison : Bool) (u : Upset) :
    s.SameBanks (s.gateAccess cls addr len data poison u) := by
  unfold State.gateAccess
  split <;> simp

@[simp] theorem State.banks_scrub (s : State) (g : Nat) (symbols : Nat) : s.SameBanks (s.scrub g symbols) := by
  simp [State.scrub]

@[simp] theorem State.banks_setHeat (s : State) (g row c : Nat) : s.SameBanks (s.setHeat g row c) := by
  simp [State.setHeat]

@[simp] theorem State.banks_tempReading (s : State) (g c : Nat) : s.SameBanks (s.tempReading g c) := by
  simp [State.tempReading]

@[simp] theorem State.banks_askRepair (s : State) (g : Nat) (r : Repair) (a : Nat) : s.SameBanks (s.askRepair g r a) := by
  simp [State.askRepair]

@[simp] theorem State.banks_softRepair (s : State) (g : Nat) (r : Repair) (spare entry : Nat) (symbols : List Nat) :
    s.SameBanks (s.softRepair g r spare entry symbols) := by
  unfold State.softRepair
  split <;> simp

@[simp] theorem State.banks_hardRepair (s : State) (g : Nat) (r : Repair) (spare : Nat) (symbols : List Nat) (burnt : Bool) :
    s.SameBanks (s.hardRepair g r spare symbols burnt) := by
  unfold State.hardRepair
  dsimp only
  repeat' split
  all_goals simp

@[simp] theorem State.banks_releaseRepair (s : State) (g : Nat) (r : Repair) (symbols : List Nat) :
    s.SameBanks (s.releaseRepair g r symbols) := by
  unfold State.releaseRepair
  split <;> simp

@[simp] theorem State.banks_repairWindow (s : State) (g spare entry : Nat) (symbols : List Nat) (burnt : Bool) :
    s.SameBanks (s.repairWindow g spare entry symbols burnt) := by
  unfold State.repairWindow
  repeat' split
  all_goals simp

@[simp] theorem State.banks_watchSel (s : State) (g index : Nat) : s.SameBanks (s.watchSel g index) := by
  simp [State.watchSel]

/-! What goes with the power of piers, gates and stacks. -/

@[simp] theorem State.banks_dropRegs (s : State) (rs : List RegName) : s.SameBanks (s.dropRegs rs) := by
  simp [State.dropRegs]

@[simp] theorem State.banks_countHard (s : State) : s.SameBanks s.countHard := by
  simp [State.countHard]

@[simp] theorem State.banks_retoken (s : State) : s.SameBanks s.retoken := by
  simp [State.retoken]

@[simp] theorem State.banks_clearPiers (s : State) : s.SameBanks s.clearPiers := by
  simp [State.clearPiers]

@[simp] theorem State.banks_loseFabric (s : State) : s.SameBanks s.loseFabric := by
  simp [State.loseFabric]

@[simp] theorem State.banks_restoreSoft (s : State) : s.SameBanks s.restoreSoft := by
  unfold State.restoreSoft
  exact State.banks_foldl (fun s x => by split <;> simp) _ _

@[simp] theorem State.banks_failStack (s : State) (g : Nat) : s.SameBanks (s.failStack g) := by
  simp [State.failStack]

@[simp] theorem State.banks_trainGates (s : State) (untrained : List GateIx) : s.SameBanks (s.trainGates untrained) := by
  simp [State.trainGates]

/-! The power states, the measurement of the hold-up bank and brace. -/

@[simp] theorem State.banks_setPower (s : State) (v : Nat) : s.SameBanks (s.setPower v) := by
  simp [State.setPower]

@[simp] theorem State.banks_setSense (s : State) (i : Nat) (v : Bool) : s.SameBanks (s.setSense i v) := by
  simp [State.setSense]

@[simp] theorem State.banks_charge (s : State) : s.SameBanks s.charge := by
  simp [State.charge]

@[simp] theorem State.banks_startMeasure (s : State) : s.SameBanks s.startMeasure := by
  simp [State.startMeasure]

@[simp] theorem State.banks_measureDone (s : State) (bank v1 v2 : Nat) : s.SameBanks (s.measureDone bank v1 v2) := by
  simp [State.measureDone]

@[simp] theorem State.banks_idleEntry (s : State) : s.SameBanks s.idleEntry := by
  simp [State.idleEntry]

@[simp] theorem State.banks_enterDoze (s : State) : s.SameBanks s.enterDoze := by
  simp [State.enterDoze]

@[simp] theorem State.banks_powerDoze (s : State) : s.SameBanks s.powerDoze := by
  simp [State.powerDoze]

@[simp] theorem State.banks_parkPort (s : State) (n : Nat) : s.SameBanks (s.parkPort n) := by
  simp [State.parkPort]

@[simp] theorem State.banks_enterPark (s : State) : s.SameBanks s.enterPark := by
  simp [State.enterPark]

@[simp] theorem State.banks_powerPark (s : State) : s.SameBanks s.powerPark := by
  simp [State.powerPark]

@[simp] theorem State.banks_enablePort (s : State) (n : Nat) : s.SameBanks (s.enablePort n) := by
  simp [State.enablePort]

@[simp] theorem State.banks_leavePark (s : State) : s.SameBanks s.leavePark := by
  unfold State.leavePark
  dsimp only
  repeat' split
  all_goals simp

@[simp] theorem State.banks_retestParked (s : State) : s.SameBanks s.retestParked := by
  simp [State.retestParked]

@[simp] theorem State.banks_wakeUp (s : State) (src : Nat) : s.SameBanks (s.wakeUp src) := by
  simp [State.wakeUp]

@[simp] theorem State.banks_latchWake (s : State) (i : Nat) : s.SameBanks (s.latchWake i) := by
  simp [State.latchWake]

@[simp] theorem State.banks_parkWakeTimeout (s : State) (i : Nat) : s.SameBanks (s.parkWakeTimeout i) := by
  simp [State.parkWakeTimeout]

@[simp] theorem State.banks_holdDomains (s : State) : s.SameBanks s.holdDomains := by
  simp [State.holdDomains]

@[simp] theorem State.banks_pauseBist (s : State) : s.SameBanks s.pauseBist := by
  simp [State.pauseBist]

@[simp] theorem State.banks_readInput (s : State) (mv : Nat) : s.SameBanks (s.readInput mv) := by
  simp [State.readInput]

@[simp] theorem State.banks_braceEnter (s : State) (mv : Nat) : s.SameBanks (s.braceEnter mv) := by
  simp [State.braceEnter]

@[simp] theorem State.banks_recoveryLevel (s : State) : s.SameBanks s.recoveryLevel := by
  simp [State.recoveryLevel]

@[simp] theorem State.banks_recoveryBreak (s : State) : s.SameBanks s.recoveryBreak := by
  simp [State.recoveryBreak]

@[simp] theorem State.banks_endBrace (s : State) : s.SameBanks s.endBrace := by
  simp [State.endBrace]

@[simp] theorem State.banks_braceExit (s : State) : s.SameBanks s.braceExit := by
  unfold State.braceExit
  dsimp only
  repeat' split
  all_goals simp

/-! Sense inputs, supply windows, clocks and routers. -/

@[simp] theorem State.banks_senseWake (s : State) (src : Nat) : s.SameBanks (s.senseWake src) := by
  simp [State.senseWake]

@[simp] theorem State.banks_aliveLow (s : State) : s.SameBanks s.aliveLow := by
  simp [State.aliveLow]

@[simp] theorem State.banks_aliveHigh (s : State) : s.SameBanks s.aliveHigh := by
  simp [State.aliveHigh]

@[simp] theorem State.banks_alertOn (s : State) : s.SameBanks s.alertOn := by
  simp [State.alertOn]

@[simp] theorem State.banks_alertOff (s : State) : s.SameBanks s.alertOff := by
  simp [State.alertOff]

@[simp] theorem State.banks_takeTemps (s : State) (temps : List Nat) : s.SameBanks (s.takeTemps temps) := by
  simp [State.takeTemps]

@[simp] theorem State.banks_throttleTemps (s : State) (t : Nat) : s.SameBanks (s.throttleTemps t) := by
  simp [State.throttleTemps]

@[simp] theorem State.banks_countCool (s : State) (t : Nat) : s.SameBanks (s.countCool t) := by
  simp [State.countCool]

@[simp] theorem State.banks_trip (s : State) (sp : Nat) : s.SameBanks (s.trip sp) := by
  simp [State.trip]

@[simp] theorem State.banks_readTemps (s : State) (temps : List Nat) : s.SameBanks (s.readTemps temps) := by
  unfold State.readTemps
  dsimp only
  split <;> simp

@[simp] theorem State.banks_tripClear (s : State) : s.SameBanks s.tripClear := by
  simp [State.tripClear]

@[simp] theorem State.banks_windowEnd (s : State) (vin iin : Nat) (r : WindowReading) : s.SameBanks (s.windowEnd vin iin r) := by
  simp [State.windowEnd]

@[simp] theorem State.banks_fstepUpdate (s : State) : s.SameBanks s.fstepUpdate := by
  simp [State.fstepUpdate]

@[simp] theorem State.banks_setDelta (s : State) (j : Nat) (v : Int) : s.SameBanks (s.setDelta j v) := by
  simp [State.setDelta]

@[simp] theorem State.banks_lengthen (s : State) (n : Nat) (sp : Nat) : s.SameBanks (s.lengthen n sp) := by
  simp [State.lengthen]

@[simp] theorem State.banks_jointStall (j : Nat) (s : State) (d : Dom) : s.SameBanks (State.jointStall j s d) := by
  unfold State.jointStall
  split <;> simp

@[simp] theorem State.banks_jointStalls (s : State) : s.SameBanks s.jointStalls := by
  simp [State.jointStalls]

@[simp] theorem State.banks_period (s : State) (stretch : Option Nat) : s.SameBanks (s.period stretch) := by
  unfold State.period
  split <;> simp

@[simp] theorem State.banks_monitorFail (s : State) (sp : Nat) : s.SameBanks (s.monitorFail sp) := by
  simp [State.monitorFail]

@[simp] theorem State.banks_routerFail (s : State) (p : PierIx) (net : Nat) : s.SameBanks (s.routerFail p net) := by
  simp [State.routerFail]

/-! The self-tests of module and stack. -/

@[simp] theorem State.banks_loopPier (s : State) (p : PierIx) (pass : Bool) : s.SameBanks (s.loopPier p pass) := by
  simp [State.loopPier]

@[simp] theorem State.banks_burnPier (s : State) (unburnt : List Burn) (p : PierIx) (r : PierResult) :
    s.SameBanks (s.burnPier unburnt p r) := by
  simp [State.burnPier]

@[simp] theorem State.banks_testPier (s : State) (r : BistResult) (burn : Bool) (e : PierIx × PierResult) :
    s.SameBanks (s.testPier r burn e) := by
  simp [State.testPier]

@[simp] theorem State.banks_testRow (burn : Bool) (acc : Nat × State) (r : RowResult) :
    acc.2.SameBanks (State.testRow burn acc r).2 := by
  unfold State.testRow
  dsimp only
  repeat' split
  all_goals simp

@[simp] theorem State.banks_testStacks (s : State) (r : BistResult) (f : Nat → Bool) (burn : Bool) :
    s.SameBanks (s.testStacks r f burn).2 := by
  simp [State.testStacks]

@[simp] theorem State.banks_readmit (s : State) (r : BistResult) (before : List PierIx) : s.SameBanks (s.readmit r before) := by
  simp [State.readmit]

@[simp] theorem State.banks_moduleOutcome (s : State) (native testGates : Bool) (found : BistResult) :
    s.SameBanks (s.moduleOutcome native testGates found).2 := by
  unfold State.moduleOutcome
  repeat' split
  all_goals simp

@[simp] theorem State.banks_startBist (s : State) (t : ModTest) : s.SameBanks (s.startBist t) := by
  simp [State.startBist]

@[simp] theorem State.banks_bistModule (s : State) (k : MailIx) (scope : Nat) : s.SameBanks (s.bistModule k scope) := by
  simp [State.bistModule]

@[simp] theorem State.banks_bistStack (s : State) (k : MailIx) : s.SameBanks (s.bistStack k) := by
  simp [State.bistStack]

@[simp] theorem State.banks_closeBist (s : State) (vcore mode : Nat) : s.SameBanks (s.closeBist vcore mode) := by
  simp [State.closeBist]

@[simp] theorem State.banks_bistDone (s : State) (r : BistResult) : s.SameBanks (s.bistDone r) := by
  unfold State.bistDone
  split <;> simp

/-! The journal. -/

@[simp] theorem State.banks_keepRecord (s : State) (r : JRecord) : s.SameBanks (s.keepRecord r) := by
  simp [State.keepRecord]

@[simp] theorem State.banks_retireBlocks (s : State) (retired : List Nat) : s.SameBanks (s.retireBlocks retired) := by
  simp [State.retireBlocks]

@[simp] theorem State.banks_journalDone (s : State) (retired : List Nat) : s.SameBanks (s.journalDone retired) := by
  unfold State.journalDone
  repeat' split
  all_goals simp

@[simp] theorem State.banks_flushJournal (s : State) : s.SameBanks s.flushJournal := by
  simp [State.flushJournal]

@[simp] theorem State.banks_flushFailing (s : State) : s.SameBanks s.flushFailing := by
  simp [State.flushFailing]

@[simp] theorem State.banks_recordBytes (s : State) (r : JRecord) : s.SameBanks (s.recordBytes r).2 := by
  unfold State.recordBytes
  split <;> simp

@[simp] theorem State.banks_readLog (s : State) (k : MailIx) (status : Fin 4) : s.SameBanks (s.readLog k status) := by
  simp [State.readLog]

@[simp] theorem State.banks_correlate (s : State) (k : MailIx) : s.SameBanks (s.correlate k) := by
  simp [State.correlate]

/-! The resets. -/

@[simp] theorem State.banks_resetRegs (s : State) (cause : Nat) : s.SameBanks (s.resetRegs cause) := by
  simp [State.resetRegs]

@[simp] theorem State.banks_putMap (s : State) (p : PierIx) (v : Nat) : s.SameBanks (s.putMap p v) := by
  simp [State.putMap]

@[simp] theorem State.banks_replay (s : State) (r : JRecord) : s.SameBanks (s.replay r) := by
  unfold State.replay
  split <;> simp

@[simp] theorem State.banks_restoreJournal (s : State) : s.SameBanks s.restoreJournal := by
  unfold State.restoreJournal
  extract_lets t
  have ht : s.SameBanks t := State.banks_foldl (fun s r => State.banks_replay ..) _ _
  simp [ht]

@[simp] theorem State.banks_resetTo (s : State) (cause : Nat) : s.SameBanks (s.resetTo cause) := by
  simp [State.resetTo]

@[simp] theorem State.banks_powerOn (s : State) : s.SameBanks s.powerOn := by
  unfold State.powerOn
  split <;> simp

@[simp] theorem State.banks_moduleReset (s : State) : s.SameBanks s.moduleReset := by
  unfold State.moduleReset
  split <;> simp

@[simp] theorem State.banks_supplyReset (s : State) : s.SameBanks s.supplyReset := by
  unfold State.supplyReset
  split <;> simp

theorem State.banks_bootRom {s t : State} {made : List Bool} (h : s.bootRom made = some t) : s.SameBanks t := by
  unfold State.bootRom at h
  extract_lets a u at h
  split at h
  · cases h
    simp [u]
  · split at h
    · cases h
      simp [u]
    · cases h

@[simp] theorem State.banks_loadUnits (s : State) (made : List Bool) (target : Nat) : s.SameBanks (s.loadUnits made target).2 := by
  unfold State.loadUnits
  dsimp only
  repeat' split
  all_goals simp

@[simp] theorem State.banks_drawNonce (s : State) (draws : List (List Byte × Bool)) : s.SameBanks (s.drawNonce draws) := by
  unfold State.drawNonce
  dsimp only
  split <;> simp

@[simp] theorem State.banks_startBoot (s : State) (cause : Nat) (b : TollBoot) : s.SameBanks (s.startBoot cause b) := by
  simp [State.startBoot]

@[simp] theorem State.banks_tollBoot (s : State) (cause : Nat) (b : TollBoot) : s.SameBanks (s.tollBoot cause b) := by
  unfold State.tollBoot
  dsimp only
  split
  · next h => simpa using State.banks_bootRom h
  · simp

@[simp] theorem State.banks_supplyResetRelease (s : State) (b : TollBoot) : s.SameBanks (s.supplyResetRelease b) := by
  unfold State.supplyResetRelease
  split <;> simp

@[simp] theorem State.banks_powerupTest (s : State) (m : ModuleBoot) : s.SameBanks (s.powerupTest m) := by
  unfold State.powerupTest
  dsimp only
  split <;> simp

@[simp] theorem State.banks_warmTest (s : State) (r : BistResult) : s.SameBanks (s.warmTest r) := by
  simp [State.warmTest]

@[simp] theorem State.banks_moduleBoot (s : State) (cause : Nat) (m : ModuleBoot) : s.SameBanks (s.moduleBoot cause m) := by
  simp [State.moduleBoot]

@[simp] theorem State.banks_resetRelease (s : State) (m : ModuleBoot) : s.SameBanks (s.resetRelease m) := by
  unfold State.resetRelease
  dsimp only
  repeat' split
  all_goals simp

@[simp] theorem State.banks_resetWarm (s : State) (k : MailIx) (b : TollBoot) : s.SameBanks (s.resetWarm k b) := by
  simp [State.resetWarm]

@[simp] theorem State.banks_resetLink (s : State) (k : MailIx) : s.SameBanks (s.resetLink k) := by
  simp [State.resetLink]

/-! Attestation, service access and the owner fuses, which are fixed while service access is closed (R556). -/

@[simp] theorem State.banks_attest (s : State) (k : MailIx) (status : Fin 4) : s.SameBanks (s.attest k status) := by
  simp [State.attest]

@[simp] theorem State.banks_setFails (s : State) (n : Nat) : s.SameBanks (s.setFails n) := by
  simp [State.setFails]

@[simp] theorem State.banks_openService (s : State) (method : Nat) : s.SameBanks (s.openService method) := by
  simp [State.openService]

@[simp] theorem State.banks_tryUnlock (s : State) (k : MailIx) (method : Nat) (pass : Bool) : s.SameBanks (s.tryUnlock k method pass) := by
  simp [State.tryUnlock]

@[simp] theorem State.banks_onUnlock {s : State} (k : MailIx) (method : Nat) {f : Packet → State} (h : ∀ p, s.SameBanks (f p)) :
    s.SameBanks (s.onUnlock k method f) :=
  State.banks_onPacket _ _ (fun p => by split <;> simp [h])

@[simp] theorem State.banks_unlockPassword (s : State) (k : MailIx) : s.SameBanks (s.unlockPassword k) := by
  simp [State.unlockPassword]

@[simp] theorem State.banks_unlockChallenge (s : State) (k : MailIx) : s.SameBanks (s.unlockChallenge k) := by
  simp [State.unlockChallenge]

@[simp] theorem State.banks_unlockSigned (s : State) (k : MailIx) : s.SameBanks (s.unlockSigned k) := by
  simp [State.unlockSigned]

@[simp] theorem State.banks_closeService (s : State) : s.SameBanks s.closeService := by
  simp [State.closeService]

/-- With service access closed nothing is burnt (R556). -/
theorem State.banks_burnOwner {s : State} {allowed verified : Bool} {f : State → State}
    (hclosed : s.flag Fld.SERVICE_CTRL_OPEN 0 = false) : s.SameBanks (s.burnOwner allowed verified f) := by
  simp [State.burnOwner, hclosed]

/-! Reads and writes of registers by software. -/

@[simp] theorem State.banks_readListed (s : State) (r : RegName) (i : Nat) : s.SameBanks (s.readListed r i).2 := by
  unfold State.readListed
  dsimp only
  split <;> simp

@[simp] theorem State.banks_regRead (s : State) (a : Nat) : s.SameBanks (s.regRead a).2 := by
  unfold State.regRead
  repeat' split
  all_goals simp

@[simp] theorem State.banks_plainWrite (s : State) (r : RegName) (i a : Nat) (v : Word) : s.SameBanks (s.plainWrite r i a v) := by
  simp [State.plainWrite]

@[simp] theorem State.banks_guardWrite (s : State) (no : Bool) (r : RegName) (i a : Nat) (v : Word) :
    s.SameBanks (s.guardWrite no r i a v) := by
  simp [State.guardWrite]

@[simp] theorem State.banks_writeDeckErr (s : State) (i a : Nat) (v : Word) : s.SameBanks (s.writeDeckErr i a v) := by
  simp [State.writeDeckErr]

@[simp] theorem State.banks_writeGateCfg (s : State) (g a : Nat) (v : Word) : s.SameBanks (s.writeGateCfg g a v) := by
  simp [State.writeGateCfg]

@[simp] theorem State.banks_parapetSel (s : State) (index : Nat) : s.SameBanks (s.parapetSel index) := by
  simp [State.parapetSel]

@[simp] theorem State.banks_writePortCfg (s : State) (n a : Nat) (v : Word) : s.SameBanks (s.writePortCfg n a v) := by
  simp [State.writePortCfg]

@[simp] theorem State.banks_writeShare (s : State) (r : RegName) (n a : Nat) (v : Word) : s.SameBanks (s.writeShare r n a v) := by
  simp [State.writeShare]

@[simp] theorem State.banks_portFollowsId (s : State) (n : Nat) : s.SameBanks (s.portFollowsId n) := by
  simp [State.portFollowsId]

@[simp] theorem State.banks_writePauneId (s : State) (a : Nat) (v : Word) : s.SameBanks (s.writePauneId a v) := by
  simp [State.writePauneId]

@[simp] theorem State.banks_writeClkCfg (s : State) (a : Nat) (v : Word) : s.SameBanks (s.writeClkCfg a v) := by
  simp [State.writeClkCfg]

@[simp] theorem State.banks_writePowerCtrl (s : State) (v : Word) : s.SameBanks (s.writePowerCtrl v) := by
  unfold State.writePowerCtrl
  split <;> simp

@[simp] theorem State.banks_writeBistCfg (s : State) (a : Nat) (v : Word) : s.SameBanks (s.writeBistCfg a v) := by
  simp [State.writeBistCfg]

theorem State.banks_writeFuseCtrl {s : State} (hclosed : s.flag Fld.SERVICE_CTRL_OPEN 0 = false) (a : Nat) (v : Word) :
    s.SameBanks (s.writeFuseCtrl a v) := by
  simp [State.writeFuseCtrl, hclosed]

@[simp] theorem State.banks_writeUnitRepair (s : State) (i a : Nat) (v : Word) : s.SameBanks (s.writeUnitRepair i a v) := by
  simp [State.writeUnitRepair]

@[simp] theorem State.banks_headerFault (s : State) (k : Nat) : s.SameBanks (s.headerFault k) := by
  simp [State.headerFault]

@[simp] theorem State.banks_headerRead (s : State) (k status : Nat) : s.SameBanks (s.headerRead k status) := by
  simp [State.headerRead]

@[simp] theorem State.banks_shareHeader (faults : List (MailIx × Fin 4)) (s : State) (k : Nat) :
    s.SameBanks (State.shareHeader faults s k) := by
  unfold State.shareHeader
  repeat' split
  all_goals simp

@[simp] theorem State.banks_releaseHeader (s : State) (k : Nat) : s.SameBanks (s.releaseHeader k) := by
  simp [State.releaseHeader]

@[simp] theorem State.banks_mailboxWrite (s : State) (v : Word) (faults : List (MailIx × Fin 4)) :
    s.SameBanks (s.mailboxWrite v faults) := by
  simp [State.mailboxWrite]

@[simp] theorem State.banks_writeStream0 (s : State) (no : Bool) (i a : Nat) (v : Word) : s.SameBanks (s.writeStream0 no i a v) := by
  simp [State.writeStream0]

theorem State.banks_writeListed {s : State} (hclosed : s.flag Fld.SERVICE_CTRL_OPEN 0 = false) (r : RegName) (i a : Nat) (v : Word) :
    s.SameBanks (s.writeListed r i a v) := by
  have hfuse := State.banks_writeFuseCtrl hclosed a v
  unfold State.writeListed
  split <;> simp [hfuse]

theorem State.banks_regWrite {s : State} (hclosed : s.flag Fld.SERVICE_CTRL_OPEN 0 = false) (a : Nat) (v : Word) :
    s.SameBanks (s.regWrite a v) := by
  unfold State.regWrite
  split
  · simp
  · simp
  · split
    · simp
    · exact State.banks_writeListed hclosed ..

@[simp] theorem State.banks_badWidth (s : State) (a : Nat) : s.SameBanks (s.badWidth a) := by
  simp [State.badWidth]

theorem State.banks_softWrite {s : State} (hclosed : s.flag Fld.SERVICE_CTRL_OPEN 0 = false) (a : Nat) (v : Word) :
    s.SameBanks (s.softWrite a v) := by
  have hwrite := State.banks_regWrite hclosed a v
  simp [State.softWrite, hwrite]

@[simp] theorem State.banks_senseChange (s : State) (i : Nat) (v : Bool) (mv : Nat) : s.SameBanks (s.senseChange i v mv) := by
  unfold State.senseChange
  split <;> simp

@[simp] theorem State.banks_heldInput (mv : Nat) (s : State) (e : Fin 6 × Nat) : s.SameBanks (State.heldInput mv s e) := by
  simp [State.heldInput]

/-! Juwire. -/

@[simp] theorem State.banks_jwReply (s : State) (tag status : Nat) (data : List Byte) : s.SameBanks (s.jwReply tag status data) := by
  simp [State.jwReply]

@[simp] theorem State.banks_eccHost (s : State) (a n : Nat) : s.SameBanks (s.eccHost a n) := by
  unfold State.eccHost
  split <;> simp

@[simp] theorem State.banks_deckAccess (s : State) (a n : Nat) : s.SameBanks (s.deckAccess a n) := by
  unfold State.deckAccess
  split <;> simp

@[simp] theorem State.banks_hostRead (s : State) (tag a n : Nat) (u : Upset) : s.SameBanks (s.hostRead tag a n u) := by
  unfold State.hostRead
  split <;> simp

theorem State.banks_hostWrite {s : State} {a : Nat} {bs : List Byte}
    (hclosed : s.hostPlace a bs.length = .regs → s.flag Fld.SERVICE_CTRL_OPEN 0 = false) (tag : Nat) (u : Upset) :
    s.SameBanks (s.hostWrite tag a bs u) := by
  unfold State.hostWrite
  split
  · simp
  · simp
  · next h =>
    have hwrite := State.banks_regWrite (hclosed h) a (BitVec.ofNat 64 (leNat bs))
    simp [hwrite]
  · simp

@[simp] theorem State.banks_holdHost (s : State) (q : Instr) : s.SameBanks (s.holdHost q) := by
  simp [State.holdHost]

/-- A request of the host is answered, is held, or runs, after a wake of the module where it is to no register (R439, R514). -/
theorem State.banks_hostRequest {s : State} {q : Instr} {tag a n : Nat} {bad : Bool} {run : State → State}
    (hnow : s.SameBanks (run { s with jwAsleep := false })) (hwoken : regRange a = false → ∀ u : State, u.SameBanks (run u)) :
    s.SameBanks (s.hostRequest q tag a n bad run) := by
  unfold State.hostRequest
  extract_lets u u1
  split
  · simp
  · split
    · simp
    · split
      · simp [u]
      · cases ha : regRange a with
        | true =>
          have hu1 : u1 = u := by simp [u1, ha]
          simp only [hu1, Bool.not_true, Bool.and_false, Bool.false_eq_true, if_false]
          split
          · simp [u]
          · exact hnow
        | false =>
          have hu1 : s.SameBanks u1 := by simp [u1, u]
          split
          · exact hu1.trans (State.banks_holdHost ..)
          · split
            · exact hu1.trans (State.banks_holdHost ..)
            · exact hu1.trans (hwoken ha u1)

@[simp] theorem State.banks_jwRd (s : State) (tag a n : Nat) (bad : Bool) (u : Upset) : s.SameBanks (s.jwRd tag a n bad u) := by
  exact State.banks_hostRequest (State.banks_hostRead ..) (fun _ _ => State.banks_hostRead ..)

theorem State.banks_jwWr {s : State} (hclosed : s.flag Fld.SERVICE_CTRL_OPEN 0 = false) (tag a : Nat) (bs : List Byte) (bad : Bool)
    (u : Upset) : s.SameBanks (s.jwWr tag a bs bad u) := by
  refine State.banks_hostRequest (State.banks_hostWrite (s := { s with jwAsleep := false }) (fun _ => hclosed) tag u)
    (fun ha v => State.banks_hostWrite (fun hplace => ?_) ..)
  rw [State.hostPlace, ha] at hplace
  split at hplace
  · cases hplace
  · simp at hplace
    split at hplace <;> cases hplace

@[simp] theorem State.banks_abortWrite (s : State) (q : Waiting) : s.SameBanks (s.abortWrite q) := by
  unfold State.abortWrite
  split <;> simp

@[simp] theorem State.banks_hostAbort (s : State) (tag : Nat) (done : Bool) : s.SameBanks (s.hostAbort tag done) := by
  unfold State.hostAbort
  split <;> simp

@[simp] theorem State.banks_checkWarm (s : State) : s.SameBanks s.checkWarm := by
  unfold State.checkWarm
  split <;> simp

@[simp] theorem State.banks_jwComplete (s : State) (tag : Nat) (k : JwKind) : s.SameBanks (s.jwComplete tag k) := by
  unfold State.jwComplete
  split <;> simp

@[simp] theorem State.banks_jwResend (s : State) (tag : Nat) (k : JwKind) : s.SameBanks (s.jwResend tag k) := by
  unfold State.jwResend
  split <;> simp

@[simp] theorem State.banks_jwCpl (s : State) (tag status : Nat) (bad : Bool) : s.SameBanks (s.jwCpl tag status bad) := by
  unfold State.jwCpl
  repeat' split
  all_goals simp

@[simp] theorem State.banks_hostWrites (s : State) (ws : List (Nat × List Byte)) : s.SameBanks (s.hostWrites ws) := by
  simp [State.hostWrites]

@[simp] theorem State.banks_inTurn (s : State) (k : Nat) : s.SameBanks (s.inTurn k) := by
  simp [State.inTurn]

@[simp] theorem State.banks_notifySlot (s : State) (k : Nat) : s.SameBanks (s.notifySlot k) := by
  simp [State.notifySlot]

@[simp] theorem State.banks_snpInv (s : State) (l : SnpLine) (ws : List (Nat × List Byte)) : s.SameBanks (s.snpInv l ws) := by
  obtain ⟨b, hb⟩ : ∃ b, b = l.addr + hostBase := ⟨_, rfl⟩
  unfold State.snpInv
  split
  · simp
  · split
    · simp
    · rw [← hb]
      extract_lets v s1 a s2
      have hs1 : s.SameBanks s1 := by simp [s1, v]
      have hs2 : s.SameBanks s2 := by
        refine hs1.trans ?_
        unfold s2
        split <;> simp
      split
      · split
        · exact hs2.trans (State.banks_notifySlot ..)
        · exact hs2
      · exact hs2

@[simp] theorem State.banks_countJw (s : State) (crcErrors retries recoveries : Nat) :
    s.SameBanks (s.countJw crcErrors retries recoveries) := by
  simp [State.countJw]

@[simp] theorem State.banks_setJw (s : State) (state width version : Nat) (lanes : BitVec 32) :
    s.SameBanks (s.setJw state width version lanes) := by
  simp [State.setJw]

@[simp] theorem State.banks_jwDown (s : State) : s.SameBanks s.jwDown := by
  simp [State.jwDown]

@[simp] theorem State.banks_jwRecover (s : State) : s.SameBanks s.jwRecover := by
  simp [State.jwRecover]

@[simp] theorem State.banks_jwFall (s : State) (crcErrors retries : Nat) (r : JwRecoveries) :
    s.SameBanks (s.jwFall crcErrors retries r) := by
  unfold State.jwFall
  split <;> simp

@[simp] theorem State.banks_rereadHeader (faults : List (MailIx × Fin 4)) (s0 : State) (k : Nat) :
    s0.SameBanks (State.rereadHeader faults s0 k) := by
  unfold State.rereadHeader
  split <;> simp

@[simp] theorem State.banks_resendReply (s : State) (k : Nat) : s.SameBanks (s.resendReply k) := by
  simp [State.resendReply]

@[simp] theorem State.banks_resendMsi (s : State) : s.SameBanks s.resendMsi := by
  simp [State.resendMsi]

@[simp] theorem State.banks_rereadHead (s : State) (status : Fin 4) : s.SameBanks (s.rereadHead status) := by
  simp [State.rereadHead]

/-! Acceptance of packets, HELLO and QUERY. -/

@[simp] theorem State.banks_dispatch (s : State) (k : Nat) (p : Packet) (status : Nat) : s.SameBanks (s.dispatch k p status) := by
  unfold State.dispatch
  dsimp only
  split <;> simp

@[simp] theorem State.banks_accept (s : State) (k : Nat) (p : Packet) (status : Nat) : s.SameBanks (s.accept k p status) := by
  simp [State.accept]

@[simp] theorem State.banks_packetAccept (s : State) (k header params : Nat) : s.SameBanks (s.packetAccept k header params) := by
  simp [State.packetAccept]

@[simp] theorem State.banks_openSession (s : State) (p : Packet) (head : Fin 4) : s.SameBanks (s.openSession p head) := by
  simp [State.openSession]

@[simp] theorem State.banks_hello (s : State) (k : MailIx) (head : Fin 4) : s.SameBanks (s.hello k head) := by
  simp [State.hello]

@[simp] theorem State.banks_onQuery {s : State} (k : MailIx) (what : Nat) {f : Packet → State} (h : ∀ p, s.SameBanks (f p)) :
    s.SameBanks (s.onQuery k what f) :=
  State.banks_onPacket _ _ (fun p => by split <;> simp [h])

@[simp] theorem State.banks_queryMap (s : State) (k : MailIx) (status : Fin 4) : s.SameBanks (s.queryMap k status) := by
  simp [State.queryMap]

@[simp] theorem State.banks_queryProbe (s : State) (k : MailIx) : s.SameBanks (s.queryProbe k) := by
  simp [State.queryProbe]

@[simp] theorem State.banks_probeTimeout (s : State) (k : MailIx) : s.SameBanks (s.probeTimeout k) := by
  simp [State.probeTimeout]

/-! The vector and update instructions, which keep the binding too. -/

@[simp] theorem State.bound_issueV {s : State} (failed : Bool) (i : Instr) (p : PierIx) (t : Nat) (needs : State → Needs)
    {effect : State → State} (h : ∀ u : State, u.SameBound (effect u)) : s.SameBound (s.issueV failed i p t needs effect) :=
  State.bound_issue _ _ _ _ _ _ (fun u => by simp [h])

@[simp] theorem State.bound_vldEffect (s : State) (p : PierIx) (t : Nat) (vd : VReg) (r : RegionIx) (part : Nat) (keep : Bool) (f : Fmt)
    (mask : Option MReg) :
    s.SameBound (s.vldEffect p t vd r part keep f mask) := by
  unfold State.vldEffect
  dsimp only
  split <;> simp

@[simp] theorem bound_runVld (failed : Bool) (p : PierIx) (t : Nat) (vd : VReg) (r : RegionIx) (part : Nat) (keep : Bool) (f : Fmt)
    (mask : Option MReg) (s : State) :
    s.SameBound (runVld failed p t vd r part keep f mask s) := by
  simp [runVld]

@[simp] theorem State.bound_openBuild (s : State) (p : PierIx) (r : RegionIx) (f : Fmt) : s.SameBound (s.openBuild p r f).2 := by
  unfold State.openBuild
  split <;> simp

@[simp] theorem State.bound_vstEffect (s : State) (p : PierIx) (t : Nat) (va : VReg) (r : RegionIx) (part : Nat) (last : Bool) (f : Fmt)
    (mask : Option MReg) :
    s.SameBound (s.vstEffect p t va r part last f mask) := by
  simp [State.vstEffect]

@[simp] theorem bound_runVst (failed : Bool) (p : PierIx) (t : Nat) (va : VReg) (r : RegionIx) (part : Nat) (last : Bool) (f : Fmt)
    (mask : Option MReg) (s : State) :
    s.SameBound (runVst failed p t va r part last f mask s) := by
  simp [runVst]

@[simp] theorem State.bound_varithEffect (s : State) (p : PierIx) (t : Nat) (fn : VArith) (vd va vb vc : VReg) (mask : Option MReg) :
    s.SameBound (s.varithEffect p t fn vd va vb vc mask) := by
  unfold State.varithEffect
  repeat' split
  all_goals simp

@[simp] theorem bound_runVarith (failed : Bool) (p : PierIx) (t : Nat) (fn : VArith) (vd va vb vc : VReg) (mask : Option MReg) (s : State) :
    s.SameBound (runVarith failed p t fn vd va vb vc mask s) := by
  simp [runVarith]

@[simp] theorem State.bound_vcmpEffect (s : State) (p : PierIx) (t : Nat) (fn : VCmp) (md : MReg) (va vb : VReg) (mask : Option MReg) :
    s.SameBound (s.vcmpEffect p t fn md va vb mask) := by
  simp [State.vcmpEffect]

@[simp] theorem bound_runVcmp (failed : Bool) (p : PierIx) (t : Nat) (fn : VCmp) (md : MReg) (va vb : VReg) (mask : Option MReg)
    (s : State) :
    s.SameBound (runVcmp failed p t fn md va vb mask s) := by
  simp [runVcmp]

@[simp] theorem State.bound_vselEffect (s : State) (p : PierIx) (t : Nat) (vd va vb : VReg) (sel : MReg) :
    s.SameBound (s.vselEffect p t vd va vb sel) := by
  simp [State.vselEffect]

@[simp] theorem bound_runVsel (failed : Bool) (p : PierIx) (t : Nat) (vd va vb : VReg) (sel : MReg) (s : State) :
    s.SameBound (runVsel failed p t vd va vb sel s) := by
  simp [runVsel]

@[simp] theorem State.bound_vsfuEffect (s : State) (p : PierIx) (t : Nat) (fn : VSfu) (vd va : VReg) (mask : Option MReg) :
    s.SameBound (s.vsfuEffect p t fn vd va mask) := by
  simp [State.vsfuEffect]

@[simp] theorem bound_runVsfu (failed : Bool) (p : PierIx) (t : Nat) (fn : VSfu) (vd va : VReg) (mask : Option MReg) (s : State) :
    s.SameBound (runVsfu failed p t fn vd va mask s) := by
  simp [runVsfu]

@[simp] theorem State.bound_vredEffect (s : State) (p : PierIx) (t : Nat) (isMax : Bool) (vd va : VReg) (mask : Option MReg) :
    s.SameBound (s.vredEffect p t isMax vd va mask) := by
  unfold State.vredEffect
  split <;> simp

@[simp] theorem bound_runVred (failed : Bool) (p : PierIx) (t : Nat) (isMax : Bool) (vd va : VReg) (mask : Option MReg) (s : State) :
    s.SameBound (runVred failed p t isMax vd va mask s) := by
  simp [runVred]

@[simp] theorem State.bound_vtransEffect (s : State) (p : PierIx) (t : Nat) (src dst : RegionIx) (d : Nat) (keep : Bool) (f : Fmt) :
    s.SameBound (s.vtransEffect p t src dst d keep f) := by
  unfold State.vtransEffect
  dsimp only
  split <;> simp

@[simp] theorem bound_runVtrans (failed : Bool) (p : PierIx) (t : Nat) (src dst : RegionIx) (d : Nat) (keep : Bool) (f : Fmt) (s : State) :
    s.SameBound (runVtrans failed p t src dst d keep f s) := by
  simp [runVtrans]

@[simp] theorem State.bound_vecTiles (s : State) (p : PierIx) (t : Nat) (r : RegionIx) (named : Fmt) (ds : List Nat) :
    s.SameBound (s.vecTiles p t r named ds).2 := by
  induction ds generalizing s with
  | nil => simp [State.vecTiles]
  | cons d ds ih =>
    unfold State.vecTiles
    simp [ih]

@[simp] theorem State.bound_startStat (s : State) (p : PierIx) (ds : List Nat) (x : StatRun) : s.SameBound (s.startStat p ds x) := by
  unfold State.startStat
  dsimp only
  split <;> simp

@[simp] theorem State.bound_vstatEffect (s : State) (p : PierIx) (t : Nat) (mode : StatMode) (src stats : RegionIx) (d l : Nat)
    (eps : VReg) :
    s.SameBound (s.vstatEffect p t mode src stats d l eps) := by
  unfold State.vstatEffect
  split <;> simp

@[simp] theorem bound_runVstat (failed : Bool) (p : PierIx) (t : Nat) (mode : StatMode) (src stats : RegionIx) (d l : Nat) (eps : VReg)
    (s : State) :
    s.SameBound (runVstat failed p t mode src stats d l eps s) := by
  simp [runVstat]

@[simp] theorem State.bound_vstatcEffect (s : State) (p : PierIx) (t : Nat) (softmax : Bool) (src stats : RegionIx) (parts : Nat)
    (group : Fin 8) (eps np : VReg) :
    s.SameBound (s.vstatcEffect p t softmax src stats parts group eps np) := by
  unfold State.vstatcEffect
  split <;> simp

@[simp] theorem bound_runVstatc (failed : Bool) (p : PierIx) (t : Nat) (softmax : Bool) (src stats : RegionIx) (parts : Nat)
    (group : Fin 8) (eps np : VReg) (s : State) :
    s.SameBound (runVstatc failed p t softmax src stats parts group eps np s) := by
  simp [runVstatc]

@[simp] theorem bound_runVstatf (failed : Bool) (p : PierIx) (t : Nat) (stats : RegionIx) (s : State) :
    s.SameBound (runVstatf failed p t stats s) := by
  simp [runVstatf]

@[simp] theorem State.bound_vrngEffect (s : State) (p : PierIx) (t : Nat) (form : Fin 4) (vd : VReg) (stream : Fin 64) :
    s.SameBound (s.vrngEffect p t form vd stream) := by
  simp [State.vrngEffect]

@[simp] theorem bound_runVrng (failed : Bool) (p : PierIx) (t : Nat) (form : Fin 4) (vd : VReg) (stream : Fin 64) (s : State) :
    s.SameBound (runVrng failed p t form vd stream s) := by
  simp [runVrng]

@[simp] theorem State.bound_vldcEffect (s : State) (p : PierIx) (t : Nat) (vd : VReg) (offset : Nat) (f : Fmt) :
    s.SameBound (s.vldcEffect p t vd offset f) := by
  simp [State.vldcEffect]

@[simp] theorem bound_runVldc (failed : Bool) (p : PierIx) (t : Nat) (vd : VReg) (offset : Nat) (f : Fmt) (s : State) :
    s.SameBound (runVldc failed p t vd offset f s) := by
  simp [runVldc]

@[simp] theorem State.bound_updEffect (s : State) (p : PierIx) (t : Nat) (n : Fin 1024) (d : UpdDesc) (tiles : Nat) :
    s.SameBound (s.updEffect p t n d tiles) := by
  simp [State.updEffect]

@[simp] theorem bound_runUpd (failed : Bool) (p : PierIx) (t : Nat) (n : Fin 1024) (d : UpdDesc) (tiles : Nat) (s : State) :
    s.SameBound (runUpd failed p t n d tiles s) := by
  simp [runUpd]

@[simp] theorem bound_runUscal (failed : Bool) (p : PierIx) (t : Nat) (vd : VReg) (g : Fin 8) (i : Nat) (s : State) :
    s.SameBound (runUscal failed p t vd g i s) := by
  simp [runUscal]

/-! The release of a stalled domain. -/

@[simp] theorem bound_reissue (failed : Bool) (i : Instr) (s : State) : s.SameBound (reissue failed i s) := by
  unfold reissue
  split <;> simp

@[simp] theorem State.banks_countWait (s : State) (d : Dom) (cycles : Nat) : s.SameBanks (s.countWait d cycles) := by
  simp [State.countWait]

@[simp] theorem State.banks_clearWaits (s : State) (d : Dom) : s.SameBanks (s.clearWaits d) := by
  simp [State.clearWaits]

@[simp] theorem State.banks_stallRelease (s : State) (d : Dom) (cycles : Nat) : s.SameBanks (s.stallRelease d cycles) := by
  simp [State.stallRelease]

/-! The sideband. -/

@[simp] theorem State.banks_sbAnswer (s : State) (status : Nat) (data : List Byte) : s.SameBanks (s.sbAnswer status data) := by
  simp [State.sbAnswer]

@[simp] theorem State.banks_onSideband {s : State} {f : State → State} (h : s.SameBanks (f s)) : s.SameBanks (s.onSideband f) := by
  unfold State.onSideband
  split
  · simp
  · simp
  · exact h

@[simp] theorem State.banks_sbRead (s : State) (a : Nat) : s.SameBanks (s.sbRead a) := by
  simp [State.sbRead]

@[simp] theorem State.banks_patchNor (s : State) (slot off : Nat) (bs : List Byte) : s.SameBanks (s.patchNor slot off bs) := by
  simp [State.patchNor]

@[simp] theorem State.banks_sbImage (s : State) (off : Nat) (bs : List Byte) : s.SameBanks (s.sbImage off bs) := by
  simp [State.sbImage]

end Sys2Proof.Machine
end

section
/-! PROOFS. No command changes the owner's fuse banks while service access is closed (R556, R558). -/
namespace Sys2Proof.Machine
open Sys2Proof

/-! The rows that write a register: only OWNER_FUSE_CTRL burns a bank, and it is refused (R556). -/

theorem State.banks_heldInputs {s : State} (hclosed : s.flag Fld.SERVICE_CTRL_OPEN 0 = false) (a : Nat) (v : Word)
    (held : List (Fin 6 × Nat)) (mv : Nat) : s.SameBanks (held.foldl (State.heldInput mv) (s.softWrite a v)) :=
  (State.banks_softWrite hclosed a v).trans (State.banks_foldl (State.banks_heldInput mv) held _)

theorem State.banks_sbWrite {s : State} (hclosed : s.flag Fld.SERVICE_CTRL_OPEN 0 = false) (a : Nat) (v : Word) :
    s.SameBanks (s.sbWrite a v) := by
  have hwrite := State.banks_regWrite hclosed a v
  exact State.banks_onSideband (by split <;> simp [hwrite])

/-- With access open no service operation of the sideband has a meaning (R556); with it closed none is acknowledged. -/
theorem banks_execSbServiceOp {s t : State} {op : Byte} (h : execSbServiceOp op s = .next t) : s.SameBanks t := by
  unfold execSbServiceOp at h
  split at h
  · injection h with h
    simp [← h]
  · split at h
    · cases h
    · injection h with h
      simp [← h]

/-! What a link to the host that comes up does: no request that waits is new (R439). -/

theorem State.hostWaits_flagEvent (s : State) (f : Fld) (i : Nat) (c : Code) (srcKind srcIndex detail : Nat) :
    (s.flagEvent f i c srcKind srcIndex detail).hostWaits = s.hostWaits := by
  rw [State.flagEvent_eq]

theorem State.hostWaits_setJw (s : State) (state width version : Nat) (lanes : BitVec 32) :
    (s.setJw state width version lanes).hostWaits = s.hostWaits := rfl

theorem State.hostWaits_jwWrite (s : State) (k : JwKind) (a : Nat) (bs : List Byte) : (s.jwWrite k a bs).hostWaits = s.hostWaits := by
  rw [(State.Sent.jwWrite s k a bs).eq]

theorem State.hostWaits_jwRead (s : State) (a n : Nat) (shared : Bool) : (s.jwRead a n shared).hostWaits = s.hostWaits := by
  rw [(State.Sent.jwRead s a n shared).eq]

theorem State.hostWaits_headerRead (s : State) (k status : Nat) : (s.headerRead k status).hostWaits = s.hostWaits := by
  unfold State.headerRead State.headerFault
  rw [State.hostWaits_flagEvent]
  split
  · exact State.hostWaits_flagEvent ..
  · rfl

theorem State.hostWaits_inTurn (s : State) (k : Nat) : (s.inTurn k).hostWaits = s.hostWaits := by
  unfold State.inTurn
  split <;> rfl

theorem State.hostWaits_rereadHeader (faults : List (MailIx × Fin 4)) (s : State) (k : Nat) :
    (State.rereadHeader faults s k).hostWaits = s.hostWaits := by
  unfold State.rereadHeader
  extract_lets v u x
  have hu : u.hostWaits = s.hostWaits := State.hostWaits_jwRead ..
  split
  · exact (State.hostWaits_headerRead ..).trans hu
  · split
    · exact hu
    · split
      · exact (State.hostWaits_inTurn u k).trans hu
      · exact hu

theorem State.hostWaits_writeRecord (s : State) (seq : Nat) (n : Notice) : (s.writeRecord seq n).hostWaits = s.hostWaits :=
  State.hostWaits_jwWrite ..

theorem State.hostWaits_pumpRecords (fuel : Nat) (s : State) : (State.pumpRecords fuel s).hostWaits = s.hostWaits := by
  induction fuel generalizing s with
  | zero => rfl
  | succ fuel ih =>
    unfold State.pumpRecords
    split
    · rfl
    · split
      · rfl
      · split
        · exact ih _
        · split <;> exact State.hostWaits_writeRecord ..

theorem State.retryHost_of_none {s : State} (h : s.hostWaits = []) : s.retryHost = { s with hostWaits := [] } := by
  rw [State.retryHost, h]
  rfl

theorem State.banks_jwUp {s : State} (hwaits : s.hostWaits = []) (lanes : BitVec 32) (reads : LineReads) :
    s.SameBanks (s.jwUp lanes reads) := by
  unfold State.jwUp
  extract_lets narrow s1 s2 ks s3
  have h2 : s.SameBanks s2 ∧ s2.hostWaits = [] := by
    unfold s2
    split
    · exact ⟨by simp [s1], (State.hostWaits_flagEvent ..).trans hwaits⟩
    · exact ⟨by simp [s1], hwaits⟩
  obtain ⟨hbanks2, hwaits2⟩ := h2
  have h3 : s.SameBanks s3 ∧ s3.hostWaits = [] := by
    unfold s3
    split
    · exact ⟨hbanks2.trans (State.banks_foldl (State.banks_rereadHeader _) ..),
        foldl_keeps (fun u => u.hostWaits = []) _ (fun u k hu => (State.hostWaits_rereadHeader _ u k).trans hu) ks s2 hwaits2⟩
    · exact ⟨hbanks2, hwaits2⟩
  obtain ⟨hbanks3, hwaits3⟩ := h3
  split
  · have hpumped : s3.pumpQueue.hostWaits = [] := (State.hostWaits_pumpRecords ..).trans hwaits3
    rw [State.retryHost_of_none hpumped]
    exact hbanks3.trans (State.banks_pumpQueue s3)
  · exact hbanks3.trans (by simp)

theorem State.banks_jwTrain {s : State} (hwaits : s.hostWaits = []) (lanes : BitVec 32) (verMin verMax : Nat) (reads : LineReads) :
    s.SameBanks (s.jwTrain lanes verMin verMax reads) := by
  have hup := State.banks_jwUp hwaits lanes reads
  unfold State.jwTrain
  dsimp only
  split
  · simp
  · split
    · exact hup
    · split <;> simp

/-! The commands. -/

/-- A command that may change a bank burns it through OWNER_FUSE_CTRL, which is refused; the others are built of operations that keep the
banks. -/
theorem banks_exec {s t : State} {c : Instr} (h : exec c s = .next t) (hclosed : s.flag Fld.SERVICE_CTRL_OPEN 0 = false)
    (hwaits : s.hostWaits = []) : s.SameBanks t := by
  cases c
  case sbServiceOp => exact banks_execSbServiceOp h
  all_goals
    injection h with h
    subst h
  case jwWr => exact State.banks_jwWr hclosed ..
  case jwLinkUp => exact State.banks_jwTrain hwaits ..
  case regWrite | mailboxDisable | unitRepairWrite | portRoleWrite | pauneIdWrite => exact State.banks_softWrite hclosed ..
  case ownerEnrolSlot | ownerRevokeSlot | ownerWritePassword | ownerWriteDebugKey => exact State.banks_burnOwner hclosed
  case sbRegWrite => exact State.banks_sbWrite hclosed ..
  case senseCfgWrite =>
    split
    · exact State.banks_heldInputs hclosed ..
    · simp
  case holdupExhausted | dynamicAddressAssignment => split <;> simp
  all_goals simp

/-- Settles O37: while service access is closed OWNER_FUSE_CTRL burns nothing, and no other operation writes a bank. -/
theorem ownerBanksFixedWhileClosed : Obligations.OwnerBanksFixedWhileClosed := by
  intro s t c h hclosed hwaits
  exact banks_exec h hclosed hwaits

end Sys2Proof.Machine
end

section
/-! PROOFS. Idle, doze, park, wake, the measurement of the hold-up bank and the journal's writes (R505-R508, R511-R514). -/
namespace Sys2Proof.Machine
open Sys2Proof

/-! The power state and the bank in the registers. -/

theorem State.powerState_setPower (s : State) {v : Nat} (hv : v < 8) : (s.setPower v).powerState = v :=
  (s.fld_setFld_same Fld.POWER_STATUS_STATE 0 v (by decide)).trans (Nat.mod_eq_of_lt hv)

theorem State.flag_charge (s : State) {f : Fld} (hfits : f.lo + f.width ≤ 64) (hf : f.apart Fld.POWER_STATUS_CHARGING = true) (i : Nat) :
    s.charge.flag f i = s.flag f i :=
  State.flag_of_fld (s.fld_setFld_apart hfits hf ..)

theorem State.startMeasure_free {s : State} (h : s.braced = false) :
    s.startMeasure = ({ s with measureWanted := false }.setFld Fld.HOLDUP_STATUS_MEASURING 0 1).charge := by
  rw [State.startMeasure, h]
  rfl

theorem State.measuring_startMeasure {s : State} (h : s.braced = false) : s.startMeasure.flag Fld.HOLDUP_STATUS_MEASURING 0 = true := by
  rw [State.startMeasure_free h, State.flag_charge _ (by decide) (by decide)]
  exact State.flag_setFld_one _ (by decide) (by decide) 0

theorem runs_holdupMeasure_braced {s : State} (h : s.braced = true) :
    Runs .holdupMeasure s (fun u => u.measureWanted = true ∧ u.regs = s.regs) := by
  refine ⟨{ s with measureWanted := true }, ?_, rfl, rfl⟩
  exact congrArg Host.Outcome.next (by rw [State.startMeasure, h]; rfl)

theorem runs_holdupMeasure_free {s : State} (h : s.braced = false) :
    Runs .holdupMeasure s (fun u => u.measureWanted = false ∧ u.flag Fld.HOLDUP_STATUS_MEASURING 0 = true) := by
  refine ⟨s.startMeasure, rfl, ?_, State.measuring_startMeasure h⟩
  rw [State.startMeasure_free h]
  rfl

theorem runs_holdupAgeExpiry {s : State} (hvalid : s.flag Fld.HOLDUP_STATUS_VALID 0 = true) (hfree : s.braced = false) :
    Runs .holdupAgeExpiry s (fun u => u.flag Fld.HOLDUP_STATUS_MEASURING 0 = true) :=
  ⟨s.startMeasure, congrArg Host.Outcome.next (if_pos hvalid), State.measuring_startMeasure hfree⟩

theorem State.measuring_setBank (s : State) (v : Nat) :
    (s.setBank v).flag Fld.HOLDUP_STATUS_MEASURING 0 = s.flag Fld.HOLDUP_STATUS_MEASURING 0 :=
  State.flag_of_fld ((State.fld_setFld_apart _ (by decide) (by decide) ..).trans (State.fld_setFld_apart _ (by decide) (by decide) ..))

theorem State.measuring_measureBank (s : State) (v1 v2 : Nat) :
    (s.measureBank v1 v2).flag Fld.HOLDUP_STATUS_MEASURING 0 = s.flag Fld.HOLDUP_STATUS_MEASURING 0 := by
  unfold State.measureBank
  split
  · rfl
  · rw [State.measuring_setBank]
    refine State.flag_of_fld ((congrArg _ (State.reg_setReg_other _ _ (by decide))).trans ?_)
    exact (State.fld_setFld_apart _ (by decide) (by decide) ..).trans (State.fld_setFld_apart _ (by decide) (by decide) ..)

theorem State.bank_setBank (s : State) (v : Nat) :
    (s.setBank v).fld Fld.HOLDUP_STATUS_V_BANK 0 = v % 2 ^ Fld.HOLDUP_STATUS_V_BANK.width :=
  (State.fld_setFld_apart _ (by decide) (by decide) ..).trans (State.fld_setFld_same _ _ _ _ (by decide))

theorem runs_holdupMeasureDone {s : State} (h : s.flag Fld.HOLDUP_STATUS_MEASURING 0 = true) (bank v1 v2 : Nat) :
    Runs (.holdupMeasureDone bank v1 v2) s (fun u => u.flag Fld.HOLDUP_STATUS_MEASURING 0 = false ∧
      u.fld Fld.HOLDUP_STATUS_V_BANK 0 = bank % 2 ^ Fld.HOLDUP_STATUS_V_BANK.width) := by
  refine ⟨_, congrArg Host.Outcome.next (if_pos h), ?_, ?_⟩
  · rw [State.flag_charge _ (by decide) (by decide), State.measuring_setBank, State.measuring_measureBank]
    exact State.flag_setFld_zero _ (by decide) 0
  · exact (State.fld_setFld_apart _ (by decide) (by decide) ..).trans (State.bank_setBank ..)

/-! Idle, wake and the sense latches. -/

theorem idles {s : State} (hphase : s.phase = .released) (hrun : s.powerState = 0) (hlaunched : s.launched = false)
    (hops : s.runsAny runningOps = false) (htests : s.tests = []) (hbist : s.bist = none) : exec .idleEntry s = .next (s.setPower 1) := by
  refine congrArg Host.Outcome.next ?_
  simp [State.idleEntry, hphase, hrun, hlaunched, hops, htests, hbist]

/-- The state with the cause of a wake by POWER_CTRL (R512). -/
def State.wakeShown (s : State) : State := { s.setFld Fld.POWER_STATUS_WAKE_SRC 0 1 with wakeWanted := none }

/-- The state in which POWER_CTRL.TARGET = 1 leaves a dozing module (R512). -/
def State.dozeLeft (s : State) : State := { s.wakeShown.setPower 1 with openGates := [] }

theorem State.wakeUp_doze {s : State} (hdoze : s.powerState = 2) (hfree : s.braced = false) : s.wakeUp 1 = s.dozeLeft := by
  unfold State.wakeUp
  rw [if_neg (by omega), if_neg (by simp [hfree])]
  exact if_pos hdoze

theorem runs_powerWake {s : State} (hdoze : s.powerState = 2) (hfree : s.braced = false) :
    Runs .powerWake s (fun u => u.powerState = 1 ∧ u.fld Fld.POWER_STATUS_WAKE_SRC 0 = 1 ∧ u.openGates = [] ∧
      (∀ a, u.byte a = s.byte a)) := by
  refine ⟨s.dozeLeft, ?_, ?_, ?_, rfl, fun _ => rfl⟩
  · exact congrArg Host.Outcome.next (State.wakeUp_doze hdoze hfree)
  · exact s.wakeShown.powerState_setPower (v := 1) (by decide)
  · have hshown : s.wakeShown.fld Fld.POWER_STATUS_WAKE_SRC 0 = 1 := s.fld_setFld_same Fld.POWER_STATUS_WAKE_SRC 0 1 (by decide)
    exact (s.wakeShown.fld_setFld_apart (f := Fld.POWER_STATUS_STATE) (by decide) (by decide) 0 1 0).trans hshown

theorem runs_gateSrTimeout (s : State) (g : GateIx) :
    Runs (.gateSrTimeout g) s (fun u => g.val ∉ u.openGates ∧ (∀ n, n ≠ g.val → (n ∈ u.openGates ↔ n ∈ s.openGates)) ∧
      u.regs = s.regs ∧ u.mem = s.mem) := by
  refine ⟨_, rfl, ?_, fun n hn => ?_, rfl, rfl⟩
  · simp
  · simp [hn]

/-- A latch caught in park leaves the module awake with the latch's bit set (R477). -/
theorem runs_parkLatchWake {s : State} (hpark : s.powerState = 3) (i : Fin 5) :
    Runs (.parkLatchWake i) s (fun u => u.powerState = 4 ∧ (u.fld Fld.SENSE_STATUS_LATCH 0).testBit i.val = true ∧
      (∀ a, u.byte a = s.byte a)) := by
  refine ⟨s.latchWake i.val, rfl, ?_⟩
  have hwidth : i.val < Fld.SENSE_STATUS_LATCH.width := Nat.lt_of_lt_of_le i.isLt (by decide)
  have hbit : ((s.setFld Fld.SENSE_STATUS_LATCH 0 (withBit true (s.fld Fld.SENSE_STATUS_LATCH 0) i.val)).fld Fld.SENSE_STATUS_LATCH
      0).testBit i.val = true := by
    rw [State.fld_setFld_same _ _ _ _ (by decide), Nat.testBit_mod_two_pow, testBit_withBit, decide_eq_true hwidth]
    simp
  unfold State.latchWake
  rw [if_pos hpark]
  extract_lets w s1 src
  have hpower : s1.powerState = 4 := State.powerState_setPower _ (by decide)
  have hlatch : (s1.fld Fld.SENSE_STATUS_LATCH 0).testBit i.val = true := by
    refine Eq.trans ?_ hbit
    exact congrArg (Nat.testBit · i.val) (State.fld_setFld_reg _ _ (by decide))
  split
  · exact ⟨hpower, hlatch, fun _ => rfl⟩
  · refine ⟨?_, ?_, fun _ => rfl⟩
    · exact (State.fld_setFld_apart _ (by decide) (by decide) ..).trans hpower
    · refine Eq.trans ?_ hlatch
      exact congrArg (Nat.testBit · i.val) (State.fld_setFld_reg _ _ (by decide))

theorem runs_parkWakeTimeout {s : State} (hwaking : s.powerState = 4) (hwake : s.wakeWanted = none) (i : Fin 5) :
    Runs (.parkWakeTimeout i) s (fun u => u.powerState = 3 ∧ u.mem = s.mem) := by
  refine ⟨(s.bump (senseCount i.val) 0 1).setPower 3, congrArg Host.Outcome.next ?_, State.powerState_setPower _ (by decide), ?_⟩
  · simp [State.parkWakeTimeout, hwaking, hwake]
  · simp [State.setPower]

/-! The journal (R508). -/

theorem State.retired_event (s : State) (c : Code) (k n d : Nat) : (s.event c k n d).retired = s.retired := by
  rw [State.event, State.notify_eq]

/-- A block that fails is among the retired ones, with those before it (R480). -/
theorem State.retired_retireBlocks (blocks : List Nat) {s : State} {b : Nat} (h : b ∈ s.retired ∨ b ∈ blocks) :
    b ∈ (s.retireBlocks blocks).retired := by
  induction blocks generalizing s with
  | nil => simpa [State.retireBlocks] using h
  | cons c blocks ih =>
    refine ih ?_
    rw [List.mem_cons] at h
    dsimp only
    split
    · next hc =>
      have hmem : c ∈ s.retired := by simpa using hc
      obtain hb | rfl | hb := h
      · exact .inl hb
      · exact .inl hmem
      · exact .inr hb
    · rw [State.retired_event]
      obtain hb | rfl | hb := h
      · exact .inl (List.mem_append_left _ hb)
      · exact .inl (List.mem_append_right _ (List.mem_singleton.2 rfl))
      · exact .inr hb

theorem journalWriteDone_keeps {s : State} {r : JRecord} {rest : List JRecord} (h : s.journalWrites = r :: rest) (retired : List Nat) :
    let kept := ({ s with journalWrites := rest }.retireBlocks retired).keepRecord r
    (∀ b ∈ retired, b ∈ kept.retired) ∧ kept.journal.head? = some ⟨r, crc32c (recordImage r)⟩ ∧
    ((∀ own n m a t b, r ≠ .keystone own n m a t b) → exec (.journalWriteDone retired) s = .next kept) ∧
    (∀ n m a t b, r = .keystone true n m a t b → exec (.journalWriteDone retired) s = .next (kept.ownWritten n)) ∧
    (∀ n m a t b, r = .keystone false n m a t b → exec (.journalWriteDone retired) s = .next (kept.acknowledge n m)) := by
  intro kept
  refine ⟨fun b hb => State.retired_retireBlocks retired (.inr hb), rfl, fun hplain => congrArg Host.Outcome.next ?_,
    fun n m a t b hr => congrArg Host.Outcome.next ?_, fun n m a t b hr => congrArg Host.Outcome.next ?_⟩
  · simp only [State.journalDone, h]
    split
    · exact (hplain _ _ _ _ _ _ rfl).elim
    · exact (hplain _ _ _ _ _ _ rfl).elim
    · rfl
  · subst hr
    simp only [State.journalDone, h]
    rfl
  · subst hr
    simp only [State.journalDone, h]
    rfl


/-! What the loss of a pier's transfers leaves (R519). -/

/-- `u` has the memory of `s`, its moves of extents and its writes that wait for notices. -/
abbrev State.SameStore (s u : State) : Prop := u.mem = s.mem ∧ u.moves = s.moves ∧ u.openWrites = s.openWrites

namespace State.SameStore

theorem refl (s : State) : s.SameStore s := ⟨rfl, rfl, rfl⟩

theorem trans {s u v : State} (h : s.SameStore u) (k : u.SameStore v) : s.SameStore v := by
  obtain ⟨hmem, hmoves, hwrites⟩ := h
  obtain ⟨kmem, kmoves, kwrites⟩ := k
  exact ⟨kmem.trans hmem, kmoves.trans hmoves, kwrites.trans hwrites⟩

theorem foldl {α : Type} {f : State → α → State} (h : ∀ (s : State) x, s.SameStore (f s x)) (l : List α) (s : State) :
    s.SameStore (l.foldl f s) :=
  foldl_keeps s.SameStore f (fun u x hu => hu.trans (h u x)) l s (refl s)

theorem of_sends {s u : State} (h : s.Sends u) : s.SameStore u := by
  rw [h.eq]
  exact refl _

theorem flagEvent (s : State) (f : Fld) (i : Nat) (c : Code) (k n d : Nat) : s.SameStore (s.flagEvent f i c k n d) := by
  rw [State.flagEvent_eq]
  exact refl _

theorem addWatch {s t : State} {g : Nat} {e : WatchEntry} (h : s.addWatch g e = some t) : s.SameStore t := by
  obtain ⟨k, -, rfl⟩ := Option.map_eq_some_iff.1 h
  exact ⟨rfl, rfl, rfl⟩

theorem addWatches (s : State) (l : List (Nat × WatchEntry)) : s.SameStore (s.addWatches l).1 := by
  induction l generalizing s with
  | nil => exact refl s
  | cons e l ih =>
    unfold State.addWatches
    split
    · next s1 h => exact (addWatch h).trans (ih s1)
    · exact ih s

theorem wakeWatches (s : State) : s.SameStore s.wakeWatches :=
  foldl (fun s x => iteInduction (fun _ => refl s) (fun _ => addWatches s x.wants)) s.tags s

theorem countWatch (s : State) (g : Nat) : s.SameStore (s.countWatch g) := ⟨rfl, rfl, rfl⟩

theorem dropWatches (s : State) (f : WatchEntry → Bool) : s.SameStore (s.dropWatches f) := by
  unfold State.dropWatches
  split
  · exact .trans (u := { s with watch := s.watch.filter (fun e => !f e.2) }) ⟨rfl, rfl, rfl⟩
      ((foldl countWatch (List.range 8) _).trans (wakeWatches _))
  · exact refl s

theorem tryRoute {s t : State} {m : Msg} {dl : Nat} {origin : Option Nat} (h : s.tryRoute m dl origin = some t) : s.SameStore t := by
  unfold State.tryRoute at h
  split at h
  · cases h
    exact of_sends (State.Sends.enqueue (.refl s) ..)
  · cases h
    exact ⟨rfl, rfl, rfl⟩
  · cases h

theorem dropMsg (s : State) (f count : Fld) (c : Code) (m : Msg) : s.SameStore (s.dropMsg f count c m) := by
  unfold State.dropMsg
  extract_lets s1
  have h1 : s.SameStore s1 := flagEvent (s.bump count 0 1) ..
  split
  · exact h1
  · split
    · exact h1
    · split
      · next t ht => exact h1.trans (tryRoute ht)
      · exact h1.trans (flagEvent (s1.bump Fld.PAUNE_MSG_COUNT_NO_ROUTE_DROPS 0 1) ..)

theorem post (s : State) (m : Msg) : s.SameStore (s.post m) := by
  unfold State.post
  cases h : s.tryRoute m 0 none with
  | some t => exact tryRoute h
  | none => exact dropMsg ..

theorem sendRemotes (s : State) (x : Tag) (again : Bool) : s.SameStore (s.sendRemotes x again) := by
  refine foldl (fun s e => ?_) _ s
  dsimp only
  split
  · split
    · exact refl s
    · split
      · split
        · exact refl s
        · exact post { s with remotes := _ } _
      · exact post { s with nextRemote := _, remotes := _ } _
  · exact refl s

theorem wakeTags (s : State) : s.SameStore s.wakeTags :=
  foldl (fun s x => iteInduction (fun _ => refl s) (fun _ => sendRemotes s x false)) s.tags s

end State.SameStore

/-- With no write open and no move of an extent, the loss of a pier's transfers sends nothing that memory holds (R225, R519). -/
theorem State.sameStore_dropTransfers {s : State} (hmoves : s.moves = []) (hwrites : s.openWrites = []) (p : PierIx) :
    s.SameStore (s.dropTransfers p) := by
  unfold State.dropTransfers
  extract_lets s1
  have h : s.SameStore (s1.dropWatches (fun e => e.pier = p.val)).wakeTags :=
    State.SameStore.trans (u := s1) ⟨rfl, rfl, rfl⟩ ((State.SameStore.dropWatches s1 _).trans (State.SameStore.wakeTags _))
  obtain ⟨-, kmoves, kwrites⟩ := id h
  rw [State.movesOn_closeWrites_of_none (kwrites.trans hwrites) (kmoves.trans hmoves)]
  exact h

/-- The state of a module once its bound piers have lost their transfers, and all their compute (R513, R521). -/
theorem State.sameStore_dropped {s : State} (hmoves : s.moves = []) (hwrites : s.openWrites = []) (ps : List PierIx) :
    s.SameStore (ps.foldl (fun s p => s.dropTransfers p) s) := by
  induction ps generalizing s with
  | nil => exact .refl s
  | cons p ps ih =>
    have hp := State.sameStore_dropTransfers hmoves hwrites p
    obtain ⟨-, kmoves, kwrites⟩ := id hp
    exact hp.trans (ih (kmoves.trans hmoves) (kwrites.trans hwrites))

theorem State.bound_dropTransfers (s : State) (p : PierIx) : s.SameBound (s.dropTransfers p) := by
  simp [State.dropTransfers]

/-- No window of a pier reaches the memory of the gates (R13). -/
theorem windowOf_gates {a : Nat} (h : hostBase ≤ a) : windowOf a = none := by
  have hpier : ¬ (a - 0x010000000000) / windowSize < 136 := by
    simp only [hostBase, windowSize] at h ⊢
    omega
  simp [windowOf, hpier]

theorem State.byte_clearPiers (s : State) {a : Nat} (h : hostBase ≤ a) : s.clearPiers.byte a = s.byte a :=
  NMap.look_filter memDflt s.mem (fun k => !((windowOf k).any fun _ => true)) a (by simp [windowOf_gates h])

theorem State.pier_clearPiers (s : State) (p : PierIx) : s.clearPiers.pier p = Pier.init := by
  have hpiers : s.clearPiers.piers = [] := by simp [State.clearPiers, State.clearCompute]
  rw [State.pier, hpiers]
  rfl

/-- The state of a module in doze but for its power state and the rows of its gates (R513, R521). -/
def State.dozed (s : State) : State := (s.binding.foldl (fun s p => s.dropTransfers p) s).clearPiers

theorem State.powerDoze_enters {s : State} (hphase : s.phase = .released) (hpower : s.powerState ≤ 1) (hrefuse : s.powerRefusal false = 0)
    (htests : s.tests = []) : s.powerDoze = s.enterDoze := by
  simp [State.powerDoze, hphase, hpower, hrefuse, htests]

theorem runs_powerDoze {s : State} (hphase : s.phase = .released) (hpower : s.powerState ≤ 1) (hrefuse : s.powerRefusal false = 0)
    (htests : s.tests = []) :
    Runs .powerDoze s (fun u => u.powerState = 2 ∧ u.openGates = [] ∧ u.binding = s.binding ∧ (∀ p, u.pier p = Pier.init) ∧
      (s.moves = [] → s.openWrites = [] → ∀ a, hostBase ≤ a → u.byte a = s.byte a)) := by
  refine ⟨s.enterDoze, congrArg Host.Outcome.next (State.powerDoze_enters hphase hpower hrefuse htests), ?_, rfl, ?_,
    fun p => State.pier_clearPiers _ p, fun hmoves hwrites a ha => ?_⟩
  · exact s.dozed.powerState_setPower (v := 2) (by decide)
  · obtain ⟨hbinding, -⟩ := State.bound_foldl State.bound_dropTransfers s.binding s
    exact hbinding
  · obtain ⟨hmem, -, -⟩ := State.sameStore_dropped hmoves hwrites s.binding
    exact (State.byte_clearPiers _ ha).trans (congrArg (NMap.look memDflt · a) hmem)

/-! Park: what memory keeps (R514, R521). -/

theorem State.mem_clearLink (s : State) (n : Nat) : (s.clearLink n).mem = s.mem := by
  simp [State.clearLink, State.setLink]

theorem State.mem_oweDropped (s : State) (n : Nat) : (s.oweDropped n).mem = s.mem := by
  unfold State.oweDropped
  refine State.mem_foldl _ (fun s e => ?_) _ s
  split
  · split
    · rfl
    · exact ((State.Sends.refl s).oweVc ..).mem
  · rfl

theorem State.mem_dropCuts (s : State) (n : Nat) : (s.dropCuts n).mem = s.mem := by
  unfold State.dropCuts
  extract_lets loose s1 s2
  have hfreed : ((s2.cuts.filter (fun c => c.port = n)).foldl State.freeVc s2).mem = s2.mem :=
    State.mem_foldl State.freeVc (fun s c => ((State.Sends.refl s).freeVc c).mem) _ s2
  have hloosed : s1.mem = s.mem := State.mem_foldl _ (fun s k => by simp [State.setLink]) _ s
  rw [hfreed]
  clear_value s1
  exact hloosed

theorem State.mem_dropLink (s : State) (n : Nat) : (s.dropLink n).mem = s.mem := by
  simp [State.dropLink, State.mem_dropCuts, State.mem_clearLink, State.mem_oweDropped]

theorem State.mem_parkPort (s : State) (n : Nat) : (s.parkPort n).mem = s.mem := by
  unfold State.parkPort
  extract_lets was s1
  have h1 : s1.mem = s.mem := by simp [s1, State.mem_dropLink, State.setPortState]
  split
  · obtain ⟨hmem, -, -⟩ := State.SameStore.flagEvent s1 Fld.PORT_ERR_LINK_DOWN n .linkDown 3 n n
    exact hmem.trans h1
  · exact h1

theorem State.mem_updateBond (s : State) : s.updateBond.mem = s.mem := by
  unfold State.updateBond
  rw [State.mem_foldl _ (fun s n => by simp), State.setFld_mem]

/-- The state of a module whose ports are all disabled at park entry (R514). -/
def State.portsParked (s : State) : State := ((List.range 12).foldl State.parkPort s).updateBond

theorem State.mem_portsParked (s : State) : s.portsParked.mem = s.mem :=
  (State.mem_updateBond _).trans (State.mem_foldl _ State.mem_parkPort _ s)

/-- What loses power with the fabric leaves the gates' memory alone (R521). -/
theorem State.mem_loseFabric (s : State) : s.loseFabric.mem = s.unbind.clearPiers.mem.filter (fun c => hostBase ≤ c.1) := by
  unfold State.loseFabric
  generalize s.unbind = u
  have hdropped : (u.clearPiers.dropRegs fabricRegs).mem = u.clearPiers.mem := rfl
  generalize u.clearPiers.dropRegs fabricRegs = v at hdropped ⊢
  rw [State.mem_retoken, State.mem_countBreaks, State.mem_countHard, ← hdropped]

theorem State.byte_loseFabric_kept (s : State) {a : Nat} (h : hostBase ≤ a) : s.loseFabric.byte a = s.byte a := by
  have hfilter := NMap.look_filter memDflt s.unbind.clearPiers.mem (fun k => decide (hostBase ≤ k)) a (decide_eq_true h)
  rw [State.byte, State.mem_loseFabric, hfilter]
  exact (State.byte_clearPiers s.unbind h).trans (congrArg (NMap.look memDflt · a) (State.mem_unbind s))

theorem NMap.look_filter_not {α : Type} (d : Nat → α) (m : NMap α) (f : Nat → Bool) (k : Nat) (h : f k = false) :
    NMap.look d (m.filter (fun e => f e.1)) k = d k := by
  refine NMap.look_append_not d [] _ k (fun e he hk => ?_)
  have hkept := (List.mem_filter.1 he).2
  rw [hk, h] at hkept
  cases hkept

theorem State.byte_loseFabric_lost (s : State) {a : Nat} (h : a < hostBase) : s.loseFabric.byte a = 0 := by
  rw [State.byte, State.mem_loseFabric]
  exact NMap.look_filter_not memDflt _ (fun k => decide (hostBase ≤ k)) a (decide_eq_false (Nat.not_le.2 h))

theorem State.binding_unbind (s : State) : s.unbind.binding = [] := by
  simp [State.unbind]

theorem State.binding_countHard (s : State) : s.countHard.binding = s.binding := by
  simp [State.countHard]

theorem State.binding_countBreaks (s : State) : s.countBreaks.binding = s.binding := by
  simp

theorem State.binding_retoken (s : State) : s.retoken.binding = s.binding := by
  simp [State.retoken]

theorem State.binding_dropFabric (s : State) (rs : List RegName) : (s.clearPiers.dropRegs rs).binding = s.binding := rfl

theorem State.binding_loseFabric (s : State) : s.loseFabric.binding = [] := by
  obtain ⟨v, hv⟩ : ∃ v, v = s.unbind.clearPiers.dropRegs fabricRegs := ⟨_, rfl⟩
  have hdropped : v.binding = [] := by rw [hv, State.binding_dropFabric, State.binding_unbind]
  unfold State.loseFabric
  rw [← hv, State.binding_retoken, State.binding_countBreaks, State.binding_countHard]
  exact hdropped

/-- The state `u` with the power state of park, in which the link to the host sleeps or not. -/
def State.asPark (u : State) (asleep : Bool) : State := { u.setPower 3 with openGates := [], jwAsleep := asleep }

theorem State.enterPark_eq (s : State) : s.enterPark = s.portsParked.loseFabric.asPark (s.fld Fld.JW_STATUS_STATE 0 = 5) := rfl

theorem State.powerState_asPark (u : State) (asleep : Bool) : (u.asPark asleep).powerState = 3 :=
  u.powerState_setPower (v := 3) (by decide)

theorem State.binding_asPark (u : State) (asleep : Bool) : (u.asPark asleep).binding = u.binding := rfl

theorem State.byte_asPark (u : State) (asleep : Bool) (a : Nat) : (u.asPark asleep).byte a = u.byte a := rfl

theorem State.powerPark_enters {s : State} (hphase : s.phase = .released) (hpower : s.powerState ≤ 2) (hrefuse : s.powerRefusal true = 0)
    (htests : s.tests = []) : s.powerPark = s.enterPark := by
  simp [State.powerPark, hphase, hpower, hrefuse, htests]

theorem runs_powerPark {s : State} (hphase : s.phase = .released) (hpower : s.powerState ≤ 2) (hrefuse : s.powerRefusal true = 0)
    (htests : s.tests = []) :
    Runs .powerPark s (fun u => u.powerState = 3 ∧ u.openGates = [] ∧ u.binding = [] ∧
      (∀ a, hostBase ≤ a → u.byte a = s.byte a) ∧ (∀ a, a < hostBase → u.byte a = 0)) := by
  refine ⟨s.enterPark, congrArg Host.Outcome.next (State.powerPark_enters hphase hpower hrefuse htests), ?_⟩
  have hkept {a : Nat} (ha : hostBase ≤ a) : s.portsParked.loseFabric.byte a = s.byte a :=
    (s.portsParked.byte_loseFabric_kept ha).trans (congrArg (NMap.look memDflt · a) s.mem_portsParked)
  have hlost {a : Nat} (ha : a < hostBase) := s.portsParked.byte_loseFabric_lost ha
  have hbinding := s.portsParked.binding_loseFabric
  rw [State.enterPark_eq]
  generalize s.portsParked.loseFabric = u at hkept hlost hbinding
  exact ⟨u.powerState_asPark _, rfl, (u.binding_asPark _).trans hbinding, fun a ha => (u.byte_asPark _ a).trans (hkept ha),
    fun a ha => (u.byte_asPark _ a).trans (hlost ha)⟩

/-! The family. -/

/-- Settles O22: each command by its own branch. Doze keeps the binding since a pier's transfers do not bind it, and the gates' memory where
no write waits for a notice; park keeps that memory and nothing below it. -/
theorem powerCommandsRun : Obligations.PowerCommandsRun :=
  ⟨fun _ hphase hrun hlaunched hops htests hbist => idles hphase hrun hlaunched hops htests hbist,
    fun _ hphase hpower hrefuse htests => runs_powerDoze hphase hpower hrefuse htests,
    fun _ hphase hpower hrefuse htests => runs_powerPark hphase hpower hrefuse htests,
    fun _ hdoze hfree => runs_powerWake hdoze hfree,
    fun s g => runs_gateSrTimeout s g,
    fun _ i hpark => runs_parkLatchWake hpark i,
    fun _ i hwaking hwake => runs_parkWakeTimeout hwaking hwake i,
    fun _ hbraced => runs_holdupMeasure_braced hbraced,
    fun _ hfree => runs_holdupMeasure_free hfree,
    fun _ bank v1 v2 h => runs_holdupMeasureDone h bank v1 v2,
    fun _ hvalid hfree => runs_holdupAgeExpiry hvalid hfree,
    fun _ _ _ retired h => journalWriteDone_keeps h retired⟩

end Sys2Proof.Machine
end
